-- ==== Sys2Proof/Word.lean ====
section
/-! DEFINITION. The word types of the model. Numbering and byte order follow R7: bit 0 is the least
significant bit of a field and every multi-byte structure is little-endian. -/

namespace Sys2Proof

/-- A byte is 8 bits (00 Numbers and units). -/
abbrev Byte := BitVec 8

/-- A sequencer register or data word (R153). -/
abbrev Word64 := BitVec 64

/-- An instruction word of program memory (R156). -/
abbrev Word32 := BitVec 32

/-- The 310-bit value field of a long accumulator (Table 6.3). -/
abbrev AccValue := BitVec 310

end Sys2Proof
end

