-- ==== Sys2Proof/Syntax.lean ====
section
/-! DEFINITION. The commands of the block: one constructor of `Instr` for each row of
spec/opcode_table.json, with the operands the row's rule gives it. An operand is plain data; what a
command does is Machine/. -/

namespace Sys2Proof

/-- The three instantiations of Table 0.2 (R3). -/
inductive Part where
  | skx2 | skx4 | skx8
  deriving DecidableEq, Repr

/-- Requester classes (Table 12.3), with BLOCK for the block's own doing, in the order of the log's
path field (Table 15.6). -/
inductive Path where
  | block | shelf | host | fm | neighbour | endpoint
  deriving DecidableEq, Repr

/-- Who makes a Catalogue access (R261, R267). `ident` is the IPv6 address (SHELF) or the source
endpoint (in-band); `port` is the UDP port (SHELF) or the port of arrival (in-band). -/
structure Requester where
  cls   : Path
  ident : Nat
  port  : Nat
  deriving DecidableEq, Repr

/-- A packet as it crosses a hop: the header fields of Table 3.2, the opcode-specific bits [213:128]
as one number of 86 bits (Table 3.3), and the data slots (each 128 bits). `abort` is the link layer's
abort marking (R65, R209) and `postHold` says the packet's first header slot came in a flit with held
set (R225). -/
structure Packet where
  partition : Nat
  partitionEdition : Nat
  tracker   : Nat
  turn      : Nat
  issuer    : Nat
  opspec    : Nat
  crc       : Nat
  dst       : Nat
  dstEdition : Nat
  src       : Nat
  srcEdition : Nat
  opcode    : Nat
  slotCount : Nat
  lastByte  : Nat
  vc        : Nat
  colour    : Nat
  poison    : Bool
  /-- Header bits [9:0], reserved: ignored on receipt and covered by the CRC-32C (R8, R61). -/
  reserved  : Nat
  data      : List Nat
  abort     : Bool
  postHold  : Bool
  /-- A header slot of it found no room in the receive buffer (R220). -/
  short     : Bool := false
  deriving DecidableEq, Repr

/-- An engine-side request (Table 16.3) with the bytes of its data beats. -/
structure EspReq where
  port      : Nat
  catalogue : Bool
  issuer    : Nat
  context   : Nat
  lengthM1  : Nat
  sub       : Nat
  size8     : Bool
  etag      : Nat
  address   : Nat
  data      : List Byte
  deriving DecidableEq, Repr

/-- The argument of loan_hop_open (R189, step 2). -/
structure LoanHopArg where
  loan        : Nat
  source      : Nat
  destination : Nat
  mode        : Nat
  rate        : Nat
  burst       : Nat
  hopWait     : Nat
  firstPage   : Nat
  pagesM1     : Nat
  deriving DecidableEq, Repr

/-- A watchdog of Table 14.4 whose limit has passed at a check (R311). -/
inductive WatchdogFinding where
  /-- A memory-side port, 0 to 11. -/
  | msp (m : Nat)
  /-- An engine-side port, 0 to 7. -/
  | esp (port : Nat)
  /-- An output queue of a port whose head has not begun transmission. -/
  | egress (p q : Nat)
  deriving DecidableEq, Repr

/-- The place of a memory word (R308, R309), by the units of Table 14.3. -/
inductive MemSite where
  /-- A central table (index of Table 14.3), a row of it, and whether both copies are bad. -/
  | table (t row : Nat) (both : Bool)
  /-- Rows 4,096 to 4,127 are the spare rows of the bank. -/
  | carrel (bank row : Nat)
  /-- Indices 32,768 to 33,279 are the spare trackers. -/
  | tracker (i : Nat)
  | slice (phys : Nat)
  | port (p : Nat)
  deriving DecidableEq, Repr

/-- A receive lane at the moment of an event; `filler` says that the moment lies within an alignment-and-filler codeword
(R245). -/
structure LaneMoment where
  lane   : Nat
  filler : Bool
  deriving DecidableEq, Repr

/-- A codeword of a receive lane; `place` counts the codewords since the lane's latest alignment-and-filler codeword
(R240). -/
structure LaneCodeword where
  lane  : Nat
  place : Nat
  deriving DecidableEq, Repr

/-- An Ethernet frame that carries IPv6, as the PHY gives it to the MAC (Table 12.9, Table 12.10): the fields around the
payload. `src` and `dst` are the IPv6 addresses, where the command has no operand of its own for them; `ipWord` holds the
IPv6 version, traffic class and flow label; `checksum` is that of UDP or ICMPv6; `padding` stands between the payload and
`fcs`; `rxEr` says that RX_ER was asserted in it (R273). -/
structure MacFrame where
  destMac   : Nat
  srcMac    : Nat
  etherType : Nat
  ipWord    : Nat
  payloadLength : Nat
  nextHeader : Nat
  hopLimit  : Nat
  src       : Nat
  dst       : Nat
  checksum  : Nat
  padding   : List Byte
  fcs       : Nat
  rxEr      : Bool
  deriving DecidableEq, Repr

/-- A UDP datagram in its frame. `sport` is the source port, where the command has no operand for it, and `port` the
destination port; `length` is the UDP header's length field. -/
structure Datagram where
  frame  : MacFrame
  sport  : Nat
  port   : Nat
  length : Nat
  bytes  : List Byte
  deriving DecidableEq, Repr

/-- A neighbour message in its frame: the 32 bits after the checksum, the target and the options. -/
structure FramedTarget where
  frame   : MacFrame
  flags   : Nat
  addr    : Nat
  options : List Byte
  deriving DecidableEq, Repr

/-- An echo request in its frame: the bytes after the checksum. -/
structure FramedEcho where
  frame : MacFrame
  bytes : List Byte
  deriving DecidableEq, Repr

/-- The commands of the block, one per row of spec/opcode_table.json. -/
inductive Instr where
  /-- POR_RELEASE (R361). -/
  | porRelease
  /-- POR_ASSERT (R349). -/
  | porAssert
  /-- BLOCK_RST_ASSERT (R349). -/
  | blockRstAssert
  /-- BLOCK_RST_RELEASE (R317). -/
  | blockRstRelease
  /-- PART_RST_FALL (R349). -/
  | partRstFall (n : Nat)
  /-- PART_RST_RISE (R349). -/
  | partRstRise (n : Nat)
  /-- DROOP_FALL (R350). -/
  | droopFall
  /-- DROOP_RISE (R350). -/
  | droopRise
  /-- PD_ACK (R355). -/
  | pdAck (d : Nat) (level : Bool)
  /-- PD_ACK_LIMIT_EXPIRY (R355). -/
  | pdAckLimitExpiry (d : Nat)
  /-- POWER_TARGET_WRITE (R354). -/
  | powerTargetWrite (rq : Requester) (v : Nat)
  /-- THERMAL_SAMPLE (R357). -/
  | thermalSample (p : Nat) (t : Nat)
  /-- THERMAL_ALARM_CLEAR (R352). -/
  | thermalAlarmClear (rq : Requester) (mask : Nat)
  /-- THERMAL_MAX_CLEAR (R364). -/
  | thermalMaxClear (rq : Requester)
  /-- POWER_FAULT_CLEAR (R352). -/
  | powerFaultClear (rq : Requester)
  /-- FAULT_ATTENTION_CLEAR (R352). -/
  | faultAttentionClear (rq : Requester) (mask : Nat)
  /-- FIRMWARE_LOAD (R359). -/
  | firmwareLoad (rq : Requester) (image : Option (List Byte))
  /-- FIRMWARE_START (R359). -/
  | firmwareStart
  /-- TENANT_CHANGE (R362). -/
  | tenantChange (rq : Requester) (t : Nat)
  /-- TENANT_CLEAR_DONE (R362). -/
  | tenantClearDone
  /-- MSP_REQUEST_ACCEPT (R344). -/
  | mspRequestAccept (m : Nat)
  /-- MSP_COMPLETION (R343). -/
  | mspCompletion (m : Nat) (tag : Nat) (status : Nat) (data : List Byte)
  /-- ATOMIC_LOCK_GRANT (R68). -/
  | atomicLockGrant (m : Nat)
  /-- MSP_ABANDON (R346). -/
  | mspAbandon (m : Nat)
  /-- LOAD (R347). -/
  | load (r : EspReq)
  /-- STORE (R347). -/
  | store (r : EspReq)
  /-- STORE_ACK (R347). -/
  | storeAck (r : EspReq)
  /-- ESP_ATOMIC (R347). -/
  | espAtomic (r : EspReq)
  /-- ESP_ATOMIC_FETCH (R347). -/
  | espAtomicFetch (r : EspReq)
  /-- ESP_LEDGER_ADD (R347). -/
  | espLedgerAdd (r : EspReq)
  /-- ESP_LEDGER_READ (R347). -/
  | espLedgerRead (r : EspReq)
  /-- ESP_LEDGER_READ_CLEAR (R347). -/
  | espLedgerReadClear (r : EspReq)
  /-- FENCE_CORE (R79). -/
  | fenceCore (r : EspReq)
  /-- FENCE_CHIP (R79). -/
  | fenceChip (r : EspReq)
  /-- FENCE_SYSTEM (R80). -/
  | fenceSystem (r : EspReq)
  /-- FENCE_COMPLETE (R80). -/
  | fenceComplete (issuer : Nat)
  /-- FENCE_TIMEOUT (R80). -/
  | fenceTimeout (issuer : Nat)
  /-- READ (R63). -/
  | read (port : Nat) (k : Packet)
  /-- WRITE (R59). -/
  | write (port : Nat) (k : Packet)
  /-- WRITE_ACK (R57). -/
  | writeAck (port : Nat) (k : Packet)
  /-- ATOMIC (R68). -/
  | atomic (port : Nat) (k : Packet)
  /-- ATOMIC_FETCH (R67). -/
  | atomicFetch (port : Nat) (k : Packet)
  /-- LEDGER_ADD (R143). -/
  | ledgerAdd (port : Nat) (k : Packet)
  /-- LEDGER_READ (R144). -/
  | ledgerRead (port : Nat) (k : Packet)
  /-- LEDGER_READ_CLEAR (R144). -/
  | ledgerReadClear (port : Nat) (k : Packet)
  /-- PROBE (R38). -/
  | probe (port : Nat) (k : Packet)
  /-- HOLD_RELEASE (R39). -/
  | holdRelease (port : Nat) (k : Packet)
  /-- NOTICE_POST (R113). -/
  | noticePost (port : Nat) (k : Packet)
  /-- COMMIT_POLL (R60). -/
  | commitPoll (port : Nat) (k : Packet)
  /-- CONTRIB (R152). -/
  | contrib (port : Nat) (k : Packet)
  /-- CONTRIB_LONG (R139). -/
  | contribLong (port : Nat) (k : Packet)
  /-- LOAN_DATA (R183). -/
  | loanData (port : Nat) (k : Packet)
  /-- READ_RSP (R55). -/
  | readRsp (port : Nat) (k : Packet)
  /-- STATUS_RSP (R55). -/
  | statusRsp (port : Nat) (k : Packet)
  /-- ATOMIC_RSP (R55). -/
  | atomicRsp (port : Nat) (k : Packet)
  /-- LEDGER_RSP (R55). -/
  | ledgerRsp (port : Nat) (k : Packet)
  /-- PROBE_RSP (R38). -/
  | probeRsp (port : Nat) (k : Packet)
  /-- COMMIT_ACK (R58). -/
  | commitAck (port : Nat) (k : Packet)
  /-- MGMT_REQ (R275). -/
  | mgmtReq (port : Nat) (k : Packet)
  /-- MGMT_RSP (R275). -/
  | mgmtRsp (port : Nat) (k : Packet)
  /-- RETIRED_NOTICE (R48). -/
  | retiredNotice (port : Nat) (k : Packet)
  /-- FAULT_REPORT (R321). -/
  | faultReport (port : Nat) (k : Packet)
  /-- FAULT_ACK (R322). -/
  | faultAck (port : Nat) (k : Packet)
  /-- MIRROR_ACK (R330). -/
  | mirrorAck (port : Nat) (k : Packet)
  /-- VALUE (R330). -/
  | mirrorValue (port : Nat) (k : Packet)
  /-- ROWS (R330). -/
  | mirrorRows (port : Nat) (k : Packet)
  /-- LOG_RECORDS (R333). -/
  | mirrorLogRecords (port : Nat) (k : Packet)
  /-- SNAPSHOT_BEGIN (R331). -/
  | snapshotBegin (port : Nat) (k : Packet)
  /-- SNAPSHOT_END (R331). -/
  | snapshotEnd (port : Nat) (k : Packet)
  /-- RESTORE_REQUEST (R336). -/
  | restoreRequest (port : Nat) (k : Packet)
  /-- RESTORE_BEGIN (R336). -/
  | restoreBegin (port : Nat) (k : Packet)
  /-- TIME_SYNC_REQ (R283; `stamp` is the arrival stamp t2). -/
  | timeSyncReq (port : Nat) (k : Packet) (stamp : Nat)
  /-- TIME_SYNC_RSP (R285; `stamp` is the arrival stamp t4). -/
  | timeSyncRsp (port : Nat) (k : Packet) (stamp : Nat)
  /-- PASS_THROUGH (R176). -/
  | passThrough (port : Nat) (k : Packet)
  /-- TRACKER_TIMEOUT (R56). -/
  | trackerTimeout (i : Nat)
  /-- TRACKER_QUARANTINE_EXPIRY (R56). -/
  | trackerQuarantineExpiry (i : Nat)
  /-- COMMIT_ACK_DELAY_EXPIRY (R59). -/
  | commitAckDelayExpiry (src : Nat) (issuer : Nat)
  /-- COMMIT_POLL_INTERVAL_EXPIRY (R60). -/
  | commitPollIntervalExpiry (dst : Nat) (issuer : Nat)
  /-- PENDING_ACK_ENTRY_FREE (R88). -/
  | pendingAckEntryFree (port : Nat) (vc : Nat)
  /-- PAIR_ENTRY_FREE (R83). -/
  | pairEntryFree (issuer : Nat)
  /-- PROBE_RETRY (R38). -/
  | probeRetry (tray : Nat) (k : Nat)
  /-- PROBE_RETRY_LIMIT_EXPIRY (R38). -/
  | probeRetryLimitExpiry (tray : Nat) (k : Nat)
  /-- HOLD_TIMEOUT (R39). -/
  | holdTimeout (hold : Nat)
  /-- WINDOW_OPEN (R32). -/
  | windowOpen (rq : Requester) (w : Nat)
  /-- WINDOW_MODIFY (R33). -/
  | windowModify (rq : Requester) (w : Nat)
  /-- WINDOW_CLOSE (R34). -/
  | windowClose (rq : Requester) (w : Nat)
  /-- WINDOW_DRAIN_END (R34). -/
  | windowDrainEnd (w : Nat)
  /-- WINDOW_DRAIN_LIMIT_EXPIRY (R34). -/
  | windowDrainLimitExpiry (w : Nat)
  /-- PARTITION_EDITION_RAISE (R45). -/
  | partitionEditionRaise (rq : Requester) (n : Nat)
  /-- EDITION_EXCEPTION_SET (R43). -/
  | editionExceptionSet (rq : Requester) (ep : Nat) (ed : Nat)
  /-- EDITION_EXCEPTION_CLEAR (R43). -/
  | editionExceptionClear (rq : Requester) (ep : Nat)
  /-- FENCE_LOST_MARK (R86). -/
  | fenceLostMark (rq : Requester) (dst : Nat)
  /-- TRAY_ENABLE (R95). -/
  | trayEnable (rq : Requester) (t : Nat)
  /-- TRAY_DISABLE (R95). -/
  | trayDisable (rq : Requester) (t : Nat)
  /-- TRAY_DRAIN_END (R95). -/
  | trayDrainEnd (t : Nat)
  /-- TRAY_DRAIN_LIMIT_EXPIRY (R95). -/
  | trayDrainLimitExpiry (t : Nat)
  /-- TRAY_SLOT_POLL (R96). -/
  | traySlotPoll (t : Nat)
  /-- SLOT_READ_COMPLETE (R96). -/
  | slotReadComplete (t : Nat)
  /-- SLIP_ADMISSION_DONE (R106). -/
  | slipAdmissionDone (t : Nat) (k : Nat)
  /-- SLIP_ISSUE (R105). -/
  | slipIssue (t : Nat) (k : Nat)
  /-- SLIP_COMPLETE (R107). -/
  | slipComplete (t : Nat) (k : Nat)
  /-- NOTICE_WRITE (R111). -/
  | noticeWrite (ring : Nat)
  /-- CONSUMED_COUNT_POLL (R112). -/
  | consumedCountPoll (ring : Nat)
  /-- RING_ENABLE (R109). -/
  | ringEnable (rq : Requester) (ring : Nat)
  /-- RING_DISABLE (R109). -/
  | ringDisable (rq : Requester) (ring : Nat)
  /-- RING_ATTENTION_CLEAR (R114). -/
  | ringAttentionClear (rq : Requester) (ring : Nat)
  /-- LEDGER_CLEAR (R148). -/
  | ledgerClear (rq : Requester) (first : Nat) (count : Nat)
  /-- TILE_BURST_DONE (R135; the stage identifier and the tile number). -/
  | tileBurstDone (collective : Nat) (tile : Nat)
  /-- TILE_SPILL (R137; the tile to spill or to reload). -/
  | tileSpill (collective : Nat) (tile : Nat)
  /-- SPILL_WAIT_EXPIRY (R137). -/
  | spillWaitExpiry (slice : Nat)
  /-- COLLECTIVE_OPEN (R150). -/
  | collectiveOpen (rq : Requester) (e : Nat)
  /-- COLLECTIVE_START (R150). -/
  | collectiveStart (rq : Requester) (e : Nat)
  /-- PROGRAM_LOAD (R154; the bytes the host memory returned, or none for a translation fault). -/
  | programLoad (rq : Requester) (image : Option (List Byte))
  /-- COLLECTIVE_ABORT (R164). -/
  | collectiveAbort (rq : Requester) (gate : Nat) (status : Nat)
  /-- SLICE_SELF_TEST (R167). -/
  | sliceSelfTest (rq : Requester)
  /-- SLICE_SELF_TEST_END (R167). -/
  | sliceSelfTestEnd (pass : Bool)
  /-- SLICE_HARD_FAILURE (R166). -/
  | sliceHardFailure (phys : Nat)
  /-- SLICE_SUBSTITUTION_DONE (R166). -/
  | sliceSubstitutionDone
  /-- FAULT (R157). -/
  | seqFault (e : Nat)
  /-- ADD (R157). -/
  | seqAdd (e : Nat)
  /-- SUB (R157). -/
  | seqSub (e : Nat)
  /-- AND (R157). -/
  | seqAnd (e : Nat)
  /-- OR (R157). -/
  | seqOr (e : Nat)
  /-- XOR (R157). -/
  | seqXor (e : Nat)
  /-- SHL (R157). -/
  | seqShl (e : Nat)
  /-- SHR (R157). -/
  | seqShr (e : Nat)
  /-- MUL (R157). -/
  | seqMul (e : Nat)
  /-- DIVU (R157). -/
  | seqDivu (e : Nat)
  /-- MINU (R157). -/
  | seqMinu (e : Nat)
  /-- MAXU (R157). -/
  | seqMaxu (e : Nat)
  /-- ADDI (R157). -/
  | seqAddi (e : Nat)
  /-- LI (R157). -/
  | seqLi (e : Nat)
  /-- SLI (R157). -/
  | seqSli (e : Nat)
  /-- BEQ (R157). -/
  | seqBeq (e : Nat)
  /-- BNE (R157). -/
  | seqBne (e : Nat)
  /-- BLTU (R157). -/
  | seqBltu (e : Nat)
  /-- BGEU (R157). -/
  | seqBgeu (e : Nat)
  /-- J (R157). -/
  | seqJ (e : Nat)
  /-- LDD (R157). -/
  | seqLdd (e : Nat)
  /-- STD (R157). -/
  | seqStd (e : Nat)
  /-- LDH (R155). -/
  | seqLdh (e : Nat)
  /-- BLD (R155). -/
  | seqBld (e : Nat)
  /-- RLD (R157). -/
  | seqRld (e : Nat)
  /-- SEQUENCER_HOST_READ_DONE (R155). -/
  | sequencerHostReadDone (e : Nat)
  /-- TIME (R157). -/
  | seqTime (e : Nat)
  /-- SEND (R158). -/
  | seqSend (e : Nat)
  /-- WAITS (R159). -/
  | seqWaits (e : Nat)
  /-- WAITC (R159). -/
  | seqWaitc (e : Nat)
  /-- TOKALL (R160). -/
  | seqTokall (e : Nat)
  /-- TOKEN (R160). -/
  | seqToken (e : Nat)
  /-- WAITG (R159). -/
  | seqWaitg (e : Nat)
  /-- RDC (R157). -/
  | seqRdc (e : Nat)
  /-- RDG (R157). -/
  | seqRdg (e : Nat)
  /-- DONE (R161). -/
  | seqDone (e : Nat)
  /-- ABORT (R157). -/
  | seqAbort (e : Nat)
  /-- WAIT_CONDITION_MET (R159). -/
  | waitConditionMet (e : Nat)
  /-- WAIT_LIMIT_EXPIRY (R162). -/
  | waitLimitExpiry (e : Nat)
  /-- GUARD_WAIT_EXPIRY (R163). -/
  | guardWaitExpiry (e : Nat)
  /-- ABORT_FANOUT_INVOCATION (R163; the rank whose turn it is). -/
  | abortFanoutInvocation (rank : Nat)
  /-- COLLECTIVE_NOTICE (R161). -/
  | collectiveNotice (e : Nat)
  /-- ROUTE_ROW_WRITE (R170). -/
  | routeRowWrite (rq : Requester) (cn : Nat) (row : Nat) (v : Nat)
  /-- LOAN_SET (R180). -/
  | loanSet (rq : Requester)
  /-- LOAN_CLOSE (R181). -/
  | loanClose (rq : Requester) (n : Nat)
  /-- LOAN_CLOSE_DRAIN_END (R181). -/
  | loanCloseDrainEnd (n : Nat)
  /-- LOAN_DRAIN_LIMIT_EXPIRY (R181). -/
  | loanDrainLimitExpiry (n : Nat)
  /-- LOAN_OPEN (R189). -/
  | loanOpen (rq : Requester)
  /-- LOAN_HOP_OPEN (R189). -/
  | loanHopOpen (rq : Requester) (a : LoanHopArg)
  /-- LOAN_HOP_CLOSE (R190). -/
  | loanHopClose (rq : Requester) (n : Nat)
  /-- LOAN_HOP_WAIT_EXPIRY (R186; egress port, queue and loan number of the waiting packet). -/
  | loanHopWaitExpiry (p : Nat) (q : Nat) (n : Nat)
  /-- LOAN_EXPIRY (R187). -/
  | loanExpiry (dst : Nat) (issuer : Nat)
  /-- SCHEDULER_CHOOSE (R195). -/
  | schedulerChoose (p : Nat)
  /-- SHAPER_REFILL (R197). -/
  | shaperRefill
  /-- POLICER_REFILL (R201). -/
  | policerRefill
  /-- QUEUE_CONFIG_WRITE (R198). -/
  | queueConfigWrite (rq : Requester) (p : Nat) (q : Nat) (v : Nat)
  /-- POLICER_WRITE (R201). -/
  | policerWrite (rq : Requester) (n : Nat) (v : Nat)
  /-- DEPTH_SAMPLE (R203). -/
  | depthSample (p : Nat)
  /-- SAMPLE_CLEAR (R205). -/
  | sampleClear (rq : Requester) (p : Nat)
  /-- FLIT_TRANSMIT (R212). -/
  | flitTransmit (p : Nat)
  /-- FLIT_RECEIVE (R213; the 2,048 bits of the place, and whether it overlaps an uncorrectable codeword). -/
  | flitReceive (p : Nat) (lane : Nat) (bits : Nat) (badCodeword : Bool)
  /-- REPLAY_TIMEOUT (R214). -/
  | replayTimeout (p : Nat)
  /-- NULL (R221; `on` is the lane the flit came by, `rec` the 128-bit record of Table 10.4). -/
  | laneNull (p : Nat) (on : Nat) (rec : Nat)
  /-- LANE_ADD (R223). -/
  | laneAdd (p : Nat) (on : Nat) (rec : Nat)
  /-- LANE_REMOVE (R223). -/
  | laneRemove (p : Nat) (on : Nat) (rec : Nat)
  /-- LANE_REQUEST_ADD (R247). -/
  | laneRequestAdd (p : Nat) (on : Nat) (rec : Nat)
  /-- LANE_REQUEST_REMOVE (R222). -/
  | laneRequestRemove (p : Nat) (on : Nat) (rec : Nat)
  /-- LANE_REFUSE (R246). -/
  | laneRefuse (p : Nat) (on : Nat) (rec : Nat)
  /-- LANE_HUSH (R249). -/
  | laneHush (p : Nat) (on : Nat) (rec : Nat)
  /-- LANE_SHELVE (R249). -/
  | laneShelve (p : Nat) (on : Nat) (rec : Nat)
  /-- LANE_TEST_ENTER (R249). -/
  | laneTestEnter (p : Nat) (on : Nat) (rec : Nat)
  /-- LANE_TEST_EXIT (R249). -/
  | laneTestExit (p : Nat) (on : Nat) (rec : Nat)
  /-- LANE_CHANGE_ADD (R222). -/
  | laneChangeAdd (rq : Requester) (p : Nat) (lane : Nat)
  /-- LANE_CHANGE_REMOVE (R222). -/
  | laneChangeRemove (rq : Requester) (p : Nat) (lane : Nat)
  /-- LOS_ASSERT (R245). -/
  | losAssert (p : Nat) (moment : LaneMoment)
  /-- LOL_ASSERT (R245). -/
  | lolAssert (p : Nat) (lane : Nat)
  /-- UNCORRECTABLE_CODEWORD (R246). -/
  | uncorrectableCodeword (p : Nat) (cw : LaneCodeword)
  /-- GRACE_PERIOD_EXPIRY (R226). -/
  | gracePeriodExpiry (p : Nat)
  /-- RETRAIN_START (R244). -/
  | retrainStart (p : Nat)
  /-- PORT_RETRAIN (R228). -/
  | portRetrain (rq : Requester) (p : Nat)
  /-- TRAINING_BLOCK (R236; the 128 symbols' bits as received). -/
  | trainingBlock (p : Nat) (lane : Nat) (bits : Nat)
  /-- ALIGNMENT_AND_FILLER_CODEWORD (R234; its place, and the 5,140 message bits). -/
  | alignmentAndFillerCodeword (p : Nat) (cw : LaneCodeword) (msg : Nat)
  /-- TRAINING_COMPLETE (R243). -/
  | trainingComplete (p : Nat)
  /-- TRAINING_LIMIT_EXPIRY (R237). -/
  | trainingLimitExpiry (p : Nat)
  /-- TRAINING_STAGE_TIMEOUT (R240). -/
  | trainingStageTimeout (p : Nat) (lane : Nat)
  /-- FAST_RETRAIN_LIMIT_EXPIRY (R244). -/
  | fastRetrainLimitExpiry (p : Nat)
  /-- LANE_RETRY_INTERVAL_EXPIRY (R237). -/
  | laneRetryIntervalExpiry (p : Nat) (lane : Nat)
  /-- LANE_WAKE_COMPLETE (R250). -/
  | laneWakeComplete (p : Nat) (lane : Nat)
  /-- RX_WIDTH_TARGET_WRITE (R248). -/
  | rxWidthTargetWrite (rq : Requester) (p : Nat) (v : Nat)
  /-- LANE_TEST_STOP (R254). -/
  | laneTestStop (rq : Requester) (p : Nat) (lane : Nat) (duration : Nat)
  /-- LANE_TEST_GENERATE (R254). -/
  | laneTestGenerate (rq : Requester) (p : Nat) (lane : Nat) (duration : Nat)
  /-- LANE_TEST_CHECK (R254). -/
  | laneTestCheck (rq : Requester) (p : Nat) (lane : Nat) (duration : Nat)
  /-- LANE_TEST_NEAR_SERIAL (R254). -/
  | laneTestNearSerial (rq : Requester) (p : Nat) (lane : Nat) (duration : Nat)
  /-- LANE_TEST_NEAR_PARALLEL (R254). -/
  | laneTestNearParallel (rq : Requester) (p : Nat) (lane : Nat) (duration : Nat)
  /-- LANE_TEST_FAR (R254). -/
  | laneTestFar (rq : Requester) (p : Nat) (lane : Nat) (duration : Nat)
  /-- LANE_TEST_DURATION_EXPIRY (R254). -/
  | laneTestDurationExpiry (p : Nat) (lane : Nat)
  /-- ERROR_INJECT_WRITE (R253). -/
  | errorInjectWrite (rq : Requester) (p : Nat) (lane : Nat) (v : Nat)
  /-- ERROR_INJECTION (R253). -/
  | errorInjection (p : Nat) (lane : Nat)
  /-- SYNC_INTERVAL_EXPIRY (R284; the transmit stamp t1). -/
  | syncIntervalExpiry (stamp : Nat)
  /-- SYNC_TIMEOUT (R284). -/
  | syncTimeout
  /-- HOLDOVER_ENTRY (R284). -/
  | holdoverEntry
  /-- TIME_SET (R282). -/
  | timeSet (rq : Requester) (v : Nat)
  /-- MARK_MODE_WRITE (R288). -/
  | markModeWrite (rq : Requester) (v : Nat)
  /-- MARK_PERIOD_BOUNDARY (R289). -/
  | markPeriodBoundary
  /-- MARK_IN_EDGE (R289). -/
  | markInEdge
  /-- MARK_IN_STOP (R290). -/
  | markInStop
  /-- ODC_CLEAR (R292). -/
  | odcClear (rq : Requester) (mask : Nat)
  /-- SNAPSHOT_TAKE (R293). -/
  | snapshotTake (rq : Requester) (mask : Nat) (t : Nat)
  /-- SNAPSHOT_TIME_REACHED (R293). -/
  | snapshotTimeReached
  /-- TRACE_LINE_FLUSH (R296). -/
  | traceLineFlush
  /-- TRACE_DRAIN (R297). -/
  | traceDrain
  /-- GLOBAL_STOP (R301). -/
  | globalStop (rq : Requester)
  /-- SCAN_READ (R304). -/
  | scanRead (rq : Requester) (chain : Nat) (first : Nat)
  /-- EXTEST (R305). -/
  | extest (boundary : Nat)
  /-- IDCODE (R305). -/
  | idcode
  /-- SAMPLE_PRELOAD (R305). -/
  | samplePreload (shiftIn : Nat)
  /-- SCAN_SELECT (R305). -/
  | scanSelect (chain : Nat)
  /-- SCAN_DATA (R305; how many bits are shifted). -/
  | scanData (bits : Nat)
  /-- BYPASS (R305). -/
  | bypass (tdi : Bool)
  /-- WATCHDOG_CHECK (R311; the watchdogs whose limit has passed at this check). -/
  | watchdogCheck (findings : List WatchdogFinding)
  /-- MGMT_WATCHDOG_EXPIRY (R312). -/
  | mgmtWatchdogExpiry
  /-- MGMT_RESTART_COMPLETE (R312). -/
  | mgmtRestartComplete
  /-- UNCORRECTABLE_WORD (R308). -/
  | uncorrectableWord (site : MemSite)
  /-- STUCK_BIT_TEST (R309). -/
  | stuckBitTest (site : MemSite) (stuck : Bool)
  /-- ROW_REPLACEMENT_DONE (R324). -/
  | rowReplacementDone (bank : Nat) (row : Nat)
  /-- TRACKER_HARD_FAILURE (R325). -/
  | trackerHardFailure (i : Nat) (stuck : Bool)
  /-- PARTITION_RESET (R314). -/
  | partitionReset (rq : Requester) (n : Nat)
  /-- DRAIN_COMPLETE (R314). -/
  | drainComplete (n : Nat)
  /-- DRAIN_LIMIT_EXPIRY (R314). -/
  | drainLimitExpiry (n : Nat)
  /-- PARTITION_READY (R315). -/
  | partitionReady (rq : Requester) (n : Nat)
  /-- PARTITION_QUIET_EXPIRY (R315). -/
  | partitionQuietExpiry (n : Nat)
  /-- GATE_ADMIT (R319). -/
  | gateAdmit (rq : Requester) (n : Nat) (ctx : Nat)
  /-- GATE_CLEAR (R319). -/
  | gateClear (rq : Requester) (n : Nat) (ctx : Nat)
  /-- GATE_OPEN (R319). -/
  | gateOpen (rq : Requester) (n : Nat)
  /-- CONTEXT_LIST_CLEAR (R319). -/
  | contextListClear (rq : Requester)
  /-- FAULT_RESEND (R322). -/
  | faultResend
  /-- NOTIFY_ACK (R322; the sender's IPv6 address and UDP port). -/
  | notifyAck (addr : Nat) (udp : Nat) (d : Datagram)
  /-- REQUEST (R269; the client's IPv6 address and UDP port, and the datagram). -/
  | request (addr : Nat) (udp : Nat) (d : Datagram)
  /-- NEXT (R368; a REQUEST of NEXT items). -/
  | nextItem (addr : Nat) (udp : Nat) (d : Datagram)
  /-- DISCOVER (R274). -/
  | discover (addr : Nat) (udp : Nat) (unicast : Bool) (d : Datagram)
  /-- DISCOVER_DELAY_EXPIRY (R274). -/
  | discoverDelayExpiry
  /-- NEIGHBOUR_SOLICITATION (R272). -/
  | neighbourSolicitation (src : Nat) (target : FramedTarget)
  /-- ECHO_REQUEST (R272). -/
  | echoRequest (src : Nat) (dst : Nat) (payload : FramedEcho)
  /-- SHELF_ENABLE_WRITE (R274). -/
  | shelfEnableWrite (rq : Requester) (v : Nat)
  /-- CLIENT_IDLE_EXPIRY (R271). -/
  | clientIdleExpiry (ident : Nat) (port : Nat)
  /-- OWNER_LEASE_EXPIRY (R267). -/
  | ownerLeaseExpiry
  /-- COMMISSION_ENTER (R265). -/
  | commissionEnter (rq : Requester)
  /-- COMMISSION_COMMIT (R266). -/
  | commissionCommit (rq : Requester)
  /-- COMMISSION_RETIRE (R265). -/
  | commissionRetire (rq : Requester)
  /-- HOST_SLOT_WRITE (R276). -/
  | hostSlotWrite (offset : Nat) (bytes : List Byte)
  /-- HOST_SLOT_READ (R276). -/
  | hostSlotRead (offset : Nat) (len : Nat)
  /-- HOST_ACCESS_START (R277; the 16-byte item header written). -/
  | hostAccessStart (header : Nat)
  /-- CATALOGUE_WRITE (R264). -/
  | catalogueWrite (rq : Requester) (cn : Nat) (row : Nat) (v : Nat)
  /-- MIRROR_RESEND_EXPIRY (R331). -/
  | mirrorResendExpiry
  /-- MIRROR_LOST_LIMIT_EXPIRY (R328). -/
  | mirrorLostLimitExpiry
  /-- MIRROR_COMMIT_WAIT_EXPIRY (R335). -/
  | mirrorCommitWaitExpiry
  /-- COUNTERPART_RESTORE (R336). -/
  | counterpartRestore (rq : Requester) (ep : Nat) (port : Nat) (ed : Nat)
  /-- RESTORE_TIMEOUT (R336). -/
  | restoreTimeout
  /-- LOG_RECORD_FORM (R340). -/
  | logRecordForm
  /-- LOG_DRAIN_WRITE (R341). -/
  | logDrainWrite
  /-- REMOTE_NOTICE_POST_TIMEOUT (R113). -/
  | remoteNoticePostTimeout (tray : Nat) (k : Nat)
  /-- CHECKER_LOCK (R252). -/
  | checkerLock (p : Nat) (lane : Nat)
  /-- CHECKER_SYNC_LOSS (R252; the bits compared and the mismatches counted while locked). -/
  | checkerSyncLoss (p : Nat) (lane : Nat) (bits : Nat) (errors : Nat)
  /-- MARK_WIDTH_EXPIRY (R289). -/
  | markWidthExpiry
  /-- NOTIFY (R321). -/
  | notify (d : Datagram)
  /-- RESPONSE (R270). -/
  | response (d : Datagram)
  /-- DISCOVER_RSP (R270). -/
  | discoverRsp (d : Datagram)
  /-- NEIGHBOUR_ADVERTISEMENT (R274). -/
  | neighbourAdvertisement (target : FramedTarget)
  /-- MALFORMED_PACKET (R63). -/
  | malformedPacket (port : Nat) (k : Packet)
  /-- PRIVATE_TEST_MODE (R305). -/
  | privateTestMode (op : Nat)
  deriving DecidableEq, Repr

end Sys2Proof
end

