-- ==== Sys2Proof/Decode.lean ====
section
/-! DEFINITION. The words that spell a command. No row of spec/opcode_table.json gives bits: a command
reaches the block as a packet, a signal, a pin or a Catalogue access, not as an encoded word. -/

namespace Sys2Proof

/-- No word spells a command, for no row has bits. -/
def decodeTableWord (_nbits _w : Nat) : Option Instr := none

end Sys2Proof
end

