-- ==== Sys2Proof/Config.lean ====
section
/-! DEFINITION. The free values: what the spec leaves open although the block goes on. Each is an
opaque constant applied to the count of free values drawn so far (`State.freeCount`), so nothing in
Lean can know its value (log entry 2). -/

namespace Sys2Proof.Config

/-- Where the search for a free tracker index starts (R55: which index is not defined). -/
opaque freeTracker : Nat → Nat

/-- Which of several overlapping open windows applies (R30, R12). -/
opaque freeWindow : Nat → Nat

/-- The program memory a failed load leaves (R154). -/
opaque freeProgramWord : Nat → Nat → Nat

/-- A bit of a scan chain whose content no rule gives (R304). -/
opaque freeScanBit : Nat → Nat → Nat

/-- A transmitter setting the receiver's equaliser asks for: a tap and a step (R239). -/
opaque freeEqualiser : Nat → Nat

/-- Which pattern bits of a cycle come wrong from a lane, one bit each (R252). -/
opaque freeCheckerErrors : Nat → Nat

/-- Symbols corrected in a codeword that a lane delivers: 0 to 15, or 16 for none of it counted (R230, R246). -/
opaque freeCorrections : Nat → Nat

/-- Where the search for a free request tag of a memory-side port starts (R343: which tag is not
stated). -/
opaque freeTag : Nat → Nat

/-- Bytes no rule gives: of a read the host answered with fewer bytes than asked, or of a word that
failed (R343). -/
opaque freeByte : Nat → Nat → Nat

/-- A value that a host error leaves unpredictable (R8, R12). -/
opaque freeValue : Nat → Nat

/-- A choice among alternatives that no rule fixes (R74, R271). -/
opaque freeChoice : Nat → Nat

/-- In a cycle, whether the host holds a ready input high: signal 0 to 7 is ESP_RSP_READY of an engine-side port, 8 to 19
MSP_WD_READY of a memory-side port (R342; log entry 71). -/
opaque freeReady : Nat → Nat → Bool

/-- In a cycle, whether the program of the management core takes a branch or jump (R295; log entry 69). -/
opaque freeBranch : Nat → Bool

end Sys2Proof.Config
end

