-- ==== Sys2Proof/Machine/State.lean ====
section
/-! DEFINITION. The state of the block: everything the spec gives it, as plain data. The Catalogue's
objects (R365) are one store `cat`, keyed by call number and row; the other fields are the state
behind the Catalogue. A docstring names the rule and the reset value. -/

namespace Sys2Proof.Machine

/-- A sparse table: entries in strictly rising key order. -/
abbrev Table (α : Type) := List (Nat × α)

/-! ### Requests in flight -/

/-- What waits for an in-band request this block made (R163, R189, R190). -/
inductive MgmtPurpose where
  /-- A collective_abort sent by the fan-out of entry `e` (R163): the response is not waited for. -/
  | abort (e : Nat)
  /-- The next hop's answer to loan_hop_open of loan `n` (R189). -/
  | loanOpen (n : Nat)
  /-- The next hop's answer to loan_hop_close of loan `n` (R190). -/
  | loanClose (n : Nat)
  deriving DecidableEq, Repr

/-- The work a tracker belongs to (R55). -/
inductive TrackerOwner where
  /-- Piece `piece` of engine access `acc` (R54, R347). -/
  | engine (acc piece : Nat)
  /-- Request `req` of slip `k` of tray `tray` (R101). -/
  | slip (tray k req : Nat)
  /-- The probe of slip `k` of tray `tray` (R38). -/
  | probe (tray k : Nat)
  | mgmt (purpose : MgmtPurpose)
  deriving DecidableEq, Repr

/-- An allocated tracker (R55, R56). -/
structure Tracker where
  turn      : Nat
  partition : Nat
  edition   : Nat
  dst       : Nat
  issuer    : Nat
  context   : Nat
  /-- The port its request left by; 15 for the block's own switch. -/
  via       : Nat
  opcode    : Nat
  slotCount : Nat
  lastByte  : Nat
  /-- Bytes of a READ's extent. -/
  length    : Nat
  owner     : TrackerOwner
  /-- A stuck bit was found: replace the tracker once its request completes (R325). -/
  stuck     : Bool
  /-- The sub field of its request (R142). -/
  sub       : Nat := 0
  deriving DecidableEq, Repr

/-- A pair table entry (R83), keyed by (destination, issuer). -/
structure Pair where
  dst       : Nat
  issuer    : Nat
  lastSent  : Nat
  lastAcked : Nat
  /-- Path in use: 0 the ordinary route, n + 1 loan number n. -/
  path      : Nat
  /-- The port the path leaves by; 15 for the block's own switch. -/
  via       : Nat
  /-- COMMIT_POLLs sent whose answer has not come (R60). -/
  polls     : Nat
  /-- Abandoned, and not to be taken again until request_timeout has passed (R83). -/
  quarantined : Bool
  /-- Fabric time of the abandonment, and of the latest poll (R83). -/
  since    : Nat
  pollAt   : Nat
  deriving DecidableEq, Repr

/-- A pending-ack entry at the destination (R59, R88), keyed by (source, issuer). -/
structure PendingAck where
  src      : Nat
  issuer   : Nat
  /-- The edition the source showed, for the acknowledgement's dst_edition (R57). -/
  srcEdition : Nat
  via      : Nat
  runFirst : Nat
  expected : Nat
  /-- Sequence numbers of the run that have arrived and are not done. -/
  notDone  : List Nat
  /-- Sequence numbers of earlier runs that have arrived and are not done (R60). -/
  older    : List Nat
  /-- Done packets not yet acknowledged. -/
  owed     : Nat
  /-- COMMIT_POLLs waiting, each with the packets that arrived before it and are not done (R60). -/
  polls    : List (List Nat)
  /-- The tag's partition and edition of the latest packet (R57). -/
  partition : Nat
  partitionEdition : Nat
  deriving DecidableEq, Repr

/-- A hold given to a probe (R38, R39). -/
structure Hold where
  src     : Nat
  windows : List Nat
  /-- The right its probe asked for, and the spans of the probe's extent (R38, R40). -/
  right   : Nat
  spans   : List (Nat × Nat)
  deriving DecidableEq, Repr

/-- A fence an issuer waits on (R79): scope 0 CORE, 1 CHIP, 2 SYSTEM. -/
structure FenceWait where
  issuer : Nat
  scope  : Nat
  port   : Nat
  etag   : Nat
  deriving DecidableEq, Repr

/-- An engine access split into pieces (R54). -/
structure EspAccess where
  port    : Nat
  etag    : Nat
  op      : Nat
  pieces  : Nat
  status  : Nat
  data    : Table (List Byte)
  /-- The partition of its tag (Table 14.4). -/
  partition : Nat
  deriving DecidableEq, Repr

/-- An engine request that has not been accepted whole: its op of Table 16.3 (8, 9, 10 for a FENCE of scope
CORE, CHIP, SYSTEM), the engine access it began, and its next piece (R54, R74). -/
structure EspWait where
  op   : Nat
  req  : EspReq
  acc  : Option Nat
  next : Nat
  deriving DecidableEq, Repr

/-- What the slip engine presents to the central switch (R74). -/
inductive SlipItem where
  | probe
  | request (req : Nat)
  | post
  deriving DecidableEq, Repr

/-- A request of slip `k` of tray `tray` that has been presented and not accepted (R74). -/
structure SlipWait where
  tray : Nat
  k    : Nat
  item : SlipItem
  deriving DecidableEq, Repr

/-- A request presented to the central switch and not accepted (R74). -/
inductive Waiting where
  | engine (w : EspWait)
  | slip (w : SlipWait)
  /-- The HOLD_RELEASE of a hold, a request of the tray's issuer (R39). -/
  | release (issuer endpoint hold : Nat)
  deriving DecidableEq, Repr

/-- An MGMT_REQ of this block's own that waits for a tracker (R56): it invokes `cn` at `dst`. -/
structure MgmtWait where
  dst     : Nat
  cn      : Nat
  arg     : List Byte
  purpose : MgmtPurpose
  deriving DecidableEq, Repr

/-- A response offered to an engine (Table 16.1, R347). -/
structure EspRsp where
  port   : Nat
  etag   : Nat
  status : Nat
  data   : List Byte
  /-- The partition of the response's tag (Table 14.4). -/
  partition : Nat
  deriving DecidableEq, Repr

/-! ### Memory-side accesses -/

/-- What a host access serves. -/
inductive AccessKind where
  /-- A READ that arrived on `port` (15: from this block). -/
  | pktRead (port : Nat) (k : Packet)
  /-- A WRITE, WRITE_ACK or LOAN_DATA. -/
  | pktWrite (port : Nat) (k : Packet)
  /-- A ledger request (R143, R144), applied by the cell's slice. -/
  | pktLedger (port : Nat) (k : Packet)
  /-- A ledger_clear of cells `first` to `first + n - 1`, applied by their slices (R22, R148). -/
  | ledgerClear (first n : Nat)
  /-- A NOTICE_POST that waits for its ring (R113). -/
  | pktNotice (port : Nat) (k : Packet)
  /-- The READ_LOCK of an atomic. -/
  | atomicLock (port : Nat) (k : Packet)
  /-- The WRITE_UNLOCK of an atomic; `old` is the value read, `ok` false when the line was poisoned. -/
  | atomicUnlock (port : Nat) (k : Packet) (old : Nat) (ok : Bool)
  /-- A WRITE_UNLOCK with all byte enables clear after a quiesce (R343). -/
  | release
  /-- A local read or write of request `req` of slip `k` of tray `tray`; `pos` is its place in the
  request's bytes and `off` its local offset. -/
  | slipRead (tray k req pos off : Nat)
  | slipWrite (tray k req pos off : Nat)
  | slotRead (tray : Nat)
  /-- A slot read of a tray that has been enabled anew since (R95). -/
  | oldSlotRead (tray : Nat)
  | noticeWrite (ring : Nat)
  | consumedRead (ring : Nat)
  /-- A consumed-count read of a ring that has been enabled anew since (R109). -/
  | oldConsumedRead (ring : Nat)
  /-- Read `id` of the thread of entry `e` in its run `run`: an LDH, BLD or RLD. -/
  | seqRead (e run id : Nat)
  /-- The roster record of SEND number `send` of a run of entry `e`, and the source of its packet `p`, which the
  mover of physical slice `mover` reads. -/
  | sendRoster (e run send : Nat)
  | sendSource (e run send p mover : Nat)
  /-- The roster record of `rank` for a gate token, and for the running fan-out of aborts (R163). -/
  | tokenRoster (e run gate rank : Nat)
  | fanoutRoster (e rank : Nat)
  /-- A part of the burst of a tile of entry `e`'s run `run`. -/
  | burst (collective tile e run : Nat)
  /-- The images program_load and firmware_load read (R154, R359); `stage` is program_load_stage as the load began. -/
  | programLoad (stage : Nat)
  | firmwareLoad
  | trace
  /-- A dump record; `rest` goes to the start of the region next. -/
  | dump (rest : List Byte)
  | logDrain
  | logConsumed
  deriving DecidableEq, Repr

/-- One request at a memory-side port (Table 16.2): op 0 READ, 1 WRITE, 2 READ_LOCK, 3 WRITE_UNLOCK. -/
structure MspReq where
  op      : Nat
  poison  : Bool
  context : Nat
  segment : Nat
  offset  : Nat
  length  : Nat
  data    : List Byte
  /-- False when every byte enable is clear. -/
  enabled : Bool
  access  : Nat
  piece   : Nat
  /-- It has waited on a locked line, and is counted (Table 3.11). -/
  waited  : Bool
  deriving DecidableEq, Repr

/-- A host access: one or more requests split at 4 KiB (R343). -/
structure Access where
  kind      : AccessKind
  /-- Whose pair order it keeps: a source endpoint, or 2^22 + loan number (R75, R76); none for others. -/
  pair      : Option Nat
  /-- Performed (R72). -/
  performed : Bool
  /-- Requests not yet accepted, and not yet completed. -/
  toAccept  : Nat
  toComplete : Nat
  /-- 0 OK, 1 POISON, 2 FAULT: the worst completion so far. -/
  status    : Nat
  data      : Table (List Byte)
  /-- Windows on which the access counts as a use (R36). -/
  windows   : List Nat
  /-- The partition it belongs to, 16 for none (R345), and its host translation context. -/
  partition : Nat
  context   : Nat
  /-- Answered already under R45: the later completion is taken and ignored. -/
  ignored   : Bool
  /-- Segment offset of its first request that faulted. -/
  faultAt   : Option Nat
  /-- Bytes of its writes that completed without a fault. -/
  written   : Nat
  deriving DecidableEq, Repr

/-- A locked line of an atomic unit (R68): port, line number (context, segment, offset / 64), and the
atomic that holds it. -/
structure Lock where
  access  : Nat
  port    : Nat
  context : Nat
  segment : Nat
  line    : Nat
  deriving DecidableEq, Repr

/-! ### Slips and notices -/

/-- How a slip's remote check stands (R38, R105, R182). -/
inductive ProbeState where
  | notSent | pending | busy | granted (hold : Nat) | loanOk | refused (status offset : Nat)
  deriving DecidableEq, Repr

/-- One issued request of a slip (R101). -/
structure SlipReq where
  req     : Nat
  /-- Its movement position (R101, R102). -/
  start   : Nat
  remote  : Nat
  /-- Place of its first byte in the remote byte stream. -/
  pos     : Nat
  length  : Nat
  /-- Local accesses still to complete; bytes gathered for a PUSH, and places written for a PULL. -/
  locals  : Nat
  data    : Table (List Byte)
  poison  : Bool
  /-- It has been sent. -/
  sent    : Bool
  /-- Done with this status; and for a local failure its local offset. -/
  status  : Option Nat
  localFail : Option Nat
  /-- commit_seq of its LOAN_DATA. -/
  seq     : Option Nat
  deriving DecidableEq, Repr

/-- The result a slip completes with (R107). -/
structure SlipResult where
  status : Nat
  offset : Nat
  bytes  : Nat
  side   : Nat
  deriving DecidableEq, Repr

/-- A slip context (R98), known by its tray and by the number `k` it took on acceptance. -/
structure SlipCtx where
  tray     : Nat
  k        : Nat
  slot     : Nat
  /-- The issuer of its tray as it was accepted (R94). -/
  issuer   : Nat
  /-- The 512 bits of the slip (Table 5.3). -/
  bits     : Nat
  localDone : Bool
  localRefusal : Option (Nat × Nat)
  localWindows : List Nat
  probe    : ProbeState
  /-- Its probe has been answered BUSY (R38). -/
  retried  : Bool
  /-- Index of the next request and its place in the remote stream. -/
  nextReq  : Nat
  nextPos  : Nat
  allIssued : Bool
  stopped  : Bool
  /-- A window it was admitted in became FREE: the local offset of the first local access not made then (R105). -/
  staleAt  : Option Nat
  reqs     : List SlipReq
  result   : Option SlipResult
  /-- commit_seq of the remote notice post awaiting its acknowledgement (R113). -/
  post     : Option Nat
  /-- It has set its issuer's lost flag, which its notice clears (R107). -/
  flagged  : Bool
  /-- Its notice is queued. -/
  retired  : Bool
  deriving DecidableEq, Repr

/-- Progress of a tray beyond its row (R95, R96). -/
structure TrayRun where
  /-- A slot read is outstanding. -/
  reading  : Bool
  /-- A slot read has returned with this status and these bytes. -/
  returned : Option (Nat × List Byte)
  /-- The number the tray's next slip is known by, which goes on counting over its enables (log entry 59). -/
  serial   : Nat
  deriving DecidableEq, Repr

/-- A notice waiting for its ring (R111, R112): the 256 bits less turn and time. -/
structure NoticePending where
  bits   : Nat
  /-- Tray and number of its slip; or the collective entry; or neither (remote). -/
  slip   : Option (Nat × Nat)
  entry  : Option Nat
  /-- The access of the NOTICE_POST it is (R113). -/
  post   : Option Nat
  /-- The access that writes it, once presented. -/
  access : Option Nat
  deriving DecidableEq, Repr

/-- Progress of a ring beyond its row (R111, R112). -/
structure RingRun where
  written  : Nat
  consumed : Nat
  overflowed : Bool
  waiting  : List NoticePending
  deriving DecidableEq, Repr

/-! ### Collator and sequencers -/

/-- One element of an open tile (R124, R133, R134). -/
structure Elem where
  count  : Nat
  poison : Bool
  /-- 0 FINITE, 1 POS_INF, 2 NEG_INF, 3 NAN (Table 6.3). -/
  state  : Nat
  value  : AccValue
  /-- The rounded result once the element has closed. -/
  result : Option Nat
  deriving DecidableEq, Repr

/-- A tile (R132 to R137). Phase 0 open, 1 bursting, 2 spilled, 3 moving out, 4 moving in. -/
structure Tile where
  entry  : Nat
  stage  : Nat
  tile   : Nat
  /-- The physical slice that holds it, since its opening. -/
  phys   : Nat
  long   : Bool
  phase  : Nat
  elems  : Table Elem
  /-- The order stamp of its latest contribution. -/
  touched : Nat
  /-- The accesses of its burst not yet accepted. -/
  burstLeft : Nat
  /-- The spill slot it holds, in phases 2 to 4. -/
  slot    : Nat
  /-- It opened again after its tile closed and was freed: it never reaches its counts (R136). -/
  again   : Bool
  /-- A row of its spill slot was lost: every element of it is poisoned (R324). -/
  lost    : Bool
  /-- Its spill or reload has had its time, and waits for a row of its slot that is being replaced (R15, R324). -/
  moved   : Bool
  deriving DecidableEq, Repr

/-- What a thread waits on (R159). -/
inductive ThreadWait where
  | sends
  | closed (stage count : Nat)
  | gate (n count : Nat)
  /-- DONE waits for the sends and then ends; `step` goes into the notice. -/
  | done (step : Nat)
  deriving DecidableEq, Repr

/-- A SEND captured at issue (R158). -/
structure SendJob where
  id     : Nat
  stage  : Nat
  rank   : Nat
  source : Nat
  first  : Nat
  count  : Nat
  /-- The roster record, once read; whether its read is under way. -/
  roster : Option Nat
  asked  : Bool
  /-- Packets in all; packets whose source read has begun; packets formed. -/
  packets : Nat
  next   : Nat
  formed : Nat
  deriving DecidableEq, Repr

/-- Gate tokens still to be sent (R160): ranks `next` to `next + left - 1`; whether the roster read of
`next` is under way. -/
structure TokJob where
  gate  : Nat
  next  : Nat
  left  : Nat
  asked : Bool
  deriving DecidableEq, Repr

/-- What the host read of a thread is for: register `d` of an LDH; register `d` of the roster record of `rank`, with the
line of 16 records it brings (R157); `count` data words from `word` of a BLD. -/
inductive HostRead where
  | toReg (d : Nat)
  | toRecord (d rank : Nat)
  | toData (word count : Nat)
  deriving DecidableEq, Repr

/-- A host read of a thread under way (R155). A later instruction may have written a register or data word of its
result before it came: those stand in `late`, a register as its number and a data word as 16 more. -/
structure ThreadRead where
  id   : Nat
  dest : HostRead
  late : List Nat
  /-- The bytes, once they have come. -/
  back : Option (List Byte)
  deriving DecidableEq, Repr

/-- A thread (R153). -/
structure Thread where
  regs   : List Word64
  pc     : Nat
  words  : List Word64
  /-- The physical slice whose sequencer runs it until it ends (R153). -/
  phys   : Nat
  wait   : Option ThreadWait
  /-- Host reads under way, oldest first, and the number of the next (R155, R157). -/
  reads  : List ThreadRead
  nextRead : Nat
  /-- The roster line it holds: its first rank div 16, and its 64 bytes (R157). -/
  line   : Option (Nat × List Byte)
  sends  : List SendJob
  nextSend : Nat
  tokens : List TokJob
  /-- Packets of its SENDs that are formed and have not left their port. -/
  unsent : Nat
  /-- Instructions issued since the thread's previous trace record (R295). -/
  sinceTrace : Nat
  deriving DecidableEq, Repr

/-- A collective entry's run state beside its row (R150, R161). -/
structure EntryRun where
  /-- The number of this use of the entry, among all since reset. -/
  run     : Nat
  thread  : Option Thread
  excess  : Bool
  poisoned : Bool
  burstBytes : Nat
  /-- Closed-tile counts of stages 0 to 3 (R159). -/
  closed  : List Nat
  /-- Tiles that closed and were freed, as (stage, tile) (R136). -/
  freed   : List (Nat × Nat)
  /-- FP4 results that share a byte with a neighbouring tile, keyed by stage × 2^32 + element; 16 is added where the
  element was poisoned (R135). -/
  edges   : Table Nat
  /-- Ending status, the ending instruction's address, the notice's step and faulting offset. -/
  ended   : Option Nat
  endPc   : Nat
  endStep : Nat
  faultOffset : Nat
  /-- Its notice waits in its ring. -/
  noticed : Bool
  deriving DecidableEq, Repr

/-- A fan-out of aborts (R163): entry, its gate_id, status, ranks done and members. -/
structure Fanout where
  entry   : Nat
  gate    : Nat
  status  : Nat
  next    : Nat
  left    : Nat
  members : Nat
  partition : Nat
  /-- Host translation context, and the roster's segment and offset. -/
  context : Nat
  segment : Nat
  offset  : Nat
  /-- The roster record of `next` is asked for; it has come, or its read faulted. -/
  asked   : Bool
  record  : Option (Option Nat)
  deriving DecidableEq, Repr

/-- A contribution's piece for one tile that waits at a slice (R137, R166); `slot` says that it waits for a
spill slot. -/
structure CollWait where
  phys : Nat
  port : Nat
  k    : Packet
  tile : Nat
  /-- It waits for a spill slot now; it has been counted as one that did (R137). -/
  slot : Bool
  counted : Bool
  /-- The number of its packet, among the contributions that came to the Collator. -/
  serial : Nat
  deriving DecidableEq, Repr

/-! ### Ports -/

/-- A place in a port's receive buffers: the slots a packet holds there (R192, R217). -/
structure RxPlace where
  port  : Nat
  vc    : Nat
  slots : Nat
  pool  : Bool
  /-- More of its slots are to come: it is forwarded by cut-through (R192, R195). -/
  late  : Bool
  deriving DecidableEq, Repr

/-- A packet in an output queue (R192). -/
structure Desc where
  k      : Packet
  /-- Port of arrival; 15 when formed here. -/
  origin : Nat
  /-- The run of the collective entry whose SEND it is. -/
  entry  : Option Nat
  /-- `TimeState.cycles` as it took one of the queue's 128 places; none while it waits for one in the central
  switch (R193, R204). -/
  joined : Option Nat
  /-- The receive-buffer place of a packet passing through, until its egress takes it (R192). -/
  rx     : Option RxPlace
  deriving DecidableEq, Repr

/-- A packet that has come to the central switch and waits in its channel: behind the head of the channel, or at it for
a pending-ack entry (R14, R88). `stamp` is the time a TIME_SYNC took on arrival (R283). -/
structure RxWait where
  port  : Nat
  k     : Packet
  stamp : Nat
  deriving DecidableEq, Repr

/-- A packet passing through that waits at the head of its channel for a place in its output queue (R193): its port
and channel of arrival, its egress, and the loan it is forwarded by, if any. -/
structure PassWait where
  port   : Nat
  vc     : Nat
  k      : Packet
  egress : Nat
  loan   : Option Nat
  rx     : Option RxPlace
  deriving DecidableEq, Repr

/-- A flit (Table 10.1). `slots` are its 15 slots, or its command records. -/
structure Flit where
  type  : Nat
  seq   : Nat
  ack   : Nat
  nak   : Bool
  held  : Bool
  xoff  : Bool
  pool  : Bool
  abort : Bool
  slotsUsed : Nat
  creditVc  : Nat
  credit    : Nat
  slots : List Nat
  deriving DecidableEq, Repr

/-- A packet the scheduler has chosen, being turned into flits (R209): the slots it has still to send. -/
structure TxPacket where
  slots : List Nat
  size  : Nat
  /-- The place of those slots of a packet passing through that have not been sent (R192). -/
  rx    : Option RxPlace
  /-- How many slots of it are to come at its port of arrival (R195). -/
  owed  : Nat
  vc    : Nat
  begun : Bool
  pool  : Bool
  abort : Bool
  entry : Option Nat
  /-- Its queue, and the cycle it joined it where its delay is to be recorded (R204). -/
  queue  : Nat
  sample : Option Nat
  deriving DecidableEq, Repr

/-- A lane command waiting to go in a CONTROL flit, and the lane it must be dealt to. -/
structure LaneCmd where
  record : Nat
  lane   : Option Nat
  deriving DecidableEq, Repr

/-- The start of a frame on a lane's transmitter (R230): the message of its alignment-and-filler codeword, and the
places of the frame before it that carried skip blocks (R232). -/
structure LaneFrame where
  lane     : Nat
  codeword : Nat
  skips    : Nat
  /-- Runs of symbols inverted in data codewords of the frame before it: first symbol and count (R253). -/
  inverted : List (Nat × Nat)
  deriving DecidableEq, Repr

/-- A packet in a port's receive buffer (R217). -/
structure RxPacket where
  k     : Packet
  pool  : Bool
  slots : Nat
  deriving DecidableEq, Repr

/-- A loan's bucket at an egress (R199): tokens and the carried fraction (in 1/65,536 slot). -/
structure Bucket where
  tokens : Int
  frac   : Nat
  deriving DecidableEq, Repr

/-- A lane's pattern checker (R252): the bits it continues from, the bits in succession that have matched while it searches,
and of the last 1,024 compared since it locked which mismatched, with their number. -/
structure Checker where
  reg    : Nat
  run    : Nat
  window : Nat
  wrong  : Nat
  deriving DecidableEq, Repr

def Checker.reset : Checker := { reg := 0, run := 0, window := 0, wrong := 0 }

/-- One lane of a port, beside its Catalogue objects. -/
structure Lane where
  /-- Stage 1 to 4 reached by this receiver, and consecutive valid training blocks (R236, R237). -/
  stage    : Nat
  detects  : Nat
  inverted : Bool
  /-- The lane number the partner's transmitter reports (R238). -/
  reports  : Option Nat
  /-- Consecutive training blocks failing tb_crc (R245). -/
  badBlocks : Nat
  /-- Equalisation: our latest request id, whether it is answered, our DONE and the partner's. -/
  reqId    : Nat
  answered : Bool
  eqRequest : Nat
  eqTap    : Nat
  rxDone   : Bool
  txDone   : Bool
  /-- Our transmitter's latest answer (R239). -/
  respId   : Nat
  respStatus : Nat
  /-- Our transmitter's taps while it is being equalised (R239). -/
  taps     : Nat
  /-- 0 searching, 1 locked once, 2 confirmed (R240). -/
  lock     : Nat
  /-- The cycle of the time island at which its latest frame began, measured in stage 5 (R241). -/
  frameAt  : Option Nat
  /-- Left out: 0 no, 1 until lane_retry_interval, 2 until the port trains from INIT (R237, R244). -/
  barred   : Nat
  /-- Flits dealt to its transmitter since its frame began (R232). -/
  flits    : Nat
  /-- Consecutive bookplates equal to the reference, and the latest valid one (R242). -/
  plates   : Nat
  plate    : Nat
  /-- Latest probe received and when, and the round trips sampled (R243). -/
  probe    : Nat
  probeAt  : Nat
  samples  : List Nat
  /-- Held trained by this receiver; the partner's receiver holds it trained (R246, R247). -/
  rxTrained : Bool
  peerTrained : Bool
  rxFailed : Bool
  /-- Removed for loss and not yet retrained (R223). -/
  lost     : Bool
  /-- Running test mode of Table 11.14, 0 none; whether it is stopping our frames (R254). -/
  test     : Nat
  /-- The mode of a test that is over, whose frames resume once the partner acknowledges LANE_TEST_EXIT; 0 none (R249). -/
  leaving  : Nat
  /-- The running test was given a duration (R254). -/
  testEnds : Bool
  /-- The partner announced TEST, HUSH or SHELVED: 0 none, 4 HUSH, 5 SHELVED, 6 TEST (R249). -/
  peerState : Nat
  /-- An idle state announced and waiting for its acknowledgement: state and flit number (R249). -/
  announced : Option (Nat × Nat)
  /-- Waking, from HUSH or SHELVED (R247, R250). -/
  waking   : Bool
  /-- The reason of a request to add it that waits: for its wake, its test's end, or the partner's rx_trained (R247). -/
  addAsked : Option Nat
  /-- The partner has marked its receive lane FAILED (R248). -/
  peerFailed : Bool
  /-- Refused as a sparing candidate since the last success (R246). -/
  refused  : Bool
  /-- Frames missing or invalid in succession (R245). -/
  badFrames : Nat
  /-- Injection position and injections made (R253). -/
  injectAt : Nat
  injections : Nat
  /-- Runs of symbols inverted since its frame began; bits of the generator's output still to be flipped (R253). -/
  injected : List (Nat × Nat)
  flips    : Nat
  /-- The pattern generator's latest bits, and the checker (R251, R252). -/
  gen      : Nat
  checker  : Checker
  /-- inject_active as the partner's lane record shows it (R246). -/
  peerInject : Bool
  deriving DecidableEq, Repr

/-- A port beside its Catalogue objects. -/
structure Port where
  /-- Output queues 0 to 63 (R192). -/
  queues   : Table (List Desc)
  active   : List Nat
  lastLoan : Nat
  sentCount : Table Nat
  buckets  : Table Bucket
  /-- Configuration rows whose written shaper values wait for the next refill, as in effect (R198). -/
  oldCfg   : Table Nat
  /-- Transmit side (R208 to R216). -/
  tx       : List TxPacket
  txSeq    : Nat
  replay   : List Flit
  replayAt : Option Nat
  replayHeld : Bool
  fruitless : Nat
  /-- The flit that the latest replay began from (R214). -/
  replayFrom : Option Nat
  begun    : List Nat
  freedSeen : List Nat
  /-- The cycle of the time island at which a flit with xoff came last (R219). -/
  xoffAt   : Option Nat
  cmds     : List LaneCmd
  lastLane : Nat
  /-- Receive side (R210 to R219). -/
  expect   : Nat
  gap      : Bool
  marks    : Table Nat
  heldFlits : Table Flit
  /-- Flits behind a held one in a lane's merge buffer (R212). -/
  behind   : Table (List Flit)
  /-- Records of CONTROL flits that have acted on receipt and are not delivered: flit number, place (R221). -/
  acted    : List (Nat × Nat)
  nakDue   : Bool
  freed    : List Nat
  /-- The channel whose credit was returned last, what each channel's latest return carried, and the flits sent since
  (R217). -/
  creditTurn : Nat
  returned : List Nat
  creditAge : List Nat
  rxSlots  : List Nat
  /-- Slots of the packet being received that found no room (R220). -/
  rxLost   : Nat
  /-- Header slots of it among `rxSlots` that found no room: they were read in passing and are not held (R220). -/
  rxShort  : Nat
  /-- The packet being received has gone on by cut-through: its channel, and its slots still to come (R192). -/
  rxCut    : Option (Nat × Nat)
  rxPool   : Bool
  rxHeld   : Bool
  rxBuf    : Table (List RxPacket)
  xoff     : Bool
  /-- Flits transmitted in order (the lane output). -/
  sent     : List (Nat × Flit)
  /-- Session and partner when last UP (R224, Table 11.4); `everUp` false before that. -/
  everUp   : Bool
  /-- link_session is the number of a session that has not been UP yet (R224). -/
  newSession : Bool
  heldEndpoint : Nat
  heldEdition  : Nat
  heldSession  : Nat
  /-- Training from HELD rather than INIT; both ends' ready flags; lanes wanted (R243, R244). -/
  fast     : Bool
  /-- No lane came through stage 4: the port waits for lane_retry_interval (R237). -/
  stalled  : Bool
  /-- What keeps this training from its end has been reported (R238, R242, R243). -/
  told     : Bool
  ready    : Bool
  peerReady : Bool
  peerWanted : Nat
  /-- rx_wanted of our bookplate, since the end of stage 7 (R243). -/
  wanted   : Nat
  lanes    : List Lane
  /-- Frames begun on the lanes' transmitters, in order (R230, R234). -/
  frames   : List LaneFrame
  /-- Our request to add that is outstanding: its lane and reason (R246, R248). -/
  asked    : Option (Nat × Nat)
  deriving DecidableEq, Repr

/-! ### Management core -/

/-- A command that waits in the background (R260): its call number, argument, requester, and the
client message it belongs to. -/
structure Invocation where
  cn   : Nat
  arg  : Nat
  rq   : Requester
  /-- The message that waits for it, 0 for none. -/
  msg  : Nat
  /-- The argument's digest for the CONFIG record (R339). -/
  digest : Nat
  /-- It is the latest invocation of its command: the command's object describes it (R259). -/
  latest : Bool
  deriving DecidableEq, Repr

/-- An item of a message (Table 12.7). -/
structure Item where
  index : Nat
  sub   : Nat
  op    : Nat
  row   : Nat
  countM1 : Nat
  data  : List Byte
  deriving DecidableEq, Repr

/-- An item carried out: its status and returned data. -/
structure ItemDone where
  item   : Item
  status : Nat
  data   : List Byte
  deriving DecidableEq, Repr

/-- A message being carried out (R269). `via` is the in-band packet it came in. -/
structure MsgRun where
  id    : Nat
  rq    : Requester
  via   : Option (Nat × Packet)
  number : Nat
  todo  : List Item
  done  : List ItemDone
  deriving DecidableEq, Repr

/-- A request in a client's record (R271): number, whether it still runs, and the items' outcomes. -/
structure ClientRecord where
  number  : Nat
  running : Bool
  items   : List ItemDone
  /-- Items the original did not carry out. -/
  skipped : List Item
  deriving DecidableEq, Repr

/-- A client table entry (R271). -/
structure Client where
  rq      : Requester
  records : List ClientRecord
  deriving DecidableEq, Repr

/-- A management access that waits for a place in the log's queue (R340): a message, one item, or a read of a slot. -/
inductive HeldAccess where
  | message (m : MsgRun)
  | item (rq : Requester) (i : Item)
  /-- A read of `len` bytes of the host window at `offset`, within one slot (R276). -/
  | slot (offset len : Nat)
  deriving DecidableEq, Repr

/-- A Shelf net datagram or ICMPv6 message the block sends: destination address and port, bytes. -/
structure ShelfOut where
  addr  : Nat
  udp   : Nat
  bytes : List Byte
  deriving DecidableEq, Repr

/-- A Catalogue read answered to the host window (R276). -/
structure SlotRead where
  offset : Nat
  bytes  : List Byte
  deriving DecidableEq, Repr

/-- A log record's cause, waiting to be formed (R340): the record less sequence and chain. -/
structure LogEvent where
  bits : Nat
  deriving DecidableEq, Repr

/-- A mirror update (R330): kind, call number, row, count, data slots. -/
structure MirrorUpdate where
  seq   : Nat
  kind  : Nat
  index : Nat
  sub   : Nat
  row   : Nat
  countM1 : Nat
  data  : List Byte
  /-- The destination edition of an update of a restore (R334, R336). -/
  edition : Option Nat
  deriving DecidableEq, Repr

/-- Mirror updates still to be formed (R329, R331, R336). -/
inductive MirrorWork where
  | start (restore : Bool)
  | finish
  /-- The value of object `cn`, read at `src` row `row` of the store (R336 reads the image). -/
  | value (cn : Nat)
  | imageValue (row : Nat)
  /-- Rows of `cn`, read from the table at `src`. -/
  | rows (cn src first count : Nat)
  /-- The rows of `cn` not FREE in the table at `src`, from row `first` on (R331). -/
  | live (cn src first : Nat)
  /-- The unacknowledged update `seq` once more (R331). -/
  | resend (seq : Nat)
  | records (first count : Nat)
  | request
  deriving DecidableEq, Repr

/-- A piece of mirror work: part of a snapshot, or with a destination edition and port of its own
(R334, R336). -/
structure MirrorJob where
  work    : MirrorWork
  snap    : Bool
  edition : Option Nat
  deriving DecidableEq, Repr

/-- A commit whose response waits for the counterpart (R335): its message, the number of its COMMISSION record once that
is formed, and the seq of the update that carries the record once that is formed. -/
structure CommitWait where
  msg    : Nat
  record : Option Nat
  seq    : Option Nat
  deriving DecidableEq, Repr

/-- A running counterpart_restore (R336). -/
structure Restore where
  endpoint : Nat
  port     : Nat
  edition  : Nat
  /-- Last applied seq of the restore, none before RESTORE_BEGIN. -/
  lastSeq  : Option Nat
  deriving DecidableEq, Repr

/-- A tensor dump being captured (R300). -/
structure Dump where
  tray  : Nat
  k     : Nat
  time  : Nat
  bytes : Table (List Byte)
  rows  : Nat
  /-- Its slip has completed: the record that is to be written. -/
  ended : Option (List Byte)
  deriving DecidableEq, Repr

/-! ### The parts of the state -/

/-- Reset inputs, power and start-up (16). -/
structure PowerState where
  /-- POR_N is low (R349); reset: false. -/
  porLow : Bool
  /-- BLOCK_RST_N is low (R349); reset: false. -/
  blockLow : Bool
  /-- PART_RST_N inputs that are low (R349); reset: none. -/
  partLow : List Nat
  /-- DROOP_N is low: the central island skips edges (R350); reset: false. -/
  droop : Bool
  /-- PD_REQ levels, one bit per domain (R355); reset: every domain of the part. -/
  pdReq : Nat
  /-- The domain being switched, and whether on (R355); reset: none. -/
  switching : Option (Nat × Bool)
  /-- Start-up is switching the domains on after a reset (R361); reset: false. -/
  starting : Bool
  /-- power_faults has risen since the last power_fault_clear (Table 16.4 bit 6); reset: false. -/
  faultLatched : Bool
  /-- A checked image waits to start: body_crc, version and length (R359); reset: none. -/
  image : Option (Nat × Nat × Nat)
  /-- Domains whose switching on drew no acknowledgement in this sequence (R355); reset: none. -/
  skipped : List Nat
  /-- The new tenant of a tenant change that waits for the carrel's clear (R362); reset: none. -/
  clearing : Option Nat
  deriving DecidableEq, Repr

/-- The carrel beside its objects (01 R15, R19; 14 R324). -/
structure CarrelState where
  /-- The bytes (R15, R19); reset: nothing listed, every byte zero (R362). -/
  mem : List Host.Cell
  /-- Row poison flags, key bank * 4,096 + row (R324); reset: none. -/
  poison : List Nat
  /-- Failed rows with no spare (R324); reset: none. -/
  dead : List Nat
  /-- Rows whose replacement is running (R324); reset: none. -/
  replacing : List Nat
  /-- The spare that stands for a row, by bank * 4,096 + row: a number 0 to 31 in its bank (R324); reset: none. -/
  spares : Table Nat
  /-- Spares that have failed themselves, as bank * 32 + number (R360); reset: none. -/
  badSpares : List Nat
  /-- The five quotas of the layout in effect (R19); reset: 16, 8, 8, 16, 16. -/
  layout : List Nat
  /-- The requester that each bank granted last (R15); reset: none. -/
  turns : Table Nat
  /-- Runs of rows, as first row and count, that have held what has no stated layout, dumps and spilled tiles, since they
  were cleared (R304); reset: none. -/
  foreign : List (Nat × Nat)
  deriving DecidableEq, Repr

/-- The central switch (02, 03, 04, 08). -/
structure SwitchState where
  /-- Uses counted on windows, by window * 2^32 + epoch, and each window's epoch, which tells uses
  before a modify from later ones (R33, R36); reset: none. -/
  uses : Table Nat
  epochs : Table Nat
  /-- Allocated trackers by index (R55); reset: none. -/
  trackers : Table Tracker
  /-- Allocation counts modulo 16 by index (R55); reset: zero. -/
  turns : Table Nat
  /-- Indices not to be allocated until request_timeout has passed again (R56, R226); reset: none. -/
  quarantine : List Nat
  /-- Tracker indices taken out of use (R325); reset: none. -/
  retired : List Nat
  /-- Pair table (R83); reset: empty. -/
  pairs : List Pair
  /-- Pending-ack table (R88); reset: empty. -/
  acks : List PendingAck
  /-- Packets that wait behind the head of their channel, or at it for a pending-ack entry (R14, R88); reset: none. -/
  rxWaits : List RxWait
  /-- Packets passing through that wait for a place in their queue (R193); reset: none. -/
  passWaits : List PassWait
  /-- MGMT_REQs of this block's own that wait for a tracker (R56); reset: none. -/
  mgmtWaits : List MgmtWait
  /-- Requests of engines and slips in the order presented, not yet accepted: they wait for a tracker, a pair entry or a
  fence (R56, R74, R79, R83); reset: none. -/
  waits : List Waiting
  /-- Holds by number (R38); reset: none. -/
  holds : Table Hold
  /-- Fences being waited on (R79); reset: none. -/
  fences : List FenceWait
  /-- Packets this block sent to itself, in issue order (R27, R75); reset: none. -/
  loop : List Packet
  /-- (endpoint, edition) pairs already recorded as stale since the entry was set (R46); reset: none. -/
  staleSeen : List (Nat × Nat)
  /-- Last RETIRED notice by (endpoint, edition): its time (R46); reset: none. -/
  retiredSent : List (Nat × Nat × Nat)
  /-- Source editions of duplicate identity already recorded (R47); reset: none. -/
  dupSeen : List Nat
  /-- Time of the last unreachable event by destination (R177); reset: none. -/
  unreachable : Table Nat
  /-- The use a TERMINUS entry has on its landing window, by loan number (R180); reset: none. -/
  loanUses : Table Nat
  deriving DecidableEq, Repr

/-- Memory-side and engine-side ports (16, 03 atomics). -/
structure HostSide where
  /-- Requests waiting for acceptance, by port, oldest first (R75, R343); reset: none. -/
  queues : Table (List MspReq)
  /-- Outstanding requests by port * 1,024 + tag (R343); reset: none. -/
  outstanding : Table MspReq
  /-- Accesses by number, and the next number; reset: none, 0. -/
  accesses : Table Access
  nextAccess : Nat
  /-- Accesses for the carrel and the slices that wait for their turn (R75), and accesses whose
  requests are all over, to be ended; reset: none. -/
  inner : List Nat
  ready : List Nat
  /-- Locked lines (R68); reset: none. -/
  locks : List Lock
  /-- Requests that wait for a lock place or a locked line, by port (R68); reset: none. -/
  lockWaits : List (Nat × MspReq)
  /-- The request whose MSP_REQ_VALID is high, by port: held unchanged until it transfers (R342); reset: none. -/
  valid : Table MspReq
  /-- Beats that follow accepted writes on MSP_WD, by port, oldest first; a byte whose enable is clear is none (R343);
  reset: none. -/
  beats : Table (List (List (Option Byte)))
  /-- MSP_QUIESCE, MSP_ABANDON and MSP_RESET_REQ, one bit per port (R346); reset: 0. -/
  quiesce : Nat
  abandon : Nat
  resetReq : Nat
  /-- Tags abandoned, by port * 1,024 + tag: later completions are ignored (R346); reset: none. -/
  dropped : List Nat
  /-- Engine accesses in progress, and the next number; reset: none, 0. -/
  esp : Table EspAccess
  nextEsp : Nat
  /-- Requests that the engines present while ESP_REQ_READY of their port is low, by op, oldest first (R347); reset:
  none. -/
  espHeld : List (Nat × EspReq)
  /-- Responses offered to the engines and not yet taken, oldest first (R347); reset: none. -/
  responses : List EspRsp
  /-- Latest engine-side request by (partition, context): its time (R318); reset: none. -/
  activity : List (Nat × Nat × Nat)
  deriving DecidableEq, Repr

/-- The slip engine and the notice rings (05). -/
structure SlipState where
  /-- Slip contexts in tray order (R98); reset: none. -/
  ctxs : List SlipCtx
  /-- By tray (R96); reset: none. -/
  trays : Table TrayRun
  /-- By ring (R111); reset: none. -/
  rings : Table RingRun
  /-- The tray served last by the admission checker (R106); reset: 63. -/
  lastTray : Nat
  /-- PROBEs that wait for the admission checker, with their port of arrival (R106); reset: none. -/
  probes : List (Nat × Packet)
  deriving DecidableEq, Repr

/-- The Collator and the sequencer cluster (06, 07). -/
structure CollatorState where
  /-- Tiles (R133); reset: none. -/
  tiles : List Tile
  /-- Order stamp of contributions (R137); reset: 0. -/
  stamp : Nat
  /-- Contributions waiting for a spill slot (R137); reset: none. -/
  waits : List CollWait
  /-- Collective entries' run state (R150); reset: none. -/
  entries : Table EntryRun
  /-- Uses of entries since reset; reset: 0. -/
  runs : Nat
  /-- Fan-outs of aborts, the first one running (R163); reset: none. -/
  fanouts : List Fanout
  /-- Program memory, words other than zero (R154); reset: zero. -/
  program : Table Word32
  /-- The physical slice whose substitution runs, and its logical number (R166); reset: none. -/
  substituting : Option (Nat × Nat)
  /-- The invocation of slice_self_test runs (R167); reset: false. -/
  testing : Bool
  /-- Physical slices whose accumulator storage has held a tile since it was cleared (R304); reset: none. -/
  stored : List Nat
  deriving DecidableEq, Repr

/-- Policer counts (R201): committed and peak tokens by policer. -/
structure PolicerRun where
  tc : Nat
  tp : Nat
  deriving DecidableEq, Repr

/-- The flush of port `port`'s link as its clock stopped (R226), held in the island's crossing since then (R281), with the
partner and its edition. -/
structure HeldEvent where
  port    : Nat
  peer    : Nat
  edition : Nat
  since   : Nat
  deriving DecidableEq, Repr

/-- Fabric time, MARK pins and the synchroniser (13). -/
structure TimeState where
  /-- The 96-bit accumulator whose upper 64 bits are fabric time (R279); reset: 0. -/
  acc : Nat
  /-- Time-island cycles since power-up (Table 13.5); reset: 0. -/
  cycles : Nat
  /-- freq and slew of the servo in units of 2^-40 (R285); reset: 0. -/
  freq : Int
  slew : Int
  /-- Exchanges in a row within lock_threshold (R285); reset: 0. -/
  inLock : Nat
  /-- Outstanding REQ: its sequence and t1 (R284); reset: none. -/
  req : Option (Nat × Nat)
  nextReqSeq : Nat
  /-- MARK_OUT's level (R289, R290); reset: low. -/
  markOut : Bool
  /-- Stamp of the latest accepted MARK_IN edge (R289); reset: none. -/
  lastEdge : Option Nat
  /-- Events held in the crossing of a port's island whose clock is stopped (R281); reset: none. -/
  heldEvents : List HeldEvent
  /-- While the events of an island that wakes are stamped, the length of its stop in ns (R281); reset: none. -/
  stopNs : Option Nat
  deriving DecidableEq, Repr

/-- Counters on demand, snapshot, trace, dump, stop and test access port (13). -/
structure ObserveState where
  /-- A snapshot waits for its time: mask and T (R293); reset: none. -/
  snapshot : Option (Nat × Nat)
  /-- Fall-back rings by source, oldest record first, and records lost since the last LOSS (R297); reset: empty. -/
  rings : Table (List Nat)
  lost : Table (Nat × Nat)
  /-- Records drained from each ring since it was cleared (R297, R304); reset: none. -/
  drained : Table Nat
  /-- The partial line of MAIN (R296), and the bucket in hundredths of a byte; reset: empty, full. -/
  line : List Nat
  bucket : Nat
  /-- The source drained last (R297); reset: 5. -/
  lastSource : Nat
  /-- Dumps being captured, and dump records waiting to be written (R300); reset: none. -/
  dumps : List Dump
  /-- Test access port: instruction register, selected chain, boundary cells, and bits shifted (R305); reset: IDCODE, 0, 0. -/
  tapIr : Nat
  tapChain : Nat
  tapBoundary : Nat
  tapOut : List Nat
  tapPos : Nat
  deriving DecidableEq, Repr

/-- Faults, partitions and reports (14). -/
structure RecoveryState where
  /-- partition_quiet has passed since the raise (R315); reset: none. -/
  quiet : List Nat
  /-- The management core is restarting (R312); reset: false. -/
  restarting : Bool
  /-- `TimeState.cycles` at the latest restart by the watchdog (R312); reset: none. -/
  lastRestart : Option Nat
  /-- Next report number, and the time of the first suppressed occurrence (R322); reset: 0, none. -/
  nextReport : Nat
  firstSuppressed : Option Nat
  /-- That stamp is late (R281); reset: false. -/
  firstLate : Bool
  /-- Central table rows that have failed in both copies (R316): table * 65,536 + row; reset: none. -/
  badRows : List Nat
  /-- The spare that stands for a tracker index, 0 to 511 (R325), and the spares that have failed themselves (R360);
  reset: none. -/
  spareTrackers : Table Nat
  badTrackers : List Nat
  /-- Partitions that passed drain_limit: DRAINING until whole-block reset (Table 14.5); reset: none. -/
  undrained : List Nat
  deriving DecidableEq, Repr

/-- Levels of the MII pins toward the Shelf net PHY (Table 12.10), as they stand between frames. TX_ER is no field: it is
driven 0 (R273). TX_EN and TXD are low while no frame is sent; a received frame leaves RX_ER as it had it (log entry 65). -/
structure MiiPins where
  txEn  : Bool
  txd   : Nat
  txClk : Bool
  rxClk : Bool
  rxd   : Nat
  rxDv  : Bool
  /-- RX_ER: a frame that arrives while it is asserted is discarded (R273). -/
  rxEr  : Bool
  crs   : Bool
  col   : Bool
  deriving DecidableEq, Repr

/-- The management core's Catalogue service and Shelf net (12). -/
structure MgmtState where
  /-- Bytes collected per host-window slot (R276); reset: none. -/
  collect : Table (Table Byte)
  /-- Snapshots per host-window slot (R276); reset: none. -/
  snaps : Table Nat
  /-- Answers to host-window reads, oldest first (R348); reset: none. -/
  slotReads : List SlotRead
  /-- Commands that wait (R260); reset: none. -/
  running : List Invocation
  /-- Messages waiting for a command, and the next message number (R269); reset: none, 1. -/
  msgs : List MsgRun
  nextMsg : Nat
  /-- Messages whose waiting invocation has ended, with its status and result, not yet continued (R269); reset: none. -/
  finished : List (Nat × Nat × Nat)
  /-- Accesses that wait for the log's queue, in order (R340); reset: none. -/
  waiting : List HeldAccess
  /-- Client table (R271); reset: none. -/
  clients : List Client
  /-- The long access of the host waits as this message number, 0 none (R277); reset: 0. -/
  longMsg : Nat
  /-- The owner, and whether its lease has expired (R267); reset: none. -/
  owner : Option Requester
  leaseOver : Bool
  /-- COMMISSIONING was entered from RETIRED (R14, R265); reset: false. -/
  fromRetired : Bool
  /-- request_number of the next message this block sends (R271); reset: 0. -/
  nextRequest : Nat
  /-- Datagrams and ICMPv6 messages sent (R274); reset: none. -/
  shelfOut : List ShelfOut
  /-- Duplicate address detection: runs, or has failed (R274); reset: false, false. -/
  dad : Bool
  dadFailed : Bool
  /-- DISCOVERs waiting for their delay: client address and port, request number (R274); reset: none. -/
  discovers : List (Nat × Nat × Nat)
  /-- The values in force of RWC objects written while COMMISSIONING: the commit puts the written ones in force (R266);
  reset: none. -/
  inForce : Table Nat
  /-- Invocations that are over and wait for a place in the log's queue, with status and result (R339, R340); reset:
  none. -/
  ended : List (Invocation × Nat × Nat)
  /-- Last RIGHTS_REFUSAL record by requester: its time (R340, Table 15.7); reset: none. -/
  refusals : List (Requester × Nat)
  /-- MII pins (R273); reset: every input low (DESIGN CHOICE, log entry 65). -/
  mii : MiiPins
  deriving DecidableEq, Repr

/-- Accession log beside its objects (15). -/
structure LogState where
  /-- Records waiting to be formed, oldest first (R340); reset: the POWER_UP record. -/
  queue : List LogEvent
  /-- Events dropped since the last EVENTS_DROPPED record (R340); reset: 0. -/
  dropped : Nat
  /-- Chain code of the latest record (R338); reset: 0. -/
  chain : Nat
  /-- Next record to drain, records written since enable, and the consumed count last read (R341); reset: 0. -/
  drainNext : Nat
  drainWritten : Nat
  drainConsumed : Nat
  /-- First lost record, how many, and the chain code of the last, not yet told by a LOG_GAP (R341); reset: none. -/
  drainGap : Option (Nat × Nat × Nat)
  /-- The record whose drain write is under way, and its chain code (R341); reset: none. -/
  draining : Option (Nat × Nat)
  deriving DecidableEq, Repr

/-- Counterpart mirroring beside its objects (15). -/
structure MirrorState where
  /-- Updates still to be formed, in order (R331, R332); reset: none. -/
  jobs : List MirrorJob
  /-- Unacknowledged updates (R331); reset: none. -/
  buffer : List MirrorUpdate
  /-- seq of the running snapshot's SNAPSHOT_END (R331); reset: none. -/
  snapshotEnd : Option Nat
  /-- The commit whose response waits (R335); reset: none. -/
  commitWait : Option CommitWait
  /-- Mirror bucket (R332); reset: full, 4,096. -/
  bucket : Bucket
  restore : Option Restore
  deriving DecidableEq, Repr

/-- The state of the block. -/
structure State where
  /-- Which instantiation this block is (Table 0.2); fixed; reset: SKX-8 (log entry 1). -/
  part : Part
  /-- Commands waiting, first in first out (the block model's queue); reset: none. -/
  pending : List Instr
  /-- Catalogue objects and table rows that differ from their defaults (R365, R369), key call number * 2^32 + row; reset: none. -/
  cat : Table Nat
  power : PowerState
  carrel : CarrelState
  switch : SwitchState
  host : HostSide
  slips : SlipState
  coll : CollatorState
  /-- Ports P0 to P7; reset: see `Port.reset`. -/
  ports : List Port
  /-- Policer counts by policer (R201); reset: none listed, which reads full. -/
  policers : Table PolicerRun
  time : TimeState
  observe : ObserveState
  recovery : RecoveryState
  mgmt : MgmtState
  log : LogState
  mirror : MirrorState
  /-- The model's own: how many free values have been drawn (log entry 2); reset: 0. -/
  freeCount : Nat
  deriving DecidableEq, Repr

/-- Why the machine stops with a fault. It is safe: it stops where the spec gives no effect. -/
inductive Fault where
  /-- EXTEST was used outside global stop and whole-block reset (R305, R12). Raised by EXTEST. Safe. -/
  | extestOutsideStop
  deriving DecidableEq, Repr

/-- Why a command is refused by the model. -/
inductive Refusal where
  /-- The command has no meaning yet. Raised by an arm of `exec`. Safe. -/
  | notModelled (mnemonic : String)
  /-- A private test mode: the block's behaviour is unpredictable (R2, R305). Raised by
  PRIVATE_TEST_MODE. Safe. -/
  | privateTestMode
  deriving DecidableEq, Repr

/-- A lane at reset: untrained (Table 11.16). -/
def Lane.reset : Lane :=
  { stage := 0, detects := 0, inverted := false, reports := none, badBlocks := 0, reqId := 0,
    answered := true, eqRequest := 0, eqTap := 0, rxDone := false, txDone := false, respId := 0,
    respStatus := 0, taps := 0x02F8_33FE, lock := 0, frameAt := none, barred := 0, flits := 0, plates := 0, plate := 0, probe := 0, probeAt := 0, samples := [],
    rxTrained := false, peerTrained := false, rxFailed := false, lost := false, test := 0, leaving := 0, testEnds := false,
    peerState := 0, announced := none, waking := false, addAsked := none, peerFailed := false, refused := false, badFrames := 0,
    injectAt := 0, injections := 0, injected := [], flips := 0, gen := 1, checker := Checker.reset, peerInject := false }

/-- A port at reset: INIT, empty, no session yet (R224, R227). -/
def Port.reset : Port :=
  { queues := [], active := [], lastLoan := 9, sentCount := [], buckets := [], oldCfg := [], tx := [],
    txSeq := 0, replay := [], replayAt := none, replayHeld := false, fruitless := 0,
    replayFrom := none, begun := [0, 0, 0, 0, 0, 0], freedSeen := [0, 0, 0, 0, 0, 0],
    xoffAt := none, cmds := [], lastLane := 9, expect := 0, gap := false, marks := [],
    heldFlits := [], behind := [], acted := [], nakDue := false, freed := [0, 0, 0, 0, 0, 0], creditTurn := 5,
    returned := [0, 0, 0, 0, 0, 0], creditAge := [0, 0, 0, 0, 0, 0], rxSlots := [], rxLost := 0, rxShort := 0, rxCut := none,
    rxPool := false, rxHeld := false, rxBuf := [], xoff := false, sent := [], everUp := false, newSession := false,
    heldEndpoint := 0x3FFFFF, heldEdition := 0, heldSession := 0, fast := false, stalled := false, told := false, ready := false,
    peerReady := false, peerWanted := 0, wanted := 0, lanes := List.replicate 10 Lane.reset, frames := [], asked := none }

/-- Every domain of the part, one bit each (Table 16.9 and its last line): SKX-4 and SKX-2 have fewer
ports, and their absent ledger and carrel domains are missing. -/
def partDomains (p : Part) : Nat :=
  match p with
  | .skx8 => 2 ^ 50 - 1
  | .skx4 => 2 ^ 38 - 1 - (2 ^ 22 + 2 ^ 23)
  | .skx2 => 2 ^ 32 - 1 - (2 ^ 21 + 2 ^ 22 + 2 ^ 23)

def PowerState.reset (p : Part) : PowerState :=
  { porLow := false, blockLow := false, partLow := [], droop := false, pdReq := partDomains p,
    switching := none, starting := false, faultLatched := false, image := none, skipped := [], clearing := none }

def CarrelState.reset : CarrelState :=
  { mem := [], poison := [], dead := [], replacing := [], spares := [], badSpares := [], layout := [16, 8, 8, 16, 16], foreign := [],
    turns := [] }

def SwitchState.reset : SwitchState :=
  { uses := [], epochs := [], trackers := [], turns := [], quarantine := [], retired := [], pairs := [], acks := [],
    rxWaits := [], passWaits := [], mgmtWaits := [], waits := [], holds := [], fences := [], loop := [], staleSeen := [],
    retiredSent := [], dupSeen := [], unreachable := [], loanUses := [] }

def HostSide.reset : HostSide :=
  { queues := [], outstanding := [], accesses := [], nextAccess := 0, inner := [], ready := [], locks := [], lockWaits := [],
    valid := [], beats := [], quiesce := 0, abandon := 0, resetReq := 0, dropped := [], esp := [], nextEsp := 0,
    espHeld := [], responses := [], activity := [] }

def SlipState.reset : SlipState := { ctxs := [], trays := [], rings := [], lastTray := 63, probes := [] }

def CollatorState.reset : CollatorState :=
  { tiles := [], stamp := 0, waits := [], entries := [], runs := 0, fanouts := [], program := [],
    substituting := none, testing := false, stored := [] }

def TimeState.reset : TimeState :=
  { acc := 0, cycles := 0, freq := 0, slew := 0, inLock := 0, req := none, nextReqSeq := 0,
    markOut := false, lastEdge := none, heldEvents := [], stopNs := none }

def ObserveState.reset : ObserveState :=
  { snapshot := none, rings := [], lost := [], drained := [], line := [], bucket := 409600, lastSource := 5,
    dumps := [], tapIr := 0x01, tapChain := 0, tapBoundary := 0, tapOut := [], tapPos := 0 }

def RecoveryState.reset : RecoveryState :=
  { quiet := [], restarting := false, lastRestart := none,
    nextReport := 0, firstSuppressed := none, firstLate := false, badRows := [],
    spareTrackers := [], badTrackers := [], undrained := [] }

def MgmtState.reset : MgmtState :=
  { collect := [], snaps := [], slotReads := [], running := [], msgs := [], nextMsg := 1, finished := [], waiting := [],
    clients := [], longMsg := 0, owner := none, leaseOver := false, fromRetired := false, nextRequest := 0, shelfOut := [], dad := false,
    dadFailed := false, discovers := [], inForce := [], ended := [], refusals := [],
    mii := { txEn := false, txd := 0, txClk := false, rxClk := false, rxd := 0, rxDv := false, rxEr := false, crs := false, col := false } }

/-- The log before its first record: POWER_UP (Table 15.7) waits to be formed (R337). Its detail
holds the part code [303:288] and the stepping [287:280]; its kind is 0x01 in [335:328]. -/
def LogState.reset : LogState :=
  { queue := [{ bits := 0x01 * 2 ^ 328 + 0x5808 * 2 ^ 288 + 0x10 * 2 ^ 280 }], dropped := 0, chain := 0,
    drainNext := 0, drainWritten := 0, drainConsumed := 0, drainGap := none, draining := none }

def MirrorState.reset : MirrorState :=
  { jobs := [], buffer := [], snapshotEnd := none, commitWait := none, bucket := { tokens := 4096, frac := 0 },
    restore := none }

/-- The block right after power-on reset, its domains on, the management core in BOOT (R349, R361
step 4), every object at its default. -/
def State.reset : State :=
  { part := .skx8, pending := [], cat := [], power := PowerState.reset .skx8,
    carrel := CarrelState.reset, switch := SwitchState.reset, host := HostSide.reset,
    slips := SlipState.reset, coll := CollatorState.reset, ports := List.replicate 8 Port.reset,
    policers := [], time := TimeState.reset, observe := ObserveState.reset,
    recovery := RecoveryState.reset, mgmt := MgmtState.reset, log := LogState.reset,
    mirror := MirrorState.reset, freeCount := 0 }

end Sys2Proof.Machine
end

