-- ==== Sys2Proof/Machine/Ops.lean ====
section
/-! DEFINITION. The shared operations below the rules: bit fields and bytes (R7), sparse tables, the
carrel's bytes (R15, R19), free values, and the state's small accessors. -/

namespace Sys2Proof.Machine

abbrev Out := Host.Outcome State Fault Refusal

/-! ### Bit fields and bytes (R7) -/

/-- Bits [hi:lo] of `v`. -/
def fld (v hi lo : Nat) : Nat := v / 2 ^ lo % 2 ^ (hi + 1 - lo)

/-- `v` with bits [hi:lo] replaced by the low bits of `x`. -/
def setFld (v hi lo x : Nat) : Nat :=
  v / 2 ^ (hi + 1) * 2 ^ (hi + 1) + x % 2 ^ (hi + 1 - lo) * 2 ^ lo + v % 2 ^ lo

def bit (v n : Nat) : Bool := Nat.testBit v n

def setBit (v n : Nat) (b : Bool) : Nat := setFld v n n (if b then 1 else 0)

def b2n (b : Bool) : Nat := if b then 1 else 0

/-- The `n` low bytes of `v`, byte 0 first. -/
def bytesLE : Nat → Nat → List Byte
  | 0, _ => []
  | n + 1, v => BitVec.ofNat 8 v :: bytesLE n (v / 256)

/-- The number whose byte n is the nth of the list. -/
def numLE : List Byte → Nat
  | [] => 0
  | b :: bs => b.toNat + 256 * numLE bs

/-- Two's complement of `n` bits read as a signed number. -/
def signed (n v : Nat) : Int :=
  let w := v % 2 ^ n
  if w < 2 ^ (n - 1) then (w : Int) else (w : Int) - 2 ^ n

/-- A signed number as `n` bits of two's complement. -/
def unsigned (n : Nat) (v : Int) : Nat := (v % (2 ^ n : Int)).toNat

/-- The number of set bits among the `n` low bits. -/
def popcount : Nat → Nat → Nat
  | 0, _ => 0
  | n + 1, v => v % 2 + popcount n (v / 2)

/-- The positions of the set bits among bits `lo` to `lo + n - 1`, lowest first. -/
def setBits : Nat → Nat → Nat → List Nat
  | 0, _, _ => []
  | n + 1, lo, v => (if bit v lo then [lo] else []) ++ setBits n (lo + 1) v

/-- (a - b) modulo 2^n. -/
def subMod (n a b : Nat) : Nat := (a % 2 ^ n + 2 ^ n - b % 2 ^ n) % 2 ^ n

/-- `x` is newer than `y` modulo 2^n (R41, R58, R330). -/
def newer (n x y : Nat) : Bool := 1 ≤ subMod n x y && subMod n x y ≤ 2 ^ (n - 1) - 1

/-- Numbers from `a` upward, `n` of them. -/
def upFrom : Nat → Nat → List Nat
  | _, 0 => []
  | a, n + 1 => a :: upFrom (a + 1) n

/-- The first element that satisfies `p`, with its place. -/
def findAt {α : Type} (p : α → Bool) : List α → Nat → Option (Nat × α)
  | [], _ => none
  | x :: xs, n => if p x then some (n, x) else findAt p xs (n + 1)

/-- `xs` with element `n` passed through `f`. -/
def modifyNth {α : Type} (f : α → α) : Nat → List α → List α
  | _, [] => []
  | 0, x :: xs => f x :: xs
  | n + 1, x :: xs => x :: modifyNth f n xs

/-- Element `n`, or `d` when there is none. -/
def nth {α : Type} (d : α) : Nat → List α → α
  | _, [] => d
  | 0, x :: _ => x
  | n + 1, _ :: xs => nth d n xs

/-! ### Sparse tables -/

def lookupT {α : Type} : Table α → Nat → Option α
  | [], _ => none
  | (j, v) :: t, k => if k = j then some v else lookupT t k

def insertT {α : Type} : Table α → Nat → α → Table α
  | [], k, v => [(k, v)]
  | (j, w) :: t, k, v =>
    if k < j then (k, v) :: (j, w) :: t
    else if k = j then (k, v) :: t
    else (j, w) :: insertT t k v

def eraseT {α : Type} (t : Table α) (k : Nat) : Table α := t.filter fun e => e.1 != k

/-- Keys strictly rising. -/
def sortedT {α : Type} : Table α → Bool
  | [] => true
  | [_] => true
  | (j, _) :: (k, w) :: t => j < k && sortedT ((k, w) :: t)

def keysT {α : Type} (t : Table α) : List Nat := t.map Prod.fst

/-! ### Bytes by address: the canonical memory -/

/-- A memory's canonical form: addresses strictly rising, no entry equal to what an unlisted address
reads as, which is zero (R362, log entry 5). -/
def Memory.wf : List Host.Cell → Bool
  | [] => true
  | [(_, v)] => v != 0
  | (a, v) :: (b, w) :: m => v != 0 && a < b && Memory.wf ((b, w) :: m)

/-- What an unlisted address reads as (R362 step 1; log entry 5). -/
def Memory.unlisted : Byte := 0

def Memory.readByte (m : List Host.Cell) (a : Nat) : Byte := (lookupT m a).getD Memory.unlisted

def Memory.writeByte (m : List Host.Cell) (a : Nat) (v : Byte) : List Host.Cell :=
  if v = Memory.unlisted then eraseT m a else insertT m a v

def Memory.read (m : List Host.Cell) (a : Nat) : Nat → List Byte
  | 0 => []
  | n + 1 => Memory.readByte m a :: Memory.read m (a + 1) n

def Memory.write (m : List Host.Cell) (a : Nat) : List Byte → List Host.Cell
  | [] => m
  | b :: bs => Memory.write (Memory.writeByte m a b) (a + 1) bs

/-! ### Accessors of the state -/

/-- A port; an absent one reads as a port at reset. -/
def port (s : State) (p : Nat) : Port := nth Port.reset p s.ports

def setPort (s : State) (p : Nat) (f : Port → Port) : State :=
  { s with ports := modifyNth f p s.ports }

def lane (s : State) (p n : Nat) : Lane := nth Lane.reset n (port s p).lanes

def setLane (s : State) (p n : Nat) (f : Lane → Lane) : State :=
  setPort s p fun q => { q with lanes := modifyNth f n q.lanes }

/-- Ports present (Table 0.2). -/
def portsOf (p : Part) : Nat :=
  match p with
  | .skx8 => 8
  | .skx4 => 4
  | .skx2 => 2

/-- Physical Collator slices present (Table 0.2). -/
def slicesOf (p : Part) : Nat :=
  match p with
  | .skx8 => 5
  | .skx4 => 3
  | .skx2 => 2

/-- The bits of `PART_CODE` (Table 0.2). -/
def partCode (p : Part) : Nat :=
  match p with
  | .skx8 => 0x5808
  | .skx4 => 0x5804
  | .skx2 => 0x5802

/-- Draw a free value: its number, and the state with the count advanced (log entry 2). -/
def draw (s : State) : Nat × State := (s.freeCount, { s with freeCount := s.freeCount + 1 })

/-- Fabric time: the upper 64 bits of the 96-bit accumulator (R279). -/
def now (s : State) : Nat := s.time.acc / 2 ^ 32 % 2 ^ 64

/-- A reset input holds the block (R349). -/
def held (s : State) : Bool := s.power.porLow || s.power.blockLow

/-- Apply `f` to each element in turn. -/
def forEach {α : Type} (xs : List α) (f : State → α → State) (s : State) : State := xs.foldl f s

end Sys2Proof.Machine
end

