-- ==== Sys2Proof/Machine/Arith.lean ====
section
/-! DEFINITION. Exact arithmetic: the formats of Table 6.2, contributions in units of their weight
(R125, R126), rounding (R127 to R131), ledger values (R142, R144) and the atomic operations of
Table 3.9 with FADD (R67, R69). -/

namespace Sys2Proof.Machine

/-- The special states of Table 6.3. -/
def stFinite := 0
def stPosInf := 1
def stNegInf := 2
def stNan := 3

/-- A float format: fraction bits, bias, the magnitude code of its largest finite value, and the codes
of infinity and of the canonical NaN where it has them; `width` counts all bits. -/
structure FloatFmt where
  width : Nat
  frac  : Nat
  bias  : Nat
  maxCode : Nat
  infCode : Option Nat
  nanCode : Option Nat
  deriving DecidableEq, Repr

def fp64 : FloatFmt :=
  { width := 64, frac := 52, bias := 1023, maxCode := 0x7FEF_FFFF_FFFF_FFFF,
    infCode := some 0x7FF0_0000_0000_0000, nanCode := some 0x7FF8_0000_0000_0000 }
def fp32 : FloatFmt :=
  { width := 32, frac := 23, bias := 127, maxCode := 0x7F7F_FFFF, infCode := some 0x7F80_0000,
    nanCode := some 0x7FC0_0000 }
def bf16 : FloatFmt :=
  { width := 16, frac := 7, bias := 127, maxCode := 0x7F7F, infCode := some 0x7F80, nanCode := some 0x7FC0 }
def fp16 : FloatFmt :=
  { width := 16, frac := 10, bias := 15, maxCode := 0x7BFF, infCode := some 0x7C00, nanCode := some 0x7E00 }
def e4m3 : FloatFmt :=
  { width := 8, frac := 3, bias := 7, maxCode := 0x7E, infCode := none, nanCode := some 0x7F }
def e5m2 : FloatFmt :=
  { width := 8, frac := 2, bias := 15, maxCode := 0x7B, infCode := some 0x7C, nanCode := some 0x7E }
def e2m1 : FloatFmt :=
  { width := 4, frac := 1, bias := 1, maxCode := 0x7, infCode := none, nanCode := none }
def e2m3 : FloatFmt :=
  { width := 6, frac := 3, bias := 1, maxCode := 0x1F, infCode := none, nanCode := none }
def e3m2 : FloatFmt :=
  { width := 6, frac := 2, bias := 3, maxCode := 0x1F, infCode := none, nanCode := none }

/-- The power of two of a format's smallest step, negated: its weight is 2^-that (Table 6.5). -/
def FloatFmt.weight (f : FloatFmt) : Nat := f.bias + f.frac - 1

/-- The magnitude of a finite code, in smallest steps. -/
def magUnits (f : FloatFmt) (code : Nat) : Nat :=
  let e := code / 2 ^ f.frac
  let m := code % 2 ^ f.frac
  if e = 0 then m else (2 ^ f.frac + m) * 2 ^ (e - 1)

/-- A float's state and its value in smallest steps (R126). -/
def decodeFloat (f : FloatFmt) (bits : Nat) : Nat × Int :=
  let neg := bit bits (f.width - 1)
  let code := bits % 2 ^ (f.width - 1)
  if code ≤ f.maxCode then
    (stFinite, if neg then -(magUnits f code : Int) else (magUnits f code : Int))
  else if f.infCode = some code then (if neg then stNegInf else stPosInf, 0)
  else (stNan, 0)

/-! ### Rounding -/

/-- The code of the largest value not above num / den smallest steps, and what is left of the step as
a fraction (numerator, denominator). -/
def floorMag (f : FloatFmt) (num den : Nat) : Nat × Nat × Nat :=
  let n := num / den
  let k := Nat.log2 n - f.frac
  let low := n / 2 ^ k
  (k * 2 ^ f.frac + low, num - low * 2 ^ k * den, 2 ^ k * den)

/-- Whether a mode takes the neighbour away from zero: `odd` the last bit of the one nearer zero,
rem / span the fraction of the step (R127, R131). -/
def roundsUp (mode r : Nat) (neg odd : Bool) (rem span : Nat) : Bool :=
  rem != 0 &&
    (if mode = 0 then span < 2 * rem || (2 * rem == span && odd)
     else if mode = 1 then false
     else if mode = 2 then neg
     else if mode = 3 then !neg
     else if neg then !(r < (span - rem) * 2 ^ 32 / span)
     else r < rem * 2 ^ 32 / span)

/-- The result of a finite overflow (Table 6.7, R128). -/
def overflowCode (f : FloatFmt) (mode : Nat) (saturate neg : Bool) : Nat :=
  let toMax := mode == 1 || (mode == 2 && !neg) || (mode == 3 && neg) || saturate
  match f.infCode with
  | some inf => if toMax then f.maxCode else inf
  | none => f.maxCode

/-- Round num / den smallest steps, negated when `neg`: the encoding, and whether it overflowed. A zero is +0, the only
zero that results leave (R128, chapter 7 on all-gathers; log entry 68). -/
def roundFloat (f : FloatFmt) (mode r : Nat) (saturate neg : Bool) (num den : Nat) : Nat × Bool :=
  if num = 0 then (0, false)
  else
    let (code, rem, span) := floorMag f num den
    let code := if roundsUp mode r neg (code % 2 = 1) rem span then code + 1 else code
    let sign := if neg then 2 ^ (f.width - 1) else 0
    if f.maxCode < code then (sign + overflowCode f mode saturate neg, true)
    else (if code = 0 then 0 else sign + code, false)

/-- Round an exact value `a` × 2^-`weight` to a float format. -/
def roundToFloat (f : FloatFmt) (mode r : Nat) (saturate : Bool) (a : Int) (weight : Nat) : Nat × Bool :=
  roundFloat f mode r saturate (a < 0) (a.natAbs * 2 ^ f.weight) (2 ^ weight)

/-- Round `a` × 2^-`weight` to an integer by a mode (R128, R131). -/
def roundToInt (mode r : Nat) (a : Int) (weight : Nat) : Int :=
  let lo := a / 2 ^ weight
  let rem := (a % 2 ^ weight).toNat
  let span := 2 ^ weight
  let up :=
    rem != 0 &&
      (if mode = 0 then span < 2 * rem || (2 * rem == span && lo % 2 != 0)
       else if mode = 1 then a < 0
       else if mode = 2 then false
       else if mode = 3 then true
       else r < rem * 2 ^ 32 / span)
  if up then lo + 1 else lo

/-- Saturate to `n` bits of two's complement: the value, and whether it was out of range. -/
def saturateInt (n : Nat) (v : Int) : Int × Bool :=
  if v < -(2 ^ (n - 1) : Int) then (-(2 ^ (n - 1) : Int), true)
  else if (2 ^ (n - 1) : Int) - 1 < v then ((2 ^ (n - 1) : Int) - 1, true)
  else (v, false)

/-- sr_number (R130). -/
def srNumber (seed collective element : Nat) : Nat :=
  let w := 2 ^ 64
  let x := seed % 2 ^ 32 * 2 ^ 32 + collective % 2 ^ 32
  let x := x ^^^ (element % 2 ^ 32 * 0x9E37_79B9_7F4A_7C15 % w)
  let x := (x ^^^ (x / 2 ^ 30)) * 0xBF58_476D_1CE4_E5B9 % w
  let x := (x ^^^ (x / 2 ^ 27)) * 0x94D0_49BB_1331_11EB % w
  let x := x ^^^ (x / 2 ^ 31)
  x / 2 ^ 32

/-! ### States (Table 6.6) -/

def combineState (a b : Nat) : Nat :=
  if a = b then a
  else if a = stFinite then b
  else if b = stFinite then a
  else stNan

/-! ### Collator formats (Table 6.2) -/

/-- Input codes (R123). -/
def inputFormat (c : Nat) : Bool := c ≤ 0x06 || (0x08 ≤ c && c ≤ 0x0B)

def mxFormat (c : Nat) : Bool := 0x08 ≤ c && c ≤ 0x0B

/-- Output codes (Table 6.9). -/
def outputFormat (c : Nat) : Bool := c ≤ 0x07 || c == 0x1F

/-- A code listed in Table 6.2. -/
def listedFormat (c : Nat) : Bool := c ≤ 0x0B || c == 0x10 || c == 0x11 || c == 0x1F

/-- The long path (Table 6.2). -/
def longFormat (c : Nat) : Bool := c ≤ 0x02 || mxFormat c || c == 0x1F

/-- The float format of a code's element; none for the integer codes. -/
def elementFmt (c : Nat) : Option FloatFmt :=
  if c = 0x00 then some fp32
  else if c = 0x01 then some bf16
  else if c = 0x02 then some fp16
  else if c = 0x03 || c = 0x08 then some e4m3
  else if c = 0x04 then some e5m2
  else if c = 0x05 || c = 0x0B then some e2m1
  else if c = 0x09 then some e2m3
  else if c = 0x0A then some e3m2
  else none

/-- The weight of a format's accumulator is 2^-this (Table 6.5). -/
def formatWeight (c : Nat) : Nat :=
  match elementFmt c with
  | some f => f.weight + (if mxFormat c then 127 else 0)
  | none => 0

/-- Elements in one wire unit, and its bytes (Table 6.2, R122). -/
def unitElements (c : Nat) : Nat := if mxFormat c then 32 else if c = 0x05 then 2 else 1

def unitBytes (c : Nat) : Nat :=
  if c = 0x00 || c = 0x07 then 4
  else if c = 0x01 || c = 0x02 then 2
  else if c = 0x08 then 33
  else if c = 0x09 || c = 0x0A then 25
  else if c = 0x0B then 17
  else if c = 0x10 then 8
  else if c = 0x11 then 16
  else if c = 0x1F then 40
  else 1

/-- A contribution: its state and, when finite, its value in units of the format's weight. -/
structure Contribution where
  state : Nat
  value : Int
  deriving DecidableEq, Repr

/-- An element of a plain format (R125, R126). -/
def plainElement (c bits : Nat) : Contribution :=
  match elementFmt c with
  | some f => { state := (decodeFloat f bits).1, value := (decodeFloat f bits).2 }
  | none => { state := stFinite, value := signed (8 * unitBytes c) bits }

/-- An element of an MX block under its scale byte (R125, R126). -/
def mxElement (c scale bits : Nat) : Contribution :=
  match elementFmt c with
  | some f =>
    if scale = 0xFF then { state := stNan, value := 0 }
    else { state := (decodeFloat f bits).1, value := (decodeFloat f bits).2 * 2 ^ scale }
  | none => { state := stNan, value := 0 }

/-- The elements of one wire unit (R122). -/
def unitContributions (c : Nat) (bs : List Byte) : List Contribution :=
  let v := numLE bs
  if mxFormat c then
    let w := match elementFmt c with
      | some f => f.width
      | none => 0
    (upFrom 0 32).map fun i => mxElement c (v % 256) (v / 2 ^ (8 + w * i) % 2 ^ w)
  else if c = 0x05 then [plainElement c (v % 16), plainElement c (v / 16 % 16)]
  else [plainElement c v]

/-- Cut bytes into runs of `n`; `fuel` bounds them. -/
def chunks (n : Nat) : Nat → List Byte → List (List Byte)
  | 0, _ => []
  | fuel + 1, bs => if bs.isEmpty then [] else bs.take n :: chunks n fuel (bs.drop n)

/-- The elements packed in a CONTRIB's data bytes (R122). -/
def unpackElements (c : Nat) (bs : List Byte) : List Contribution :=
  (chunks (unitBytes c) bs.length bs).flatMap (unitContributions c)

/-! ### Element results -/

/-- The output of a state that is not FINITE (Table 6.8). -/
def stateOutput (c state : Nat) : Nat :=
  let top := if c = 0x06 then 127 else if c = 0x07 then 2 ^ 31 - 1 else 2 ^ 63 - 1
  let width := 8 * unitBytes c
  match elementFmt c with
  | some f =>
    if state = stNan then f.nanCode.getD 0
    else (if state = stNegInf then 2 ^ (f.width - 1) else 0) + f.infCode.getD f.maxCode
  | none =>
    if state = stPosInf then top
    else if state = stNegInf then 2 ^ width - 1 - top
    else 0

/-- The LONG element of an accumulator (Table 6.3). -/
def longElement (poison : Bool) (state : Nat) (value : AccValue) : Nat :=
  b2n poison * 2 ^ 319 + state % 4 * 2 ^ 317 + value.toNat

/-- A FINITE element rounded to an output format: the encoding and whether it overflowed (R127, R128). -/
def roundOutput (out mode r : Nat) (saturate : Bool) (a : Int) (weight : Nat) : Nat × Bool :=
  match elementFmt out with
  | some f => roundToFloat f mode r saturate a weight
  | none =>
    let n := 8 * unitBytes out
    let (v, ovf) := saturateInt n (roundToInt mode r a weight)
    (unsigned n v, ovf)

/-! ### Ledger values (R142 to R144) -/

/-- A ledger value format for an add, or for a read. -/
def ledgerAddFormat (c : Nat) : Bool := c == 0x00 || c == 0x01 || c == 0x07 || c == 0x10

def ledgerReadFormat (c : Nat) : Bool := ledgerAddFormat c || c == 0x11

/-- The contribution of a LEDGER_ADD slot, in units of 2^-149 (R125). -/
def ledgerContribution (c slot : Nat) : Contribution :=
  if c = 0x00 then plainElement c (slot % 2 ^ 32)
  else if c = 0x01 then
    { plainElement c (slot % 2 ^ 16) with value := (plainElement c (slot % 2 ^ 16)).value * 2 ^ 16 }
  else if c = 0x07 then { state := stFinite, value := signed 32 slot * 2 ^ 149 }
  else { state := stFinite, value := signed 64 slot * 2 ^ 149 }

/-- The slot a ledger read returns for a cell (R144). -/
def ledgerSlot (c mode state : Nat) (value : AccValue) : Nat :=
  let a := signed 310 value.toNat
  if c = 0x11 then
    if state = stFinite then unsigned 128 (saturateInt 128 (roundToInt mode 0 a 85)).1
    else if state = stPosInf then 2 ^ 127 - 1
    else if state = stNegInf then 2 ^ 127
    else 0
  else if state = stFinite then (roundOutput c mode 0 false a 149).1
  else stateOutput c state

/-! ### Atomics (Table 3.9) -/

/-- The sign bit of a float. -/
def isNeg (f : FloatFmt) (v : Nat) : Bool := bit v (f.width - 1)

/-- FADD (R69). -/
def fadd (f : FloatFmt) (a b : Nat) : Nat :=
  let (sa, va) := decodeFloat f a
  let (sb, vb) := decodeFloat f b
  let st := combineState sa sb
  if st = stNan then f.nanCode.getD 0
  else if st = stPosInf then f.infCode.getD 0
  else if st = stNegInf then 2 ^ (f.width - 1) + f.infCode.getD 0
  else if va + vb = 0 then
    (if isNeg f a && isNeg f b then 2 ^ (f.width - 1) else 0)
  else (roundFloat f 0 0 false (va + vb < 0) (va + vb).natAbs 1).1

/-- The value an atomic of `n` bits writes (Table 3.9). -/
def atomicResult (sub n old operand compare : Nat) : Nat :=
  let old := old % 2 ^ n
  let x := operand % 2 ^ n
  if sub = 0x00 then (old + x) % 2 ^ n
  else if sub = 0x01 then old &&& x
  else if sub = 0x02 then old ||| x
  else if sub = 0x03 then old ^^^ x
  else if sub = 0x04 then (if signed n old ≤ signed n x then old else x)
  else if sub = 0x05 then (if signed n old ≤ signed n x then x else old)
  else if sub = 0x06 then min old x
  else if sub = 0x07 then max old x
  else if sub = 0x08 then x
  else if sub = 0x09 then (if old = compare % 2 ^ n then x else old)
  else if sub = 0x0A then fadd (if n = 64 then fp64 else fp32) old x
  else old

end Sys2Proof.Machine
end

