-- ==== Sys2Proof/Machine/Codes.lean ====
section
/-! DEFINITION. The check codes: CRC-32C (R61) and SHA-256 (R338, FIPS 180-4). -/

namespace Sys2Proof.Machine

/-- `n` steps of a reflected CRC register with the bit-reversed polynomial `poly`. -/
def crcShift (poly : Nat) : Nat → Nat → Nat
  | 0, r => r
  | n + 1, r => crcShift poly n (if r % 2 = 1 then r / 2 ^^^ poly else r / 2)

/-- A 32-bit CRC of bytes, reflected, start and result complemented. -/
def crcBytes (poly : Nat) (bs : List Byte) : Nat :=
  (bs.foldl (fun r b => crcShift poly 8 (r ^^^ b.toNat)) 0xFFFF_FFFF) ^^^ 0xFFFF_FFFF

/-- CRC-32C of bytes (R61): Castagnoli. -/
def crc32c (bs : List Byte) : Nat := crcBytes 0x82F6_3B78 bs

/-- The frame check sequence of IEEE 802.3 (Table 12.9). -/
def frameCheck (bs : List Byte) : Nat := crcBytes 0xEDB8_8320 bs

/-- The `n` low bytes of `v`, most significant first: the order of Ethernet and IPv6. -/
def bytesBE (n v : Nat) : List Byte := (bytesLE n v).reverse

/-- The sum of 16-bit words, most significant byte first; an odd last byte is followed by zero. -/
def sumWords : List Byte → Nat
  | a :: b :: bs => a.toNat * 256 + b.toNat + sumWords bs
  | [a] => a.toNat * 256
  | [] => 0

/-- The ones' complement sum of UDP and ICMPv6 over the pseudo-header of IPv6 and the payload (RFC 8200). -/
def onesSum (src dst proto : Nat) (payload : List Byte) : Nat :=
  let t := sumWords (bytesBE 16 src ++ bytesBE 16 dst ++ bytesBE 4 payload.length ++ bytesBE 4 proto ++ payload)
  if t = 0 then 0 else (t - 1) % 65535 + 1

/-- An ICMPv6 message with its checksum: type and code, and what follows the checksum. -/
def icmpMessage (src dst type : Nat) (rest : List Byte) : List Byte :=
  let head := bytesBE 1 type ++ bytesBE 1 0
  head ++ bytesBE 2 (65535 - onesSum src dst 58 (head ++ [0, 0] ++ rest)) ++ rest

/-! ### SHA-256 -/

def ror32 (n x : Nat) : Nat := x / 2 ^ n + x % 2 ^ n * 2 ^ (32 - n)

def add32 (a b : Nat) : Nat := (a + b) % 2 ^ 32

/-- The largest `r` below 2^n with `r ^ e ≤ x`, bit by bit from the top; `r` holds the bits found. -/
def rootBits (e x : Nat) : Nat → Nat → Nat
  | 0, r => r
  | n + 1, r => rootBits e x n (if (r + 2 ^ n) ^ e ≤ x then r + 2 ^ n else r)

/-- The first 32 bits of the fraction of the `e`-th root of a number below 2^15. -/
def rootFraction (e p : Nat) : Nat := rootBits e (p * 2 ^ (32 * e)) 40 0 % 2 ^ 32

/-- Whether a number below 361 is a prime. -/
def smallPrime (n : Nat) : Bool := (upFrom 2 17).all fun d => n ≤ d || n % d != 0

/-- The first 64 primes are those up to 311. -/
def shaPrimes : List Nat := (upFrom 2 310).filter smallPrime

/-- A round's constant is the fraction of the cube root of its prime. -/
def shaConstants : List Nat := shaPrimes.map (rootFraction 3)

/-- The eight working words. -/
structure ShaWords where
  a : Nat
  b : Nat
  c : Nat
  d : Nat
  e : Nat
  f : Nat
  g : Nat
  h : Nat
  deriving DecidableEq, Repr

/-- The words before the first block: the fractions of the square roots of the first eight primes. -/
def shaInit : ShaWords :=
  let root (i : Nat) : Nat := rootFraction 2 (nth 0 i shaPrimes)
  { a := root 0, b := root 1, c := root 2, d := root 3, e := root 4, f := root 5, g := root 6, h := root 7 }

/-- One round with constant `k` and message word `w`. -/
def shaRound (v : ShaWords) (k w : Nat) : ShaWords :=
  let big1 := ror32 6 v.e ^^^ ror32 11 v.e ^^^ ror32 25 v.e
  let ch := (v.e &&& v.f) ^^^ ((0xFFFF_FFFF - v.e) &&& v.g)
  let t1 := add32 (add32 (add32 v.h big1) ch) (add32 k w)
  let big0 := ror32 2 v.a ^^^ ror32 13 v.a ^^^ ror32 22 v.a
  let maj := (v.a &&& v.b) ^^^ (v.a &&& v.c) ^^^ (v.b &&& v.c)
  { a := add32 t1 (add32 big0 maj), b := v.a, c := v.b, d := v.c,
    e := add32 v.d t1, f := v.e, g := v.f, h := v.g }

/-- The rounds over a list of constants, with the sliding window of sixteen message words. -/
def shaRounds : List Nat → List Nat → ShaWords → List Nat × ShaWords
  | [], ws, v => (ws, v)
  | k :: ks, ws, v =>
    let w1 := nth 0 1 ws
    let w14 := nth 0 14 ws
    let s0 := ror32 7 w1 ^^^ ror32 18 w1 ^^^ (w1 / 2 ^ 3)
    let s1 := ror32 17 w14 ^^^ ror32 19 w14 ^^^ (w14 / 2 ^ 10)
    let next := add32 (add32 s1 (nth 0 9 ws)) (add32 s0 (nth 0 0 ws))
    shaRounds ks (ws.drop 1 ++ [next]) (shaRound v k (nth 0 0 ws))

/-- One block of sixteen words. -/
def shaBlock (v : ShaWords) (ws : List Nat) : ShaWords :=
  let r := (shaRounds shaConstants ws v).2
  { a := add32 v.a r.a, b := add32 v.b r.b, c := add32 v.c r.c, d := add32 v.d r.d,
    e := add32 v.e r.e, f := add32 v.f r.f, g := add32 v.g r.g, h := add32 v.h r.h }

/-- Big-endian 32-bit words of a byte list. -/
def words32BE : List Byte → List Nat
  | b0 :: b1 :: b2 :: b3 :: bs =>
    (b0.toNat * 2 ^ 24 + b1.toNat * 2 ^ 16 + b2.toNat * 2 ^ 8 + b3.toNat) :: words32BE bs
  | _ => []

/-- The first 8 digest bytes, byte i of the digest in byte i of the result, of a message of exactly
64 bytes: one block, and one of padding (R338: the message is 8 + 56 bytes). -/
def sha256First8 (msg : List Byte) : Nat :=
  let v := shaBlock (shaBlock shaInit (words32BE msg))
    [0x8000_0000, 0, 0, 0, 0, 0, 0, 0, 0, 0, 0, 0, 0, 0, 0, 512]
  let be := v.a * 2 ^ 32 + v.b
  numLE (bytesLE 8 be).reverse

end Sys2Proof.Machine
end

