-- ==== Sys2Proof/Machine/Objects.lean ====
section
/-! DEFINITION. The Catalogue's object set (R365 to R369): which objects exist, their types, access
classes, ranges and defaults, and the store that holds their values. A call number is written as one
number, index * 256 + subindex, so `1100.02` is 0x1100_02. A duration is in units of 2^-8 ns. -/

namespace Sys2Proof.Machine

/-- Types of Table 12.1. -/
inductive CatType where
  | bool | u8 | u16 | u32 | u64 | i64 | time | enum8
  | octets (n : Nat)
  | table (rows rowBytes : Nat)
  | cmd
  deriving DecidableEq, Repr

/-- Access classes of Table 12.2. -/
inductive Access12 where
  | ro | rw | rwc | cmd
  deriving DecidableEq, Repr

/-- What an instance of a call number counts (Table 17.1). -/
inductive Instance17 where
  | one | portIndex | portLow | portSub | sliceSub | sourceSub | sourceSub1
  deriving DecidableEq, Repr

/-- One object or run of objects: index (port digit 0), first and last subindex, what it counts,
type, access, the range of a value where its row gives one, and the bits that are not reserved. -/
structure Obj where
  index : Nat
  first : Nat
  last  : Nat
  inst  : Instance17
  type  : CatType
  access : Access12
  range : Option (Nat × Nat)
  keep  : Option Nat
  deriving DecidableEq, Repr

/-- Objects `1xxx` (Tables 17.2 to 17.11). -/
def objects1a : List Obj :=
  [ ⟨0x1000, 0x01, 0x01, .one, .u16, .ro, none, none⟩,
    ⟨0x1000, 0x02, 0x02, .one, .u16, .ro, none, none⟩,
    ⟨0x1000, 0x03, 0x03, .one, .u8, .ro, none, none⟩,
    ⟨0x1000, 0x04, 0x04, .one, .u16, .ro, none, none⟩,
    ⟨0x1001, 0x00, 0x00, .one, .u32, .rwc, none, some 0x3FFFFF⟩,
    ⟨0x1002, 0x00, 0x00, .one, .u8, .rwc, none, none⟩,
    ⟨0x1010, 0x01, 0x01, .one, .u8, .ro, none, none⟩,
    ⟨0x1010, 0x02, 0x02, .one, .u8, .ro, none, none⟩,
    ⟨0x1010, 0x03, 0x03, .one, .u32, .ro, none, none⟩,
    ⟨0x1010, 0x04, 0x04, .one, .u8, .ro, none, none⟩,
    ⟨0x1010, 0x05, 0x05, .one, .u16, .ro, none, none⟩,
    ⟨0x1010, 0x06, 0x06, .one, .u16, .ro, none, none⟩,
    ⟨0x1010, 0x07, 0x07, .one, .u8, .ro, none, none⟩,
    ⟨0x1010, 0x08, 0x08, .one, .u8, .ro, none, none⟩,
    ⟨0x1010, 0x09, 0x09, .one, .u16, .ro, none, none⟩,
    ⟨0x1100, 0x00, 0x00, .one, .enum8, .rw, some (0, 3), none⟩,
    ⟨0x1100, 0x01, 0x01, .one, (.octets 16), .ro, none, none⟩,
    ⟨0x1100, 0x02, 0x02, .one, .time, .rw, some (256000000000, 153600000000000), none⟩,
    ⟨0x1100, 0x03, 0x03, .one, .u8, .ro, none, none⟩,
    ⟨0x1101, 0x01, 0x01, .one, .u32, .rwc, none, some 0x1FFFF⟩,
    ⟨0x1101, 0x02, 0x02, .one, .u32, .rwc, none, some 0x1FFFF⟩,
    ⟨0x1101, 0x03, 0x03, .one, .u32, .rwc, none, some 0x1FFFF⟩,
    ⟨0x1101, 0x04, 0x04, .one, .u32, .rwc, none, some 0x1FFFF⟩,
    ⟨0x1101, 0x05, 0x05, .one, .u32, .rwc, some (4194048, 4194287), none⟩,
    ⟨0x1101, 0x06, 0x06, .one, .u32, .rwc, some (4194048, 4194287), none⟩,
    ⟨0x1110, 0x01, 0x01, .one, .u64, .ro, none, none⟩,
    ⟨0x1110, 0x02, 0x02, .one, .u64, .ro, none, none⟩,
    ⟨0x1110, 0x03, 0x03, .one, .u64, .ro, none, none⟩,
    ⟨0x1110, 0x04, 0x04, .one, .u8, .ro, none, none⟩,
    ⟨0x1110, 0x05, 0x05, .one, .u8, .ro, none, none⟩ ]

/-- Objects `1xxx` (Tables 17.2 to 17.11). -/
def objects1b : List Obj :=
  [ ⟨0x11F0, 0x00, 0x00, .one, (.octets 16), .rw, none, none⟩,
    ⟨0x11F0, 0x01, 0x01, .one, (.octets 16), .ro, none, none⟩,
    ⟨0x11F1, 0x00, 0xFF, .one, (.octets 16), .rw, none, none⟩,
    ⟨0x1200, 0x01, 0x01, .one, .bool, .rw, none, none⟩,
    ⟨0x1200, 0x02, 0x02, .one, (.octets 6), .rw, none, none⟩,
    ⟨0x1200, 0x03, 0x03, .one, .u16, .rw, some (1, 65535), none⟩,
    ⟨0x1200, 0x04, 0x04, .one, .u8, .rw, none, none⟩,
    ⟨0x1200, 0x05, 0x05, .one, .u8, .rw, some (1, 255), none⟩,
    ⟨0x1200, 0x06, 0x06, .one, .u8, .rw, some (1, 255), none⟩,
    ⟨0x1200, 0x07, 0x07, .one, .u8, .rw, none, none⟩,
    ⟨0x1200, 0x08, 0x08, .one, .u8, .rw, some (1, 255), none⟩,
    ⟨0x1200, 0x09, 0x09, .one, .time, .rw, some (256000000000, 921600000000000), none⟩,
    ⟨0x1200, 0x0A, 0x0A, .one, (.octets 18), .rw, none, none⟩,
    ⟨0x1210, 0x01, 0x01, .one, .u64, .ro, none, none⟩,
    ⟨0x1210, 0x02, 0x02, .one, .u64, .ro, none, none⟩,
    ⟨0x1210, 0x03, 0x03, .one, .u64, .ro, none, none⟩,
    ⟨0x1210, 0x04, 0x04, .one, .u64, .ro, none, none⟩,
    ⟨0x1210, 0x05, 0x05, .one, .u64, .ro, none, none⟩,
    ⟨0x1210, 0x06, 0x06, .one, .u32, .ro, none, none⟩ ]

/-- Objects `2xxx` (Tables 17.2 to 17.11). -/
def objects2a : List Obj :=
  [ ⟨0x2000, 0x01, 0x01, .portIndex, .enum8, .ro, none, none⟩,
    ⟨0x2000, 0x02, 0x02, .portIndex, .time, .rw, some (0, 256000000000), none⟩,
    ⟨0x2000, 0x03, 0x03, .portIndex, .u16, .ro, none, none⟩,
    ⟨0x2000, 0x04, 0x04, .portIndex, .cmd, .cmd, none, none⟩,
    ⟨0x2000, 0x05, 0x05, .portIndex, .time, .ro, none, none⟩,
    ⟨0x2000, 0x06, 0x06, .portIndex, .time, .rw, some (25600, 2560000), none⟩,
    ⟨0x2000, 0x07, 0x07, .portIndex, .u8, .rw, some (1, 255), none⟩,
    ⟨0x2000, 0x08, 0x08, .portIndex, .u32, .rw, some (1024, 65536), none⟩,
    ⟨0x2000, 0x09, 0x09, .portIndex, .u32, .ro, none, none⟩,
    ⟨0x2000, 0x0A, 0x0A, .portIndex, .u32, .ro, none, none⟩,
    ⟨0x2010, 0x01, 0x01, .portIndex, .u16, .ro, none, none⟩,
    ⟨0x2010, 0x02, 0x02, .portIndex, .u16, .ro, none, none⟩,
    ⟨0x2010, 0x03, 0x03, .portIndex, .cmd, .cmd, none, none⟩,
    ⟨0x2020, 0x01, 0x01, .portIndex, .u64, .ro, none, none⟩,
    ⟨0x2020, 0x02, 0x02, .portIndex, .u64, .ro, none, none⟩,
    ⟨0x2020, 0x03, 0x03, .portIndex, .u64, .ro, none, none⟩,
    ⟨0x2020, 0x04, 0x04, .portIndex, .u64, .ro, none, none⟩,
    ⟨0x2020, 0x05, 0x05, .portIndex, .u64, .ro, none, none⟩,
    ⟨0x2020, 0x06, 0x06, .portIndex, .u64, .ro, none, none⟩,
    ⟨0x2020, 0x07, 0x07, .portIndex, .u64, .ro, none, none⟩,
    ⟨0x2020, 0x08, 0x08, .portIndex, .u64, .ro, none, none⟩,
    ⟨0x2020, 0x09, 0x09, .portIndex, .u64, .ro, none, none⟩,
    ⟨0x2020, 0x0A, 0x0A, .portIndex, .u32, .ro, none, none⟩,
    ⟨0x2020, 0x0B, 0x0B, .portIndex, .u32, .ro, none, none⟩,
    ⟨0x2020, 0x0C, 0x0C, .portIndex, .u64, .ro, none, none⟩,
    ⟨0x2020, 0x0D, 0x0D, .portIndex, .u64, .ro, none, none⟩,
    ⟨0x2020, 0x0E, 0x0E, .portIndex, .u32, .ro, none, none⟩,
    ⟨0x2030, 0x01, 0x06, .portIndex, .u16, .ro, none, none⟩,
    ⟨0x2040, 0x01, 0x01, .portIndex, (.octets 64), .ro, none, none⟩,
    ⟨0x2040, 0x02, 0x02, .portIndex, .u32, .ro, none, none⟩ ]

/-- Objects `2xxx` (Tables 17.2 to 17.11). -/
def objects2b : List Obj :=
  [ ⟨0x2040, 0x03, 0x03, .portIndex, .u16, .ro, none, none⟩,
    ⟨0x2040, 0x04, 0x04, .portIndex, .bool, .ro, none, none⟩,
    ⟨0x2050, 0x01, 0x01, .portIndex, .enum8, .ro, none, none⟩,
    ⟨0x2050, 0x02, 0x02, .portIndex, .time, .rw, some (2560000000, 2560000000000), none⟩,
    ⟨0x2050, 0x03, 0x03, .portIndex, .time, .rw, some (25600000, 256000000000), none⟩,
    ⟨0x2050, 0x04, 0x04, .portIndex, .u8, .rw, some (1, 8), none⟩,
    ⟨0x2050, 0x05, 0x05, .portIndex, .enum8, .rw, some (0, 2), none⟩,
    ⟨0x2050, 0x06, 0x06, .portIndex, .enum8, .rw, some (0, 2), none⟩,
    ⟨0x2050, 0x07, 0x07, .portIndex, .u8, .rw, some (1, 255), none⟩,
    ⟨0x2050, 0x08, 0x08, .portIndex, .time, .rw, some (2560000000, 2560000000000), none⟩,
    ⟨0x2050, 0x09, 0x09, .portIndex, .u32, .ro, none, none⟩,
    ⟨0x2050, 0x0A, 0x0A, .portIndex, .u32, .ro, none, none⟩,
    ⟨0x2050, 0x0B, 0x0B, .portIndex, .u32, .ro, none, none⟩,
    ⟨0x2080, 0x01, 0x01, .portIndex, .u64, .ro, none, none⟩,
    ⟨0x2080, 0x02, 0x02, .portIndex, .u64, .ro, none, none⟩,
    ⟨0x2080, 0x03, 0x03, .portIndex, .u64, .ro, none, none⟩,
    ⟨0x2080, 0x04, 0x04, .portIndex, .u64, .ro, none, none⟩ ]

/-- Objects `3xxx` (Tables 17.2 to 17.11). -/
def objects3a : List Obj :=
  [ ⟨0x3000, 0x01, 0x0A, .portIndex, .u8, .ro, none, none⟩,
    ⟨0x3001, 0x01, 0x0A, .portIndex, .u64, .rw, none, some 0xFFFFFFFFFF⟩,
    ⟨0x3002, 0x01, 0x0A, .portIndex, .enum8, .rw, some (0, 1), none⟩,
    ⟨0x3003, 0x01, 0x0A, .portIndex, .u64, .ro, none, none⟩,
    ⟨0x3004, 0x01, 0x0A, .portIndex, .u64, .ro, none, none⟩,
    ⟨0x3005, 0x01, 0x0A, .portIndex, .u64, .ro, none, none⟩,
    ⟨0x3006, 0x01, 0x0A, .portIndex, (.table 16 8), .ro, none, none⟩,
    ⟨0x3007, 0x01, 0x0A, .portIndex, .u32, .ro, none, none⟩,
    ⟨0x3008, 0x01, 0x0A, .portIndex, .u32, .ro, none, none⟩,
    ⟨0x3009, 0x01, 0x0A, .portIndex, .u8, .ro, none, none⟩,
    ⟨0x300A, 0x01, 0x0A, .portIndex, .u32, .rw, none, none⟩,
    ⟨0x300B, 0x01, 0x0A, .portIndex, .u32, .rw, none, none⟩,
    ⟨0x300C, 0x01, 0x0A, .portIndex, .u64, .ro, none, none⟩,
    ⟨0x300D, 0x01, 0x0A, .portIndex, .u64, .ro, none, none⟩,
    ⟨0x300E, 0x01, 0x0A, .portIndex, .enum8, .ro, none, none⟩,
    ⟨0x300F, 0x01, 0x0A, .portIndex, .u32, .rw, none, none⟩,
    ⟨0x3010, 0x01, 0x0A, .portIndex, .cmd, .cmd, none, none⟩,
    ⟨0x3011, 0x01, 0x0A, .portIndex, .u32, .ro, none, none⟩ ]

/-- Objects `4xxx` (Tables 17.2 to 17.11). -/
def objects4a : List Obj :=
  [ ⟨0x4000, 0x01, 0x01, .one, .u64, .ro, none, none⟩,
    ⟨0x4000, 0x02, 0x02, .one, .u64, .ro, none, none⟩,
    ⟨0x4000, 0x03, 0x03, .one, .u64, .ro, none, none⟩,
    ⟨0x4001, 0x00, 0x00, .one, .u8, .rw, none, none⟩,
    ⟨0x4100, 0x00, 0x00, .one, (.table 65536 2), .rw, none, none⟩,
    ⟨0x4101, 0x00, 0x00, .one, (.table 4096 8), .rw, none, none⟩,
    ⟨0x4102, 0x00, 0x00, .one, (.table 256 8), .rw, none, none⟩,
    ⟨0x4103, 0x00, 0x00, .one, .u16, .ro, none, none⟩ ]

/-- Objects `5xxx` (Tables 17.2 to 17.11). -/
def objects5a : List Obj :=
  [ ⟨0x5000, 0x01, 0x01, .one, .u16, .ro, none, none⟩,
    ⟨0x5000, 0x02, 0x02, .one, .time, .rw, some (0, 256000000000), none⟩,
    ⟨0x5000, 0x03, 0x03, .one, .time, .rw, some (256000000, 2560000000000), none⟩,
    ⟨0x5000, 0x04, 0x04, .one, .u16, .ro, none, none⟩,
    ⟨0x5000, 0x05, 0x05, .one, .time, .rw, none, none⟩,
    ⟨0x5000, 0x06, 0x06, .one, .u64, .ro, none, none⟩,
    ⟨0x5000, 0x07, 0x07, .one, .u64, .ro, none, none⟩,
    ⟨0x5100, 0x00, 0x00, .one, (.table 1024 32), .ro, none, none⟩,
    ⟨0x5101, 0x00, 0x00, .one, (.octets 32), .rw, none, none⟩,
    ⟨0x5102, 0x00, 0x00, .one, .cmd, .cmd, none, none⟩,
    ⟨0x5103, 0x00, 0x00, .one, .cmd, .cmd, none, none⟩,
    ⟨0x5104, 0x00, 0x00, .one, .cmd, .cmd, none, none⟩,
    ⟨0x5200, 0x01, 0x10, .one, .u8, .ro, none, none⟩,
    ⟨0x5201, 0x00, 0x00, .one, .cmd, .cmd, none, none⟩,
    ⟨0x5300, 0x00, 0x00, .one, (.table 4096 4), .ro, none, none⟩,
    ⟨0x5301, 0x00, 0x00, .one, .cmd, .cmd, none, none⟩,
    ⟨0x5302, 0x00, 0x00, .one, .cmd, .cmd, none, none⟩,
    ⟨0x5303, 0x00, 0x00, .one, .u16, .ro, none, none⟩,
    ⟨0x5400, 0x01, 0x01, .one, .u64, .ro, none, none⟩,
    ⟨0x5400, 0x02, 0x02, .one, .u64, .ro, none, none⟩,
    ⟨0x5400, 0x03, 0x03, .one, (.octets 16), .ro, none, none⟩,
    ⟨0x5400, 0x04, 0x04, .one, .time, .rw, some (0, 256000000000), none⟩,
    ⟨0x5400, 0x05, 0x05, .one, .u32, .ro, none, none⟩,
    ⟨0x5400, 0x06, 0x06, .one, .u64, .ro, none, none⟩,
    ⟨0x5400, 0x07, 0x07, .one, .u64, .ro, none, none⟩ ]

/-- Objects `6xxx` (Tables 17.2 to 17.11). -/
def objects6a : List Obj :=
  [ ⟨0x6001, 0x01, 0x08, .portSub, .u32, .ro, none, none⟩,
    ⟨0x6002, 0x01, 0x08, .portSub, .u32, .ro, none, none⟩,
    ⟨0x6100, 0x00, 0x00, .portLow, (.table 64 8), .rw, none, none⟩,
    ⟨0x6110, 0x00, 0x00, .portLow, (.table 64 16), .ro, none, none⟩,
    ⟨0x6200, 0x00, 0x00, .one, (.table 256 8), .rw, none, none⟩,
    ⟨0x6201, 0x00, 0x00, .one, (.table 512 16), .rw, none, none⟩,
    ⟨0x6202, 0x00, 0x00, .one, (.table 256 32), .ro, none, none⟩,
    ⟨0x6300, 0x01, 0x01, .one, .time, .rw, some (25600, 256000000000), none⟩,
    ⟨0x6300, 0x02, 0x02, .one, .u8, .rw, some (0, 15), none⟩,
    ⟨0x6310, 0x00, 0x00, .portLow, (.table 64 64), .ro, none, none⟩,
    ⟨0x6320, 0x00, 0x00, .portLow, (.table 64 64), .ro, none, none⟩,
    ⟨0x6330, 0x00, 0x00, .one, .cmd, .cmd, none, none⟩,
    ⟨0x6400, 0x00, 0x00, .one, (.table 4096 32), .ro, none, none⟩,
    ⟨0x6401, 0x00, 0x00, .one, (.octets 32), .rw, none, none⟩,
    ⟨0x6402, 0x00, 0x00, .one, .cmd, .cmd, none, none⟩,
    ⟨0x6403, 0x00, 0x00, .one, .cmd, .cmd, none, none⟩,
    ⟨0x6404, 0x01, 0x08, .portSub, .u32, .rw, some (0, 30000), none⟩,
    ⟨0x6405, 0x01, 0x08, .portSub, .u32, .ro, none, none⟩,
    ⟨0x6406, 0x00, 0x00, .one, (.table 4096 16), .ro, none, none⟩,
    ⟨0x6407, 0x00, 0x00, .one, .cmd, .cmd, none, none⟩,
    ⟨0x6408, 0x00, 0x00, .one, .cmd, .cmd, none, none⟩,
    ⟨0x6409, 0x00, 0x00, .one, .cmd, .cmd, none, none⟩,
    ⟨0x640A, 0x00, 0x00, .one, .bool, .rw, none, none⟩,
    ⟨0x6410, 0x01, 0x01, .one, .time, .rw, some (2560000, 256000000000), none⟩,
    ⟨0x6410, 0x02, 0x02, .one, .time, .rw, some (0, 256000000000), none⟩,
    ⟨0x6410, 0x03, 0x03, .one, .u64, .ro, none, none⟩,
    ⟨0x6410, 0x04, 0x04, .one, .u64, .ro, none, none⟩,
    ⟨0x6410, 0x05, 0x05, .one, .u16, .ro, none, none⟩,
    ⟨0x6410, 0x06, 0x06, .one, .u8, .ro, none, none⟩ ]

/-- Objects `7xxx` (Tables 17.2 to 17.11). -/
def objects7a : List Obj :=
  [ ⟨0x7000, 0x01, 0x01, .one, .u64, .ro, none, none⟩,
    ⟨0x7000, 0x02, 0x02, .one, .u64, .ro, none, none⟩,
    ⟨0x7000, 0x03, 0x03, .one, .u64, .ro, none, none⟩,
    ⟨0x7000, 0x04, 0x04, .one, .u64, .ro, none, none⟩,
    ⟨0x7000, 0x05, 0x05, .one, .u64, .ro, none, none⟩,
    ⟨0x7000, 0x06, 0x06, .one, .u64, .ro, none, none⟩,
    ⟨0x7000, 0x07, 0x07, .one, .u64, .ro, none, none⟩,
    ⟨0x7000, 0x08, 0x08, .one, .u64, .ro, none, none⟩,
    ⟨0x7000, 0x09, 0x09, .one, .u64, .ro, none, none⟩,
    ⟨0x7000, 0x0A, 0x0A, .one, .u64, .ro, none, none⟩,
    ⟨0x7000, 0x0B, 0x0B, .one, .u64, .ro, none, none⟩,
    ⟨0x7001, 0x00, 0x00, .one, .u16, .ro, none, none⟩,
    ⟨0x7002, 0x00, 0x00, .one, .u32, .ro, none, none⟩,
    ⟨0x7003, 0x00, 0x00, .one, .time, .rw, some (2560000, 2560000000), none⟩,
    ⟨0x7100, 0x00, 0x00, .one, (.table 256 32), .ro, none, none⟩,
    ⟨0x7101, 0x00, 0x00, .one, (.octets 32), .rw, none, none⟩,
    ⟨0x7102, 0x00, 0x00, .one, (.table 1024 32), .ro, none, none⟩,
    ⟨0x7103, 0x00, 0x00, .one, (.octets 128), .rw, none, none⟩,
    ⟨0x7104, 0x00, 0x00, .one, .cmd, .cmd, none, none⟩,
    ⟨0x7105, 0x00, 0x00, .one, .cmd, .cmd, none, none⟩,
    ⟨0x7106, 0x00, 0x00, .one, (.table 256 128), .ro, none, none⟩,
    ⟨0x7110, 0x01, 0x01, .one, .u64, .ro, none, none⟩,
    ⟨0x7110, 0x02, 0x02, .one, .u64, .ro, none, none⟩,
    ⟨0x7110, 0x03, 0x03, .one, .u64, .ro, none, none⟩,
    ⟨0x7110, 0x04, 0x04, .one, .u64, .ro, none, none⟩,
    ⟨0x7110, 0x05, 0x05, .one, .u64, .ro, none, none⟩,
    ⟨0x7200, 0x01, 0x01, .one, (.octets 16), .rw, none, none⟩,
    ⟨0x7200, 0x02, 0x02, .one, .cmd, .cmd, none, none⟩,
    ⟨0x7200, 0x03, 0x03, .one, .u32, .ro, none, none⟩,
    ⟨0x7200, 0x04, 0x04, .one, .u16, .ro, none, none⟩ ]

/-- Objects `7xxx` (Tables 17.2 to 17.11). -/
def objects7b : List Obj :=
  [ ⟨0x7300, 0x01, 0x01, .one, .time, .rw, some (10240000, 2560000000), none⟩,
    ⟨0x7300, 0x02, 0x02, .one, .time, .rw, some (256000000, 15360000000000), none⟩,
    ⟨0x7300, 0x03, 0x03, .one, .cmd, .cmd, none, none⟩,
    ⟨0x7300, 0x04, 0x04, .one, .u64, .ro, none, none⟩,
    ⟨0x7400, 0x01, 0x05, .sliceSub, .u8, .ro, none, none⟩,
    ⟨0x7401, 0x00, 0x00, .one, .cmd, .cmd, none, none⟩,
    ⟨0x7402, 0x00, 0x00, .one, .u32, .ro, none, none⟩ ]

/-- Objects `8xxx` (Tables 17.2 to 17.11). -/
def objects8a : List Obj :=
  [ ⟨0x8001, 0x00, 0x00, .one, (.table 256 1), .rw, none, some 0x8F⟩,
    ⟨0x8010, 0x01, 0x01, .one, (.octets 16), .rw, none, none⟩,
    ⟨0x8010, 0x02, 0x02, .one, .cmd, .cmd, none, none⟩,
    ⟨0x8010, 0x03, 0x03, .one, .enum8, .ro, none, none⟩,
    ⟨0x8010, 0x04, 0x04, .one, .u32, .ro, none, none⟩,
    ⟨0x8010, 0x05, 0x05, .one, .u32, .ro, none, none⟩,
    ⟨0x8020, 0x01, 0x01, .one, .u16, .rw, none, some 0x7F⟩,
    ⟨0x8020, 0x02, 0x02, .one, .u16, .ro, none, none⟩,
    ⟨0x8040, 0x01, 0x01, .one, .time, .rw, some (0, 2560000), none⟩,
    ⟨0x8040, 0x02, 0x02, .one, .time, .rw, some (256000, 2560000000), none⟩,
    ⟨0x8040, 0x03, 0x03, .one, .u64, .ro, none, none⟩,
    ⟨0x8050, 0x01, 0x01, .one, .time, .rw, some (2560000, 2560000000000), none⟩,
    ⟨0x8050, 0x02, 0x02, .one, .u32, .ro, none, none⟩,
    ⟨0x8050, 0x03, 0x03, .one, .u64, .ro, none, none⟩,
    ⟨0x8050, 0x04, 0x04, .one, .u64, .ro, none, none⟩,
    ⟨0x8051, 0x01, 0x08, .portSub, .u32, .rw, some (1, 32768), none⟩,
    ⟨0x8060, 0x01, 0x0C, .one, .u64, .ro, none, none⟩,
    ⟨0x8061, 0x01, 0x0C, .one, .u64, .ro, none, none⟩,
    ⟨0x8062, 0x01, 0x0C, .one, .u64, .ro, none, none⟩,
    ⟨0x8070, 0x01, 0x01, .one, .time, .rw, some (256000000, 2560000000000), none⟩,
    ⟨0x8070, 0x02, 0x02, .one, .u64, .ro, none, none⟩,
    ⟨0x8070, 0x03, 0x03, .one, .u64, .ro, none, none⟩,
    ⟨0x8070, 0x04, 0x04, .one, .u64, .ro, none, none⟩,
    ⟨0x8070, 0x05, 0x05, .one, .u32, .ro, none, none⟩,
    ⟨0x8070, 0x06, 0x06, .one, .u64, .ro, none, none⟩,
    ⟨0x8070, 0x07, 0x07, .one, .u16, .ro, none, none⟩,
    ⟨0x8071, 0x00, 0x00, .one, (.table 1024 1), .rw, none, some 0xF⟩,
    ⟨0x8072, 0x00, 0x00, .one, (.table 1024 8), .ro, none, none⟩,
    ⟨0x8073, 0x00, 0x00, .one, .cmd, .cmd, none, none⟩,
    ⟨0x8100, 0x00, 0x00, .one, (.table 64 32), .ro, none, none⟩ ]

/-- Objects `8xxx` (Tables 17.2 to 17.11). -/
def objects8b : List Obj :=
  [ ⟨0x8101, 0x00, 0x00, .one, (.octets 32), .rw, none, none⟩,
    ⟨0x8102, 0x00, 0x00, .one, .cmd, .cmd, none, none⟩,
    ⟨0x8103, 0x00, 0x00, .one, .cmd, .cmd, none, none⟩,
    ⟨0x8104, 0x00, 0x00, .one, .time, .rw, some (0, 256000000000), none⟩,
    ⟨0x8110, 0x01, 0x01, .one, .u64, .ro, none, none⟩,
    ⟨0x8110, 0x02, 0x02, .one, .u64, .ro, none, none⟩,
    ⟨0x8110, 0x03, 0x03, .one, .u64, .ro, none, none⟩,
    ⟨0x8110, 0x04, 0x04, .one, .u64, .ro, none, none⟩,
    ⟨0x8200, 0x00, 0x00, .one, (.table 256 32), .ro, none, none⟩,
    ⟨0x8201, 0x00, 0x00, .one, (.octets 32), .rw, none, none⟩,
    ⟨0x8202, 0x00, 0x00, .one, .cmd, .cmd, none, none⟩,
    ⟨0x8203, 0x00, 0x00, .one, .cmd, .cmd, none, none⟩,
    ⟨0x8204, 0x00, 0x00, .one, (.octets 32), .ro, none, none⟩,
    ⟨0x8205, 0x00, 0x00, .one, .cmd, .cmd, none, none⟩,
    ⟨0x8210, 0x01, 0x01, .one, .u64, .ro, none, none⟩,
    ⟨0x8210, 0x02, 0x02, .one, .u64, .ro, none, none⟩,
    ⟨0x8210, 0x03, 0x03, .one, .u64, .ro, none, none⟩,
    ⟨0x8300, 0x01, 0x01, .one, .u8, .rwc, some (0, 64), none⟩,
    ⟨0x8300, 0x02, 0x02, .one, .u8, .rwc, some (0, 64), none⟩,
    ⟨0x8300, 0x03, 0x03, .one, .u8, .rwc, some (0, 64), none⟩,
    ⟨0x8300, 0x04, 0x04, .one, .u8, .rwc, some (0, 64), none⟩,
    ⟨0x8300, 0x05, 0x05, .one, .u8, .rwc, some (0, 64), none⟩,
    ⟨0x8300, 0x06, 0x06, .one, .u8, .ro, none, none⟩,
    ⟨0x8301, 0x00, 0x00, .one, .u8, .ro, none, none⟩,
    ⟨0x8302, 0x00, 0x00, .one, .cmd, .cmd, none, none⟩,
    ⟨0x8303, 0x00, 0x00, .one, .u32, .ro, none, none⟩,
    ⟨0x8310, 0x01, 0x01, .one, .enum8, .rw, some (0, 3), none⟩,
    ⟨0x8310, 0x02, 0x02, .one, .u32, .ro, none, none⟩,
    ⟨0x8310, 0x03, 0x03, .one, .u64, .ro, none, none⟩,
    ⟨0x8310, 0x04, 0x04, .one, .u64, .ro, none, none⟩ ]

/-- Objects `8xxx` (Tables 17.2 to 17.11). -/
def objects8c : List Obj :=
  [ ⟨0x8310, 0x05, 0x05, .one, .u64, .ro, none, none⟩,
    ⟨0x8311, 0x00, 0x00, .one, .cmd, .cmd, none, none⟩ ]

/-- Objects `9xxx` (Tables 17.2 to 17.11). -/
def objects9a : List Obj :=
  [ ⟨0x9000, 0x00, 0x00, .one, .time, .ro, none, none⟩,
    ⟨0x9001, 0x01, 0x01, .one, .enum8, .rw, some (0, 2), none⟩,
    ⟨0x9001, 0x02, 0x02, .one, .u8, .rw, some (0, 255), none⟩,
    ⟨0x9001, 0x03, 0x03, .one, .time, .rw, some (32000000, 256000000000), none⟩,
    ⟨0x9001, 0x04, 0x04, .one, .time, .rw, some (25600, 256000000000), none⟩,
    ⟨0x9001, 0x05, 0x05, .one, .time, .rw, some (256, 256000), none⟩,
    ⟨0x9001, 0x06, 0x06, .one, .cmd, .cmd, none, none⟩,
    ⟨0x9002, 0x01, 0x01, .one, .enum8, .ro, none, none⟩,
    ⟨0x9002, 0x02, 0x02, .one, .i64, .ro, none, none⟩,
    ⟨0x9002, 0x03, 0x03, .one, .time, .ro, none, none⟩,
    ⟨0x9002, 0x04, 0x04, .one, .u64, .ro, none, none⟩,
    ⟨0x9002, 0x05, 0x05, .one, .u8, .ro, none, none⟩,
    ⟨0x9002, 0x06, 0x06, .one, .u32, .ro, none, none⟩,
    ⟨0x9002, 0x07, 0x07, .one, .u64, .ro, none, none⟩,
    ⟨0x9002, 0x08, 0x08, .one, .u32, .ro, none, none⟩,
    ⟨0x9003, 0x01, 0x08, .portSub, .i64, .rw, none, none⟩,
    ⟨0x9100, 0x01, 0x01, .one, .enum8, .rw, some (0, 2), none⟩,
    ⟨0x9100, 0x02, 0x02, .one, .time, .rw, some (256000, 256000000000), none⟩,
    ⟨0x9100, 0x03, 0x03, .one, .time, .rw, some (2560, 128000000000), none⟩,
    ⟨0x9100, 0x04, 0x04, .one, (.octets 16), .ro, none, none⟩,
    ⟨0x9100, 0x05, 0x05, .one, .u64, .ro, none, none⟩,
    ⟨0x9100, 0x06, 0x06, .one, .i64, .ro, none, none⟩ ]

/-- Objects `Axxx` (Tables 17.2 to 17.11). -/
def objectsAa : List Obj :=
  [ ⟨0xA000, 0x00, 0x00, .one, .u16, .ro, none, none⟩,
    ⟨0xA000, 0x01, 0x01, .one, (.octets 16), .ro, none, none⟩,
    ⟨0xA001, 0x01, 0x10, .one, .u16, .ro, none, none⟩,
    ⟨0xA010, 0x01, 0x01, .one, .time, .rw, some (25600000, 25600000000), none⟩,
    ⟨0xA010, 0x02, 0x02, .one, .time, .rw, some (25600000, 25600000000), none⟩,
    ⟨0xA010, 0x03, 0x03, .one, .time, .rw, some (256000000, 2560000000000), none⟩,
    ⟨0xA010, 0x05, 0x05, .one, .time, .rw, some (256000000, 256000000000), none⟩,
    ⟨0xA010, 0x06, 0x06, .one, .time, .rw, some (2560000, 256000000000), none⟩,
    ⟨0xA010, 0x07, 0x07, .one, .time, .rw, some (256000000, 2560000000000), none⟩,
    ⟨0xA011, 0x01, 0x01, .one, .u32, .ro, none, none⟩,
    ⟨0xA011, 0x02, 0x02, .one, .u32, .ro, none, none⟩,
    ⟨0xA011, 0x03, 0x03, .one, .u32, .ro, none, none⟩,
    ⟨0xA011, 0x04, 0x04, .one, .u32, .ro, none, none⟩,
    ⟨0xA100, 0x01, 0x10, .one, .u16, .rw, none, some 0xFFF⟩,
    ⟨0xA101, 0x01, 0x10, .one, .enum8, .rw, some (0, 1), none⟩,
    ⟨0xA102, 0x01, 0x10, .one, .enum8, .ro, none, none⟩,
    ⟨0xA103, 0x00, 0x00, .one, .cmd, .cmd, none, none⟩,
    ⟨0xA104, 0x00, 0x00, .one, .cmd, .cmd, none, none⟩,
    ⟨0xA110, 0x00, 0x00, .one, (.table 64 16), .ro, none, none⟩,
    ⟨0xA111, 0x00, 0x00, .one, .u32, .ro, none, none⟩,
    ⟨0xA112, 0x00, 0x00, .one, .cmd, .cmd, none, none⟩,
    ⟨0xA113, 0x00, 0x00, .one, .cmd, .cmd, none, none⟩,
    ⟨0xA114, 0x00, 0x00, .one, .cmd, .cmd, none, none⟩,
    ⟨0xA115, 0x00, 0x00, .one, .cmd, .cmd, none, none⟩,
    ⟨0xA200, 0x01, 0x01, .one, .u32, .rw, none, some 0x3FFFFF⟩,
    ⟨0xA200, 0x02, 0x02, .one, .time, .rw, some (2560000000, 2560000000000), none⟩,
    ⟨0xA200, 0x03, 0x03, .one, .u8, .rw, none, some 0x3⟩,
    ⟨0xA201, 0x00, 0x00, .one, (.table 256 32), .ro, none, none⟩,
    ⟨0xA202, 0x01, 0x01, .one, .u64, .ro, none, none⟩,
    ⟨0xA202, 0x02, 0x02, .one, .u64, .ro, none, none⟩ ]

/-- Objects `Axxx` (Tables 17.2 to 17.11). -/
def objectsAb : List Obj :=
  [ ⟨0xA202, 0x03, 0x03, .one, .u32, .ro, none, none⟩,
    ⟨0xA202, 0x04, 0x04, .one, .bool, .ro, none, none⟩,
    ⟨0xA202, 0x05, 0x05, .one, .u64, .ro, none, none⟩,
    ⟨0xA202, 0x06, 0x06, .one, .u64, .ro, none, none⟩,
    ⟨0xA203, 0x01, 0x01, .one, .u16, .ro, none, none⟩,
    ⟨0xA203, 0x02, 0x02, .one, .cmd, .cmd, none, none⟩,
    ⟨0xA203, 0x03, 0x03, .one, .bool, .ro, none, none⟩ ]

/-- Objects `Bxxx` (Tables 17.2 to 17.11). -/
def objectsBa : List Obj :=
  [ ⟨0xB000, 0x01, 0x01, .one, .u32, .rwc, some (0, 4194303), some 0x3FFFFF⟩,
    ⟨0xB000, 0x02, 0x02, .one, .u8, .rw, none, none⟩,
    ⟨0xB000, 0x03, 0x03, .one, .u16, .rw, some (1, 1000), none⟩,
    ⟨0xB000, 0x04, 0x04, .one, .time, .rw, some (2560000, 2560000000), none⟩,
    ⟨0xB000, 0x05, 0x05, .one, .time, .rw, some (256000000, 2560000000000), none⟩,
    ⟨0xB000, 0x06, 0x06, .one, .time, .rw, some (0, 25600000000), none⟩,
    ⟨0xB000, 0x07, 0x07, .one, .time, .rw, some (256000000, 2560000000000), none⟩,
    ⟨0xB001, 0x00, 0x00, .one, .enum8, .ro, none, none⟩,
    ⟨0xB001, 0x01, 0x01, .one, .u32, .ro, none, none⟩,
    ⟨0xB001, 0x02, 0x02, .one, .u32, .ro, none, none⟩,
    ⟨0xB001, 0x03, 0x03, .one, .u32, .ro, none, none⟩,
    ⟨0xB001, 0x04, 0x04, .one, .u32, .ro, none, none⟩,
    ⟨0xB001, 0x05, 0x05, .one, .u64, .ro, none, none⟩,
    ⟨0xB001, 0x06, 0x06, .one, .u64, .ro, none, none⟩,
    ⟨0xB002, 0x00, 0x00, .one, .enum8, .ro, none, none⟩,
    ⟨0xB002, 0x01, 0x01, .one, .u32, .ro, none, none⟩,
    ⟨0xB002, 0x02, 0x02, .one, .u8, .ro, none, none⟩,
    ⟨0xB002, 0x03, 0x03, .one, .time, .ro, none, none⟩,
    ⟨0xB010, 0x00, 0x00, .one, (.table 65536 2), .ro, none, none⟩,
    ⟨0xB011, 0x00, 0x00, .one, (.table 4096 8), .ro, none, none⟩,
    ⟨0xB012, 0x00, 0x00, .one, (.table 256 8), .ro, none, none⟩,
    ⟨0xB013, 0x00, 0x00, .one, (.table 4096 4), .ro, none, none⟩,
    ⟨0xB014, 0x00, 0x00, .one, (.table 1024 32), .ro, none, none⟩,
    ⟨0xB015, 0x00, 0x00, .one, (.table 4096 32), .ro, none, none⟩,
    ⟨0xB016, 0x00, 0x00, .one, (.table 1024 32), .ro, none, none⟩,
    ⟨0xB017, 0x00, 0x00, .one, (.table 4096 64), .ro, none, none⟩,
    ⟨0xB018, 0x00, 0x00, .one, (.octets 64), .ro, none, none⟩,
    ⟨0xB020, 0x00, 0x00, .one, .cmd, .cmd, none, none⟩,
    ⟨0xB021, 0x00, 0x00, .one, (.table 1024 32), .ro, none, none⟩,
    ⟨0xB022, 0x00, 0x00, .one, (.table 4096 32), .ro, none, none⟩ ]

/-- Objects `Cxxx` (Tables 17.2 to 17.11). -/
def objectsCa : List Obj :=
  [ ⟨0xC000, 0x01, 0x01, .one, .u8, .rw, none, some 0x3F⟩,
    ⟨0xC000, 0x02, 0x02, .one, (.octets 16), .rw, none, none⟩,
    ⟨0xC000, 0x04, 0x04, .one, .u64, .ro, none, none⟩,
    ⟨0xC000, 0x05, 0x05, .one, .u64, .ro, none, none⟩,
    ⟨0xC001, 0x01, 0x05, .sourceSub, .u16, .rw, none, none⟩,
    ⟨0xC002, 0x01, 0x06, .sourceSub1, .u16, .ro, none, none⟩,
    ⟨0xC100, 0x00, 0x00, .one, (.table 16 16), .rw, none, none⟩,
    ⟨0xC101, 0x00, 0x00, .one, (.table 16 8), .ro, none, none⟩,
    ⟨0xC102, 0x00, 0x00, .one, (.octets 16), .rw, none, none⟩,
    ⟨0xC103, 0x01, 0x01, .one, .u32, .rw, some (256, 67108800), none⟩,
    ⟨0xC103, 0x02, 0x02, .one, .u64, .ro, none, none⟩,
    ⟨0xC103, 0x03, 0x03, .one, .u64, .ro, none, none⟩,
    ⟨0xC103, 0x04, 0x04, .one, .u64, .ro, none, none⟩,
    ⟨0xC200, 0x00, 0x00, .one, .cmd, .cmd, none, none⟩,
    ⟨0xC200, 0x01, 0x01, .one, .bool, .rw, none, none⟩,
    ⟨0xC200, 0x02, 0x02, .one, (.octets 32), .ro, none, none⟩,
    ⟨0xC200, 0x03, 0x03, .one, .u64, .ro, none, none⟩,
    ⟨0xC210, 0x00, 0x00, .one, .cmd, .cmd, none, none⟩,
    ⟨0xC211, 0x00, 0x00, .one, (.table 96 4), .ro, none, none⟩,
    ⟨0xC220, 0x00, 0xFF, .one, (.octets 16), .ro, none, none⟩ ]

/-- Objects `Dxxx` (Tables 17.2 to 17.11). -/
def objectsDa : List Obj :=
  [ ⟨0xD000, 0x01, 0x01, .one, .u32, .ro, none, none⟩,
    ⟨0xD000, 0x02, 0x02, .one, .u32, .ro, none, none⟩,
    ⟨0xD000, 0x03, 0x03, .one, .u32, .ro, none, none⟩,
    ⟨0xD000, 0x04, 0x04, .one, .u64, .ro, none, none⟩,
    ⟨0xD000, 0x05, 0x05, .one, .u64, .ro, none, none⟩,
    ⟨0xD000, 0x06, 0x06, .one, .u32, .ro, none, none⟩,
    ⟨0xD000, 0x07, 0x07, .one, .u32, .ro, none, none⟩,
    ⟨0xD000, 0x08, 0x08, .one, .u32, .ro, none, none⟩,
    ⟨0xD000, 0x09, 0x09, .one, .u32, .ro, none, none⟩,
    ⟨0xD000, 0x0A, 0x0A, .one, .u64, .ro, none, none⟩,
    ⟨0xD000, 0x0B, 0x0B, .one, .u32, .ro, none, none⟩,
    ⟨0xD000, 0x0C, 0x0C, .one, .time, .ro, none, none⟩,
    ⟨0xD100, 0x01, 0x10, .one, .u32, .rw, none, some 0xFFFFF8FF⟩,
    ⟨0xD101, 0x01, 0x10, .one, .u64, .ro, none, none⟩,
    ⟨0xD102, 0x00, 0x00, .one, .cmd, .cmd, none, none⟩,
    ⟨0xD200, 0x00, 0x00, .one, .cmd, .cmd, none, none⟩,
    ⟨0xD201, 0x00, 0x00, .one, (.octets 16), .ro, none, none⟩,
    ⟨0xD202, 0x00, 0x00, .one, (.table 32768 16), .ro, none, none⟩ ]

/-- Objects `Exxx` (Tables 17.2 to 17.11). -/
def objectsEa : List Obj :=
  [ ⟨0xE000, 0x01, 0x01, .one, .u64, .rw, none, none⟩,
    ⟨0xE000, 0x02, 0x02, .one, .u64, .ro, none, none⟩,
    ⟨0xE000, 0x03, 0x03, .one, .bool, .ro, none, none⟩,
    ⟨0xE000, 0x04, 0x04, .one, .time, .rw, some (25600000, 25600000000), none⟩,
    ⟨0xE000, 0x05, 0x05, .one, .u32, .ro, none, none⟩,
    ⟨0xE000, 0x06, 0x06, .one, .cmd, .cmd, none, none⟩,
    ⟨0xE100, 0x01, 0x08, .portSub, .u16, .ro, none, none⟩,
    ⟨0xE101, 0x01, 0x08, .portSub, .u16, .ro, none, none⟩,
    ⟨0xE102, 0x01, 0x01, .one, .u16, .rw, some (4370, 6400), none⟩,
    ⟨0xE102, 0x02, 0x02, .one, .u8, .ro, none, none⟩,
    ⟨0xE102, 0x03, 0x03, .one, .cmd, .cmd, none, none⟩,
    ⟨0xE102, 0x04, 0x04, .one, .cmd, .cmd, none, none⟩ ]

/-- Objects `Fxxx` (Tables 17.2 to 17.11). -/
def objectsFa : List Obj :=
  [ ⟨0xF000, 0x00, 0x00, .one, .u64, .ro, none, none⟩,
    ⟨0xF001, 0x00, 0x00, .one, (.octets 16), .rw, none, none⟩,
    ⟨0xF002, 0x00, 0x00, .one, .u64, .ro, none, none⟩,
    ⟨0xF003, 0x00, 0x00, .one, .u64, .ro, none, none⟩,
    ⟨0xF004, 0x00, 0x00, .one, .u64, .ro, none, none⟩,
    ⟨0xF010, 0x00, 0x00, .one, (.table 16384 64), .ro, none, none⟩,
    ⟨0xF100, 0x00, 0x00, .one, (.table 64 4), .ro, none, none⟩,
    ⟨0xF101, 0x01, 0x01, .one, .u16, .ro, none, none⟩,
    ⟨0xF101, 0x02, 0x02, .one, .u16, .ro, none, none⟩,
    ⟨0xF101, 0x03, 0x03, .one, .u32, .ro, none, none⟩,
    ⟨0xF102, 0x00, 0x00, .one, (.table 64 32), .ro, none, none⟩,
    ⟨0xF103, 0x01, 0x01, .one, .time, .rw, some (256000000, 921600000000000), none⟩ ]

/-- Every object of the Catalogue (R365), in call-number order. -/
def objects : List Obj :=
  objects1a ++ objects1b ++ objects2a ++ objects2b ++ objects3a ++ objects4a ++ objects5a ++
  objects6a ++ objects7a ++ objects7b ++ objects8a ++ objects8b ++ objects8c ++ objects9a ++
  objectsAa ++ objectsAb ++ objectsBa ++ objectsCa ++ objectsDa ++ objectsEa ++ objectsFa

/-- Value bytes: for a TABLE the bytes of one row (Table 12.1, R369). -/
def CatType.bytes (t : CatType) : Nat :=
  match t with
  | .bool | .u8 | .enum8 => 1
  | .u16 => 2
  | .u32 => 4
  | .u64 | .i64 | .time => 8
  | .octets n => n
  | .table _ w => w
  | .cmd => 16

/-- Type codes of Table 12.1. -/
def CatType.code (t : CatType) : Nat :=
  match t with
  | .bool => 0x01
  | .u8 => 0x02
  | .u16 => 0x03
  | .u32 => 0x04
  | .u64 => 0x05
  | .i64 => 0x06
  | .time => 0x07
  | .enum8 => 0x08
  | .octets _ => 0x09
  | .table _ _ => 0x0A
  | .cmd => 0x0B

/-- Rows: 1 for anything but a TABLE. -/
def CatType.rows (t : CatType) : Nat :=
  match t with
  | .table r _ => r
  | _ => 1

/-- Access codes of Table 12.2. -/
def Access12.code (a : Access12) : Nat :=
  match a with
  | .ro => 0
  | .rw => 1
  | .rwc => 2
  | .cmd => 3

/-- The last subindex present in a part (R4, R366). -/
def Obj.lastIn (o : Obj) (p : Part) : Nat :=
  match o.inst with
  | .portSub => min o.last (portsOf p)
  | .sliceSub => min o.last (slicesOf p)
  | .sourceSub => min o.last (slicesOf p)
  | .sourceSub1 => min o.last (slicesOf p + 1)
  | _ => o.last

/-- How many indices the object's instances take, and the step between them (Table 17.1). -/
def Obj.indices (o : Obj) (p : Part) : Nat × Nat :=
  match o.inst with
  | .portIndex => (portsOf p, 0x100)
  | .portLow => (portsOf p, 1)
  | _ => (1, 1)

/-- Whether the call number names an instance of the object that is present. -/
def Obj.holds (o : Obj) (p : Part) (cn : Nat) : Bool :=
  let (n, step) := o.indices p
  let index := cn / 256
  let sub := cn % 256
  o.first ≤ sub && sub ≤ o.lastIn p &&
    o.index ≤ index && (index - o.index) % step = 0 && (index - o.index) / step < n

/-- The object a call number names, if it is present in the part (R264 step 1, R365, R4). -/
def findObj (p : Part) (cn : Nat) : Option Obj := objects.find? fun o => o.holds p cn

/-- The least call number above `cn` among the present instances of an object. -/
def Obj.after (o : Obj) (p : Part) (cn : Nat) : Option Nat :=
  let (n, step) := o.indices p
  (upFrom 0 n).foldl
    (fun best k =>
      let base := (o.index + k * step) * 256
      let c := max (base + o.first) (cn + 1)
      if c ≤ base + o.lastIn p then
        match best with
        | none => some c
        | some b => some (min b c)
      else best) none

/-- The next present object after a call number, in ascending order (R368). -/
def nextObj (p : Part) (cn : Nat) : Option Nat :=
  objects.foldl
    (fun best o =>
      match best, o.after p cn with
      | none, c => c
      | some b, none => some b
      | some b, some c => some (min b c)) none

/-- Defaults other than zero below `7000` (Tables 17.2 to 17.5), port P0 standing for every port and
lane 0 for every lane. -/
def lowDefaults : Table Nat :=
  [ (0x1000_01, 0xEB7A), (0x1000_03, 0x10), (0x1000_04, 1), (0x1001_00, 0x3FFFFF),
    (0x1010_03, 32768), (0x1010_04, 64), (0x1010_05, 1024), (0x1010_06, 512),
    (0x1010_07, 12), (0x1010_08, 8), (0x1010_09, 256), (0x1100_02, 2560000000000),
    (0x1101_01, 0x1FFFF), (0x1101_02, 0x1FFF9), (0x1101_03, 0x1FFFF), (0x1101_05, 0x3FFF00),
    (0x1101_06, 0x3FFFEF), (0x1200_03, 30412), (0x1200_04, 255), (0x1200_05, 8),
    (0x1200_06, 32), (0x1200_08, 128), (0x1200_09, 15360000000000), (0x2000_02, 512000000),
    (0x2000_06, 128000), (0x2000_07, 8), (0x2000_08, 16384), (0x2010_01, 0xFF),
    (0x2010_02, 0xFF), (0x2050_02, 76800000000), (0x2050_03, 256000000), (0x2050_04, 8),
    (0x2050_06, 1), (0x2050_07, 3), (0x2050_08, 25600000000), (0x3001_01, 0x02F8_33FE),
    (0x5000_02, 2560000000), (0x5000_03, 25600000000), (0x5000_05, 2560000000), (0x5400_04, 256000000),
    (0x6300_01, 256000), (0x6300_02, 4), (0x6410_01, 256000000), (0x6410_02, 2560000000) ]

/-- Defaults other than zero from `7000` on (Tables 17.6 to 17.10). -/
def highDefaults : Table Nat :=
  [ (0x7001_00, 341), (0x7002_00, 0x8003_0FFF), (0x7003_00, 25600000), (0x7200_03, 0x6B4F_2FA4),
    (0x7300_01, 25600000), (0x7300_02, 256000000000), (0x8020_01, 0x7F), (0x8040_01, 51200),
    (0x8040_02, 5120000), (0x8050_01, 2560000000), (0x8070_01, 12800000000), (0x8101_00, 4 * 2 ^ 220 + 3 * 2 ^ 216 + 10 * 2 ^ 200),
    (0x8104_00, 2560000000), (0x8300_01, 16), (0x8300_02, 8), (0x8300_03, 8),
    (0x8300_04, 16), (0x8300_05, 16), (0x8310_02, 196608), (0x9001_02, 0xFF),
    (0x9001_03, 256000000), (0x9001_04, 256000), (0x9001_05, 512), (0x9002_04, 0xCC_CCCC_CCCD),
    (0x9100_02, 256000000), (0x9100_03, 25600), (0xA010_01, 128000000), (0xA010_02, 128000000),
    (0xA010_03, 2560000000), (0xA010_05, 2560000000), (0xA010_06, 256000000), (0xA010_07, 12800000000),
    (0xA100_01, 0x0FFF), (0xA200_01, 0x3FFFFF), (0xA200_02, 25600000000), (0xA200_03, 3),
    (0xB000_01, 0x3FFFFF), (0xB000_03, 100), (0xB000_04, 12800000), (0xB000_05, 2560000000),
    (0xB000_06, 256000000), (0xB000_07, 5120000000), (0xB002_01, 0x3FFFFF), (0xC000_02, 10 * 2 ^ 48),
    (0xC103_01, 65536), (0xE000_04, 256000000), (0xE102_01, 6050), (0xF103_01, 256000000000) ]

/-- A call number with its port digit cleared, and for a lane its lane number too. -/
def normCn (cn : Nat) : Nat :=
  if 0x2000_00 ≤ cn && cn < 0x3000_00 then cn - cn / 0x1_0000 % 16 * 0x1_0000
  else if 0x3000_00 ≤ cn && cn < 0x4000_00 then (cn - cn / 0x1_0000 % 16 * 0x1_0000) / 256 * 256 + 1
  else cn

/-- Defaults that depend on the part, and those of TABLEs and of runs (Tables 17.2 to 17.10, 9.2,
13.13 and 16.9). -/
def otherDefault (p : Part) (cn row : Nat) : Nat :=
  let index := cn / 256
  if cn = 0x1000_02 then partCode p
  else if cn = 0x1010_01 then portsOf p
  else if cn = 0x1010_02 then slicesOf p - 1
  else if cn = 0xE000_01 || cn = 0xE000_02 then partDomains p
  else if index = 0x7400 then
    let s := cn % 256 - 1
    if s + 1 = slicesOf p then 0x40 else s
  else if index = 0x6001 || index = 0x6404 then 22500
  else if index = 0x6002 then 65536
  else if index = 0x8051 then 8192
  else if index = 0xA101 then 1
  else if index = 0xC001 then 0xFFFF
  else if index = 0x8001 then 0x80
  else if 0x6100 ≤ index && index ≤ 0x6107 then
    if row = 0 then 2 ^ 63 + 258 * 2 ^ 40 + 2000 * 2 ^ 24 + 96 * 2 ^ 16
    else 258 * 2 ^ 40 + 30000 * 2 ^ 24 + 16 * 2 ^ 16
  else if 0x6110 ≤ index && index ≤ 0x6117 then
    (if row = 0 then 96 * 256 else 16 * 256) * 2 ^ 96
  else if index = 0xC211 then
    if row = 0 then 9437184
    else if row = 1 then 786432
    else if row = 2 then 1048576
    else if row = 3 then 3407872
    else if row ≤ 8 then (if 4 ≤ row && row < 4 + slicesOf p then 2097152 else 0)
    else if row = 9 then 262144
    else if 16 ≤ row && row ≤ 21 then (if row ≤ 16 + slicesOf p then 524288 else 0)
    else if row = 22 then 4194304
    else if 24 ≤ row && row ≤ 28 then (if row < 24 + slicesOf p then 5242880 else 0)
    else if 32 ≤ row && row ≤ 95 then 8454144
    else 0
  else 0

/-- The default of an object's value or row (R365): what whole-block reset leaves (R317). -/
def defaultOf (p : Part) (cn row : Nat) : Nat :=
  match lookupT (if cn < 0x7000_00 then lowDefaults else highDefaults) (normCn cn) with
  | some v => v
  | none => otherDefault p cn row

/-! ### The store -/

def catKey (cn row : Nat) : Nat := cn * 2 ^ 32 + row

/-- The value of row `row` of the object at call number `cn`. -/
def getRow (s : State) (cn row : Nat) : Nat :=
  (lookupT s.cat (catKey cn row)).getD (defaultOf s.part cn row)

def setRow (s : State) (cn row v : Nat) : State :=
  { s with
    cat := if v = defaultOf s.part cn row then eraseT s.cat (catKey cn row)
           else insertT s.cat (catKey cn row) v }

/-- The value of an object that is no TABLE. -/
def get (s : State) (cn : Nat) : Nat := getRow s cn 0

def set (s : State) (cn v : Nat) : State := setRow s cn 0 v

/-- Field [hi:lo] of a row. -/
def getF (s : State) (cn row hi lo : Nat) : Nat := fld (getRow s cn row) hi lo

def setF (s : State) (cn row hi lo x : Nat) : State :=
  setRow s cn row (setFld (getRow s cn row) hi lo x)

/-- A counter of `n` bits goes up by `k`, wrapping. -/
def count (s : State) (cn n k : Nat) : State := set s cn ((get s cn + k) % 2 ^ n)

def count64 (s : State) (cn : Nat) : State := count s cn 64 1

def count32 (s : State) (cn : Nat) : State := count s cn 32 1

/-- A light counter saturates at its largest value (R291). -/
def light (s : State) (cn n : Nat) : State := set s cn (min (get s cn + 1) (2 ^ n - 1))

/-- The call number of an object of port `p` (Table 17.1: index digit p). -/
def ofPort (p cn : Nat) : Nat := cn + p * 0x1_0000

/-- The call number of an object of lane `n` of port `p`, given that of lane 0 of P0. -/
def ofLane (p n cn : Nat) : Nat := cn + p * 0x1_0000 + n

/-- A call number whose low index digit is the port (Table 17.1: `6100` to `6327`). -/
def ofLow (p cn : Nat) : Nat := cn + p * 0x100

/-- What a CMD object reads as (R259): state, status and result. -/
def cmdValue (state status result : Nat) : Nat := state + status * 256 + result * 2 ^ 64

end Sys2Proof.Machine
end

