-- ==== Sys2Proof/Machine/Operands.lean ====
section
/-! DEFINITION. The operand forms: packet headers and data slots (R50 to R54, Tables 3.1 to 3.4),
endpoint identifiers (R24 to R27), and the packets this block forms (R57). -/

namespace Sys2Proof.Machine

/-! ### Endpoint identifiers (Table 2.1) -/

def ordinary (e : Nat) : Bool := e ≤ 0x3FFEFF

def service (e : Nat) : Bool := 0x3FFF00 ≤ e && e ≤ 0x3FFFEF

def portLocal (e : Nat) : Bool := 0x3FFFF0 ≤ e && e ≤ 0x3FFFF7

def reservedId (e : Nat) : Bool := 0x3FFFF8 ≤ e

/-- The value in force of an RWC object: one written while COMMISSIONING is committed on the move to IN_SERVICE (R266). -/
def inForce (s : State) (cn : Nat) : Nat := (lookupT s.mgmt.inForce cn).getD (get s cn)

/-- The value in force stays so while another is written over it (R266). -/
def holdInForce (s : State) (cn : Nat) : State :=
  if (lookupT s.mgmt.inForce cn).isNone then
    { s with mgmt.inForce := insertT s.mgmt.inForce cn (get s cn) }
  else s

/-- The block's own identifier and edition. A restore speaks with those written for it (R336). -/
def ownId (s : State) : Nat := if s.mirror.restore.isSome then get s 0x1001_00 else inForce s 0x1001_00

def ownEdition (s : State) : Nat := if s.mirror.restore.isSome then get s 0x1002_00 else inForce s 0x1002_00

/-- The source a packet sent out of port `p` carries (R25); 15 is the block's own switch. -/
def sourceAt (s : State) (p : Nat) : Nat :=
  if ordinary (ownId s) || 8 ≤ p then ownId s else 0x3FFFF0 + p

/-! ### Opcodes (Table 3.4) -/

def opRead := 0x01
def opWrite := 0x02
def opWriteAck := 0x03
def opAtomic := 0x04
def opAtomicFetch := 0x05
def opLedgerAdd := 0x08
def opLedgerRead := 0x09
def opLedgerReadClear := 0x0A
def opProbe := 0x10
def opHoldRelease := 0x11
def opNoticePost := 0x12
def opCommitPoll := 0x13
def opContrib := 0x18
def opContribLong := 0x19
def opLoanData := 0x40
def opReadRsp := 0x80
def opStatusRsp := 0x81
def opAtomicRsp := 0x82
def opLedgerRsp := 0x83
def opProbeRsp := 0x84
def opCommitAck := 0x85
def opMgmtReq := 0xC0
def opMgmtRsp := 0xC1
def opRetiredNotice := 0xC2
def opFaultReport := 0xC3
def opFaultAck := 0xC4
def opMirrorUpdate := 0xC5
def opMirrorAck := 0xC6
def opTimeSync := 0xC7

/-- Every opcode of Table 3.4. -/
def opcodes : List Nat :=
  [ 0x01, 0x02, 0x03, 0x04, 0x05, 0x08, 0x09, 0x0A, 0x10, 0x11, 0x12, 0x13, 0x18, 0x19, 0x40,
    0x80, 0x81, 0x82, 0x83, 0x84, 0x85, 0xC0, 0xC1, 0xC2, 0xC3, 0xC4, 0xC5, 0xC6, 0xC7 ]

/-- Non-posted requests (Table 3.4). -/
def nonPosted (op : Nat) : Bool :=
  op == 0x01 || op == 0x03 || op == 0x05 || op == 0x09 || op == 0x0A || op == 0x10 || op == 0xC0

/-- Fence-counted requests (Table 3.4). -/
def fenceCounted (op : Nat) : Bool :=
  op == 0x02 || op == 0x04 || op == 0x08 || op == 0x12 || op == 0x40

/-- Responses (Table 3.4). -/
def isResponse (op : Nat) : Bool := 0x80 ≤ op && op ≤ 0x85 || op == 0xC1

/-- The write-kind requests of R81. -/
def writeKind (op : Nat) : Bool :=
  op == 0x02 || op == 0x03 || op == 0x04 || op == 0x05 || op == 0x08 || op == 0x0A || op == 0x12 ||
  op == 0x40

/-- The opcodes that carry no data slots (Table 3.4). -/
def noData (op : Nat) : Bool :=
  op == 0x01 || op == 0x09 || op == 0x0A || op == 0x11 || op == 0x13 || op == 0x81 || op == 0x84 ||
  op == 0x85

/-- N of R53. -/
def slotN (k : Packet) : Nat := if k.slotCount % 256 = 0 then 256 else k.slotCount % 256

/-- The data slots the opcode's rule requires (R53, R63 step 1). -/
def dataSlots (k : Packet) : Nat := if noData k.opcode then 0 else slotN k

/-- Slots the packet occupies: two header slots and its data (R50, R196). -/
def sizeOf (k : Packet) : Nat := 2 + dataSlots k

/-- Opcode class of Table 3.1 for a vc. -/
def classOf (vc : Nat) : Nat :=
  if vc ≤ 1 then 0 else if vc ≤ 3 then 2 else if vc = 4 then 1 else 3

/-! ### Opcode-specific fields (Table 3.3); `opspec` holds header bits [213:128] -/

def offsetM (k : Packet) : Nat := fld k.opspec 85 44
def seqM (k : Packet) : Nat := fld k.opspec 43 28
def subM (k : Packet) : Nat := fld k.opspec 27 23
def size8M (k : Packet) : Bool := bit k.opspec 22
def handleM (k : Packet) : Nat := fld k.opspec 21 10
def collectiveC (k : Packet) : Nat := fld k.opspec 85 54
def elementC (k : Packet) : Nat := fld k.opspec 53 22
def formatC (k : Packet) : Nat := fld k.opspec 21 17
def statusS (k : Packet) : Nat := fld k.opspec 85 78
def offendingS (k : Packet) : Nat := fld k.opspec 77 35
def holdS (k : Packet) : Nat := fld k.opspec 34 23
def runFirstA (k : Packet) : Nat := fld k.opspec 85 70
def committedA (k : Packet) : Nat := fld k.opspec 43 28
def pollAnswerA (k : Packet) : Bool := bit k.opspec 27

def layoutM (offset seq sub : Nat) (size8 : Bool) (handle : Nat) : Nat :=
  offset % 2 ^ 42 * 2 ^ 44 + seq % 2 ^ 16 * 2 ^ 28 + sub % 32 * 2 ^ 23 + b2n size8 * 2 ^ 22 +
    handle % 2 ^ 12 * 2 ^ 10

def layoutC (collective element format : Nat) : Nat :=
  collective % 2 ^ 32 * 2 ^ 54 + element % 2 ^ 32 * 2 ^ 22 + format % 32 * 2 ^ 17

def layoutS (status offending hold : Nat) : Nat :=
  status % 256 * 2 ^ 78 + offending % 2 ^ 43 * 2 ^ 35 + hold % 2 ^ 12 * 2 ^ 23

def layoutA (runFirst committed : Nat) (poll : Bool) : Nat :=
  runFirst % 2 ^ 16 * 2 ^ 70 + committed % 2 ^ 16 * 2 ^ 28 + b2n poll * 2 ^ 27

/-! ### The packet as slots and bytes (Table 3.2) -/

/-- The header as 256 bits. -/
def header (k : Packet) : Nat :=
  k.partition % 16 * 2 ^ 252 + k.partitionEdition % 256 * 2 ^ 244 + k.tracker % 2 ^ 16 * 2 ^ 228 +
  k.turn % 16 * 2 ^ 224 + k.issuer % 1024 * 2 ^ 214 + k.opspec % 2 ^ 86 * 2 ^ 128 +
  k.crc % 2 ^ 32 * 2 ^ 96 + k.dst % 2 ^ 22 * 2 ^ 74 + k.dstEdition % 256 * 2 ^ 66 +
  k.src % 2 ^ 22 * 2 ^ 44 + k.srcEdition % 256 * 2 ^ 36 + k.opcode % 256 * 2 ^ 28 +
  k.slotCount % 256 * 2 ^ 20 + k.lastByte % 16 * 2 ^ 16 + k.vc % 8 * 2 ^ 13 +
  k.colour % 4 * 2 ^ 11 + b2n k.poison * 2 ^ 10 +
  k.reserved % 2 ^ 10

/-- The slots on the wire: two of header, then data. -/
def packetSlots (k : Packet) : List Nat :=
  header k % 2 ^ 128 :: header k / 2 ^ 128 :: k.data.map (· % 2 ^ 128)

/-- A packet read from its slots. -/
def packetOf (slots : List Nat) (abort postHold : Bool) : Packet :=
  let h := nth 0 0 slots + nth 0 1 slots * 2 ^ 128
  { partition := fld h 255 252, partitionEdition := fld h 251 244, tracker := fld h 243 228,
    turn := fld h 227 224, issuer := fld h 223 214, opspec := fld h 213 128, crc := fld h 127 96,
    dst := fld h 95 74, dstEdition := fld h 73 66, src := fld h 65 44, srcEdition := fld h 43 36,
    opcode := fld h 35 28, slotCount := fld h 27 20, lastByte := fld h 19 16, vc := fld h 15 13,
    colour := fld h 12 11, poison := bit h 10, reserved := fld h 9 0,
    data := slots.drop 2, abort := abort,
    postHold := postHold }

/-- The CRC-32C of a packet (R61): e2e_crc, vc and colour taken as zero. -/
def packetCrc (k : Packet) : Nat :=
  crc32c (bytesLE 32 (header { k with crc := 0, vc := 0, colour := 0 }) ++
    (k.data.map (bytesLE 16)).flatten)

def sealed (k : Packet) : Packet := { k with crc := packetCrc k }

def crcOk (k : Packet) : Bool := k.crc % 2 ^ 32 == packetCrc k

/-- All data bytes, slot by slot. -/
def dataBytes (k : Packet) : List Byte := (k.data.map (bytesLE 16)).flatten

/-- Bytes of a byte-extent packet's extent (R53). -/
def extentLength (k : Packet) : Nat := 16 * slotN k - offsetM k % 16 - (15 - k.lastByte % 16)

/-- The bytes a byte-extent packet moves (R54). -/
def extentBytes (k : Packet) : List Byte :=
  ((dataBytes k).drop (offsetM k % 16)).take (extentLength k)

/-- Sixteen-byte slots that hold bytes from place `lead` of the first slot on, zero elsewhere (R54). -/
def slotsOf (lead : Nat) (bs : List Byte) : List Nat :=
  let all := List.replicate lead (0 : Byte) ++ bs
  (upFrom 0 ((all.length + 15) / 16)).map fun i => numLE ((all.drop (16 * i)).take 16)

/-- A packet of this block's with the fields every packet shares; `sealed` completes it. -/
def blankPacket : Packet :=
  { partition := 0, partitionEdition := 0, tracker := 0, turn := 0, issuer := 0, opspec := 0,
    crc := 0, dst := 0, dstEdition := 0, src := 0, srcEdition := 0, opcode := 0, slotCount := 0,
    lastByte := 15, vc := 0, colour := 0, poison := false, reserved := 0, data := [], abort := false,
    postHold := false }

/-- The response to a request that came by `p` (R57, R25): 15 stands for this block's own switch. -/
def respond (s : State) (p : Nat) (k : Packet) (op opspec slotCount lastByte : Nat) (poison : Bool)
    (data : List Nat) : Packet :=
  sealed
    { blankPacket with
      partition := k.partition, partitionEdition := k.partitionEdition, tracker := k.tracker,
      turn := k.turn, issuer := k.issuer, opspec := opspec,
      dst := if portLocal k.src then 0x3FFFF0 + p else k.src,
      dstEdition := k.srcEdition, src := sourceAt s p, srcEdition := ownEdition s, opcode := op,
      slotCount := slotCount % 256, lastByte := lastByte, vc := if op = opMgmtRsp then 5 else 2,
      poison := poison, data := data }

/-- STATUS_RSP with a status and an offending offset (R57). It travels on RSP-A, the class of its
opcode (R50), for an MGMT_REQ too (log entry 14). -/
def statusRspFor (s : State) (p : Nat) (k : Packet) (status offending : Nat) : Packet :=
  respond s p k opStatusRsp (layoutS status offending 0) 0 15 false []

/-! ### Byte-extent arithmetic -/

/-- slot_count and last_byte of an extent of `len` bytes at `offset` (R53). -/
def extentCount (offset len : Nat) : Nat := (offset % 16 + len + 15) / 16

def extentLast (offset len : Nat) : Nat := (offset + len - 1) % 16

/-- Pieces (offset, length) of an extent split at 4 KiB-aligned offsets (R54); `fuel` bounds them. -/
def split4K : Nat → Nat → Nat → List (Nat × Nat)
  | 0, _, _ => []
  | fuel + 1, off, len =>
    if len = 0 then []
    else
      let n := min len (4096 - off % 4096)
      (off, n) :: split4K fuel (off + n) (len - n)

end Sys2Proof.Machine
end

