-- ==== Sys2Proof/Machine/Flags.lean ====
section
/-! DEFINITION. Statuses (Table 0.5) and the flags and records the rules raise: stamps (R281), the
accession log's queue (R340), error codes (R310), attention (R352), on-demand counters (R292) and
the outcome of a Catalogue command (R259). -/

namespace Sys2Proof.Machine

/-! ### Status codes (R11) -/

def stOk := 0x00
def stEmpty := 0x01
def stMiss := 0x10
def stRights := 0x11
def stStraddle := 0x12
def stStale := 0x13
def stPoliced := 0x14
def stMalformed := 0x15
def stTimeout := 0x20
def stLinkLost := 0x21
def stFenceLost := 0x22
def stAborted := 0x23
def stPoison := 0x24
def stRetired := 0x25
def stPreempted := 0x26
def stBusy := 0x30
def stUnsupported := 0x3F

/-- The statuses of Table 0.5. -/
def statuses : List Nat :=
  [ 0x00, 0x01, 0x10, 0x11, 0x12, 0x13, 0x14, 0x15, 0x20, 0x21, 0x22, 0x23, 0x24, 0x25, 0x26, 0x30,
    0x3F ]

/-- A listed status that no rule gives: a host error leaves it unpredictable (R11, R12). -/
def freeStatus (s : State) : Nat × State :=
  let (n, s) := draw s
  (nth stOk (Config.freeChoice n % 17) statuses, s)

/-- `len` bytes that no rule gives (R12). -/
def freeBytes (s : State) (len : Nat) : List Byte × State :=
  let (n, s) := draw s
  ((upFrom 0 len).map fun i => BitVec.ofNat 8 (Config.freeByte n i), s)

/-- A value below 2^`bits` that no rule gives (R12). -/
def freeValue (s : State) (bits : Nat) : Nat × State :=
  let (n, s) := draw s
  (Config.freeValue n % 2 ^ bits, s)

/-! ### Where the block stands -/

/-- `1100.00`: 0 UNCOMMISSIONED, 1 COMMISSIONING, 2 IN_SERVICE, 3 RETIRED. -/
def commission (s : State) : Nat := get s 0x1100_00

def retired (s : State) : Bool := commission s == 3

/-- The block issues nothing: RETIRED, or COMMISSIONING entered from RETIRED (R48, R265). -/
def silent (s : State) : Bool := retired s || commission s == 1 && s.mgmt.fromRetired

/-- A domain is on (R355). -/
def domainOn (s : State) (d : Nat) : Bool := bit (get s 0xE000_02) d

/-- Global stop (R301, byte 0 of stop_state). -/
def stopped (s : State) : Bool := fld (get s 0xC200_02) 7 0 == 1

/-- The loaded image runs and no restart is under way (R312, R358). -/
def firmwareRuns (s : State) : Bool := get s 0x8010_03 == 2 && !s.recovery.restarting

/-- The central switch works: not held in reset, its domain on (R14). -/
def switchOn (s : State) : Bool := !held s && domainOn s 2

/-- The halted units of R301 run: no reset, no global stop, their domain on. -/
def unitsRun (s : State) (d : Nat) : Bool := !held s && !stopped s && domainOn s 2 && domainOn s d

/-- `2p00.01`: 0 INIT, 1 UP, 2 HELD, 3 FLUSHED. -/
def linkState (s : State) (p : Nat) : Nat := get s (ofPort p 0x2000_01)

def isUp (s : State) (p : Nat) : Bool := linkState s p == 1

def partitionState (s : State) (n : Nat) : Nat := get s (0xA102_01 + n)

def partitionEdition (s : State) (n : Nat) : Nat := get s (0x5200_01 + n)

/-- A partition is in DRAINING or MEMORY_RESET (Table 14.5). -/
def partitionDown (s : State) (n : Nat) : Bool := 2 ≤ partitionState s n

/-! ### Stamps (Table 13.1); islands: 0 central, p + 1 port p, 9 management, 10 fabric time -/

/-- stop_ns of the stamps that are being made, saturating (R281). -/
def stopNs (s : State) : Nat := min (s.time.stopNs.getD 0) (2 ^ 40 - 1)

/-- The stamps that are being made are late (R281). -/
def late (s : State) : Bool := s.time.stopNs.isSome

def stamp (s : State) (island : Nat) : Nat :=
  now s * 2 ^ 64 + b2n (late s) * 2 ^ 63 + island * 2 ^ 56 + stopNs s

/-! ### Accession log queue (R340); a record's bits less its sequence and chain code (Table 15.6) -/

def recordBits (time island kind status path detail : Nat) : Nat :=
  time % 2 ^ 64 * 2 ^ 384 + island % 128 * 2 ^ 376 + kind % 256 * 2 ^ 328 + status % 256 * 2 ^ 320 +
    path % 16 * 2 ^ 316 + detail / 2 ^ 64 % 2 ^ 240 * 2 ^ 64

/-- Places of the log's queue (R340). -/
def logPlaces : Nat := 256

/-- late and stop_ns of an event's record (Table 15.6). -/
def lateBits (s : State) : Nat := b2n (late s) * 2 ^ 383 + stopNs s * 2 ^ 336

/-- An event takes a place, or is counted when the queue is full (R340). -/
def logEvent (s : State) (island kind status detail : Nat) : State :=
  if s.log.queue.length < logPlaces then
    { s with log.queue := s.log.queue ++ [{ bits := recordBits (now s) island kind status 0 detail + lateBits s }] }
  else
    count64 { s with log.dropped := s.log.dropped + 1 } 0xF004_00

/-- Requester class as the log's path field (Table 15.6). -/
def Path.code (p : Path) : Nat :=
  match p with
  | .block => 0
  | .shelf => 1
  | .host => 2
  | .fm => 3
  | .neighbour => 4
  | .endpoint => 5

/-- A record with a requester whose cause is an event takes a place, or is counted when the queue is full (R340). -/
def logRequested (s : State) (kind status : Nat) (rq : Requester) (detail : Nat) : State :=
  if s.log.queue.length < logPlaces then
    { s with log.queue := s.log.queue ++ [{ bits := recordBits (now s) 9 kind status (Path.code rq.cls) detail }] }
  else count64 { s with log.dropped := s.log.dropped + 1 } 0xF004_00

/-- A management access's record takes a place; it is never dropped (R340). -/
def logAccess (s : State) (kind status : Nat) (rq : Requester) (detail : Nat) : State :=
  { s with log.queue := s.log.queue ++
      [{ bits := recordBits (now s) 9 kind status (Path.code rq.cls) detail }] }

/-- Two accesses come from one requester: by address and port on Shelf net, by source endpoint and port of
arrival in-band. -/
def sameRequester (a b : Requester) : Bool :=
  (a.cls == .shelf) == (b.cls == .shelf) && (a.cls == .host) == (b.cls == .host) && a.ident == b.ident &&
    a.port == b.port

/-- Pass a requester's place in the client table through `f` (R271). -/
def updClient (s : State) (rq : Requester) (f : Client → Client) : State :=
  { s with mgmt.clients := s.mgmt.clients.map fun c => if sameRequester c.rq rq then f c else c }

/-- The record of a message closes with what was carried out of it (R271). -/
def closeRecord (s : State) (m : MsgRun) : State :=
  updClient s m.rq fun c =>
    { c with records := c.records.map fun r =>
        if r.number = m.number && r.running then { r with running := false, items := m.done, skipped := m.todo } else r }

/-- The requester field of a CONFIG record (Table 15.7), bits [197:134] of the record. -/
def requesterBits (rq : Requester) : Nat :=
  match rq.cls with
  | .shelf => rq.ident % 2 ^ 64 * 2 ^ 134
  | .host => 0
  | .block => 0
  | _ => rq.ident % 2 ^ 22 * 2 ^ 176 + rq.port % 16 * 2 ^ 172

/-- The detail of a CONFIG or RIGHTS_REFUSAL record (Table 15.7): op 1 WRITE, 2 INVOKE. -/
def configDetail (cn op row countM1 digest : Nat) (rq : Requester) : Nat :=
  cn / 256 % 2 ^ 16 * 2 ^ 288 + cn % 256 * 2 ^ 280 + op % 4 * 2 ^ 278 + row % 2 ^ 32 * 2 ^ 246 +
    countM1 % 2 ^ 16 * 2 ^ 230 + digest % 2 ^ 32 * 2 ^ 198 + requesterBits rq

/-! ### Error codes (R310) -/

/-- Write an error code with its event stamp, and an ERROR record. -/
def writeError (s : State) (island code : Nat) : State :=
  let s := set s 0xA000_00 code
  let s := set s 0xA000_01 (stamp s island)
  logEvent s island 0x20 0 (code * 2 ^ 288)

/-- Set bits of fault_attention (`A203.01`). -/
def faultAttention (s : State) (n : Nat) : State := set s 0xA203_01 (setBit (get s 0xA203_01) n true)

/-- attention_sources (Table 16.4). -/
def attentionSources (s : State) : Nat :=
  b2n (get s 0xA203_01 != 0) + b2n (get s 0x8204_00 != 0) * 2 + b2n (retired s) * 4 +
    b2n (stopped s) * 8 + b2n (get s 0xE102_02 != 0) * 16 +
    b2n (get s 0x8010_03 == 0 || get s 0x8010_03 == 3) * 32 + b2n s.power.faultLatched * 64

/-- ATTN (R352). -/
def attn (s : State) : Bool := attentionSources s &&& get s 0x8020_01 != 0

/-! ### On-demand counters (R292, Table 13.6) -/

/-- Whether a counter's configuration takes an event at a port about a packet. -/
def odcMatches (cfg event : Nat) (p : Option Nat) (k : Option Packet) : Bool :=
  bit cfg 31 && fld cfg 7 0 == event &&
    (if event = 0x01 || event = 0x02 || event = 0x03 || event = 0x0A then
      (match p with
       | some q => bit (fld cfg 18 11) q
       | none => false) &&
      (match k with
       | some k => (!bit cfg 30 || fld cfg 26 19 == k.opcode) && (fld cfg 29 27 == 7 || fld cfg 29 27 == k.vc)
       | none => true)
     else if event = 0x0B || event = 0x0C then
      (match p with
       | some q => bit (fld cfg 18 11) q
       | none => false)
     else true)

/-- Count an event on every on-demand counter that selects it. -/
def odc (s : State) (event : Nat) (p : Option Nat) (k : Option Packet) (n : Nat) : State :=
  if domainOn s 24 && !stopped s then
    forEach (upFrom 0 16)
      (fun t i => if odcMatches (get t (0xD100_01 + i)) event p k then count t (0xD101_01 + i) 64 n else t) s
  else s

/-! ### The outcome of a Catalogue command (R259, R339) -/

/-- Objects whose accesses write no CONFIG record (R339). -/
def unrecorded (cn : Nat) : Bool :=
  let i := cn / 256
  cn == 0x5101_00 || cn == 0x6401_00 || cn == 0x7101_00 || cn == 0x7103_00 || cn == 0x7200_01 ||
  cn == 0x8101_00 || cn == 0x8201_00 || cn == 0x11F0_00 || i == 0x11F1 || cn == 0x6330_00 ||
  cn == 0x8205_00 || cn == 0xA203_02 || cn == 0xD102_00 || cn == 0xD200_00

def digestOf (bs : List Byte) : Nat := crc32c bs

/-- An invocation that ends with this status writes a CONFIG record (R339). -/
def invokeRecorded (cn status : Nat) : Bool := (status == stOk || status == stEmpty) && !unrecorded cn

/-- The CONFIG record of an invocation (R339). -/
def recordInvoke (s : State) (cn status digest : Nat) (rq : Requester) : State :=
  if invokeRecorded cn status then logAccess s 0x10 status rq (configDetail cn 2 0 0 digest rq) else s

/-- A new invocation of the command at `cn`: its object no longer describes an earlier one (R259). -/
def newInvocation (s : State) (cn : Nat) : State :=
  { s with mgmt.running := s.mgmt.running.map fun v => if v.cn = cn then { v with latest := false } else v
           mgmt.ended := s.mgmt.ended.map fun e =>
             if e.1.cn = cn then ({ e.1 with latest := false }, e.2) else e }

/-- The end of an invocation that did not wait: its slot reads DONE with the status and result, and a status of OK or
OK_EMPTY writes a CONFIG record (R259, R339). `digest` covers the argument and any staged bytes. -/
def cmdDone (s : State) (cn status result digest : Nat) (rq : Requester) : State :=
  recordInvoke (newInvocation (set s cn (cmdValue 2 status result)) cn) cn status digest rq

/-- An invocation that waits: its slot reads RUNNING (R259, R260). -/
def cmdRuns (s : State) (cn arg digest : Nat) (rq : Requester) : State :=
  let s := newInvocation (set s cn (cmdValue 1 0 0)) cn
  { s with mgmt.running := s.mgmt.running ++
      [{ cn := cn, arg := arg, rq := rq, msg := 0, digest := digest, latest := true }] }

/-- Invocations that may run at once (R260). -/
def invocationLimit : Nat := 32

/-- Invocations that run: one that is over still runs while it waits for the log (R340). -/
def invocations (s : State) : Nat := s.mgmt.running.length + s.mgmt.ended.length

/-- What a command's own rule does with an invocation: it returns a status and a result, or waits. -/
inductive CmdOut where
  | done (status result : Nat)
  | waits
  deriving DecidableEq, Repr

/-- Carry out an invocation of the command at `cn` (R259, R260): a 33rd is refused BUSY; otherwise
the command's own rule `op` decides. `arg` is what a later event finds the invocation by, `digest`
the digest of its CONFIG record (R339). -/
def invoke (cn arg digest : Nat) (rq : Requester) (op : State → State × CmdOut) (s : State) :
    State × CmdOut :=
  if invocations s ≥ invocationLimit then
    (cmdDone s cn stBusy 0 digest rq, .done stBusy 0)
  else
    let (t, r) := op s
    match r with
    | .done status result => (cmdDone t cn status result digest rq, .done status result)
    | .waits => (cmdRuns t cn arg digest rq, .waits)

/-- The first running invocation of `cn` with argument `arg`. -/
def runningInvocation (s : State) (cn arg : Nat) : Option Invocation :=
  s.mgmt.running.find? fun v => v.cn == cn && v.arg == arg

/-- An invocation that waited returns (R259, R339): its object describes it if it is the latest, and a message that waits
for it may go on (R269). -/
def returnInvocation (s : State) (v : Invocation) (status result : Nat) : State :=
  let s := if v.latest then set s v.cn (cmdValue 2 status result) else s
  let s := recordInvoke s v.cn status v.digest v.rq
  if v.msg = 0 then s
  else { s with mgmt.finished := s.mgmt.finished ++ [(v.msg, status, result)] }

/-- A waiting invocation is over (R260); it returns once the log's queue has a place for its record (R340). With no such
invocation nothing happens. -/
def endInvocation (s : State) (cn arg status result : Nat) : State :=
  match runningInvocation s cn arg with
  | none => s
  | some v =>
    let s := { s with mgmt.running := s.mgmt.running.erase v }
    if invokeRecorded cn status && decide (logPlaces ≤ s.log.queue.length) then
      { s with mgmt.ended := s.mgmt.ended ++ [(v, status, result)] }
    else returnInvocation s v status result

/-- The invocation that has waited longest for the log's queue returns, once there is a place (R340). -/
def returnEnded (s : State) : State :=
  match s.mgmt.ended with
  | [] => s
  | (v, status, result) :: es =>
    if s.log.queue.length < logPlaces then returnInvocation { s with mgmt.ended := es } v status result else s

end Sys2Proof.Machine
end

