-- ==== Sys2Proof/Machine/Egress.lean ====
section
/-! DEFINITION. The way out: editions of destinations (R42, R43), route lookup (R169 to R177),
policers (R200 to R202), output queues (R192 to R194) and token buckets (R197, R199). -/

namespace Sys2Proof.Machine

/-- The listed rows of a TABLE, as (row, value). -/
def rowsOf (s : State) (cn : Nat) : List (Nat × Nat) :=
  s.cat.filterMap fun e => if e.1 / 2 ^ 32 = cn then some (e.1 % 2 ^ 32, e.2) else none

/-- A row of central table `t` (Table 14.3) at call number `cn`: one that failed in both copies acts
as UNREACHABLE, invalid or FREE, which all are zero (R316). -/
def liveRow (s : State) (t cn row : Nat) : Nat :=
  if s.recovery.badRows.contains (t * 65536 + row) then 0 else getRow s cn row

def liveRows (s : State) (t cn : Nat) : List (Nat × Nat) :=
  (rowsOf s cn).filter fun e => !s.recovery.badRows.contains (t * 65536 + e.1)

/-! ### Editions -/

/-- The row and the edition of the valid edition exception for an endpoint (R43). -/
def exceptionOf (s : State) (ep : Nat) : Option (Nat × Nat) :=
  match (liveRows s 4 0x5300_00).find? (fun e => bit e.2 31 && fld e.2 21 0 == ep) with
  | some e => some (e.1, fld e.2 29 22)
  | none => none

/-- Endpoint and edition of the latest valid bookplate received on a port (Table 11.4). -/
def partnerEndpoint (s : State) (p : Nat) : Nat := fld (get s (ofPort p 0x2040_01)) 463 442

def partnerEdition (s : State) (p : Nat) : Nat := fld (get s (ofPort p 0x2040_01)) 441 434

/-- dst_edition of a packet formed here that is no response and no Collator packet (R42, R44). -/
def editionFor (s : State) (dst : Nat) : Nat :=
  if dst = ownId s then ownEdition s
  else if portLocal dst then partnerEdition s (dst - 0x3FFFF0)
  else match exceptionOf s dst with
    | some e => e.2
    | none => 0

/-! ### Routes -/

/-- pair_hash (R172). -/
def pairHash (src dst : Nat) : Nat := crc32c (bytesLE 3 (src % 2 ^ 22) ++ bytesLE 3 (dst % 2 ^ 22))

/-- The route value that serves a destination (R171). -/
def routeOf (s : State) (dst : Nat) : Nat :=
  match (liveRows s 1 0x4101_00).find? (fun e => bit e.2 63 && fld e.2 53 32 == dst) with
  | some e => fld e.2 15 0
  | none => liveRow s 0 0x4100_00 (fld dst 21 6)

/-- The port a route value gives for a pair, or none for UNREACHABLE or an absent port (R171, R177). -/
def routePort (s : State) (route src dst : Nat) : Option Nat :=
  let q :=
    if fld route 15 14 = 1 then some (fld route 7 0)
    else if fld route 15 14 = 2 then
      if s.recovery.badRows.contains (2 * 65536 + fld route 7 0) then none
      else
        let g := getRow s 0x4102_00 (fld route 7 0)
        let n := pairHash src dst % (fld g 63 60 + 1)
        some (fld g (3 * n + 2) (3 * n))
    else none
  match q with
  | some q => if q < portsOf s.part then some q else none
  | none => none

/-- The egress of a packet on an ordinary path (R171). -/
def egressOf (s : State) (src dst : Nat) : Option Nat :=
  if portLocal dst then
    (if dst - 0x3FFFF0 < portsOf s.part then some (dst - 0x3FFFF0) else none)
  else routePort s (routeOf s dst) src dst

/-- The vc after the dateline rule (R174), and whether it moved. -/
def datelineVc (s : State) (q vc : Nat) : Nat × Bool :=
  if bit (get s 0x4001_00) q && (vc = 0 || vc = 2) then (vc + 1, true) else (vc, false)

/-! ### Token buckets (R197, R199) -/

/-- Queue configuration row (Table 9.2) and queue state row (Table 9.7). -/
def queueCfg (s : State) (p q : Nat) : Nat := getRow s (ofLow p 0x6100_00) q

/-- The shaper values in effect: on the smaller parts a write waits for the next refill (R198). -/
def shaperCfg (s : State) (p q : Nat) : Nat := (lookupT (port s p).oldCfg q).getD (queueCfg s p q)

def queueTokens (s : State) (p q : Nat) : Int := signed 32 (getF s (ofLow p 0x6110_00) q 127 96)

def setQueueTokens (s : State) (p q : Nat) (t : Int) : State :=
  setF s (ofLow p 0x6110_00) q 127 96 (unsigned 32 t)

/-- The queue's shaper allows a packet (R197). -/
def shaperAllows (s : State) (p q : Nat) : Bool := !bit (shaperCfg s p q) 63 || 0 < queueTokens s p q

/-- A loan entry's row (Table 8.6). -/
def loanRow (s : State) (n : Nat) : Nat := liveRow s 5 0x6400_00 n

def loanState (s : State) (n : Nat) : Nat := fld (loanRow s n) 255 254
def loanRole (s : State) (n : Nat) : Nat := fld (loanRow s n) 253 252
def loanDiscards (s : State) (n : Nat) : Bool := bit (loanRow s n) 251 && loanState s n != 0
def loanIngress (s : State) (n : Nat) : Nat := fld (loanRow s n) 249 247
def loanEgress (s : State) (n : Nat) : Nat := fld (loanRow s n) 246 244
def loanSource (s : State) (n : Nat) : Nat := fld (loanRow s n) 227 206
def loanDest (s : State) (n : Nat) : Nat := fld (loanRow s n) 205 184
def loanRate (s : State) (n : Nat) : Nat := fld (loanRow s n) 183 168
def loanBurst (s : State) (n : Nat) : Nat := fld (loanRow s n) 167 160

def fullBucket (burst : Nat) : Bucket := { tokens := 256 * burst, frac := 0 }

/-- A loan's bucket at its egress: full when nothing is held for it (R199). -/
def loanBucket (s : State) (p n : Nat) : Bucket :=
  (lookupT (port s p).buckets n).getD (fullBucket (loanBurst s n))

def setLoanBucket (s : State) (p n : Nat) (b : Bucket) : State :=
  setPort s p fun q => { q with buckets := insertT q.buckets n b }

def chargeLoan (s : State) (p n size : Nat) : State :=
  let b := loanBucket s p n
  setLoanBucket s p n { b with tokens := b.tokens - size }

/-! ### Policers (R200, R201) -/

/-- Policed requests: on REQ-A or REQ-B, neither COMMIT_POLL nor HOLD_RELEASE (R200). -/
def policed (k : Packet) : Bool := k.vc ≤ 1 && k.opcode != opCommitPoll && k.opcode != opHoldRelease

/-- The first valid binding that matches at the ORIGIN point (R200). -/
def originBinding (s : State) (k : Packet) : Option Nat :=
  match (rowsOf s 0x6201_00).find? (fun e =>
      bit e.2 127 && !bit e.2 126 && bit (fld e.2 111 96) k.partition &&
        fld e.2 87 66 ≤ k.dst && k.dst ≤ fld e.2 65 44) with
  | some e => some e.2
  | none => none

/-- The first valid binding that matches at the ARRIVAL point (R200). -/
def arrivalBinding (s : State) (p : Nat) (k : Packet) : Option Nat :=
  match (rowsOf s 0x6201_00).find? (fun e =>
      bit e.2 127 && bit e.2 126 && bit (fld e.2 119 112) p &&
        fld e.2 87 66 ≤ k.src && k.src ≤ fld e.2 65 44) with
  | some e => some e.2
  | none => none

/-- A policer's counts; full when nothing is held for it (R201). -/
def policerRun (s : State) (n : Nat) : PolicerRun :=
  let row := getRow s 0x6200_00 n
  (lookupT s.policers n).getD { tc := 256 * fld row 15 8, tp := 256 * fld row 7 0 }

/-- The colour policer `n` decides for a packet of `size` slots, and its counts after (R201). -/
def decideColour (row size colour : Nat) (r : PolicerRun) : Nat × PolicerRun :=
  let aware := bit row 62
  if aware && colour == 2 || r.tp < size then (2, r)
  else if aware && colour == 1 || r.tc < size then (1, { r with tp := r.tp - size })
  else (0, { tc := r.tc - size, tp := r.tp - size })

/-- Police a packet: no policer lowers a colour, and Table 9.5 counts what was decided, a YELLOW packet that was
decided GREEN as left YELLOW (R201, R202). -/
def police (s : State) (n : Nat) (k : Packet) : Packet × State :=
  let row := getRow s 0x6200_00 n
  if !bit row 63 then (k, s)
  else
    let (c, r) := decideColour row (sizeOf k) k.colour (policerRun s n)
    let s := { s with policers := insertT s.policers n r }
    let hi := if c = 2 then 127 else if c = 1 || k.colour = 1 then 191 else 255
    let s := setF s 0x6202_00 n hi (hi - 63) (getF s 0x6202_00 n hi (hi - 63) + 1)
    ({ k with colour := max c k.colour }, s)

/-- The ORIGIN point: a request this block forms is checked once (R200). -/
def policeOrigin (s : State) (k : Packet) : Packet × State :=
  if policed k then
    match originBinding s k with
    | some b => police s (fld b 95 88) k
    | none => (k, s)
  else (k, s)

/-! ### Output queues (R192) -/

/-- The queue a packet joins (Table 9.1); `origin` is the port of arrival, 15 when formed here. -/
def queueFor (k : Packet) (origin : Nat) : Nat :=
  if k.vc = 5 then 0
  else if k.vc = 4 then (if origin < 8 then 1 + origin else 9)
  else if k.vc ≤ 1 then
    (if origin < 8 then 10 + 8 * k.vc + origin else 42 + pairHash k.src k.dst % 12)
  else (if origin < 8 then 26 + 8 * (k.vc - 2) + origin else 54 + pairHash k.src k.dst % 10)

/-- The queue holds packets formed here, where it is not that of MGMT (Table 9.1). -/
def formedQueue (q : Nat) : Bool := q == 9 || 42 ≤ q

/-- Places of a queue (R192). -/
def queuePlaces : Nat := 128

def queueOf (s : State) (p q : Nat) : List Desc := (lookupT (port s p).queues q).getD []

/-- Packets of a queue that the scheduler has chosen and that have not begun transmission: they still count among its
packets (R192, R203). -/
def chosenOf (x : Port) (q : Nat) : List TxPacket := x.tx.filter fun t => !t.begun && t.queue == q

/-- Places of a queue for packets that are not chosen. -/
def placesOf (x : Port) (q : Nat) : Nat := queuePlaces - (chosenOf x q).length

def queueFull (s : State) (p q : Nat) : Bool := placesOf (port s p) q ≤ (queueOf s p q).length

/-- Slots in a receive buffer of port `p`: those of packets that wait here or are being received, and of those passing
through that their egress has not sent (R192, R217). `want` picks the buffer: the channel, and whether it is the pool. -/
def heldSlots (s : State) (p : Nat) (want : Nat → Bool → Bool) : Nat :=
  let x := port s p
  let here := (x.rxBuf.flatMap fun e => (e.2.filter fun r => want e.1 r.pool).map (·.slots))
  let vc := fld (nth 0 0 x.rxSlots) 15 13
  let coming := if !x.rxSlots.isEmpty && vc < 6 && want vc x.rxPool then [x.rxSlots.length - x.rxShort] else []
  let away (r : Option RxPlace) : Nat := ((r.filter fun r => r.port == p && want r.vc r.pool).map (·.slots)).getD 0
  let leaving := s.ports.flatMap fun x =>
    (x.queues.flatMap fun e => e.2.map fun d => away d.rx) ++ x.tx.map fun t => away t.rx
  (here ++ coming ++ leaving ++ s.switch.passWaits.map fun w => away w.rx).foldl (· + ·) 0

def dedicatedInUse (s : State) (p v : Nat) : Nat := heldSlots s p fun w pool => w == v && !pool

def poolInUse (s : State) (p : Nat) : Nat := heldSlots s p fun _ pool => pool

/-- Pool occupancy sets and clears xoff, at each change of it (R219). -/
def reviewXoff (s : State) (p : Nat) : State :=
  let top := 262144 - get s (ofPort p 0x2000_09)
  let n := poolInUse s p
  setPort s p fun x =>
    { x with xoff := if top < n then true else if n + get s (ofPort p 0x2000_08) ≤ top then false else x.xoff }

/-- Slots of a receive buffer are free: dedicated ones are returned as credit (R217), and the pool is that much emptier
(R219). -/
def freeRx (s : State) (r : Option RxPlace) : State :=
  match r with
  | some r =>
    if r.pool then reviewXoff s r.port
    else setPort s r.port fun x => { x with freed := modifyNth (fun n => (n + r.slots) % 16384) r.vc x.freed }
  | none => s

/-- A queue's packets once some have left it: those inside its places have joined it (R192, R204). -/
def settledQueue (places cycle : Nat) (ds : List Desc) : List Desc :=
  (ds.take places).map (fun d => { d with joined := some (d.joined.getD cycle) }) ++ ds.drop places

/-- Leave the packets `ds` in a queue of port `p`. -/
def setQueue (s : State) (p q : Nat) (ds : List Desc) : State :=
  setPort s p fun x =>
    { x with queues :=
        if ds.isEmpty then eraseT x.queues q else insertT x.queues q (settledQueue (placesOf x q) s.time.cycles ds) }

/-- A packet joins a queue. One formed here that finds it full waits in the central switch in order,
which the list beyond its 128 places stands for (R193). -/
def joinQueue (s : State) (p : Nat) (k : Packet) (origin : Nat) (entry : Option Nat)
    (rx : Option RxPlace) : State :=
  let q := queueFor k origin
  let s := setQueue s p q (queueOf s p q ++ [{ k := k, origin := origin, entry := entry, joined := none, rx := rx }])
  setPort s p fun x =>
    { x with active := if 10 ≤ q && !x.active.contains q then x.active ++ [q] else x.active }

/-- What becomes of a packet this block sends (R171, R177, R227). -/
inductive Sent where
  /-- It joined a queue, or the block's own switch. -/
  | queued (s : State)
  /-- No route (R177). -/
  | unreachable (s : State)
  /-- Its port is flushed and not UP again (R227). -/
  | flushed (s : State)
  deriving Repr

def Sent.state (r : Sent) : State :=
  match r with
  | .queued s => s
  | .unreachable s => s
  | .flushed s => s

/-- The port takes packets: UP, or HELD with packets still joining its queues (R225, R227). -/
def portTakes (s : State) (p : Nat) : Bool := linkState s p == 1 || linkState s p == 2

/-- A packet formed here by a block with no identifier takes the port-local value of the port it leaves by as its
source (R25). -/
def namedAt (s : State) (q : Nat) (k : Packet) : Packet :=
  if k.src = 0x3FFFFF then sealed { k with src := sourceAt s q } else k

/-- A packet formed here goes to port `q` (R25, R171, R174, R192, R227): one to a port-local destination takes no
dateline step. -/
def sendAt (s : State) (q : Nat) (k : Packet) (entry : Option Nat) : Sent :=
  let k := namedAt s q k
  if portTakes s q then
    let (vc, moved) := if portLocal k.dst then (k.vc, false) else datelineVc s q k.vc
    let s := if moved then count64 s 0x4000_03 else s
    .queued (joinQueue s q { k with vc := vc } 15 entry none)
  else .flushed (count64 s (ofPort q 0x2020_0C))

/-- A LOAN_DATA discarded whole under a loan's DISCARD mode (R186). -/
def countHopDiscard (s : State) (n : Nat) : State :=
  setF s 0x6406_00 n 127 96 (getF s 0x6406_00 n 127 96 + 1)

/-- A LOAN_DATA goes to its loan's egress and is counted there (Table 8.6). At a port that has flushed it waits, or is
discarded in DISCARD mode (R186, R191). -/
def loanForward (s : State) (n : Nat) (k : Packet) (origin : Nat) (rx : Option RxPlace) : State :=
  let q := loanEgress s n
  if loanDiscards s n && !portTakes s q then freeRx (countHopDiscard s n) rx
  else joinQueue (setF s 0x6400_00 n 63 0 (getF s 0x6400_00 n 63 0 + 1)) q (namedAt s q k) origin none rx

/-- A packet formed here is sent: to the block's own switch, or by R171; a request meets the ORIGIN
point first (R200). -/
def sendPacket (s : State) (k : Packet) (entry : Option Nat) : Sent :=
  let (k, s) := policeOrigin s k
  if k.dst = ownId s && !portLocal k.dst then .queued { s with switch.loop := s.switch.loop ++ [k] }
  else
    match egressOf s k.src k.dst with
    | some q => sendAt s q k entry
    | none => .unreachable (count64 s 0x4000_01)

/-- The port a packet formed here would leave by: 15 for the block's own switch. -/
def viaOf (s : State) (dst : Nat) : Option Nat :=
  if dst = ownId s && !portLocal dst then some 15 else egressOf s (ownId s) dst

/-- An issuer has a request waiting in the central switch for a full queue, which holds back its
later requests (R193, R74). -/
def issuerHeld (s : State) (issuer : Nat) : Bool :=
  s.ports.any fun x => x.queues.any fun e =>
    (e.2.drop (placesOf x e.1)).any fun d => d.origin == 15 && d.k.issuer == issuer && (d.k.vc ≤ 1 || d.k.vc == 4)

end Sys2Proof.Machine
end

