-- ==== Sys2Proof/Machine/Reports.lean ====
section
/-! DEFINITION. Fault reports and their coalescing (R321 to R323), hard failures and their records
(R307, R310, R324), escalation (R316) and the entry into global stop (R301, R302). -/

namespace Sys2Proof.Machine

/-! ### Shelf net's output -/

/-- The MAC may transmit, and the link-local address stands (R274, R358). -/
def shelfOn (s : State) : Bool :=
  firmwareRuns s && !held s && get s 0x1200_01 == 1 && get s 0x1200_02 != 0 &&
    !bit (get s 0x1200_02) 0 && !s.mgmt.dad && !s.mgmt.dadFailed

def sendShelf (s : State) (addr udp : Nat) (bytes : List Byte) : State :=
  { s with mgmt.shelfOut := s.mgmt.shelfOut ++ [{ addr := addr, udp := udp, bytes := bytes }] }

/-! ### The coalescing table (Table 14.9) -/

def reportCn : Nat := 0xA201_00

/-- Whether in-band and Shelf net paths are open for a cause (R321, Table 14.8). -/
def reportInband (s : State) (cause : Nat) : Bool :=
  bit (get s 0xA200_03) 0 && get s 0xA200_01 != 0x3FFFFF && ordinary (ownId s) && !retired s &&
    cause != 0x25

def reportShelf (s : State) (cause : Nat) : Bool :=
  bit (get s 0xA200_03) 1 && shelfOn s && get s 0x1200_0A != 0 && cause != 0x11

/-- Data slot 0 and slot 1 of a report (Table 14.10). -/
def reportSlot0 (s : State) (row : Nat) : Nat :=
  fld row 211 196 * 2 ^ 112 + fld row 253 246 * 2 ^ 104 + fld row 245 242 * 2 ^ 100 +
    get s 0xA202_04 % 2 * 2 ^ 99 + fld row 129 129 * 2 ^ 98 + commission s * 2 ^ 96 +
    fld row 241 220 * 2 ^ 74 + fld row 219 212 * 2 ^ 66 + fld row 127 64

def reportSlot1 (row : Nat) : Nat :=
  fld row 195 164 * 2 ^ 96 + fld row 163 132 * 2 ^ 64 + fld row 63 0

/-- The FAULT_REPORT packet of a row (R323). -/
def reportPacket (s : State) (row : Nat) : Packet :=
  let two := 1 < fld row 195 164 || fld row 163 132 != 0
  sealed
    { blankPacket with
      dst := get s 0xA200_01, dstEdition := editionFor s (get s 0xA200_01), src := ownId s,
      srcEdition := ownEdition s, opcode := opFaultReport, slotCount := if two then 2 else 1, vc := 5,
      data := if two then [reportSlot0 s row, reportSlot1 row] else [reportSlot0 s row] }

/-- The NOTIFY message of a row (R323, Table 12.6). -/
def notifyBytes (s : State) (row : Nat) : List Byte :=
  bytesLE 16 (0x01 * 2 ^ 120 + 0x05 * 2 ^ 112 + fld row 211 196 * 2 ^ 80 + 48 * 2 ^ 64) ++
    bytesLE 16 (reportSlot0 s row) ++ bytesLE 16 (reportSlot1 row)

/-- Send row `n` on every open path; none leaves it as it stands (R322). The second part of the answer
says that the in-band report found no route. -/
def sendReport (s : State) (n : Nat) : State × Bool :=
  let row := getRow s reportCn n
  let cause := fld row 253 246
  let inband := reportInband s cause
  let shelf := reportShelf s cause
  let (s, lost) :=
    if inband then
      match sendPacket s (reportPacket s row) none with
      | .queued t => (count64 t 0xA202_01, false)
      | .flushed t => (count64 t 0xA202_01, false)
      | .unreachable t => (count64 t 0xA202_01, true)
    else (s, false)
  let s :=
    if shelf then
      let addr := get s 0x1200_0A
      count64 (sendShelf s (numLE (bytesLE 16 addr).reverse) (fld addr 143 128) (notifyBytes s row)) 0xA202_01
    else s
  (if inband || shelf then setF s reportCn n 255 254 2 else s, lost)

/-- A row of the table: its fields in order (Table 14.9). -/
def reportRow (state cause port peer peerEdition number count detail first last : Nat) : Nat :=
  state * 2 ^ 254 + cause % 256 * 2 ^ 246 + port % 16 * 2 ^ 242 + peer % 2 ^ 22 * 2 ^ 220 +
    peerEdition % 256 * 2 ^ 212 + number % 2 ^ 16 * 2 ^ 196 + count % 2 ^ 32 * 2 ^ 164 +
    detail % 2 ^ 32 * 2 ^ 132 + first % 2 ^ 64 * 2 ^ 64 + last % 2 ^ 64

/-- The row in use with a key, if any (R321). -/
def reportFind (s : State) (cause peer peerEdition : Nat) : Option Nat :=
  match (rowsOf s reportCn).find? (fun e =>
      fld e.2 255 254 != 0 && fld e.2 253 246 == cause && fld e.2 241 220 == peer &&
        fld e.2 219 212 == peerEdition) with
  | some e => some e.1
  | none => none

/-- The first FREE row. -/
def reportFree (s : State) : Option Nat :=
  (upFrom 0 256).find? fun n => getF s reportCn n 255 254 == 0

/-- Put a new report in row `n` and send it. -/
def reportInstall (s : State) (n cause port peer peerEdition count detail first : Nat) : State × Bool :=
  let s := setRow s reportCn n
    (reportRow 1 cause port peer peerEdition s.recovery.nextReport count detail first (now s) +
      b2n (if cause = 0x30 then s.recovery.firstLate else late s) * 2 ^ 129)
  sendReport { s with recovery.nextReport := (s.recovery.nextReport + 1) % 2 ^ 16 } n

/-- A further occurrence of row `n`'s key: it counts, saturating, and sends nothing (R322). -/
def reportRepeats (s : State) (n : Nat) : State :=
  setF (setF s reportCn n 195 164 (min (getF s reportCn n 195 164 + 1) (2 ^ 32 - 1))) reportCn n 63 0 (now s)

/-- An occurrence with no row is counted, and the first one's stamp kept for the GAP report (R322). -/
def suppressReport (s : State) : State :=
  { count32 s 0xA202_03 with
    recovery.firstSuppressed := some (s.recovery.firstSuppressed.getD (now s))
    recovery.firstLate := if s.recovery.firstSuppressed.isSome then s.recovery.firstLate else late s }

/-- One occurrence of a condition (R322): a new key takes a row, a repeat counts, a full table is
counted and shown by fault_summary. -/
def reportOnce (s : State) (cause port peer peerEdition detail : Nat) : State × Bool :=
  match reportFind s cause peer peerEdition with
  | some n => (reportRepeats s n, false)
  | none =>
    match reportFree s with
    | some n => reportInstall s n cause port peer peerEdition 1 detail (now s)
    | none =>
      let s := match reportFind s 0x30 (ownId s) (ownEdition s) with
        | some g => reportRepeats s g
        | none => suppressReport s
      (set s 0xA202_04 1, false)

/-- The unreachable-destination event (R177), once per destination per second. -/
def unreachableDue (s : State) (dst : Nat) : Bool :=
  match lookupT s.switch.unreachable dst with
  | some t => 256_000_000_000 ≤ now s - t
  | none => true

/-- What the block knows of a peer's edition (R321). -/
def knownEdition (s : State) (peer : Nat) : Nat :=
  if peer = ownId s then ownEdition s
  else match exceptionOf s peer with
    | some e => e.2
    | none => 0

/-- Report a condition (R321). A report that itself finds no route raises UNREACHABLE once (R177),
whose own report then only counts. -/
def report (s : State) (cause port peer peerEdition detail : Nat) : State :=
  let (s, lost) := reportOnce s cause port peer peerEdition detail
  let fm := get s 0xA200_01
  if lost && unreachableDue s fm then
    let s := { s with switch.unreachable := insertT s.switch.unreachable fm (now s) }
    (reportOnce s 0x0D 15 fm (knownEdition s fm) 0).1
  else s

/-- A report whose peer is this block (Table 14.8). -/
def reportOwn (s : State) (cause port detail : Nat) : State :=
  report s cause port (ownId s) (ownEdition s) detail

/-- A report whose peer is the partner on a port. -/
def reportPartner (s : State) (cause p detail : Nat) : State :=
  report s cause p (partnerEndpoint s p) (partnerEdition s p) detail

/-- The event of R177 for a destination. -/
def unreachable (s : State) (dst : Nat) : State :=
  if unreachableDue s dst then
    report { s with switch.unreachable := insertT s.switch.unreachable dst (now s) } 0x0D 15 dst
      (knownEdition s dst) 0
  else s

/-- A row becomes FREE; with reports suppressed, a GAP report takes it at once (R322). -/
def reportFreeRow (s : State) (n : Nat) : State :=
  let s := setRow s reportCn n 0
  let lost := get s 0xA202_03
  if lost = 0 then s
  else
    let first := s.recovery.firstSuppressed.getD (now s)
    let s := (reportInstall s n 0x30 15 (ownId s) (ownEdition s) lost 0 first).1
    let s := set s 0xA202_03 0
    let s := { s with recovery.firstSuppressed := none }
    logEvent s 9 0x23 0 (lost * 2 ^ 272)

/-- Rows that the peer's newer edition frees (R322). -/
def reportFreeByEdition (s : State) (peer edition : Nat) : State :=
  forEach (rowsOf s reportCn)
    (fun t e =>
      if fld e.2 255 254 != 0 && fld e.2 241 220 == peer && newer 8 edition (fld e.2 219 212) then
        reportFreeRow t e.1
      else t) s

/-- This block has an edition of a peer on record that is new to it: rows of its older editions are free (R322), and a
speaker of one counts afresh (R46). -/
def exceptionKnown (s : State) (peer edition : Nat) : State :=
  reportFreeByEdition { s with switch.staleSeen := s.switch.staleSeen.filter fun e => e.1 != peer } peer edition

/-- Rows that wait for a path are sent once one is open (R322). -/
def reportPending (s : State) : State :=
  forEach (rowsOf s reportCn)
    (fun t e => if fld e.2 255 254 == 1 then (sendReport t e.1).1 else t) s

/-- An acknowledgement (R322, Table 14.11): it frees the matching row, or is counted. -/
def reportAck (s : State) (slot : Nat) : State :=
  match (rowsOf s reportCn).find? (fun e =>
      fld e.2 255 254 != 0 && fld e.2 211 196 == fld slot 127 112 &&
        fld e.2 253 246 == fld slot 111 104 && fld e.2 241 220 == fld slot 103 82 &&
        fld e.2 219 212 == fld slot 81 74) with
  | none => count64 s 0xA202_05
  | some e =>
    let s := reportFreeRow (count64 s 0xA202_02) e.1
    if bit slot 73 && get s 0xA202_03 = 0 then set s 0xA202_04 0 else s

/-! ### Sending with the event of R177 -/

/-- Send a packet formed here; a destination without a route raises its event. -/
def send (s : State) (k : Packet) (entry : Option Nat) : Sent :=
  match sendPacket s k entry with
  | .unreachable t => .unreachable (unreachable t k.dst)
  | r => r

/-- Send a response, an acknowledgement or a MGMT packet, whose loss this block does not follow. -/
def sendLoose (s : State) (k : Packet) : State := (send s k none).state

/-- Send a packet out of the port a request came by: 15 is the block's own switch (R25, R57, R64). -/
def sendBack (s : State) (p : Nat) (k : Packet) : State :=
  if p < 8 then (sendAt s p k none).state else { s with switch.loop := s.switch.loop ++ [k] }

/-- Send a response: out of the port of arrival where its destination is port-local, else by its
route (R57, R25). -/
def sendResponse (s : State) (p : Nat) (k : Packet) : State :=
  if portLocal k.dst then sendBack s p k else sendLoose s k

/-! ### Global stop (R301, R302) -/

/-- Packets formed here that wait in output queues, chosen or not, are discarded, but for MGMT (R302). -/
def dropFormed (s : State) : State :=
  { s with ports := s.ports.map fun x =>
      { x with
        tx := x.tx.filter fun t => t.begun || !formedQueue t.queue || t.vc == 5
        queues := x.queues.map fun e =>
          (e.1, settledQueue (placesOf x e.1) s.time.cycles (e.2.filter fun d => d.origin != 15 || d.k.vc == 5)) } }

/-- Enter global stop (R301), under mark_mode STOP with MARK_OUT high (R290), for a cause (1 COMMAND, 2 MARK_IN, 3 WATCH, 4 FAULT); a second trigger changes
nothing. -/
def triggerStop (s : State) (cause island : Nat) : State :=
  if stopped s then s
  else
    let s := set s 0xC200_02 (1 + cause * 256 + stamp s island * 2 ^ 128)
    let s := light s 0xD000_03 32
    let s := { s with time.markOut := s.time.markOut || get s 0x9100_01 == 2 }
    let s := writeError s island (0x7000 + cause)
    reportOwn (dropFormed s) 0x26 15 cause

/-! ### Hard failures -/

/-- A record of sparing_history, with its SPARING record (Tables 14.12 and 15.7). Kind 0
UNCORRECTABLE, 1 LOS_LOL, 2 STUCK_BIT; outcome 0 SPARED, 1 NO_SPARE, 2 NOT_SPARABLE. -/
def sparingRecord (s : State) (island code kind outcome place : Nat) : State :=
  let k := get s 0xF101_03
  let low := code * 2 ^ 112 + kind * 2 ^ 110 + outcome * 2 ^ 108 + place % 2 ^ 32 * 2 ^ 64
  let s := setRow s 0xF102_00 (k % 64) (stamp s island * 2 ^ 128 + low)
  let s := count32 s 0xF101_03
  logEvent s island 0x24 0 (low * 2 ^ 176)

/-- A hard failure (R307, R310): counted, its code written, reported, recorded, and with
stop_on_fault set it stops the block (R301). -/
def hardFailure (s : State) (island port code kind outcome place : Nat) : State :=
  let s := light s 0xD000_04 64
  let s := writeError s island code
  let s := faultAttention s 1
  let s := reportOwn s 0x21 port code
  let s := if outcome = 0 then light s 0xD000_0B 32 else s
  let s := if outcome = 1 then reportOwn (faultAttention s 4) 0x22 port code else s
  let s := sparingRecord s island code kind outcome place
  if get s 0xC200_01 = 1 then triggerStop s 4 island else s

/-- Escalation (R316). -/
def escalate (s : State) (code : Nat) : State :=
  let s := writeError s 9 code
  let s := set s 0xA203_03 1
  let s := faultAttention s 2
  let s := count32 s 0xA011_03
  reportOwn s 0x24 15 code

end Sys2Proof.Machine
end

