-- ==== Sys2Proof/Machine/MirrorSend.lean ====
section
/-! DEFINITION. The sending direction of counterpart mirroring: pairing states (R328), updates,
snapshots and the mirror bucket (R329 to R332, R334). -/

namespace Sys2Proof.Machine

/-- pairing_state: 0 UNPAIRED, 1 RESYNC, 2 SYNCED, 3 LOST. -/
def pairing (s : State) : Nat := get s 0xB001_00

/-- Bytes of an update's send-buffer place: its packet's slots (R331). -/
def updateBytes (u : MirrorUpdate) : Nat := 16 * (3 + (u.data.length + 15) / 16)

/-- The send buffer holds 256 KiB (R331). -/
def sendBufferBytes : Nat := 262144

/-- Data bytes of one update: 254 slots (Table 15.3). -/
def updateMax : Nat := 4064

/-- The objects of Table 15.2 sent as values: every RWC object, and the fabric-reserved RW ones. -/
def mirroredValues (s : State) : List Nat :=
  (objects.filter fun o => o.access == .rwc).flatMap (fun o =>
      (upFrom o.first (o.lastIn s.part + 1 - o.first)).map fun i => o.index * 256 + i) ++
    [0x4001_00] ++ upFrom 0x6404_01 (portsOf s.part) ++ upFrom 0xB000_02 6

/-- counterpart_endpoint as it is in force (R266). -/
def counterpart (s : State) : Nat := inForce s 0xB000_01

/-- Mirroring runs: IN_SERVICE, with an ordinary counterpart (R328). -/
def mirroring (s : State) : Bool := commission s == 2 && ordinary (counterpart s)

/-- The work of a snapshot (R331). -/
def snapshotWork (s : State) : List MirrorWork :=
  let head := get s 0xF000_00
  let first := head - min head 4096
  [.start false] ++ (mirroredValues s).map .value ++
    [.rows 0x4100_00 0x4100_00 0 65536, .rows 0x4101_00 0x4101_00 0 4096,
     .rows 0x4102_00 0x4102_00 0 256, .rows 0x5300_00 0x5300_00 0 4096] ++
    [.live 0x5100_00 0x5100_00 0, .live 0x6400_00 0x6400_00 0, .records first (head - first), .finish]

/-- The updates of a restore alone are kept in the send buffer and the work. -/
def restoreOnly (s : State) : State :=
  { s with mirror.buffer := s.mirror.buffer.filter (fun u => u.edition.isSome)
           mirror.jobs := s.mirror.jobs.filter (fun j => j.edition.isSome) }

/-- The pairing state moves, with its record and the effects of Table 15.1: RESYNC sends a new snapshot, behind the
updates that wait; UNPAIRED and LOST let the send buffer go. -/
def setPairing (s : State) (state : Nat) : State :=
  let old := pairing s
  let s := set s 0xB001_00 state
  let s := if old = state then s else
    logEvent s 0 0x30 0 (old * 2 ^ 302 + state * 2 ^ 300 + counterpart s * 2 ^ 278 + get s 0xB001_01 * 2 ^ 246)
  let s := { s with mirror.snapshotEnd := none }
  if state = 1 then
    let s := count32 s 0xB001_04
    { s with mirror.jobs := (s.mirror.jobs.filter fun j => !j.snap) ++
        (snapshotWork s).map fun w => { work := w, snap := true, edition := none } }
  else if state = 2 then s
  else restoreOnly s

/-- Rows of `cn` starting at `first` as bytes. -/
def rowBytesOf (s : State) (cn width first n : Nat) : List Byte :=
  (upFrom first n).flatMap fun r => bytesLE width (getRow s cn r)

/-- Row bytes of a mirrored table (Table 17.11). -/
def mirrorWidth (cn : Nat) : Nat :=
  if cn = 0x4100_00 then 2 else if cn = 0x5300_00 then 4 else if cn = 0x4101_00 || cn = 0x4102_00 then 8 else 32

/-- The value bytes of an object. -/
def valueWidth (s : State) (cn : Nat) : Nat :=
  match findObj s.part cn with
  | some o => o.type.bytes
  | none => 0

/-- The first row of the table at `src` from `first` on that is not FREE. -/
def liveFrom (s : State) (src first : Nat) : Option Nat :=
  ((rowsOf s src).find? fun e => first ≤ e.1 && fld e.2 255 254 != 0).map (·.1)

/-- The next update of a piece of work, as the state stands now, and what is left of the work; none where nothing is left
to send (R331, Table 15.3). -/
def nextUpdate (s : State) (seq : Nat) (w : MirrorWork) : Option (MirrorUpdate × Option MirrorWork) :=
  let u : MirrorUpdate := { seq := seq, kind := 0, index := 0, sub := 0, row := 0, countM1 := 0, data := [], edition := none }
  let rows (cn src first n : Nat) : MirrorUpdate :=
    { u with kind := 1, index := cn / 256, sub := cn % 256, row := first, countM1 := n - 1,
             data := rowBytesOf s src (mirrorWidth cn) first n }
  match w with
  | .start restore => some ({ u with kind := if restore then 6 else 3 }, none)
  | .finish => some ({ u with kind := 4 }, none)
  | .request => some ({ u with kind := 5 }, none)
  | .value cn =>
    some ({ u with index := cn / 256, sub := cn % 256, data := bytesLE (valueWidth s cn) (get s cn) }, none)
  | .imageValue row =>
    let v := getRow s 0xB016_00 row
    some ({ u with index := fld v 255 240, sub := fld v 239 232, data := bytesLE (fld v 231 224) (fld v 127 0) }, none)
  | .rows cn src first count =>
    let n := min count (updateMax / mirrorWidth cn)
    some (rows cn src first n, if n < count then some (.rows cn src (first + n) (count - n)) else none)
  | .live cn src first =>
    match liveFrom s src first with
    | some r => some (rows cn src r 1, some (.live cn src (r + 1)))
    | none => none
  | .records _ 0 => none
  | .records first count =>
    let n := min count 63
    some ({ u with kind := 2, row := first % 2 ^ 32, countM1 := n - 1,
                   data := (upFrom first n).flatMap fun k => bytesLE 64 (getRow s 0xF010_00 (k % 16384)) },
     if n < count then some (.records (first + n) (count - n)) else none)
  | .resend _ => none

/-- The MIRROR_UPDATE packet of an update (Table 15.3), to the counterpart (R334). -/
def updatePacket (s : State) (u : MirrorUpdate) (dst edition : Nat) : Packet :=
  let slot := u.seq % 2 ^ 32 * 2 ^ 96 + u.kind % 16 * 2 ^ 92 + u.index % 2 ^ 16 * 2 ^ 72 + u.sub % 256 * 2 ^ 64 +
    u.row % 2 ^ 32 * 2 ^ 32 + u.countM1 % 2 ^ 16 * 2 ^ 16 + u.data.length % 2 ^ 12 * 2 ^ 4
  let slots := slot :: slotsOf 0 u.data
  sealed
    { blankPacket with
      dst := dst, dstEdition := edition, src := ownId s, srcEdition := ownEdition s,
      opcode := opMirrorUpdate, slotCount := slots.length % 256, vc := 5, data := slots }

/-- Send an update: by the restore's port while one runs (R336), else by its route. -/
def sendUpdate (s : State) (u : MirrorUpdate) : State :=
  let s := count64 s 0xB001_05
  match s.mirror.restore with
  | some r => (sendAt s r.port (updatePacket s u r.endpoint r.edition) none).state
  | none => sendLoose s (updatePacket s u (counterpart s) (u.edition.getD (get s 0xB000_02)))

/-- An update's slots, which the mirror bucket pays for (R332). -/
def updateSlots (u : MirrorUpdate) : Nat := 3 + (u.data.length + 15) / 16

/-- An update is sent at the mirror bucket's charge (R332). -/
def sendCharged (s : State) (u : MirrorUpdate) : State :=
  let b := s.mirror.bucket
  sendUpdate { s with mirror.bucket := { b with tokens := b.tokens - updateSlots u } } u

/-- An update would find the send buffer full (R331). -/
def overflows (s : State) (u : MirrorUpdate) : Bool :=
  decide (sendBufferBytes < ((u :: s.mirror.buffer).map updateBytes).sum)

/-- The update that carries the record a commit waits for is known (R335). -/
def noteCarried (s : State) (w : MirrorWork) (u : MirrorUpdate) : State :=
  match s.mirror.commitWait, w with
  | some c, .records first _ =>
    if c.seq.isNone && (c.record.any fun k => first ≤ k && k ≤ first + u.countM1) then
      { s with mirror.commitWait := some { c with seq := some u.seq } }
    else s
  | _, _ => s

/-- An update is formed under its number, kept unless it belongs to a snapshot, and sent (R330, R331). -/
def formUpdate (s : State) (j : MirrorJob) (u : MirrorUpdate) : State :=
  let s := noteCarried (set s 0xB001_01 u.seq) j.work u
  let s := if j.snap then s else { s with mirror.buffer := s.mirror.buffer ++ [u] }
  let s := if u.kind = 4 && j.snap then { s with mirror.snapshotEnd := some u.seq } else s
  sendCharged s u

/-- One piece of work `j`, with the work `js` behind it. An update outside a snapshot is held until acknowledged; one that
finds the buffer full is given up with the whole buffer, and starts a new snapshot (R331); but a restore's updates wait for
their acknowledgements (R336), which the second part of the answer says. -/
def pumpJob (s : State) (j : MirrorJob) (js : List MirrorJob) : State × Bool :=
  match j.work with
  | .resend seq =>
    let s := { s with mirror.jobs := js }
    match s.mirror.buffer.find? fun u => u.seq == seq with
    | some u => (sendCharged s u, true)
    | none => (s, true)
  | _ =>
    match nextUpdate s ((get s 0xB001_01 + 1) % 2 ^ 32) j.work with
    | none => ({ s with mirror.jobs := js }, true)
    | some (u, left) =>
      let u := { u with edition := j.edition }
      let rest := match left with
        | some w => { j with work := w } :: js
        | none => js
      if j.snap || !overflows s u then (formUpdate { s with mirror.jobs := rest } j u, true)
      else if j.edition.isSome then (s, false)
      else (setPairing (restoreOnly { s with mirror.jobs := rest }) 1, true)

/-- Form updates while the mirror bucket allows (R332), at most `fuel` of them. -/
def mirrorPump : Nat → State → State
  | 0, s => s
  | fuel + 1, s =>
    match s.mirror.jobs with
    | [] => s
    | j :: js =>
      if s.mirror.bucket.tokens ≤ 0 then s
      else
        match pumpJob s j js with
        | (s, true) => mirrorPump fuel s
        | (s, false) => s

/-- How many updates one bucket can pay for. -/
def pumpFuel : Nat := 4096

/-- A change that Table 15.2 mirrors forms its own update in order (R329, R331). -/
def mirrorChange (s : State) (w : MirrorWork) : State :=
  if pairing s = 1 || pairing s = 2 then
    mirrorPump pumpFuel
      { s with mirror.jobs := s.mirror.jobs ++ [{ work := w, snap := false, edition := none }] }
  else s

def mirrorRow (s : State) (cn row : Nat) : State := mirrorChange s (.rows cn cn row 1)

def mirrorValue (s : State) (cn : Nat) : State := mirrorChange s (.value cn)

/-- The mirror bucket's refill (R332): mirror_rate slots, up to a burst of 16. -/
def mirrorRefill (s : State) : State :=
  let b := s.mirror.bucket
  let s := { s with mirror.bucket := { b with tokens := min (b.tokens + get s 0xB000_03) 4096 } }
  mirrorPump pumpFuel s

end Sys2Proof.Machine
end

