-- ==== Sys2Proof/Machine/Windows.lean ====
section
/-! DEFINITION. Windows and admission (R28 to R37), the window commands (R32 to R34), the carrel's
layout (R19) and its bytes (R15, R324). -/

namespace Sys2Proof.Machine

/-! ### The carrel -/

/-- Banks of activity `i` of Table 1.4 (0 loan landing, 1 ledger, 2 tensor dump, 3 Collator spill,
4 scratch) in the layout in effect (R19). -/
def quota (s : State) (i : Nat) : Nat := nth 0 i s.carrel.layout

def quotaFirst (s : State) (i : Nat) : Nat := (s.carrel.layout.take i).sum

def bankBytes : Nat := 2 ^ 20

/-- Row key of a carrel address: bank * 4,096 + row. -/
def carrelRow (a : Nat) : Nat := a / 256

/-- A row of the tensor-dump staging or Collator spill quota (Table 1.4). -/
def stagingRow (s : State) (r : Nat) : Bool :=
  quotaFirst s 2 ≤ r / 4096 && r / 4096 < quotaFirst s 3 + quota s 3

/-- A row that has held a dump or a spilled tile, whose layout is not stated. -/
def foreignRow (s : State) (r : Nat) : Bool := s.carrel.foreign.any fun e => e.1 ≤ r && r < e.1 + e.2

/-- A dump or a tile goes into `n` rows from row `r` on. -/
def noteForeign (s : State) (r n : Nat) : State :=
  if s.carrel.foreign.contains (r, n) then s else { s with carrel.foreign := s.carrel.foreign ++ [(r, n)] }

/-- Rows with a dump or a tile that leave those quotas hold bytes that no rule gives (R19). -/
def releaseForeign (s : State) : State :=
  forEach (s.carrel.foreign.flatMap fun e => (upFrom e.1 e.2).filter fun r => !stagingRow s r)
    (fun s r =>
      let (bs, s) := freeBytes s 256
      { s with carrel.mem := Memory.write s.carrel.mem (r * 256) bs })
    { s with carrel.foreign := s.carrel.foreign.filter fun e => (upFrom e.1 e.2).any (stagingRow s) }

/-- A row whose poison flag is set, or that failed for good (R324). -/
def rowPoisoned (s : State) (r : Nat) : Bool := s.carrel.poison.contains r || s.carrel.dead.contains r

/-- The rows that `n` bytes at `a` touch. -/
def rowsTouched (a n : Nat) : List Nat :=
  if n = 0 then [] else upFrom (carrelRow a) (carrelRow (a + n - 1) + 1 - carrelRow a)

/-- Read carrel bytes; the second part says that a row touched is poisoned (R324). -/
def carrelRead (s : State) (a n : Nat) : List Byte × Bool :=
  (Memory.read s.carrel.mem a n, (rowsTouched a n).any fun r => rowPoisoned s r)

/-- Write one run of bytes inside one row: a failed row drops it, a whole row clears its poison flag. -/
def carrelWriteRow (s : State) (a : Nat) (bs : List Byte) : State :=
  let r := carrelRow a
  if s.carrel.dead.contains r then s
  else
    let s := { s with carrel.mem := Memory.write s.carrel.mem a bs }
    if bs.length = 256 then { s with carrel.poison := s.carrel.poison.filter fun x => x != r } else s

/-- Cut a run of bytes at row edges: (address, bytes). -/
def rowPieces : Nat → Nat → List Byte → List (Nat × List Byte)
  | 0, _, _ => []
  | fuel + 1, a, bs =>
    if bs.isEmpty then []
    else
      let n := 256 - a % 256
      (a, bs.take n) :: rowPieces fuel (a + n) (bs.drop n)

/-- Write carrel bytes (R72, R324). -/
def carrelWrite (s : State) (a : Nat) (bs : List Byte) : State :=
  (rowPieces (bs.length + 1) a bs).foldl (fun t e => carrelWriteRow t e.1 e.2) s

/-- Mark every row that `n` bytes at `a` touch as poisoned (R324), which the model does for a poisoned write too (log
entry 30). -/
def carrelPoison (s : State) (a n : Nat) : State :=
  { s with carrel.poison := s.carrel.poison ++ (rowsTouched a n).filter fun r => !s.carrel.poison.contains r }

/-! ### Window rows (Table 2.2) -/

def windowCn : Nat := 0x5100_00

def windowRow (s : State) (w : Nat) : Nat := liveRow s 3 windowCn w

/-- The row a use was begun under: its accesses go on although the row has failed since (R316). -/
def usedRow (s : State) (u : Nat) : Nat := getRow s windowCn (u / 2 ^ 32)

def winState (r : Nat) : Nat := fld r 255 254
def winRights (r : Nat) : Nat := fld r 247 240
def winPartition (r : Nat) : Nat := fld r 239 236
def winContext (r : Nat) : Nat := fld r 235 224
def winTenant (r : Nat) : Nat := fld r 223 216
def winKind (r : Nat) : Nat := fld r 215 214
def winSegment (r : Nat) : Nat := fld r 207 200
def winBase (r : Nat) : Nat := fld r 191 162 * 4096
def winSize (r : Nat) : Nat := (fld r 159 130 + 1) * 4096
def winLo (r : Nat) : Nat := fld r 127 106
def winHi (r : Nat) : Nat := fld r 105 84
def winTarget (r : Nat) : Nat := fld r 83 54 * 4096
def winInFlight (r : Nat) : Nat := fld r 31 0

/-- The rights a window grants: those its kind can grant (R29). -/
def winGrants (r : Nat) : Nat := winRights r &&& (if winKind r = 2 then 0x18 else 0x07)

/-- The carrel activity of a carrel kind: 1 CARREL_SCRATCH, 2 LEDGER, 3 LOAN_LANDING (Table 2.4). -/
def kindActivity (kind : Nat) : Nat := if kind = 1 then 4 else if kind = 2 then 1 else 0

/-- The bytes of window offsets the kind's quota holds: for a ledger 64 for each cell (Table 2.4). -/
def kindLimit (s : State) (kind : Nat) : Nat :=
  if kind = 2 then quota s 1 * 24576 * 64 else quota s (kindActivity kind) * bankBytes

/-- The end limit of R29 and the target limit of Table 2.4. -/
def windowFits (s : State) (r : Nat) : Bool :=
  winBase r + winSize r ≤ 2 ^ 42 &&
    (winKind r == 0 || winTarget r + winSize r ≤ kindLimit s (winKind r))

/-- Carrel address of target byte `t` of a carrel kind other than LEDGER. -/
def carrelAddr (s : State) (kind t : Nat) : Nat := quotaFirst s (kindActivity kind) * bankBytes + t

/-! ### Uses (R36, R34) -/

def epochOf (s : State) (w : Nat) : Nat := (lookupT s.switch.epochs w).getD 0

def useKey (w epoch : Nat) : Nat := w * 2 ^ 32 + epoch

def useCount (s : State) (k : Nat) : Nat := (lookupT s.switch.uses k).getD 0

def setUseCount (s : State) (k n : Nat) : State :=
  { s with switch.uses := if n = 0 then eraseT s.switch.uses k else insertT s.switch.uses k n }

/-- A use begins on window `w`: the answer is the use, which remembers the window's epoch. -/
def beginUse (s : State) (w : Nat) : Nat × State :=
  let k := useKey w (epochOf s w)
  let s := setUseCount s k (useCount s k + 1)
  (k, setF s windowCn w 31 0 (getF s windowCn w 31 0 + 1))

/-- Uses begin on several windows. -/
def beginUses (s : State) : List Nat → List Nat × State
  | [] => ([], s)
  | w :: ws =>
    let (k, s) := beginUse s w
    let (ks, s) := beginUses s ws
    (k :: ks, s)

/-- A use ends. One whose window became FREE in between counts nothing. -/
def endUse (s : State) (k : Nat) : State :=
  if useCount s k = 0 then s
  else
    let s := setUseCount s k (useCount s k - 1)
    let w := k / 2 ^ 32
    setF s windowCn w 31 0 (getF s windowCn w 31 0 - 1)

def endUses (s : State) (ks : List Nat) : State := forEach ks endUse s

/-- Uses on window `w` of an epoch up to `e`. -/
def usesUpTo (s : State) (w e : Nat) : Nat :=
  (s.switch.uses.filter fun x => x.1 / 2 ^ 32 == w && x.1 % 2 ^ 32 ≤ e).foldl (fun n x => n + x.2) 0

/-- A window row becomes FREE: its uses are forgotten and the change is mirrored. -/
def freeWindow (s : State) (w : Nat) : State :=
  let s := setF (setF s windowCn w 255 254 0) windowCn w 31 0 0
  let s := { s with switch.uses := s.switch.uses.filter (fun x => x.1 / 2 ^ 32 != w),
                    switch.epochs := insertT s.switch.epochs w (epochOf s w + 1) }
  mirrorRow s windowCn w

/-! ### Admission (R35, R36) -/

/-- What admission answers: the uses begun, or a status and an offending offset. -/
inductive Admitted where
  | pass (uses : List Nat)
  | refuse (status offset : Nat)
  deriving DecidableEq, Repr

/-- What is to be admitted: whether it is a request (a PROBE and a slip's own extent are none), its source, and the rights
its operation needs (R35, R36). -/
structure Asking where
  request : Bool
  source  : Nat
  mask    : Nat
  deriving DecidableEq, Repr

/-- The rows with a given state that contain an offset. Those of a partition in DRAINING or MEMORY_RESET are found FREE
(R315). -/
def windowsIn (s : State) (state x : Nat) : List Nat :=
  ((liveRows s 3 windowCn).filter fun e =>
    winState e.2 == state && winBase e.2 ≤ x && x < winBase e.2 + winSize e.2 &&
      !partitionDown s (winPartition e.2)).map Prod.fst

/-- A hold of the source on window `w`, for the same operation, whose extent holds the span: the request comes under it
(R39, R40). -/
def underHold (s : State) (q : Asking) (first len w : Nat) : Bool :=
  q.request && s.switch.holds.any fun h =>
    h.2.src == q.source && h.2.right == q.mask && (h.2.windows.any fun u => u / 2 ^ 32 == w) &&
      h.2.spans.any fun e => e.1 ≤ first && first + len ≤ e.1 + e.2

/-- The windows that admit at a span's first byte: the OPEN ones that contain it; where there is none, a CLOSING one for
a request under a hold on it (R40, log entry 29). Two OPEN ones are a host error, and which applies is not defined
(R30): a free value chooses. -/
def windowsAt (s : State) (q : Asking) (first len : Nat) : List Nat :=
  match windowsIn s 1 first with
  | [] => (windowsIn s 2 first).filter (underHold s q first len)
  | ws => ws

def windowAt (s : State) (q : Asking) (first len : Nat) : Option Nat × State :=
  match windowsAt s q first len with
  | [] => (none, s)
  | [w] => (some w, s)
  | ws =>
    let (n, s) := draw s
    (some (nth 0 (Config.freeWindow n % ws.length) ws), s)

/-- The first byte of a span that a carrel-kind window maps outside its quota (R36). -/
def outsideQuota (s : State) (r first len : Nat) : Option Nat :=
  if winKind r = 0 then none
  else
    let t := winTarget r + (first - winBase r)
    if t + len ≤ kindLimit s (winKind r) then none
    else some (max first (winBase r + (kindLimit s (winKind r) - winTarget r)))

/-- The checks of one span against its window (R36). -/
def spanRefusal (s : State) (r first len : Nat) (q : Asking) : Option (Nat × Nat) :=
  if winBase r + winSize r < first + len then some (stStraddle, winBase r + winSize r)
  else match outsideQuota s r first len with
    | some x => some (stMiss, x)
    | none =>
      if winGrants r &&& q.mask ≠ q.mask then some (stRights, first)
      else if q.source < winLo r || winHi r < q.source then some (stRights, first)
      else if winKind r ≠ 0 && winTenant r ≠ get s 0x8301_00 then some (stRights, first)
      else none

/-- Check spans in order; the answer is the windows touched, each once. -/
def checkSpans (s : State) (q : Asking) (touched : List Nat) :
    List (Nat × Nat) → State × Except (Nat × Nat) (List Nat)
  | [] => (s, .ok touched)
  | (first, len) :: spans =>
    match windowAt s q first len with
    | (none, s) => (s, .error (stMiss, min first (2 ^ 42)))
    | (some w, s) =>
      match spanRefusal s (windowRow s w) first len q with
      | some e => (s, .error e)
      | none => checkSpans s q (if touched.contains w then touched else touched ++ [w]) spans

/-- Admission of an item: one use on each window it touches, or the first failure, which is counted (R36,
`5000.06`). -/
def admission (s : State) (spans : List (Nat × Nat)) (q : Asking) : State × Admitted :=
  match checkSpans s q [] spans with
  | (s, .ok ws) =>
    let (ks, s) := beginUses s ws
    (s, .pass ks)
  | (s, .error (status, off)) => (odc (count64 s 0x5000_06) 0x04 none none 1, .refuse status off)

/-! ### Window commands -/

def windowOpen (w : Nat) (s : State) : State × CmdOut :=
  if 1024 ≤ w then (s, .done stUnsupported 0)
  else if winState (windowRow s w) ≠ 0 then (s, .done stBusy 0)
  else
    let stage := get s 0x5101_00
    if !windowFits s stage then (s, .done stMiss 0)
    else
      let s := setRow s windowCn w (setFld (setFld stage 255 254 1) 31 0 0)
      (mirrorRow s windowCn w, .done stOk 0)

/-- window_modify (R33). It waits while uses admitted before it go on; its invocation's argument
holds the epoch those uses are of. -/
def windowModify (w : Nat) (s : State) : State × CmdOut :=
  let row := windowRow s w
  let stage := get s 0x5101_00
  let new := setFld (setFld (setFld (setFld row 247 240 (winRights stage)) 127 106 (winLo stage)) 105 84
    (winHi stage)) 159 130 (fld stage 159 130)
  if 1024 ≤ w then (s, .done stUnsupported 0)
  else if winState row ≠ 1 then (s, .done stBusy 0)
  else if !windowFits s new then (s, .done stMiss 0)
  else
    let e := epochOf s w
    let s := mirrorRow (setRow s windowCn w new) windowCn w
    if usesUpTo s w e = 0 then (s, .done stOk 0)
    else ({ s with switch.epochs := insertT s.switch.epochs w (e + 1) }, .waits)

/-- What a waiting window_modify is found by: its window and the epoch it waits for. -/
def modifyArg (w epoch : Nat) : Nat := w + 1024 * epoch

/-- End every running invocation of `cn` that `p` picks. -/
def endInvocations (s : State) (cn : Nat) (p : Nat → Bool) (status : Nat) : State :=
  forEach ((s.mgmt.running.filter fun v => v.cn == cn && p v.arg).map (·.arg))
    (fun t a => endInvocation t cn a status 0) s

/-- in_flight reached zero: a CLOSING row becomes FREE and its closes return OK; modifies whose
earlier uses are over return OK (R33, R34). -/
def windowDrainEnd (s : State) (w : Nat) : State :=
  let row := getRow s windowCn w
  let s := if winState row = 2 && winInFlight row = 0 then
      endInvocations (freeWindow s w) 0x5104_00 (fun a => a == w) stOk
    else s
  endInvocations s 0x5103_00 (fun a => a % 1024 == w && usesUpTo s w (a / 1024) == 0) stOk

/-- window_close (R34). A row whose drain is over ends the closes that wait on it before this one. -/
def windowClose (w : Nat) (s : State) : State × CmdOut :=
  if 1024 ≤ w then (s, .done stUnsupported 0)
  else
    let row := windowRow s w
    if winState row = 0 then (s, .done stOk 0)
    else if winInFlight row = 0 then
      (if winState row = 2 then windowDrainEnd s w else freeWindow s w, .done stOk 0)
    else if winState row = 2 then (s, .waits)
    else (mirrorRow (setF s windowCn w 255 254 2) windowCn w, .waits)

/-- window_drain_limit passed: a close or modify that still waits returns TIMEOUT (R33, R34). -/
def windowDrainLimit (s : State) (w : Nat) : State :=
  let s := windowDrainEnd s w
  let s := endInvocations s 0x5104_00 (fun a => a == w) stTimeout
  endInvocations s 0x5103_00 (fun a => a % 1024 == w) stTimeout

end Sys2Proof.Machine
end

