-- ==== Sys2Proof/Machine/HostSide.lean ====
section
/-! DEFINITION. Host accesses at the memory-side ports (R343 to R346), the atomic units' locks (R68)
and the order in which requests are performed (R72, R75). -/

namespace Sys2Proof.Machine

/-! ### Which port (R345) -/

/-- The mask of every port whose pair domain is on (R345). -/
def poweredPorts (s : State) : Nat :=
  (upFrom 0 12).foldl (fun m i => if domainOn s (4 + i / 2) then m + 2 ^ i else m) 0

/-- The port of an access to a segment at an offset; `partition` is 16 for none. None is a
translation fault: an empty mask, a port whose pair domain is off (R353), or a port number that the
host gave in error (12 to 15). -/
def mspPort (s : State) (partition segment offset : Nat) : Option Nat :=
  let row := getRow s 0x8001_00 segment
  let m :=
    if bit row 7 then
      let mask := if partition < 16 then get s (0xA100_01 + partition) else poweredPorts s
      let n := popcount 12 mask
      if n = 0 then none else some (nth 0 (offset / 4096 % n) (setBits 12 0 mask))
    else some (fld row 3 0)
  match m with
  | some m => if m < 12 && domainOn s (4 + m / 2) then some m else none
  | none => none

/-! ### Accesses -/

def access? (s : State) (a : Nat) : Option Access := lookupT s.host.accesses a

def updAccess (s : State) (a : Nat) (f : Access → Access) : State :=
  match access? s a with
  | some x => { s with host.accesses := insertT s.host.accesses a (f x) }
  | none => s

def mspQueue (s : State) (m : Nat) : List MspReq := (lookupT s.host.queues m).getD []

def setMspQueue (s : State) (m : Nat) (q : List MspReq) : State :=
  { s with host.queues := if q.isEmpty then eraseT s.host.queues m else insertT s.host.queues m q }

/-- The access is over on all its requests: it is to be ended. -/
def markReady (s : State) (a : Nat) : State :=
  match access? s a with
  | some x =>
    if x.toAccept = 0 && x.toComplete = 0 && !s.host.ready.contains a then
      { s with host.ready := s.host.ready ++ [a] }
    else s
  | none => s

/-- The lines of 64 bytes that a request touches. -/
def linesOf (r : MspReq) : List Nat :=
  if r.length = 0 then [] else
    upFrom (r.offset / 64) ((r.offset + r.length - 1) / 64 + 1 - r.offset / 64)

/-- A line the request touches is locked by another atomic at its port (R68). -/
def lineLocked (s : State) (m : Nat) (r : MspReq) : Bool :=
  s.host.locks.any fun l =>
    l.port == m && l.access != r.access && l.context == r.context && l.segment == r.segment &&
      (linesOf r).contains l.line

/-- An atomic unit holds 64 locked lines (R68). -/
def lockPlaces : Nat := 64

/-- A request must wait: its line is locked, or it is a READ_LOCK and no lock place is free. -/
def mustWait (s : State) (m : Nat) (r : MspReq) : Bool :=
  lineLocked s m r || (r.op == 2 && lockPlaces ≤ (s.host.locks.filter fun l => l.port == m).length)

/-- A partition whose port nothing further may be presented at (R346, R315). -/
def quiesced (s : State) (m : Nat) : Bool := bit s.host.quiesce m || bit s.host.resetReq m

/-- No partition, or one in service: its accesses outlive the reset of one whose port they use (R12, R345). -/
def partitionLive (s : State) (n : Nat) : Bool := 16 ≤ n || get s (0xA102_01 + n) ≤ 1

/-- The atomic holds its line (R68). -/
def lockHeld (s : State) (m : Nat) (r : MspReq) : Bool := s.host.locks.any fun l => l.access == r.access && l.port == m

/-- A READ_LOCK takes its line (R68 step 1). -/
def takeLock (s : State) (m : Nat) (r : MspReq) : State :=
  if r.op = 2 && !lockHeld s m r then
    { s with host.locks := s.host.locks ++
        [{ access := r.access, port := m, context := r.context, segment := r.segment, line := r.offset / 64 }] }
  else s

/-- The atomic's READ_LOCK is behind it: only its WRITE_UNLOCK is still to come. -/
def lockedAt (s : State) (a m : Nat) : Bool := s.host.locks.any fun l => l.access == a && l.port == m

/-- An atomic that waits at the head of the unit's queue for a free lock place at port `m`, and for nothing else (R75's
exception). -/
def waitsForPlace (s : State) (a m : Nat) : Bool :=
  match s.host.lockWaits.find? fun e => e.1 == m && e.2.op == 2 with
  | some e => e.2.access == a && !lineLocked s m e.2
  | none => false

/-- Access `b` is presented at port `m` in its pair's order, ahead of a later request there. -/
def inPort (s : State) (b m : Nat) : Bool :=
  (mspQueue s m).any fun r => r.access == b

/-- A request reaches the unit of port `m`: its pair's earlier accesses are performed, or stand at that port before it. Any
other waits for them (R75), and an atomic takes no line before it (R68). -/
def reaches (s : State) (a m : Nat) : Bool :=
  match access? s a with
  | none => true
  | some x =>
    x.pair.isNone || s.host.accesses.all fun e =>
      e.1 ≥ a || e.2.performed || e.2.pair != x.pair || lockedAt s e.1 m || inPort s e.1 m || waitsForPlace s e.1 m

/-- An atomic that reached the unit before waits there, for the same line or for a lock place: this one does not pass it
(R68). -/
def atomicAhead (s : State) (m : Nat) (r : MspReq) : Bool :=
  s.host.lockWaits.any fun e =>
    e.1 == m && e.2.op == 2 &&
      (!lineLocked s m e.2 || e.2.context == r.context && e.2.segment == r.segment && (linesOf e.2).any fun l => (linesOf r).contains l)

/-- The request takes its line if it reaches the unit. -/
def lockIfReached (s : State) (m : Nat) (r : MspReq) : State := if reaches s r.access m then takeLock s m r else s

/-- A request joins its port, or waits on a lock; a wait on a locked line is counted (R68). -/
def offerReq (s : State) (m : Nat) (r : MspReq) : State :=
  if r.op ≠ 3 && (mustWait s m r || r.op == 2 && atomicAhead s m r) then
    let s := if lineLocked s m r then odc (count64 s (0x8062_01 + m)) 0x09 none none 1 else s
    { s with host.lockWaits := s.host.lockWaits ++ [(m, { r with waited := true })] }
  else setMspQueue (lockIfReached s m r) m (mspQueue s m ++ [r])

/-- Present the pieces of access `a`, numbered from `i`: one that has no port completes as a fault at once (R345); at a
quiesced port it waits (R315). -/
def presentPieces (a op context segment : Nat) (poison : Bool) (partition : Nat) :
    List (Nat × Nat) → List Byte → Nat → State → State
  | [], _, _, s => s
  | (off, len) :: ps, data, i, s =>
    let faults (s : State) : State := updAccess s a fun x =>
      { x with toAccept := x.toAccept - 1, toComplete := x.toComplete - 1, status := 2,
               faultAt := if x.faultAt.isNone then some off else x.faultAt }
    let s :=
      match mspPort s partition segment off with
      | some m =>
        offerReq s m
          { op := op, poison := poison, context := context, segment := segment, offset := off, length := len,
            data := data.take len, enabled := true, access := a, piece := i, waited := false }
      | none => faults s
    presentPieces a op context segment poison partition ps (data.drop len) (i + 1) s

/-- Enter an access in the table. -/
def enterAccess (s : State) (x : Access) : Nat × State :=
  let a := s.host.nextAccess
  (a, { s with host.accesses := insertT s.host.accesses a x, host.nextAccess := a + 1 })

/-- A host access of `len` bytes (R343): split at 4 KiB, each piece presented at its port. The answer
is its number. -/
def hostAccess (s : State) (kind : AccessKind) (pair : Option Nat) (op context segment offset len : Nat)
    (data : List Byte) (poison : Bool) (uses : List Nat) (partition : Nat) : Nat × State :=
  let pieces := split4K (len / 4096 + 2) offset len
  let (a, s) := enterAccess s
    { kind := kind, pair := pair, performed := false, toAccept := pieces.length,
      toComplete := pieces.length, status := 0, data := [], windows := uses, partition := partition,
      context := context, ignored := false, faultAt := none, written := 0 }
  let s := presentPieces a op context segment poison partition pieces data 0 s
  (a, markReady s a)

/-- An access for the carrel or a slice takes its place in its pair's order (R75). -/
def innerAccess (s : State) (kind : AccessKind) (pair : Option Nat) (uses : List Nat) (partition : Nat) :
    Nat × State :=
  let (a, s) := enterAccess s
    { kind := kind, pair := pair, performed := false, toAccept := 0, toComplete := 0, status := 0,
      data := [], windows := uses, partition := partition, context := 0, ignored := false, faultAt := none,
      written := 0 }
  (a, { s with host.inner := s.host.inner ++ [a] })

/-- An access is performed (R72). -/
def markPerformed (s : State) (a : Nat) : State := updAccess s a fun x => { x with performed := true }

/-- Access `a` may be performed at port `m` (12 for the carrel and the slices): no earlier access of
its pair is unperformed, but for one that R75 lets it follow at the same port or pass. -/
def inOrder (s : State) (a m : Nat) : Bool :=
  match access? s a with
  | none => true
  | some x =>
    match x.pair with
    | none => true
    | some σ =>
      s.host.accesses.all fun e =>
        e.1 ≥ a || e.2.performed || e.2.pair != some σ ||
          (m < 12 && (lockedAt s e.1 m || waitsForPlace s e.1 m) && !inPort s e.1 m)

/-- A line of a request in port `m`'s queue is locked by another atomic whose READ_LOCK does not stand behind it there
(R68, R75). -/
def lockedAhead (s : State) (m : Nat) (r : MspReq) : Bool :=
  let after := (mspQueue s m).dropWhile fun x => x != r
  lineLocked { s with host.locks := s.host.locks.filter fun l => !(after.any fun x => x.op == 2 && x.access == l.access) }
    m r

/-- A READ_LOCK has its line, or may take it now (R68). -/
def lockReady (s : State) (m : Nat) (r : MspReq) : Bool := r.op != 2 || lockHeld s m r || !mustWait s m r

/-- The request that port `m` presents next: the atomics' unlocks first, then requests in order. -/
def chooseReq (s : State) (m : Nat) : Option MspReq :=
  match (mspQueue s m).find? (fun r => r.op == 3) with
  | some r => some r
  | none =>
    if quiesced s m then none
    else (mspQueue s m).find? fun r => inOrder s r.access m && !lockedAhead s m r && lockReady s m r

/-- MSP_REQ_VALID of port `m` is high with request `r` (R342). -/
def isValid (s : State) (m : Nat) (r : MspReq) : Bool := lookupT s.host.valid m == some r

/-- The request of port `m` that transfers next: the one whose valid is high, held until then (R342). -/
def nextReq (s : State) (m : Nat) : Option MspReq :=
  match lookupT s.host.valid m with
  | some r => some r
  | none => chooseReq s m

/-- A port raises valid for its next request, where none is (R342). -/
def presentNext (s : State) (m : Nat) : State :=
  match lookupT s.host.valid m, chooseReq s m with
  | none, some r =>
    let s := takeLock s m r
    { s with host.valid := insertT s.host.valid m r }
  | _, _ => s

/-- The MSP_WD beats of a write: one for each 256-byte-aligned block that it touches, in order. A byte whose enable is
clear is none (R343). -/
def writeBeats (r : MspReq) : List (List (Option Byte)) :=
  let byte (x : Nat) : Option Byte :=
    if r.enabled && r.offset ≤ x then (r.data.drop (x - r.offset)).head? else none
  (upFrom (r.offset / 256) ((r.offset + r.length - 1) / 256 + 1 - r.offset / 256)).map fun b =>
    (upFrom (256 * b) 256).map byte

/-- The beats of an accepted WRITE or WRITE_UNLOCK follow on MSP_WD (R343). -/
def queueBeats (s : State) (m : Nat) (r : MspReq) : State :=
  if r.op = 1 || r.op = 3 then
    { s with host.beats := insertT s.host.beats m ((lookupT s.host.beats m).getD [] ++ writeBeats r) }
  else s

/-- The first beat that waits on MSP_WD of port `m` transfers. -/
def takeBeat (s : State) (m : Nat) : State :=
  match lookupT s.host.beats m with
  | none => s
  | some bs =>
    { s with host.beats := if bs.length ≤ 1 then eraseT s.host.beats m else insertT s.host.beats m (bs.drop 1) }

/-- Requests outstanding at a port. -/
def outstandingAt (s : State) (m : Nat) : List Nat :=
  (keysT s.host.outstanding).filter fun k => k / 1024 == m

/-- A tag that is not outstanding and not abandoned, searched from a free value (R343). -/
def pickTag (s : State) (m start : Nat) : Option Nat :=
  let busy := outstandingAt s m ++ s.host.dropped.filter fun k => k / 1024 == m
  ((upFrom 0 (busy.length + 1)).map fun i => (start + i) % 1024).find? fun t => !busy.contains (m * 1024 + t)

/-- Locks of an access end (R68 step 4). -/
def dropLocks (s : State) (a m : Nat) : State :=
  { s with host.locks := s.host.locks.filter fun l => !(l.access == a && l.port == m) }

/-- A request header transfers on MSP_REQ (R344): the acceptance performs the access when it is its
last, but a READ_LOCK performs nothing (R72). A WRITE_UNLOCK frees its line. -/
def acceptReq (s : State) (m : Nat) (r : MspReq) : State :=
  let (n, s) := draw s
  match pickTag s m (Config.freeTag n) with
  | none => s
  | some t =>
    let s := takeLock s m r
    let s := setMspQueue s m ((mspQueue s m).erase r)
    let s := { s with host.outstanding := insertT s.host.outstanding (m * 1024 + t) r,
                      host.valid := eraseT s.host.valid m }
    let s := queueBeats s m r
    let s := updAccess s r.access fun x =>
      { x with toAccept := x.toAccept - 1, performed := x.performed || (x.toAccept ≤ 1 && r.op != 2) }
    if r.op = 3 then dropLocks s r.access m else s

/-- The bytes a completion brings for a request: those a host left out are free values. -/
def readData (s : State) (len : Nat) (data : List Byte) : List Byte × State :=
  if len ≤ data.length then (data.take len, s)
  else
    let (n, s) := draw s
    (data ++ (upFrom data.length (len - data.length)).map fun i => BitVec.ofNat 8 (Config.freeByte n i), s)

/-- A completion is taken into its access (R343, R344): FAULT over POISON over OK. -/
def completeReq (s : State) (r : MspReq) (status : Nat) (data : List Byte) : State :=
  let (bs, s) := if r.op = 0 || r.op = 2 then readData s r.length data else ([], s)
  let s := updAccess s r.access fun x =>
    { x with toComplete := x.toComplete - 1, status := max x.status status, data := insertT x.data r.piece bs,
             faultAt := if status = 2 && x.faultAt.isNone then some r.offset else x.faultAt
             written := x.written + if r.op = 1 && status ≠ 2 then r.length else 0 }
  markReady s r.access

/-- The bytes of an access's pieces in order. -/
def accessData (x : Access) : List Byte := (x.data.map Prod.snd).flatten

/-- A waiting request that may go on: its line is free, and for an atomic a lock place is. -/
def grantable (s : State) (m : Nat) : Option (Nat × MspReq) :=
  s.host.lockWaits.find? (fun (e : Nat × MspReq) => e.1 == m && !mustWait s m e.2)

/-- A waiting atomic or access proceeds (R68). -/
def grantLock (s : State) (m : Nat) : State :=
  match grantable s m with
  | none => s
  | some e =>
    let s := { s with host.lockWaits := s.host.lockWaits.erase e }
    setMspQueue (lockIfReached s m e.2) m (mspQueue s m ++ [e.2])

/-- The WRITE_UNLOCK with all byte enables clear that releases a line and writes nothing (R343). -/
def releaseLine (s : State) (a m : Nat) (r : MspReq) : State :=
  let s := updAccess s a fun x => { x with toAccept := x.toAccept + 1, toComplete := x.toComplete + 1 }
  setMspQueue s m
    (mspQueue s m ++ [{ r with op := 3, enabled := false, data := [], poison := false, piece := 1, access := a }])

/-- An access of no partition, or of one in service (R12). -/
def spared (s : State) (a : Nat) : Bool :=
  match access? s a with
  | some x => partitionLive s x.partition
  | none => false

/-- Requests of an access that have not been accepted are withdrawn, their locks with them; one whose valid is high stays
(R342). -/
def withdraw (s : State) (a : Nat) : State :=
  let queues : Table (List MspReq) :=
    s.host.queues.map fun e => (e.1, e.2.filter fun r => r.access != a || r.op == 3 || isValid s e.1 r)
  let s := { s with host.queues := queues.filter (fun e => !e.2.isEmpty),
                    host.lockWaits := s.host.lockWaits.filter (fun e => e.2.access != a),
                    host.inner := s.host.inner.filter (fun b => b != a) }
  { s with host.locks := s.host.locks.filter fun l =>
      l.access != a || (s.host.outstanding.any fun e => e.2.access == a) || (s.host.queues.any fun e => e.2.any fun r => r.access == a) }

/-- Every request at a port completes as a fault: its pair domain goes off (Table 16.5, R355). -/
def portOff (s : State) (m : Nat) : State :=
  let out := s.host.outstanding.filter fun e => e.1 / 1024 == m
  let queued := mspQueue s m ++ (s.host.lockWaits.filter fun e => e.1 == m).map (·.2)
  let keys := keysT out
  let s := { s with
    host.outstanding := s.host.outstanding.filter fun e => !keys.contains e.1
    host.queues := eraseT s.host.queues m
    host.lockWaits := s.host.lockWaits.filter fun e => e.1 != m
    host.locks := s.host.locks.filter fun l => l.port != m
    host.valid := eraseT s.host.valid m
    host.beats := eraseT s.host.beats m
    host.dropped := s.host.dropped.filter fun k => k / 1024 != m }
  let s := queued.foldl (fun s r => updAccess s r.access fun x => { x with toAccept := x.toAccept - 1 }) s
  (out.map (·.2) ++ queued).foldl (fun s r => completeReq s r 2 []) s

end Sys2Proof.Machine
end

