-- ==== Sys2Proof/Machine/Issue.lean ====
section
/-! DEFINITION. Issuer accounting at both ends: trackers (R55, R56), the pair table (R58, R60, R83 to
R87), the destination's pending-ack table (R59, R60, R88) and the issuer rows (Table 4.2). -/

namespace Sys2Proof.Machine

/-! ### Issuer rows (Table 4.2) -/

def issuerCn : Nat := 0x8072_00

def issuerPartition (s : State) (i : Nat) : Nat := getRow s 0x8071_00 i % 16

def issuerLost (s : State) (i : Nat) : Bool := bit (getRow s issuerCn i) 63

def setLost (s : State) (i : Nat) (b : Bool) : State := setF s issuerCn i 63 63 (b2n b)

/-- 0 NONE, 1 CHIP, 2 SYSTEM. -/
def issuerFence (s : State) (i : Nat) : Nat := getF s issuerCn i 62 61

def outstanding (s : State) (i : Nat) : Nat := getF s issuerCn i 51 32

def setOutstanding (s : State) (i n : Nat) : State := setF s issuerCn i 51 32 n

def nonpostedOpen (s : State) (i : Nat) : Nat := getF s issuerCn i 15 0

def setNonposted (s : State) (i n : Nat) : State := setF s issuerCn i 15 0 n

/-- pairs_open of an issuer follows the pair table. -/
def countPairs (s : State) (i : Nat) : State :=
  setF s issuerCn i 31 16 ((s.switch.pairs.filter fun e => e.issuer == i && (!e.quarantined || e.polls != 0)).length)

/-! ### The pair table (R83) -/

def pairTablePlaces : Nat := 32768

def pairOf (s : State) (dst issuer : Nat) : Option Pair :=
  s.switch.pairs.find? fun e => e.dst == dst && e.issuer == issuer

/-- Packets of a pair sent and neither acknowledged nor abandoned. -/
def unacked (e : Pair) : Nat := subMod 16 e.lastSent e.lastAcked

def putPair (s : State) (e : Pair) : State :=
  countPairs { s with switch.pairs :=
    (s.switch.pairs.filter fun x => !(x.dst == e.dst && x.issuer == e.issuer)) ++ [e] } e.issuer

def dropPair (s : State) (e : Pair) : State :=
  countPairs { s with switch.pairs :=
    s.switch.pairs.filter fun x => !(x.dst == e.dst && x.issuer == e.issuer) } e.issuer

/-- Entries in use: a quarantined one whose polls are answered is free for others (R83). -/
def pairsOpen (s : State) : Nat := (s.switch.pairs.filter fun e => !e.quarantined || e.polls != 0).length

/-- A pair whose last sent value is acknowledged, with no poll unanswered, frees its entry (R83). -/
def settlePair (s : State) (e : Pair) : State :=
  if unacked e = 0 && e.polls = 0 && !e.quarantined then dropPair s e else putPair s e

/-- Places of the destination's pending-ack table (R88). -/
def ackTablePlaces : Nat := 8192

def ackOf (s : State) (src issuer : Nat) : Option PendingAck :=
  s.switch.acks.find? fun e => e.src == src && e.issuer == issuer

/-- A fence-counted packet of the pair finds no pending-ack entry and none free: it must wait (R88). -/
def ackFull (s : State) (src issuer : Nat) : Bool :=
  (ackOf s src issuer).isNone && ackTablePlaces ≤ s.switch.acks.length

/-- The pair may send a fence-counted packet on a path now (R58, R82, R83); one to the block's own endpoint also
needs its pending-ack entry (R88). -/
def pairReady (s : State) (dst issuer path : Nat) : Bool :=
  outstanding s issuer < 1048575 && !(dst == ownId s && path == 0 && ackFull s dst issuer) &&
    match pairOf s dst issuer with
    | some e => !e.quarantined && unacked e < 32767 && (e.path == path || unacked e == 0)
    | none => pairsOpen s < pairTablePlaces

/-- The pair's next commit_seq: 0 under a newly taken entry (R58). -/
def nextSeq (s : State) (dst issuer : Nat) : Nat :=
  match pairOf s dst issuer with
  | some e => (e.lastSent + 1) % 2 ^ 16
  | none => 0

/-- The packet with the pair's next commit_seq has been sent (R58, R82). -/
def noteSent (s : State) (dst issuer path via : Nat) : State :=
  let e : Pair := match pairOf s dst issuer with
    | some e => { e with lastSent := (e.lastSent + 1) % 2 ^ 16, path := path, via := via }
    | none =>
      { dst := dst, issuer := issuer, lastSent := 0, lastAcked := 0xFFFF, path := path, via := via,
        polls := 0, quarantined := false, since := now s, pollAt := now s }
  setOutstanding (putPair s e) issuer (outstanding s issuer + 1)

/-- Abandon a pair (R84): its unacknowledged packets leave the issuer's count, and its entry is not
taken again until request_timeout has passed. -/
def abandonPair (s : State) (e : Pair) (lost : Bool) : State :=
  let s := setOutstanding s e.issuer (outstanding s e.issuer - unacked e)
  let s := putPair s { e with lastAcked := e.lastSent, quarantined := true, since := now s }
  let s := count64 s 0x8070_06
  if lost then setLost s e.issuer true else s

/-- Abandon the pairs that `p` picks. -/
def abandonPairs (s : State) (p : Pair → Bool) (lost : Bool) : State :=
  forEach (s.switch.pairs.filter p) (fun t e => abandonPair t e lost) s

/-- A COMMIT_ACK for the pair (source of the ack, issuer), taken or ignored (R58, R60). -/
def takeAck (s : State) (k : Packet) : State :=
  match pairOf s k.src k.issuer with
  | none => s
  | some e =>
    let poll := pollAnswerA k
    let e := if poll then { e with polls := e.polls - 1 } else e
    let c := committedA k
    if !newer 16 c e.lastAcked then settlePair s e
    else if newer 16 c e.lastSent || !(subMod 16 (e.lastAcked + 1) (runFirstA k) < 32768) then
      let s := if poll then s else count64 s 0x8050_04
      settlePair s e
    else
      let s := setOutstanding s e.issuer (outstanding s e.issuer - subMod 16 c e.lastAcked)
      settlePair s { e with lastAcked := c }

/-- COMMIT_POLL of a pair with unacknowledged packets on the ordinary route (R60, R83). -/
def pollPacket (s : State) (e : Pair) : Packet :=
  let n := issuerPartition s e.issuer
  sealed
    { blankPacket with
      partition := n, partitionEdition := partitionEdition s n, issuer := e.issuer,
      opspec := layoutM 0 e.lastSent 0 false 0, dst := e.dst, dstEdition := editionFor s e.dst,
      src := ownId s, srcEdition := ownEdition s, opcode := opCommitPoll, slotCount := 0, vc := 0 }

def pollPair (s : State) (e : Pair) : State :=
  let s := putPair s { e with polls := e.polls + 1, pollAt := now s }
  sendLoose s (pollPacket s e)

/-! ### Trackers (R55, R56) -/

def trackerCount : Nat := 32768

/-- Trackers whose requests leave by a port. -/
def trackersBy (s : State) (p : Nat) : Nat := (s.switch.trackers.filter fun e => e.2.via == p).length

/-- A request by port `p` finds the port under its cap (R56). -/
def underCap (s : State) (p : Nat) : Bool := 8 ≤ p || trackersBy s p < get s (0x8051_01 + p)

/-- An index that R56, R226 and R325 allow. -/
def trackerFree (s : State) (i : Nat) : Bool :=
  (lookupT s.switch.trackers i).isNone && !s.switch.quarantine.contains i && !s.switch.retired.contains i

/-- A free tracker, searched from a free value (R55: which one is not defined). -/
def pickTracker (s : State) (start : Nat) : Option Nat :=
  let busy := s.switch.trackers.length + s.switch.quarantine.length + s.switch.retired.length
  ((upFrom 0 (min (busy + 1) trackerCount)).map fun i => (start + i) % trackerCount).find? (trackerFree s)

/-- Trackers are left for `n` more requests by port `p`. -/
def trackersLeft (s : State) (p n : Nat) : Bool :=
  s.switch.trackers.length + s.switch.quarantine.length + s.switch.retired.length + n ≤ trackerCount &&
    (8 ≤ p || trackersBy s p + n ≤ get s (0x8051_01 + p))

/-- Allocate a tracker for a non-posted request (R55): its index, its turn, and the state. -/
def allocTracker (s : State) (t : Tracker) : Option (Nat × Nat × State) :=
  let (n, s) := draw s
  match pickTracker s (Config.freeTracker n) with
  | none => none
  | some i =>
    let turn := ((lookupT s.switch.turns i).getD 0 + 1) % 16
    let s := { s with switch.turns := insertT s.switch.turns i turn,
                      switch.trackers := insertT s.switch.trackers i { t with turn := turn } }
    let s := odc s 0x05 none none 1
    some (i, turn, if t.opcode = opMgmtReq then s else setNonposted s t.issuer (nonpostedOpen s t.issuer + 1))

/-- A tracker is completed: it frees, or waits out request_timeout again (R56, R226); a stuck one is
replaced (R325). A write-kind request lost or timed out sets its issuer's lost flag (R84). -/
def releaseTracker (s : State) (i : Nat) (t : Tracker) (status : Nat) (again : Bool) : State :=
  let s := { s with switch.trackers := eraseT s.switch.trackers i,
                    switch.quarantine := if again then s.switch.quarantine ++ [i] else s.switch.quarantine }
  let s := if t.opcode = opMgmtReq then s else setNonposted s t.issuer (nonpostedOpen s t.issuer - 1)
  if writeKind t.opcode && (status = stLinkLost || status = stTimeout) then setLost s t.issuer true else s

/-- Whether a response completes the tracker it names (R55). -/
def tagMatches (s : State) (p : Nat) (k : Packet) : Option Tracker :=
  match lookupT s.switch.trackers k.tracker with
  | none => none
  | some t =>
    if t.turn ≠ k.turn then none
    else if k.partitionEdition ≠ partitionEdition s t.partition && t.opcode ≠ opMgmtReq then none
    else if portLocal t.dst then
      let partner := partnerEndpoint s p
      if t.via = p && (k.src = partner || (partner = 0x3FFFFF && portLocal k.src)) then some t else none
    else if k.src = t.dst then some t else none

/-! ### Pending acknowledgements at the destination (R59, R60, R88) -/

def putAck (s : State) (e : PendingAck) : State :=
  { s with switch.acks :=
      (s.switch.acks.filter fun x => !(x.src == e.src && x.issuer == e.issuer)) ++ [e] }

def dropAck (s : State) (e : PendingAck) : State :=
  { s with switch.acks := s.switch.acks.filter fun x => !(x.src == e.src && x.issuer == e.issuer) }

/-- A fence-counted packet that finds no entry and none free must wait (R88). -/
def ackMustWait (s : State) (k : Packet) : Bool := ackFull s k.src k.issuer

/-- A fence-counted packet arrives, its CRC-32C passed (R59): it takes an entry, continues its run, or
begins a new one. -/
def ackArrive (s : State) (p : Nat) (k : Packet) : State :=
  let q := seqM k
  let fresh : PendingAck :=
    { src := k.src, issuer := k.issuer, srcEdition := k.srcEdition, via := p, runFirst := q,
      expected := (q + 1) % 2 ^ 16, notDone := [q], older := [], owed := 0, polls := [], partition := k.partition,
      partitionEdition := k.partitionEdition }
  match ackOf s k.src k.issuer with
  | none => putAck s fresh
  | some e =>
    if e.expected = q then
      putAck s { e with srcEdition := k.srcEdition, via := p, expected := (q + 1) % 2 ^ 16,
                        notDone := e.notDone ++ [q], partition := k.partition,
                        partitionEdition := k.partitionEdition }
    else putAck s { fresh with older := e.older ++ e.notDone, polls := e.polls }

/-- The latest sequence with every earlier packet of the run done; none when the run's first is not. -/
def ackReach (e : PendingAck) : Option Nat :=
  let ahead := e.notDone.map fun q => subMod 16 q e.runFirst
  let reach := ahead.foldl min (subMod 16 e.expected e.runFirst)
  if reach = 0 then none else some ((e.runFirst + reach - 1) % 2 ^ 16)

/-- Send a COMMIT_ACK of a pair on RSP-A, addressed to the source. -/
def sendAck (s : State) (e : PendingAck) (runFirst committed : Nat) (poll : Bool) : State :=
  let k := sealed
    { blankPacket with
      partition := e.partition, partitionEdition := e.partitionEdition, issuer := e.issuer,
      opspec := layoutA runFirst committed poll, dst := e.src, dstEdition := e.srcEdition,
      src := ownId s, srcEdition := ownEdition s, opcode := opCommitAck, slotCount := 0, vc := 2 }
  sendLoose (count64 s 0x8040_03) k

/-- Every packet of the pair that has arrived is done, and no poll waits for its answer. -/
def ackSettled (e : PendingAck) : Bool := e.notDone.isEmpty && e.older.isEmpty && e.polls.isEmpty

/-- Acknowledge what is done of the run (R59). The entry frees unless packets of its pair are still under way; done
packets behind one that is not are still owed. A poll is answered also where nothing of the run is done: the answer
then names the value before the run, which covers nothing (R60, log entry 57). -/
def ackNow (s : State) (e : PendingAck) (poll : Bool) : State :=
  match ackReach e with
  | none => if poll then putAck (sendAck s e e.runFirst ((e.runFirst + 2 ^ 16 - 1) % 2 ^ 16) true) e else putAck s e
  | some c =>
    let s := sendAck s e e.runFirst c poll
    if ackSettled e then dropAck s e
    else putAck s { e with owed := subMod 16 e.expected (c + 1) - e.notDone.length }

/-- Answer the polls whose earlier packets are all done (R60). -/
def answerPolls (s : State) (e : PendingAck) : State :=
  let due := e.polls.filter fun w => w.isEmpty
  let e := { e with polls := e.polls.filter fun w => !w.isEmpty }
  due.foldl
    (fun t _ =>
      match ackOf t e.src e.issuer with
      | some x => ackNow t x true
      | none => ackNow t e true) (putAck s e)

/-- A packet of a pair is done (R59): at 64 owed the acknowledgement goes at once. -/
def ackDone (s : State) (src issuer q : Nat) : State :=
  match ackOf s src issuer with
  | none => s
  | some e =>
    let old := e.older.contains q
    let e := { e with notDone := if old then e.notDone else e.notDone.filter (fun x => x != q),
                      older := e.older.erase q,
                      owed := if !old && e.notDone.contains q then e.owed + 1 else e.owed,
                      polls := e.polls.map fun w => w.erase q }
    let s := answerPolls s e
    match ackOf s src issuer with
    | some e => if 64 ≤ e.owed then ackNow s e false else s
    | none => s

/-- A packet that passed its CRC-32C is done by being refused or dropped, or by being performed. -/
def donePacket (s : State) (k : Packet) : State :=
  if fenceCounted k.opcode then ackDone s k.src k.issuer (seqM k) else s

/-- commit_ack_delay passed: the COMMIT_ACK is sent (R59). -/
def ackDelay (s : State) (src issuer : Nat) : State :=
  match ackOf s src issuer with
  | some e => if e.owed = 0 then s else ackNow s e false
  | none => s

/-- A COMMIT_POLL draws its one answer (R60). -/
def pollArrives (s : State) (p : Nat) (k : Packet) : State :=
  let q := seqM k
  match ackOf s k.src k.issuer with
  | some e =>
    if e.notDone.isEmpty && e.older.isEmpty then ackNow s e true
    else putAck s { e with polls := e.polls ++ [e.older ++ e.notDone] }
  | none =>
    let e : PendingAck :=
      { src := k.src, issuer := k.issuer, srcEdition := k.srcEdition, via := p, runFirst := 0, expected := 0,
        notDone := [], older := [], owed := 0, polls := [], partition := k.partition,
        partitionEdition := k.partitionEdition }
    sendAck s e ((q + 1) % 2 ^ 16) q true

/-! ### Sending requests -/

/-- The common fields of a request of an issuer (R55, R42, R82). -/
def requestBase (s : State) (issuer dst : Nat) : Packet :=
  let n := issuerPartition s issuer
  { blankPacket with
    partition := n, partitionEdition := partitionEdition s n, issuer := issuer, dst := dst,
    dstEdition := editionFor s dst, src := ownId s, srcEdition := ownEdition s, vc := 0 }

/-- Send a fence-counted packet of a pair; one to the block's own endpoint takes its pending-ack place as it is
accepted (R75, R88). With no route it takes no commit_seq and sets the lost flag (R177); at a flushed port its pair is
abandoned (R85, R227). `k` lacks only its sequence. -/
def sendCounted (s : State) (k : Packet) (path via : Nat) (deliver : State → Packet → Sent) : State × Bool :=
  let q := nextSeq s k.dst k.issuer
  let k := sealed { k with opspec := setFld k.opspec 43 28 q }
  match deliver s k with
  | .queued t => (noteSent (if path = 0 && k.dst = ownId s then ackArrive t 15 k else t) k.dst k.issuer path via, true)
  | .unreachable t => (setLost t k.issuer true, false)
  | .flushed t =>
    let t := noteSent t k.dst k.issuer path via
    match pairOf t k.dst k.issuer with
    | some e => (abandonPair t e true, false)
    | none => (t, false)

/-- Send a non-posted request under a tracker. The answer is its tracker, or a status it completes
with at once: LINK_LOST without a route or at a flushed port (R177, R226). -/
def sendNonPosted (s : State) (k : Packet) (t : Tracker) : State × Except Nat Nat :=
  match allocTracker s t with
  | none => (s, .error stBusy)
  | some (i, turn, s) =>
    let k := sealed { k with tracker := i, turn := turn }
    match send s k none with
    | .queued s => (s, .ok i)
    | .unreachable s => (releaseTracker s i t stLinkLost false, .error stLinkLost)
    | .flushed s => (releaseTracker s i t stLinkLost true, .error stLinkLost)

end Sys2Proof.Machine
end

