-- ==== Sys2Proof/Machine/Receive.lean ====
section
/-! DEFINITION. What every packet meets on arrival: R63, R26, R44, stale speakers and duplicates
(R46, R47), CRC-32C (R62), malformed packets (R64), the ARRIVAL policer (R200, R202). Port 15 stands
for the block's own switch, whose packets come from no port and meet none of these. -/

namespace Sys2Proof.Machine

/-! ### Leaving the receive buffer (R217) -/

/-- The place in the receive buffers of a packet at the head of its channel. -/
def rxPlace (s : State) (p : Nat) (k : Packet) : Option RxPlace :=
  match (lookupT (port s p).rxBuf k.vc).getD [] with
  | r :: _ => if r.k = k then some { port := p, vc := k.vc, slots := r.slots, pool := r.pool, late := false } else none
  | [] => none

/-- A packet at the head of its channel leaves the channel. -/
def dropRx (s : State) (p : Nat) (k : Packet) : State :=
  match (lookupT (port s p).rxBuf k.vc).getD [] with
  | r :: rs =>
    if r.k = k then
      setPort s p fun x => { x with rxBuf := if rs.isEmpty then eraseT x.rxBuf k.vc else insertT x.rxBuf k.vc rs }
    else s
  | [] => s

/-- A packet at the head of its channel's buffer leaves it, and its slots are free (R217). -/
def takeRx (s : State) (p : Nat) (k : Packet) : State := freeRx (dropRx s p k) (rxPlace s p k)

/-! ### Packets forwarded by cut-through (R65, R192) -/

/-- A packet cut off after its header slots: it states more data slots than came (R65). -/
def cutOff (k : Packet) : Bool :=
  !k.abort && decide (k.data.length < dataSlots k)

/-- The packet completed to its stated length and marked (R65). -/
def completed (k : Packet) : Packet :=
  if cutOff k then
    { k with data := k.data ++ List.replicate (dataSlots k - k.data.length) 0, abort := true }
  else k

/-- The packet is the one being received on its port, so far: its header slots have come, and data slots are missing. -/
def beingReceived (s : State) (p : Nat) (k : Packet) : Bool :=
  let x := port s p
  p < 8 && x.rxCut.isNone && x.rxLost == 0 && x.rxShort == 0 && 2 ≤ x.rxSlots.length && cutOff k &&
    packetOf x.rxSlots false x.rxHeld == k

/-- The packet being received goes on before it is whole: its slots are those of a place that grows (R192). -/
def beginCut (s : State) (p : Nat) (k : Packet) : Option RxPlace × State :=
  let x := port s p
  (some { port := p, vc := k.vc, slots := x.rxSlots.length, pool := x.rxPool, late := true },
    setPort s p fun x => { x with rxSlots := [], rxCut := some (k.vc, dataSlots k - k.data.length) })

/-- A packet that is to pass leaves its channel, whole or by cut-through. -/
def leaveChannel (s : State) (p : Nat) (k : Packet) : Option RxPlace × State :=
  if beingReceived s p k then beginCut s p k else (rxPlace s p k, dropRx s p k)

/-! ### Counting on a port; the own switch has no port counters -/

def countPort (s : State) (p cn : Nat) : State := if p < 8 then count64 s (ofPort p cn) else s

/-- A posted request refused: counted on its port of arrival, or for the block's own in
admission_refusals (R45, `2p80.04`). -/
def postedRefusal (s : State) (p : Nat) : State :=
  if p < 8 then count64 s (ofPort p 0x2080_04) else s

/-! ### The handlings of a bad packet -/

/-- R62: discarded, counted and reported; its fields are not trusted for any reply. -/
def crcFailure (s : State) (p : Nat) : State :=
  if p < 8 then
    let s := count64 s (ofPort p 0x2080_02)
    reportPartner (writeError s (p + 1) (0x3300 + p)) 0x09 p 0
  else s

/-- R64: a malformed packet. `step4` says that its CRC-32C had passed already. -/
def malformed (s : State) (p : Nat) (k : Packet) (step4 : Bool) : State :=
  if !step4 && !crcOk k then crcFailure s p
  else
    let s := countPort s p 0x2080_01
    let s := if nonPosted k.opcode then
        sendBack s p (statusRspFor s p k stMalformed 0)
      else s
    let s := if !nonPosted k.opcode || k.opcode = opMgmtReq then
        report s 0x0A p k.src (knownEdition s k.src) k.opcode
      else s
    if step4 then donePacket s k else s

/-- Release the holds given to an endpoint (R39, R46). -/
def releaseHolds (s : State) (src : Nat) : State :=
  let gone := s.switch.holds.filter fun e => e.2.src == src
  let s := { s with switch.holds := s.switch.holds.filter fun e => e.2.src != src }
  forEach gone (fun t e => endUses t e.2.windows) s

/-- The RETIRED notice out of the port of arrival (R46, R52). -/
def retiredNotice (s : State) (p ep stale current : Nat) : Packet :=
  sealed
    { blankPacket with
      dst := 0x3FFFF0 + p, dstEdition := partnerEdition s p, src := sourceAt s p,
      srcEdition := ownEdition s, opcode := opRetiredNotice, slotCount := 1, vc := 5,
      data := [ep * 2 ^ 106 + stale * 2 ^ 98 + current * 2 ^ 90] }

/-- A notice for (endpoint, edition) may go out now (R46). -/
def noticeDue (s : State) (ep ed : Nat) : Bool :=
  match s.switch.retiredSent.find? fun e => e.1 == ep && e.2.1 == ed with
  | some e => get s 0x5400_04 ≤ now s - e.2.2
  | none => true

/-- R46: a stale speaker's packet. -/
def staleSpeaker (s : State) (p : Nat) (k : Packet) (current : Nat) : State :=
  if !crcOk k then crcFailure s p
  else
    let ed := k.srcEdition
    let s := count64 s 0x5400_01
    let s := set s 0x5400_03 (k.src + ed * 2 ^ 32 + p * 2 ^ 40 + now s * 2 ^ 64)
    let s := if s.switch.staleSeen.contains (k.src, ed) then s else
      let s := { s with switch.staleSeen := s.switch.staleSeen ++ [(k.src, ed)] }
      logEvent s 0 0x21 0 (k.src * 2 ^ 282 + ed * 2 ^ 274 + current * 2 ^ 266 + p * 2 ^ 262)
    let s := report s 0x0B p k.src ed current
    let s := if noticeDue s k.src ed then
        let s := { s with switch.retiredSent :=
          (s.switch.retiredSent.filter fun e => !(e.1 == k.src && e.2.1 == ed)) ++ [(k.src, ed, now s)] }
        sendBack (count32 s 0x5400_05) p (retiredNotice s p k.src ed current)
      else s
    releaseHolds s k.src

/-- R47: a packet whose source is this block's own identifier and whose edition is not older. Every drop is counted
and reported; the first of each source edition is recorded and writes the error code. -/
def duplicateIdentity (s : State) (p : Nat) (k : Packet) : State :=
  if !crcOk k then crcFailure s p
  else
    let s := count64 s 0x5400_06
    let s :=
      if s.switch.dupSeen.contains k.srcEdition then s
      else
        let s := { s with switch.dupSeen := s.switch.dupSeen ++ [k.srcEdition] }
        writeError (logEvent s 0 0x22 0 (k.srcEdition * 2 ^ 296 + p * 2 ^ 292)) 0 0x6200
    reportOwn s 0x0C p k.srcEdition

/-! ### The checks -/

/-- R63 step 1. -/
def wellFramed (k : Packet) : Bool :=
  k.vc ≤ 5 && opcodes.contains k.opcode && k.opcode / 64 == classOf k.vc && k.colour != 3 &&
    k.data.length == dataSlots k && !k.short

/-- R26. -/
def badIdentifiers (k : Packet) : Bool :=
  reservedId k.src || reservedId k.dst || (portLocal k.dst && k.vc != 5) ||
    (portLocal k.src && !portLocal k.dst && k.vc != 5)

/-- Where a packet stands after the checks. -/
inductive Verdict where
  /-- It has been handled. -/
  | stop (s : State)
  /-- It goes on: it passes through, or is addressed here with its CRC-32C not yet checked. -/
  | go (s : State)
  deriving Repr

/-- The checks that every hop makes: R63 step 1, R26 and the source check of R44. -/
def sourceChecks (s : State) (p : Nat) (k : Packet) : Verdict :=
  if k.abort then .stop s
  else if !wellFramed k then .stop (malformed s p k false)
  else if badIdentifiers k then .stop (malformed s p k false)
  else if !ordinary k.src then .go s
  else if k.src = ownId s then
    (if newer 8 k.srcEdition (ownEdition s) || k.srcEdition = ownEdition s then .stop (duplicateIdentity s p k)
     else .stop (staleSpeaker s p k (ownEdition s)))
  else
    match exceptionOf s k.src with
    | some e => if k.srcEdition = e.2 || newer 8 k.srcEdition e.2 then .go s else .stop (staleSpeaker s p k e.2)
    | none => .go s

/-- The packet is addressed to this block (R44, R25). -/
def addressedHere (s : State) (k : Packet) : Bool := k.dst == ownId s || portLocal k.dst

/-- The packet is RETIRED's exception: MGMT of a service identifier, or port-local MGMT (R48). -/
def mgmtExcepted (k : Packet) : Bool := k.vc == 5 && (service k.src || portLocal k.src || portLocal k.dst)

/-- A packet addressed here is refused with a status: a non-posted request is answered, a posted one
dropped and acknowledged (R57, R59). -/
def refuseHere (s : State) (p : Nat) (k : Packet) (status offset : Nat) : State :=
  if nonPosted k.opcode then sendResponse s p (statusRspFor s p k status offset)
  else donePacket s k

/-- The checks at the destination up to step 4: the CRC-32C, global stop (R302), the destination
edition, and RETIRED (R48). A fence-counted packet takes its pending-ack place here. -/
def destinationChecks (s : State) (p : Nat) (k : Packet) : Verdict :=
  if !crcOk k then .stop (crcFailure s p)
  else if stopped s && k.vc != 5 then .stop (count64 s 0xC200_03)
  else
    let s := if fenceCounted k.opcode then ackArrive s p k else s
    if !portLocal k.dst && k.dstEdition ≠ ownEdition s then
      .stop (refuseHere (count64 s 0x5400_02) p k stStale 0)
    else if retired s && !mgmtExcepted k && !isResponse k.opcode then
      .stop (if nonPosted k.opcode then sendResponse s p (statusRspFor s p k stRetired 0)
             else donePacket (postedRefusal s p) k)
    else .go s

/-- The opcode rules of Table 3.8 that need no other chapter; the All row refuses an unlisted status of any response of
layout S and of a posted notice, and a notice's reserved origin (R8, R11, R110). -/
def opcodeRules (k : Packet) : Bool :=
  let op := k.opcode
  let off := offsetM k
  if op = opRead || op = opWrite || op = opWriteAck || op = opLoanData then
    slotN k ≠ 1 || off % 16 ≤ k.lastByte
  else if op = opAtomic || op = opAtomicFetch then
    slotN k = 1 && subM k ≤ 0x0A && off % (if size8M k then 8 else 4) = 0 &&
      (op = opAtomicFetch || !(subM k = 0x08 || subM k = 0x09))
  else if op = opLedgerAdd || op = opLedgerRead || op = opLedgerReadClear then off % 64 = 0
  else if op = opProbe then slotN k = 2 && subM k ≤ 1
  else if op = opNoticePost then
    slotN k = 2 && handleM k ≤ 255 && statuses.contains (fld (nth 0 1 k.data) 119 112) && fld (nth 0 1 k.data) 111 110 ≠ 3
  else if op = opAtomicRsp then slotN k = 1 && statuses.contains (statusS k)
  else if op = opRetiredNotice || op = opFaultAck || op = opMirrorAck || op = opTimeSync then
    slotN k = 1
  else if op = opFaultReport then slotN k ≤ 2
  else if op = opReadRsp || op = opStatusRsp || op = opLedgerRsp || op = opProbeRsp then statuses.contains (statusS k)
  else true

/-- The ARRIVAL policer of a request addressed here (R200, R202): a RED packet under a binding with
red_drop is refused POLICED. -/
def policeHere (s : State) (p : Nat) (k : Packet) : Verdict :=
  if p < 8 && policed k then
    match arrivalBinding s p k with
    | none => .go s
    | some b =>
      let n := fld b 95 88
      let (k', s) := police s n k
      if bit b 125 && k'.colour = 2 then
        let s := setF s 0x6202_00 n 63 0 (getF s 0x6202_00 n 63 0 + 1)
        .stop (refuseHere s p k stPoliced 0)
      else .go s
  else .go s

/-- The packet waits at the head of its channel: its pending-ack entry is not to be had yet (R88). In global stop nothing
waits for one (R302). -/
def mustHold (s : State) (p : Nat) (k : Packet) : Bool :=
  p != 15 && !stopped s && fenceCounted k.opcode && addressedHere s k && crcOk k && ackMustWait s k &&
    (match sourceChecks s p k with
      | .go _ => true
      | .stop _ => false)

/-- A packet arrives that is addressed here and is no LOAN_DATA: all checks up to step 5, `rules`
adding what other chapters require at step 4. A TIME_SYNC for another endpoint is malformed, as it is never forwarded
(R283; log entry 48). `go` means that admission or the tag match is next. The block's own
switch gives up the packets of a channel in the order sent (R75); in global stop it gives none up but MGMT (R301, R302). -/
def arrive (s : State) (p : Nat) (k : Packet) (rules : Packet → Bool) : Verdict :=
  if p = 15 then
    if s.switch.loop.find? (fun x => x.vc == k.vc) ≠ some k || (stopped s && k.vc != 5) then .stop s
    else
      let s := { s with switch.loop := s.switch.loop.erase k }
      if opcodeRules k && rules k then .go s else .stop (malformed s p k true)
  else
    let s := odc (takeRx s p k) 0x01 (some p) (some k) 1
    let s := if k.opcode = opCommitAck && addressedHere s k then odc s 0x0A (some p) (some k) 1 else s
    match sourceChecks s p k with
    | .stop s => .stop s
    | .go s =>
      if !addressedHere s k then .stop (if k.opcode = opTimeSync then malformed s p k false else s)
      else
        match destinationChecks s p k with
        | .stop s => .stop s
        | .go s =>
          if !(opcodeRules k && rules k) then .stop (malformed s p k true)
          else policeHere s p k

end Sys2Proof.Machine
end

