-- ==== Sys2Proof/Machine/Serve.lean ====
section
/-! DEFINITION. What a request does at its destination once it has passed the checks of R63: admission
(R36), the access it makes (R72, R75), the atomics beside memory (R67 to R70), the ledger cells (R141
to R145), and its answer (R57, R59). Port 15 stands for the block's own switch. -/

namespace Sys2Proof.Machine

/-! ### Rights (Table 2.3) -/

def rightRead := 0x01
def rightWrite := 0x02
def rightAtomic := 0x04
def rightLedgerAdd := 0x08
def rightLedgerRead := 0x10

/-- The rights an opcode needs (Table 3.4). -/
def rightsFor (op : Nat) : Nat :=
  if op = opRead then rightRead
  else if op = opWrite || op = opWriteAck || op = opLoanData then rightWrite
  else if op = opAtomic || op = opAtomicFetch then rightAtomic
  else if op = opLedgerAdd then rightLedgerAdd
  else if op = opLedgerRead then rightLedgerRead
  else rightLedgerRead + rightLedgerAdd

/-- The span of a request (R35, R53): its extent, an atomic's operand, or its cells. -/
def spanOf (k : Packet) : Nat × Nat :=
  let op := k.opcode
  if op = opAtomic || op = opAtomicFetch then (offsetM k, if size8M k then 8 else 4)
  else if op = opLedgerAdd || op = opLedgerRead || op = opLedgerReadClear then (offsetM k, 64 * slotN k)
  else (offsetM k, extentLength k)

/-- Whose order an access keeps (R75, R76): the source's, or the loan's for LOAN_DATA. -/
def pairKey (k : Packet) : Nat := if k.opcode = opLoanData then 2 ^ 22 + handleM k else k.src

/-! ### Refusals -/

/-- A request that admission refuses (R57, R59). -/
def refuseAdmission (s : State) (p : Nat) (k : Packet) (status offset : Nat) : State :=
  if nonPosted k.opcode then sendResponse s p (statusRspFor s p k status offset)
  else donePacket (postedRefusal s p) k

/-- A request that passes admission and is not executed: an atomic through a carrel kind (R52), and a
ledger request with the sequencer cluster's domain off (Table 16.5). -/
def unsupportedHere (s : State) (p : Nat) (k : Packet) : State :=
  if nonPosted k.opcode then sendResponse s p (statusRspFor s p k stUnsupported 0)
  else donePacket (postedRefusal s p) k

/-! ### Starting the access -/

/-- The access kind of a request. -/
def accessKind (p : Nat) (k : Packet) : AccessKind :=
  let op := k.opcode
  if op = opRead then .pktRead p k
  else if op = opAtomic || op = opAtomicFetch then .atomicLock p k
  else if op = opLedgerAdd || op = opLedgerRead || op = opLedgerReadClear then .pktLedger p k
  else .pktWrite p k

/-- Start the access of a request admitted under `uses` through window row `row`. -/
def startAccess (s : State) (p : Nat) (k : Packet) (uses : List Nat) (row : Nat) : State :=
  let t := winTarget row + (offsetM k - winBase row)
  let kind := accessKind p k
  let pair := some (pairKey k)
  if winKind row ≠ 0 then (innerAccess s kind pair uses (winPartition row)).2
  else
    match kind with
    | .pktRead _ _ =>
      (hostAccess s kind pair 0 (winContext row) (winSegment row) t (extentLength k) [] false uses
        (winPartition row)).2
    | .atomicLock _ _ =>
      (hostAccess s kind pair 2 (winContext row) (winSegment row) (t / 64 * 64) 64 [] false uses
        (winPartition row)).2
    | _ =>
      (hostAccess s kind pair 1 (winContext row) (winSegment row) t (extentLength k) (extentBytes k) k.poison
        uses (winPartition row)).2

/-- A request asks for its operation with its packet's source (R36). -/
def askOf (k : Packet) : Asking := { request := true, source := k.src, mask := rightsFor k.opcode }

/-- A request reaches admission (R36) and starts its access. -/
def serve (s : State) (p : Nat) (k : Packet) : State :=
  match admission s [spanOf k] (askOf k) with
  | (s, .refuse status off) => refuseAdmission s p k status off
  | (s, .pass uses) =>
    let row := windowRow s (nth 0 0 uses / 2 ^ 32)
    let atomic := k.opcode = opAtomic || k.opcode = opAtomicFetch
    let ledger := k.opcode = opLedgerAdd || k.opcode = opLedgerRead || k.opcode = opLedgerReadClear
    if atomic && winKind row ≠ 0 || ledger && !domainOn s 18 then unsupportedHere (endUses s uses) p k
    else startAccess s p k uses row

/-! ### Slices (Table 7.3, R16, R132) -/

def activeSlices (s : State) : Nat := get s 0x1010_02

def sliceCn (phys : Nat) : Nat := 0x7400_01 + phys

/-- 0 ACTIVE, 1 SPARE, 2 SELF_TEST, 3 FAILED. -/
def sliceState (s : State) (phys : Nat) : Nat := fld (get s (sliceCn phys)) 7 6

def sliceLogical (s : State) (phys : Nat) : Nat := fld (get s (sliceCn phys)) 2 0

/-- The physical slice that holds a logical number. -/
def physOf (s : State) (k : Nat) : Option Nat :=
  (upFrom 0 (slicesOf s.part)).find? fun i => sliceState s i == 0 && sliceLogical s i == k

/-! ### Ledger cells (R141) -/

/-- Carrel address of cell `c`. -/
def cellAddr (s : State) (c : Nat) : Nat :=
  let q := quota s 1
  (quotaFirst s 1 + c % q) * bankBytes + c / q / 6 * 256 + c / q % 6 * 40

/-- The cells the block has (`8310.02`). -/
def ledgerCells (s : State) : Nat := quota s 1 * 24576

def readCell (s : State) (c : Nat) : Nat := numLE (carrelRead s (cellAddr s c) 40).1

/-- A cell reads as poisoned by its own bit, or where its row failed for good (R145, R324). -/
def cellPoisoned (s : State) (c : Nat) : Bool :=
  bit (readCell s c) 319 || rowPoisoned s (carrelRow (cellAddr s c))

def writeCell (s : State) (c v : Nat) : State := carrelWrite s (cellAddr s c) (bytesLE 40 v)

/-- Add one slot's value to a cell (R143), or poison it (R145). -/
def addCell (s : State) (c fmt slot : Nat) (poison : Bool) : State :=
  let v := readCell s c
  if poison then writeCell s c (setBit v 319 true)
  else
    let x := ledgerContribution fmt slot
    let v := setFld v 318 317 (combineState (fld v 318 317) x.state)
    let s := writeCell s c (setFld v 309 0 (unsigned 310 (signed 310 (fld v 309 0) + x.value)))
    count64 s 0x8310_03

def addCells (s : State) (fmt : Nat) (poison : Bool) : Nat → List Nat → State
  | _, [] => s
  | c, x :: xs => addCells (addCell s c fmt x poison) fmt poison (c + 1) xs

/-- The slot a read returns for a cell under ledger_read_rounding (R144). -/
def cellSlot (s : State) (fmt c : Nat) : Nat :=
  let v := readCell s c
  ledgerSlot fmt (get s 0x8310_01) (fld v 318 317) (BitVec.ofNat 310 (fld v 309 0))

/-- Apply a ledger request at its cells (R22, R143 to R145): its answer is OK with the slots read, or
POISON. -/
def applyLedger (s : State) (k : Packet) (first : Nat) : State × Nat × List Nat :=
  let cells := upFrom first (slotN k)
  if k.opcode = opLedgerAdd then (addCells s (subM k) k.poison first k.data, stOk, [])
  else if cells.any (cellPoisoned s) then (count64 s 0x8310_05, stPoison, [])
  else
    let slots := cells.map (cellSlot s (subM k))
    let s := if k.opcode = opLedgerReadClear then forEach cells (fun t c => writeCell t c 0) s else s
    (count64 s 0x8310_04, stOk, slots)

/-! ### Ending an access -/

/-- Take an access out of the table and end its uses (R36). -/
def closeAccess (s : State) (a : Nat) (x : Access) : State :=
  endUses { s with host.accesses := eraseT s.host.accesses a,
                   host.inner := s.host.inner.filter (fun b => b != a) } x.windows

/-- The report of a translation fault (R30, R116, Table 14.8). -/
def reportFaultAt (s : State) (partition context : Nat) : State :=
  reportOwn s 0x10 15 (partition % 16 * 4096 + context)

def reportFault (s : State) (x : Access) : State := reportFaultAt s x.partition x.context

/-- A translation fault of a HOST access is counted and reported (R30). -/
def countFault (s : State) (x : Access) : State :=
  if x.status = 2 then reportFault (count64 s 0x5000_07) x else s

/-- An access is over: its fault is counted, unless it was dropped and its completion is ignored (R45). -/
def closeCounted (s : State) (a : Nat) (x : Access) : State :=
  let s := closeAccess s a x
  if x.ignored then s else countFault s x

/-- The status of Table 0.5 for an access's completion: FAULT is WINDOW_MISS (R30). -/
def accessStatus (status : Nat) : Nat := if status = 0 then stOk else if status = 1 then stPoison else stMiss

/-- Answer a READ (R57). -/
def answerRead (s : State) (p : Nat) (k : Packet) (status : Nat) (bs : List Byte) : State :=
  if status = stOk then
    sendResponse s p (respond s p k opReadRsp (layoutS stOk 0 0) k.slotCount k.lastByte false
      (slotsOf (offsetM k % 16) bs))
  else sendResponse s p (statusRspFor s p k status 0)

/-- A write is over: WRITE_ACK is answered, a posted one is done (R57, R59). -/
def answerWrite (s : State) (p : Nat) (k : Packet) (status : Nat) : State :=
  if k.opcode = opWriteAck then sendResponse s p (statusRspFor s p k status 0) else donePacket s k

def answerLedger (s : State) (p : Nat) (k : Packet) (status : Nat) (slots : List Nat) : State :=
  if k.opcode = opLedgerAdd then donePacket s k
  else if status = stOk then
    sendResponse s p (respond s p k opLedgerRsp (layoutS stOk 0 0) (slots.length % 256) 15 false slots)
  else sendResponse s p (statusRspFor s p k status 0)

/-- ATOMIC_FETCH is answered with the old value, a posted ATOMIC is done (R67, R70). -/
def answerAtomic (s : State) (p : Nat) (k : Packet) (status old : Nat) : State :=
  if k.opcode = opAtomic then donePacket s k
  else if status = stOk then
    sendResponse s p (respond s p k opAtomicRsp (layoutS stOk 0 0) 1 15 false [old])
  else sendResponse s p (statusRspFor s p k status 0)

/-- A LOAN_DATA performed at its terminus is counted there (Table 8.6). -/
def countLanded (s : State) (k : Packet) : State :=
  let n := handleM k
  if k.opcode = opLoanData && loanState s n != 0 then
    setF s 0x6400_00 n 63 0 (getF s 0x6400_00 n 63 0 + 1)
  else s

/-- Width of an atomic in bits. -/
def atomicBits (k : Packet) : Nat := if size8M k then 64 else 32

/-- The operand's place in its line. -/
def operandAt (k : Packet) : Nat := offsetM k % 64

/-- Where an access holds its line: port and the lock. -/
def lockOf (s : State) (a : Nat) : Option Lock := s.host.locks.find? fun l => l.access == a

/-- A READ_LOCK has completed: apply the operation and present the WRITE_UNLOCK, with no byte enabled
where nothing is written (R68, R70, R343). -/
def atomicLocked (s : State) (a : Nat) (x : Access) (p : Nat) (k : Packet) : State :=
  match lockOf s a with
  | none =>
    let s := closeCounted s a x
    if x.ignored then s else answerAtomic s p k (accessStatus x.status) 0
  | some l =>
    let req : MspReq :=
      { op := 3, poison := false, context := l.context, segment := l.segment, offset := l.line * 64,
        length := 64, data := [], enabled := false, access := a, piece := 1, waited := false }
    let n := atomicBits k
    let line := accessData x
    let at0 := operandAt k
    let old := numLE ((line.drop at0).take (n / 8))
    let slot := nth 0 0 k.data
    let compare := fld slot 127 64
    let new := atomicResult (subM k) n old slot compare
    let writes := x.status = 0 && !x.ignored && !quiesced s l.port &&
      !(subM k = 0x09 && old ≠ compare % 2 ^ n)
    let data := line.take at0 ++ bytesLE (n / 8) new ++ line.drop (at0 + n / 8)
    let s := if x.status = 1 && !x.ignored then count64 s (0x8061_01 + l.port) else s
    let s := if x.status = 0 && !x.ignored && !quiesced s l.port then count64 s (0x8060_01 + l.port) else s
    let s := updAccess s a fun y =>
      { y with kind := .atomicUnlock p k old (x.status = 0), toAccept := 1, toComplete := 1 }
    setMspQueue s l.port
      (mspQueue s l.port ++ [if writes then { req with data := data, enabled := true } else req])

/-- What acceptance of the last request of an access settles at once: a fence-counted packet is done
when it has reached its memory-side port (R59, R72). -/
def performedAt (s : State) (a : Nat) : State :=
  match access? s a with
  | some x =>
    if x.performed && !x.ignored then
      match x.kind with
      | .pktWrite _ k => donePacket (countLanded s k) k
      | .atomicUnlock _ k _ _ => donePacket s k
      | _ => s
    else s
  | none => s

/-- A posted request that is performed was done then, and its completion settles nothing more (R59, R72). -/
def settledEarly (x : Access) (k : Packet) : Bool := x.performed && !nonPosted k.opcode

/-- End a packet's access whose requests are all over; a ledger access comes here only when it was dropped (R45). Other kinds
are left alone. -/
def finishPacket (s : State) (a : Nat) (x : Access) : State :=
  match x.kind with
  | .pktRead p k =>
    let s := closeCounted s a x
    if x.ignored then s else answerRead s p k (accessStatus x.status) (accessData x)
  | .pktWrite p k =>
    let s := closeCounted s a x
    if x.ignored || settledEarly x k then s else answerWrite s p k (if x.status = 2 then stMiss else stOk)
  | .atomicLock p k => atomicLocked s a x p k
  | .atomicUnlock p k old _ =>
    let s := closeCounted s a x
    if x.ignored || settledEarly x k then s else answerAtomic s p k (accessStatus x.status) old
  | .pktLedger _ _ => closeCounted s a x
  | .release => closeAccess s a x
  | _ => s

/-! ### Carrel and ledger accesses -/

/-- First cell of a ledger request through window row `row`. -/
def firstCell (row : Nat) (k : Packet) : Nat := (winTarget row + (offsetM k - winBase row)) / 64

/-- The cells a ledger access touches. -/
def innerCells (s : State) (x : Access) : List Nat :=
  match x.kind with
  | .pktLedger _ k => upFrom (firstCell (usedRow s (nth 0 0 x.windows)) k) (slotN k)
  | .ledgerClear first n => upFrom first n
  | _ => []

/-- The carrel bytes that a read or write of an inner access touches: address and length. -/
def innerExtent (s : State) (x : Access) : Nat × Nat :=
  let row := usedRow s (nth 0 0 x.windows)
  match x.kind with
  | .pktRead _ k => (carrelAddr s (winKind row) (winTarget row + (offsetM k - winBase row)), extentLength k)
  | .pktWrite _ k => (carrelAddr s (winKind row) (winTarget row + (offsetM k - winBase row)), extentLength k)
  | _ => (0, 0)

/-- A row among the bytes is being replaced (R15, R324). -/
def replacingAny (s : State) (a n : Nat) : Bool := (rowsTouched a n).any fun r => s.carrel.replacing.contains r

/-- The slice a cell is assigned to: active slice (cell index mod number of active slices), or none while the spare
takes the place of a failed one (R16, R166). Where no slice is left active the spec assigns none: the cell's operations
wait (log entry 73). -/
def cellSlice (s : State) (c : Nat) : Option Nat := physOf s (c % max 1 (activeSlices s))

/-- A cell cannot be served now: its slice is being substituted, or its row replaced. -/
def cellBusy (s : State) (c : Nat) : Bool := (cellSlice s c).isNone || replacingAny s (cellAddr s c) 40

/-- An earlier access that still waits touches a cell of this one, so this one waits behind it (R15, R22). -/
def behindCells (s : State) (a : Nat) (x : Access) : Bool :=
  let mine := innerCells s x
  !mine.isEmpty && s.host.inner.any fun b =>
    b < a && match access? s b with
      | some y => (innerCells s y).any fun c => mine.contains c
      | none => false

/-- A packet's carrel access is performed and answered (R72, R324). A poisoned write leaves the rows it writes poisoned, which
R70 does not state of the carrel (log entry 30). Other kinds are left alone. -/
def performPacket (s : State) (a : Nat) (x : Access) : State :=
  let (addr, len) := innerExtent s x
  let row := usedRow s (nth 0 0 x.windows)
  match x.kind with
  | .pktRead p k =>
    let (bs, bad) := carrelRead s addr len
    answerRead (closeAccess s a x) p k (if bad then stPoison else stOk) bs
  | .pktWrite p k =>
    let s := carrelWrite s addr (extentBytes k)
    let s := if k.poison then carrelPoison s addr len else s
    answerWrite (countLanded (closeAccess s a x) k) p k stOk
  | .pktLedger p k =>
    let (s, status, slots) := applyLedger s k (firstCell row k)
    answerLedger (closeAccess s a x) p k status slots
  | _ => s

end Sys2Proof.Machine
end

