-- ==== Sys2Proof/Machine/SlipForm.lean ====
section
/-! DEFINITION. The slip as operands: its fields (Table 5.3), its extents and their spans (R35, R99),
the shape relations (R100), and the cutting of its bytes into requests and local pieces (R101, R102). -/

namespace Sys2Proof.Machine

/-! ### Fields (Table 5.3) -/

def slTurn (b : Nat) : Nat := fld b 511 504
def slKind (b : Nat) : Nat := fld b 503 501
def slPull (b : Nat) : Bool := bit b 500
def slElemBytes (b : Nat) : Nat := 2 ^ fld b 499 498
def slBarrier (b : Nat) : Bool := bit b 497
def slNoticeOk (b : Nat) : Bool := bit b 496
def slRemoteNotice (b : Nat) : Bool := bit b 495
def slUseLoan (b : Nat) : Bool := bit b 494
def slNoticeRing (b : Nat) : Nat := fld b 493 486
def slRemoteRing (b : Nat) : Nat := fld b 485 478
def slLoan (b : Nat) : Nat := fld b 477 466
def slTag (b : Nat) : Nat := fld b 325 294
def slStep (b : Nat) : Nat := fld b 293 262
def slRemote (b : Nat) : Nat := fld b 255 192

/-- The endpoint of remote_address, from its upper 22 bits (R24). -/
def slEndpoint (b : Nat) : Nat := slRemote b / 2 ^ 42

/-- An extent: `rows` rows of `rowBytes` bytes, `pitch` apart (R99). -/
structure Extent where
  offset   : Nat
  rowBytes : Nat
  rows     : Nat
  pitch    : Nat
  deriving DecidableEq, Repr

def slLocal (b : Nat) : Extent :=
  { offset := fld b 465 424, rowBytes := fld b 381 350, rows := fld b 349 326, pitch := fld b 423 382 }

/-- The remote extent of the first 256 bits of a slip, as a PROBE carries them. -/
def remoteExtent (b : Nat) : Extent :=
  { offset := fld b 255 192 % 2 ^ 42, rowBytes := fld b 191 160, rows := fld b 159 136, pitch := fld b 127 86 }

def Extent.bytes (e : Extent) : Nat := e.rowBytes * e.rows

/-- The spans of an extent: one for each row, in row order (R35). -/
def Extent.spans (e : Extent) : List (Nat × Nat) :=
  (upFrom 0 e.rows).map fun r => (e.offset + r * e.pitch, e.rowBytes)

/-- The offset of byte `pos` of an extent's byte stream. -/
def Extent.at (e : Extent) (pos : Nat) : Nat := e.offset + pos / e.rowBytes * e.pitch + pos % e.rowBytes

/-! ### Shape relations (Table 5.4) -/

def strided (a c : Extent) : Bool := a.rows == 1 && a.rowBytes == c.rowBytes * c.rows

/-- The relation of the slip's kind between its source and destination; a reserved kind breaks it. -/
def shapeHolds (b : Nat) : Bool :=
  let l := slLocal b
  let r := remoteExtent b
  let src := if slPull b then r else l
  let dst := if slPull b then l else r
  let e := slElemBytes b
  let k := slKind b
  if k = 0 then l.rows == 1 && r.rows == 1 && l.rowBytes == r.rowBytes
  else if k = 1 then strided l r || strided r l
  else if k = 2 then l.rowBytes == r.rowBytes && l.rows == r.rows
  else if k = 3 then
    src.rowBytes % e == 0 && dst.rowBytes == src.rows * e && dst.rows == src.rowBytes / e
  else false

/-! ### Requests (R101, R102) -/

/-- A piece of the remote byte stream in movement order: the remote offset and the place in the stream
of its first byte, its length, and the movement position after it. -/
structure Piece where
  remote : Nat
  pos    : Nat
  length : Nat
  next   : Nat
  deriving DecidableEq, Repr

/-- The piece at movement position `at0` of a slip other than TRANSPOSE: its stream in order, cut at row
ends and 4 KiB boundaries. -/
def plainPiece (r : Extent) (at0 : Nat) : Option Piece :=
  if r.bytes ≤ at0 then none
  else
    let off := r.at at0
    let len := min (r.rowBytes - at0 % r.rowBytes) (4096 - off % 4096)
    some { remote := off, pos := at0, length := len, next := at0 + len }

/-- Bytes a movement position of a TRANSPOSE leaves for each run of up to 32 elements of 8 bytes. -/
def runSpan : Nat := 256

/-- Run `q` of a TRANSPOSE with `rows` × `cols` source elements, taken in block order (R102): the row of
the remote extent, its first element there, and how many elements. -/
def transposeRun (remoteIsSource : Bool) (rows cols q : Nat) : Nat × Nat × Nat :=
  if remoteIsSource then
    let nb := (cols + 31) / 32
    let bi := q / (nb * 32)
    let h := min 32 (rows - 32 * bi)
    let rem := q % (nb * 32)
    let bj := rem / h
    (32 * bi + rem % h, 32 * bj, min 32 (cols - 32 * bj))
  else
    let bi := q / cols
    (q % cols, 32 * bi, min 32 (rows - 32 * bi))

/-- The block of run `q`, by its source row block and column block (R102). -/
def transposeBlock (remoteIsSource : Bool) (rows cols q : Nat) : Nat × Nat :=
  if remoteIsSource then
    let nb := (cols + 31) / 32
    let bi := q / (nb * 32)
    (bi, q % (nb * 32) / min 32 (rows - 32 * bi))
  else (q / cols, q % cols / 32)

/-- Runs of a TRANSPOSE. -/
def transposeRuns (remoteIsSource : Bool) (rows cols : Nat) : Nat :=
  if remoteIsSource then rows * ((cols + 31) / 32) else (rows + 31) / 32 * cols

/-- The piece at movement position `at0` of a TRANSPOSE: position / 256 counts runs, the remainder bytes
of the run already taken. -/
def transposePiece (b at0 : Nat) : Option Piece :=
  let r := remoteExtent b
  let e := slElemBytes b
  let src := if slPull b then r else slLocal b
  let cols := src.rowBytes / e
  let q := at0 / runSpan
  if transposeRuns (slPull b) src.rows cols ≤ q then none
  else
    let (row, first, n) := transposeRun (slPull b) src.rows cols q
    let done := at0 % runSpan
    let pos := row * r.rowBytes + first * e + done
    let off := r.at pos
    let len := min (n * e - done) (4096 - off % 4096)
    some
      { remote := off, pos := pos, length := len,
        next := if done + len < n * e then at0 + len else (q + 1) * runSpan }

/-- The block of a TRANSPOSE that holds movement position `at0`; any other kind moves as one block (R102). -/
def slipBlock (b at0 : Nat) : Nat × Nat :=
  if slKind b = 3 then
    let src := if slPull b then remoteExtent b else slLocal b
    transposeBlock (slPull b) src.rows (src.rowBytes / slElemBytes b) (at0 / runSpan)
  else (0, 0)

/-- The next piece a slip moves. -/
def slipPiece (b at0 : Nat) : Option Piece :=
  if slKind b = 3 then transposePiece b at0 else plainPiece (remoteExtent b) at0

/-- Place in the local byte stream of byte `pos` of the remote byte stream. -/
def localPos (b pos : Nat) : Nat :=
  if slKind b = 3 then
    let e := slElemBytes b
    let rcols := (remoteExtent b).rowBytes / e
    let lcols := (slLocal b).rowBytes / e
    let i := pos / e / rcols
    let j := pos / e % rcols
    (j * lcols + i) * e + pos % e
  else pos

/-- The local accesses of `len` bytes of the remote stream from `pos`: place in the request, local offset
and length. Local pieces are cut at the ends of local rows, and for a TRANSPOSE at elements; `fuel` bounds
them. -/
def localPieces (b : Nat) : Nat → Nat → Nat → Nat → List (Nat × Nat × Nat)
  | 0, _, _, _ => []
  | fuel + 1, pos, len, at0 =>
    if len = 0 then []
    else
      let l := slLocal b
      let lp := localPos b pos
      let room :=
        if slKind b = 3 then slElemBytes b - pos % slElemBytes b else l.rowBytes - lp % l.rowBytes
      let n := min len room
      (at0, l.at lp, n) :: localPieces b fuel (pos + n) (len - n) (at0 + n)

/-- The local pieces of a request. -/
def requestPieces (b pos len : Nat) : List (Nat × Nat × Nat) := localPieces b len pos len 0

/-- Place in the source byte stream of byte `pos` of the remote byte stream (R300): the remote stream's for
a PULL, the local stream's for a PUSH. -/
def sourcePos (b pos : Nat) : Nat := if slPull b then pos else localPos b pos

end Sys2Proof.Machine
end

