-- ==== Sys2Proof/Machine/Trace.lean ====
section
/-! DEFINITION. The instruction trace (R295 to R298) and the tensor watch with its dumps (R299, R300). -/

namespace Sys2Proof.Machine

/-! ### The trace path (Table 13.9) -/

def traceCfg (s : State) : Nat := get s 0xC000_02
/-- 0 OFF, 1 MAIN, 2 RING_ONLY. -/
def tracePath (s : State) : Nat := fld (traceCfg s) 127 126
def traceWrap (s : State) : Bool := bit (traceCfg s) 125
/-- Records in the region. -/
def traceSize (s : State) : Nat := 4096 * 2 ^ fld (traceCfg s) 124 120
def tracePlaced (s : State) : Nat := get s 0xC000_04

/-- A record of 16 bytes in hundredths of a byte, as the bucket counts. -/
def traceCost : Nat := 1600

def traceRingPlaces : Nat := 4096

def traceRing (s : State) (src : Nat) : List Nat := (lookupT s.observe.rings src).getD []

def setTraceRing (s : State) (src : Nat) (r : List Nat) : State :=
  { s with observe.rings := if r.isEmpty then eraseT s.observe.rings src else insertT s.observe.rings src r }

/-- Source `src` traces, and so does thread `e` on a sequencer source (R295). -/
def tracing (s : State) (src e : Nat) : Bool :=
  domainOn s 24 && !stopped s && bit (get s 0xC000_01) src && tracePath s != 0 &&
    (src == 0 || get s (0xC001_00 + src) == 0xFFFF || get s (0xC001_00 + src) == e)

/-- A record of Table 13.8: kind 0 BRANCH, 1 START, 2 END, 3 LOSS. -/
def traceBits (time kind src e pc info : Nat) : Nat :=
  time % 2 ^ 64 * 2 ^ 64 + kind * 2 ^ 61 + src % 8 * 2 ^ 58 + e % 256 * 2 ^ 50 + pc % 2 ^ 24 * 2 ^ 24 +
    min info (2 ^ 24 - 1)

/-- The region takes no more records: full with wrap clear (R296). -/
def traceFull (s : State) : Bool :=
  !traceWrap s && traceSize s ≤ tracePlaced s + s.observe.line.length

/-- The memory-side ports hold a trace line back: one has not been accepted (R297). -/
def traceHeld (s : State) : Bool :=
  s.host.queues.any fun e => e.2.any fun r =>
    match access? s r.access with
    | some x => x.kind == .trace
    | none => false

/-- The partial line is written into the region (R296): records `tracePlaced` on, at their slots. -/
def traceWriteLine (s : State) : State :=
  if s.observe.line.isEmpty then s
  else
    let cfg := traceCfg s
    let k := tracePlaced s
    let line := s.observe.line
    let s := { s with observe.line := [] }
    let s := count s 0xC000_04 64 line.length
    (hostAccess s .trace none 1 (fld cfg 119 108) (fld cfg 107 100) (fld cfg 99 64 * 64 + k % traceSize s * 16)
      (16 * line.length) (line.flatMap (bytesLE 16)) false [] 16).2

/-- A record joins the line; a full line of four is written at once. -/
def tracePlace (s : State) (r : Nat) : State :=
  let s := { s with observe.line := s.observe.line ++ [r], observe.bucket := s.observe.bucket - traceCost }
  if (tracePlaced s + s.observe.line.length) % 4 = 0 then traceWriteLine s else s

/-- The bucket and the region let a record be placed now. -/
def tracePlaces (s : State) : Bool := traceCost ≤ s.observe.bucket && !traceHeld s && !traceFull s

/-- A record that its ring has no room for is lost (R298). -/
def traceLose (s : State) (src time : Nat) : State :=
  let s := count64 s 0xC000_05
  let was := (lookupT s.observe.lost src).getD (time, 0)
  { s with observe.lost := insertT s.observe.lost src (was.1, was.2 + 1) }

/-- A record goes to the region or to its source's fall-back ring (R297, R298). -/
def tracePut (s : State) (src r : Nat) : State :=
  let ring := traceRing s src
  if tracePath s = 2 then
    setTraceRing s src ((ring ++ [r]).drop (ring.length + 1 - traceRingPlaces))
  else if ring.isEmpty && tracePlaces s then tracePlace s r
  else if ring.length < traceRingPlaces then setTraceRing s src (ring ++ [r])
  else traceLose s src (fld r 127 64)

/-- Form a record (R295). -/
def traceRecord (s : State) (src kind e pc info : Nat) : State :=
  if tracing s src e then tracePut s src (traceBits (now s) kind src e pc info) else s

/-- A record of the management core, source 0 (R295): the places in its image and the info are free (log entry 69). -/
def coreRecord (s : State) (kind : Nat) : State :=
  if tracing s 0 0 then
    let (i, s) := draw s
    let (j, s) := draw s
    traceRecord s 0 kind 0 (Config.freeValue i) (Config.freeValue j % if kind = 2 then 256 else 2 ^ 24)
  else s

/-- A ring that has room again first takes the LOSS record (R298). -/
def traceLoss (s : State) (src : Nat) : State :=
  match lookupT s.observe.lost src with
  | none => s
  | some (time, n) =>
    if (traceRing s src).length < traceRingPlaces then
      setTraceRing { s with observe.lost := eraseT s.observe.lost src } src
        (traceRing s src ++ [traceBits time 3 src 0 0 n])
    else s

/-- The source whose turn it is: the first after the last one with records (R297). -/
def traceTurn (s : State) : Option Nat :=
  ((upFrom (s.observe.lastSource + 1) 6).map (· % 6)).find? fun i => !(traceRing s i).isEmpty

/-- The drain DMA copies the oldest fall-back record of the next source to the region (R297). -/
def traceDrainOne (s : State) : State :=
  if tracePath s = 1 && !stopped s && domainOn s 24 && tracePlaces s then
    match traceTurn s with
    | none => s
    | some i =>
      match traceRing s i with
      | [] => s
      | r :: rs =>
        let gone := (lookupT s.observe.drained i).getD 0 + 1
        let s := { s with observe.lastSource := i, observe.drained := insertT s.observe.drained i gone }
        traceLoss (tracePlace (setTraceRing s i rs) r) i
  else s

/-- A trace write is over: a translation fault sets the path OFF and is reported (R296). -/
def finishTrace (s : State) (a : Nat) (x : Access) : State :=
  let s := closeAccess s a x
  if x.status = 2 then reportFault (set s 0xC000_02 (setFld (traceCfg s) 127 126 0)) x else s

/-! ### Tensor watch and dump -/

/-- The first watch row that an offered slip matches (R299). -/
def watchMatch (s : State) (tray tag step : Nat) : Option (Nat × Nat) :=
  (rowsOf s 0xC100_00).find? fun e =>
    bit e.2 127 && fld e.2 95 64 == tag && fld e.2 63 32 ≤ step && step ≤ fld e.2 31 0 &&
      (!bit e.2 124 || fld e.2 123 118 == tray)

/-- Carrel rows a dump takes (R300). -/
def dumpRows (s : State) : Nat := (64 + get s 0xC103_01 + 255) / 256

/-- A slip starts being captured, unless the staging quota has no place (R300). -/
def dumpStart (s : State) (tray k : Nat) : State :=
  let used := (s.observe.dumps.map (·.rows)).sum
  if quota s 2 * 4096 < used + dumpRows s || !domainOn s 24 then count64 s 0xC103_03
  else
    let s := noteForeign s (quotaFirst s 2 * 4096) (quota s 2 * 4096)
    { s with observe.dumps := s.observe.dumps ++
        [{ tray := tray, k := k, time := now s, bytes := [], rows := dumpRows s, ended := none }] }

/-- A slip whose admission has passed is offered to the tensor watch (R299). -/
def offerSlip (s : State) (tray k bits : Nat) : State :=
  if slTag bits = 0 then s
  else
    match watchMatch s tray (slTag bits) (slStep bits) with
    | none => s
    | some (row, w) =>
      let s := setRow s 0xC101_00 row ((getRow s 0xC101_00 row + 1) % 2 ^ 64)
      if fld w 126 125 = 1 then dumpStart s tray k
      else if fld w 126 125 = 2 then triggerStop s 3 0
      else s

/-- Bytes of a slip's source stream at a place are captured, as far as dump_limit (R300). -/
def dumpCapture (s : State) (tray k pos : Nat) (bs : List Byte) : State :=
  if pos < get s 0xC103_01 then
    { s with observe.dumps := s.observe.dumps.map fun d =>
        if d.tray = tray && d.k = k && d.ended.isNone then
          { d with bytes := insertT d.bytes pos (bs.take (get s 0xC103_01 - pos)) }
        else d }
  else s

/-- The captured bytes of a stream: what the slip never moved reads zero. -/
def dumpBytes (d : Dump) (n : Nat) : List Byte :=
  d.bytes.foldl (fun acc e => acc.take e.1 ++ e.2 ++ acc.drop (e.1 + e.2.length)) (List.replicate n 0)

/-- The header of a dump record (Table 13.11). -/
def dumpHeader (d : Dump) (bits slot status captured : Nat) (truncated : Bool) : Nat :=
  d.time % 2 ^ 64 * 2 ^ 448 + slTag bits * 2 ^ 416 + slStep bits * 2 ^ 384 + d.tray % 64 * 2 ^ 378 +
    slot % 65536 * 2 ^ 362 + status % 256 * 2 ^ 354 + b2n (slPull bits) * 2 ^ 353 + b2n truncated * 2 ^ 352 +
    captured % 2 ^ 32 * 2 ^ 320 + slRemote bits * 2 ^ 256 + (slLocal bits).offset * 2 ^ 214

/-- Write bytes of a dump record at a place of the region; what passes its end goes to its start. -/
def dumpWrite (s : State) (place : Nat) (bs : List Byte) : State :=
  let cfg := get s 0xC102_00
  let size := 65536 * 2 ^ fld cfg 126 122
  let n := min bs.length (size - place)
  (hostAccess s (.dump (bs.drop n)) none 1 (fld cfg 121 110) (fld cfg 109 102) (fld cfg 101 66 * 64 + place) n
    (bs.take n) false [] 16).2

/-- The oldest record that is to be written. -/
def dumpRecord (s : State) : Option Dump := s.observe.dumps.find? fun d => d.ended.isSome

/-- Begin to write the oldest record, at the place `C103.04` gives (R300). -/
def dumpNext (s : State) : State :=
  match dumpRecord s with
  | some d => dumpWrite s (get s 0xC103_04 % (65536 * 2 ^ fld (get s 0xC102_00) 126 122)) (d.ended.getD [])
  | none => s

/-- A captured slip completes: its record goes to the dump region after those before it, or is discarded (R300). -/
def dumpEnd (s : State) (tray k bits slot status : Nat) : State :=
  match s.observe.dumps.find? fun d => d.tray == tray && d.k == k && d.ended.isNone with
  | none => s
  | some d =>
    let busy := (dumpRecord s).isSome
    let s := { s with observe.dumps := s.observe.dumps.erase d }
    let total := (if slPull bits then remoteExtent bits else slLocal bits).bytes
    let n := min total (get s 0xC103_01)
    if !bit (get s 0xC102_00) 127 || stopped s then count64 s 0xC103_03
    else
      let bs := bytesLE 64 (dumpHeader d bits slot status n (get s 0xC103_01 < total)) ++ dumpBytes d n
      let s := { s with observe.dumps := s.observe.dumps ++ [{ d with ended := some bs }] }
      if busy then s else dumpNext s

/-- The staging place of the record written or discarded is free, and the next is written. -/
def dumpFreed (s : State) : State :=
  match dumpRecord s with
  | some d => dumpNext { s with observe.dumps := s.observe.dumps.erase d }
  | none => s

/-- A dump write is over: a record written whole counts with its bytes, one that a fault stops or that was withdrawn is
discarded (R300). -/
def finishDump (s : State) (a : Nat) (x : Access) (rest : List Byte) : State :=
  let s := closeAccess s a x
  if x.ignored then dumpFreed (count64 s 0xC103_03)
  else if x.status = 2 then dumpFreed (count64 (reportFault s x) 0xC103_03)
  else if rest.isEmpty then
    dumpFreed (count (count64 s 0xC103_02) 0xC103_04 64 (((dumpRecord s).bind (·.ended)).getD []).length)
  else dumpWrite s 0 rest

end Sys2Proof.Machine
end

