-- ==== Sys2Proof/Machine/Notices.lean ====
section
/-! DEFINITION. Notice rings (R109 to R114, R116): waiting notices, their writing, the consumed count and
the commands. -/

namespace Sys2Proof.Machine

/-! ### Ring rows (Table 5.5) -/

def ringCn : Nat := 0x8200_00

def ringRow (s : State) (r : Nat) : Nat := getRow s ringCn r
def rgOn (row : Nat) : Bool := fld row 255 254 == 1
def rgPartition (row : Nat) : Nat := fld row 253 250
def rgContext (row : Nat) : Nat := fld row 249 238
def rgSegment (row : Nat) : Nat := fld row 237 230
def rgSize (row : Nat) : Nat := 16 * 2 ^ fld row 229 226
def rgRemote (row : Nat) : Bool := bit row 225
def rgAttend (row : Nat) : Bool := bit row 224
def rgBase (row : Nat) : Nat := fld row 223 188 * 64
def rgConsumed (row : Nat) : Nat := fld row 187 152 * 64
def rgLo (row : Nat) : Nat := fld row 151 130
def rgHi (row : Nat) : Nat := fld row 129 108

def RingRun.reset : RingRun := { written := 0, consumed := 0, overflowed := false, waiting := [] }

def ringRun (s : State) (r : Nat) : RingRun := (lookupT s.slips.rings r).getD RingRun.reset

def setRingRun (s : State) (r : Nat) (x : RingRun) : State :=
  { s with slips.rings := insertT s.slips.rings r x }

/-- W - C is the size or more (R112), also where the consumer has written a count ahead of W, a host error. -/
def ringFull (s : State) (r : Nat) : Bool :=
  let x := ringRun s r
  rgSize (ringRow s r) ≤ subMod 64 x.written x.consumed

/-- Slot and turn of notice `w` (R111). -/
def ringSlot (size w : Nat) : Nat := w % size
def ringTurn (size w : Nat) : Nat := w / size % 255 + 1

/-! ### Notices (Table 5.6) -/

/-- A notice less turn, overflow_before and time. -/
def noticeBits (status origin side source offending bytes tag step : Nat) : Nat :=
  status % 256 * 2 ^ 240 + origin % 4 * 2 ^ 238 + side % 2 * 2 ^ 237 + source % 2 ^ 22 * 2 ^ 214 +
    offending % 2 ^ 43 * 2 ^ 171 + min bytes (2 ^ 43 - 1) * 2 ^ 128 + tag % 2 ^ 32 * 2 ^ 96 +
    step % 2 ^ 32 * 2 ^ 64

/-- A notice joins its ring's waiting ones. -/
def queueNotice (s : State) (r : Nat) (n : NoticePending) : State :=
  let x := ringRun s r
  setRingRun s r { x with waiting := x.waiting ++ [n] }

/-- Discard notices (R109, R116). -/
def countDiscarded (s : State) (n : Nat) : State := count s 0x8210_02 64 n

/-- The notice that is to be written next: the first of the ring not yet presented. -/
def nextNotice (s : State) (r : Nat) : Option NoticePending :=
  (ringRun s r).waiting.find? fun n => n.access.isNone

/-- Write the next notice of an ENABLED ring that is not full, in one 32-byte write (R110 to R112). -/
def writeNotice (s : State) (r : Nat) : State :=
  let row := ringRow s r
  if !rgOn row || ringFull s r then s
  else
    match nextNotice s r with
    | none => s
    | some n =>
      let x := ringRun s r
      let size := rgSize row
      let w := x.written
      let bits := setFld (setBit (setFld n.bits 255 248 (ringTurn size w)) 236 x.overflowed) 63 0 (now s)
      let (a, s) := hostAccess s (.noticeWrite r) none 1 (rgContext row) (rgSegment row)
        (rgBase row + ringSlot size w * 32) 32 (bytesLE 32 bits) false [] (rgPartition row)
      let s := setRingRun s r
        { x with written := w + 1, overflowed := false,
                 waiting := x.waiting.map fun y => if y = n && y.access.isNone then { y with access := some a } else y }
      setRow s ringCn r
        (setFld (setFld (ringRow s r) 91 76 (ringSlot size (w + 1))) 75 68 (ringTurn size (w + 1)))

/-- Read the consumed-count word of a full ring (R112). -/
def pollConsumed (s : State) (r : Nat) : State :=
  let row := ringRow s r
  let asked := s.host.accesses.any fun e => e.2.kind == .consumedRead r && !e.2.ignored
  if rgOn row && ringFull s r && !asked then
    (hostAccess s (.consumedRead r) none 0 (rgContext row) (rgSegment row) (rgConsumed row) 8 [] false []
      (rgPartition row)).2
  else s

/-- A ring is DISABLED: what waits is discarded by its owners (R109, R116, R117). -/
def disableRing (s : State) (r : Nat) : State := setF s ringCn r 255 254 0

/-- A translation fault of a ring (R116). -/
def ringFault (s : State) (r : Nat) (x : Access) : State :=
  reportFault (count64 (disableRing s r) 0x8210_03) x

/-- A read of the consumed count is over (R112, R116). -/
def finishConsumed (s : State) (a : Nat) (x : Access) (r : Nat) : State :=
  let s := closeAccess s a x
  if x.ignored then s
  else if x.status = 2 then ringFault s r x
  else if x.status = 1 then count64 s 0x8210_03
  else setRingRun s r { ringRun s r with consumed := numLE (accessData x) }

/-- A consumed-count read of an earlier enable is over: what it brought is no count of this one, and its fault or poison counts
(R112, R116). -/
def finishOldConsumed (s : State) (a : Nat) (x : Access) : State :=
  let s := closeAccess s a x
  if x.ignored || x.status = 0 then s
  else
    let s := count64 s 0x8210_03
    if x.status = 2 then reportFault s x else s

/-- A remote notice is dropped (R113); on a full ring the drop is marked. overflows saturates (log entry 75). -/
def dropRemote (s : State) (r : Nat) (full : Bool) : State :=
  let s := countDiscarded s 1
  if full then
    let s := setRingRun s r { ringRun s r with overflowed := true }
    setF s ringCn r 63 32 (min (getF s ringCn r 63 32 + 1) (2 ^ 32 - 1))
  else s

/-- Notices that wait and are not presented count toward a full ring for a remote notice. -/
def ringCrowded (s : State) (r : Nat) : Bool :=
  let x := ringRun s r
  rgSize (ringRow s r) ≤ subMod 64 x.written x.consumed + (x.waiting.filter fun n => n.access.isNone).length

/-- A NOTICE_POST is taken in its pair's order (R113): it waits to be written, or is dropped and done. -/
def performNoticePost (s : State) (a : Nat) (x : Access) (k : Packet) : State :=
  let r := handleM k
  let row := ringRow s r
  let ok := rgOn row && rgRemote row && rgLo row ≤ k.src && k.src ≤ rgHi row
  if !ok || ringCrowded s r then
    donePacket (closeAccess (dropRemote s r (ok && ringCrowded s r)) a x) k
  else
    let sent := nth 0 0 k.data + nth 0 1 k.data * 2 ^ 128
    let bits := setFld (setFld sent 239 238 2) 235 214 k.src
    queueNotice { s with host.inner := s.host.inner.filter (fun b => b != a) } r
      { bits := bits, slip := none, entry := none, post := some a, access := none }

/-- The NOTICE_POST behind a pending notice is done (R59, R72). -/
def endPost (s : State) (n : NoticePending) : State :=
  match n.post with
  | none => s
  | some a =>
    match access? s a with
    | none => s
    | some x =>
      match x.kind with
      | .pktNotice _ k => donePacket (closeAccess s a x) k
      | _ => s

/-- The pending notice an access writes, and the ring without it. -/
def takeNotice (s : State) (r a : Nat) : Option NoticePending × State :=
  let x := ringRun s r
  match x.waiting.find? fun n => n.access == some a with
  | none => (none, s)
  | some n => (some n, setRingRun s r { x with waiting := x.waiting.filter fun m => m.access != some a })

/-- A notice write has been accepted: a remote notice is performed (R72). -/
def noticePerformed (s : State) (r a : Nat) : State :=
  match (ringRun s r).waiting.find? fun n => n.access == some a with
  | some n => endPost s n
  | none => s

/-- A notice write is over: it counts, and raises attention (R114); a fault disables the ring and
discards it (R116), and one withdrawn before it was performed is discarded (R109, R117). -/
def finishNotice (s : State) (a : Nat) (x : Access) (r : Nat) : State × Option NoticePending :=
  let s := closeAccess s a x
  let (n, s) := takeNotice s r a
  let s := match n with
    | some n => endPost s n
    | none => s
  if x.ignored then (if x.performed || n.isNone then s else countDiscarded s 1, n)
  else if x.status = 2 then (countDiscarded (ringFault s r x) 1, n)
  else
    let s := count64 s 0x8210_01
    (if rgAttend (ringRow s r) then set s 0x8204_00 (setBit (get s 0x8204_00) r true) else s, n)

/-- Notices of DISABLED rings that are not presented: taken out and counted (R109). -/
def sweepRing (s : State) (r : Nat) : State × List NoticePending :=
  if rgOn (ringRow s r) then (s, [])
  else
    let x := ringRun s r
    let gone := x.waiting.filter fun n => n.access.isNone
    if gone.isEmpty then (s, [])
    else
      let s := setRingRun s r { x with waiting := x.waiting.filter fun n => n.access.isSome }
      (gone.foldl endPost (countDiscarded s gone.length), gone)

/-! ### Commands -/

def ringEnable (r : Nat) (s : State) : State × CmdOut :=
  if 256 ≤ r then (s, .done stUnsupported 0)
  else if fld (ringRow s r) 255 254 ≠ 0 then (s, .done stBusy 0)
  else
    let stage := get s 0x8201_00
    let row := setFld (setFld (setFld (setFld (setFld (setFld stage 255 254 1) 91 76 0) 75 68 1) 67 64 0) 63 32 0) 31 0 0
    let x := ringRun s r
    let s := setRow s ringCn r row
    let s := { s with host.accesses := s.host.accesses.map fun e =>
      if e.2.kind = .consumedRead r then (e.1, { e.2 with kind := .oldConsumedRead r }) else e }
    (setRingRun s r { RingRun.reset with waiting := x.waiting.filter fun n => n.access.isSome }, .done stOk 0)

def ringDisable (r : Nat) (s : State) : State × CmdOut :=
  if 256 ≤ r then (s, .done stUnsupported 0) else (disableRing s r, .done stOk 0)

def ringAttentionClear (r : Nat) (s : State) : State × CmdOut :=
  if 256 ≤ r then (s, .done stUnsupported 0)
  else (set s 0x8204_00 (setBit (get s 0x8204_00) r false), .done stOk 0)

end Sys2Proof.Machine
end

