-- ==== Sys2Proof/Machine/Slips.lean ====
section
/-! DEFINITION. The slip engine (R93 to R108, R113 to R118): trays and their slots, admission, probes,
requests, local accesses, completion and the order of notices. -/

namespace Sys2Proof.Machine

/-! ### Tray rows (Table 5.1) -/

def trayCn : Nat := 0x8100_00

def trayRow (s : State) (t : Nat) : Nat := getRow s trayCn t
/-- 0 DISABLED, 1 ENABLED, 2 STOPPING. -/
def trState (row : Nat) : Nat := fld row 255 254
def trContext (row : Nat) : Nat := fld row 253 242
def trSegment (row : Nat) : Nat := fld row 241 234
def trIssuer (row : Nat) : Nat := fld row 233 224
def trSize (row : Nat) : Nat := 16 * 2 ^ fld row 223 220
def trAhead (row : Nat) : Nat := fld row 219 216 + 1
def trBase (row : Nat) : Nat := fld row 199 164 * 64
def trNext (row : Nat) : Nat := fld row 163 148
def trTurn (row : Nat) : Nat := fld row 147 140

def trayIssuer (s : State) (t : Nat) : Nat := trIssuer (trayRow s t)

def trayPartition (s : State) (t : Nat) : Nat := issuerPartition s (trayIssuer s t)

def TrayRun.reset : TrayRun := { reading := false, returned := none, serial := 0 }

def trayRun (s : State) (t : Nat) : TrayRun := (lookupT s.slips.trays t).getD TrayRun.reset

def setTrayRun (s : State) (t : Nat) (x : TrayRun) : State :=
  { s with slips.trays := insertT s.slips.trays t x }

/-! ### Contexts (R98) -/

def trayCtxs (s : State) (t : Nat) : List SlipCtx := s.slips.ctxs.filter fun c => c.tray == t

def ctx? (s : State) (t k : Nat) : Option SlipCtx := s.slips.ctxs.find? fun c => c.tray == t && c.k == k

def updCtx (s : State) (t k : Nat) (f : SlipCtx → SlipCtx) : State :=
  { s with slips.ctxs := s.slips.ctxs.map fun c => if c.tray = t && c.k = k then f c else c }

def updReq (s : State) (t k r : Nat) (f : SlipReq → SlipReq) : State :=
  updCtx s t k fun c => { c with reqs := c.reqs.map fun q => if q.req = r then f q else q }

/-- The slips of the tray accepted before this one and not yet noticed. -/
def earlier (s : State) (c : SlipCtx) : List SlipCtx := (trayCtxs s c.tray).filter fun d => d.k < c.k

/-! ### Fetching (R96, R97) -/

/-- Read the slot of the next slip of an ENABLED tray that may hold another context. -/
def pollSlot (s : State) (t : Nat) : State :=
  let row := trayRow s t
  let run := trayRun s t
  if trState row = 1 && !run.reading && run.returned.isNone && (trayCtxs s t).length < trAhead row &&
      !silent s then
    let s := setTrayRun s t { run with reading := true }
    (hostAccess s (.slotRead t) none 0 (trContext row) (trSegment row) (trBase row + trNext row * 64) 64 []
      false [] (trayPartition s t)).2
  else s

/-- A slot read is over: what it brought waits to be taken. -/
def finishSlotRead (s : State) (a : Nat) (x : Access) (t : Nat) : State :=
  let s := closeAccess s a x
  if x.ignored then s
  else setTrayRun s t { trayRun s t with reading := false, returned := some (x.status, accessData x) }

/-- A slot read of an earlier enable is over: nothing is accepted from it, and its fault or poison counts (R96, R116). -/
def finishOldSlot (s : State) (a : Nat) (x : Access) : State :=
  let s := closeAccess s a x
  if x.ignored || x.status = 0 then s
  else
    let s := count64 s 0x8110_04
    if x.status = 2 then reportFault s x else s

/-- A new slip context. -/
def newCtx (t k slot issuer bits : Nat) : SlipCtx :=
  { tray := t, k := k, slot := slot, issuer := issuer, bits := bits, localDone := false, localRefusal := none,
    localWindows := [], probe := .notSent, retried := false, nextReq := 0, nextPos := 0, allIssued := false,
    stopped := false, staleAt := none, reqs := [], result := none, post := none, flagged := false, retired := false }

/-- Extents and shape leave the slip something to do (R100). -/
def slipMoves (b : Nat) : Bool :=
  (slLocal b).bytes != 0 && (remoteExtent b).bytes != 0 && shapeHolds b &&
    !((slUseLoan b || slRemoteNotice b) && slPull b)

/-- The check of the remote spans against a loan's landing range (R182 step 2). -/
def landingCheck (first size : Nat) : List (Nat × Nat) → Option (Nat × Nat)
  | [] => none
  | (a, n) :: spans =>
    if a < first || first + size ≤ a then some (stMiss, min a (2 ^ 42))
    else if first + size < a + n then some (stStraddle, first + size)
    else landingCheck first size spans

/-- The loan check of R182. -/
def loanCheck (s : State) (b : Nat) : ProbeState :=
  let n := slLoan b
  let row := loanRow s n
  let r := remoteExtent b
  if !(fld row 255 254 == 2 && fld row 253 252 == 0 && loanDest s n == slEndpoint b) then
    .refused stMiss r.offset
  else
    match landingCheck (fld row 137 108 * 4096) ((fld row 107 78 + 1) * 4096) r.spans with
    | some (st, off) => .refused st off
    | none => .loanOk

/-- Accept the slip in a slot (R96): a context is taken, and the tray moves on to the next slot. -/
def acceptSlip (s : State) (t bits : Nat) : State :=
  let row := trayRow s t
  let fetched := fld row 127 64
  let size := trSize row
  let run := trayRun s t
  let c := newCtx t run.serial (trNext row) (trIssuer row) bits
  let c := if slipMoves bits && slUseLoan bits then { c with probe := loanCheck s bits } else c
  let row := setFld row 163 148 ((trNext row + 1) % size)
  let row := setFld row 147 140 ((fetched + 1) / size % 255 + 1)
  let s := setRow s trayCn t (setFld row 127 64 ((fetched + 1) % 2 ^ 64))
  let s := setTrayRun s t { run with serial := run.serial + 1 }
  { s with slips.ctxs := s.slips.ctxs ++ [c] }

/-- tray_disable's waiting invocation ends once the row is DISABLED. -/
def trayOff (s : State) (t status : Nat) : State :=
  endInvocations (setF s trayCn t 255 254 0) 0x8103_00 (fun a => a == t) status

/-! ### Admission and probes (R105, R106, R38) -/

/-- A slip that waits for the admission checker. -/
def waitsAdmission (c : SlipCtx) : Bool := !c.localDone && c.result.isNone && slipMoves c.bits

/-- The tray the checker takes next, round robin (R106). -/
def admissionTurn (s : State) : Option Nat :=
  ((upFrom (s.slips.lastTray + 1) 64).map (· % 64)).find? fun t => (trayCtxs s t).any waitsAdmission

/-- Both checks of a slip have passed. -/
def admitted (c : SlipCtx) : Bool :=
  c.localDone && c.localRefusal.isNone &&
    match c.probe with
    | .granted _ => true
    | .loanOk => true
    | _ => false

/-- A slip whose admission is now complete is offered to the tensor watch (R299). -/
def offerAdmitted (s : State) (t k : Nat) : State :=
  match ctx? s t k with
  | some c => if admitted c && c.result.isNone then offerSlip s t k c.bits else s
  | none => s

/-- The checker has finished with the local extent of slip `k` of tray `t`: the first of that tray, on
its turn (R105, R106, R108). -/
def admissionDone (s : State) (t k : Nat) : State :=
  match (trayCtxs s t).find? waitsAdmission with
  | none => s
  | some c =>
    if c.k ≠ k || admissionTurn s ≠ some t then s
    else
      let s := { s with slips.lastTray := t }
      let (s, r) := admission s (slLocal c.bits).spans
        { request := false, source := ownId s, mask := if slPull c.bits then rightWrite else rightRead }
      let s := match r with
        | .pass uses => updCtx s t k fun c => { c with localDone := true, localWindows := uses }
        | .refuse status off => updCtx s t k fun c => { c with localDone := true, localRefusal := some (status, off) }
      offerAdmitted s t k

/-- A tracker entry for a slip's non-posted request. -/
def slipTracker (s : State) (t : Nat) (k : Packet) (len : Nat) (owner : TrackerOwner) : Tracker :=
  { turn := 0, partition := k.partition, edition := k.partitionEdition, dst := k.dst, issuer := k.issuer,
    context := trContext (trayRow s t), via := (viaOf s k.dst).getD 15, opcode := k.opcode,
    slotCount := k.slotCount, lastByte := k.lastByte, length := len, owner := owner, stuck := false }

/-- An issuer's requests may be sent: no earlier one waits for a full queue (R74, R193), and a tracker is
to be had under the cap of the port (R56). -/
def canSend (s : State) (issuer dst : Nat) : Bool :=
  !issuerHeld s issuer && trackersLeft s ((viaOf s dst).getD 15) 1

/-- The PROBE of a slip's remote extent (R38). -/
def probePacket (s : State) (c : SlipCtx) : Packet :=
  { requestBase s (c.issuer) (slEndpoint c.bits) with
    opcode := opProbe, slotCount := 2,
    opspec := layoutM (remoteExtent c.bits).offset 0 (if slPull c.bits then 0 else 1) false 0,
    data := [c.bits % 2 ^ 128, c.bits / 2 ^ 128 % 2 ^ 128] }

/-- Send a slip's probe, if it can be sent. -/
def sendProbe (s : State) (c : SlipCtx) : Option State :=
  let k := probePacket s c
  if !canSend s k.issuer k.dst then none
  else
    let (s, r) := sendNonPosted s k (slipTracker s c.tray k 0 (.probe c.tray c.k))
    match r with
    | .ok _ => some (updCtx s c.tray c.k fun c => { c with probe := .pending })
    | .error st => some (updCtx s c.tray c.k fun c => { c with probe := .refused st 0 })

/-- The posted HOLD_RELEASE of a hold (R39). -/
def holdRelease (s : State) (issuer endpoint hold : Nat) : Packet :=
  sealed
    { requestBase s issuer endpoint with
      opcode := opHoldRelease, opspec := layoutM 0 0 0 false hold, slotCount := 0 }

/-- It takes its turn among the requests of its issuer (R74). -/
def releaseHold (s : State) (issuer endpoint hold : Nat) : State :=
  { s with switch.waits := s.switch.waits ++ [.release issuer endpoint hold] }

/-- A probe's answer (R38). A hold given to a slip that is over is released. -/
def probeAnswered (s : State) (t k status offset hold endpoint issuer : Nat) : State :=
  match ctx? s t k with
  | some c =>
    if c.result.isNone && c.probe = .pending then
      let s := updCtx s t k fun c =>
        { c with probe := if status = stOk then .granted hold
                          else if status = stBusy then .busy
                          else .refused status offset
                 retried := c.retried || status == stBusy }
      offerAdmitted s t k
    else if status = stOk then releaseHold s issuer endpoint hold else s
  | none => if status = stOk then releaseHold s issuer endpoint hold else s

/-! ### Requests and local accesses (R101, R105) -/

/-- The use under which a slip reaches a local offset, while its window stands (R45). -/
def localUse (s : State) (c : SlipCtx) (off : Nat) : Option Nat :=
  c.localWindows.find? fun u =>
    let row := usedRow s u
    useCount s u != 0 && winBase row ≤ off && off < winBase row + winSize row

/-- One local access of a request (R72): `data` the bytes of a write. A carrel kind takes its turn among
the carrel's accesses; a window that is gone fails the request with EDITION_STALE (R105). -/
def startLocal (s : State) (c : SlipCtx) (r : Nat) (pos off n : Nat) (data : Option (List Byte))
    (poison : Bool) : State :=
  match localUse s c off with
  | none =>
    updReq (updCtx s c.tray c.k fun c => { c with stopped := true }) c.tray c.k r fun q =>
      { q with locals := q.locals - 1, status := some (q.status.getD stStale),
               localFail := some (q.localFail.getD off) }
  | some u =>
    let row := usedRow s u
    let kind : AccessKind := match data with
      | none => .slipRead c.tray c.k r pos off
      | some _ => .slipWrite c.tray c.k r pos off
    if winKind row ≠ 0 then
      let (a, s) := innerAccess s kind none [] (winPartition row)
      updAccess s a fun x => { x with data := [(0, data.getD [])] }
    else
      (hostAccess s kind none (if data.isNone then 0 else 1) (winContext row) (winSegment row)
        (winTarget row + (off - winBase row)) n (data.getD []) poison [] (winPartition row)).2

/-- Start the local accesses of a request. -/
def startLocals (s : State) (t k r : Nat) (data : Option (List Byte)) (pieces : List (Nat × Nat × Nat)) : State :=
  pieces.foldl
    (fun s e =>
      match ctx? s t k with
      | some c => startLocal s c r e.1 e.2.1 e.2.2 (data.map fun bs => (bs.drop e.1).take e.2.2) false
      | none => s) s

/-- A request has failed, or will end as POISON (R107). -/
def reqFailed (q : SlipReq) : Bool := q.poison || q.status.getD stOk != stOk

/-- The first issued request that is still to be sent: none after a failed one (R105). -/
def toSend : List SlipReq → Option SlipReq
  | [] => none
  | q :: qs => if !q.sent && q.status.isNone then some q else if reqFailed q then none else toSend qs

/-- The central switch has accepted the last request of a slip, or it is over (R108). -/
def sentOut (c : SlipCtx) : Bool := c.result.isSome || (c.allIssued || c.stopped) && (toSend c.reqs).isNone

/-- The transpose buffer holds no block but that of the slip's next request (R102). -/
def blockFree (c : SlipCtx) : Bool :=
  c.reqs.all fun q => q.status.isSome || slipBlock c.bits q.start == slipBlock c.bits c.nextPos

/-- The slip may issue its next request (R102, R105, R108). -/
def mayIssue (s : State) (c : SlipCtx) : Bool :=
  admitted c && c.result.isNone && !c.allIssued && !c.stopped && !silent s && blockFree c &&
    (earlier s c).all sentOut && (!slBarrier c.bits || (earlier s c).isEmpty)

/-- Issue the next request of a slip (R101, R105): a PUSH first reads its bytes. -/
def issueRequest (s : State) (t k : Nat) : State :=
  match ctx? s t k with
  | none => s
  | some c =>
    if !mayIssue s c then s
    else
      match slipPiece c.bits c.nextPos with
      | none => updCtx s t k fun c => { c with allIssued := true }
      | some p =>
        let r := c.nextReq
        let pieces := requestPieces c.bits p.pos p.length
        let q : SlipReq :=
          { req := r, start := c.nextPos, remote := p.remote, pos := p.pos, length := p.length,
            locals := if slPull c.bits then 0 else pieces.length, data := [], poison := false, sent := false,
            status := none, localFail := none, seq := none }
        let s := updCtx s t k fun c =>
          { c with nextReq := r + 1, nextPos := p.next, reqs := c.reqs ++ [q],
                   allIssued := (slipPiece c.bits p.next).isNone }
        if slPull c.bits then s else startLocals s t k r none pieces

/-- A request fails or ends: the slip issues nothing further after a failure (R105). A poisoned one keeps the place of
its poison (R107). -/
def endReq (s : State) (t k r status : Nat) (localFail : Option Nat) : State :=
  let s := if status = stOk then s else updCtx s t k fun c => { c with stopped := true }
  updReq s t k r fun q =>
    if q.status.isSome then q else { q with status := some status, localFail := localFail <|> q.localFail }

/-- The status of a local access's failure: a fault (R30), or a window that is gone (R105). -/
def localStatus (status : Nat) : Nat := if status = 3 then stStale else stMiss

/-- One local read has brought bytes, with 0 OK, 1 POISON, 2 FAULT, 3 withdrawn with its window. After a poisoned one
nothing more is issued (R107). -/
def localRead (s : State) (t k r pos off status : Nat) (bs : List Byte) : State :=
  match ctx? s t k with
  | none => s
  | some c =>
    if 2 ≤ status then
      endReq (updReq s t k r fun q => { q with locals := q.locals - 1 }) t k r (localStatus status) (some off)
    else
      let s := updReq s t k r fun q =>
        { q with locals := q.locals - 1, data := insertT q.data pos bs, poison := q.poison || status == 1,
                 localFail := if status = 1 && q.localFail.isNone then some off else q.localFail }
      let s := if status = 1 then updCtx s t k fun c => { c with stopped := true } else s
      match c.reqs.find? fun q => q.req == r with
      | some q => dumpCapture s t k (sourcePos c.bits (q.pos + pos)) bs
      | none => s

/-- One local write is over, with the same codes. -/
def localWrote (s : State) (t k r pos off status : Nat) : State :=
  let s := updReq s t k r fun q => { q with locals := q.locals - 1 }
  if 2 ≤ status then endReq s t k r (localStatus status) (some off)
  else
    let s := updReq s t k r fun q => { q with data := insertT q.data pos [] }
    match ctx? s t k with
    | none => s
    | some c =>
      match c.reqs.find? fun q => q.req == r with
      | some q => if q.locals = 0 then endReq s t k r stOk none else s
      | none => s

/-- A READ of a PULL has returned its bytes: they are written locally (R105), and captured (R300). -/
def pulled (s : State) (t k r : Nat) (bs : List Byte) : State :=
  match ctx? s t k with
  | none => s
  | some c =>
    match c.reqs.find? fun q => q.req == r with
    | none => s
    | some q =>
      let pieces := requestPieces c.bits q.pos q.length
      let s := updReq s t k r fun q => { q with locals := pieces.length }
      let s := dumpCapture s t k (sourcePos c.bits q.pos) bs
      startLocals s t k r (some bs) pieces

/-- The bytes of a request gathered by its local reads. -/
def reqBytes (q : SlipReq) : List Byte := (q.data.map Prod.snd).flatten

/-- The packet of a request (R101, R103). -/
def slipPacket (s : State) (c : SlipCtx) (q : SlipReq) : Packet :=
  let base := requestBase s (c.issuer) (slEndpoint c.bits)
  let count := extentCount q.remote q.length % 256
  let last := extentLast q.remote q.length
  if slPull c.bits then
    { base with opcode := opRead, opspec := layoutM q.remote 0 0 false 0, slotCount := count, lastByte := last }
  else
    { base with
      opcode := if slUseLoan c.bits then opLoanData else opWriteAck
      opspec := layoutM q.remote 0 0 false (if slUseLoan c.bits then slLoan c.bits else 0)
      slotCount := count, lastByte := last, poison := q.poison,
      vc := if slUseLoan c.bits then 4 else 0,
      data := slotsOf (q.remote % 16) (reqBytes q) }

/-- Send a LOAN_DATA by its loan's egress (R182, R179). -/
def sendLoan (n : Nat) (s : State) (k : Packet) : Sent := .queued (loanForward s n k 15 none)

/-- The loan's bucket at its origin allows a packet (R185, R191, R199). -/
def originAllows (s : State) (n : Nat) : Bool := 0 < (loanBucket s (loanEgress s n) n).tokens

/-- Send a request, if it can be sent (R56, R83, R185). -/
def sendReq (s : State) (c : SlipCtx) (q : SlipReq) : Option State :=
  let k := slipPacket s c q
  let sent (s : State) : State := updReq s c.tray c.k q.req fun x => { x with sent := true }
  if slUseLoan c.bits then
    let n := slLoan c.bits
    if issuerHeld s k.issuer || !pairReady s k.dst k.issuer (n + 1) || !originAllows s n then none
    else
      let seq := nextSeq s k.dst k.issuer
      let (s, ok) := sendCounted s k (n + 1) (loanEgress s n) (sendLoan n)
      let s := chargeLoan (sent s) (loanEgress s n) n (sizeOf k)
      let s := updReq s c.tray c.k q.req fun x => { x with seq := some seq }
      some (if ok then s else endReq s c.tray c.k q.req stLinkLost none)
  else if !canSend s k.issuer k.dst then none
  else
    let (s, r) := sendNonPosted s k (slipTracker s c.tray k q.length (.slip c.tray c.k q.req))
    let s := sent s
    match r with
    | .ok _ => some s
    | .error st => some (endReq s c.tray c.k q.req st none)

/-- Whether the slip's next request is to be presented: its bytes are gathered, and every earlier slip of the tray has
sent its requests (R105, R108). -/
def sendable (s : State) (c : SlipCtx) (q : SlipReq) : Bool :=
  q.locals == 0 && c.result.isNone && !silent s && (earlier s c).all sentOut

/-- A COMMIT_ACK covers a sequence of a pair (R58), or the pair was abandoned: OK, LINK_LOST, or not yet. -/
def covered (s : State) (dst issuer seq : Nat) : Option Nat :=
  match pairOf s dst issuer with
  | none => some stOk
  | some e =>
    if subMod 16 e.lastAcked seq < 32768 then (if e.quarantined then some stLinkLost else some stOk) else none

/-- Requests carried as LOAN_DATA end when they are covered (R103). A slip that has sent none yet goes on after a flush (R185;
log entry 76). -/
def coverReqs (s : State) (c : SlipCtx) : State :=
  c.reqs.foldl
    (fun s q =>
      match q.seq with
      | some seq =>
        if q.status.isSome then s
        else
          match covered s (slEndpoint c.bits) (c.issuer) seq with
          | some st => endReq s c.tray c.k q.req st none
          | none => s
      | none => s) s

/-! ### Completion (R107) -/

/-- The status a request has completed with, in R107's sense: a poisoned one that was sent completes POISON. -/
def reqStatus (q : SlipReq) : Option Nat := if q.poison && q.sent && q.status.isSome then some stPoison else q.status

/-- The bytes of the unbroken leading run that completed with OK, and the request that ends it. -/
def leadingRun : List SlipReq → Nat × Option SlipReq
  | [] => (0, none)
  | q :: qs =>
    if reqStatus q = some stOk then
      let (n, f) := leadingRun qs
      (n + q.length, f)
    else (0, some q)

/-- The result of R107 once every issued request has completed; a slip whose local window is gone is stale at the first
local access not made (R105). -/
def runResult (c : SlipCtx) : SlipResult :=
  let (n, f) := leadingRun c.reqs
  match f with
  | none =>
    match c.staleAt with
    | some off => { status := stStale, offset := off, bytes := n, side := 0 }
    | none => { status := stOk, offset := 0, bytes := n, side := 0 }
  | some q =>
    let st := (reqStatus q).getD stStale
    { status := st, bytes := n, side := if q.localFail.isSome then 0 else 1
      offset := if st = stStale && q.localFail.isSome then c.staleAt.getD (q.localFail.getD 0)
                else q.localFail.getD q.remote }

/-- Every issued request of the slip has completed, its local accesses with it, and none is to come (R105, R91). -/
def slipDone (c : SlipCtx) : Bool :=
  (c.allIssued || c.stopped) && (toSend c.reqs).isNone &&
    c.reqs.all fun q => q.locals == 0 && (!q.sent || q.status.isSome)

/-- The result a slip may complete with now (R105). -/
def slipOutcome (c : SlipCtx) : Option SlipResult :=
  let none0 (st : Nat) : SlipResult := { status := st, offset := 0, bytes := 0, side := 0 }
  if (slLocal c.bits).bytes = 0 || (remoteExtent c.bits).bytes = 0 then some (none0 stEmpty)
  else if !slipMoves c.bits then some (none0 stMalformed)
  else if !c.localDone then none
  else
    match c.localRefusal, c.probe with
    | some _, .pending => none
    | some (st, off), _ => some { status := st, offset := off, bytes := 0, side := 0 }
    | none, .refused st off => some { status := st, offset := off, bytes := 0, side := 1 }
    | none, .granted _ => if slipDone c then some (runResult c) else none
    | none, .loanOk => if slipDone c then some (runResult c) else none
    | none, _ => none

/-- Local accesses of a slip that are still under way. -/
def slipAccesses (s : State) (t k : Nat) : List Nat :=
  keysT (s.host.accesses.filter fun e =>
    match e.2.kind with
    | .slipRead t' k' _ _ _ => t' == t && k' == k
    | .slipWrite t' k' _ _ _ => t' == t && k' == k
    | _ => false)

/-- The local extent's uses end with the slip's last local access (R105): while some are still under way, one of them
holds the uses, and hands them on (`passUses`). -/
def endLocalUses (s : State) (c : SlipCtx) : State :=
  match slipAccesses s c.tray c.k with
  | [] => endUses s c.localWindows
  | a :: _ => updAccess s a fun x => { x with windows := x.windows ++ c.localWindows }

/-- A local access `a` of a slip that is over gives the uses it holds to another that is still under way. -/
def passUses (s : State) (a : Nat) (x : Access) (t k : Nat) : State × Access :=
  match (slipAccesses s t k).filter fun b => b != a with
  | [] => (s, x)
  | b :: _ => (updAccess s b fun y => { y with windows := y.windows ++ x.windows }, { x with windows := [] })

/-- The local access at place `pos` of request `r` of a slip has been performed, and has not completed (R72). -/
def localPerformed (s : State) (c : SlipCtx) (r pos : Nat) : Bool :=
  s.host.accesses.any fun e =>
    e.2.performed &&
      match e.2.kind with
      | .slipRead t k r' pos' _ => t == c.tray && k == c.k && r' == r && pos' == pos
      | .slipWrite t k r' pos' _ => t == c.tray && k == c.k && r' == r && pos' == pos
      | _ => false

/-- The local accesses of a request are all made, and a PULL's are not still to come. -/
def localsMade (s : State) (c : SlipCtx) (q : SlipReq) : Bool :=
  let waits := (s.host.accesses.any fun e =>
    !e.2.performed &&
      match e.2.kind with
      | .slipRead t k r _ _ => t == c.tray && k == c.k && r == q.req
      | .slipWrite t k r _ _ => t == c.tray && k == c.k && r == q.req
      | _ => false)
  !waits && (!slPull c.bits || !q.sent || q.status.isSome || 0 < q.locals)

/-- Every local access of an admitted slip is made: the last has been performed (R72, R105). -/
def localsOver (s : State) (c : SlipCtx) : Bool :=
  (c.allIssued || c.stopped) && c.reqs.all fun q => localsMade s c q

/-- The uses of a slip whose last local access is made end (R105). -/
def endUsesEarly (s : State) (c : SlipCtx) : State :=
  if admitted c && localsOver s c && !c.localWindows.isEmpty then
    endUses (updCtx s c.tray c.k fun c => { c with localWindows := [] }) c.localWindows
  else s

/-- The first local access not made of the requests `qs`, by its local offset. -/
def firstUnmade (s : State) (c : SlipCtx) : List SlipReq → Option Nat
  | [] => none
  | q :: qs =>
    ((requestPieces c.bits q.pos q.length).findSome? fun e =>
        if (lookupT q.data e.1).isNone && !localPerformed s c q.req e.1 then some e.2.1 else none) <|>
      firstUnmade s c qs

/-- The local offset of the slip's first local access not yet made. -/
def nextUnmade (s : State) (c : SlipCtx) : Option Nat :=
  firstUnmade s c c.reqs <|>
    match slipPiece c.bits c.nextPos with
    | some p => ((requestPieces c.bits p.pos p.length).head?).map fun e => e.2.1
    | none => none

/-- A window the slip's local extent was admitted in has become FREE before its last local access: it issues nothing
further (R45, R105). -/
def staleSlip (s : State) (c : SlipCtx) : State :=
  if c.result.isNone && c.staleAt.isNone && admitted c && c.localWindows.any (fun u => useCount s u == 0) then
    updCtx s c.tray c.k fun c => { c with stopped := true, staleAt := nextUnmade s c }
  else s

/-- A slip completes with a result (R105, R107): it is counted (Table 5.2), its hold is released, and what the status
raises is raised. The notice follows in its turn. -/
def completeSlip (s : State) (c : SlipCtx) (r : SlipResult) : State :=
  let s := count64 s 0x8110_01
  let s := if r.status = stMalformed then count64 s 0x8110_03 else s
  let s := match c.probe with
    | .granted h => if silent s then s else releaseHold s c.issuer (slEndpoint c.bits) h
    | _ => s
  let s := endLocalUses s c
  let flags := r.status = stLinkLost || r.status = stTimeout && !slUseLoan c.bits
  let s := if flags then setLost s (c.issuer) true else s
  let s := dumpEnd s c.tray c.k c.bits c.slot r.status
  updCtx s c.tray c.k fun c =>
    { c with result := some r, probe := .refused r.status 0, localWindows := [], stopped := true, flagged := flags }

/-- A slip that is refused by local admission or by a probe (`8110.02`). -/
def slipRefused (c : SlipCtx) : Bool :=
  slipMoves c.bits &&
    (c.localRefusal.isSome ||
      match c.probe with
      | .refused st _ => st != stTimeout && st != stLinkLost
      | _ => false)

/-- SLIP_COMPLETE: the slip completes when it may (R107). -/
def slipCompletes (s : State) (t k : Nat) : State :=
  match ctx? s t k with
  | none => s
  | some c =>
    if c.result.isSome then s
    else
      match slipOutcome c with
      | none => s
      | some r => completeSlip (if slipRefused c then count64 s 0x8110_02 else s) c r

/-- The slip's result is final: no post is owed (R113). -/
def resultFinal (c : SlipCtx) (r : SlipResult) : Bool := r.status != stOk || !slRemoteNotice c.bits

/-- Complete a slip with a status at once, whatever it is doing, its remote notice too (R95, R113, R117, R48). -/
def forceSlip (s : State) (c : SlipCtx) (status : Nat) : State :=
  match c.result with
  | some r =>
    if resultFinal c r then s
    else updCtx s c.tray c.k fun c => { c with post := none, result := some { r with status := status } }
  | none =>
    completeSlip s c { status := status, offset := 0, bytes := (leadingRun c.reqs).1, side := 0 }

/-- Accept the slip in a slot: while the issuer's partition is down it ends at once (R315). -/
def acceptServed (s : State) (t bits : Nat) : State :=
  let u := acceptSlip s t bits
  if partitionDown s (trayPartition s t) then
    match ctx? u t (trayRun s t).serial with
    | some c => forceSlip u c stStale
    | none => u
  else u

/-- Take what a slot read brought (R96, R116). -/
def takeSlot (s : State) (t : Nat) : State :=
  match (trayRun s t).returned with
  | none => s
  | some (status, bs) =>
    let row := trayRow s t
    let s := setTrayRun s t { trayRun s t with reading := false, returned := none }
    if status = 2 then
      let s := reportFaultAt (count64 s 0x8110_04) (trayPartition s t) (trContext row)
      if trState row = 0 then s else trayOff s t stOk
    else if status = 1 then count64 s 0x8110_04
    else if trState row ≠ 1 || silent s then s
    else
      let bits := numLE (bs.take 64)
      if slTurn bits = trTurn row then acceptServed s t bits else s

/-! ### Notices in tray order (R108, R113, R115) -/

/-- A slip's place is given up (R98). A notice that was written clears the lost flag the slip set (R107). -/
def freeCtx (s : State) (c : SlipCtx) (wrote : Bool) : State :=
  let s := { s with slips.ctxs := s.slips.ctxs.filter fun d => !(d.tray == c.tray && d.k == c.k) }
  let s := if wrote && c.flagged then setLost s (c.issuer) false else s
  setF s trayCn c.tray 63 0 (getF s trayCn c.tray 63 0 + 1)

/-- The NOTICE_POST of a slip (R113). -/
def postPacket (s : State) (c : SlipCtx) (r : SlipResult) : Packet :=
  let bits := setFld (noticeBits stOk 0 0 (c.tray * 2 ^ 16 + c.slot) 0 r.bytes (slTag c.bits) (slStep c.bits)) 63 0 (now s)
  { requestBase s (c.issuer) (slEndpoint c.bits) with
    opcode := opNoticePost, opspec := layoutM 0 0 0 false (slRemoteRing c.bits), slotCount := 2,
    data := [bits % 2 ^ 128, bits / 2 ^ 128] }

/-- The result of a remote notice that failed (R113). -/
def postFailed (s : State) (c : SlipCtx) (status : Nat) : State :=
  let s := setLost s (c.issuer) true
  updCtx s c.tray c.k fun c =>
    { c with post := none, flagged := true
             result := c.result.map fun r => { r with status := status, offset := 0 } }

/-- A completed slip whose NOTICE_POST is covered goes on (R113). -/
def postCovered (s : State) (c : SlipCtx) (seq : Nat) : State :=
  match covered s (slEndpoint c.bits) (c.issuer) seq with
  | none => s
  | some st =>
    if st = stOk then updCtx s c.tray c.k fun c => { c with post := none, bits := setBit c.bits 495 false }
    else postFailed s c st

/-- Send a completed slip's NOTICE_POST, if it can be sent (R113). -/
def sendPost (s : State) (c : SlipCtx) (r : SlipResult) : Option State :=
  let dst := slEndpoint c.bits
  let issuer := c.issuer
  if issuerHeld s issuer || !pairReady s dst issuer 0 then none
  else
    let seq := nextSeq s dst issuer
    let (s, ok) := sendCounted s (postPacket s c r) 0 ((viaOf s dst).getD 15) (fun s k => send s k none)
    some (if ok then updCtx s c.tray c.k fun c => { c with post := some seq } else postFailed s c stLinkLost)

/-- The slip ends with no notice (R115). -/
def needsNone (c : SlipCtx) (r : SlipResult) : Bool := (r.status = stOk || r.status = stEmpty) && !slNoticeOk c.bits

/-- Its notice joins its ring, or is discarded (R109). -/
def noticeSlip (s : State) (c : SlipCtx) (r : SlipResult) : State :=
  let ring := slNoticeRing c.bits
  if !rgOn (ringRow s ring) then freeCtx (countDiscarded s 1) c false
  else
    let bits := noticeBits r.status 0 r.side (c.tray * 2 ^ 16 + c.slot) r.offset r.bytes (slTag c.bits) (slStep c.bits)
    let s := queueNotice s ring { bits := bits, slip := some (c.tray, c.k), entry := none, post := none, access := none }
    updCtx s c.tray c.k fun c => { c with retired := true }

/-- A slip that is over and needs no notice gives up its context as it completes (R98, R115). -/
def freeQuiet (s : State) (t : Nat) : State :=
  (trayCtxs s t).foldl
    (fun s c =>
      match c.result with
      | some r => if resultFinal c r && needsNone c r then freeCtx s c false else s
      | none => s) s

/-- The slips of a tray that are over go on toward their notices, in tray order (R108). -/
def pumpNotice (s : State) (t : Nat) : State :=
  let s := freeQuiet s t
  match trayCtxs s t with
  | [] => s
  | c :: _ =>
    match c.result with
    | none => s
    | some r => if c.retired || !resultFinal c r then s else noticeSlip s c r

/-- The slip a notice belonged to has been noticed; `wrote` is false where the notice was discarded. -/
def noticed (s : State) (t k : Nat) (wrote : Bool) : State :=
  match ctx? s t k with
  | none => s
  | some c =>
    match c.result with
    | some _ => freeCtx s c wrote
    | none => s

/-! ### What settles by itself -/

/-- A request is presented to the central switch, once (R74). -/
def present (s : State) (w : SlipWait) : State :=
  if s.switch.waits.contains (.slip w) then s else { s with switch.waits := s.switch.waits ++ [.slip w] }

/-- The slip's probe is to be sent. -/
def wantsProbe (s : State) (c : SlipCtx) : Bool :=
  c.result.isNone && c.probe == .notSent && slipMoves c.bits && !silent s

/-- The slip's NOTICE_POST is to be sent. -/
def wantsPost (s : State) (c : SlipCtx) : Bool :=
  c.post.isNone && !silent s &&
    match c.result with
    | some r => !resultFinal c r
    | none => false

/-- What a slip presents now. -/
def wanted (s : State) (c : SlipCtx) : List SlipItem :=
  (if wantsProbe s c then [.probe] else []) ++
    (match toSend c.reqs with
     | some q => if sendable s c q then [.request q.req] else []
     | none => []) ++
    (if wantsPost s c then [.post] else [])

/-- A slip's presented request is accepted, or withdrawn where the slip no longer wants it; none where it must wait
(R56, R74, R83). -/
def slipStep (s : State) (w : SlipWait) : Option State :=
  match ctx? s w.tray w.k with
  | none => some s
  | some c =>
    if !(wanted s c).contains w.item then some s
    else
      match w.item with
      | .probe => sendProbe s c
      | .request _ =>
        match toSend c.reqs with
        | some q => sendReq s c q
        | none => some s
      | .post =>
        match c.result with
        | some r => sendPost s c r
        | none => some s

/-- One pass over a slip: its windows, its acknowledgements, its post, and what it presents. -/
def pumpSlip (s : State) (t k : Nat) : State :=
  match ctx? s t k with
  | none => s
  | some c =>
    let s := coverReqs (endUsesEarly (staleSlip s c) c) c
    let s := match c.post with
      | some seq => postCovered s c seq
      | none => s
    match ctx? s t k with
    | some c => (wanted s c).foldl (fun s i => present s { tray := t, k := k, item := i }) s
    | none => s

/-- One pass over every slip and tray. -/
def pumpSlips (s : State) : State :=
  let keys := s.slips.ctxs.map fun c => (c.tray, c.k)
  let s := keys.foldl (fun s e => pumpSlip s e.1 e.2) s
  (keys.map Prod.fst).foldl pumpNotice s

/-! ### Commands and expiries -/

def trayEnable (t : Nat) (s : State) : State × CmdOut :=
  if 64 ≤ t then (s, .done stUnsupported 0)
  else if trState (trayRow s t) ≠ 0 then (s, .done stBusy 0)
  else
    let row := setFld (get s 0x8101_00) 255 254 1
    let row := setFld (setFld (setFld (setFld (setFld row 163 148 0) 147 140 1) 139 128 0) 127 64 0) 63 0 0
    let s := { s with host.accesses := s.host.accesses.map fun e =>
      if e.2.kind = .slotRead t then (e.1, { e.2 with kind := .oldSlotRead t }) else e }
    (setTrayRun (setRow s trayCn t row) t { TrayRun.reset with serial := (trayRun s t).serial }, .done stOk 0)

/-- A STOPPING tray with no slip left becomes DISABLED, and its disable returns OK (R95). -/
def trayDrained (s : State) (t : Nat) : State :=
  if trState (trayRow s t) = 2 && (trayCtxs s t).isEmpty then trayOff s t stOk else s

def trayDisable (t : Nat) (s : State) : State × CmdOut :=
  if 64 ≤ t then (s, .done stUnsupported 0)
  else if trState (trayRow s t) = 0 then (s, .done stOk 0)
  else
    let s := setF s trayCn t 255 254 2
    let s := ((trayCtxs s t).filter fun c => c.reqs.isEmpty).foldl (fun s c => forceSlip s c stAborted) s
    if (trayCtxs s t).isEmpty then (setF s trayCn t 255 254 0, .done stOk 0) else (s, .waits)

def trayDrainLimit (s : State) (t : Nat) : State := endInvocations s 0x8103_00 (fun a => a == t) stTimeout

/-- A probe answered BUSY is sent again (R38). -/
def probeRetry (s : State) (t k : Nat) : State :=
  match ctx? s t k with
  | some c => if c.probe = .busy && c.result.isNone then updCtx s t k fun c => { c with probe := .notSent } else s
  | none => s

/-- probe_retry_limit passed since the probe was first answered BUSY (R38): the slip completes with TIMEOUT, with side remote and
offset 0 (log entry 25). -/
def probeLimit (s : State) (t k : Nat) : State :=
  match ctx? s t k with
  | some c =>
    if c.retried && (c.probe = .busy || c.probe = .notSent || c.probe = .pending) && c.result.isNone then
      updCtx s t k fun c => { c with probe := .refused stTimeout 0 }
    else s
  | none => s

/-- request_timeout passed after a remote notice's post was sent (R113). -/
def postTimeout (s : State) (t k : Nat) : State :=
  match ctx? s t k with
  | some c => if c.post.isSome then postFailed s c stTimeout else s
  | none => s

/-- Every tray that `p` picks becomes DISABLED without drain, its slips completing with a status (R117), those of a tray
that a fault has DISABLED too (R116). -/
def stopTrays (s : State) (p : Nat → Bool) (status : Nat) : State :=
  ((upFrom 0 64).filter p).foldl
    (fun s t =>
      let s := if trState (trayRow s t) = 0 then s else trayOff s t stOk
      (trayCtxs s t).foldl (fun s c => forceSlip s c status) s) s

end Sys2Proof.Machine
end

