-- ==== Sys2Proof/Machine/Holds.lean ====
section
/-! DEFINITION. Probes and holds at the destination (R38 to R40), and NOTICE_POST arriving (R113). -/

namespace Sys2Proof.Machine

def holdCount : Nat := 4096

/-- A free hold, searched from a free value (R38: which number is not stated). -/
def pickHold (s : State) (start : Nat) : Option Nat :=
  ((upFrom 0 (min (s.switch.holds.length + 1) holdCount)).map fun i => (start + i) % holdCount).find?
    fun h => (lookupT s.switch.holds h).isNone

/-- The right a probe asks for: READ or WRITE (R38). -/
def probeRight (k : Packet) : Nat := if subM k = 0 then rightRead else rightWrite

/-- An admitted probe is given a hold, or finds none (R38). -/
def holdGiven (s : State) (p : Nat) (k : Packet) (spans : List (Nat × Nat)) (uses : List Nat) : State :=
  let (n, s) := draw s
  match pickHold s (Config.freeChoice n) with
  | none => sendResponse (endUses s uses) p (statusRspFor s p k stBusy 0)
  | some h =>
    let s := { s with switch.holds := insertT s.switch.holds h { src := k.src, windows := uses, right := probeRight k, spans := spans } }
    sendResponse s p (respond s p k opProbeRsp (layoutS stOk 0 h) 0 15 false [])

/-- What a probe's admission answered decides its response (R38). -/
def probeDecided (p : Nat) (k : Packet) (spans : List (Nat × Nat)) (r : State × Admitted) : State :=
  match r with
  | (s, .refuse status off) => sendResponse s p (statusRspFor s p k status off)
  | (s, .pass uses) => holdGiven s p k spans uses

/-- A probe is admitted with its source as source, and given a hold (R38). -/
def probeAdmitted (s : State) (p : Nat) (k : Packet) : State :=
  let e := remoteExtent (nth 0 0 k.data + nth 0 1 k.data * 2 ^ 128)
  probeDecided p k e.spans (admission s e.spans { request := false, source := k.src, mask := probeRight k })

/-- The PROBEs that wait for the checker are admitted in arrival order (R106). -/
def serveProbes (s : State) : State :=
  s.slips.probes.foldl (fun s e => probeAdmitted s e.1 e.2) { s with slips.probes := [] }

/-- They are, once no tray's extent stands before them. -/
def pumpProbes (s : State) : State := if (admissionTurn s).isNone then serveProbes s else s

/-- A PROBE takes its place before the checker (R106): it waits while a tray's extent is being checked. -/
def probeArrives (s : State) (p : Nat) (k : Packet) : State :=
  pumpProbes { s with slips.probes := s.slips.probes ++ [(p, k)] }

/-- The checker has finished a tray's extent: the PROBEs that waited go before the next tray's (R106). -/
def checkerFreed (s : State) (t k : Nat) : State :=
  let u := admissionDone s t k
  if (ctx? u t k).any (fun c => c.localDone) && !(ctx? s t k).any (fun c => c.localDone) then serveProbes u else u

/-- A hold ends (R39). -/
def endHold (s : State) (h : Nat) : State :=
  match lookupT s.switch.holds h with
  | some x => endUses { s with switch.holds := eraseT s.switch.holds h } x.windows
  | none => s

/-- HOLD_RELEASE: the hold's owner ends it (R39, Table 3.4); any other is refused. -/
def holdReleased (s : State) (p : Nat) (k : Packet) : State :=
  match lookupT s.switch.holds (handleM k) with
  | some x => if x.src = k.src then endHold s (handleM k) else postedRefusal s p
  | none => postedRefusal s p

/-- NOTICE_POST takes its place in its source's order (R75, R113). -/
def noticePostArrives (s : State) (p : Nat) (k : Packet) : State :=
  (innerAccess s (.pktNotice p k) (some (pairKey k)) [] 16).2

end Sys2Proof.Machine
end

