-- ==== Sys2Proof/Machine/Mirror.lean ====
section
/-! DEFINITION. Counterpart mirroring: acknowledgements, the received image, and the restore
(15 R328 to R336). -/

namespace Sys2Proof.Machine

/-! ### Slot 0 of an update or an acknowledgement (Table 15.3) -/

def mirrorSlot (k : Packet) : Nat := nth 0 0 k.data

def muSeq (k : Packet) : Nat := fld (mirrorSlot k) 127 96
def muKind (k : Packet) : Nat := fld (mirrorSlot k) 95 92
def muCn (k : Packet) : Nat := fld (mirrorSlot k) 87 64
def muRow (k : Packet) : Nat := fld (mirrorSlot k) 63 32
def muCount (k : Packet) : Nat := fld (mirrorSlot k) 31 16 + 1
def muBytes (k : Packet) : Nat := fld (mirrorSlot k) 15 4

def muData (k : Packet) : List Byte := ((dataBytes k).drop 16).take (muBytes k)

/-- R63 step 4 for an update: no reserved kind, and the slots its data needs (R53, Table 15.3). -/
def mirrorRules (k : Packet) : Bool :=
  muKind k ≤ 6 && muBytes k ≤ updateMax && slotN k == 1 + (muBytes k + 15) / 16

/-! ### Ends of a restore and of a commit's wait (R335, R336) -/

def restoreCn : Nat := 0xB020_00

/-- counterpart_restore ends: its RESTORE record, its packets and its invocation (R336). -/
def endRestore (s : State) (status result : Nat) : State :=
  match s.mirror.restore with
  | none => s
  | some r =>
    let s := { s with
      mirror.restore := none
      mirror.buffer := s.mirror.buffer.filter (fun u => u.edition.isNone)
      mirror.jobs := s.mirror.jobs.filter (fun j => j.edition.isNone) }
    let rq := ((runningInvocation s restoreCn 0).map (·.rq)).getD { cls := .block, ident := 0, port := 0 }
    let s := logRequested s 0x13 status rq (r.endpoint * 2 ^ 282 + result % 2 ^ 32 * 2 ^ 250)
    endInvocation s restoreCn 0 status result

/-- The response to a commit that waits is sent (R335). -/
def endCommitWait (s : State) : State :=
  match s.mirror.commitWait with
  | none => s
  | some c =>
    { s with mirror.commitWait := none, mgmt.finished := s.mgmt.finished ++ [(c.msg, stOk, 0)] }

/-! ### The sending direction (Table 15.1, R330, R331) -/

/-- Updates have been sent that no acknowledgement covers. -/
def mirrorUnacked (s : State) : Bool :=
  get s 0xB001_01 != get s 0xB001_02 || !s.mirror.buffer.isEmpty

/-- Sequence `q` lies at or before `seq`, counted from the latest acknowledged `acked` (R58, R330). -/
def seqCovers (acked seq q : Nat) : Bool := subMod 32 q acked ≤ subMod 32 seq acked

/-- A MIRROR_ACK covers updates (R330): the buffer lets them go, and what waited for them goes on. -/
def ackCovers (s : State) (seq : Nat) : State :=
  let acked := get s 0xB001_02
  if subMod 32 seq acked = 0 || subMod 32 (get s 0xB001_01) acked < subMod 32 seq acked then s
  else
    let s := { s with mirror.buffer := s.mirror.buffer.filter fun u => !seqCovers acked seq u.seq }
    let s := set s 0xB001_02 seq
    let s :=
      match s.mirror.snapshotEnd with
      | some e => if pairing s = 1 && seqCovers acked seq e then setPairing s 2 else s
      | none => s
    match s.mirror.commitWait with
    | some c => if c.seq.any (seqCovers acked seq) then endCommitWait s else s
    | none => s

/-- A MIRROR_ACK from the counterpart, or from the endpoint of a running restore (R330). One that arrives
while the direction is LOST, or asks for a snapshot, starts one (Table 15.1). -/
def mirrorAckArrives (s : State) (k : Packet) : State :=
  let slot := mirrorSlot k
  let restoring := s.mirror.restore.any fun r => r.endpoint == k.src
  let paired := mirroring s && k.src == counterpart s
  if !restoring && !paired then s
  else
    let s := ackCovers s (fld slot 127 96)
    let s := if restoring && bit slot 90 then endRestore s stEmpty 0 else s
    let s :=
      if paired && (pairing s = 3 || (bit slot 91 && (pairing s = 1 || pairing s = 2))) then
        setPairing s 1
      else s
    mirrorPump pumpFuel s

/-- mirror_resend passed with nothing new covered (R331): the unacknowledged updates go again in order, ahead of new ones
and as the mirror bucket allows (R332); in RESYNC a new snapshot starts. -/
def mirrorResends (s : State) : State :=
  if !mirrorUnacked s then s
  else
    let again := s.mirror.buffer.map fun u => { work := .resend u.seq, snap := false, edition := u.edition : MirrorJob }
    let rest := s.mirror.jobs.filter fun j =>
      match j.work with
      | .resend _ => false
      | _ => true
    let s := { s with mirror.jobs := again ++ rest }
    mirrorPump pumpFuel (if pairing s = 1 then setPairing s 1 else s)

/-- mirror_lost_limit passed: with updates unacknowledged the direction is LOST, and from LOST a new
snapshot starts (Table 15.1). -/
def mirrorLost (s : State) : State :=
  if pairing s = 3 then mirrorPump pumpFuel (setPairing s 1)
  else if (pairing s = 1 || pairing s = 2) && mirrorUnacked s then setPairing s 3
  else s

/-! ### The image (R330, R331, R333) -/

def appliedSeq (s : State) : Nat := get s 0xB001_03

/-- Every row of an object returns to its default. -/
def clearTable (s : State) (cn : Nat) : State :=
  { s with cat := s.cat.filter fun e => e.1 / 2 ^ 32 != cn }

def putRows (s : State) (cn : Nat) : Nat → List Nat → State
  | _, [] => s
  | r, v :: vs => putRows (setRow s cn r v) cn (r + 1) vs

/-- The image and its state are gone (R333, Table 16.5). -/
def clearImage (s : State) : State :=
  let s := forEach (upFrom 0xB010 9) (fun s i => clearTable s (i * 256)) s
  forEach [0xB002_00, 0xB002_01, 0xB002_02, 0xB002_03] (fun s cn => clearTable s cn) s

/-- The image table of a mirrored table, and the table a restore writes (Table 15.2). -/
def imageTable (cn : Nat) : Option Nat :=
  (findAt (fun c => c == cn) [0x4100_00, 0x4101_00, 0x4102_00, 0x5300_00, 0x5100_00, 0x6400_00] 0).map
    fun e => (0xB010 + e.1) * 256

def restoreTable (cn : Nat) : Nat :=
  if cn = 0x5100_00 then 0xB021_00 else if cn = 0x6400_00 then 0xB022_00 else cn

/-- Rows cut from an update's data. -/
def rowValues (width : Nat) : Nat → List Byte → List Nat
  | 0, _ => []
  | n + 1, bs => numLE (bs.take width) :: rowValues width n (bs.drop width)

/-- A ROWS update names whole rows of a mirrored table that exist (R330). -/
def rowsFit (s : State) (k : Packet) : Bool :=
  (imageTable (muCn k)).isSome && muBytes k == muCount k * mirrorWidth (muCn k) &&
    (match findObj s.part (muCn k) with
     | some o => muRow k + muCount k ≤ o.type.rows
     | none => false)

/-- A row of image_values for an object: its own, or the first free one. -/
def imageValueRow (s : State) (cn : Nat) : Option Nat :=
  (upFrom 0 1024).find? fun r =>
    let v := getRow s 0xB016_00 r
    fld v 231 224 == 0 || fld v 255 232 == cn

/-- Add a record to the audit tail, oldest first, at most 4,096 of them (R333). -/
def tailAdd (s : State) (v : Nat) : State :=
  let held := (rowsOf s 0xB017_00).map (·.2)
  let newest := (held.getLast?.map fun r => fld r 511 448)
  if newest.any fun n => fld v 511 448 ≤ n then s
  else
    let s :=
      if held.length < 4096 then setRow s 0xB017_00 held.length v
      else putRows s 0xB017_00 0 (held.drop 1 ++ [v])
    if fld v 335 328 = 0x12 then set s 0xB018_00 v else s

/-- Apply an update's content to the image. -/
def imageApply (s : State) (k : Packet) : State :=
  match muKind k with
  | 0 =>
    (match imageValueRow s (muCn k) with
     | some r =>
       setRow s 0xB016_00 r (muCn k * 2 ^ 232 + min (muBytes k) 16 * 2 ^ 224 + numLE ((muData k).take 16))
     | none => s)
  | 1 =>
    (match imageTable (muCn k) with
     | some cn => putRows s cn (muRow k) (rowValues (mirrorWidth (muCn k)) (muCount k) (muData k))
     | none => s)
  | 2 => (rowValues 64 (muCount k) (muData k)).foldl tailAdd s
  | 3 =>
    let s := clearImage s
    set (set (set s 0xB002_00 1) 0xB002_01 k.src) 0xB002_02 k.srcEdition
  | 4 => set s 0xB002_00 2
  | _ => s

/-- The MIRROR_ACK of what a stream has applied. A receiver with no image asks for a snapshot (Table 15.1;
log entry 40). -/
def mirrorAckPacket (s : State) (dst edition seq : Nat) (noImage : Bool) : Packet :=
  sealed
    { blankPacket with
      dst := dst, dstEdition := edition, src := ownId s, srcEdition := ownEdition s,
      opcode := opMirrorAck, slotCount := 1, vc := 5
      data := [seq % 2 ^ 32 * 2 ^ 96 + b2n (get s 0xB002_00 = 0 && !noImage && s.mirror.restore.isNone) * 2 ^ 91 +
        b2n noImage * 2 ^ 90] }

/-- Acknowledge to the counterpart (R334). -/
def ackMirror (s : State) : State :=
  sendLoose s (mirrorAckPacket s (counterpart s) (get s 0xB000_02) (appliedSeq s) false)

/-- An update discarded under R330. -/
def mirrorRefused (s : State) : State := count64 s 0xB001_06

/-- An update that this unit can apply has a content that fits its kind. -/
def updateFits (s : State) (k : Packet) : Bool :=
  match muKind k with
  | 0 => muBytes k != 0
  | 1 => rowsFit s k
  | 2 => muCount k ≤ 63 && muBytes k == 64 * muCount k
  | _ => true

/-- An update of the counterpart's own state (R330). -/
def mirrorApplies (s : State) (k : Packet) : State :=
  let last := appliedSeq s
  if muKind k = 6 || !updateFits s k then mirrorRefused s
  else if muKind k = 3 || muSeq k = (last + 1) % 2 ^ 32 then
    let s := set (imageApply s k) 0xB001_03 (muSeq k)
    ackMirror (set s 0xB002_03 (now s))
  else ackMirror s

/-! ### The counterpart's side of a restore (R336 step 3) -/

/-- The image as updates of Table 15.2. -/
def imageWork (s : State) : List MirrorWork :=
  [.start true] ++
    ((rowsOf s 0xB016_00).filter fun e => fld e.2 231 224 != 0).map (fun e => .imageValue e.1) ++
    [.rows 0x4100_00 0xB010_00 0 65536, .rows 0x4101_00 0xB011_00 0 4096,
     .rows 0x4102_00 0xB012_00 0 256, .rows 0x5300_00 0xB013_00 0 4096] ++
    [.live 0x5100_00 0xB014_00 0, .live 0x6400_00 0xB015_00 0, .finish]

/-- RESTORE_REQUEST from the counterpart: its updates go before all others, numbered on without a gap. -/
def restoreRequested (s : State) (k : Packet) : State :=
  if k.src ≠ get s 0xB002_01 || newer 8 (get s 0xB002_02) k.srcEdition then mirrorRefused s
  else if get s 0xB002_00 ≠ 2 then sendLoose s (mirrorAckPacket s k.src k.srcEdition (muSeq k) true)
  else
    let s := sendLoose s (mirrorAckPacket s k.src k.srcEdition (muSeq k) false)
    let jobs := (imageWork s).map fun w => { work := w, snap := false, edition := some k.srcEdition : MirrorJob }
    mirrorPump pumpFuel
      { s with
        mirror.buffer := s.mirror.buffer.filter (fun u => u.edition.isNone)
        mirror.jobs := jobs ++ s.mirror.jobs.filter (fun j => j.edition.isNone) }

/-! ### The requester's side of a restore (R336) -/

/-- An acknowledgement of a restore leaves by its port and carries its edition. -/
def ackRestore (s : State) (r : Restore) (seq : Nat) : State :=
  (sendAt s r.port (mirrorAckPacket s r.endpoint r.edition seq false) none).state

/-- counterpart_restore (R336, R371): it sets counterpart_endpoint and counterpart_edition (log entry 70), and asks for the
image. -/
def counterpartRestoreOp (ep p ed : Nat) (s : State) : State × CmdOut :=
  if portsOf s.part ≤ p then (s, .done stUnsupported 0)
  else if !ordinary ep || 256 ≤ ed then (s, .done stMalformed 0)
  else if commission s ≠ 1 || !ordinary (ownId s) || s.mirror.restore.isSome then (s, .done stBusy 0)
  else
    let s := set (set (holdInForce s 0xB000_01) 0xB000_01 ep) 0xB000_02 ed
    let s := { s with
      mirror.restore := some { endpoint := ep, port := p, edition := ed, lastSeq := none }
      mirror.jobs := s.mirror.jobs ++ [{ work := .request, snap := false, edition := some ed }] }
    (mirrorPump pumpFuel s, .waits)

end Sys2Proof.Machine
end

