-- ==== Sys2Proof/Machine/Collate.lean ====
section
/-! DEFINITION. The Collator: collective entries and stages (R149, R150), contributions and gate tokens
(R152), tiles, their counts, bursts and spills (R132 to R139), and how an entry ends (R161, R163). -/

namespace Sys2Proof.Machine

/-! ### Entry and stage rows (Tables 7.1 and 7.2) -/

def entryCn : Nat := 0x7100_00
def stageCn : Nat := 0x7102_00
def gateCn : Nat := 0x7106_00

def ceRow (s : State) (e : Nat) : Nat := getRow s entryCn e
def ceState (r : Nat) : Nat := fld r 255 254
def ceGuarded (r : Nat) : Bool := bit r 253
def cePartition (r : Nat) : Nat := fld r 252 249
def ceContext (r : Nat) : Nat := fld r 248 237
def ceStages (r : Nat) : Nat := fld r 236 235 + 1
def ceRing (r : Nat) : Nat := fld r 234 227
def ceMembers (r : Nat) : Nat := fld r 226 205 + 1
def ceRank (r : Nat) : Nat := fld r 204 183
def ceLo (r : Nat) : Nat := fld r 182 161
def ceHi (r : Nat) : Nat := fld r 160 139
def ceRosterSegment (r : Nat) : Nat := fld r 138 131
def ceRosterOffset (r : Nat) : Nat := fld r 130 95 * 64
def ceParams (r : Nat) : Nat := fld r 94 87 * 2 ^ 42 + fld r 86 51 * 64
def ceStart (r : Nat) : Nat := fld r 50 37
def ceGate (r : Nat) : Nat := fld r 36 5

def stRow (s : State) (e k : Nat) : Nat := getRow s stageCn (4 * e + k)
def stId (r : Nat) : Nat := fld r 255 224
def stSeed (r : Nat) : Nat := fld r 223 192
def stExpected (r : Nat) : Nat := fld r 191 160 + 1
def stFirst (r : Nat) : Nat := fld r 159 128
def stLast (r : Nat) : Nat := fld r 159 128 + fld r 127 96
def stSegment (r : Nat) : Nat := fld r 95 88
def stOffset (r : Nat) : Nat := fld r 87 46
def stInput (r : Nat) : Nat := fld r 45 41
def stOutput (r : Nat) : Nat := fld r 40 36
def stRounding (r : Nat) : Nat := fld r 35 33
def stSaturate (r : Nat) : Bool := bit r 32
def stLong (r : Nat) : Bool := bit r 31

/-- The entry's state is OPEN or RUNNING. -/
def ceLive (r : Nat) : Bool := ceState r == 1 || ceState r == 2

def EntryRun.reset : EntryRun :=
  { run := 0, thread := none, excess := false, poisoned := false, burstBytes := 0, closed := [0, 0, 0, 0], freed := [],
    edges := [], ended := none, endPc := 0, endStep := 0, faultOffset := 0, noticed := false }

def entryRun (s : State) (e : Nat) : EntryRun := (lookupT s.coll.entries e).getD EntryRun.reset

def setEntryRun (s : State) (e : Nat) (x : EntryRun) : State :=
  { s with coll.entries := insertT s.coll.entries e x }

def updEntry (s : State) (e : Nat) (f : EntryRun → EntryRun) : State := setEntryRun s e (f (entryRun s e))

def thread? (s : State) (e : Nat) : Option Thread := (entryRun s e).thread

def updThread (s : State) (e : Nat) (f : Thread → Thread) : State :=
  updEntry s e fun x => { x with thread := x.thread.map f }

/-- Threads on the sequencer of a physical slice (R150). -/
def threadsOn (s : State) (phys : Nat) : Nat :=
  (s.coll.entries.filter fun e => e.2.thread.any fun t => t.phys == phys).length

/-- The first OPEN or RUNNING entry and stage that a collective identifier names (R152 step 1). -/
def stageOf (s : State) (id : Nat) : Option (Nat × Nat) :=
  ((rowsOf s entryCn).filter fun e => ceLive e.2).findSome? fun e =>
    match (upFrom 0 (ceStages e.2)).find? fun k => stId (stRow s e.1 k) == id with
    | some k => some (e.1, k)
    | none => none

def gateOf (s : State) (id : Nat) : Option Nat :=
  match (rowsOf s entryCn).find? fun e => ceLive e.2 && ceGate e.2 == id with
  | some e => some e.1
  | none => none

def gateCount (s : State) (e g : Nat) : Nat := getF s gateCn e (32 * g + 31) (32 * g)

def gateRaise (s : State) (e g : Nat) : State :=
  count64 (setF s gateCn e (32 * g + 31) (32 * g) (gateCount s e g + 1)) 0x7110_04

/-! ### A packet's elements (R122, R123) -/

def contribLong (k : Packet) : Bool := k.opcode == opContribLong

/-- The packed bytes (R53). -/
def contribBytes (k : Packet) : List Byte := (dataBytes k).take (16 * slotN k - (15 - k.lastByte))

def contribUnit (k : Packet) : Nat := if contribLong k then 40 else unitBytes (formatC k)

def contribCount (k : Packet) : Nat :=
  if contribLong k then (contribBytes k).length / 40
  else (contribBytes k).length / unitBytes (formatC k) * unitElements (formatC k)

/-- The rule of Table 3.8. -/
def contribRules (k : Packet) : Bool :=
  listedFormat (formatC k) && (contribBytes k).length % contribUnit k == 0

/-- R123. -/
def contribRefused (k : Packet) : Bool :=
  let f := formatC k
  !inputFormat f || (f == 0x05 && elementC k % 2 != 0) || (mxFormat f && elementC k % 32 != 0) ||
    2 ^ 32 < elementC k + contribCount k

/-- Where R152 admits a packet: a gate of an entry, or a stage of one. -/
inductive CollAdmit where
  | gate (e : Nat)
  | stage (e k : Nat)
  | refuse
  deriving DecidableEq, Repr

def collAdmit (s : State) (k : Packet) : CollAdmit :=
  let from0 (e : Nat) : Bool := ceLo (ceRow s e) ≤ k.src && k.src ≤ ceHi (ceRow s e)
  match stageOf s (collectiveC k), gateOf s (collectiveC k) with
  | some (e, n), _ =>
    let st := stRow s e n
    if from0 e && contribLong k == stLong st && formatC k == stInput st && stFirst st ≤ elementC k &&
        elementC k + contribCount k ≤ stLast st + 1 then .stage e n else .refuse
  | none, some e =>
    if from0 e && !contribLong k && formatC k == 0x06 && contribCount k == 1 && elementC k ≤ 31 then .gate e
    else .refuse
  | none, none => .refuse

/-! ### Elements and tiles (R133, R134, R138, R139) -/

/-- An element's contribution: nothing for a poisoned one. -/
structure Addend where
  poison : Bool
  state  : Nat
  value  : Int
  deriving Repr

def longPart (bs : List Byte) : Addend :=
  let v := numLE bs
  { poison := bit v 319, state := fld v 318 317, value := signed 310 (fld v 309 0) }

/-- The contributions of a packet, in element order. -/
def packetParts (k : Packet) : List Addend :=
  let parts : List Addend :=
    if contribLong k then (chunks 40 (contribBytes k).length (contribBytes k)).map longPart
    else (unpackElements (formatC k) (contribBytes k)).map fun c =>
      { poison := false, state := c.state, value := c.value }
  if k.poison then parts.map fun c => { c with poison := true } else parts

def Elem.fresh : Elem := { count := 0, poison := false, state := 0, value := 0, result := none }

/-- What a closing element writes under its stage, and whether its rounding overflowed (R127 to R131,
R138). -/
def elemResult (st element : Nat) (x : Elem) : Nat × Bool :=
  let out := stOutput st
  if out = 0x1F then (longElement x.poison x.state x.value, false)
  else if x.poison then (stateOutput out stNan, false)
  else if x.state ≠ 0 then (stateOutput out x.state, false)
  else
    roundOutput out (stRounding st) (srNumber (stSeed st) (stId st) element) (stSaturate st) x.value.toInt
      (formatWeight (stInput st))

/-- Add a contribution to an element that has not closed. A poisoned one sets the element's poison and adds no value
(R138). -/
def elemAdd (x : Elem) (c : Addend) : Elem :=
  if c.poison then { x with count := x.count + 1, poison := true }
  else
    { x with
      count := x.count + 1
      state := combineState x.state c.state
      value := x.value + BitVec.ofInt 310 c.value }

def tileOf (s : State) (e n t : Nat) : Option Tile :=
  s.coll.tiles.find? fun x => x.entry == e && x.stage == n && x.tile == t

def updTile (s : State) (e n t : Nat) (f : Tile → Tile) : State :=
  { s with coll.tiles := s.coll.tiles.map fun x => if x.entry == e && x.stage == n && x.tile == t then f x else x }

/-- The elements of tile `t` that lie in the owned range. -/
def tileRange (st t : Nat) : Nat × Nat := (max (1024 * t) (stFirst st), min (1024 * t + 1023) (stLast st))

/-- An element closes: its result stands from now on, and it is counted (R128, R129, R138). -/
def closeElem (s : State) (e n t element : Nat) (x : Elem) : State :=
  let (v, overflowed) := elemResult (stRow s e n) element x
  let s := if x.state ≠ 0 then count64 s 0x7000_08 else s
  let s := if overflowed then count64 s 0x7000_09 else s
  let s := if x.poison then updEntry (count64 s 0x7000_0A) e fun r => { r with poisoned := true } else s
  updTile s e n t fun y => { y with elems := insertT y.elems element { x with result := some v } }

/-- A contribution to one element of a tile that is held here (R134). A tile that opened again never reaches its
counts (R136). -/
def feedElem (s : State) (e n t element : Nat) (c : Addend) : State :=
  match tileOf s e n t with
  | none => s
  | some y =>
    let x := (lookupT y.elems element).getD { Elem.fresh with poison := y.lost }
    let expected := stExpected (stRow s e n)
    if !y.again && expected ≤ x.count then updEntry (count64 s 0x7000_02) e fun r => { r with excess := true }
    else
      let x := elemAdd x c
      let s := if c.poison then s else count64 s 0x7000_01
      if !y.again && x.count = expected then closeElem s e n t element x
      else updTile s e n t fun y => { y with elems := insertT y.elems element x }

/-! ### Bursts (R135) -/

/-- Where the result of an element that shares its byte with another tile is kept. -/
def edgeKey (n i : Nat) : Nat := n * 2 ^ 32 + i

/-- The FP4 results of a tile that stand in one byte with a neighbouring tile's (R122, R135). -/
def tileEdges (st n t : Nat) (y : Tile) : List (Nat × Nat) :=
  let (lo, hi) := tileRange st t
  let edge (i : Nat) : Nat × Nat :=
    let x := (lookupT y.elems i).getD Elem.fresh
    (edgeKey n i, x.result.getD 0 % 16 + if x.poison then 16 else 0)
  if stOutput st ≠ 0x05 then []
  else
    (if (lo - stFirst st) % 2 = 1 then [edge lo] else []) ++
      (if (hi - stFirst st) % 2 = 0 && hi < stLast st then [edge hi] else [])

/-- Bytes of a tile's results from its first element. FP4 packs two elements in a byte, and a byte shared with a
neighbouring tile keeps that tile's result (R135). -/
def tileBytes (st n t : Nat) (y : Tile) (edges : Table Nat) : List Byte :=
  let (lo, hi) := tileRange st t
  let value (i : Nat) : Nat := ((lookupT y.elems i).bind (·.result)).getD 0
  let all := upFrom lo (hi + 1 - lo)
  if stOutput st = 0x05 then
    (upFrom ((lo - stFirst st) / 2) ((hi - stFirst st) / 2 + 1 - (lo - stFirst st) / 2)).map fun b =>
      let nibble (j : Nat) : Nat :=
        let i := stFirst st + 2 * b + j
        (if lo ≤ i && i ≤ hi then value i else (lookupT edges (edgeKey n i)).getD 0) % 16
      BitVec.ofNat 8 (nibble 0 + 16 * nibble 1)
  else all.flatMap fun i => bytesLE (unitBytes (stOutput st)) (value i)

/-- Offset of the tile's first result byte in its segment. -/
def tileOffset (st t : Nat) : Nat :=
  let i := (tileRange st t).1 - stFirst st
  stOffset st + (if stOutput st = 0x05 then i / 2 else i * unitBytes (stOutput st))

/-- Segment offsets of the bytes that poisoned elements touch, as (first, last): the tile's own, and a neighbour's in a
byte they share. -/
def poisonSpans (st n t : Nat) (y : Tile) (edges : Table Nat) : List (Nat × Nat) :=
  let (lo, hi) := tileRange st t
  let own := (y.elems.filter fun e => e.2.poison).map (·.1)
  let near := [lo - 1, hi + 1].filter fun i => 16 ≤ (lookupT edges (edgeKey n i)).getD 0
  (if stOutput st = 0x05 then own ++ near else own).map fun k =>
    let i := k - stFirst st
    if stOutput st = 0x05 then (stOffset st + i / 2, stOffset st + i / 2)
    else (stOffset st + i * unitBytes (stOutput st), stOffset st + (i + 1) * unitBytes (stOutput st) - 1)

/-- Cut `n` bytes at `off` into runs of whole lines whose poison is the same: (offset, length, poison);
`fuel` bounds them. -/
def lineRuns (bad : Nat → Bool) : Nat → Nat → Nat → List (Nat × Nat × Bool)
  | 0, _, _ => []
  | fuel + 1, off, n =>
    if n = 0 then []
    else
      let m := min n (64 - off % 64)
      let b := bad (off / 64)
      match lineRuns bad fuel (off + m) (n - m) with
      | (o, l, c) :: rest => if b = c && o = off + m then (off, m + l, b) :: rest else (off, m, b) :: (o, l, c) :: rest
      | [] => [(off, m, b)]

/-- Every element of the tile has closed: its results go out in one burst. -/
def startBurst (s : State) (e n t : Nat) : State :=
  match tileOf s e n t with
  | none => s
  | some y =>
    let st := stRow s e n
    let row := ceRow s e
    let edges := (entryRun s e).edges
    let bs := tileBytes st n t y edges
    let off := tileOffset st t
    let spans := poisonSpans st n t y edges
    let bad (l : Nat) : Bool := spans.any fun p => p.1 / 64 ≤ l && l ≤ p.2 / 64
    let runs := lineRuns bad (bs.length / 64 + 2) off bs.length
    let s := updTile s e n t fun y => { y with phase := 1, burstLeft := runs.length }
    let s := updEntry s e fun r => { r with edges := (tileEdges st n t y).foldl (fun m x => insertT m x.1 x.2) r.edges }
    forEach runs (fun s r =>
      (hostAccess s (.burst (stId st) t e (entryRun s e).run) none 1 (ceContext row) (stSegment st) r.1 r.2.1
        ((bs.drop (r.1 - off)).take r.2.1) r.2.2 [] (cePartition row)).2) s

/-- All elements of an open tile have closed. -/
def tileFull (s : State) (e n t : Nat) : Bool :=
  match tileOf s e n t with
  | none => false
  | some y =>
    let (lo, hi) := tileRange (stRow s e n) t
    y.phase == 0 && (y.elems.filter fun x => x.2.result.isSome).length == hi + 1 - lo

/-- An element of a tile that is held here takes another contribution: an accumulator update (R146). -/
def elemOpen (s : State) (e n t element : Nat) : Bool :=
  match tileOf s e n t with
  | none => false
  | some y => y.again || ((lookupT y.elems element).getD Elem.fresh).count < stExpected (stRow s e n)

/-- The elements of a packet that fall in tile `t` enter it, and a full tile bursts. -/
def feedTile (s : State) (e n t : Nat) (k : Packet) : State :=
  let stamp := s.coll.stamp + 1
  let s := { s with coll.stamp := stamp }
  let s := updTile s e n t fun y => { y with touched := stamp }
  let mine := ((upFrom (elementC k) (contribCount k)).zip (packetParts k)).filter fun x => x.1 / 1024 == t
  let added := (mine.filter fun x => !x.2.poison && elemOpen s e n t x.1).length
  let s := if added = 0 then s else odc s 0x08 none none added
  let s := forEach mine (fun s x => feedElem s e n t x.1 x.2) s
  if tileFull s e n t then startBurst s e n t else s

/-! ### Places and spills (R132, R137) -/

/-- Tiles with a place on a physical slice. -/
def placedOn (s : State) (phys : Nat) : List Tile :=
  s.coll.tiles.filter fun y => y.phys == phys && y.phase != 2

/-- A place is free for one more tile: 16 long or 48 short ones, in the slice's 640 KiB and count memory. -/
def placeFree (s : State) (phys : Nat) (long : Bool) : Bool :=
  let here := placedOn s phys
  let longs := (here.filter (·.long)).length
  let shorts := here.length - longs
  here.length < 48 && longs * 40 + shorts * 12 + (if long then 40 else 12) ≤ 640

/-- Spill slots in use: spilled tiles, and tiles moving out or in. -/
def spillsUsed (s : State) : Nat := (s.coll.tiles.filter fun y => y.phase ≥ 2).length

/-- The open tile of a slice whose latest contribution is oldest. -/
def spillVictim (s : State) (phys : Nat) : Option Tile :=
  (s.coll.tiles.filter fun y => y.phys == phys && y.phase == 0).foldl (fun b y =>
    match b with
    | none => some y
    | some z => if y.touched < z.touched then some y else b) none

/-- A spill slot that no tile holds, searched from a free value (R137: which one is not stated). -/
def freeSlot (s : State) (start : Nat) : Nat :=
  let n := get s 0x7001_00
  (((upFrom 0 n).map fun i => (start + i) % n).find? fun k =>
    !s.coll.tiles.any fun y => 2 ≤ y.phase && y.slot == k).getD 0

/-- What becomes of a piece of a contribution: it enters its tile, or waits at a slice, for a spill slot or
for something else. -/
inductive Piece.Fate where
  | enters (s : State)
  | waits (s : State) (phys : Nat) (slot : Bool)

/-- The first carrel row of spill slot `k` (R137). -/
def spillRow (s : State) (k : Nat) : Nat := carrelRow (quotaFirst s 3 * bankBytes + k * 49152)

/-- A tile takes a place of slice `phys`'s accumulator storage. -/
def noteStored (s : State) (phys : Nat) : State :=
  if s.coll.stored.contains phys then s else { s with coll.stored := s.coll.stored ++ [phys] }

/-- Make a place on a slice: a tile starts to move out, unless one already does or no slot is free. -/
def makePlace (s : State) (phys : Nat) : Piece.Fate :=
  if s.coll.tiles.any fun y => y.phys == phys && y.phase == 3 then .waits s phys false
  else
    match spillVictim s phys with
    | none => .waits s phys false
    | some v =>
      if get s 0x7001_00 ≤ spillsUsed s then .waits s phys true
      else
        let (n, s) := draw s
        let k := freeSlot s (Config.freeChoice n)
        let s := noteForeign s (spillRow s k) 192
        .waits (updTile s v.entry v.stage v.tile fun y => { y with phase := 3, slot := k }) phys false

/-- A piece of a packet for tile `t` of stage `n` of entry `e`. With no slice left active it waits, since R16 then gives no
assignment (log entry 73). -/
def pieceGoes (s : State) (e n t : Nat) (k : Packet) : Piece.Fate :=
  let st := stRow s e n
  match tileOf s e n t with
  | some y =>
    if y.phase ≤ 1 then .enters (feedTile s e n t k)
    else if y.phase ≠ 2 then .waits s y.phys false
    else if placeFree s y.phys y.long then
      .waits (updTile (noteStored s y.phys) e n t fun y => { y with phase := 4 }) y.phys false
    else makePlace s y.phys
  | none =>
    let slice := t % max 1 (activeSlices s)
    match physOf s slice with
    | none => .waits s ((s.coll.substituting.map (·.1)).getD 0) false
    | some phys =>
      let long := longFormat (stInput st) || stLong st
      if placeFree s phys long then
        let y : Tile :=
          { entry := e, stage := n, tile := t, phys := phys, long := long, phase := 0, elems := [], touched := 0,
            burstLeft := 0, slot := 0, again := (entryRun s e).freed.contains (n, t), lost := false,
            moved := false }
        let s := noteStored s phys
        .enters (feedTile { s with coll.tiles := s.coll.tiles ++ [y] } e n t k)
      else makePlace s phys

/-- A piece goes in, or joins the waiting ones; one that waits for a spill slot is counted. -/
def offerPiece (s : State) (e n t port serial : Nat) (k : Packet) : State :=
  match pieceGoes s e n t k with
  | .enters s => s
  | .waits s phys slot =>
    let s := if slot then count64 s 0x7000_07 else s
    { s with coll.waits := s.coll.waits ++ [{ phys := phys, port := port, k := k, tile := t, slot := slot, counted := slot, serial := serial }] }

/-- The tiles a packet's elements fall in. -/
def packetTiles (k : Packet) : List Nat :=
  let first := elementC k / 1024
  upFrom first ((elementC k + contribCount k - 1) / 1024 + 1 - first)

/-- A contribution or gate token that has passed R63 (R123, R152, R133). -/
def contribArrives (s : State) (p : Nat) (k : Packet) : State :=
  if contribRefused k then count64 s 0x7000_03
  else
    match collAdmit s k with
    | .refuse => count64 s 0x7110_03
    | .gate e => gateRaise s e (elementC k)
    | .stage e n =>
      let n0 := s.coll.stamp + 1
      forEach (packetTiles k) (fun s t => offerPiece s e n t p n0 k) { s with coll.stamp := n0 }

/-- A packet of a channel of a port waits for a slice: what follows it there waits too (R14, R137). -/
def collHeld (s : State) (p vc : Nat) : Bool := s.coll.waits.any fun w => p < 8 && w.port == p && w.k.vc == vc

/-- The receive buffer of port `p` stands as it did in `s0`: the packet has not left it. -/
def keepRx (s0 s : State) (p : Nat) : State :=
  setPort s p fun x => { x with rxBuf := (port s0 p).rxBuf, freed := (port s0 p).freed }

/-- A waiting piece is over: with its packet's last one the packet leaves its channel. -/
def dropWait (s : State) (w : CollWait) : State :=
  let s := { s with coll.waits := s.coll.waits.erase w }
  if w.port < 8 && !collHeld s w.port w.k.vc then takeRx s w.port w.k else s

/-- A packet's waiting pieces are all over. -/
def dropPacket (s : State) (w : CollWait) : State :=
  forEach (s.coll.waits.filter fun x => x.serial == w.serial) dropWait s

/-- Try a waiting piece again. A packet whose entry has closed is refused (R136, R152). -/
def retryWait (s : State) (w : CollWait) : State :=
  if !s.coll.waits.contains w then s
  else
    match collAdmit s w.k with
    | .stage e n =>
      match pieceGoes s e n w.tile w.k with
      | .enters s => dropWait s w
      | .waits s phys slot =>
        let s := if slot && !w.counted then count64 s 0x7000_07 else s
        { s with coll.waits := s.coll.waits.map fun x =>
            if x = w then { w with phys := phys, slot := slot, counted := w.counted || slot } else x }
    | _ => dropPacket (count64 s 0x7110_03) w

/-- Every waiting piece in turn. -/
def retryWaits (s : State) : State := forEach s.coll.waits retryWait s

/-- The carrel rows of spill slot `k`, 48 KiB each from the start of the spill quota (R137). -/
def slotRows (s : State) (k : Nat) : List Nat :=
  upFrom (spillRow s k) 192

/-- Every element of a tile becomes poisoned (R138, R324). -/
def poisonTile (y : Tile) : Tile :=
  { y with lost := true, elems := y.elems.map (fun e => (e.1, { e.2 with poison := true })) }

/-- A row of a tile's spill slot is being replaced: its spill or reload waits for it (R15, R324). -/
def slotBusy (s : State) (y : Tile) : Bool := (slotRows s y.slot).any fun r => s.carrel.replacing.contains r

/-- A spill or a reload ends (R137). A slot on a row that failed for good reads as POISON (R324). -/
def endMove (s : State) (y : Tile) : State :=
  if y.phase = 3 then
    updTile (count64 s 0x7000_05) y.entry y.stage y.tile fun y => { y with phase := 2, moved := false }
  else
    let bad := (slotRows s y.slot).any fun r => s.carrel.dead.contains r
    updTile (count64 s 0x7000_06) y.entry y.stage y.tile fun y =>
      { (if bad then poisonTile y else y) with phase := 0, moved := false }

/-- TILE_SPILL_DONE: the 192 cycles of a spill or a reload have passed (R137). -/
def tileMoved (s : State) (id t : Nat) : State :=
  match s.coll.tiles.find? fun y => stId (stRow s y.entry y.stage) == id && y.tile == t && 3 ≤ y.phase with
  | none => s
  | some y =>
    if slotBusy s y then updTile s y.entry y.stage y.tile fun y => { y with moved := true } else endMove s y

/-- Spills and reloads that waited for a row go on. -/
def pumpTiles (s : State) : State :=
  forEach (s.coll.tiles.filter fun y => y.moved && !slotBusy s y) endMove s

/-! ### The end of an entry (R136, R161, R163) -/

/-- Discard an entry's tiles that are not bursting: the contributions they hold are excess (R136). -/
def discardTiles (s : State) (e : Nat) : State × Nat :=
  let gone := s.coll.tiles.filter fun y => y.entry == e && y.phase != 1
  let held := (gone.flatMap fun y => y.elems.map fun x => x.2.count).foldl (· + ·) 0
  (count { s with coll.tiles := s.coll.tiles.filter fun y => !(y.entry == e && y.phase != 1) } 0x7000_02 64 held,
    held)

/-- Trace source of a thread: its physical slice's sequencer (R295). -/
def threadSource (t : Thread) : Nat := t.phys + 1

/-- The fan-out of aborts that an entry of this row owes for an ending status (R163). -/
def fanOut (s : State) (e row st : Nat) : State :=
  { s with coll.fanouts := s.coll.fanouts ++
      [{ entry := e, gate := ceGate row, status := st, next := (ceRank row + 1) % ceMembers row,
         left := ceMembers row - 1, members := ceMembers row, partition := cePartition row
         context := ceContext row, segment := ceRosterSegment row, offset := ceRosterOffset row
         asked := false, record := none }] }

/-- A thread stops: its movers end with the packets whose source they are reading, and what it has not issued is
discarded (R161). -/
def Thread.stopped (t : Thread) : Thread :=
  { t with
    wait := none, reads := [], tokens := []
    sends := (t.sends.filter fun j => j.formed < j.next).map fun j => { j with packets := j.next } }

/-- An OPEN or RUNNING entry ends for a cause (R161): tiles and SENDs are discarded, the status is the first
of Table 7.6 that applies, and a guarded thread that fails ends ABORTED and fans out (R163), unless another
member's abort ends it (R164). Where no instruction ends the thread the notice's source holds its present pc, or 0
without a thread; what arises while the entry is ENDING leaves its status (log entry 61). -/
def endEntry (s : State) (e cause : Nat) (fan : Bool) : State :=
  let row := ceRow s e
  if !ceLive row then s
  else
    let (s, held) := discardTiles s e
    let r := entryRun s e
    let excess := r.excess || held != 0
    let st := if cause ≠ stOk then cause else if excess then stMalformed else if r.poisoned then stPoison else stOk
    let ran := ceState row == 2
    let st := if ran && ceGuarded row && !(st == stOk || st == stRetired || st == stStale) then stAborted else st
    let pc := (r.thread.map (·.pc)).getD 0
    let s := setF s entryCn e 255 254 3
    let s := setEntryRun s e
      { r with excess := excess, ended := some st, endPc := pc, thread := r.thread.map Thread.stopped }
    let s := count64 s 0x7110_01
    let s := if st = stAborted then count64 s 0x7110_02 else s
    let s := match r.thread with
      | some t => traceRecord s (threadSource t) 2 e pc st
      | none => s
    if fan && ran && ceGuarded row && st ≠ stOk && st ≠ stRetired then fanOut s e row st else s

/-- A burst or host access faulted after its entry ended: WINDOW_MISS goes before the statuses below it in Table 7.6,
and a guarded entry fails (R161, R163). -/
def lateFault (s : State) (e offset : Nat) : State :=
  let row := ceRow s e
  let r := entryRun s e
  let lower := r.ended == some stOk || r.ended == some stPoison || r.ended == some stMalformed
  if ceState row ≠ 3 || r.noticed || !lower then s
  else if r.thread.isSome && ceGuarded row then
    fanOut (count64 (setEntryRun s e { r with ended := some stAborted }) 0x7110_02) e row stAborted
  else setEntryRun s e { r with ended := some stMiss, faultOffset := offset }

/-- A host access of an entry faulted at a segment offset (R155). -/
def endFaulted (s : State) (e offset : Nat) : State :=
  if ceLive (ceRow s e) then
    endEntry (updEntry s e fun r => { r with faultOffset := offset }) e stMiss true
  else lateFault s e offset

/-- A guarded thread ends as soon as excess or poison arises (R163). -/
def guardedEnds (s : State) : State :=
  forEach ((rowsOf s entryCn).filter fun e => ceState e.2 == 2 && ceGuarded e.2) (fun s e =>
    let r := entryRun s e.1
    if r.excess then endEntry s e.1 stMalformed true
    else if r.poisoned then endEntry s e.1 stPoison true else s) s

/-- The run of entry `e` that an access belongs to is still its run. -/
def sameRun (s : State) (e run : Nat) : Bool := ceState (ceRow s e) != 0 && (entryRun s e).run == run

/-- A host access of a run of entry `e` faulted (R155, R345): the fault is reported, and ends that run. -/
def runFaults (s : State) (x : Access) (e run : Nat) : State :=
  let s := reportFault s x
  if sameRun s e run then endFaulted s e (x.faultAt.getD 0) else s

/-- The bursting tile of a stage identifier. -/
def burstTile (s : State) (id t : Nat) : Option Tile :=
  s.coll.tiles.find? fun y => stId (stRow s y.entry y.stage) == id && y.tile == t && y.phase == 1

/-- A burst's access has been performed (R72), for the run that began it. -/
def burstPerformed (s : State) (id t e run : Nat) : State :=
  match if sameRun s e run then burstTile s id t else none with
  | some y => updTile s y.entry y.stage t fun y => { y with burstLeft := y.burstLeft - 1 }
  | none => s

/-- A burst's access is over: what it wrote is counted, and a fault ends the entry (R155, R161). One that never came to
a memory-side port waits for no acceptance. -/
def finishBurst (s : State) (a : Nat) (x : Access) (id t e run : Nat) : State :=
  let s := closeAccess s a x
  let s := if !sameRun s e run then s
    else updEntry s e fun r => { r with burstBytes := r.burstBytes + x.written }
  if x.ignored then s
  else
    let s := if x.performed then s else burstPerformed s id t e run
    if x.status ≠ 2 then s else runFaults s x e run

/-- The burst of a closed tile has been performed: its place is free, and the closed-tile count rises
(R135, R159). -/
def burstDone (s : State) (id t : Nat) : State :=
  match burstTile s id t with
  | none => s
  | some y =>
    if y.burstLeft ≠ 0 then s
    else
      let s := { s with coll.tiles := s.coll.tiles.erase y }
      let s := updEntry s y.entry fun r => 
        { r with closed := modifyNth (· + 1) y.stage r.closed, freed := (y.stage, y.tile) :: r.freed }
      count64 s 0x7000_04

/-- spill_wait_limit passed at a slice (R137): the contribution is discarded and its entry ABORTED. -/
def spillWaitPassed (s : State) (phys : Nat) : State :=
  match s.coll.waits.find? fun w => w.phys == phys && w.slot with
  | none => s
  | some w =>
    let s := count64 (dropPacket s w) 0x7000_0B
    match collAdmit s w.k with
    | .stage e _ => endEntry s e stAborted true
    | _ => s

/-- An access that an entry's end waits for: a part of a burst, or the source of a packet that its movers were reading
(R161; log entry 61). -/
def holdsEntry (e : Nat) (x : Access) : Bool :=
  match x.kind with
  | .burst _ _ e' _ => e' == e && !x.ignored
  | .sendSource e' _ _ _ _ => e' == e && !x.ignored
  | _ => false

/-- Bursts of an entry that have not been performed, or whose outcome is not known, or packets of its movers. -/
def entryBursting (s : State) (e : Nat) : Bool :=
  (s.coll.tiles.any fun y => y.entry == e && y.phase == 1) || s.host.accesses.any fun a => holdsEntry e a.2

/-- The notice of an ENDING entry joins its ring once its bursts have been performed (R161). -/
def collectiveNotice (s : State) (e : Nat) : State :=
  let row := ceRow s e
  let r := entryRun s e
  match r.ended with
  | some st =>
    if ceState row ≠ 3 || r.noticed || entryBursting s e then s
    else
      let source := e * 2 ^ 14 + r.endPc
      let bits := noticeBits st 1 0 source (if st = stMiss then r.faultOffset else 0) r.burstBytes (ceGate row)
        r.endStep
      queueNotice (updEntry s e fun r => { r with noticed := true }) (ceRing row)
        { bits := bits, slip := none, entry := some e, post := none, access := none }
  | none => s

/-- The notice has been written or discarded: the entry becomes FREE (R150). -/
def entryNoticed (s : State) (e : Nat) : State :=
  let s := setF s entryCn e 255 254 0
  { s with coll.entries := eraseT s.coll.entries e }

end Sys2Proof.Machine
end

