-- ==== Sys2Proof/Machine/Engine.lean ====
section
/-! DEFINITION. Engine-side requests (R347, R54, R74), their responses, and fences (R79, R80). -/

namespace Sys2Proof.Machine

/-! ### The replay gate (R319) -/

/-- The row of the active-context list for a partition and context, if any. -/
def gateRow (s : State) (n ctx : Nat) : Option (Nat × Nat) :=
  (rowsOf s 0xA110_00).find? fun e => bit e.2 127 && fld e.2 124 121 == n && fld e.2 120 109 == ctx

/-- The context does not pass the gate of its partition. -/
def gateShut (s : State) (n ctx : Nat) : Bool :=
  partitionState s n == 0 &&
    match gateRow s n ctx with
    | some e => fld e.2 126 125 == 0 || fld e.2 126 125 == 3
    | none => false

/-- Note an engine-side request of a context (R318). -/
def noteActivity (s : State) (n ctx : Nat) : State :=
  { s with host.activity :=
      (s.host.activity.filter fun e => !(e.1 == n && e.2.1 == ctx)) ++ [(n, ctx, now s)] }

/-! ### Responses -/

/-- Offer a response to an engine (Table 16.1). -/
def offerRsp (s : State) (r : EspReq) (status : Nat) (data : List Byte) : State :=
  { s with host.responses := s.host.responses ++
      [{ port := r.port, etag := r.etag, status := status, data := data, partition := issuerPartition s r.issuer }] }

/-- STORE, ATOMIC and LEDGER_ADD are posted (R347). -/
def espPosted (op : Nat) : Bool := op == 1 || op == 3 || op == 5

/-- A request that completes at once with a status and is not sent; a fence so refused has completed (Table 4.3). -/
def espRefused (s : State) (op : Nat) (r : EspReq) (status : Nat) : State :=
  if espPosted op then s
  else offerRsp (if 8 ≤ op then count64 s 0x8070_02 else s) r status []

/-! ### From request to packets -/

/-- The wire opcode of an op (R347). -/
def espOpcode (op : Nat) : Nat :=
  if op = 0 then opRead else if op = 1 then opWrite else if op = 2 then opWriteAck
  else if op = 3 then opAtomic else if op = 4 then opAtomicFetch else if op = 5 then opLedgerAdd
  else if op = 6 then opLedgerRead else opLedgerReadClear

def espOffset (r : EspReq) : Nat := r.address % 2 ^ 42

def espEndpoint (r : EspReq) : Nat := r.address / 2 ^ 42

/-- Bytes of the request's extent at its destination. -/
def espExtent (op : Nat) (r : EspReq) : Nat :=
  if op ≤ 2 then r.lengthM1 + 1
  else if op ≤ 4 then (if r.size8 then 8 else 4)
  else 64 * (r.lengthM1 % 256 + 1)

/-- The pieces of a request, as (offset, length): only byte extents are split (R54). -/
def espPieces (op : Nat) (r : EspReq) : List (Nat × Nat) :=
  if op ≤ 2 then split4K 3 (espOffset r) (r.lengthM1 + 1) else [(espOffset r, espExtent op r)]

/-- Data of piece `i`. -/
def espData (op : Nat) (r : EspReq) (i : Nat) : List Byte :=
  let before := (((espPieces op r).take i).map Prod.snd).sum
  (r.data.drop before).take ((nth (0, 0) i (espPieces op r)).2)

/-- Bits of a ledger slot that carry the value; the others are reserved (Table 6.10). -/
def ledgerWidth (sub : Nat) : Nat :=
  if sub = 0x00 || sub = 0x07 then 32 else if sub = 0x01 then 16 else if sub = 0x10 then 64 else 128

/-- Ledger slots with their reserved bits zero (R142). -/
def ledgerSlots (sub : Nat) (slots : List Nat) : List Nat := slots.map fun v => v % 2 ^ ledgerWidth sub

/-- The packet of piece `i` (R347, R53). -/
def espPacket (s : State) (op : Nat) (r : EspReq) (i : Nat) : Packet :=
  let (off, len) := nth (0, 0) i (espPieces op r)
  let k := { requestBase s r.issuer (espEndpoint r) with opcode := espOpcode op }
  if op ≤ 2 then
    { k with opspec := layoutM off 0 0 false 0, slotCount := extentCount off len % 256, lastByte := extentLast off len,
             data := if op = 0 then [] else slotsOf (off % 16) (espData op r i) }
  else if op ≤ 4 then
    { k with opspec := layoutM off 0 r.sub r.size8 0, slotCount := 1, data := [numLE (r.data.take 16)] }
  else
    { k with opspec := layoutM off 0 r.sub false 0, slotCount := (r.lengthM1 % 256 + 1) % 256,
             data := if op = 5 then ledgerSlots r.sub (slotsOf 0 (r.data.take (16 * (r.lengthM1 % 256 + 1)))) else [] }

/-! ### Engine accesses -/

def espAccess? (s : State) (a : Nat) : Option EspAccess := lookupT s.host.esp a

/-- A piece of an engine access has completed: the earliest failure decides (R107's rule for slips does not
apply; the first status other than OK to return is kept). With its last piece the response is offered. -/
def espPieceDone (s : State) (a piece status : Nat) (data : List Byte) : State :=
  match espAccess? s a with
  | none => s
  | some e =>
    let e := { e with pieces := e.pieces - 1, status := if e.status = stOk then status else e.status,
                      data := insertT e.data piece data }
    if e.pieces = 0 then
      let s := { s with host.esp := eraseT s.host.esp a }
      { s with host.responses := s.host.responses ++
          [{ port := e.port, etag := e.etag, status := e.status,
             data := if e.status = stOk then (e.data.map Prod.snd).flatten else [], partition := e.partition }] }
    else { s with host.esp := insertT s.host.esp a e }

/-- What an engine's response carries from a wire response: a READ's bytes, the old value of an atomic, or
the slots of a ledger read (R347), their reserved bits ignored (R142). -/
def espRspData (t : Tracker) (k : Packet) : List Byte :=
  if t.opcode = opRead then extentBytesOf k t
  else if t.opcode = opAtomicFetch then (dataBytes k).take 8
  else if t.opcode = opLedgerRead || t.opcode = opLedgerReadClear then
    dataBytes { k with data := ledgerSlots t.sub k.data }
  else dataBytes k
where
  /-- The bytes of a READ_RSP, whose place in its first slot is that of the request. -/
  extentBytesOf (k : Packet) (t : Tracker) : List Byte :=
    let total := 16 * k.data.length
    let lead := total - (15 - t.lastByte) - t.length
    ((dataBytes k).drop lead).take t.length

/-- Begin an engine access for a non-posted request. -/
def espBegin (s : State) (op : Nat) (r : EspReq) : Nat × State :=
  let a := s.host.nextEsp
  (a, { s with
    host.esp := insertT s.host.esp a
      { port := r.port, etag := r.etag, op := op, pieces := (espPieces op r).length, status := stOk, data := [],
        partition := issuerPartition s r.issuer }
    host.nextEsp := a + 1 })

def espTracker (s : State) (r : EspReq) (k : Packet) (len : Nat) (owner : TrackerOwner) : Tracker :=
  { turn := 0, partition := k.partition, edition := k.partitionEdition, dst := k.dst, issuer := k.issuer,
    context := r.context, via := (viaOf s k.dst).getD 15, opcode := k.opcode, slotCount := k.slotCount,
    lastByte := k.lastByte, length := len, owner := owner, stuck := false,
    sub := r.sub }

/-! ### Acceptance in order (R74) -/

/-- Send piece `i` of a request, if it can be sent now. -/
def espSend (s : State) (w : EspWait) (i : Nat) : Option State :=
  let k := espPacket s w.op w.req i
  if issuerHeld s k.issuer then none
  else if espPosted w.op then
    if pairReady s k.dst k.issuer 0 then
      some (sendCounted s k 0 ((viaOf s k.dst).getD 15) (fun s k => send s k none)).1
    else none
  else if !trackersLeft s ((viaOf s k.dst).getD 15) 1 then none
  else
    let a := w.acc.getD 0
    let (s, r) := sendNonPosted s k (espTracker s w.req k (nth (0, 0) i (espPieces w.op w.req)).2 (.engine a i))
    match r with
    | .ok _ => some s
    | .error st => some (espPieceDone s a i st [])

/-- Send the pieces of a request in turn: the second part is what still waits. -/
def espGo : Nat → State → EspWait → State × Option EspWait
  | 0, s, w => (s, some w)
  | fuel + 1, s, w =>
    if (espPieces w.op w.req).length ≤ w.next then (s, none)
    else
      match espSend s w w.next with
      | none => (s, some w)
      | some s => espGo fuel s { w with next := w.next + 1 }

/-! ### Fences (R79, R80) -/

/-- A fence completes with a status: its response is its completion (R347). -/
def fenceRsp (s : State) (f : FenceWait) (status : Nat) : State :=
  let s := { s with switch.fences := s.switch.fences.erase f }
  let s := setF s issuerCn f.issuer 62 61 0
  let s := count64 s 0x8070_02
  let s := if status = stFenceLost then count64 s 0x8070_03 else s
  let s := if status = stTimeout then count64 s 0x8070_04 else s
  { s with host.responses := s.host.responses ++
      [{ port := f.port, etag := f.etag, status := status, data := [], partition := issuerPartition s f.issuer }] }

/-- A fence is reached: a CORE fence completes, the others are waited on (Table 4.1). -/
def fenceBegin (s : State) (scope : Nat) (r : EspReq) : State :=
  let f : FenceWait := { issuer := r.issuer, scope := scope, port := r.port, etag := r.etag }
  let s := { s with switch.fences := s.switch.fences ++ [f] }
  if scope = 0 then fenceRsp s f stOk
  else setF s issuerCn r.issuer 62 61 scope

/-- Whether an issuer waits on a fence. -/
def fenced (s : State) (issuer : Nat) : Bool := s.switch.fences.any fun f => f.issuer == issuer

/-- The packet behind an access, if it is one. -/
def accessPacket (x : Access) : Option Packet :=
  match x.kind with
  | .pktRead _ k => some k
  | .pktWrite _ k => some k
  | .pktLedger _ k => some k
  | .pktNotice _ k => some k
  | .atomicLock _ k => some k
  | .atomicUnlock _ k _ _ => some k
  | _ => none

/-- Every earlier request of the issuer to its own endpoint has been performed (Table 4.1). Polls, and the Collator's
contributions, which carry no issuer of their own (R158), are none of them. -/
def ownPerformed (s : State) (issuer : Nat) : Bool :=
  !(s.switch.loop.any fun k =>
      k.issuer == issuer && !isResponse k.opcode && k.vc != 5 && k.opcode != opCommitPoll &&
        k.opcode != opContrib && k.opcode != opContribLong) &&
    s.host.accesses.all fun e =>
      e.2.performed ||
        match accessPacket e.2 with
        | some k => !(k.src == ownId s && k.issuer == issuer)
        | none => true

/-- The conditions of Table 4.1 are met. -/
def fenceMet (s : State) (f : FenceWait) : Bool :=
  ownPerformed s f.issuer && (f.scope == 1 || (outstanding s f.issuer == 0 && nonpostedOpen s f.issuer == 0))

/-- A fence whose conditions are met completes with the first status of R80 that applies. -/
def fenceCompletes (s : State) (issuer : Nat) : State :=
  match s.switch.fences.find? fun f => f.issuer == issuer with
  | none => s
  | some f =>
    if silent s then fenceRsp s f stRetired
    else if !fenceMet s f then s
    else if f.scope = 2 && issuerLost s issuer then fenceRsp (setLost s issuer false) f stFenceLost
    else fenceRsp s f stOk

/-- fence_timeout passed before the conditions were met (R80). -/
def fenceTimesOut (s : State) (issuer : Nat) : State :=
  match s.switch.fences.find? fun f => f.issuer == issuer with
  | none => s
  | some f =>
    if f.scope ≠ 2 then s
    else if fenceMet s f then fenceCompletes s issuer
    else fenceRsp s f stTimeout

/-- End the fences that `p` picks with a status (R48, R87). -/
def endFences (s : State) (p : FenceWait → Bool) (status : Nat) : State :=
  (s.switch.fences.filter p).foldl (fun s f => fenceRsp s f status) s

/-! ### Taking requests -/

/-- The request's last byte or cell lies beyond its endpoint's offset space (R54). -/
def espBeyond (op : Nat) (r : EspReq) : Bool := op < 8 && 2 ^ 42 < espOffset r + espExtent op r

/-- A request is presented: it completes at once where a rule says so (R48, R54, R315, R319), or waits for
its turn. A fence takes only the statuses of Table 4.1. -/
def espPresent (s : State) (op : Nat) (r : EspReq) : State :=
  let n := issuerPartition s r.issuer
  let s := noteActivity s n r.context
  if op < 8 && gateShut s n r.context then espRefused s op r stBusy
  else if op ≠ 8 && silent s then espRefused s op r stRetired
  else if op ≠ 8 && op ≠ 9 && partitionDown s n then espRefused s op r stStale
  else if espBeyond op r then
    (if espPosted op then count64 s 0x5000_06 else espRefused s op r stMiss)
  else if op < 8 && !espPosted op then
    let (a, s) := espBegin s op r
    { s with switch.waits := s.switch.waits ++ [.engine { op := op, req := r, acc := some a, next := 0 }] }
  else { s with switch.waits := s.switch.waits ++ [.engine { op := op, req := r, acc := none, next := 0 }] }

/-- ESP_REQ_READY of a port is low (R347, R348): a request it took waits for a tracker, a pair entry or a fence, or an
earlier one is presented there still. -/
def espBlocked (s : State) (port : Nat) : Bool :=
  (s.host.espHeld.any fun e => e.2.port == port) || s.switch.waits.any fun w =>
    match w with
    | .engine w => w.req.port == port
    | .slip _ | .release _ _ _ => false

/-- The issuer of a waiting request. -/
def Waiting.issuer (s : State) (w : Waiting) : Nat :=
  match w with
  | .engine w => w.req.issuer
  | .slip w => ((ctx? s w.tray w.k).map (·.issuer)).getD (trayIssuer s w.tray)
  | .release issuer _ _ => issuer

/-- What the central switch does with a waiting request whose turn it is: the state, and what still waits. -/
def Waiting.go (s : State) (w : Waiting) : State × Option Waiting :=
  match w with
  | .engine w =>
    if 8 ≤ w.op then (fenceBegin s (w.op - 8) w.req, none)
    else
      let (s, left) := espGo 4 s w
      (s, left.map .engine)
  | .slip w =>
    match slipStep s w with
    | some s => (s, none)
    | none => (s, some (.slip w))
  | .release issuer endpoint hold =>
    if silent s then (s, none)
    else if issuerHeld s issuer then (s, some w)
    else (sendLoose s (holdRelease s issuer endpoint hold), none)

/-- The waiting requests in order: one that must wait holds back the later ones of its issuer, and so does a fence
(R74, R79). The second part is what still waits. -/
def issuePass : List Waiting → List Nat → State → State × List Waiting
  | [], _, s => (s, [])
  | w :: ws, stuck, s =>
    let i := w.issuer s
    let (s, left) := if stuck.contains i || fenced s i then (s, some w) else w.go s
    let (s, rest) := issuePass ws (if left.isSome then i :: stuck else stuck) s
    (s, left.toList ++ rest)

/-- The central switch accepts what it can, each issuer's requests in order (R74). -/
def pumpIssue (s : State) : State :=
  let (t, left) := issuePass s.switch.waits [] { s with switch.waits := [] }
  { t with switch.waits := left ++ t.switch.waits }

/-- Requests that have not been accepted complete with a status (R48, R87, R315). -/
def refuseWaiting (s : State) (p : EspWait → Bool) (status : Nat) : State :=
  let mine (w : Waiting) : Bool :=
    match w with
    | .engine w => p w && w.op < 8
    | .slip _ | .release _ _ _ => false
  let gone := s.switch.waits.filter mine
  let s := { s with switch.waits := s.switch.waits.filter fun w => !mine w }
  gone.foldl
    (fun s w =>
      match w with
      | .engine w =>
        (match w.acc with
         | some a =>
           (upFrom w.next ((espPieces w.op w.req).length - w.next)).foldl (fun s i => espPieceDone s a i status []) s
         | none => s)
      | .slip _ | .release _ _ _ => s) s

end Sys2Proof.Machine
end

