-- ==== Sys2Proof/Machine/Inband.lean ====
section
/-! DEFINITION. Messages as they stand in packets and datagrams (R268), and the MGMT_REQs this block
itself sends (R71, R163, R189, R190, R275). -/

namespace Sys2Proof.Machine

/-- A message header (Table 12.6). -/
def messageHeader (type status items number length : Nat) : Nat :=
  1 * 2 ^ 120 + type * 2 ^ 112 + status * 2 ^ 104 + items * 2 ^ 96 + number * 2 ^ 80 + length * 2 ^ 64

/-- An item header (Table 12.7); `cn` is index * 256 + subindex. -/
def itemHeader (cn op row countM1 dataBytes status : Nat) : Nat :=
  cn * 2 ^ 104 + op * 2 ^ 102 + row * 2 ^ 64 + countM1 * 2 ^ 48 + dataBytes * 2 ^ 36 + status * 2 ^ 28

/-- A message as received. -/
structure Message where
  version : Nat
  type    : Nat
  count   : Nat
  number  : Nat
  length  : Nat
  body    : List Byte
  deriving DecidableEq, Repr

/-- The header's fields (Table 12.6); the message has at least 16 bytes. -/
def messageOf (bs : List Byte) : Message :=
  let h := numLE (bs.take 16)
  { version := fld h 127 120, type := fld h 119 112, count := fld h 103 96, number := fld h 95 80,
    length := fld h 79 64, body := bs.drop 16 }

/-- An item header (Table 12.7) with its data. -/
def itemOf (h : Nat) (data : List Byte) : Item :=
  { index := fld h 127 112, sub := fld h 111 104, op := fld h 103 102, row := fld h 95 64, countM1 := fld h 63 48,
    data := data }

/-- The items of a message's body; none when one overruns it (R270) or bytes are left over. Data is padded to 16 bytes
(R268). -/
def itemsOf : Nat → List Byte → Option (List Item)
  | 0, bs => if bs.isEmpty then some [] else none
  | n + 1, bs =>
    if bs.length < 16 then none
    else
      let h := numLE (bs.take 16)
      let size := fld h 47 36
      let padded := (size + 15) / 16 * 16
      if 4080 < size || bs.length < 16 + padded then none
      else
        match itemsOf n (bs.drop (16 + padded)) with
        | some items => some (itemOf h ((bs.drop 16).take size) :: items)
        | none => none

/-- Bytes as 16-byte slots, padded with zero. -/
def padSlots (bs : List Byte) : List Nat := slotsOf 0 bs

/-- A REQUEST of one INVOKE item, in slots. -/
def invokeMessage (cn number : Nat) (arg : List Byte) : List Nat :=
  let data := padSlots arg
  messageHeader 1 0 1 number (32 + 16 * data.length) :: itemHeader cn 2 0 0 arg.length 0 :: data

/-- Send an MGMT_REQ that invokes a command on another block (R275). The answer is a status when it
completes at once (R177, R226). An abort sent is counted (R163). -/
def launchInvoke (s : State) (w : MgmtWait) : State × Option Nat :=
  let via := (viaOf s w.dst).getD 15
  let data := invokeMessage w.cn (s.mgmt.nextRequest % 65536) w.arg
  let s := { s with mgmt.nextRequest := (s.mgmt.nextRequest + 1) % 65536 }
  let k : Packet :=
    { blankPacket with
      opcode := opMgmtReq, slotCount := data.length % 256, dst := w.dst, dstEdition := editionFor s w.dst,
      src := sourceAt s via, srcEdition := ownEdition s, vc := 5, data := data }
  let t : Tracker :=
    { turn := 0, partition := 0, edition := 0, dst := w.dst, issuer := 0, context := 0, via := via,
      opcode := opMgmtReq, slotCount := k.slotCount, lastByte := 15, length := 0, owner := .mgmt w.purpose,
      stuck := false }
  match sendNonPosted s k t with
  | (s, .ok _) =>
    match w.purpose with
    | .abort _ => (count64 s 0x7300_04, none)
    | _ => (s, none)
  | (s, .error st) => (s, some st)

/-- An MGMT_REQ finds a tracker under its port's cap (R56). -/
def invokeReady (s : State) (dst : Nat) : Bool := trackersLeft s ((viaOf s dst).getD 15) 1

/-- Invoke a command on another block: the request waits while no tracker is to be had (R56). The answer is a status
when it completes at once. -/
def sendInvoke (s : State) (dst cn : Nat) (arg : List Byte) (purpose : MgmtPurpose) : State × Option Nat :=
  let w : MgmtWait := { dst := dst, cn := cn, arg := arg, purpose := purpose }
  if s.switch.mgmtWaits.isEmpty && invokeReady s dst then launchInvoke s w
  else ({ s with switch.mgmtWaits := s.switch.mgmtWaits ++ [w] }, none)

end Sys2Proof.Machine
end

