-- ==== Sys2Proof/Machine/Loans.lean ====
section
/-! DEFINITION. Loans (R179 to R191): setting, closing, the in-band open and close, LOAN_DATA at a
transit and a terminus, discards, expiry and overcommitment. -/

namespace Sys2Proof.Machine

def loanCn : Nat := 0x6400_00
def loanLimit : Nat := 512

/-- Loan rows not FREE (`6410.05`). -/
def loansActive (s : State) : Nat := ((liveRows s 5 loanCn).filter fun e => fld e.2 255 254 != 0).length

/-- The row's role leaves by an egress port (ORIGIN, TRANSIT). -/
def leaves (row : Nat) : Bool := fld row 253 252 ≤ 1

/-- The row's role has an ingress port (TRANSIT, TERMINUS). -/
def enters (row : Nat) : Bool := fld row 253 252 == 1 || fld row 253 252 == 2

def reservedCn (p : Nat) : Nat := 0x6405_01 + p
def capacityCn (p : Nat) : Nat := 0x6404_01 + p

/-- Reserved rates exceed what a port's present lanes carry: 3,750 units of 100 Mbit/s a lane (R191). -/
def overcommitted (s : State) (p : Nat) : Bool :=
  popcount 16 (get s (ofPort p 0x2010_01)) * 3750 < get s (reservedCn p)

/-- loans_overcommitted follows a port's rates and width (R191). -/
def reviewLoans (s : State) (p : Nat) : State :=
  let was := bit (get s 0x6410_06) p
  let now0 := if isUp s p then overcommitted s p else was && get s (reservedCn p) != 0
  let s := set s 0x6410_06 (setBit (get s 0x6410_06) p now0)
  if now0 && !was then reportOwn s 0x0F p (get s (reservedCn p)) else s

/-- The first status of R180 that refuses an entry, `row` being the staged one. -/
def loanRefusal (s : State) (row : Nat) : Option Nat :=
  let n := fld row 239 228
  let q := fld row 246 244
  let w := windowRow s (fld row 147 138)
  if fld row 253 252 = 3 || leaves row && portsOf s.part ≤ q ||
      enters row && portsOf s.part ≤ fld row 249 247 then some stUnsupported
  else if loanState s n ≠ 0 || loanLimit ≤ loansActive s then some stBusy
  else if leaves row && get s (capacityCn q) < get s (reservedCn q) + fld row 183 168 then some stBusy
  else if fld row 253 252 ≠ 2 then none
  else if winState w ≠ 1 || partitionDown s (winPartition w) || !(winKind w == 0 || winKind w == 3) then some stMiss
  else if !(winGrants w / 2 % 2 == 1 && winLo w ≤ fld row 227 206 && fld row 227 206 ≤ winHi w) then
    some stRights
  else none

/-- Install an entry in a state of Table 8.6: its rate is reserved, its counters zeroed, and a TERMINUS
counts as a use on its landing window (R180). -/
def loanInstall (s : State) (row state : Nat) : State :=
  let n := fld row 239 228
  let q := fld row 246 244
  let row := setFld (setFld (setFld (setFld row 255 254 state) 243 240 0) 77 64 0) 63 0 0
  let s := mirrorRow (setRow (setRow s loanCn n row) 0x6406_00 n 0) loanCn n
  let s := if leaves row then
      let s := set s (reservedCn q) (get s (reservedCn q) + fld row 183 168)
      reviewLoans (setPort s q fun x => { x with buckets := eraseT x.buckets n }) q
    else s
  if fld row 253 252 = 2 then
    let (u, s) := beginUse s (fld row 147 138)
    { s with switch.loanUses := insertT s.switch.loanUses n u }
  else s

/-- The entry becomes FREE (R181). -/
def freeLoan (s : State) (n : Nat) : State :=
  let row := getRow s loanCn n
  let q := fld row 246 244
  if fld row 255 254 = 0 then s
  else
    let s := mirrorRow (setF s loanCn n 255 254 0) loanCn n
    let s := if leaves row then
        let s := set s (reservedCn q) (get s (reservedCn q) - fld row 183 168)
        reviewLoans (setPort s q fun x => { x with buckets := eraseT x.buckets n }) q
      else s
    match lookupT s.switch.loanUses n with
    | some u => endUse { s with switch.loanUses := eraseT s.switch.loanUses n } u
    | none => s

/-! ### The commands -/

def loanSet (s : State) : State × CmdOut :=
  let row := get s 0x6401_00
  match loanRefusal s row with
  | some st => (s, .done st 0)
  | none => (loanInstall s (setFld row 250 250 0) 2, .done stOk 0)

/-- No slip admitted to the loan is unfinished, and no pair on it is unacknowledged (R181). -/
def loanDrained (s : State) (n : Nat) : Bool :=
  !(s.slips.ctxs.any fun c => slUseLoan c.bits && slLoan c.bits == n && c.probe == .loanOk && c.result.isNone) &&
    !(s.switch.pairs.any fun e => e.path == n + 1 && unacked e != 0)

/-- loan_close waits for the answer down the path (R190). -/
def closingBelow (s : State) (n : Nat) : Bool :=
  (s.switch.trackers.any fun e => e.2.owner == .mgmt (.loanClose n)) ||
    s.switch.mgmtWaits.any fun w => w.purpose == .loanClose n

/-- The address of the neighbour on a port (R25). -/
def portAddress (p : Nat) : Nat := 0x3FFFF0 + p

/-- The argument of loan_hop_close: the loan number (R259). -/
def closeArg (n : Nat) : List Byte := bytesLE 2 n

/-- A drained CLOSING origin becomes FREE; one opened in-band first closes the hops below (R181, R190). The
status is that its loan_close returns. -/
def originEnds (s : State) (n : Nat) : State × Option Nat :=
  if bit (getRow s loanCn n) 250 then
    match sendInvoke s (portAddress (loanEgress s n)) 0x6409_00 (closeArg n) (.loanClose n) with
    | (s, none) => (s, none)
    | (s, some st) => (freeLoan s n, some st)
  else (freeLoan s n, some stOk)

def loanClose (n : Nat) (s : State) : State × CmdOut :=
  let row := loanRow s n
  if 4096 ≤ n then (s, .done stUnsupported 0)
  else if fld row 255 254 = 0 then (s, .done stOk 0)
  else if fld row 253 252 ≠ 0 then (freeLoan s n, .done stOk 0)
  else
    let s := if fld row 255 254 = 3 then s else mirrorRow (setF s loanCn n 255 254 3) loanCn n
    if closingBelow s n || !loanDrained s n then (s, .waits)
    else
      match originEnds s n with
      | (s, none) => (s, .waits)
      | (s, some st) => (s, .done st 0)

/-- A CLOSING origin has drained (R181, R190). -/
def loanDrainEnd (s : State) (n : Nat) : State :=
  let row := getRow s loanCn n
  if fld row 255 254 = 3 && fld row 253 252 = 0 && loanDrained s n && !closingBelow s n then
    match originEnds s n with
    | (s, none) => s
    | (s, some st) => endInvocations s 0x6403_00 (fun a => a == n) st
  else s

/-- loan_drain_limit passed (R181): the close returns TIMEOUT and the entry stays CLOSING. -/
def loanDrainLimit (s : State) (n : Nat) : State :=
  if loanState s n = 3 then endInvocations s 0x6403_00 (fun a => a == n) stTimeout else s

/-- The argument of loan_hop_open (R189, R259). -/
def hopArgBytes (a : LoanHopArg) : List Byte :=
  bytesLE 2 a.loan ++ bytesLE 4 a.source ++ bytesLE 4 a.destination ++ bytesLE 1 a.mode ++ bytesLE 2 a.rate ++
    bytesLE 1 a.burst ++ bytesLE 2 a.hopWait ++ bytesLE 4 a.firstPage ++ bytesLE 4 a.pagesM1

def hopArgOf (bs : List Byte) : LoanHopArg :=
  let at0 (i n : Nat) : Nat := numLE ((bs.drop i).take n)
  { loan := at0 0 2, source := at0 2 4, destination := at0 6 4, mode := at0 10 1, rate := at0 11 2,
    burst := at0 13 1, hopWait := at0 14 2, firstPage := at0 16 4, pagesM1 := at0 20 4 }

/-- The argument's fields lie in the ranges of Table 8.6. -/
def hopArgOk (a : LoanHopArg) : Bool :=
  a.source < 2 ^ 22 && a.destination < 2 ^ 22 && a.mode ≤ 1 && 1 ≤ a.rate && a.rate ≤ 32000 && 1 ≤ a.burst &&
    a.burst ≤ 255 && 1 ≤ a.hopWait && a.hopWait ≤ 4095 && a.firstPage < 2 ^ 30 && a.pagesM1 < 2 ^ 30

/-- The row a hop installs (R189, step 3). -/
def hopRow (a : LoanHopArg) (role ingress egress window : Nat) : Nat :=
  role * 2 ^ 252 + a.mode * 2 ^ 251 + 2 ^ 250 + ingress * 2 ^ 247 + egress * 2 ^ 244 + a.loan * 2 ^ 228 +
    a.source * 2 ^ 206 + a.destination * 2 ^ 184 + a.rate * 2 ^ 168 + a.burst * 2 ^ 160 + a.hopWait * 2 ^ 148 +
    window * 2 ^ 138 + a.firstPage * 2 ^ 108 + a.pagesM1 * 2 ^ 78

/-- The staged entry as the argument of the first hop. -/
def hopArgOfRow (row : Nat) : LoanHopArg :=
  { loan := fld row 239 228, source := fld row 227 206, destination := fld row 205 184, mode := fld row 251 251,
    rate := fld row 183 168, burst := fld row 167 160, hopWait := fld row 159 148,
    firstPage := fld row 137 108, pagesM1 := fld row 107 78 }

/-- Open the next hop of an OPENING entry; without a request there is no loan (R189). -/
def loanAsks (s : State) (row : Nat) (a : LoanHopArg) : State × CmdOut :=
  match sendInvoke s (portAddress (fld row 246 244)) 0x6408_00 (hopArgBytes a) (.loanOpen a.loan) with
  | (s, none) => (s, .waits)
  | (s, some st) => (freeLoan s a.loan, .done st 0)

/-- Install an OPENING entry and open the next hop (R189, steps 1 to 3). -/
def loanOpening (s : State) (row : Nat) (a : LoanHopArg) : State × CmdOut :=
  match loanRefusal s row with
  | some st => (s, .done st 0)
  | none => loanAsks (loanInstall s row 1) row a

/-- loan_open at the origin (R189). -/
def loanOpenOp (s : State) : State × CmdOut :=
  let stage := get s 0x6401_00
  match egressOf s (ownId s) (fld stage 205 184) with
  | none => (s, .done stLinkLost 0)
  | some q => loanOpening s (setFld (setFld (setFld stage 253 252 0) 250 250 1) 246 244 q) (hopArgOfRow stage)

/-- The OPEN window that contains a landing range. -/
def landingWindow (s : State) (a : LoanHopArg) : Option Nat :=
  match (liveRows s 3 windowCn).find? (fun e =>
      winState e.2 == 1 && winBase e.2 ≤ a.firstPage * 4096 &&
        (a.firstPage + a.pagesM1 + 1) * 4096 ≤ winBase e.2 + winSize e.2 && !partitionDown s (winPartition e.2)) with
  | some e => some e.1
  | none => none

/-- Install an OPEN entry of a loan that ends here (R189). -/
def loanEndsHere (s : State) (row : Nat) : State × CmdOut :=
  match loanRefusal s row with
  | some st => (s, .done st 0)
  | none => (loanInstall s row 2, .done stOk 0)

/-- loan_hop_open that came by port `p` (R189): 0 of the host, the UDP port over Shelf net (log entry 28). -/
def loanHopOpenOp (p : Nat) (a : LoanHopArg) (s : State) : State × CmdOut :=
  if 4096 ≤ a.loan || portsOf s.part ≤ p then (s, .done stUnsupported 0)
  else if get s 0x640A_00 ≠ 1 then (s, .done stRights 0)
  else if !hopArgOk a then (s, .done stMalformed 0)
  else if a.destination = ownId s then
    match landingWindow s a with
    | none => (s, .done stMiss 0)
    | some w => loanEndsHere s (hopRow a 2 p 0 w)
  else
    match egressOf s (ownId s) a.destination with
    | none => (s, .done stLinkLost 0)
    | some q => loanOpening s (hopRow a 1 p q 0) a

/-- loan_hop_close (R190). -/
def loanHopCloseOp (n : Nat) (s : State) : State × CmdOut :=
  let row := loanRow s n
  if 4096 ≤ n then (s, .done stUnsupported 0)
  else if fld row 255 254 = 0 || !bit row 250 then (s, .done stEmpty 0)
  else if fld row 253 252 = 1 then
    match sendInvoke (freeLoan s n) (portAddress (fld row 246 244)) 0x6409_00 (closeArg n) (.loanClose n) with
    | (s, none) => (s, .waits)
    | (s, some st) => (s, .done st 0)
  else (freeLoan s n, .done stOk 0)

/-- The next hop has answered loan_hop_open (R189, steps 4 and 5). The command that waits returns its status, also
where a close has taken the entry meanwhile. -/
def loanOpened (s : State) (n status : Nat) : State :=
  let s :=
    if loanState s n ≠ 1 then s
    else if status = stOk then mirrorRow (setF s loanCn n 255 254 2) loanCn n
    else freeLoan s n
  endInvocations (endInvocations s 0x6407_00 (fun a => a == n) status) 0x6408_00 (fun a => a == n) status

/-- The next hop has answered loan_hop_close (R190). -/
def loanClosedBelow (s : State) (n status : Nat) : State :=
  let s := if loanState s n = 3 && loanRole s n = 0 then
      endInvocations (freeLoan s n) 0x6403_00 (fun a => a == n) (if status = stEmpty then stOk else status)
    else s
  endInvocations s 0x6409_00 (fun a => a == n) status

/-- An in-band request of this block's own is over: what waits for it goes on (R163, R189, R190). -/
def invokeAnswered (s : State) (purpose : MgmtPurpose) (status : Nat) : State :=
  match purpose with
  | .abort _ => s
  | .loanOpen n => loanOpened s n status
  | .loanClose n => loanClosedBelow s n status

/-- The first waiting MGMT_REQ is sent once a tracker is to be had (R56); a silent block sends none (R48). -/
def pumpMgmt (s : State) : State :=
  match s.switch.mgmtWaits with
  | [] => s
  | w :: ws =>
    let t := { s with switch.mgmtWaits := ws }
    if silent s then invokeAnswered t w.purpose stRetired
    else if !invokeReady s w.dst then s
    else
      match launchInvoke t w with
      | (t, none) => t
      | (t, some st) => invokeAnswered t w.purpose st

/-! ### LOAN_DATA (R183 to R188) -/

/-- The packet matches its entry. -/
def loanMatches (s : State) (p : Nat) (k : Packet) (role : Nat) : Bool :=
  let n := handleM k
  loanState s n == 2 && loanRole s n == role && loanSource s n == k.src && loanDest s n == k.dst &&
    loanIngress s n == p

/-- The central switch forwards (R14). -/
def forwards (s : State) : Bool := switchOn s && !silent s

/-- A LOAN_DATA that no entry takes (R183). In global stop one addressed here is discarded as any other packet is
(R302). -/
def loanUnknown (s : State) (p : Nat) (k : Packet) : State :=
  if stopped s && k.dst = ownId s then (if crcOk k then count64 s 0xC200_03 else crcFailure s p) else
  let s := report (count64 s 0x6410_03) 0x0E p k.src (knownEdition s k.src) (handleM k)
  if k.dst ≠ ownId s then s
  else if !crcOk k then crcFailure s p
  else donePacket (ackArrive s p k) k

/-- A packet at a terminus is compared with the latest counted one; a late one is dropped (R188). The
answer says whether it goes on. -/
def loanSequence (s : State) (k : Packet) : State × Bool :=
  let n := handleM k
  let row := getRow s 0x6406_00 n
  let d := subMod 16 (seqM k) (fld row 63 48)
  if !loanDiscards s n then (s, true)
  else if fld row 47 38 = k.issuer && !newer 16 (seqM k) (fld row 63 48) then
    (donePacket (countHopDiscard s n) k, false)
  else
    let gaps := if fld row 47 38 = k.issuer then d - 1 else 0
    (setRow s 0x6406_00 n (setFld (setFld (setFld row 95 64 (fld row 95 64 + gaps)) 63 48 (seqM k)) 47 38
      k.issuer), true)

/-- Terminus admission (R184). -/
def loanAdmit (s : State) (p : Nat) (k : Packet) : State :=
  let n := handleM k
  let refused (s : State) (st : Nat) : State :=
    refuseAdmission (setF s 0x6406_00 n 31 0 (getF s 0x6406_00 n 31 0 + 1)) p k st (offsetM k)
  match admission s [spanOf k] (askOf k) with
  | (s, .refuse st _) => refused s st
  | (s, .pass uses) =>
    let w := nth 0 0 uses / 2 ^ 32
    if w ≠ fld (loanRow s n) 147 138 then refused (odc (count64 (endUses s uses) 0x5000_06) 0x04 none none 1) stRights
    else startAccess s p k uses (windowRow s w)

/-- The checks at a terminus (R183): the destination edition, then the CRC-32C. A packet of another edition is dropped
as R44 says, and acknowledged if its CRC-32C passes (log entry 58). -/
def terminusChecks (s : State) (p : Nat) (k : Packet) : Verdict :=
  if stopped s then .stop (count64 s 0xC200_03)
  else if k.dstEdition ≠ ownEdition s then
    let s := count64 s 0x5400_02
    .stop (if crcOk k then donePacket (ackArrive s p k) k else s)
  else if !crcOk k then .stop (crcFailure s p)
  else
    let s := ackArrive s p k
    if retired s then .stop (donePacket (postedRefusal s p) k) else .go s

/-- What a terminus, or a block that holds no entry, does with a LOAN_DATA (R183, R184, R186, R188). -/
def loanLands (s : State) (p : Nat) (k : Packet) : State :=
  let n := handleM k
  if loanMatches s p k 2 then
    (if k.postHold && loanDiscards s n then countHopDiscard s n
     else
       match terminusChecks s p k with
       | .stop s => s
       | .go s =>
         match loanSequence s k with
         | (s, false) => s
         | (s, true) => if opcodeRules k then loanAdmit s p k else malformed s p k true)
  else loanUnknown s p k

/-- The handle of a chosen packet, from its operation slot. -/
def handleOf (t : TxPacket) : Nat := fld (nth 0 1 t.slots) 21 10

/-- A packet that waits in its channel is discarded there, and its slots are free (R217). -/
def discardWaiting (s : State) (w : RxWait) : State :=
  let rs := (lookupT (port s w.port).rxBuf w.k.vc).getD []
  let s := odc { s with switch.rxWaits := s.switch.rxWaits.erase w } 0x01 (some w.port) (some w.k) 1
  match rs.find? fun r => r.k == w.k with
  | some r =>
    let rest := rs.erase r
    freeRx (setPort s w.port fun x =>
        { x with rxBuf := if rest.isEmpty then eraseT x.rxBuf w.k.vc else insertT x.rxBuf w.k.vc rest })
      (some { port := w.port, vc := w.k.vc, slots := r.slots, pool := r.pool, late := false })
  | none => s

/-- A LOAN_DATA in transit waits on its port of arrival, for a place in queue `q` of port `p`, behind others of its
channel (R193). -/
def loanBehind (s : State) (p q n : Nat) (w : RxWait) : Bool :=
  w.k.opcode == opLoanData && handleM w.k == n && loanMatches s w.port w.k 1 && loanEgress s n == p &&
    queueFor w.k w.port == q && !beingReceived s w.port w.k

/-- A DISCARD-mode LOAN_DATA has waited hop_wait without beginning transmission (R186): the first of those that are
chosen, queued, at the head of their channel, or behind it. -/
def hopWaitPassed (s : State) (p q n : Nat) : State :=
  let mine (d : Desc) : Bool := d.k.vc == 4 && handleM d.k == n
  let chosen (t : TxPacket) : Bool := !t.begun && t.queue == q && t.vc == 4 && handleOf t == n
  if !loanDiscards s n then s
  else
    match (port s p).tx.find? chosen with
    | some t =>
      let s := setPort s p fun x => { x with tx := x.tx.erase t }
      freeRx (countHopDiscard (setQueue s p q (queueOf s p q)) n) t.rx
    | none =>
      match (queueOf s p q).find? mine with
      | some d => freeRx (countHopDiscard (setQueue s p q ((queueOf s p q).eraseP mine)) n) d.rx
      | none =>
        match s.switch.passWaits.find? fun w => w.egress == p && w.loan == some n && queueFor w.k w.port == q with
        | some w => freeRx (countHopDiscard { s with switch.passWaits := s.switch.passWaits.erase w } n) w.rx
        | none =>
          match s.switch.rxWaits.find? (loanBehind s p q n) with
          | some w => countHopDiscard (discardWaiting s w) n
          | none => s

/-- A port enters a grace hold: every DISCARD-mode LOAN_DATA queued for it that has not begun is discarded (R186). -/
def discardLoans (s : State) (p : Nat) : State :=
  let mine (d : Desc) : Bool := d.k.vc == 4 && loanDiscards s (handleM d.k)
  let chosen (t : TxPacket) : Bool := !t.begun && t.vc == 4 && loanDiscards s (handleOf t)
  let tx := (port s p).tx.filter chosen
  let s := forEach tx (fun s t => freeRx (countHopDiscard s (handleOf t)) t.rx)
    (setPort s p fun x => { x with tx := x.tx.filter fun t => !chosen t })
  let gone := (port s p).queues.flatMap (fun e => e.2.filter mine)
  forEach gone (fun t d => freeRx (countHopDiscard t (handleM d.k)) d.rx)
    (forEach (keysT (port s p).queues) (fun s q => setQueue s p q ((queueOf s p q).filter fun d => !mine d)) s)

/-- A slip whose packets on an expired pair are lost (R103). -/
def expireSlip (n issuer : Nat) (c : SlipCtx) : SlipCtx :=
  let lost (q : SlipReq) : Bool := q.sent && q.status.isNone && q.seq.isSome
  if slUseLoan c.bits && slLoan c.bits == n && c.issuer == issuer then
    { c with
      stopped := c.stopped || c.reqs.any lost
      reqs := c.reqs.map fun q => if lost q then { q with status := some stTimeout } else q }
  else c

/-- loan_expiry has passed for a pair on a DISCARD-mode loan (R187): what its slips sent on it is lost
without the lost flag (R103). -/
def loanExpires (s : State) (dst issuer : Nat) : State :=
  match pairOf s dst issuer with
  | none => s
  | some e =>
    let n := e.path - 1
    if e.path = 0 || unacked e = 0 || !loanDiscards s n || linkState s e.via == 2 then s
    else
      let s := { s with slips.ctxs := s.slips.ctxs.map (expireSlip n issuer) }
      let s := count64 (setOutstanding s issuer (outstanding s issuer - unacked e)) 0x6410_04
      settlePair s { e with lastAcked := e.lastSent }

/-- TERMINUS entries whose landing window the raise of an edition freed (R184). -/
def freeLoansIn (s : State) (windows : List Nat) : State :=
  forEach ((rowsOf s loanCn).filter fun e =>
      fld e.2 255 254 != 0 && fld e.2 253 252 == 2 && windows.contains (fld e.2 147 138))
    (fun t e => freeLoan t e.1) s

end Sys2Proof.Machine
end

