-- ==== Sys2Proof/Machine/Sequencer.lean ====
section
/-! DEFINITION. The sequencer cores: threads and their instructions (R153 to R160), their SENDs and gate
tokens, waits and their limits (R162, R163), the collective commands (R150, R154, R164) and the slices
(R166 to R168). -/

namespace Sys2Proof.Machine

/-! ### Threads and instruction words (R153, R156) -/

def programWord (s : State) (a : Nat) : Nat :=
  if domainOn s 18 then ((lookupT s.coll.program a).getD 0).toNat else 0

def inOp (w : Nat) : Nat := fld w 31 26
def inD (w : Nat) : Nat := fld w 25 22
def inA (w : Nat) : Nat := fld w 21 18
def inB (w : Nat) : Nat := fld w 17 14
def inImm14 (w : Nat) : Nat := fld w 13 0
def inImm22 (w : Nat) : Nat := fld w 21 0

/-- The listed ops of Table 7.5; every other acts as FAULT (R157). -/
def listedOp (op : Nat) : Bool :=
  (1 ≤ op && op ≤ 0x0E) || (0x10 ≤ op && op ≤ 0x14) || (0x18 ≤ op && op ≤ 0x1D) || (0x20 ≤ op && op ≤ 0x27) ||
    op == 0x3E || op == 0x3F

def reg (t : Thread) (n : Nat) : Word64 := nth 0 n t.regs

def setReg (t : Thread) (n : Nat) (v : Word64) : Thread := { t with regs := modifyNth (fun _ => v) n t.regs }

def dataWord (t : Thread) (n : Nat) : Word64 := nth 0 (n % 32) t.words

def setDataWord (t : Thread) (n : Nat) (v : Word64) : Thread :=
  { t with words := modifyNth (fun _ => v) (n % 32) t.words }

/-- The instruction has issued, and the thread goes on at `pc`. -/
def goTo (t : Thread) (pc : Nat) : Thread := { t with pc := pc % 16384, sinceTrace := t.sinceTrace + 1 }

def goOn (t : Thread) : Thread := goTo t (t.pc + 1)

/-- A slice's sequencer works: it stands in an active slice with power (R153, R166). -/
def sequencerRuns (s : State) (phys : Nat) : Bool := sliceState s phys == 0 && domainOn s (19 + phys)

/-- The thread of entry `e` may issue: its entry runs, its sequencer works, and it waits for nothing (R153, R159). -/
def readyThread (s : State) (e : Nat) : Option Thread :=
  if !unitsRun s 18 || ceState (ceRow s e) ≠ 2 then none
  else
    match thread? s e with
    | some t => if t.wait.isNone && sequencerRuns s t.phys then some t else none
    | none => none

/-- What a host read brings: registers by number, data words by 16 more (R157). -/
def readTargets : HostRead → List Nat
  | .toReg d => [d]
  | .toRecord d _ => [d]
  | .toData word n => (upFrom word n).map fun i => 16 + i % 32

/-- A host read of the thread has still to bring this register or data word (R157). -/
def awaited (t : Thread) (n : Nat) : Bool :=
  t.reads.any fun r => (readTargets r.dest).contains n && !r.late.contains n

/-- The registers and data words an instruction reads (Table 7.5). -/
def sourcesOf (w : Nat) : List Nat :=
  let op := inOp w
  let a := inA w
  let b := inB w
  if op = 0x06 || op = 0x07 || op = 0x0C || op = 0x1A || op = 0x1B || op = 0x1C || op = 0x23 || op = 0x26 ||
      op = 0x27 || op = 0x3E then [a]
  else if (1 ≤ op && op ≤ 0x0B) || (0x10 ≤ op && op ≤ 0x13) || op = 0x22 || op = 0x24 || op = 0x25 then [a, b]
  else if op = 0x0E || op = 0x19 then [inD w]
  else if op = 0x18 then [16 + inImm14 w % 32]
  else if op = 0x20 then [b, a, a + 1, a + 2, a + 3]
  else []

/-- A later instruction writes a register or data word: a read on its way there no longer brings it (R157; log
entry 62). -/
def overtake (t : Thread) (n : Nat) : Thread :=
  { t with reads := t.reads.map fun r => if r.late.contains n then r else { r with late := n :: r.late } }

/-- An instruction writes register `d`. -/
def writeReg (t : Thread) (d : Nat) (v : Word64) : Thread := setReg (overtake t d) d v

/-- Issue the instruction at the thread's pc when its op satisfies `is` and what it reads has come (R157); nothing
happens otherwise. -/
def issueOp (s : State) (e : Nat) (is : Nat → Bool) (f : Thread → Nat → State) : State :=
  match readyThread s e with
  | some t =>
    let w := programWord s t.pc
    if is (inOp w) && !(sourcesOf w).any (awaited t) then f t w else s
  | none => s

def putThread (s : State) (e : Nat) (t : Thread) : State := updEntry s e fun x => { x with thread := some t }

/-- An instruction that writes register d and goes on. -/
def seqSet (s : State) (e op : Nat) (f : Thread → Nat → Word64) : State :=
  issueOp s e (· == op) fun t w => putThread s e (goOn (writeReg t (inD w) (f t w)))

def rA (t : Thread) (w : Nat) : Word64 := reg t (inA w)
def rB (t : Thread) (w : Nat) : Word64 := reg t (inB w)

/-- A branch or jump is taken: it is traced (R295). -/
def takeBranch (s : State) (e : Nat) (t : Thread) (target : Nat) : State :=
  let src := threadSource t
  let pc := target % 16384
  if tracing s src e then
    putThread (traceRecord s src 0 e pc (min (t.sinceTrace + 1) (2 ^ 24 - 1))) e { t with pc := pc, sinceTrace := 0 }
  else putThread s e (goTo t pc)

/-- A branch on a relation of a and b. -/
def seqBranch (s : State) (e op : Nat) (taken : Word64 → Word64 → Bool) : State :=
  issueOp s e (· == op) fun t w =>
    if taken (rA t w) (rB t w) then takeBranch s e t (unsigned 14 (t.pc + signed 14 (inImm14 w)))
    else putThread s e (goOn t)

/-! ### Host pointers and reads (R149, R155) -/

def ptrSegment (v : Nat) : Nat := fld v 49 42
def ptrOffset (v : Nat) : Nat := fld v 41 0 / 8 * 8

/-- A thread reads host memory, and goes on (R155, R157). -/
def threadReads (s : State) (e : Nat) (t : Thread) (segment offset bytes : Nat) (dest : HostRead) : State :=
  let row := ceRow s e
  let t := (readTargets dest).foldl overtake t
  let r : ThreadRead := { id := t.nextRead, dest := dest, late := [], back := none }
  let s := putThread s e (goOn { t with reads := t.reads ++ [r], nextRead := t.nextRead + 1 })
  (hostAccess s (.seqRead e (entryRun s e).run r.id) none 0 (ceContext row) segment offset bytes [] false []
    (cePartition row)).2

/-- Offset of a rank's roster record, and its place in the 8 bytes it is read with. -/
def rosterAt (row rank : Nat) : Nat × Nat :=
  let off := (ceRosterOffset row + 4 * rank) % 2 ^ 42
  (off / 8 * 8, off % 8)

/-- A thread's host read is over: a fault ends the thread (R155). -/
def finishSeqRead (s : State) (a : Nat) (x : Access) (e run id : Nat) : State :=
  let s := closeAccess s a x
  if x.ignored then s
  else if x.status = 2 then runFaults s x e run
  else if !sameRun s e run then s
  else
    updThread s e fun t =>
      { t with reads := t.reads.map fun r => if r.id = id then { r with back := some (accessData x) } else r }

/-- The registers and data words a read brings, with their values. -/
def readValues (dest : HostRead) (bs : List Byte) : List (Nat × Word64) :=
  match dest with
  | .toReg d => [(d, BitVec.ofNat 64 (numLE (bs.take 8)))]
  | .toRecord d rank => [(d, BitVec.ofNat 64 (numLE ((bs.drop (4 * (rank % 16))).take 4)))]
  | .toData word n =>
    (upFrom 0 n).map fun i => (16 + (word + i) % 32, BitVec.ofNat 64 (numLE ((bs.drop (8 * i)).take 8)))

/-- Put a value where a read brings it. -/
def setTarget (t : Thread) (n : Nat) (v : Word64) : Thread :=
  if n < 16 then setReg t n v else setDataWord t (n - 16) v

/-- The result of a read is written where no later instruction has written; a roster line is kept (R157). -/
def takeRead (t : Thread) (r : ThreadRead) (bs : List Byte) : Thread :=
  let t := { t with reads := t.reads.erase r }
  let t := match r.dest with
    | .toRecord _ rank => { t with line := some (rank / 16, bs) }
    | _ => t
  ((readValues r.dest bs).filter fun v => !r.late.contains v.1).foldl (fun t v => setTarget t v.1 v.2) t

/-- The oldest host read of a thread that has come is written (R155, R157). -/
def seqReadDone (s : State) (e : Nat) : State :=
  match thread? s e with
  | none => s
  | some t =>
    match t.reads.find? fun r => r.back.isSome with
    | some r => putThread s e (takeRead t r (r.back.getD []))
    | none => s

/-! ### SENDs (R158) -/

/-- Elements of one packet of a stage. -/
def sendPer (st : Nat) : Nat :=
  if stLong st then 102 else 4096 / unitBytes (stInput st) * unitElements (stInput st)

/-- Source bytes of `n` elements. -/
def sendBytes (st n : Nat) : Nat :=
  if stLong st then 40 * n
  else (n + unitElements (stInput st) - 1) / unitElements (stInput st) * unitBytes (stInput st)

def sendPackets (st count : Nat) : Nat := (count + sendPer st - 1) / sendPer st

/-- First element and count of packet `p`. -/
def sendPiece (st : Nat) (j : SendJob) (p : Nat) : Nat × Nat :=
  (j.first + p * sendPer st, min (sendPer st) (j.count - p * sendPer st))

/-- A roster record that R26 rejects as a destination on REQ-A. -/
def badMember (record : Nat) : Bool := reservedId (fld record 21 0) || portLocal (fld record 21 0)

/-- A Collator packet from the roster record of its destination (R158, R160). -/
def collPacket (s : State) (e record opcode collective element format : Nat) (poison : Bool) (bs : List Byte) :
    Packet :=
  let n := cePartition (ceRow s e)
  sealed
    { blankPacket with
      partition := n, partitionEdition := partitionEdition s n, opspec := layoutC collective element format,
      dst := fld record 21 0
      dstEdition := if fld record 21 0 = ownId s then ownEdition s else fld record 29 22, src := ownId s, srcEdition := ownEdition s,
      opcode := opcode, slotCount := (bs.length + 15) / 16 % 256, lastByte := (bs.length + 15) % 16, vc := 0,
      poison := poison, data := slotsOf 0 bs }

def updJob (s : State) (e id : Nat) (f : SendJob → SendJob) : State :=
  updThread s e fun t => { t with sends := t.sends.map fun j => if j.id = id then f j else j }

def job? (s : State) (e id : Nat) : Option SendJob :=
  (thread? s e).bind fun t => t.sends.find? fun j => j.id == id

/-- The roster record of a SEND has come. -/
def finishSendRoster (s : State) (a : Nat) (x : Access) (e run id : Nat) : State :=
  let s := closeAccess s a x
  if x.ignored then s
  else if x.status = 2 then runFaults s x e run
  else if !sameRun s e run then s
  else
    match job? s e id with
    | none => s
    | some j =>
      let at0 := (rosterAt (ceRow s e) j.rank).2
      let record := numLE (((accessData x).drop at0).take 4)
      if badMember record then endEntry s e stAborted true
      else updJob s e id fun j => { j with roster := some record }

/-- A SEND's packet waits to leave its port; one that never came to its queue does so for good (R159, log entry 33). -/
def awaitsLeaving (s : State) (e : Nat) : State := updThread s e fun t => { t with unsent := t.unsent + 1 }

/-- The source of packet `p` of a SEND has come: the packet is formed and sent (R158, R138). -/
def finishSendSource (s : State) (a : Nat) (x : Access) (e run id p : Nat) : State :=
  let s := closeAccess s a x
  if x.ignored then s
  else if x.status = 2 then runFaults s x e run
  else if !sameRun s e run then s
  else
    match job? s e id with
    | none => s
    | some j =>
      let st := stRow s e j.stage
      let k := collPacket s e (j.roster.getD 0) (if stLong st then opContribLong else opContrib) (stId st)
        (sendPiece st j p).1 (stInput st) (x.status = 1) (accessData x)
      let s := match send s k (some run) with
        | .queued s => if k.dst = ownId s then s else awaitsLeaving s e
        | .unreachable s => awaitsLeaving s e
        | .flushed s => awaitsLeaving s e
      let s := updJob s e id fun i => { i with formed := i.formed + 1 }
      updThread s e fun t => { t with sends := t.sends.filter fun i => i.formed < i.packets }

/-- A mover reads for one packet at a time. -/
def moverBusy (s : State) (mover : Nat) : Bool :=
  s.host.accesses.any fun e =>
    match e.2.kind with
    | .sendSource _ _ _ _ m => m == mover && !e.2.ignored
    | _ => false

/-- A mover reads the source of the next packet of a SEND. -/
def readSource (s : State) (e : Nat) (j : SendJob) (mover : Nat) : State :=
  let row := ceRow s e
  let st := stRow s e j.stage
  let (_, n) := sendPiece st j j.next
  let off := (ptrOffset j.source + sendBytes st (j.next * sendPer st)) % 2 ^ 42
  let s := updJob s e j.id fun j => { j with next := j.next + 1 }
  (hostAccess s (.sendSource e (entryRun s e).run j.id j.next mover) none 0 (ceContext row) (ptrSegment j.source) off
    (sendBytes st n) [] false [] (cePartition row)).2

/-- Ask for the roster record of a SEND. -/
def readRoster (s : State) (e : Nat) (j : SendJob) : State :=
  let row := ceRow s e
  let s := updJob s e j.id fun j => { j with asked := true }
  (hostAccess s (.sendRoster e (entryRun s e).run j.id) none 0 (ceContext row) (ceRosterSegment row) (rosterAt row j.rank).1 8 []
    false [] (cePartition row)).2

/-- One move of a SEND, when it has one to make: its packet `p` goes to the mover of slice p mod n (R158). -/
def moveSend (s : State) (e : Nat) (j : SendJob) : State :=
  match j.roster with
  | none => if j.asked then s else readRoster s e j
  | some _ =>
    if j.packets ≤ j.next then s
    else
      match physOf s (j.next % max 1 (activeSlices s)) with
      | some mover => if moverBusy s mover then s else readSource s e j mover
      | none => s

/-! ### Gate tokens (R160) -/

/-- The roster record of a token's rank has come: the token is sent. -/
def finishTokenRoster (s : State) (a : Nat) (x : Access) (e run gate rank : Nat) : State :=
  let s := closeAccess s a x
  if x.ignored then s
  else if x.status = 2 then runFaults s x e run
  else
    match (thread? s e).bind fun t => if sameRun s e run then t.tokens.head? else none with
    | none => s
    | some j =>
      if j.gate ≠ gate || j.next ≠ rank || !j.asked then s
      else
        let row := ceRow s e
        let record := numLE (((accessData x).drop (rosterAt row rank).2).take 4)
        if badMember record then endEntry s e stAborted true
        else
          let s := (send s (collPacket s e record opContrib (ceGate row) gate 0x06 false [1]) none).state
          updThread s e fun t =>
            { t with tokens := if j.left ≤ 1 then t.tokens.tail
                               else { j with next := rank + 1, left := j.left - 1, asked := false } :: t.tokens.tail }

/-- Ask for the roster record of the next token's rank. -/
def moveToken (s : State) (e : Nat) : State :=
  match thread? s e with
  | some t =>
    match t.tokens with
    | j :: js =>
      if j.asked then s
      else
        let row := ceRow s e
        let s := updThread s e fun t => { t with tokens := { j with asked := true } :: js }
        (hostAccess s (.tokenRoster e (entryRun s e).run j.gate j.next) none 0 (ceContext row) (ceRosterSegment row)
          (rosterAt row j.next).1 8 [] false [] (cePartition row)).2
    | [] => s
  | none => s

/-- Ask host memory for the roster record of the running fan-out's next member (R163): one whose partition is in reset is
passed (R315, log entry 33). -/
def moveFanout (s : State) : State :=
  match s.coll.fanouts with
  | f :: fs =>
    if f.asked || f.left = 0 then s
    else if !partitionLive s f.partition then
      { s with coll.fanouts := { f with asked := true, record := some none } :: fs }
    else
      let s := { s with coll.fanouts := { f with asked := true } :: fs }
      (hostAccess s (.fanoutRoster f.entry f.next) none 0 f.context f.segment ((f.offset + 4 * f.next) % 2 ^ 42 / 8 * 8) 8
        [] false [] f.partition).2
  | [] => s

/-- The running fan-out and the movers of every running entry make what moves they can. -/
def pumpThreads (s : State) : State :=
  if !unitsRun s 18 || silent s then s
  else
    forEach ((rowsOf s entryCn).filter fun e => ceState e.2 == 2) (fun s e =>
      let s := moveToken s e.1
      forEach (((thread? s e.1).map (·.sends)).getD []) (fun s j => moveSend s e.1 j) s) (moveFanout s)

/-! ### The instructions that do more than set a register -/

/-- The registers a SEND reads from `a` on; those past g15 are a host error's free values (R12; log entry 51). -/
def sendRegs (s : State) (t : Thread) (a : Nat) : List Word64 × State :=
  if a ≤ 12 then (t.regs, s)
  else
    let (x, s) := freeValue s 64
    let (y, s) := freeValue s 64
    let (z, s) := freeValue s 64
    (t.regs ++ [BitVec.ofNat 64 x, BitVec.ofNat 64 y, BitVec.ofNat 64 z], s)

/-- SEND (R158). Each thread has a queue of 16 (log entry 32). -/
def seqSendOp (s : State) (e : Nat) : State :=
  issueOp s e (· == 0x20) fun t w =>
    let (rs, s) := sendRegs s t (inA w)
    let x (i : Nat) : Nat := (nth 0 (inA w + i) rs).toNat
    let rank := x 0
    let first := x 2
    let n := x 3
    if 16 ≤ t.sends.length then s
    else if ceMembers (ceRow s e) ≤ rank || (n ≠ 0 && 2 ^ 32 < first + n) then endEntry s e stAborted true
    else if n = 0 then putThread s e (goOn t)
    else
      let j : SendJob :=
        { id := t.nextSend, stage := (rB t w).toNat % 4, rank := rank, source := x 1,
          first := first, count := n, roster := none, asked := false
          packets := sendPackets (stRow s e ((rB t w).toNat % 4)) n, next := 0, formed := 0 }
      putThread s e (goOn { t with sends := t.sends ++ [j], nextSend := t.nextSend + 1 })

/-- Tokens to `left` ranks from `first` (R160). -/
def seqTokens (s : State) (e : Nat) (t : Thread) (gate first left : Nat) : State :=
  putThread s e (goOn { t with tokens := t.tokens ++ [{ gate := gate, next := first, left := left, asked := false }] })

/-- The packets of the thread's SENDs have all left their ports (R159). -/
def sendsLeft (t : Thread) : Bool := t.sends.isEmpty && t.unsent == 0

/-- The condition of a wait holds (R159). -/
def waitHolds (s : State) (e : Nat) (t : Thread) : Bool :=
  match t.wait with
  | none => false
  | some .sends => sendsLeft t
  | some (.done _) => sendsLeft t
  | some (.closed stage n) => n ≤ nth 0 stage (entryRun s e).closed
  | some (.gate g n) => n ≤ gateCount s e g

/-- DONE ends the thread once its SENDs have left (R159, R161). -/
def threadDone (s : State) (e step : Nat) : State :=
  endEntry (updEntry s e fun x => { x with endStep := step }) e stOk true

/-- A wait's condition holds: the thread goes on, or ends at its DONE (R159). -/
def waitMet (s : State) (e : Nat) : State :=
  match thread? s e with
  | none => s
  | some t =>
    if !unitsRun s 18 || ceState (ceRow s e) ≠ 2 || !waitHolds s e t then s
    else
      match t.wait with
      | some (.done step) => threadDone s e step
      | _ => putThread s e (goOn { t with wait := none })

/-- A wait has lasted too long: wait_limit for an entry that is not guarded (R162), half of guard_bound for a
guarded one (R163). -/
def waitExpires (s : State) (e : Nat) (guarded : Bool) : State :=
  match thread? s e with
  | none => s
  | some t =>
    if unitsRun s 18 && ceState (ceRow s e) == 2 && t.wait.isSome && ceGuarded (ceRow s e) == guarded then
      endEntry (count64 s 0x7110_05) e (if guarded then stAborted else stTimeout) true
    else s

/-! ### Fan-out of aborts (R163) -/

/-- The argument of collective_abort (R164, R259). -/
def abortArg (gate status : Nat) : List Byte := bytesLE 4 gate ++ bytesLE 1 status

/-- The running fan-out moves to the next rank. -/
def fanoutNext (s : State) (f : Fanout) (fs : List Fanout) : State :=
  { s with coll.fanouts :=
      if f.left ≤ 1 then fs
      else { f with next := (f.next + 1) % f.members, left := f.left - 1, asked := false, record := none } :: fs }

/-- It is `rank`'s turn in the running fan-out (R163). -/
def fanoutAt (s : State) (rank : Nat) : Bool := s.coll.fanouts.head?.any fun f => f.next == rank

/-- One invocation of the running fan-out, once the roster record of its member has come: host memory that faulted
passes the rank. Without a tracker the invocation waits (R56). -/
def fanoutInvokes (s : State) : State :=
  match s.coll.fanouts with
  | [] => s
  | f :: fs =>
    if f.left = 0 then { s with coll.fanouts := fs }
    else
      match f.record with
      | none => s
      | some none => fanoutNext s f fs
      | some (some record) =>
        if badMember record then fanoutNext s f fs
        else
          fanoutNext (sendInvoke s (fld record 21 0) 0x7300_03 (abortArg f.gate f.status) (.abort f.entry)).1 f fs

/-- The roster record of the running fan-out's next member has come, or its read faulted (R345). -/
def finishFanoutRoster (s : State) (a : Nat) (x : Access) (e rank : Nat) : State :=
  let s := closeAccess s a x
  let s := if x.status = 2 && !x.ignored then reportFault s x else s
  match s.coll.fanouts with
  | [] => s
  | f :: fs =>
    if f.entry ≠ e || f.next ≠ rank || !f.asked || f.record.isSome then s
    else
      let got := if x.status = 2 || x.ignored then none
        else some (numLE (((accessData x).drop ((f.offset + 4 * rank) % 8)).take 4))
      { s with coll.fanouts := { f with record := some got } :: fs }

/-! ### Commands -/

/-- Identifiers of an entry that is not FREE. -/
def entryIds (s : State) (e : Nat) : List Nat :=
  let row := ceRow s e
  ceGate row :: (upFrom 0 (ceStages row)).map fun k => stId (stRow s e k)

def stagedRow (s : State) (k : Nat) : Nat := fld (get s 0x7103_00) (256 * k + 255) (256 * k)

/-- No value occurs twice. -/
def distinct : List Nat → Bool
  | [] => true
  | x :: xs => !xs.contains x && distinct xs

/-- collective_open (R150). -/
def collectiveOpenOp (e : Nat) (s : State) : State × CmdOut :=
  let row := get s 0x7101_00
  let ids := ceGate row :: (upFrom 0 (ceStages row)).map fun k => stId (stagedRow s k)
  let others := ((rowsOf s entryCn).filter fun x => ceState x.2 != 0).flatMap fun x => entryIds s x.1
  if 256 ≤ e then (s, .done stUnsupported 0)
  else if ceGuarded row && 4096 < ceMembers row then (s, .done stUnsupported 0)
  else if !domainOn s 18 || ceState (ceRow s e) ≠ 0 then (s, .done stBusy 0)
  else if ids.any others.contains then (s, .done stBusy 0)
  else if !distinct ids then (s, .done stMalformed 0)
  else
    let s := setRow s entryCn e (setFld (setFld row 255 254 1) 4 0 0)
    let s := forEach (upFrom 0 (ceStages row)) (fun s k => setRow s stageCn (4 * e + k) (stagedRow s k)) s
    let s := setRow s gateCn e 0
    let s := { s with coll.runs := s.coll.runs + 1 }
    (setEntryRun s e { EntryRun.reset with run := s.coll.runs }, .done stOk 0)

/-- The thread of entry `e` at its start (R153). -/
def newThread (row e phys : Nat) : Thread :=
  { regs := [BitVec.ofNat 64 (ceRank row), BitVec.ofNat 64 (ceMembers row), BitVec.ofNat 64 e,
             BitVec.ofNat 64 (ceParams row)] ++ List.replicate 12 0
    pc := ceStart row, words := List.replicate 32 0, phys := phys, wait := none, reads := [], nextRead := 0, line := none,
    sends := [], nextSend := 0, tokens := [], unsent := 0, sinceTrace := 0 }

/-- The physical slice of a logical active slice, or the spare that is to take its number (R153, R166). -/
def homeOf (s : State) (k : Nat) : Nat :=
  match physOf s k with
  | some i => i
  | none => ((s.coll.substituting.filter fun x => x.2 == k).map (·.1)).getD 0

/-- collective_start (R150, R319). -/
def collectiveStartOp (e : Nat) (s : State) : State × CmdOut :=
  let row := ceRow s e
  let phys := homeOf s (e % max 1 (activeSlices s))
  if 256 ≤ e then (s, .done stUnsupported 0)
  else if !domainOn s 18 || ceState row ≠ 1 || gateShut s (cePartition row) (ceContext row) then (s, .done stBusy 0)
  else if 64 ≤ threadsOn s phys then (s, .done stBusy 0)
  else
    let t := newThread row e phys
    let s := setF s entryCn e 255 254 2
    let s := updEntry s e fun x => { x with thread := some t }
    (traceRecord s (threadSource t) 1 e (ceStart row) 0, .done stOk 0)

/-- collective_abort (R164). -/
def collectiveAbortOp (rq : Requester) (gate : Nat) (s : State) : State × CmdOut :=
  match gateOf s gate with
  | none => (s, .done stEmpty 0)
  | some e =>
    let row := ceRow s e
    if (rq.cls == .endpoint || (rq.cls == .neighbour && ordinary rq.ident)) &&
        (!ceGuarded row || rq.ident < ceLo row || ceHi row < rq.ident) then
      (s, .done stRights 0)
    else (endEntry s e stAborted false, .done stOk 0)

/-- Words of program memory as bytes. -/
def programBytes (s : State) : List Byte :=
  (upFrom 0 16384).flatMap fun a => bytesLE 4 ((lookupT s.coll.program a).getD 0).toNat

def putProgram (s : State) (a v : Nat) : State :=
  { s with coll.program := if v % 2 ^ 32 = 0 then eraseT s.coll.program a
                           else insertT s.coll.program a (BitVec.ofNat 32 v) }

/-- The extent of program_load_stage: words, and the first word written (R154). -/
def loadWords (stage : Nat) : Nat := fld stage 65 52 + 1
def loadFirst (stage : Nat) : Nat := fld stage 51 38

/-- The first status that stops a load before it reads. -/
def programRefusal (s : State) : Option Nat :=
  if !domainOn s 18 || (rowsOf s entryCn).any fun e => 2 ≤ ceState e.2 then some stBusy
  else if 16384 < loadFirst (get s 0x7200_01) + loadWords (get s 0x7200_01) then some stUnsupported
  else none

/-- The image of a load has come, or its read faulted: then the extent is unpredictable (R154). -/
def programLoaded (image : Option (List Byte)) (stage : Nat) (s : State) : State × Nat :=
  match image with
  | none =>
    let (n, s) := draw s
    let s := forEach (upFrom 0 (loadWords stage)) (fun s i => putProgram s (loadFirst stage + i) (Config.freeProgramWord n i)) s
    (reportFaultAt s 16 (fld stage 127 116), stMiss)
  | some bs =>
    let (n, s) := draw s
    let byte (i : Nat) : Byte := if i < bs.length then nth 0 i bs else BitVec.ofNat 8 (Config.freeByte n i)
    let word (i : Nat) : Nat := numLE [byte (4 * i), byte (4 * i + 1), byte (4 * i + 2), byte (4 * i + 3)]
    let s := forEach (upFrom 0 (loadWords stage)) (fun s i => putProgram s (loadFirst stage + i) (word i)) s
    (set s 0x7200_03 (crc32c (programBytes s)), stOk)

/-- program_load with the bytes host memory returns. -/
def programLoadOp (image : Option (List Byte)) (s : State) : State × CmdOut :=
  match programRefusal s with
  | some st => (s, .done st 0)
  | none =>
    let (s, st) := programLoaded image (get s 0x7200_01) s
    (s, .done st 0)

/-- program_load that reads host memory itself, and waits for it. -/
def programLoadReads (s : State) : State × CmdOut :=
  match programRefusal s with
  | some st => (s, .done st 0)
  | none =>
    let stage := get s 0x7200_01
    ((hostAccess s (.programLoad stage) none 0 (fld stage 127 116) (fld stage 115 108) (fld stage 107 66) (4 * loadWords stage)
      [] false [] 16).2, .waits)

/-! ### Slices (R166 to R168) -/

/-- The spare of the part, if one stands ready or under test and is powered. -/
def spareSlice (s : State) : Option Nat :=
  (upFrom 0 (slicesOf s.part)).find? fun i =>
    (sliceState s i == 1 || sliceState s i == 2) && domainOn s (19 + i) &&
      s.coll.substituting.all fun x => x.1 != i

def sliceSelfTestOp (s : State) : State × CmdOut :=
  match spareSlice s with
  | some i =>
    if sliceState s i = 1 then ({ set s (sliceCn i) 0x80 with coll.testing := true }, .waits)
    else (s, .done stBusy 0)
  | none => (s, .done stBusy 0)

/-- The 1.5 ms of a self-test are over (R167). -/
def selfTestEnds (s : State) (pass : Bool) : State :=
  if !s.coll.testing then s
  else
    let s := { s with coll.testing := false }
    let s := match (upFrom 0 (slicesOf s.part)).find? fun i => sliceState s i == 2 with
      | some i => set s (sliceCn i) (if pass then 0x40 else 0xC0)
      | none => s
    endInvocations s 0x7401_00 (fun _ => true) (if pass then stOk else stAborted)

/-- A SEND has a packet that waits in the mover of a logical slice (R158). -/
def waitsInMover (s : State) (logical : Nat) (j : SendJob) : Bool :=
  (upFrom j.next (j.packets - j.next)).any fun p => p % max 1 (activeSlices s) == logical

/-- Entries that a failed slice takes with it: their thread, a tile, or a packet of its mover is there (R166). -/
def entriesOn (s : State) (phys logical : Nat) : List Nat :=
  (keysT (rowsOf s entryCn)).filter fun e =>
    (thread? s e).any (fun t => t.phys == phys || t.sends.any (waitsInMover s logical)) ||
      s.coll.tiles.any (fun y => y.entry == e && y.phys == phys && y.phase != 1) ||
      s.host.accesses.any fun a =>
        match a.2.kind with
        | .sendSource e' _ _ _ m => e' == e && m == phys && !a.2.ignored
        | _ => false

/-- Number the surviving active slices, and a spare on its way in, in physical order (R168). -/
def renumber (s : State) : List Nat → Nat → State
  | [], _ => s
  | i :: is, k =>
    if sliceState s i = 0 then renumber (set s (sliceCn i) k) is (k + 1)
    else if s.coll.substituting.any fun x => x.1 == i then
      renumber { s with coll.substituting := some (i, k) } is (k + 1)
    else renumber s is k

/-- A hard failure of a slice (R166, R168). -/
def sliceFails (s : State) (phys kind : Nat) : State :=
  let code := 0x2300 + phys
  if slicesOf s.part ≤ phys || sliceState s phys = 3 then s
  else if sliceState s phys ≠ 0 then
    let coming := s.coll.substituting.any fun x => x.1 == phys
    let s := set s (sliceCn phys) 0xC0
    let s := { s with coll.substituting := if coming then none else s.coll.substituting }
    let s := if s.coll.testing then
        endInvocations { s with coll.testing := false } 0x7401_00 (fun _ => true) stAborted
      else s
    let s := hardFailure s 0 15 code kind 2 0
    if coming then renumber (set s 0x1010_02 (activeSlices s - 1)) (upFrom 0 (slicesOf s.part)) 0 else s
  else
    let logical := sliceLogical s phys
    let s := forEach (entriesOn s phys logical) (fun s e => endEntry s e stAborted true) s
    match spareSlice s with
    | some spare =>
      let s := if s.coll.testing then
          endInvocations { set s (sliceCn spare) 0x40 with coll.testing := false } 0x7401_00 (fun _ => true)
            stPreempted
        else s
      hardFailure { set s (sliceCn phys) 0xC0 with coll.substituting := some (spare, logical) } 0 15 code kind 0 0
    | none =>
      let s := set (set s (sliceCn phys) 0xC0) 0x1010_02 (activeSlices s - 1)
      hardFailure (renumber s (upFrom 0 (slicesOf s.part)) 0) 0 15 code kind 1 0

/-- The spare takes the failed slice's logical number (Table 7.8, step 4). -/
def substitutionDone (s : State) : State :=
  match s.coll.substituting with
  | none => s
  | some (phys, k) =>
    count32 { set s (sliceCn phys) k with coll.substituting := none } 0x7402_00

end Sys2Proof.Machine
end

