-- ==== Sys2Proof/Machine/Trackers.lean ====
section
/-! DEFINITION. What completes a tracker: its response, its timeout, or the failure of the tracker
itself (R55 to R57, R325). -/

namespace Sys2Proof.Machine

/-- Status of a message of one item: the message's own, or else its item's (R268, R269). -/
def messageStatus (k : Packet) : Nat :=
  let m := fld (nth 0 0 k.data) 111 104
  if m = stOk then fld (nth 0 1 k.data) 35 28 else m

/-- The status a response carries: of an MGMT_RSP its message's (R275), of any other its header's (R57). -/
def responseStatus (k : Packet) : Nat := if k.opcode = opMgmtRsp then messageStatus k else statusS k

/-- Tell the work a tracker belongs to that its request has completed: `offset` and `hold` are those of the
response, `bs` the data an engine takes, `rd` the bytes of a READ. -/
def ownerDone (s : State) (t : Tracker) (status offset hold : Nat) (bs rd : List Byte) : State :=
  match t.owner with
  | .engine a piece => espPieceDone s a piece status bs
  | .slip tray k r =>
    if status = stOk && t.opcode = opRead then pulled s tray k r rd else endReq s tray k r status none
  | .probe tray k => probeAnswered s tray k status offset hold t.dst t.issuer
  | .mgmt purpose => invokeAnswered s purpose status

/-- Spare trackers (Table 14.12). -/
def trackerSpares : Nat := 512

/-- The first spare tracker that stands for no index and has not failed (R325, R360). -/
def freeSpareTracker (s : State) : Option Nat :=
  (upFrom 0 trackerSpares).find? fun j =>
    !s.recovery.badTrackers.contains j && !(s.recovery.spareTrackers.any fun e => e.2 == j)

/-- A failed tracker's index, its request over: a spare takes it, or the index goes out of use and `trackers` falls by
one (R325). The spare that stood for it has failed with it. -/
def replaceTracker (s : State) (i kind : Nat) : State :=
  let s := match lookupT s.recovery.spareTrackers i with
    | some j => { s with recovery.badTrackers := s.recovery.badTrackers ++ [j] }
    | none => s
  match freeSpareTracker s with
  | some j =>
    let s := { s with recovery.spareTrackers := insertT s.recovery.spareTrackers i j }
    hardFailure (set s 0xF101_01 s.recovery.spareTrackers.length) 0 15 0x2200 kind 0 i
  | none =>
    let s := { s with switch.retired := s.switch.retired ++ [i],
                      recovery.spareTrackers := eraseT s.recovery.spareTrackers i }
    let s := set s 0xF101_01 s.recovery.spareTrackers.length
    let s := set s 0xF101_02 (get s 0xF101_02 + 1)
    let s := set s 0x1010_03 (get s 0x1010_03 - 1)
    hardFailure s 0 15 0x2200 kind 1 i

/-- Complete tracker `i`: `again` keeps its index out of use until request_timeout has passed once more. -/
def completeTracker (s : State) (i : Nat) (t : Tracker) (status : Nat) (again : Bool)
    (offset hold : Nat) (bs rd : List Byte) : State :=
  let s := releaseTracker s i t status again
  let s := if t.stuck then replaceTracker s i 2 else s
  ownerDone s t status offset hold bs rd

/-- Complete a tracker without a response, by a rule of this block (Table 3.7). -/
def endTracker (s : State) (i status : Nat) (again : Bool) : State :=
  match lookupT s.switch.trackers i with
  | none => s
  | some t => completeTracker s i t status again 0 0 [] []

/-- Complete every tracker that `p` picks. -/
def endTrackers (s : State) (p : Tracker → Bool) (status : Nat) (again : Bool) : State :=
  forEach ((s.switch.trackers.filter fun e => p e.2).map Prod.fst) (fun t i => endTracker t i status again) s

/-- A READ_RSP with status OK fits the READ its tracker holds (Table 3.8). -/
def readFits (t : Tracker) (k : Packet) : Bool := t.slotCount == k.slotCount && t.lastByte == k.lastByte

/-- The response opcode of a request (Table 3.4, R52). -/
def responseTo (op : Nat) : Nat :=
  if op = opRead then opReadRsp
  else if op = opAtomicFetch then opAtomicRsp
  else if op = opLedgerRead || op = opLedgerReadClear then opLedgerRsp
  else if op = opProbe then opProbeRsp
  else if op = opMgmtReq then opMgmtRsp
  else opStatusRsp

/-- The MGMT_RSP of an INVOKE is a RESPONSE of the length received (R268, R269): its one item with a status of Table
0.5, or no item and a message status that says why. -/
def invokeFits (k : Packet) : Bool :=
  let m := messageOf (dataBytes k)
  let status := fld (nth 0 0 k.data) 111 104
  m.version == 1 && m.type == 2 && m.length == 16 * k.data.length && statuses.contains status &&
    match m.count, itemsOf m.count m.body with
    | 0, some _ => status != stOk
    | 1, some items => items.all (fun i => i.op == 2) && statuses.contains (messageStatus k)
    | _, _ => false

/-- A response fits the request its tracker holds (R52, Table 3.4, Table 3.8): its opcode is the request's, with OK in
a READ_RSP only for the extent asked for, or it is a STATUS_RSP, with OK only for a WRITE_ACK. An MGMT_RSP carries
the RESPONSE of an INVOKE (log entry 60). -/
def answerFits (t : Tracker) (k : Packet) : Bool :=
  if k.opcode = opStatusRsp then t.opcode == opWriteAck || statusS k != stOk
  else if k.opcode ≠ responseTo t.opcode then false
  else if k.opcode = opReadRsp then statusS k != stOk || readFits t k
  else if k.opcode = opMgmtRsp then invokeFits k
  else true

/-- A response arrives (R55, R57, R63 step 5): it completes its tracker, or is dropped and counted. -/
def responseArrives (s : State) (p : Nat) (k : Packet) : State :=
  match arrive s p k (fun _ => true) with
  | .stop s => s
  | .go s =>
    match tagMatches s p k with
    | none => count64 s 0x8050_04
    | some t =>
      if !answerFits t k then malformed s p k true
      else
        completeTracker s k.tracker t (responseStatus k) false (offendingS k) (holdS k)
          (espRspData t k) (espRspData.extentBytesOf k t)

/-- request_timeout has passed since the request was sent (R56). -/
def trackerTimesOut (s : State) (i : Nat) : State :=
  match lookupT s.switch.trackers i with
  | none => s
  | some _ => endTracker (count64 s 0x8050_03) i stTimeout true

/-- request_timeout has passed a second time: the index may be taken again (R56, R226). -/
def trackerRested (s : State) (i : Nat) : State :=
  { s with switch.quarantine := s.switch.quarantine.filter (· != i) }

/-- A tracker fails for good (R325). A stuck one that holds a request is replaced when that completes. -/
def indexFails (s : State) (i : Nat) (stuck : Bool) : State :=
  if trackerCount ≤ i || s.switch.retired.contains i then s
  else
    match lookupT s.switch.trackers i with
    | some t =>
      if stuck then
        { s with switch.trackers := insertT s.switch.trackers i { t with stuck := true } }
      else endTracker (replaceTracker (count64 s 0x8050_03) i 0) i stTimeout true
    | none => replaceTracker s i (if stuck then 2 else 0)

/-- Spare tracker `j` fails (R360): as the index it stands for; one that stands for none is never used (log entry 30). -/
def spareTrackerFails (s : State) (j : Nat) (stuck : Bool) : State :=
  if trackerSpares ≤ j || s.recovery.badTrackers.contains j then s
  else
    match s.recovery.spareTrackers.find? fun e => e.2 == j with
    | some e => indexFails s e.1 stuck
    | none =>
      hardFailure { s with recovery.badTrackers := s.recovery.badTrackers ++ [j] } 0 15 0x2200
        (if stuck then 2 else 0) 2 (trackerCount + j)

/-- A tracker fails: those from `trackerCount` on are the spares (R360). -/
def trackerFails (s : State) (i : Nat) (stuck : Bool) : State :=
  if i < trackerCount then indexFails s i stuck else spareTrackerFails s (i - trackerCount) stuck

end Sys2Proof.Machine
end

