-- ==== Sys2Proof/Machine/Recovery.lean ====
section
/-! DEFINITION. Editions, retirement, hangs, partition resets and the replay gate (R43, R45, R48, R86, R87,
R117, R311 to R319). -/

namespace Sys2Proof.Machine

/-! ### Commissioning state (R265) -/

/-- The CRC-32C of every RWC value in call-number order (Table 15.7). -/
def rwcDigest (s : State) : Nat :=
  let cns := (objects.filter fun o => o.access == .rwc).flatMap fun o =>
    (upFrom o.first (o.lastIn s.part + 1 - o.first)).map fun i => o.index * 256 + i
  crc32c (cns.flatMap fun cn => bytesLE (valueWidth s cn) (get s cn))

/-- The commissioning state changes, with its COMMISSION record (R265, Table 15.7). A block that leaves
IN_SERVICE is UNPAIRED (Table 15.1). -/
def setCommission (s : State) (v : Nat) (path : Path) : State :=
  let old := commission s
  let detail := old * 2 ^ 302 + v * 2 ^ 300 + ownId s * 2 ^ 278 + ownEdition s * 2 ^ 270 + rwcDigest s * 2 ^ 238
  let s := set s 0x1100_00 v
  let s := logRequested s 0x12 0 { cls := path, ident := 0, port := 0 } detail
  if old = 2 && v ≠ 2 then setPairing s 0 else s

/-! ### Edition exceptions (R43) -/

def validException (v : Nat) : Bool := bit v 31

/-- The first row that holds no valid entry. -/
def freeException (s : State) : Option Nat :=
  let used := (rowsOf s 0x5300_00).filter fun e => validException e.2
  (upFrom 0 (used.length + 1)).find? fun r => r < 4096 && !validException (getRow s 0x5300_00 r)

def exceptionBits (ep ed : Nat) : Nat := 2 ^ 31 + ed % 256 * 2 ^ 22 + ep % 2 ^ 22

/-- edition_exception_set (R43). A newer edition of a peer frees its report rows (R322). -/
def exceptionSet (ep ed : Nat) (s : State) : State × CmdOut :=
  let row := match exceptionOf s ep with
    | some e => some e.1
    | none => freeException s
  match row with
  | none => (s, .done stBusy 0)
  | some r =>
    (exceptionKnown (mirrorRow (setRow s 0x5300_00 r (exceptionBits ep ed)) 0x5300_00 r) ep ed, .done stOk 0)

/-- edition_exception_clear (R43). -/
def exceptionClear (ep : Nat) (s : State) : State × CmdOut :=
  match exceptionOf s ep with
  | none => (s, .done stEmpty 0)
  | some e => (mirrorRow (setRow s 0x5300_00 e.1 0) 0x5300_00 e.1, .done stOk 0)

/-- fence_lost_mark (R86): every pair to a destination with packets unacknowledged is abandoned; one with only a poll
unanswered is not (log entry 76). -/
def fenceLostMarkOp (dst : Nat) (s : State) : State × CmdOut :=
  (abandonPairs s (fun e => (dst == 0x3FFFFF || e.dst == dst) && unacked e != 0) true, .done stOk 0)

/-! ### Accesses that lose their ground -/

/-- Take back what has not been accepted of an access. A WRITE_UNLOCK stays, with no byte enabled. The
later completions are taken and ignored (R45). -/
def cancelAccess (s : State) (a : Nat) : State :=
  let s := withdraw s a
  let s := { s with host.queues := s.host.queues.map fun e =>
    (e.1, e.2.map fun r => if r.access = a && !isValid s e.1 r then { r with enabled := false, data := [] } else r) }
  let queued := (s.host.queues.map fun e => (e.2.filter fun r => r.access == a).length).foldl (· + ·) 0
  let out := (s.host.outstanding.filter fun e => e.2.access == a).length
  let s := updAccess s a fun x => { x with ignored := true, toAccept := queued, toComplete := queued + out }
  markReady s a

/-- An access admitted under a window whose partition's edition is raised (R45). -/
def dropAccess (s : State) (a : Nat) : State :=
  match access? s a with
  | none => s
  | some x =>
    if x.ignored then s
    else
      match x.kind with
      | .pktRead p k | .pktWrite p k | .pktLedger p k | .atomicLock p k | .atomicUnlock p k _ _ =>
        if nonPosted k.opcode then
          sendResponse (cancelAccess s a) p (statusRspFor s p k stStale 0)
        else if x.performed then s
        else
          let s := cancelAccess s a
          donePacket (if p < 8 then postedRefusal s p else count64 s 0x5000_06) k
      | _ => s

/-! ### The raise of a partition's edition (R45, R87, R117) -/

/-- Windows of a partition that are not FREE. -/
def windowsOf (s : State) (n : Nat) : List Nat :=
  ((rowsOf s windowCn).filter fun e => winState e.2 != 0 && winPartition e.2 == n).map Prod.fst

/-- A use counts on one of some windows. -/
def usesOn (s : State) (ws : List Nat) (uses : List Nat) : Bool :=
  uses.any fun u => ws.contains (u / 2 ^ 32) && useCount s u != 0

/-- A slip's local access through a window of partition `n` that has not been performed (R105). -/
def localOf (x : Access) (n : Nat) : Bool :=
  !x.performed && !x.ignored && x.partition == n &&
    match x.kind with
    | .slipRead _ _ _ _ _ => true
    | .slipWrite _ _ _ _ _ => true
    | _ => false

/-- The raise frees the partition's windows without drain, ends the holds on them, answers or drops what
was admitted under them, and frees the loans that land there (R45, R184). -/
def freePartitionWindows (s : State) (n : Nat) : State :=
  let ws := windowsOf s n
  let s := forEach ((s.switch.holds.filter fun h => usesOn s ws h.2.windows).map Prod.fst) endHold s
  let s := forEach ((s.host.accesses.filter fun e => usesOn s ws e.2.windows).map Prod.fst) dropAccess s
  let s := forEach ((s.host.accesses.filter fun e => localOf e.2 n).map Prod.fst) cancelAccess s
  let s := forEach ws freeWindow s
  let s := endInvocations s 0x5104_00 (fun a => ws.contains a) stOk
  let s := endInvocations s 0x5103_00 (fun a => ws.contains (a % 1024)) stOk
  freeLoansIn s ws

/-- Issuers of a partition begin anew (R87). -/
def resetIssuers (s : State) (n : Nat) : State :=
  let s := endFences s (fun f => issuerPartition s f.issuer == n) stStale
  let s := abandonPairs s (fun e => issuerPartition s e.issuer == n && !e.quarantined) false
  forEach ((upFrom 0 1024).filter fun i => issuerPartition s i == n)
    (fun s i => setLost (setOutstanding s i 0) i false) s

/-- Raise a partition's edition (R45, R87, R117, Table 7.6). -/
def raisePartition (s : State) (n : Nat) : State :=
  let s := set s (0x5200_01 + n) ((partitionEdition s n + 1) % 256)
  let s := light s 0xD000_07 32
  let s := { s with recovery.quiet := s.recovery.quiet.filter (· != n) }
  let s := freePartitionWindows s n
  let s := forEach ((upFrom 0 256).filter fun r => rgOn (ringRow s r) && rgPartition (ringRow s r) == n)
    disableRing s
  let s := stopTrays s (fun t => trayPartition s t == n) stStale
  let s := endTrackers s (fun t => t.partition == n && t.opcode != opMgmtReq) stStale false
  let s := resetIssuers s n
  forEach (((rowsOf s entryCn).filter fun e => cePartition e.2 == n).map Prod.fst)
    (fun s e => endEntry s e stStale true) s

/-- partition_edition_raise (R45, R371). -/
def partitionRaiseOp (n : Nat) (s : State) : State × CmdOut :=
  if 16 ≤ n then (s, .done stUnsupported 0) else (raisePartition s n, .done stOk 0)

/-! ### Retirement (R48) -/

/-- The block enters RETIRED (R48, R265). `current` is the edition the notice names, or 0 where the state
was written. -/
def enterRetired (s : State) (current : Nat) (path : Path) : State :=
  let s := setCommission s 3 path
  let s := set s 0x1100_03 (get s 0x1002_00)
  let s := light s 0xD000_08 32
  let s := writeError s 0 0x6100
  let s := reportOwn s 0x25 15 current
  if stopped s then s else
  let s := refuseWaiting s (fun _ => true) stRetired
  let s := endTrackers s (fun _ => true) stRetired false
  let s := abandonPairs s (fun e => !e.quarantined) false
  let s := endFences s (fun f => f.scope == 2) stRetired
  let s := s.slips.ctxs.foldl (fun s c => forceSlip s c stRetired) s
  let s := forEach (s.switch.holds.map Prod.fst) endHold s
  forEach ((rowsOf s entryCn).map Prod.fst) (fun s e => endEntry s e stRetired false) s

/-- A RETIRED notice arrives (R48): data slot 0 names the stale endpoint and edition, and the
current edition. -/
def retiredNoticeTakes (s : State) (k : Packet) : Bool :=
  let d := nth 0 0 k.data
  (commission s == 1 || commission s == 2) && ordinary (ownId s) && fld d 127 106 == ownId s &&
    fld d 105 98 == ownEdition s && newer 8 (fld d 97 90) (ownEdition s)

def retiredNoticeArrives (s : State) (k : Packet) : State :=
  if retiredNoticeTakes s k then enterRetired s (fld (nth 0 0 k.data) 97 90) .block
  else count64 s 0x5400_07

/-! ### Active contexts (R318) -/

/-- Contexts of a partition that are active, with the time of their latest activity: engine-side requests
give it, and a context active for another reason is active now. -/
def activeContexts (s : State) (n : Nat) : List (Nat × Nat) :=
  let held :=
    (s.switch.trackers.filter fun e => e.2.partition == n && e.2.opcode != opMgmtReq).map (·.2.context) ++
    ((rowsOf s windowCn).filter fun e => winPartition e.2 == n && winInFlight e.2 != 0).map (fun e => winContext e.2) ++
    ((upFrom 0 64).filter fun t => trState (trayRow s t) != 0 && trayPartition s t == n).map (fun t => trContext (trayRow s t)) ++
    ((rowsOf s entryCn).filter fun e => ceState e.2 == 2 && cePartition e.2 == n).map (fun e => ceContext e.2)
  let seen := s.host.activity.filterMap fun e =>
    if e.1 = n && now s ≤ e.2.2 + get s 0xA010_06 then some e.2 else none
  let times := s.host.activity.filterMap fun e => if e.1 = n then some e.2 else none
  held.eraseDups.map (fun c => (c, ((times.find? fun e => e.1 == c).map (·.2)).getD (now s))) ++
    seen.filter fun e => !held.contains e.1

/-- Insert by falling time. -/
def byTime (e : Nat × Nat) : List (Nat × Nat) → List (Nat × Nat)
  | [] => [e]
  | x :: xs => if x.2 < e.2 then e :: x :: xs else x :: byTime e xs

/-- A row for one more context: the context's own CLEARED row, else one not valid, else a CLEARED one. -/
def contextPlace (s : State) (n ctx : Nat) : Option Nat :=
  let cleared := fun r => bit (getRow s 0xA110_00 r) 127 && fld (getRow s 0xA110_00 r) 126 125 == 2
  let own := match gateRow s n ctx with
    | some e => if cleared e.1 then some e.1 else none
    | none => none
  (own <|> (upFrom 0 64).find? fun r => !bit (getRow s 0xA110_00 r) 127) <|> (upFrom 0 64).find? cleared

/-- List a context as SUSPECT, unless it is listed and not CLEARED. -/
def listContext (s : State) (n code ctx time : Nat) : State :=
  let listed := match gateRow s n ctx with
    | some e => fld e.2 126 125 != 2
    | none => false
  if listed then s
  else
    match contextPlace s n ctx with
    | none => count32 s 0xA111_00
    | some r =>
      setRow s 0xA110_00 r
        (2 ^ 127 + n * 2 ^ 121 + ctx % 4096 * 2 ^ 109 + code % 65536 * 2 ^ 93 + time % 2 ^ 64)

/-- Capture the active contexts of a partition, most recently active first (R318). -/
def captureContexts (s : State) (n code : Nat) : State :=
  ((activeContexts s n).foldr byTime []).foldl (fun s e => listContext s n code e.1 e.2) s

/-- ADMITTED rows of a partition. -/
def admittedRows (s : State) (n : Nat) : List Nat :=
  ((rowsOf s 0xA110_00).filter fun e => bit e.2 127 && fld e.2 124 121 == n && fld e.2 126 125 == 1).map Prod.fst

/-! ### Partition resets (R314, R315, R346) -/

/-- Ports of a partition. -/
def portsOfPartition (s : State) (n : Nat) : List Nat := setBits 12 0 (get s (0xA100_01 + n))

/-- A burst that will not be written leaves its tile's place. -/
def dropBurst (s : State) (a : Nat) : State :=
  match access? s a with
  | some x =>
    match x.kind with
    | .burst id t e run =>
      match if sameRun s e run then burstTile s id t else none with
      | some y => { s with coll.tiles := s.coll.tiles.erase y }
      | none => s
    | _ => s
  | none => s

/-- What waits for a quiesced port, WRITE_UNLOCKs apart, is not presented (R315); what belongs to a partition in
service waits (R12). -/
def cancelQueued (s : State) (m : Nat) : State :=
  let ids := ((mspQueue s m).filter fun r => r.op != 3).map (·.access) ++
    (s.host.lockWaits.filter fun e => e.1 == m).map (·.2.access)
  forEach (ids.eraseDups.filter fun a => !spared s a) (fun s a => cancelAccess (dropBurst s a) a) s

/-- A partition reset begins from NORMAL or HUNG (R314). `code` is that of its cause; `listed` says that a
hang has captured its contexts already. -/
def beginReset (s : State) (n code : Nat) (listed : Bool) : State :=
  let s := if listed then s else captureContexts s n code
  let s := set s (0xA001_01 + n) code
  let s := set s (0xA102_01 + n) 2
  let s := raisePartition s n
  let s := refuseWaiting s (fun w => issuerPartition s w.req.issuer == n) stStale
  let s := light s 0xD000_02 32
  let s := faultAttention s 3
  let s := reportOwn s 0x23 15 n
  let s := { s with host.quiesce := s.host.quiesce ||| get s (0xA100_01 + n) }
  forEach (portsOfPartition s n) cancelQueued s

/-- A reset asked for by command or by its input, which writes its own code (R310, R314). -/
def startReset (s : State) (n code : Nat) : State :=
  let hung := partitionState s n == 1
  beginReset (writeError s 9 code) n code hung

/-- partition_reset (R314). It waits until the partition reaches MEMORY_RESET. -/
def partitionResetOp (n : Nat) (s : State) : State × CmdOut :=
  if 16 ≤ n then (s, .done stUnsupported 0)
  else if partitionDown s n || stopped s then (s, .done stBusy 0)
  else (startReset s n (0x4100 + n), .waits)

/-- A request of the port is presented, or is an unlock that is to be. -/
def presented (s : State) (m : Nat) (r : MspReq) : Bool := r.op == 3 || isValid s m r

/-- Nothing of an access has been presented: it waits for a quiesced port (R315). -/
def unpresented (s : State) (a : Nat) (x : Access) : Bool :=
  x.toAccept == x.toComplete && s.host.valid.all fun e => e.2.access != a

/-- The ports of a partition have nothing outstanding or presented, and its bursts and notice writes are over
(Table 14.5). -/
def partitionDrained (s : State) (n : Nat) : Bool :=
  (portsOfPartition s n).all (fun m =>
      (s.host.outstanding.all fun e => e.1 / 1024 != m || spared s e.2.access) &&
        (mspQueue s m).all fun r => !presented s m r || spared s r.access) &&
    !(s.coll.tiles.any fun y => y.phase == 1 && cePartition (ceRow s y.entry) == n) &&
    s.host.accesses.all fun e =>
      match e.2.kind with
      | .noticeWrite r => rgPartition (ringRow s r) != n || unpresented s e.1 e.2
      | _ => true

/-- DRAINING is over: memory is to be reinitialised (Table 14.5, R346). A partition that passed drain_limit stays. -/
def partitionDrains (s : State) (n : Nat) : State :=
  if partitionState s n = 2 && partitionDrained s n && !s.recovery.undrained.contains n then
    let ports := portsOfPartition s n
    let s := set s (0xA102_01 + n) 3
    let s := { s with host.quiesce := ports.foldl (fun v m => setBit v m false) s.host.quiesce,
                      host.abandon := ports.foldl (fun v m => setBit v m false) s.host.abandon,
                      host.resetReq := ports.foldl (fun v m => setBit v m true) s.host.resetReq }
    endInvocation s 0xA103_00 n stOk 0
  else s

/-- drain_limit passed (R316): the partition stays DRAINING until whole-block reset (Table 14.5). -/
def drainLimitPassed (s : State) (n : Nat) : State :=
  if partitionState s n = 2 && !s.recovery.undrained.contains n then
    escalate { s with recovery.undrained := s.recovery.undrained ++ [n] } (0x5200 + n)
  else s

/-- The host raises MSP_ABANDON on a quiesced port (R346): every outstanding request counts as completed, one of no
partition with OK. A READ_LOCK then draws no WRITE_UNLOCK (R343). -/
def mspAbandoned (s : State) (m : Nat) : State :=
  if bit s.host.quiesce m then
    let ours (e : Nat × MspReq) : Bool := ((access? s e.2.access).map (·.partition)).getD 0 == 16
    let gone := s.host.outstanding.filter fun e => e.1 / 1024 == m && (!spared s e.2.access || ours e)
    let keys := keysT gone
    let ids := ((gone.filter fun e => !ours e).map (·.2.access)).eraseDups
    let s := { s with host.abandon := setBit s.host.abandon m true,
                      host.dropped := s.host.dropped ++ keys,
                      host.outstanding := s.host.outstanding.filter fun e => !keys.contains e.1 }
    let s := ((gone.filter ours).map (·.2)).foldl (fun s r => completeReq s r 0 []) s
    forEach ids
      (fun s a =>
        let s := dropLocks (dropBurst s a) a m
        let s := updAccess s a fun x =>
          { x with kind := match x.kind with
              | .atomicLock _ _ => .release
              | k => k }
        cancelAccess s a) s
  else s

/-- MEMORY_RESET is over: the partition is NORMAL, and its ports' tags are free (R314, R346). -/
def partitionResumes (s : State) (n : Nat) : State :=
  let ports := portsOfPartition s n
  let s := set s (0xA102_01 + n) 0
  let s := { s with host.resetReq := ports.foldl (fun v m => setBit v m false) s.host.resetReq,
                    host.dropped := s.host.dropped.filter fun k => !ports.contains (k / 1024) }
  endInvocations s 0xA104_00 (fun a => a == n) stOk

/-- partition_ready (R315). It waits until partition_quiet has passed since the raise. While PART_RST_N[n] is low it
is refused (R349). -/
def partitionReadyOp (n : Nat) (s : State) : State × CmdOut :=
  if 16 ≤ n then (s, .done stUnsupported 0)
  else if partitionState s n ≠ 3 || s.power.partLow.contains n then (s, .done stBusy 0)
  else if s.recovery.quiet.contains n then (partitionResumes s n, .done stOk 0)
  else (s, .waits)

/-- partition_quiet has passed since the raise (R315). An invocation that waited resumes the partition, unless
PART_RST_N[n] has fallen meanwhile: it must then be invoked again (R349). -/
def partitionQuiets (s : State) (n : Nat) : State :=
  if partitionDown s n && !s.recovery.quiet.contains n then
    let s := { s with recovery.quiet := s.recovery.quiet ++ [n] }
    if partitionState s n = 3 && (runningInvocation s 0xA104_00 n).isSome then
      if s.power.partLow.contains n then endInvocations s 0xA104_00 (fun a => a == n) stBusy
      else partitionResumes s n
    else s
  else s

/-! ### Hangs and watchdogs (R311 to R313, R316) -/

/-- A hang of partition `n` (R313). -/
def hang (s : State) (n code : Nat) : State :=
  let s := count32 s 0xA011_01
  if partitionState s n ≠ 0 then s
  else
    let s := writeError s 9 code
    let s := forEach (admittedRows s n) (fun s r => setF s 0xA110_00 r 126 125 3) s
    let s := captureContexts s n code
    let s := faultAttention (reportOwn s 0x20 15 code) 0
    if get s (0xA101_01 + n) = 1 then beginReset s n code true else set s (0xA102_01 + n) 1

/-- The partition whose mask includes a memory-side port (R313). -/
def portOwner (s : State) (m : Nat) : Option Nat := (upFrom 0 16).find? fun n => bit (get s (0xA100_01 + n)) m

/-- One finding of a check (Table 14.4), where its condition stands. -/
def watchdogFinds (s : State) : WatchdogFinding → State
  | .msp m =>
    if stopped s || 12 ≤ m || ((outstandingAt s m).isEmpty && (nextReq s m).isNone) then s
    else
      match portOwner s m with
      | some n => hang s n (0x1100 + m)
      | none => escalate (count32 s 0xA011_01) (0x5500 + m)
  | .esp e =>
    if stopped s then s
    else
      match s.host.responses.find? fun r => r.port == e with
      | some r => hang s r.partition (0x1200 + e)
      | none => s
  | .egress p q =>
    if p < 8 && isUp s p && !(queueOf s p q).isEmpty then reportOwn (count32 s 0xA011_02) 0x12 p q else s

/-- The management core restarts (R312); a second expiry within 1 s of a restart escalates (R316). -/
def mgmtRestarts (s : State) : State :=
  if !firmwareRuns s then s
  else
    let s := writeError s 9 0x5100
    let s := count32 s 0xA011_04
    let s := match s.recovery.lastRestart with
      | some t => if s.time.cycles ≤ t + 1250000000 then escalate s 0x5400 else s
      | none => s
    let s := endRestore s stAborted 0
    let s := forEach s.mgmt.running (fun s v => endInvocation s v.cn v.arg stAborted 0) s
    let s := coreRecord (reportOwn s 0x27 15 0) 2
    { s with recovery.restarting := true, recovery.lastRestart := some s.time.cycles, mgmt.collect := [] }

/-! ### The replay gate (R319) -/

def setGate (s : State) (row v : Nat) : State := setF s 0xA110_00 row 126 125 v

/-- gate_admit. -/
def gateAdmitOp (n ctx : Nat) (s : State) : State × CmdOut :=
  if 16 ≤ n then (s, .done stUnsupported 0)
  else
    match gateRow s n ctx with
    | some e =>
      if fld e.2 126 125 ≠ 0 then (s, .done stEmpty 0)
      else if !(admittedRows s n).isEmpty then (s, .done stBusy 0)
      else (setGate s e.1 1, .done stOk 0)
    | none => (s, .done stEmpty 0)

/-- gate_clear. -/
def gateClearOp (n ctx : Nat) (s : State) : State × CmdOut :=
  if 16 ≤ n then (s, .done stUnsupported 0)
  else
    match gateRow s n ctx with
    | some e => if fld e.2 126 125 ≤ 1 then (setGate s e.1 2, .done stOk 0) else (s, .done stEmpty 0)
    | none => (s, .done stEmpty 0)

/-- gate_open. -/
def gateOpenOp (n : Nat) (s : State) : State × CmdOut :=
  if 16 ≤ n then (s, .done stUnsupported 0)
  else
    (forEach (((rowsOf s 0xA110_00).filter fun e => bit e.2 127 && fld e.2 124 121 == n).map Prod.fst)
      (fun s r => setGate s r 2) s, .done stOk 0)

/-- context_list_clear. -/
def contextListClearOp (s : State) : State × CmdOut :=
  if (upFrom 0 16).any fun n => partitionState s n != 0 then (s, .done stBusy 0)
  else
    (set (forEach ((rowsOf s 0xA110_00).map Prod.fst) (fun s r => setRow s 0xA110_00 r 0) s) 0xA111_00 0,
      .done stOk 0)

end Sys2Proof.Machine
end

