-- ==== Sys2Proof/Machine/Sched.lean ====
section
/-! DEFINITION. The scheduler of a port (R195, R196), refills (R197 to R199, R201), and depth and delay
samples (R203 to R205). -/

namespace Sys2Proof.Machine

/-- The port's transmit side is powered and out of reset: its queues, buckets and samples work (R205, Table 16.5). -/
def txPowered (s : State) (p : Nat) : Bool := p < portsOf s.part && switchOn s && domainOn s (26 + 3 * p)

/-- The port's link layer and lanes are powered and out of reset (Table 16.5). -/
def portPowered (s : State) (p : Nat) : Bool :=
  p < portsOf s.part && switchOn s && domainOn s (26 + 3 * p) && domainOn s (27 + 3 * p)

/-- Port cycles of 0.64 ns begun by a cycle of the time island, of 0.8 ns (R9). -/
def portCyclesAt (cycle : Nat) : Nat := cycle * 5 / 4

/-! ### Credit (R216, R219) -/

/-- A flit of the last 128 port cycles carried xoff (R219). -/
def peerXoff (s : State) (p : Nat) : Bool :=
  (port s p).xoffAt.any fun c => portCyclesAt s.time.cycles - portCyclesAt c < 128

/-- Slots of packets the scheduler has chosen that have not begun, on a channel. -/
def chosenSlots (s : State) (p v : Nat) : Nat :=
  (((port s p).tx.filter fun t => !t.begun && t.vc == v).map (·.size)).foldl (· + ·) 0

/-- A packet of `n` slots may begin on channel `v` as a dedicated packet, `ahead` slots being promised
before it. -/
def dedicatedFits (s : State) (p v n ahead : Nat) : Bool :=
  subMod 14 (nth 0 v (port s p).begun + ahead + n) (nth 0 v (port s p).freedSeen) ≤ 4096

/-- The link has the credit for a packet of `n` slots on channel `v` to begin. -/
def creditFor (s : State) (p v n : Nat) : Bool :=
  dedicatedFits s p v n (chosenSlots s p v) || !peerXoff s p

/-! ### The scheduler (R195, R196) -/

/-- A queue is sendable. -/
def sendableQ (s : State) (p q : Nat) : Bool :=
  match queueOf s p q with
  | [] => false
  | d :: _ =>
    shaperAllows s p q && creditFor s p d.k.vc (sizeOf d.k) &&
      (!(1 ≤ q && q ≤ 8) || 0 < (loanBucket s p (handleM d.k)).tokens)

/-- The bin of a delay in nanoseconds, and of a depth in slots (Table 9.6). -/
def delayBin (ns : Nat) : Nat := if ns < 64 then 0 else min 15 (Nat.log2 ns - 5)

def depthBin (slots : Nat) : Nat := if slots = 0 then 0 else if slots < 4 then 1 else min 15 (Nat.log2 slots)

/-- A sample in a histogram, whose bins saturate (R205). -/
def histogram (s : State) (cn q bin : Nat) : State :=
  let v := getF s cn q (32 * bin + 31) (32 * bin)
  if v < 2 ^ 32 - 1 then setF s cn q (32 * bin + 31) (32 * bin) (v + 1) else s

/-- The first slot of a chosen packet goes to the link layer: its delay, where it is to be recorded (R204). -/
def recordDelay (s : State) (p : Nat) (t : TxPacket) : State :=
  match t.sample with
  | none => s
  | some joined =>
    let ns := (portCyclesAt s.time.cycles - portCyclesAt joined) * 16 / 25
    let s := histogram s (ofLow p 0x6320_00) t.queue (delayBin ns)
    setF s (ofLow p 0x6110_00) t.queue 34 15 (max (getF s (ofLow p 0x6110_00) t.queue 34 15) (min (ns / 64) (2 ^ 20 - 1)))

/-- One packet in 2^k sent from a queue has its delay recorded (R204): the cycle it joined the queue, if it is one. -/
def sampledDesc (s : State) (n : Nat) (d : Desc) : Option Nat := if n % 2 ^ get s 0x6300_02 = 0 then d.joined else none

/-- The port of arrival of a packet whose slots are still coming (R195). -/
def lateFrom (r : Option RxPlace) : Option Nat := (r.filter (·.late)).map (·.port)

/-- The head of a queue is chosen: it is charged, and goes to the link layer, with what slots of it have come. -/
def sendHead (s : State) (p q : Nat) : State :=
  match queueOf s p q with
  | [] => s
  | d :: ds =>
    let n := sizeOf d.k
    let sent := (lookupT (port s p).sentCount q).getD 0 + 1
    let s := setPort s p fun x =>
      { x with lastLoan := if 1 ≤ q && q ≤ 9 then q else x.lastLoan
               sentCount := insertT x.sentCount q sent
               tx := x.tx ++ [{ slots := packetSlots d.k, size := n, rx := d.rx,
                                owed := n - (packetSlots d.k).length, vc := d.k.vc, begun := false, pool := false,
                                abort := d.k.abort, entry := d.entry, queue := q,
                                sample := sampledDesc s sent d }] }
    let s := setQueue s p q ds
    let s := if bit (shaperCfg s p q) 63 then setQueueTokens s p q (queueTokens s p q - n) else s
    let s := if 1 ≤ q && q ≤ 8 then chargeLoan s p (handleM d.k) n else s
    odc (odc s 0x02 (some p) (some d.k) 1) 0x03 (some p) (some d.k) n

def drrDeficit (s : State) (p q : Nat) : Nat := getF s (ofLow p 0x6110_00) q 95 78

def setDrr (s : State) (p q deficit : Nat) (turn : Bool) : State :=
  setF (setF s (ofLow p 0x6110_00) q 95 78 deficit) (ofLow p 0x6110_00) q 77 77 (b2n turn)

/-- The active list's head goes to its tail. -/
def rotateActive (s : State) (p : Nat) : State :=
  setPort s p fun x => { x with active := x.active.drop 1 ++ x.active.take 1 }

/-- Deficit round robin over at most `fuel` queues of the active list (R196). -/
def drr : Nat → State → Nat → State
  | 0, s, _ => s
  | fuel + 1, s, p =>
    match (port s p).active with
    | [] => s
    | q :: _ =>
      match queueOf s p q with
      | [] =>
        drr fuel (setPort (setDrr s p q 0 false) p fun x => { x with active := x.active.drop 1 }) p
      | d :: ds =>
        if !sendableQ s p q then drr fuel (rotateActive s p) p
        else
          let turn := getF s (ofLow p 0x6110_00) q 77 77 = 1
          let deficit := drrDeficit s p q + if turn then 0 else fld (queueCfg s p q) 55 40
          if sizeOf d.k ≤ deficit then
            let s := sendHead s p q
            if ds.isEmpty then
              setPort (setDrr s p q 0 false) p fun x => { x with active := x.active.drop 1 }
            else setDrr s p q (deficit - sizeOf d.k) true
          else drr fuel (rotateActive (setDrr s p q deficit false) p) p

/-- LOAN queues in turn after the one served last. -/
def loanTurn (s : State) (p : Nat) : Option Nat :=
  ((upFrom 0 9).map fun i => ((port s p).lastLoan + i) % 9 + 1).find? (sendableQ s p)

/-- SCHEDULER_CHOOSE: with no chosen packet waiting, choose the next (R195). -/
def schedule (s : State) (p : Nat) : State :=
  if !portPowered s p || !isUp s p || (port s p).tx.any (fun t => !t.begun) then s
  else if sendableQ s p 0 then sendHead s p 0
  else
    match loanTurn s p with
    | some q => sendHead s p q
    | none => drr (port s p).active.length s p

/-! ### Refills (R197 to R199, R201, R332) -/

/-- cap_w and the scale s of a port (R199). -/
def capW (s : State) (p : Nat) : Nat :=
  get s (capacityCn p) * popcount 10 (get s (ofPort p 0x2010_01)) / 8

def loanScale (s : State) (p : Nat) : Nat :=
  if get s (reservedCn p) ≤ capW s p then 65536 else 65536 * capW s p / get s (reservedCn p)

/-- One queue's bucket gains its rate; a write that waited takes effect with a full bucket (R197, R198). -/
def refillQueue (p : Nat) (s : State) (q : Nat) : State :=
  let waited := (lookupT (port s p).oldCfg q).isSome
  let s := setPort s p fun x => { x with oldCfg := eraseT x.oldCfg q }
  let cfg := queueCfg s p q
  let full : Int := 256 * fld cfg 23 16
  setQueueTokens s p q (if waited then full else min (queueTokens s p q + fld cfg 39 24) full)

/-- One loan's bucket gains its scaled rate, fractions carried (R199). -/
def refillLoan (p scale : Nat) (s : State) (n : Nat) : State :=
  let b := loanBucket s p n
  let gain := loanRate s n * scale + b.frac
  setLoanBucket s p n
    { tokens := min (b.tokens + gain / 65536) (256 * loanBurst s n), frac := gain % 65536 }

def refillPort (s : State) (p : Nat) : State :=
  let s := forEach (upFrom 0 64) (refillQueue p) s
  let scale := loanScale s p
  let s := set (set s (0x6001_01 + p) (capW s p)) (0x6002_01 + p) scale
  forEach (keysT (port s p).buckets) (refillLoan p scale) s

/-- SHAPER_REFILL: every bucket of every port, and the mirror's. -/
def shaperRefills (s : State) : State :=
  if !switchOn s then s
  else
    let s := forEach ((upFrom 0 (portsOf s.part)).filter (txPowered s)) refillPort s
    if domainOn s 25 then mirrorRefill s else s

/-- POLICER_REFILL (R201). A policer with nothing held is full. -/
def policerRefills (s : State) : State :=
  if !switchOn s then s
  else
    let runs : Table PolicerRun := s.policers.map fun e =>
      let row := getRow s 0x6200_00 e.1
      (e.1, { tc := min (e.2.tc + fld row 47 32) (256 * fld row 15 8),
              tp := min (e.2.tp + fld row 31 16) (256 * fld row 7 0) })
    { s with policers := runs }

/-- A queue configuration row has been written (R198): on SKX-8 the bucket is cut to its new depth, on the
smaller parts changed shaper values wait for the next refill. -/
def queueConfigured (s : State) (p q old : Nat) : State :=
  let new := queueCfg s p q
  if bit old 63 = bit new 63 && fld old 39 16 = fld new 39 16 then s
  else
    match s.part with
    | .skx8 => setQueueTokens s p q (min (queueTokens s p q) (256 * fld new 23 16))
    | _ =>
      if (lookupT (port s p).oldCfg q).isSome then s
      else setPort s p fun x => { x with oldCfg := insertT x.oldCfg q old }

/-- A policer row has been written: its counts are full at the next packet (R201). -/
def policerWritten (s : State) (n : Nat) : State := { s with policers := eraseT s.policers n }

/-! ### Samples (R203, R205) -/

/-- The sizes of a queue's packets, at most 128 of them: those chosen that have not begun, and those that wait for the
scheduler (R192, R203). -/
def queueSizes (s : State) (p q : Nat) : List Nat :=
  (chosenOf (port s p) q).map (·.size) ++
    ((queueOf s p q).take (placesOf (port s p) q)).map fun d => sizeOf d.k

/-- Depth in slots of a queue (R203). -/
def queueDepth (s : State) (p q : Nat) : Nat := (queueSizes s p q).sum

/-- One depth sample of every queue of a port. -/
def depthSamples (s : State) (p : Nat) : State :=
  if !txPowered s p then s
  else
    forEach (upFrom 0 64)
      (fun s q =>
        let n := queueDepth s p q
        let s := histogram s (ofLow p 0x6310_00) q (depthBin n)
        setF s (ofLow p 0x6110_00) q 51 35 (max (getF s (ofLow p 0x6110_00) q 51 35) n)) s

/-- sample_clear (R205, R371). -/
def sampleClearOp (p : Nat) (s : State) : State × CmdOut :=
  if portsOf s.part ≤ p then (s, .done stUnsupported 0)
  else
    (forEach (upFrom 0 64)
      (fun s q =>
        let s := setRow (setRow s (ofLow p 0x6310_00) q 0) (ofLow p 0x6320_00) q 0
        setF s (ofLow p 0x6110_00) q 51 15 0) s, .done stOk 0)

end Sys2Proof.Machine
end

