-- ==== Sys2Proof/Machine/Link.lean ====
section
/-! DEFINITION. The link layer: flits (R206, R207), sequence, replay and credit (R210 to R219), lane commands
(R221 to R223, R246, R247), hold, return and flush (R224 to R228). -/

namespace Sys2Proof.Machine

/-! ### The flit (R206, R207) -/

/-- `n` steps of the flit CRC's register. -/
def crc64Shift : Nat → Nat → Nat
  | 0, r => r
  | n + 1, r =>
    crc64Shift n (if r / 2 ^ 63 % 2 = 1 then (r * 2 % 2 ^ 64) ^^^ 0x42F0_E1EB_A9EA_3693 else r * 2 % 2 ^ 64)

/-- The flit CRC (R207). -/
def crc64 (bs : List Byte) : Nat :=
  (bs.foldl (fun r b => crc64Shift 8 (r ^^^ b.toNat * 2 ^ 56)) (2 ^ 64 - 1)) ^^^ (2 ^ 64 - 1)

/-- The first 248 bytes of a skip block (R232). -/
def skipBytes : List Byte := bytesLE 248 (2 ^ 64 - 1)

/-- The place is a skip block exactly (R232). -/
def isSkip (bits : Nat) : Bool :=
  bits % 2 ^ 1984 == 2 ^ 64 - 1 && bits / 2 ^ 1984 % 2 ^ 64 == (2 ^ 64 - 1) - crc64 skipBytes

/-- A place's flit CRC holds (R207). -/
def placeOk (bits : Nat) : Bool := bits / 2 ^ 1984 % 2 ^ 64 == crc64 (bytesLE 248 bits)

/-- A flit read from its place (Table 10.1). -/
def flitOf (bits : Nat) : Flit :=
  { type := fld bits 63 62, seq := fld bits 61 46, ack := fld bits 45 30, nak := bit bits 29, held := bit bits 28,
    xoff := bit bits 27, pool := bit bits 26, abort := bit bits 25, slotsUsed := fld bits 24 21,
    creditVc := fld bits 16 14, credit := fld bits 13 0,
    slots := (upFrom 0 (fld bits 24 21)).map fun k => bits / 2 ^ (64 + 128 * k) % 2 ^ 128 }

/-- The link header of a flit (Table 10.1). -/
def linkHeader (f : Flit) : Nat :=
  f.type * 2 ^ 62 + f.seq * 2 ^ 46 + f.ack * 2 ^ 30 + b2n f.nak * 2 ^ 29 + b2n f.held * 2 ^ 28 +
    b2n f.xoff * 2 ^ 27 + b2n f.pool * 2 ^ 26 + b2n f.abort * 2 ^ 25 + f.slotsUsed * 2 ^ 21 +
    f.creditVc * 2 ^ 14 + f.credit

/-- A flit as the 2,048 bits of its place. -/
def flitBits (f : Flit) : Nat :=
  let body := linkHeader f + numLE (f.slots.flatMap fun x => bytesLE 16 x) * 2 ^ 64
  body + crc64 (bytesLE 248 body) * 2 ^ 1984

/-! ### Lanes and sets -/

/-- Transmitter and receiver states of lane_state (Table 11.16): 0 UNTRAINED, 1 TRAINING, 2 IN_SET, 3 ACTIVE
idle, 4 HUSH, 5 SHELVED, 6 TEST, 7 FAILED. -/
def laneStateCn (p n : Nat) : Nat := ofLane p n 0x3000_01

def txState (s : State) (p n : Nat) : Nat := getF s (laneStateCn p n) 0 7 4

def rxState (s : State) (p n : Nat) : Nat := getF s (laneStateCn p n) 0 3 0

def setTx (s : State) (p n v : Nat) : State := setF s (laneStateCn p n) 0 7 4 v

def setRx (s : State) (p n v : Nat) : State := setF s (laneStateCn p n) 0 3 0 v

def dealSet (s : State) (p : Nat) : Nat := get s (ofPort p 0x2010_01)

def waitSet (s : State) (p : Nat) : Nat := get s (ofPort p 0x2010_02)

def widthTarget (s : State) (p : Nat) : Nat := get s (ofPort p 0x2050_04)

/-- The physical receive lane that carries the partner's lane `n`, and the other way round (R238). -/
def rxPhys (s : State) (p n : Nat) : Nat := if get s (ofPort p 0x2040_04) = 1 then 9 - n else n

def laneRecord (code n reason refusal : Nat) : Nat :=
  code * 2 ^ 120 + n * 2 ^ 116 + reason * 2 ^ 112 + refusal * 2 ^ 108

def recCode (r : Nat) : Nat := fld r 127 120

def recLane (r : Nat) : Nat := fld r 119 116

def recReason (r : Nat) : Nat := fld r 115 112

/-- Codes that Tables 10.4 and 11.9 list. -/
def listedCode (c : Nat) : Bool := c ≤ 5 || (0x10 ≤ c && c ≤ 0x13)

def queueCmd (s : State) (p record : Nat) (on : Option Nat) : State :=
  setPort s p fun x => { x with cmds := x.cmds ++ [{ record := record, lane := on }] }

/-- The deal set after the commands that wait to be sent. -/
def plannedDeal (s : State) (p : Nat) : Nat :=
  (port s p).cmds.foldl
    (fun v c =>
      if recCode c.record = 1 then setBit v (recLane c.record) true
      else if recCode c.record = 2 then setBit v (recLane c.record) false else v) (dealSet s p)

/-! ### Errors (R220) -/

/-- A link protocol error: counted and reported as a hard fault. -/
def linkError (s : State) (p : Nat) : State :=
  let s := count64 s (ofPort p 0x2020_09)
  reportPartner (writeError s (p + 1) (0x3200 + p)) 0x08 p (0x3200 + p)

/-! ### Taps (R239, Table 11.7) -/

/-- Taps c(−3) to c(+1), tap 0 being c(−3), from their bytes. -/
def tapOf (v i : Nat) : Int := signed 8 (fld v (39 - 8 * i) (32 - 8 * i))

def setTap (v i : Nat) (x : Int) : Nat := setFld v (39 - 8 * i) (32 - 8 * i) (unsigned 8 x)

def tapRanges : List (Int × Int) := [(-4, 4), (-8, 8), (-20, 0), (24, 63), (-16, 0)]

def presets : List (List Int) :=
  [[0, 0, 0, 63, 0], [0, 0, -4, 59, 0], [0, 2, -8, 51, -2], [-1, 3, -12, 43, -4], [-2, 4, -16, 35, -6]]

def tapsOfList (xs : List Int) : Nat :=
  (upFrom 0 5).foldl (fun v i => setTap v i (nth 0 i xs)) 0

def presetTaps (n : Nat) : Nat := tapsOfList (nth [] n presets)

/-- The taps lie in their ranges, and their magnitudes sum to 63 or less. -/
def tapsAllowed (v : Nat) : Bool :=
  ((upFrom 0 5).all fun i =>
    let r := nth (0, 0) i tapRanges
    r.1 ≤ tapOf v i && tapOf v i ≤ r.2) &&
    (((upFrom 0 5).map fun i => (tapOf v i).natAbs).foldl (· + ·) 0 ≤ 63)

def tapsCn (p n : Nat) : Nat := ofLane p n 0x3001_01

/-! ### Starting to train -/

/-- Lanes a port can use: 0 to 7, and with their domain on 8 and 9 (Table 16.5). -/
def laneUsable (s : State) (p n : Nat) : Bool := n < 8 || (n < 10 && domainOn s (28 + 3 * p))

/-- A lane begins stage 1. Its transmitter starts at preset P2, or at tx_taps when FIXED or checked (R239, R244). A receive
lane that failed its check stays out until the port trains from INIT (R244). -/
def startLane (s : State) (p : Nat) (fast : Bool) (n : Nat) : State :=
  let l := lane s p n
  if !laneUsable s p n then s
  else
    let taps := if fast || get s (ofLane p n 0x3002_01) = 1 then get s (tapsCn p n) else presetTaps 2
    let out := fast && l.barred = 2
    let s := if l.rxFailed || out then s else setRx s p n 1
    let s := setTx s p n 1
    setLane s p n fun l =>
      { l with stage := if l.rxFailed || out then 0 else 1, detects := 0, badBlocks := 0, reqId := 0, answered := true,
               eqRequest := 0, eqTap := 0, rxDone := false, txDone := false, respId := 0, respStatus := 0,
               taps := taps, lock := 0, frameAt := none, barred := if out then 2 else 0, leaving := 0, plates := 0, plate := 0,
               samples := [], rxTrained := false,
               peerTrained := false, lost := false, peerState := 0, announced := none, waking := false,
               addAsked := none, refused := false, badFrames := 0, reports := none }

/-- Training begins, from INIT or from HELD (R237, R244). -/
def startTraining (s : State) (p : Nat) (fast : Bool) : State :=
  let s := set (set s (ofPort p 0x2050_01) 1) (ofPort p 0x2040_03) 0
  let s := count32 s (ofPort p 0x2050_0B)
  let s := setPort s p fun x =>
    { x with fast := fast, stalled := false, told := false, ready := false, peerReady := false, peerWanted := 0, wanted := 0 }
  forEach (upFrom 0 10) (fun s n => startLane s p fast n) s

def stageOfPort (s : State) (p : Nat) : Nat := get s (ofPort p 0x2050_01)

/-! ### Hold and flush (R224 to R227) -/

/-- Every packet of a port's queues, with those chosen and not yet wholly sent. -/
def portPackets (s : State) (p : Nat) : Nat :=
  ((port s p).queues.map fun e => e.2.length).foldl (· + ·) 0 + (port s p).tx.length +
    (if (port s p).rxSlots.isEmpty then 0 else 1)

/-- A packet that arrives on port `p` and has gone on by cut-through waits for slots here (R192, R195). -/
def cutHeld (s : State) (p : Nat) : Bool :=
  (s.switch.passWaits.any fun w => lateFrom w.rx == some p) ||
    s.ports.any fun x => (x.tx.any fun t => lateFrom t.rx == some p) ||
      x.queues.any fun e => e.2.any fun d => lateFrom d.rx == some p

/-- Change the packet that is forwarded from port `p` by cut-through, wherever it stands. -/
def updCut (s : State) (p : Nat) (f : Packet → RxPlace → Packet × RxPlace) (g : TxPacket → TxPacket) : State :=
  let both (k : Packet) (r : Option RxPlace) : Packet × Option RxPlace :=
    match r with
    | some r => if r.late && r.port = p then ((f k r).1, some (f k r).2) else (k, some r)
    | none => (k, none)
  { s with
    switch.passWaits := s.switch.passWaits.map fun w => { w with k := (both w.k w.rx).1, rx := (both w.k w.rx).2 }
    ports := s.ports.map fun x =>
      { x with
        tx := x.tx.map fun t => if lateFrom t.rx = some p then g t else t
        queues := x.queues.map fun e =>
          (e.1, e.2.map fun d => { d with k := (both d.k d.rx).1, rx := (both d.k d.rx).2 }) } }

/-- A slot of the packet forwarded from port `p` by cut-through has come: it stands in the buffer until its egress sends
it (R192); one that goes nowhere is free at once (R217). -/
def feedCut (s : State) (p v slot : Nat) : State :=
  if !cutHeld s p then
    freeRx s (some { port := p, vc := v, slots := 1, pool := (port s p).rxPool, late := false })
  else
    let more (r : RxPlace) : RxPlace := { r with slots := r.slots + 1 }
    let s := updCut s p (fun k r => ({ k with data := k.data ++ [slot] }, more r))
      fun t => { t with slots := t.slots ++ [slot], owed := t.owed - 1, rx := t.rx.map more }
    if (port s p).rxPool then reviewXoff s p else s

/-- No more slots of it come. Where some are missing it is completed to its stated length and marked, and counted at its
port of arrival (R65). -/
def closeCut (s : State) (p : Nat) (short abort : Bool) : State :=
  let s := if short && cutHeld s p then count64 s (ofPort p 0x2080_03) else s
  let s := setPort s p fun x => { x with rxCut := none }
  updCut s p
    (fun k r =>
      let k := if short then completed k else k
      ({ k with abort := k.abort || abort }, { r with late := false }))
    fun t =>
      { t with slots := if short then t.slots ++ List.replicate t.owed 0 else t.slots
               owed := 0, rx := t.rx.map fun r => { r with late := false }, abort := t.abort || abort || short }

/-- Empty the queues, what is being sent, and the replay buffer of a port. The queues keep their deficit and turn, which R196
clears with the last packet sent (log entry 76). -/
def emptyPort (s : State) (p : Nat) : State :=
  let places := ((port s p).queues.flatMap fun e => e.2.map (·.rx)) ++ (port s p).tx.map (·.rx)
  let s := setPort s p fun x =>
    { x with queues := [], active := [], tx := [], replay := [], replayAt := none, replayHeld := false,
             cmds := [], rxSlots := [], rxLost := 0, rxShort := 0, heldFlits := [], behind := [], acted := [] }
  forEach places freeRx s

/-- The error code and the report of a flush of port `p`'s link to a partner (R226, R310). -/
def flushEvent (s : State) (p peer edition : Nat) : State :=
  report (writeError s (p + 1) (0x3100 + p)) 0x01 p peer edition 0

/-- The flush of a port whose clock now stops is an event held in its crossing (R281). -/
def holdEvent (s : State) (p peer edition : Nat) : State :=
  { s with time.heldEvents := s.time.heldEvents ++ [{ port := p, peer := peer, edition := edition, since := now s }] }

/-- The island of port `p` wakes: the events held in its crossing are stamped, late and with the length of the stop, and
counted (R281). -/
def islandWakes (s : State) (p : Nat) : State :=
  let held := s.time.heldEvents.filter fun e => e.port == p
  let s := { s with time.heldEvents := s.time.heldEvents.filter fun e => e.port != p }
  forEach held (fun s e =>
    let s := light { s with time.stopNs := some ((now s - e.since) / 256) } 0xD000_0A 64
    { flushEvent s p e.peer e.edition with time.stopNs := none }) s

/-- What a flush does (R226). The port is FLUSHED and at once INIT (Table 10.6). In global stop the tracker and pair tables
are halted (R301). `stops`: the port's clock stops with it. -/
def flushLink (s : State) (p : Nat) (stops : Bool) : State :=
  let s := set s (ofPort p 0x2000_01) 3
  let s := count32 s (ofPort p 0x2020_0B)
  let s := light s 0xD000_06 32
  let s := count s (ofPort p 0x2020_0C) 64 (portPackets s p)
  let s := if (port s p).rxCut.isSome then closeCut s p true false else s
  let s := emptyPort s p
  let event := if stops then holdEvent else flushEvent
  let s := event s p (port s p).heldEndpoint (port s p).heldEdition
  let s := set s (ofPort p 0x2000_01) 0
  let s := setPort s p fun x => { x with fast := false, stalled := false, told := false, asked := none }
  let s := set s (ofPort p 0x2050_01) 1
  let s :=
    if stopped s then s
    else abandonPairs (endTrackers s (fun t => t.via == p) stLinkLost true) (fun e => e.via == p && unacked e != 0) true
  endInvocations s (ofPort p 0x2000_04) (fun _ => true) stLinkLost

/-- The flush of a port that stays on (R226): one that had not begun to retrain begins to train (R244), and another trains
on. -/
def flushPort (s : State) (p : Nat) : State :=
  let t := flushLink s p false
  if isUp s p || stageOfPort s p = 8 then startTraining t p false else t

/-- A port enters HELD (R224, R225). With no grace period it flushes at once. -/
def holdPort (s : State) (p : Nat) : State :=
  if !isUp s p then s
  else
    let s := set s (ofPort p 0x2000_01) 2
    let s := count32 s (ofPort p 0x2020_0A)
    let s := setPort s p fun x =>
      { x with replayAt := none, replayHeld := true, fruitless := 0, gap := false, nakDue := false, heldFlits := [], behind := [],
               fast := true, asked := none, ready := false, peerReady := false }
    let s := discardLoans s p
    if get s (ofPort p 0x2000_02) = 0 then flushPort s p else s

/-! ### Seeking lanes (R246, R248, R255) -/

/-- End the test of a lane: its command returns a status. Where the test had stopped its frames, that they resume is
announced first, and `leaving` holds the mode until the partner has acknowledged it (R249, R254, R255). -/
def endTest (s : State) (p n status : Nat) : State :=
  let m := (lane s p n).test
  if m = 0 then s
  else
    let stops := m == 1 || m == 3 || m == 5
    let s := setLane s p n fun l => { l with test := 0, leaving := if stops && isUp s p then m else 0 }
    let s := if stops && isUp s p then queueCmd s p (laneRecord 0x13 n 0 0) none else s
    let s := if m = 2 || m = 3 || m = 4 then set s (ofLane p n 0x300E_01) 0 else s
    endInvocation s (ofLane p n 0x3010_01) 0 status 0

/-- Lanes in rx_trained, or cleared from it by a test of the partner's, outside the wait set, that have not refused, by
the partner's numbers (R246, R255). -/
def candidates (s : State) (p : Nat) : List Nat :=
  (upFrom 0 10).filter fun n =>
    let l := lane s p (rxPhys s p n)
    (l.rxTrained || (l.peerState == 6 && !l.rxFailed)) && !bit (waitSet s p) n && !l.refused &&
      (n < 8 || domainOn s (28 + 3 * p))

/-- Our CHECK or loopback runs on the receive lane `k` (Table 11.14). -/
def ownTest (s : State) (p k : Nat) : Bool := 2 ≤ (lane s p k).test

/-- A receive lane is under test at either end. -/
def underTest (s : State) (p n : Nat) : Bool :=
  ownTest s p (rxPhys s p n) || (lane s p (rxPhys s p n)).peerState == 6

/-- No lane is passed over any more as one that refused: the search for a spare is over (R246). -/
def searchOver (s : State) (p : Nat) : State :=
  setPort s p fun x => { x with lanes := x.lanes.map fun l => { l with refused := false } }

/-- The receive lane `k` has to find its frames again (R244, R249, R255). -/
def reacquire (s : State) (p k : Nat) : State :=
  setRx (setLane s p k fun l => { l with rxTrained := false, lock := 0, plates := 0 }) p k 1

/-- While the wait set is short of rx_width_target, ask for one more lane at a time (R246). `reason` is 5
SPARING, or 6 MANAGEMENT after a width write (R248), which preempts no test (R255). A candidate under a test of our own
is asked for when it has its frames again. -/
def seekLane (s : State) (p reason : Nat) : State :=
  if !isUp s p || (port s p).asked.isSome || widthTarget s p ≤ popcount 10 (waitSet s p) then s
  else
    let free := (candidates s p).filter fun n => !underTest s p n
    let choice := match free with
      | n :: _ => some n
      | [] => if reason = 5 then (candidates s p).head? else none
    match choice with
    | some n =>
      if ownTest s p (rxPhys s p n) then reacquire (endTest s p (rxPhys s p n) stPreempted) p (rxPhys s p n)
      else queueCmd (setPort s p fun x => { x with asked := some (n, reason) }) p (laneRecord 3 n reason 0) none
    | none =>
      let s := searchOver s p
      if reason = 5 then reportPartner s 0x03 p (waitSet s p) else s

/-- A lane leaves the wait set (R223); with none left the port is held. -/
def dropWaitLane (s : State) (p n : Nat) : State :=
  if !bit (waitSet s p) n then s
  else
    let s := set s (ofPort p 0x2010_02) (setBit (waitSet s p) n false)
    let k := rxPhys s p n
    let s := if rxState s p k = 2 then setRx s p k 3 else s
    if waitSet s p = 0 then holdPort s p else seekLane s p 5

/-- The lane joins the wait set, with frames on it again (R223, R249). -/
def joinWaitSet (s : State) (p n : Nat) : State :=
  let k := rxPhys s p n
  setLane (setRx (set s (ofPort p 0x2010_02) (setBit (waitSet s p) n true)) p k 2) p k fun l => { l with peerState := 0 }

/-- Lanes of the wait set above rx_width_target are to leave it. Which is not stated: the highest-numbered (R248; log entry
18). -/
def trimLanes (s : State) (p : Nat) : State :=
  forEach ((setBits 10 0 (waitSet s p)).drop (widthTarget s p)) (fun s n => queueCmd s p (laneRecord 4 n 6 0) none) s

/-- A LANE_ADD acts at the receiver (R223, R246, R247, R248). Where it answers a request of ours, that request is over. -/
def addWaitLane (s : State) (p n : Nat) : State :=
  let k := rxPhys s p n
  if bit (waitSet s p) n then s
  else if !(lane s p k).rxTrained || (lane s p k).lost then
    let s := queueCmd s p (laneRecord 4 n 2 0) none
    match (port s p).asked with
    | some (m, reason) => if m = n then seekLane (setPort s p fun x => { x with asked := none }) p reason else s
    | none => s
  else
    let s := trimLanes (joinWaitSet s p n) p
    match (port s p).asked with
    | some (m, reason) =>
      if m = n then
        let s := searchOver (setPort s p fun x => { x with asked := none }) p
        let s := if reason = 5 then count32 s (ofPort p 0x2050_09) else s
        seekLane s p reason
      else s
    | none => s

/-- A LANE_REFUSE acts: the next candidate is asked for, unless the deal set is full (R246). -/
def laneRefused (s : State) (p n refusal : Nat) : State :=
  match (port s p).asked with
  | some (m, reason) =>
    if m = n then
      let s := setPort s p fun x => { x with asked := none }
      if refusal = 2 || refusal = 3 then
        seekLane (setLane s p (rxPhys s p n) fun l => { l with refused := true }) p reason
      else searchOver s p
    else s
  | none => s

/-- An idle state that waits to be announced is not taken, and one announced that the partner has not acknowledged is
woken from (R247, R250, R255). -/
def dropIdle (s : State) (p n : Nat) : State :=
  let idle (c : Nat) : Bool := c == 0x10 || c == 0x11
  let s := setPort s p fun x => { x with cmds := x.cmds.filter fun c => !(idle (recCode c.record) && recLane c.record == n) }
  match (lane s p n).announced with
  | some (v, _) => if v = 4 || v = 5 then setLane s p n fun l => { l with announced := none, waking := true } else s
  | none => s

/-- The answer of a transmitter to LANE_REQUEST_ADD (R222, R247). A lane whose LANE_REMOVE goes out before the answer is
idle by then. -/
def answerAdd (s : State) (p n reason : Nat) : State :=
  let refuse (why : Nat) : State := queueCmd s p (laneRecord 5 n 0 why) none
  let l := lane s p n
  if bit (plannedDeal s p) n then s
  else if 8 ≤ popcount 10 (plannedDeal s p) then refuse 0
  else if l.peerFailed || txState s p n = 7 then refuse 3
  else if l.test ≠ 0 && l.test ≠ 2 then
    (if reason = 5 then setLane (endTest s p n stPreempted) p n fun l => { l with addAsked := some reason }
     else refuse 2)
  else if txState s p n = 4 || txState s p n = 5 then
    setLane s p n fun l => { l with waking := true, addAsked := some reason }
  else if l.leaving ≠ 0 then setLane s p n fun l => { l with addAsked := some reason }
  else if txState s p n ≠ 3 && txState s p n ≠ 2 then refuse 2
  else
    let s := dropIdle s p n
    if l.peerTrained && !(lane s p n).waking then queueCmd s p (laneRecord 1 n reason 0) (some n)
    else setLane s p n fun l => { l with addAsked := some reason }

/-- The answer to LANE_REQUEST_REMOVE (R222). -/
def answerRemove (s : State) (p n reason : Nat) : State :=
  if !bit (plannedDeal s p) n then s
  else if popcount 10 (plannedDeal s p) = 1 then queueCmd s p (laneRecord 5 n 0 1) none
  else queueCmd s p (laneRecord 2 n reason 0) (if reason = 1 || reason = 2 then none else some n)

/-- The partner announces a state of one of its lanes (R249): 4 HUSH, 5 SHELVED, 6 TEST, 0 its test is over. A
lane marked FAILED stays so (R248). -/
def peerAnnounces (s : State) (p n v : Nat) : State :=
  let k := rxPhys s p n
  let s := setLane s p k fun l => { l with peerState := v }
  if (lane s p k).rxFailed then s
  else if v = 0 then reacquire s p k else if v = 6 then setRx (reacquire s p k) p k 6 else setRx s p k v

/-- A lane command acts (R221, R249); one that has acted already changes nothing further. -/
def laneActs (s : State) (p record : Nat) : State :=
  let n := recLane record
  if !isUp s p || 10 ≤ n then s
  else
    let c := recCode record
    if c = 1 then addWaitLane s p n
    else if c = 2 then dropWaitLane s p n
    else if c = 3 then answerAdd s p n (recReason record)
    else if c = 4 then answerRemove s p n (recReason record)
    else if c = 5 then laneRefused s p n (fld record 111 108)
    else if c = 0x10 then peerAnnounces s p n 4
    else if c = 0x11 then peerAnnounces s p n 5
    else if c = 0x12 then peerAnnounces s p n 6
    else if c = 0x13 then peerAnnounces s p n 0
    else s

/-- A command that acts on receipt, by lane `on` (R221, R223, R249). -/
def actsOnReceipt (record on : Nat) : Bool :=
  0x10 ≤ recCode record || ((recCode record = 1 || recCode record = 2) && recLane record = on)

/-! ### Idle states (R249, R250) -/

/-- Transmitter lanes outside the deal set that are to move to their idle state, a lane whose receiver is FAILED to SHELVED
(R248): the move is announced. -/
def idleLanes (s : State) (p : Nat) : State :=
  forEach (upFrom 0 10)
    (fun s n =>
      let l := lane s p n
      let want := if l.peerFailed then 2 else if 8 ≤ n then get s (ofPort p 0x2050_05) else get s (ofPort p 0x2050_06)
      let code := if want = 1 then 0x10 else 0x11
      let tx := txState s p n
      if !isUp s p || bit (plannedDeal s p) n || l.test ≠ 0 || l.announced.isSome || l.addAsked.isSome || l.waking then s
      else if (port s p).cmds.any (fun c => 0x10 ≤ recCode c.record && recLane c.record == n) then s
      else if want ≠ 0 && ((tx = 3 && l.peerTrained) || (tx ≠ 5 && l.peerFailed) || (tx = 4 && want ≠ 1) || (tx = 5 && want = 1)) then
        queueCmd s p (laneRecord code n 4 0) none
      else if (tx = 4 || tx = 5) && want = 0 then
        setLane s p n fun l => { l with waking := true }
      else s) s

/-- An acknowledgement covers the CONTROL flits that announced changes of state (R249). -/
def announcedCovered (s : State) (p a : Nat) : State :=
  forEach (upFrom 0 10)
    (fun s n =>
      match (lane s p n).announced with
      | some (v, q) =>
        if subMod 16 a q < 32768 then
          setTx (setLane s p n fun l => { l with announced := none, leaving := if v = 3 then 0 else l.leaving }) p n v
        else s
      | none => s) s

/-! ### Acknowledgement, replay and credit at the transmitter (R211, R214 to R217, R219) -/

/-- A replay begins from flit `n` (R214, R215). Only the first after a return from hold is sent with held set (R225). -/
def beginReplay (s : State) (p n : Nat) : State :=
  let s := setPort s p fun x =>
    { x with replayAt := some n, replayFrom := some n, fruitless := x.fruitless + 1
             replayHeld := x.replayHeld && x.replayAt.isNone }
  let s := odc s 0x0C (some p) none 1
  if get s (ofPort p 0x2000_07) ≤ (port s p).fruitless then holdPort s p else s

/-- An ack arrives (R211): it covers flits, or is ignored, or is an error. -/
def takeFlitAck (s : State) (p a : Nat) : State :=
  let x := port s p
  if subMod 16 a x.txSeq < 32768 then linkError s p
  else
    let left := x.replay.filter fun f => !(subMod 16 a f.seq < 32768)
    if left.length = x.replay.length then s
    else
      let s := setPort s p fun x =>
        { x with replay := left, fruitless := 0
                 replayAt := match x.replayAt with
                   | some n => if subMod 16 a n < 32768 then some ((a + 1) % 65536) else some n
                   | none => none }
      announcedCovered s p a

/-- A credit arrives for a channel (R217). -/
def takeCredit (s : State) (p v c : Nat) : State :=
  if 6 ≤ v then s
  else
    let d := subMod 14 c (nth 0 v (port s p).freedSeen)
    if d = 0 || 16384 - 4096 ≤ d then s
    else if d ≤ 4096 then setPort s p fun x => { x with freedSeen := modifyNth (fun _ => c) v x.freedSeen }
    else linkError s p

/-- A nak, or after a return from hold the first flit of the partner, starts a replay (R214, R225). -/
def takeNak (s : State) (p : Nat) (f : Flit) : State :=
  let x := port s p
  let start := (f.ack + 1) % 65536
  if x.replayHeld && x.replayAt.isNone then
    (if x.replay.isEmpty then setPort s p fun x => { x with replayHeld := false } else beginReplay s p start)
  else if f.nak && !x.replay.isEmpty && !(x.replayAt.isSome && x.replayFrom == some start) then
    beginReplay (count64 s (ofPort p 0x2020_06)) p start
  else s

/-! ### The receiver (R208, R213) -/

/-- Slots a packet needs, from its first header slot (R208). -/
def streamLength (slot : Nat) : Nat :=
  if noData (fld slot 35 28) then 2
  else 2 + if fld slot 27 20 = 0 then 256 else fld slot 27 20

/-- A whole packet of the stream goes to the receive buffers: one of a channel that does not exist is not stored
(R208), and one whose slots found no room has fewer than it states (R220). -/
def storePacket (s : State) (p : Nat) (abort : Bool) : State :=
  let x := port s p
  let vc := fld (nth 0 0 x.rxSlots) 15 13
  let r : RxPacket :=
    { k := { packetOf x.rxSlots abort x.rxHeld with short := 0 < x.rxShort }, pool := x.rxPool
      slots := if 6 ≤ vc then 0 else x.rxSlots.length - x.rxShort }
  setPort s p fun x =>
    { x with rxSlots := [], rxLost := 0, rxShort := 0, rxBuf := insertT x.rxBuf vc ((lookupT x.rxBuf vc).getD [] ++ [r]) }

/-- A slot of channel `v` finds no room in the buffer it is held in (R217, R220). -/
def noRoom (s : State) (p v : Nat) (pool : Bool) : Bool :=
  v < 6 && (if pool then 262144 ≤ poolInUse s p else 4096 ≤ dedicatedInUse s p v)

/-- A slot that finds no room is discarded: a link protocol error, counted once for its packet (R220). -/
def loseSlot (s : State) (p : Nat) : State :=
  let s := if (port s p).rxLost = 0 && (port s p).rxShort = 0 then linkError s p else s
  setPort s p fun x => { x with rxLost := x.rxLost + 1 }

/-- The same of a header slot. The receiver reads it all the same, to delimit the packet (R208); the packet it belongs to
fails step 1 of R63 (log entry 36). -/
def loseHeader (s : State) (p : Nat) : State :=
  let s := if (port s p).rxShort = 0 then linkError s p else s
  setPort s p fun x => { x with rxShort := x.rxShort + 1 }

/-- A slot of the packet being received; `last` says whether its flit marks a packet that ends with it (R208, R209). -/
def assembleSlot (s : State) (p x : Nat) (pool held last : Bool) : State :=
  let fresh := (port s p).rxSlots.isEmpty
  let s := if fresh then setPort s p fun y => { y with rxPool := pool, rxHeld := held } else s
  let vc := fld (nth x 0 (port s p).rxSlots) 15 13
  let full := noRoom s p vc (port s p).rxPool
  let take (s : State) : State := setPort s p fun y => { y with rxSlots := y.rxSlots ++ [x] }
  let s :=
    if !full then (if pool then reviewXoff (take s) p else take s)
    else if (port s p).rxSlots.length < 2 then take (loseHeader s p) else loseSlot s p
  let y := port s p
  if y.rxSlots.length + y.rxLost = streamLength (nth 0 0 y.rxSlots) then storePacket s p last else s

/-- A slot of the packet that is forwarded by cut-through, of channel `v`, with `owed` slots still to come (R192). -/
def forwardSlot (s : State) (p v owed x : Nat) (last : Bool) : State :=
  let s :=
    if 0 < (port s p).rxLost then s
    else if noRoom s p v (port s p).rxPool then
      let s := closeCut (loseSlot s p) p true false
      setPort s p fun y => { y with rxCut := some (v, owed) }
    else feedCut s p v x
  if owed ≤ 1 then
    setPort (closeCut s p false last) p fun y => { y with rxLost := 0 }
  else setPort s p fun y => { y with rxCut := some (v, owed - 1) }

/-- Another packet of the stream ends in these slots. -/
def laterEnd (xs : List Nat) : Bool :=
  match xs with
  | [] => false
  | y :: _ => streamLength y ≤ xs.length

/-- Slots of a delivered DATA flit enter the packet stream (R208); the last packet ending in a flit with
abort set is marked (R209). -/
def streamSlots (f : Flit) : List Nat → State → Nat → State
  | [], s, _ => s
  | x :: xs, s, p =>
    let last := f.abort && !laterEnd xs
    let s := match (port s p).rxCut with
      | some (v, owed) => forwardSlot s p v owed x last
      | none => assembleSlot s p x f.pool f.held last
    streamSlots f xs s p

/-- Records of a CONTROL flit act on delivery, but those that acted on receipt (R221). -/
def deliverRecords (s : State) (p seq : Nat) : List Nat → Nat → State
  | [], _ => setPort s p fun x => { x with acted := x.acted.filter fun e => e.1 != seq }
  | r :: rs, i =>
    let s := if (port s p).acted.contains (seq, i) then s else laneActs s p r
    deliverRecords s p seq rs (i + 1)

/-- Flit `e` is delivered. -/
def deliverFlit (s : State) (p : Nat) (f : Flit) : State :=
  let s := count64 s (ofPort p 0x2020_02)
  let s := setPort s p fun x => { x with expect := (x.expect + 1) % 65536, gap := false }
  if f.type = 0 then streamSlots f f.slots s p else deliverRecords s p f.seq f.slots 0

/-- Records that act on receipt by lane `on` (R221, R223). -/
def receiveRecords (s : State) (p seq on : Nat) : List Nat → Nat → State
  | [], _ => s
  | r :: rs, i =>
    let s :=
      if actsOnReceipt r on && !(port s p).acted.contains (seq, i) then
        laneActs (setPort s p fun x => { x with acted := x.acted ++ [(seq, i)] }) p r
      else s
    receiveRecords s p seq on rs (i + 1)

/-- The gap check: every lane of the wait set has moved past the expected flit (R213). -/
def gapCheck (s : State) (p : Nat) : State :=
  let x := port s p
  let past := fun n => match lookupT x.marks n with
    | some m => let d := subMod 16 m x.expect; 0 < d && d ≤ 32768
    | none => false
  if !x.gap && (setBits 10 0 (waitSet s p)).all past && waitSet s p != 0 then
    count64 (setPort s p fun x => { x with gap := true, nakDue := true, heldFlits := [] }) (ofPort p 0x2020_05)
  else s

/-- The head flit of lane `on` is handled: the answer is whether it is held there (R213). -/
def handleFlit (s : State) (p on : Nat) (f : Flit) : State × Bool :=
  let s := takeNak (takeFlitAck s p f.ack) p f
  if !isUp s p then (s, false) else
  let s := takeCredit s p f.creditVc f.credit
  let s := if f.xoff then setPort s p fun x => { x with xoffAt := some s.time.cycles } else s
  let older := fun (s : State) => f.type != 1 && let d := subMod 16 (port s p).expect f.seq; 0 < d && d ≤ 32767
  let s := if f.type = 2 && !older s then receiveRecords s p f.seq on f.slots 0 else s
  let s := setPort s p fun x => { x with marks := insertT x.marks on f.seq }
  if f.type = 1 || !isUp s p then (gapCheck s p, false)
  else if older s then (gapCheck (count64 s (ofPort p 0x2020_04)) p, false)
  else if f.seq = (port s p).expect then (gapCheck (deliverFlit s p f) p, false)
  else if (port s p).gap then (gapCheck s p, false)
  else
    let s := gapCheck (setPort s p fun x => { x with heldFlits := insertT x.heldFlits on f }) p
    (s, (lookupT (port s p).heldFlits on).isSome)

/-- Held flits that are now due, and flits behind heads that have gone, are handled; `fuel` bounds them. -/
def mergeLanes : Nat → State → Nat → State
  | 0, s, _ => s
  | fuel + 1, s, p =>
    let x := port s p
    match x.heldFlits.find? fun e => e.2.seq == x.expect with
    | some (_, f) =>
      mergeLanes fuel (gapCheck (deliverFlit (setPort s p fun x =>
        { x with heldFlits := x.heldFlits.filter fun e => e.2.seq != f.seq }) p f) p) p
    | none =>
      match x.behind.find? fun e => (lookupT x.heldFlits e.1).isNone && !e.2.isEmpty with
      | some (on, fs) =>
        match fs with
        | f :: fs =>
          let s := setPort s p fun x =>
            { x with behind := if fs.isEmpty then eraseT x.behind on else insertT x.behind on fs }
          mergeLanes fuel (handleFlit s p on f).1 p
        | [] => s
      | none => s

/-- Flits of a lane's merge buffer (R212). -/
def mergePlaces : Nat := 16

/-- A flit that is discarded unused, as an error (R220). -/
def reservedFlit (f : Flit) : Bool :=
  f.type == 3 || (f.type == 2 && f.slots.any fun r => !listedCode (recCode r))

/-- Flits are taken from a lane that is trained, or still in the wait set (R212, R246). -/
def takesFlits (s : State) (p k : Nat) : Bool := (lane s p k).rxTrained || bit (waitSet s p) (rxPhys s p k)

/-- Skip blocks on a lane that was in HUSH: its transmitter has woken it to ACTIVE (Table 11.10). -/
def shownActive (s : State) (p k : Nat) : State :=
  if (lane s p k).peerState = 4 then setRx (setLane s p k fun l => { l with peerState := 0 }) p k 3 else s

/-- FLIT_RECEIVE: a place arrives on physical receive lane `k` (R207, R212, R213, R232). In HELD what arrives is
discarded (R225). -/
def flitArrives (s : State) (p k bits : Nat) (bad : Bool) : State :=
  if !portPowered s p || !isUp s p || 10 ≤ k || !takesFlits s p k then s
  else if isSkip bits then shownActive s p k
  else if bad || !placeOk bits then count64 s (ofPort p 0x2020_03)
  else
    let f := flitOf bits
    let on := rxPhys s p k
    if reservedFlit f then linkError s p
    else
      let s := if f.type = 0 && f.slotsUsed = 0 then linkError s p else s
      match lookupT (port s p).heldFlits on with
      | some _ =>
        let fs := (lookupT (port s p).behind on).getD []
        if mergePlaces ≤ fs.length + 1 then count64 s (ofPort p 0x2020_03)
        else setPort s p fun x => { x with behind := insertT x.behind on (fs ++ [f]) }
      | none => mergeLanes 400 (handleFlit s p on f).1 p

/-! ### The transmitter (R206, R209, R212, R216) -/

/-- Fill a DATA flit: slots so far, whether packets beginning in it are pool packets, and whether a marked
packet has ended (R209, R216). -/
structure Fill where
  slots : List Nat
  kind  : Option Bool
  abort : Bool
  ended : List Nat
  deriving Repr

/-- A TIME_SYNC RSP takes its residence, and its CRC-32C, as it leaves (R283): t3 less the t2 it carries. -/
def stampLeaving (s : State) (slots : List Nat) : List Nat :=
  let k := packetOf slots false false
  let d := nth 0 0 k.data
  if k.opcode = opTimeSync && fld d 127 126 = 1 then
    packetSlots (sealed { k with data := [setFld d 95 64 (subMod 64 (now s) (fld d 63 0) % 2 ^ 32)] })
  else slots

/-- One slot of a place, where it still has one: a slot that was filled in (R65) stands in no buffer. -/
def RxPlace.one (r : RxPlace) : Option RxPlace := if r.slots = 0 then none else some { r with slots := 1 }

/-- The place once that slot has been sent (R192). -/
def RxPlace.less (r : RxPlace) : RxPlace := { r with slots := r.slots - 1 }

/-- Take slots of the chosen packets into a flit, and free those that were received (R192, R217); `fuel` bounds the slots. -/
def fillFlit : Nat → State → Nat → Fill → State × Fill
  | 0, s, _, w => (s, w)
  | fuel + 1, s, p, w =>
    if w.abort then (s, w)
    else
      match (port s p).tx with
      | [] => (s, w)
      | t :: ts =>
        let start : Option Bool :=
          if t.slots.isEmpty then none
          else if t.begun then some t.pool
          else if dedicatedFits s p t.vc t.size 0 then some false
          else if !peerXoff s p then some true else none
        match start with
        | none => (s, w)
        | some pool =>
          if !t.begun && w.kind.isSome && w.kind != some pool then (s, w)
          else
            let t := if t.begun then t else { t with slots := stampLeaving s t.slots }
            let s := if t.begun then s else recordDelay s p t
            let x := nth 0 0 t.slots
            let rest := t.slots.drop 1
            let whole := rest.isEmpty && t.owed = 0
            let left := { t with slots := rest, begun := true, pool := pool, rx := t.rx.map RxPlace.less }
            let s := setPort s p fun y =>
              { y with
                tx := if whole then ts else left :: ts
                begun := if !t.begun && !pool then modifyNth (fun n => (n + t.size) % 16384) t.vc y.begun else y.begun }
            let s := if t.begun then s else setQueue s p t.queue (queueOf s p t.queue)
            fillFlit fuel (freeRx s (t.rx.bind RxPlace.one)) p
              { slots := w.slots ++ [x], kind := if t.begun then w.kind else some pool,
                abort := whole && t.abort,
                ended := if whole then w.ended ++ t.entry.toList else w.ended }

/-- The channel whose credit the next flit returns: in turn those whose count has changed, and every one once in 64 flits
(R217). -/
def creditDue (x : Port) : Nat :=
  let turn := (upFrom 1 6).map fun i => (x.creditTurn + i) % 6
  let due (old : Bool) (v : Nat) : Bool :=
    if old then 57 ≤ nth 0 v x.creditAge else nth 0 v x.freed ≠ nth 0 v x.returned
  ((turn.find? (due true)) <|> turn.find? (due false)).getD ((x.creditTurn + 1) % 6)

/-- The fields every flit carries (R211, R214, R217, R219). -/
def refreshed (s : State) (p : Nat) (f : Flit) : Flit :=
  let x := port s p
  let v := creditDue x
  { f with ack := (x.expect + 65535) % 65536, nak := x.nakDue, xoff := x.xoff, creditVc := v, credit := nth 0 v x.freed }

/-- The next lane of the deal set in turn (R212). -/
def nextLane (s : State) (p : Nat) : Option Nat :=
  let ls := setBits 10 0 (dealSet s p)
  match ls.find? fun n => (port s p).lastLane < n with
  | some n => some n
  | none => ls.head?

/-- Deal a flit to a lane, or to the next one in turn. -/
def dealFlit (s : State) (p : Nat) (f : Flit) (on : Option Nat) : State :=
  match on <|> nextLane s p with
  | none => s
  | some n =>
    let f := refreshed s p f
    let v := f.creditVc
    let s := setLane s p n fun l => { l with flits := l.flits + 1 }
    count64 (setPort s p fun x =>
      { x with sent := x.sent ++ [(n, f)], nakDue := false, creditTurn := v
               returned := modifyNth (fun _ => f.credit) v x.returned
               creditAge := modifyNth (fun _ => 0) v (x.creditAge.map (· + 1))
               lastLane := if on.isSome then x.lastLane else n }) (ofPort p 0x2020_01)

def blankFlit (type seq : Nat) : Flit :=
  { type := type, seq := seq, ack := 0, nak := false, held := false, xoff := false, pool := false, abort := false,
    slotsUsed := 0, creditVc := 7, credit := 0, slots := [] }

/-- A sequenced flit is sent and kept for replay (R210, R214). -/
def sendSequenced (s : State) (p : Nat) (f : Flit) (on : Option Nat) : State :=
  let s := setPort s p fun x => { x with replay := x.replay ++ [f], txSeq := (x.txSeq + 1) % 65536 }
  dealFlit s p f on

/-- The commands of the next CONTROL flit: at most 15, with at most one LANE_ADD or LANE_REMOVE (R221). -/
def controlBatch : Nat → Bool → List LaneCmd → List LaneCmd
  | 0, _, _ => []
  | _, _, [] => []
  | n + 1, used, c :: cs =>
    let sets := recCode c.record = 1 || recCode c.record = 2
    if sets && used then [] else c :: controlBatch n (used || sets) cs

/-- A CONTROL flit goes out; its LANE_ADD or LANE_REMOVE changes the deal set, and what it announces waits for
its acknowledgement (R222, R249). -/
def sendControl (s : State) (p : Nat) : State :=
  let batch := controlBatch 15 false (port s p).cmds
  let s := setPort s p fun x => { x with cmds := x.cmds.drop batch.length }
  let seq := (port s p).txSeq
  let f := { blankFlit 2 seq with slotsUsed := batch.length, slots := batch.map (·.record) }
  let change := batch.find? fun c => recCode c.record = 1 || recCode c.record = 2
  let on := change.bind (·.lane)
  let turn (s : State) (add : Bool) (n : Nat) : State :=
    let s := set s (ofPort p 0x2010_01) (setBit (dealSet s p) n add)
    let s := if add then setLane s p n fun l => { l with announced := none } else s
    reviewLoans (count32 (setTx s p n (if add then 2 else 3)) (ofPort p 0x2020_0E)) p
  let s := match change with
    | some c =>
      if recCode c.record = 1 then turn (sendSequenced s p f on) true (recLane c.record)
      else turn (sendSequenced s p f on) false (recLane c.record)
    | none => sendSequenced s p f none
  batch.foldl
    (fun s c =>
      let v := if recCode c.record = 0x10 then some 4 else if recCode c.record = 0x11 then some 5
        else if recCode c.record = 0x12 then some 6 else if recCode c.record = 0x13 then some 3 else none
      match v with
      | some v => setLane s p (recLane c.record) fun l => { l with announced := some (v, seq) }
      | none => s) s

/-- A LANE_REMOVE that answers LOS or LOL is dealt within the new deal set (R222). -/
def removeFirst (s : State) (p : Nat) : State :=
  match (controlBatch 15 false (port s p).cmds).find? fun c => recCode c.record = 2 && c.lane.isNone with
  | some c => set s (ofPort p 0x2010_01) (setBit (dealSet s p) (recLane c.record) false)
  | none => s

/-- One replayed flit (R215): the first of the buffer from number `n` onward (R214). -/
def resendFlit (s : State) (p n : Nat) : State :=
  match (port s p).replay.find? fun f => subMod 16 f.seq n < 32768 with
  | none => setPort s p fun x => { x with replayAt := none, replayHeld := false }
  | some f =>
    let last := (f.seq + 1) % 65536 = (port s p).txSeq
    let s := dealFlit s p { f with held := (port s p).replayHeld } none
    count64 (setPort s p fun x =>
      { x with replayAt := if last then none else some ((f.seq + 1) % 65536)
               replayHeld := x.replayHeld && !last }) (ofPort p 0x2020_08)

/-- The entry whose use has number `run`. -/
def entryOfRun (s : State) (run : Nat) : Option Nat := (s.coll.entries.find? fun e => e.2.run == run).map (·.1)

/-- Packets of the SENDs of these runs have left (R159). -/
def entriesLeft (s : State) (runs : List Nat) : State :=
  forEach runs (fun s n =>
    match entryOfRun s n with
    | some e => updThread s e fun t => { t with unsent := t.unsent - 1 }
    | none => s) s

/-- FLIT_TRANSMIT: the next flit of a port goes to a lane (R209, R212, R214). -/
def flitLeaves (s : State) (p : Nat) : State :=
  if !portPowered s p || !isUp s p then s
  else
    let s := reviewXoff s p
    let idle (s : State) : State := dealFlit s p (blankFlit 1 (port s p).txSeq) none
    match (port s p).replayAt with
    | some n => resendFlit s p n
    | none =>
      if (port s p).replayHeld || 8192 ≤ (port s p).replay.length then idle s
      else if !(port s p).cmds.isEmpty then sendControl (removeFirst s p) p
      else
        let (s, w) := fillFlit 15 s p { slots := [], kind := none, abort := false, ended := [] }
        if w.slots.isEmpty then idle s
        else
          entriesLeft (sendSequenced s p
            { blankFlit 0 (port s p).txSeq with
              pool := w.kind == some true, abort := w.abort, slotsUsed := w.slots.length, slots := w.slots } none)
            w.ended

/-- REPLAY_TIMEOUT (R214): the replay timer runs while the port is UP and its buffer holds a flit, a replay or not. -/
def replayTimesOut (s : State) (p : Nat) : State :=
  if isUp s p then
    match (port s p).replay with
    | f :: _ => beginReplay (count64 s (ofPort p 0x2020_07)) p f.seq
    | [] => s
  else s

/-- GRACE_PERIOD_EXPIRY (R224). -/
def graceEnds (s : State) (p : Nat) : State := if linkState s p = 2 then flushPort s p else s

/-- port_retrain (R228, R371). -/
def portRetrainOp (p : Nat) (s : State) : State × CmdOut :=
  if portsOf s.part ≤ p then (s, .done stUnsupported 0)
  else if !isUp s p then (s, .done stBusy 0)
  else
    let t := holdPort s p
    if linkState t p = 2 then (t, .waits) else (t, .done stLinkLost 0)

/-- lane_change (Table 10.8): remove is sent as LANE_REMOVE, add as LANE_REQUEST_ADD to the peer. -/
def laneChangeOp (p n : Nat) (remove : Bool) (s : State) : State × CmdOut :=
  if portsOf s.part ≤ p || 10 ≤ n then (s, .done stUnsupported 0)
  else if !isUp s p then (s, .done stBusy 0)
  else if remove then
    (if !bit (plannedDeal s p) n then (s, .done stEmpty 0)
     else if popcount 10 (plannedDeal s p) = 1 then (s, .done stBusy 0)
     else (queueCmd s p (laneRecord 2 n 6 0) (some n), .done stOk 0))
  else if bit (waitSet s p) n then (s, .done stEmpty 0)
  else
    (queueCmd (setPort s p fun x => { x with asked := x.asked <|> some (n, 6) }) p (laneRecord 3 n 6 0) none,
      .done stOk 0)

end Sys2Proof.Machine
end

