-- ==== Sys2Proof/Machine/Lanes.lean ====
section
/-! DEFINITION. Lanes: training (R236 to R244), detectors and hard failures (R245 to R248), idle states (R250),
patterns, injection and tests (R251 to R255). -/

namespace Sys2Proof.Machine

/-! ### Training blocks and bookplates -/

/-- One bit into the CRC-16 of a training block (R236). -/
def crc16Bit (r : Nat) (b : Bool) : Nat :=
  let top := (r / 2 ^ 15 % 2 == 1) != b
  if top then (r * 2 % 2 ^ 16) ^^^ 0x1021 else r * 2 % 2 ^ 16

/-- tb_crc over bits [127:16] from bit 127 down. -/
def tbCrc (v : Nat) : Nat := ((upFrom 0 112).map fun i => bit v (127 - i)).foldl crc16Bit 0xFFFF

/-- A training block as its receiver corrects it, and whether its polarity was inverted; none when it is not
valid (R236, R238). -/
def trainingBlockOf (bits : Nat) : Option (Nat × Bool) :=
  let inverted := fld bits 127 112 == 0xB4E2
  let v := if inverted then 2 ^ 128 - 1 - bits % 2 ^ 128 else bits % 2 ^ 128
  if fld v 127 112 = 0x4B1D && fld v 15 0 = tbCrc v then some (v, inverted) else none

/-- A bookplate whose bk_crc holds (R235). -/
def plateOk (b : Nat) : Bool := fld b 31 0 == crc32c (bytesLE 60 (b / 2 ^ 32))

def plateVersion (b : Nat) : Nat := fld b 511 504
def plateEndpoint (b : Nat) : Nat := fld b 463 442
def plateEdition (b : Nat) : Nat := fld b 441 434
def platePort (b : Nat) : Nat := fld b 431 428
def plateLinkState (b : Nat) : Nat := fld b 361 360
def plateReady (b : Nat) : Bool := bit b 359
def plateSession (b : Nat) : Nat := fld b 423 408

/-- The fields of R242 are equal. -/
def platesAgree (a b : Nat) : Bool :=
  plateVersion a == plateVersion b && plateEndpoint a == plateEndpoint b && plateEdition a == plateEdition b &&
    platePort a == platePort b && plateSession a == plateSession b

def partnerPlate (s : State) (p : Nat) : Nat := get s (ofPort p 0x2040_01)

/-- The partner, or 0x3F_FFFF where none is known (Table 14.8). -/
def partnerOrNone (s : State) (p : Nat) : Nat :=
  if plateVersion (partnerPlate s p) = 0 then 0x3FFFFF else partnerEndpoint s p

/-- Port cycles, at 1.5625 GHz, of the time island's count, modulo 2^32 (R234). -/
def portCycles (s : State) : Nat := portCyclesAt s.time.cycles % 2 ^ 32

/-! ### Equalisation and the port's stage (R237, R239) -/

/-- Our transmitter answers a request: 1 UPDATED, 2 AT_LIMIT, 3 REFUSED, and 0 where nothing is asked. -/
def answerTaps (s : State) (p n request tap : Nat) : State :=
  let l := lane s p n
  let asked : Option Nat :=
    if request = 1 && tap ≤ 4 then some (setTap l.taps tap (tapOf l.taps tap + 1))
    else if request = 2 && tap ≤ 4 then some (setTap l.taps tap (tapOf l.taps tap - 1))
    else if request = 3 && tap ≤ 4 then some (presetTaps tap) else none
  match asked with
  | none => setLane s p n fun l => { l with respStatus := 0 }
  | some v =>
    if get s (ofLane p n 0x3002_01) = 1 then setLane s p n fun l => { l with respStatus := 3 }
    else if tapsAllowed v then setLane s p n fun l => { l with taps := v, respStatus := 1 }
    else setLane s p n fun l => { l with respStatus := 2 }

/-- What a partner's training block asks of our transmitter on the same lane number (R239). DONE stores the
taps. -/
def takeEqRequest (s : State) (p n v : Nat) : State :=
  let id := fld v 102 101
  if 10 ≤ n || (lane s p n).respId = id || (lane s p n).txDone then s
  else
    let s := answerTaps (setLane s p n fun l => { l with respId := id }) p n (fld v 100 98) (fld v 97 95)
    if fld v 100 98 = 4 then
      setLane (set s (tapsCn p n) (lane s p n).taps) p n fun l => { l with txDone := true }
    else s

/-- The port's lanes train on their own, through stages 1 to 4 (R237). -/
def inLaneStages (s : State) (p : Nat) : Bool := 1 ≤ stageOfPort s p && stageOfPort s p ≤ 4

/-- training_stage while the lanes train on their own: the lowest stage of those detected, 1 with none (log entry 63). -/
def showStage (s : State) (p : Nat) : State :=
  if inLaneStages s p && !(port s p).told then
    let ls := ((port s p).lanes.map (·.stage)).filter (2 ≤ ·)
    set s (ofPort p 0x2050_01) (if ls.isEmpty then 1 else ls.foldl min 4)
  else s

/-- What keeps the port from training to its end is reported, once in each training. -/
def tellOnce (s : State) (p : Nat) (f : State → State) : State :=
  if (port s p).told then s else f (setPort s p fun x => { x with told := true })

/-- RETRAIN_START: 2 µs after the port entered HELD (R244). -/
def retrainStarts (s : State) (p : Nat) : State :=
  if portPowered s p && linkState s p = 2 && stageOfPort s p = 8 then startTraining s p true else s

/-! ### Detectors and hard failures (R245, R246, R248) -/

def lanePlace (p k : Nat) : Nat := p * 16 + k

/-- The receiver asks its partner to stop dealing to a lane of the wait set; one lost to LOS or LOL leaves at once (R223,
R246). One lost between the end of stage 7 and the session leaves it too, and the request follows (R243). -/
def loseLane (s : State) (p n reason : Nat) : State :=
  if bit (waitSet s p) n && isUp s p then
    let s := queueCmd s p (laneRecord 4 n reason 0) none
    if reason ≠ 3 then dropWaitLane s p n else s
  else if (port s p).ready then set s (ofPort p 0x2010_02) (setBit (waitSet s p) n false)
  else s

/-- A hard failure of a trained receive lane. `kind` is that of Table 14.12, `reason` that of Table 10.4. -/
def laneFails (s : State) (p k kind reason : Nat) : State :=
  let n := rxPhys s p k
  let inSet := bit (waitSet s p) n
  let cn := ofLane p k 0x3009_01
  let s := set s cn (min 255 (get s cn + 1))
  let s := setLane s p k fun l =>
    { l with rxTrained := false, lost := l.lost || reason != 3, stage := 0, lock := 0, plates := 0 }
  let outcome := if !inSet then 2 else if (candidates s p).isEmpty then 1 else 0
  let s := hardFailure s (p + 1) p (0x2600 + lanePlace p k) kind outcome k
  let s := if rxState s p k = 2 && reason = 3 then s else setRx s p k 1
  let s :=
    if get s (ofPort p 0x2050_07) ≤ get s cn then
      reportPartner (setRx (setLane s p k fun l => { l with rxFailed := true }) p k 7) 0x04 p k
    else s
  loseLane s p n reason

/-- A LOS or LOL of a lane: a hard failure where it is held trained; else it leaves the wait set, if it is still there. -/
def laneLost (s : State) (p k kind reason : Nat) : State :=
  if (lane s p k).rxTrained then laneFails s p k kind reason
  else loseLane (setLane s p k fun l => { l with lock := 0, plates := 0 }) p (rxPhys s p k) reason

/-- The detectors of a lane are masked (R245): the partner announced SHELVED or TEST, or a test of our own stops
what the lane receives. -/
def masked (s : State) (p k : Nat) : Bool :=
  let l := lane s p k
  l.peerState == 5 || l.peerState == 6 || l.test == 3

/-- LOS_ASSERT (R245). In HUSH the detector is masked between alignment-and-filler codewords; `filler` says that it
asserts within one. -/
def losAsserts (s : State) (p k : Nat) (filler : Bool) : State :=
  if !portPowered s p || !laneUsable s p k || masked s p k || ((lane s p k).peerState = 4 && !filler) then s
  else laneLost (count32 s (ofLane p k 0x3007_01)) p k 1 1

/-- LOL_ASSERT (R245). -/
def lolAsserts (s : State) (p k : Nat) : State :=
  if !portPowered s p || !laneUsable s p k || masked s p k then s
  else laneLost (count32 s (ofLane p k 0x3008_01)) p k 1 2

/-- A lane's receiver knows where the next alignment-and-filler codeword is to come: it is locked, and its partner sends
frames or these codewords alone (R240, R245). -/
def expectsFillers (s : State) (p k : Nat) : Bool := (lane s p k).lock == 2 && !masked s p k

/-- `n` alignment-and-filler codewords in succession are missing or invalid where they were expected: two are a loss of lock
(R245). -/
def fillersMissing (s : State) (p k n : Nat) : State :=
  let s := setLane s p k fun l => { l with badFrames := l.badFrames + n }
  if 2 ≤ (lane s p k).badFrames then lolAsserts (setLane s p k fun l => { l with badFrames := 0 }) p k else s

/-- UNCORRECTABLE_CODEWORD (R240, R246): counted, and a hard failure unless the partner injects errors. `place` counts
the codewords since the lane's latest alignment-and-filler codeword: among the next 64 it undoes a first lock, and where
the next such codeword is expected it is one that is invalid (R245). -/
def badCodeword (s : State) (p k place : Nat) : State :=
  if !portPowered s p || !laneUsable s p k then s
  else
    let s := light (count64 s (ofLane p k 0x3005_01)) 0xD000_05 64
    let s := if (lane s p k).lock = 1 && (place ≤ 64 || place = 1025) then setLane s p k fun l => { l with lock := 0 } else s
    let s := if place % 1025 = 0 && expectsFillers s p k then fillersMissing s p k (place / 1025) else s
    if (lane s p k).rxTrained && !(lane s p k).peerInject && !masked s p k then laneFails s p k 0 3 else s

/-! ### Stages 1 to 3 (R236 to R239) -/

/-- The receiver's own equaliser decides its next request: free (R239). Code 4 is DONE. A partner whose receiver does
not hear this lane number is asked nothing: the receiver adapts alone until it is done. -/
def nextEqRequest (s : State) (p k : Nat) (heard : Bool) : State :=
  let (n, s) := draw s
  let v := Config.freeEqualiser n
  let r := if (port s p).fast || !heard then (if v % 5 = 4 then 4 else 0) else v % 5
  setLane s p k fun l =>
    { l with reqId := (l.reqId + 1) % 4, answered := !heard, eqRequest := r, eqTap := v / 5 % 5,
             rxDone := r == 4, stage := if r = 4 then 4 else l.stage }

/-- The direction of the lanes (R238): straight, reversed, or miswired. -/
def laneOrder (s : State) (p : Nat) (ks : List Nat) : Option Bool :=
  if ks.all fun k => (lane s p k).reports == some k then some false
  else if ks.all fun k => (lane s p k).reports == some (9 - k) then some true else none

/-- Receive lanes detected in this training. -/
def detectedLanes (s : State) (p : Nat) : List Nat := (upFrom 0 10).filter fun k => 2 ≤ (lane s p k).stage

/-- Stage 2: a lane has been detected, and the order of all those detected is judged; a miswired port stays INIT (R238), and
has no lane through stage 4 until it tries again (R237). -/
def judgeOrder (s : State) (p : Nat) : State :=
  let ks := detectedLanes s p
  match laneOrder s p ks with
  | some reversed => set s (ofPort p 0x2040_04) (b2n reversed)
  | none =>
    let wrong := ks.foldl (fun v k => if (lane s p k).reports == some k then v else setBit v k true) 0
    let s := setPort s p fun x => { x with stalled := x.stalled || linkState s p == 0 }
    tellOnce (set s (ofPort p 0x2050_01) 2) p fun s =>
      report s 0x05 p (partnerOrNone s p) (partnerEdition s p) wrong

/-- A valid training block in stage 1: the sixteenth in succession detects the lane. -/
def blockDetects (s : State) (p k reported : Nat) (inverted : Bool) : State :=
  let whole := (lane s p k).detects = 15
  let s := setLane s p k fun l =>
    { l with detects := l.detects + 1, inverted := inverted, reports := some reported, stage := if whole then 3 else 1 }
  if whole then judgeOrder s p else s

/-- A valid training block in stage 3: our transmitter answers what it asks, and our receiver goes on once its own
request is answered, or alone where the partner's receiver is still in stage 1 (R239). -/
def blockEqualises (s : State) (p k v : Nat) : State :=
  let s := takeEqRequest s p (fld v 111 108) v
  let heard := fld v 107 104 ≠ 1
  let s := if fld v 94 93 = (lane s p k).reqId then setLane s p k fun l => { l with answered := true } else s
  if (lane s p k).answered || !heard then nextEqRequest s p k heard else s

/-- Lanes train: the firmware image runs (R358). A management restart stops no training (R312). -/
def lanesTrain (s : State) : Bool := get s 0x8010_03 == 2

/-- A lane takes training blocks: its port trains, or may begin to. A port that waits for its retry takes none (R237),
nor does any in firmware state BOOT (R358). -/
def takesBlocks (s : State) (p k : Nat) : Bool :=
  lanesTrain s && portPowered s p && laneUsable s p k && !(lane s p k).rxFailed && !(port s p).stalled &&
    (linkState s p == 0 || (linkState s p == 2 && stageOfPort s p != 8))

/-- TRAINING_BLOCK (R236 to R239). -/
def blockArrives (s : State) (p k bits : Nat) : State :=
  if !takesBlocks s p k then s
  else
    let s := if stageOfPort s p = 0 || (linkState s p = 0 && stageOfPort s p = 8) then startTraining s p false else s
    match trainingBlockOf bits with
    | none =>
      let s := setLane s p k fun l => { l with detects := 0, badBlocks := l.badBlocks + 1 }
      if (lane s p k).badBlocks = 16 then lolAsserts (setLane s p k fun l => { l with badBlocks := 0 }) p k else s
    | some (v, inverted) =>
      let s := setLane s p k fun l => { l with badBlocks := 0 }
      let stage := (lane s p k).stage
      showStage
        (if stage = 1 then blockDetects s p k (fld v 111 108) inverted
         else if stage = 3 then blockEqualises s p k v
         else if stage = 4 then takeEqRequest s p (fld v 111 108) v
         else s) p

/-! ### Stages 4 to 7 (R237, R240 to R243) -/

/-- Receive lanes that have finished stage 4. -/
def lockedLanes (s : State) (p : Nat) : List Nat :=
  (upFrom 0 10).filter fun k => (lane s p k).stage == 4 && (lane s p k).lock == 2

/-- Receive lanes the port still waits for in stages 1 to 4: those detected, and from HELD all that are checked (R237,
R244). -/
def lateLanes (s : State) (p : Nat) : List Nat :=
  (upFrom 0 10).filter fun k =>
    (if (port s p).fast then 1 else 2) ≤ (lane s p k).stage && (lane s p k).lock != 2

/-- Leave a lane out of this training: it is tried again after lane_retry_interval, or (2) in the next training from
INIT (R244). -/
def leaveOut (p : Nat) (until' : Nat) (s : State) (k : Nat) : State :=
  setRx (setLane s p k fun l => { l with stage := 0, lock := 0, barred := until' }) p k 0

/-- A link that is to begin a new session takes its number, for the bookplates to show (R224). -/
def takeSession (s : State) (p : Nat) : State :=
  if (port s p).newSession then s
  else
    setPort (set s (ofPort p 0x2000_03) ((get s (ofPort p 0x2000_03) + 1) % 65536)) p fun x =>
      { x with newSession := true }

/-- The port goes on past stage 4 with the lanes that have finished it; with none it waits for its retry (R237). Frame
starts are measured from now on (R241). -/
def enterStage5 (s : State) (p : Nat) : State :=
  if (port s p).told then s
  else
    let s := forEach ((upFrom 0 10).filter fun k => 1 ≤ (lane s p k).stage && (lane s p k).lock != 2) (leaveOut p 1) s
    if (lockedLanes s p).isEmpty then
      (if linkState s p = 0 then
         report (setPort (set s (ofPort p 0x2050_01) 0) p fun x => { x with stalled := true }) 0x02 p
           (partnerOrNone s p) (partnerEdition s p) 0
       else s)
    else
      let s := forEach (lockedLanes s p) (fun s k => setLane s p k fun l => { l with frameAt := none }) s
      set (if (port s p).fast then s else takeSession s p) (ofPort p 0x2050_01) 5

/-- Cycles of 0.8 ns in a frame of 13.12 µs, and in the 80 ns of skew that are tolerated (R230, R241). -/
def frameCycles : Nat := 16400
def skewCycles : Nat := 100

/-- How much later than lane `j` lane `k`'s frames begin, in cycles: the nearer way round the frame. -/
def skewOf (s : State) (p j k : Nat) : Int :=
  let at0 (k : Nat) : Nat := ((lane s p k).frameAt.getD 0) % frameCycles
  let d := (at0 k + frameCycles - at0 j) % frameCycles
  if d ≤ frameCycles / 2 then d else (d : Int) - frameCycles

/-- Locked lanes whose frames begin more than 80 ns after those of another (R241). -/
def skewedLanes (s : State) (p : Nat) : List Nat :=
  let ks := lockedLanes s p
  ks.filter fun k => ks.any fun j => (skewCycles : Int) < skewOf s p j k

/-- The end of stage 5 (R241): lanes that come too late are left out and counted. -/
def endStage5 (s : State) (p : Nat) : State :=
  let late := skewedLanes s p
  let s := forEach late (leaveOut p 1) (count s (ofPort p 0x2050_0A) 32 late.length)
  set s (ofPort p 0x2050_01) 6

/-- The locked lane with the lowest lane number, whose bookplate is the reference (R242). -/
def referenceLane (s : State) (p : Nat) : Option Nat :=
  (((upFrom 0 10).map (rxPhys s p)).filter fun k => (lane s p k).lock == 2).head?

/-- The reference bookplate (R242). -/
def referencePlate (s : State) (p : Nat) : Option Nat :=
  (referenceLane s p).bind fun k => if (lane s p k).plates = 0 then none else some (lane s p k).plate

/-- Every other locked lane has delivered two bookplates in succession that agree (R242). -/
def platesComplete (s : State) (p : Nat) : Bool :=
  (lockedLanes s p).all fun k => referenceLane s p == some k || 2 ≤ (lane s p k).plates

/-- Each end's bookplate shows the same partner and sessions as before the hold (Table 10.6). -/
def sameLink (s : State) (p b : Nat) : Bool :=
  let x := port s p
  x.everUp && plateEndpoint b == x.heldEndpoint && plateEdition b == x.heldEdition &&
    plateSession b == x.heldSession && fld b 407 392 == get s (ofPort p 0x2000_03) &&
    fld b 391 370 == ownId s && fld b 369 362 == ownEdition s

/-- A held port finds a partner or a session other than before: it flushes, and trains on for a new session, whose number
the bookplates must show first (Table 10.6). -/
def linkChanged (s : State) (p : Nat) : State :=
  let s := set (takeSession (flushPort s p) p) (ofPort p 0x2050_01) 6
  forEach (lockedLanes s p) (fun s k => setLane s p k fun l => { l with plates := 0 }) s

/-- The end of stage 6 (R242): lanes that differ are left out, and the partner is recorded. -/
def endStage6 (s : State) (p ref : Nat) : State :=
  let ks := (upFrom 0 10).filter fun k => (lane s p k).lock == 2
  let wrong := ks.filter fun k => !platesAgree (lane s p k).plate ref
  let s := set s (ofPort p 0x2040_03) (wrong.foldl (fun v k => setBit v k true) (get s (ofPort p 0x2040_03)))
  let s := forEach wrong (leaveOut p 1) s
  let s := if wrong.isEmpty then s else report s 0x05 p (plateEndpoint ref) (plateEdition ref)
    (wrong.foldl (fun v k => setBit v k true) 0)
  if plateVersion ref ≠ 1 then tellOnce s p fun s => report s 0x05 p 0x3FFFFF 0 (plateVersion ref)
  else if linkState s p = 2 && !sameLink s p ref then linkChanged s p
  else
    let old := partnerPlate s p
    let changed := plateVersion old != 0 && (plateEndpoint old != plateEndpoint ref || platePort old != platePort ref)
    let s := set (set s (ofPort p 0x2040_01) ref) (ofPort p 0x2050_01) 7
    let s := reportFreeByEdition s (plateEndpoint ref) (plateEdition ref)
    let s := if changed then
        reportPartner (count32 s (ofPort p 0x2040_02)) 0x06 p (plateEndpoint old)
      else s
    forEach (ks.filter fun k => !wrong.contains k)
      (fun s k => setRx (setLane s p k fun l => { l with rxTrained := true }) p k 3) s

/-- rx_wanted (R243): the lowest-numbered trained lanes, up to rx_width_target of them. -/
def wantedLanes (s : State) (p : Nat) : List Nat :=
  ((upFrom 0 10).filter fun n => (lane s p (rxPhys s p n)).rxTrained).take (widthTarget s p)

/-- Lanes of the intended deal set, the partner's rx_wanted, whose probes come back on a trained lane of the same number
(R243; log entry 64). -/
def probedLanes (s : State) (p : Nat) : List Nat :=
  (upFrom 0 10).filter fun n => bit (port s p).peerWanted n && (lane s p (rxPhys s p n)).rxTrained

/-- The end of this side's stage 7 (R243, R219, R224): the round trip is measured, and this end is ready. -/
def endStage7 (s : State) (p : Nat) : State :=
  let worst := ((probedLanes s p).flatMap fun n => (lane s p (rxPhys s p n)).samples).foldl max 0
  let rtt := (worst * 64 + 18000 + 999) / 1000 * 10
  if 4000 < rtt then tellOnce s p fun s => reportPartner s 0x07 p rtt
  else
    let s := set (set s (ofPort p 0x2000_05) (rtt * 256)) (ofPort p 0x2000_09) (25 * rtt)
    let wanted := (wantedLanes s p).foldl (fun v n => setBit v n true) 0
    setPort (set s (ofPort p 0x2010_02) wanted) p fun x => { x with ready := true, wanted := wanted }

/-- The lanes have all been through stage 4 (R237, R244). -/
def lanesDone (s : State) (p : Nat) : Bool :=
  inLaneStages s p && !(lockedLanes s p).isEmpty && (lateLanes s p).isEmpty

/-- Every lane of the intended deal set that can has its four samples (R243). -/
def probesDone (s : State) (p : Nat) : Bool :=
  !(wantedLanes s p).isEmpty && !(probedLanes s p).isEmpty &&
    (probedLanes s p).all fun n => 4 ≤ (lane s p (rxPhys s p n)).samples.length

/-- Port-wide stages go on as far as they can. -/
def advanceTraining (s : State) (p : Nat) : State :=
  let s := if lanesDone s p then enterStage5 s p else s
  let s :=
    if stageOfPort s p = 5 && (lockedLanes s p).all fun k => (lane s p k).frameAt.isSome then endStage5 s p else s
  let s :=
    if stageOfPort s p = 6 then
      match referencePlate s p with
      | some ref => if platesComplete s p then endStage6 s p ref else s
      | none => s
    else s
  if stageOfPort s p = 7 && !(port s p).ready && probesDone s p then endStage7 s p else s

/-- The LANE_ADD that a waiting request was for (R247). -/
def addAnswered (s : State) (p n : Nat) : State :=
  match (lane s p n).addAsked with
  | some reason => queueCmd (setLane s p n fun l => { l with addAsked := none }) p (laneRecord 1 n reason 0) (some n)
  | none => s

/-- A valid bookplate on a locked lane (R242). What it tells of the partner's receiver is taken once the partner is recorded,
from a lane that shows that partner (R235, R243, R247, R248). -/
def takePlate (s : State) (p k b : Nat) : State :=
  let same := platesAgree b (lane s p k).plate
  let s := setLane s p k fun l => { l with plate := b, plates := if same then l.plates + 1 else 1 }
  if stageOfPort s p < 7 || !platesAgree b (partnerPlate s p) then s else
  let s := setPort s p fun x => { x with peerReady := bit b 359, peerWanted := fld b 357 348 }
  let s := forEach (upFrom 0 10)
    (fun s n => setLane s p n fun l => { l with peerTrained := bit (fld b 347 338) n, peerFailed := bit (fld b 337 328) n }) s
  if isUp s p then
    let s := forEach ((upFrom 0 10).filter fun n => (lane s p n).peerTrained && txState s p n = 0)
      (fun s n => setTx s p n 3) s
    let s := forEach ((upFrom 0 10).filter fun n =>
        !(lane s p n).waking && (lane s p n).peerTrained && txState s p n = 3)
      (fun s n => addAnswered s p n) s
    idleLanes s p
  else s

/-- A round-trip sample in port cycles (R243), and the probe to echo. -/
def takeProbe (s : State) (p k r : Nat) : State :=
  let trip := subMod 32 (subMod 32 (portCycles s) (fld r 63 32)) (fld r 31 16)
  setLane s p k fun l =>
    { l with probe := fld r 95 64, probeAt := portCycles s, peerInject := bit r 122
             samples := if stageOfPort s p = 7 && l.samples.length < 4 then l.samples ++ [trip] else l.samples }

/-- A receive-buffer place of port `p` belongs to a session that is over: it returns no credit (R217). -/
def endPlace (p : Nat) (r : Option RxPlace) : Option RxPlace := r.filter fun r => r.port != p

/-- The packets that came in an earlier session hold nothing in the new one's buffers (R217). -/
def endPlaces (s : State) (p : Nat) : State :=
  { s with
    switch.passWaits := s.switch.passWaits.map fun w => { w with rx := endPlace p w.rx }
    ports := s.ports.map fun x =>
      { x with queues := x.queues.map fun e => (e.1, e.2.map fun d => { d with rx := endPlace p d.rx })
               tx := x.tx.map fun t => { t with rx := endPlace p t.rx } } }

/-- Every count of a session starts from zero (R210, R217, R227). -/
def newCounts (s : State) (p : Nat) : State :=
  setPort (endPlaces s p) p fun x =>
    { x with txSeq := 0, replay := [], replayAt := none, replayHeld := false, fruitless := 0, replayFrom := none,
             begun := [0, 0, 0, 0, 0, 0], freedSeen := [0, 0, 0, 0, 0, 0], xoffAt := none, cmds := [],
             expect := 0, gap := false, marks := [], heldFlits := [], behind := [], acted := [], nakDue := false,
             freed := [0, 0, 0, 0, 0, 0], returned := [0, 0, 0, 0, 0, 0], creditAge := [0, 0, 0, 0, 0, 0],
             rxSlots := [], rxLost := 0, rxShort := 0, rxCut := none, xoff := false
             rxBuf := x.rxBuf.map fun e => (e.1, e.2.map fun r => { r with slots := 0 }) }

/-- The test of a lane stops its frames (Table 11.14). -/
def stopsFrames (m : Nat) : Bool := m == 1 || m == 3 || m == 5

/-- What our transmitter's lane `n` is as the port comes UP: under a test that has stopped its frames, dealt to, trained and
idle, or untrained (R243, R250, R254). -/
def txAtStart (s : State) (p n : Nat) : Nat :=
  if stopsFrames (lane s p n).test then 6
  else if bit (dealSet s p) n then 2 else if (lane s p n).peerTrained || (lane s p n).txDone then 3 else 0

/-- The port is UP: its sets follow the wants of both ends (R243). The partner hears of the tests that stop frames (R254), and
of the lanes lost since they were wanted (R223). -/
def goUp (s : State) (p : Nat) : State :=
  let s := set (set s (ofPort p 0x2000_01) 1) (ofPort p 0x2050_01) 8
  let s := set s (ofPort p 0x2010_01) (port s p).peerWanted
  let s := forEach (upFrom 0 10)
    (fun s n =>
      let s := if laneUsable s p n then setTx s p n (txAtStart s p n) else s
      let k := rxPhys s p n
      if (lane s p k).rxTrained then setRx s p k (if bit (waitSet s p) n then 2 else 3) else s) s
  let s := setPort s p fun x =>
    { x with everUp := true, newSession := false, heldEndpoint := partnerEndpoint s p, heldEdition := partnerEdition s p
             heldSession := plateSession (partnerPlate s p), asked := none, marks := [] }
  let s := forEach ((upFrom 0 10).filter fun n => stopsFrames (lane s p n).test)
    (fun s n => queueCmd s p (laneRecord 0x12 n 0 0) none) s
  let s := forEach ((setBits 10 0 (port s p).wanted).filter fun n => !bit (waitSet s p) n)
    (fun s n => queueCmd s p (laneRecord 4 n 2 0) none) s
  let s := reviewLoans s p
  let s := endInvocations s (ofPort p 0x2000_04) (fun _ => true) stOk
  seekLane (idleLanes s p) p 5

/-- TRAINING_COMPLETE: both ends are ready (R243). A held port returns as the link it was (R224). -/
def trainingCompletes (s : State) (p : Nat) : State :=
  if !portPowered s p || stageOfPort s p ≠ 7 || !(port s p).ready || !(port s p).peerReady then s
  else if linkState s p = 2 then goUp s p
  else if linkState s p = 0 then goUp (newCounts s p) p
  else s

/-- A lane retraining alone while the port is UP has lock and the partner's bookplate again (R244). One that finds its
partner in HELD, not ready to return, holds the port (Table 10.6). -/
def relockLane (s : State) (p k : Nat) : State :=
  let l := lane s p k
  if !isUp s p || l.rxTrained || l.barred ≠ 0 || l.lock ≠ 2 || l.plates = 0 then s
  else if plateLinkState l.plate = 2 && !plateReady l.plate then holdPort s p
  else if !platesAgree l.plate (partnerPlate s p) then s
  else
    let inSet := bit (waitSet s p) (rxPhys s p k)
    seekLane (setRx (setLane s p k fun l =>
      { l with rxTrained := true, lost := false, refused := false, peerState := 0 }) p k (if inSet then 2 else 3)) p 5

/-- FEC lock (R240): a valid codeword locks the lane, and one 1,025 codewords on confirms it; one elsewhere locks it
anew. -/
def lockLane (s : State) (p k place number : Nat) : State :=
  let l := lane s p k
  if !(l.stage = 4 || isUp s p) || l.barred ≠ 0 || rxPhys s p k ≠ number || l.lock = 2 then s
  else setLane s p k fun l => { l with lock := if l.lock = 1 && place = 1025 then 2 else 1 }

/-- A SHELVED lane that sends again has been woken, to ACTIVE (Table 11.10). -/
def wokenLane (s : State) (p k : Nat) : State :=
  if (lane s p k).peerState = 5 then
    let s := setLane s p k fun l => { l with peerState := 0 }
    if rxState s p k = 5 then setRx s p k 3 else s
  else s

/-- ALIGNMENT_AND_FILLER_CODEWORD (R234, R235, R240 to R245). `place` counts the codewords since the lane's previous one: a
locked lane expects one at every 1,025, and those it has passed by are missing. -/
def codewordArrives (s : State) (p k msg place : Nat) : State :=
  let valid := msg % 2 ^ 128 = 0x4B1D_4B1D_4B1D_4B1D_4B1D_4B1D_4B1D_4B1D
  let due := !expectsFillers s p k || (place % 1025 = 0 && 0 < place)
  if !portPowered s p || !laneUsable s p k || (lane s p k).rxFailed then s
  else if !valid || !due then
    let s := if (lane s p k).lock = 1 && place = 1025 then setLane s p k fun l => { l with lock := 0 } else s
    if expectsFillers s p k then fillersMissing s p k (place / 1025) else s
  else
    let r := fld msg 767 640
    let b := fld msg 639 128
    let s := if expectsFillers s p k && 1025 < place then fillersMissing s p k (place / 1025 - 1) else s
    let s := wokenLane s p k
    let s := setLane s p k fun l =>
      { l with badFrames := 0, frameAt := if stageOfPort s p = 5 then some s.time.cycles else l.frameAt }
    let s := lockLane s p k place (fld r 127 124)
    let s := takeProbe s p k r
    let s := if plateOk b && (lane s p k).lock = 2 then takePlate s p k b else s
    let s := advanceTraining (relockLane s p k) p
    if bit r 123 && (port s p).peerReady then trainingCompletes s p else s

/-- TRAINING_LIMIT_EXPIRY (R237). -/
def trainingLimit (s : State) (p : Nat) : State :=
  if portPowered s p && linkState s p = 0 && inLaneStages s p then advanceTraining (enterStage5 s p) p else s

/-- TRAINING_STAGE_TIMEOUT of a lane (R239 to R242, R244): equalisation ends, or a check fails; a lock that is not confirmed
is searched again; a lane that delivers no frame start or no bookplates in time is left out. -/
def stageTimesOut (s : State) (p k : Nat) : State :=
  let l := lane s p k
  if !portPowered s p || isUp s p then s
  else if l.stage = 3 then
    (if (port s p).fast then advanceTraining (leaveOut p 2 s k) p
     else showStage (setLane s p k fun l =>
       { l with reqId := (l.reqId + 1) % 4, answered := false, eqRequest := 4, rxDone := true, stage := 4 }) p)
  else if l.stage = 4 && l.lock ≠ 2 then setLane s p k fun l => { l with lock := 0 }
  else if l.lock = 2 && ((stageOfPort s p = 5 && l.frameAt.isNone) || (stageOfPort s p = 6 && l.plates < 2)) then
    advanceTraining (leaveOut p 1 s k) p
  else s

/-- FAST_RETRAIN_LIMIT_EXPIRY (R244, R247): a held port goes on with the lanes that have passed; of an UP port, requests
that wait for the partner's rx_trained are refused, and lanes that are not back wait for lane_retry_interval. -/
def fastLimit (s : State) (p : Nat) : State :=
  if !portPowered s p then s
  else if linkState s p = 2 && inLaneStages s p then advanceTraining (enterStage5 s p) p
  else if isUp s p then
    let s := forEach ((upFrom 0 10).filter fun n => (lane s p n).addAsked.isSome && !(lane s p n).waking)
      (fun s n => queueCmd (setLane s p n fun l => { l with addAsked := none }) p (laneRecord 5 n 0 2) none) s
    forEach ((upFrom 0 10).filter fun k => rxState s p k = 1 && !(lane s p k).rxTrained && (lane s p k).barred = 0)
      (leaveOut p 1) s
  else s

/-- LANE_RETRY_INTERVAL_EXPIRY: a port with no lane through stage 4 trains again, and a lane of an UP port searches for
its frames again (R237, R244). -/
def laneRetries (s : State) (p k : Nat) : State :=
  if !portPowered s p || !laneUsable s p k then s
  else if linkState s p = 0 then (if (port s p).stalled then startTraining s p false else s)
  else if isUp s p && !(lane s p k).rxTrained && !(lane s p k).rxFailed && (lane s p k).barred ≠ 2 then
    setRx (setLane s p k fun l => { l with lock := 0, plates := 0, barred := 0 }) p k 1
  else s

/-- LANE_WAKE_COMPLETE (R247, R250). -/
def laneWakes (s : State) (p n : Nat) : State :=
  let l := lane s p n
  if !portPowered s p || !l.waking then s
  else
    let s := setLane s p n fun l => { l with waking := false, announced := l.announced.filter fun a => a.1 != 4 && a.1 != 5 }
    let s := if txState s p n = 4 || txState s p n = 5 then setTx s p n 3 else s
    if l.peerTrained then addAnswered s p n else s

/-- rx_width_target has been written (R248): lanes above it are to leave the wait set, and a lane that has been asked for counts
among those the receiver is to have. -/
def widthWritten (s : State) (p : Nat) : State :=
  if !isUp s p then s
  else if widthTarget s p < popcount 10 (waitSet s p) then trimLanes s p
  else seekLane s p 6

/-- spare_idle_state or lane_idle_state has been written (R250). -/
def idleWritten (s : State) (p : Nat) : State := idleLanes s p

/-- tx_taps has been written: the transmitter takes them (Table 11.16). -/
def tapsWritten (s : State) (p n : Nat) : State :=
  setLane s p n fun l => { l with taps := get s (tapsCn p n) }

/-- pattern_gen has been written: the generator starts anew (R251; log entry 72). -/
def patternWritten (s : State) (p n : Nat) : State := setLane s p n fun l => { l with gen := 1 }

/-! ### What the transmitters send (R232, R234 to R236) -/

/-- `n` bits of PRBS31, the first in bit 0: its generator is x^31 + x^28 + 1 (R231, R234). -/
def prbs31 : Nat → Nat → Nat
  | 0, _ => 0
  | n + 1, r =>
    let b := (r / 2 ^ 30 + r / 2 ^ 27) % 2
    b + 2 * prbs31 n (r * 2 % 2 ^ 31 + b)

/-- Lanes of this receiver, by the partner's numbers, that satisfy a test, one bit each. -/
def laneBits (s : State) (p : Nat) (is : Lane → Bool) : Nat :=
  (upFrom 0 10).foldl (fun v n => if is (lane s p (rxPhys s p n)) then setBit v n true else v) 0

/-- The port's own bookplate (R235, Table 11.4). rx_wanted is formed in stage 7 and stands from its end on (R243). -/
def ownPlate (s : State) (p : Nat) : Nat :=
  let x := port s p
  let wanted :=
    if stageOfPort s p = 7 && !x.ready then (wantedLanes s p).foldl (fun v n => setBit v n true) 0 else x.wanted
  let body := 0x01 * 2 ^ 504 + get s 0x1000_01 % 2 ^ 16 * 2 ^ 488 + get s 0x1000_02 % 2 ^ 16 * 2 ^ 472 +
    get s 0x1000_03 % 2 ^ 8 * 2 ^ 464 + ownId s % 2 ^ 22 * 2 ^ 442 + ownEdition s % 2 ^ 8 * 2 ^ 434 +
    commission s % 4 * 2 ^ 432 + p % 16 * 2 ^ 428 + get s (ofPort p 0x2000_03) % 2 ^ 16 * 2 ^ 408 +
    x.heldSession % 2 ^ 16 * 2 ^ 392 + x.heldEndpoint % 2 ^ 22 * 2 ^ 370 + x.heldEdition % 2 ^ 8 * 2 ^ 362 +
    linkState s p % 4 * 2 ^ 360 + b2n x.ready * 2 ^ 359 + wanted % 2 ^ 10 * 2 ^ 348 +
    laneBits s p (·.rxTrained) % 2 ^ 10 * 2 ^ 338 + laneBits s p (·.rxFailed) % 2 ^ 10 * 2 ^ 328
  body + crc32c (bytesLE 60 (body / 2 ^ 32))

/-- inject_active: CODEWORD injection runs on the lane (R253). -/
def injectActive (s : State) (p n : Nat) : Bool :=
  let v := get s (ofLane p n 0x300F_01)
  bit v 29 && (fld v 31 30 == 1 || fld v 31 30 == 2)

/-- The lane record that goes out on lane `n` (R234, Table 11.3): the frames of an UP port's deal set carry its session's
places. -/
def ownRecord (s : State) (p n : Nat) : Nat :=
  let l := lane s p (rxPhys s p n)
  n % 16 * 2 ^ 124 + b2n (isUp s p && bit (dealSet s p) n) * 2 ^ 123 +
    b2n (injectActive s p n) * 2 ^ 122 +
    portCycles s * 2 ^ 64 + l.probe % 2 ^ 32 * 2 ^ 32 + subMod 32 (portCycles s) l.probeAt % 2 ^ 16 * 2 ^ 16

/-- The alignment-and-filler codeword that goes out on lane `n` (R234, Table 11.2). -/
def ownCodeword (s : State) (p n : Nat) : Nat :=
  prbs31 4372 1 * 2 ^ 768 + ownRecord s p n * 2 ^ 640 + ownPlate s p * 2 ^ 128 +
    0x4B1D_4B1D_4B1D_4B1D_4B1D_4B1D_4B1D_4B1D

/-- The training block that goes out on lane `n` (R236, Table 11.5): the receiver's stage and request on that number, and
the transmitter's latest answer. -/
def ownBlock (s : State) (p n : Nat) : Nat :=
  let r := lane s p (rxPhys s p n)
  let t := lane s p n
  let body := 0x4B1D * 2 ^ 112 + n % 16 * 2 ^ 108 + max 1 (r.stage % 8) * 2 ^ 104 + b2n (r.stage == 4 && r.lock == 2) * 2 ^ 103 +
    r.reqId % 4 * 2 ^ 101 + r.eqRequest % 8 * 2 ^ 98 + r.eqTap % 8 * 2 ^ 95 + t.respId % 4 * 2 ^ 93 +
    t.respStatus % 8 * 2 ^ 90
  body + tbCrc body

/-- What a lane's transmitter sends. -/
inductive LaneOutput where
  /-- Driver off, muted, or without power. -/
  | off
  /-- This training block, over and over (R236). -/
  | training (bits : Nat)
  /-- Frames: the codeword of each, then flits and skip blocks (R230, R232). -/
  | frames
  /-- Alignment-and-filler codewords only, in HUSH (Table 11.10). -/
  | fillers
  /-- The pattern generator, by its configuration (R251). -/
  | pattern (config : Nat)
  /-- The symbols received on the lane (Table 11.14, FAR). -/
  | returned
  deriving DecidableEq, Repr

/-- Both ends of a lane number have finished equalising, or the port is past stage 4: frames go out (R240). -/
def txFrames (s : State) (p n : Nat) : Bool :=
  5 ≤ stageOfPort s p || ((lane s p n).txDone && (lane s p (rxPhys s p n)).rxDone)

/-- A test that stops frames has stopped them: on an UP port once the partner has acknowledged its announcement (R249,
R254). -/
def framesStopped (s : State) (p n : Nat) : Bool := !isUp s p || txState s p n == 6

/-- The test mode that rules the lane's output: that of a test which is over goes on until its end is acknowledged (R249). -/
def sendingMode (s : State) (p n : Nat) : Nat :=
  if (lane s p n).test = 0 && isUp s p then (lane s p n).leaving else (lane s p n).test

/-- The output of our transmitter's lane `n` (R232, R236, R240, R244, Tables 11.10 and 11.14). -/
def laneSends (s : State) (p n : Nat) : LaneOutput :=
  let m := sendingMode s p n
  if !portPowered s p || !laneUsable s p n then .off
  else if m = 1 && framesStopped s p n then .pattern (get s (ofLane p n 0x300A_01))
  else if m = 3 && framesStopped s p n then .off
  else if m = 5 && framesStopped s p n then .returned
  else if txState s p n = 5 then .off
  else if txState s p n = 4 then .fillers
  else if isUp s p || (linkState s p = 2 && stageOfPort s p = 8) || txFrames s p n then .frames
  else if lanesTrain s then .training (ownBlock s p n)
  else .off

/-- A lane's frame begins: its codeword goes out, and the places of the frame before it that had no flit carried skip
blocks (R230, R232). -/
def frameBegins (p : Nat) (s : State) (n : Nat) : State :=
  let skips := match laneSends s p n with
    | .frames => some (2570 - (lane s p n).flits)
    | .fillers => some 0
    | _ => none
  match skips with
  | none => s
  | some k =>
    let f : LaneFrame :=
      { lane := n, codeword := ownCodeword s p n, skips := k, inverted := (lane s p n).injected }
    setLane (setPort s p fun x => { x with frames := x.frames ++ [f] }) p n fun l => { l with flits := 0, injected := [] }

/-- The frames of a port's lanes begin together (R230). -/
def framesBegin (s : State) (p : Nat) : State :=
  if portPowered s p then forEach (upFrom 0 10) (frameBegins p) s else s

/-! ### Patterns, injection and tests (R251 to R255) -/

/-- A checker runs on a lane's receiver (Table 11.14). -/
def checks (m : Nat) : Bool := m == 2 || m == 3 || m == 4

/-- Bits of a pattern's register, and the next bit after those it holds, the newest in bit 0 (Table 11.11). -/
def prbsWidth (pattern : Nat) : Nat := if pattern = 0 then 7 else if pattern = 1 then 13 else 31

def prbsNext (pattern r : Nat) : Nat :=
  if pattern = 0 then (r / 2 ^ 6 + r / 2 ^ 5) % 2
  else if pattern = 1 then (r / 2 ^ 12 + r / 2 ^ 11 + r / 2 + r) % 2
  else (r / 2 ^ 30 + r / 2 ^ 27) % 2

def prbsShift (pattern r b : Nat) : Nat := (r * 2 + b) % 2 ^ prbsWidth pattern

/-- The fields of Table 11.12. -/
def patternOf (cfg : Nat) : Nat := fld cfg 31 30
def outerLevels (cfg : Nat) : Bool := bit cfg 29
def patternInvert (cfg : Nat) : Nat := fld cfg 28 28

/-- The generator's next bit, complemented where it is to be, and flipped by an injection (R251, R253). -/
def generatorBit (cfg : Nat) (l : Lane) : Nat × Lane :=
  let b := prbsNext (patternOf cfg) l.gen
  ((b + patternInvert cfg + min 1 l.flips) % 2,
    { l with gen := prbsShift (patternOf cfg) l.gen b, flips := l.flips - 1 })

/-- The generator's next symbol, as the pair of bits of R229: two pattern bits under PAM4 mapping, and under PAM2 one bit at
an outer level (R251). -/
def generatorSymbol (cfg : Nat) (l : Lane) : (Nat × Nat) × Lane :=
  let (b, l) := generatorBit cfg l
  if outerLevels cfg then ((b, 0), l)
  else
    let (c, l) := generatorBit cfg l
    ((b, c), l)

/-- A checker at work: its state (Table 11.16), and what it has counted in a cycle. -/
structure Checking where
  checker : Checker
  locked  : Bool
  bits    : Nat
  errors  : Nat
  losses  : Nat
  deriving DecidableEq, Repr

/-- A LOCKED checker has compared a bit (R252): more than 128 mismatches among the last 1,024 send it back to SEARCHING. -/
def comparedBit (c : Checking) (wrong : Bool) : Checking :=
  let k := c.checker
  let many := k.wrong + b2n wrong - k.window / 2 ^ 1023
  let c := { c with bits := c.bits + 1, errors := c.errors + b2n wrong }
  if 128 < many then
    { c with locked := false, losses := c.losses + 1, checker := { k with run := 0, window := 0, wrong := 0 } }
  else { c with checker := { k with window := (k.window * 2 + b2n wrong) % 2 ^ 1024, wrong := many } }

/-- A pattern bit reaches the checker (R252): it continues from its own bits once locked, and from those received while it
searches. -/
def checkBit (cfg : Nat) (c : Checking) (b : Nat) : Checking :=
  let r := (b + patternInvert cfg) % 2
  let e := prbsNext (patternOf cfg) c.checker.reg
  let shift (b : Nat) : Checking :=
    { c with checker := { c.checker with reg := prbsShift (patternOf cfg) c.checker.reg b } }
  if c.locked then comparedBit (shift e) (e != r)
  else
    let c := shift r
    let run := if e = r then c.checker.run + 1 else 0
    { c with locked := run == 1024, checker := { c.checker with run := run % 1024 } }

def checkSymbol (cfg : Nat) (c : Checking) (x : Nat × Nat) : Checking :=
  if outerLevels cfg then checkBit cfg c x.1 else checkBit cfg (checkBit cfg c x.1) x.2

/-- Symbols of a lane in a cycle of 0.8 ns (R229). -/
def cycleSymbols : Nat := 170

/-- CHECKER_LOCK (R252). -/
def checkerLocks (s : State) (p k : Nat) : State :=
  if portPowered s p && checks (lane s p k).test && get s (ofLane p k 0x300E_01) = 1 then
    set s (ofLane p k 0x300E_01) 2
  else s

/-- What a LOCKED checker has compared, and the mismatches among it (R252). -/
def checkerCounts (s : State) (p k bits errors : Nat) : State :=
  count (count s (ofLane p k 0x300C_01) 64 bits) (ofLane p k 0x300D_01) 64 errors

/-- CHECKER_SYNC_LOSS (R252): `bits` and `errors` are what was compared since the latest whole cycle. -/
def checkerLoses (s : State) (p k bits errors : Nat) : State :=
  if portPowered s p && get s (ofLane p k 0x300E_01) = 2 then
    let s := setLane s p k fun l => { l with checker := { l.checker with run := 0, window := 0, wrong := 0 } }
    count32 (set (checkerCounts s p k bits errors) (ofLane p k 0x300E_01) 1) (ofLane p k 0x3011_01)
  else s

/-- A checker's cycle is over: its state, its counts and its sync losses (R252). -/
def checkerDone (s : State) (p k : Nat) (c : Checking) : State :=
  let s := setLane (checkerCounts s p k c.bits c.errors) p k fun l => { l with checker := c.checker }
  count (set s (ofLane p k 0x300E_01) (if c.locked then 2 else 1)) (ofLane p k 0x3011_01) 32 c.losses

/-- The generator of lane `k` runs for a cycle, and with `check` its symbols reach the lane's own checker, the bits of
`noise` flipped on the way (Table 11.14, NEAR_SERIAL and NEAR_PARALLEL). -/
def generatorCycle (s : State) (p k : Nat) (check : Bool) (noise : Nat) : State :=
  let cfg := get s (ofLane p k 0x300A_01)
  let own := get s (ofLane p k 0x300B_01)
  let c : Checking :=
    { checker := (lane s p k).checker, locked := get s (ofLane p k 0x300E_01) == 2, bits := 0, errors := 0, losses := 0 }
  let step (a : Lane × Checking) (i : Nat) : Lane × Checking :=
    let (x, l) := generatorSymbol cfg a.1
    (l, if check then
        checkSymbol own a.2 ((x.1 + fld noise (2 * i) (2 * i)) % 2, (x.2 + fld noise (2 * i + 1) (2 * i + 1)) % 2)
      else a.2)
  let (l, c) := (upFrom 0 cycleSymbols).foldl step (lane s p k, c)
  let s := setLane s p k fun x => { x with gen := l.gen, flips := l.flips }
  if check then checkerDone s p k c else s

/-- A cycle of a LOCKED checker on what the partner sends: which bits mismatch is free, as they are the lane's. -/
def receivedCycle (s : State) (p k : Nat) : State :=
  let bits := if outerLevels (get s (ofLane p k 0x300B_01)) then cycleSymbols else 2 * cycleSymbols
  let (n, s) := draw s
  let noise := Config.freeCheckerErrors n
  let c : Checking := { checker := (lane s p k).checker, locked := true, bits := 0, errors := 0, losses := 0 }
  checkerDone s p k ((upFrom 0 bits).foldl (fun c i => if c.locked then comparedBit c (bit noise i) else c) c)

/-- A cycle of 0.8 ns of a lane's pattern generator and checker: 170 symbols (R229), of two pattern bits each under PAM4
mapping and of one under PAM2 (R251). -/
def checkerCycle (p : Nat) (s : State) (k : Nat) : State :=
  let m := (lane s p k).test
  if m = 1 then generatorCycle s p k false 0
  else if m = 4 then generatorCycle s p k true 0
  else if m = 3 then
    let (n, s) := draw s
    generatorCycle s p k true (Config.freeCheckerErrors n)
  else if m = 2 && get s (ofLane p k 0x300E_01) = 2 then receivedCycle s p k
  else s

/-- Codewords come on receive lane `k`: it is held trained, and its partner sends frames (Table 11.10). -/
def codewordsCome (s : State) (p k : Nat) : Bool := (lane s p k).rxTrained && (lane s p k).peerState == 0 && !masked s p k

/-- A codeword of 12.8 ns has come on a lane (R230): how many of its symbols were corrected is free, and counted (Tables 11.16
and 14.1). Of one that was not correctable UNCORRECTABLE_CODEWORD tells. -/
def codewordCycle (p : Nat) (s : State) (k : Nat) : State :=
  if !codewordsCome s p k then s
  else
    let (n, s) := draw s
    let c := Config.freeCorrections n % 17
    if c = 16 then s
    else
      let bins := ofLane p k 0x3006_01
      let s := setRow s bins c ((getRow s bins c + 1) % 2 ^ 64)
      if c = 0 then s else count (count64 s (ofLane p k 0x3003_01)) (ofLane p k 0x3004_01) 64 c

/-- The generator runs on the lane (Table 11.14). -/
def generates (m : Nat) : Bool := m == 1 || m == 3 || m == 4

/-- ERROR_INJECTION (R253): one injection of the configured mode. The bits of the generator's output that follow are flipped,
or a run of symbols in a data codeword is inverted. -/
def injects (s : State) (p n : Nat) : State :=
  let cn := ofLane p n 0x300F_01
  let v := get s cn
  if !portPowered s p || fld v 31 30 = 0 || fld v 31 30 = 3 then s
  else
    let s := setLane s p n fun l =>
      if bit v 29 then
        { l with injections := l.injections + 1, injectAt := (l.injectAt + 37) % 544
                 injected := l.injected ++ [(l.injectAt, fld v 28 24)] }
      else { l with injections := l.injections + 1, flips := if generates l.test then fld v 28 24 else 0 }
    if fld v 31 30 = 1 then set s cn (setFld v 31 30 0) else s

/-- lane_test (R254, R371); a lane in HUSH or SHELVED, or on its way there, is woken for it (R250, R255). -/
def laneTestOp (p n mode duration : Nat) (s : State) : State × CmdOut :=
  let l := lane s p n
  if portsOf s.part ≤ p || 10 ≤ n then (s, .done stUnsupported 0)
  else if 5 < mode then (s, .done stMalformed 0)
  else if mode = 0 then
    (if l.test = 0 then (s, .done stEmpty 0) else (endTest s p n stOk, .done stOk 0))
  else if 3 ≤ mode && !(n == 0 || n == 8 || n == 9) then (s, .done stUnsupported 0)
  else if l.rxFailed || l.peerFailed then (s, .done stAborted 0)
  else if l.test ≠ 0 || (mode ≠ 2 && bit (dealSet s p) n) ||
      (mode ≠ 1 && bit (waitSet s p) (rxPhys s p n)) then (s, .done stBusy 0)
  else
    let asleep := mode ≠ 2 && (txState s p n == 4 || txState s p n == 5)
    let s := if mode = 2 then s else dropIdle s p n
    let s := setLane s p n fun l =>
      { l with checker := Checker.reset, gen := 1, flips := 0, test := mode, testEnds := duration != 0, waking := l.waking || asleep }
    let s := if checks mode then set s (ofLane p n 0x300E_01) 1 else s
    (if stopsFrames mode && isUp s p then queueCmd s p (laneRecord 0x12 n 0 0) none else s, .waits)

/-- LANE_TEST_DURATION_EXPIRY (R254). -/
def laneTestEnds (s : State) (p n : Nat) : State :=
  if (lane s p n).test ≠ 0 && (lane s p n).testEnds then endTest s p n stOk else s

end Sys2Proof.Machine
end

