-- ==== Sys2Proof/Machine/Clocks.lean ====
section
/-! DEFINITION. Fabric time: the synchroniser's servo, TIME_SYNC exchanges, time_set and the MARK pins
(13 R279 to R290). -/

namespace Sys2Proof.Machine

/-! ### Arithmetic of the servo -/

/-- A quotient to the nearest unit below or above: the spec does not say which way a result between two
units goes, so a free value chooses (log entry 41). -/
def roundFree (s : State) (num : Int) (den : Nat) : Int × State :=
  if num % den = 0 then (num / den, s)
  else
    let (n, s) := draw s
    (num / den + (Config.freeChoice n % 2 : Nat), s)

/-- The nominal rate word (R279). -/
def nominalRate : Nat := 0xCC_CCCC_CCCD

/-- A rate word held within 1,000 ppm of nominal (R279, R285). -/
def clampRate (v : Int) : Nat :=
  let low : Int := ((nominalRate * 999 + 999) / 1000 : Nat)
  let high : Int := (nominalRate * 1001 / 1000 : Nat)
  (max low (min high v)).toNat

/-- The rate word follows freq and slew, which count units of 2^-40 (R285; log entry 42). -/
def steer (s : State) : State :=
  let (v, s) := roundFree s (nominalRate * (2 ^ 40 + s.time.freq + s.time.slew)) (2 ^ 40)
  set s 0x9002_04 (clampRate v)

/-- The block runs at the nominal rate word. -/
def nominal (s : State) : State := set { s with time.freq := 0, time.slew := 0 } 0x9002_04 nominalRate

/-- Fabric time steps forward by `d` units of 2^-8 ns. -/
def stepTime (s : State) (d : Nat) : State :=
  count32 { s with time.acc := (s.time.acc + d * 2 ^ 32) % 2 ^ 96 } 0x9002_06

def timeRole (s : State) : Nat := get s 0x9001_01

/-- 0 FREE, 1 ACQUIRING, 2 LOCKED, 3 HOLDOVER. -/
def timeState (s : State) : Nat := get s 0x9002_01

/-- The servo of R285, `interval` in units of 2^-8 ns. -/
def servo (s : State) (theta : Int) (interval : Nat) : State :=
  let lock := get s 0x9001_05
  let s := set s 0x9002_02 (unsigned 64 theta)
  if timeState s ≤ 1 && theta < -(get s 0x9001_04 : Int) then
    set (stepTime { s with time.freq := 0, time.inLock := 0 } (-theta).toNat) 0x9002_01 1
  else
    let s := if timeState s = 0 then set s 0x9002_01 1 else s
    let (df, s) := roundFree s (theta * 2 ^ 40) (16 * interval)
    let (sl, s) := roundFree s (theta * 2 ^ 40) (4 * interval)
    let s := steer { s with time.freq := s.time.freq - df, time.slew := -sl }
    let s := { s with time.inLock := if theta.natAbs ≤ lock then min (s.time.inLock + 1) 8 else 0 }
    let s := if s.time.inLock = 8 then set s 0x9002_01 2 else s
    if timeState s = 2 && 64 * lock < theta.natAbs then set s 0x9002_01 1 else s

/-! ### Roles (R282) -/

/-- time_role or mark_mode has changed: the state the role begins in (R282). -/
def roleBegins (s : State) : State :=
  let s := { s with time.req := none, time.inLock := 0 }
  match timeRole s with
  | 1 => set (set (nominal s) 0x9002_01 2) 0x9002_05 0
  | 2 =>
    let s := set (set s 0x9002_01 0) 0x9002_05 0
    if get s 0x9100_01 = 1 then s else nominal s
  | _ => set s 0x9002_01 0

/-- time_parent_port has changed: with no parent the block runs free (R282). -/
def parentChanged (s : State) : State :=
  let s := { s with time.req := none, time.inLock := 0 }
  if timeRole s = 0 && get s 0x9001_02 = 0xFF then set s 0x9002_01 0 else s

/-- A refusal whose status the spec does not state: one of Table 0.5 that refuses, freely (log entry 43). -/
def freeRefusal (s : State) : State × Nat :=
  let (n, s) := draw s
  let refusals := statuses.filter fun x => x != stOk && x != stEmpty
  (s, nth stMalformed (Config.freeChoice n % refusals.length) refusals)

/-- time_set (R282). -/
def timeSetOp (v : Nat) (s : State) : State × CmdOut :=
  if timeRole s ≠ 1 then
    let (s, status) := freeRefusal s
    (s, .done status 0)
  else if !newer 64 v (now s) then (s, .done stMalformed 0)
  else (stepTime { s with time.acc := s.time.acc / 2 ^ 32 * 2 ^ 32 } (subMod 64 v (now s)), .done stOk 0)

/-! ### TIME_SYNC (R283 to R285) -/

/-- A TIME_SYNC packet out of port `p`. -/
def syncPacket (s : State) (p slot : Nat) : Packet :=
  sealed
    { blankPacket with
      dst := 0x3FFFF0 + p, dstEdition := partnerEdition s p, src := 0x3FFFF0 + p, srcEdition := ownEdition s,
      opcode := opTimeSync, slotCount := 1, vc := 5, data := [slot] }

def syncSlot (k : Packet) : Nat := nth 0 0 k.data
def syncKind (k : Packet) : Nat := fld (syncSlot k) 127 126

/-- R63 step 4 for TIME_SYNC: no reserved kind, and port-local at both ends (R283). -/
def syncRules (k : Packet) : Bool := syncKind k ≤ 1 && portLocal k.src && portLocal k.dst

/-- The parent port of a follower, when it is UP. -/
def parentPort (s : State) : Option Nat :=
  let p := get s 0x9001_02
  if timeRole s = 0 && p < portsOf s.part && isUp s p then some p else none

/-- sync_interval has passed: a REQ leaves with stamp t1 (R284). -/
def syncRequest (s : State) (t1 : Nat) : State :=
  match parentPort s with
  | none => s
  | some p =>
    let q := s.time.nextReqSeq
    let s := { s with time.req := some (q, t1 % 2 ^ 64), time.nextReqSeq := (q + 1) % 65536 }
    (sendAt s p (syncPacket s p (q * 2 ^ 110)) none).state

/-- A REQ that arrived at `t2` is answered out of its port; the port writes the residence as the answer
leaves (R283, R284). -/
def syncAnswer (s : State) (p : Nat) (k : Packet) (t2 : Nat) : State :=
  let slot := 2 ^ 126 + fld (syncSlot k) 125 110 * 2 ^ 110 + b2n (timeState s = 2) * 2 ^ 109 +
    get s 0x9002_05 % 32 * 2 ^ 104 + t2 % 2 ^ 64
  (sendAt s p (syncPacket s p slot) none).state

/-- (a - b) of two fabric times, as a signed number. -/
def timeDiff (a b : Nat) : Int := signed 64 (subMod 64 a b)

/-- A completed exchange of stamps t1 to t4 gives the offset and the delay, and runs the servo (R285). -/
def exchanged (s : State) (p t1 t2 t3 t4 : Nat) : State :=
  let half := roundFree s (timeDiff t1 t2 + timeDiff t4 t3) 2
  let delay := roundFree half.2 (timeDiff t4 t1 - timeDiff t3 t2) 2
  let s := set delay.2 0x9002_03 (unsigned 64 delay.1)
  servo s (half.1 - signed 64 (get s (0x9003_01 + p))) (get s 0x9001_03)

/-- A RSP that arrived at `t4`: one that answers the outstanding REQ from a LOCKED parent completes an
exchange (R284, R285). -/
def syncResponse (s : State) (p : Nat) (k : Packet) (t4 : Nat) : State :=
  let d := syncSlot k
  match s.time.req with
  | none => s
  | some (q, t1) =>
    if parentPort s ≠ some p || fld d 125 110 ≠ q || !bit d 109 then s
    else
      let t2 := fld d 63 0
      let t3 := (t2 + fld d 95 64) % 2 ^ 64
      let s := count64 { s with time.req := none } 0x9002_07
      exchanged (set s 0x9002_05 (min 31 (fld d 108 104 + 1))) p t1 t2 t3 t4

/-- 100 µs have passed with the REQ unanswered (R284). -/
def syncTimesOut (s : State) : State :=
  if s.time.req.isSome then count32 { s with time.req := none } 0x9002_08 else s

/-- Four intervals without an exchange, or without an edge (R284, R286). -/
def entersHoldover (s : State) : State :=
  if timeState s = 2 && timeRole s ≠ 1 then steer (set { s with time.slew := 0 } 0x9002_01 3) else s

/-! ### MARK pins (R288 to R290) -/

/-- 0 OFF, 1 TIME, 2 STOP. -/
def markMode (s : State) : Nat := get s 0x9100_01

/-- mark_mode has changed (R288): MARK_OUT is low until the new mode raises it. -/
def markModeChanged (s : State) : State :=
  let s := { s with time.markOut := false }
  if timeRole s = 2 then roleBegins s else s

def markBoundary (s : State) : State := if markMode s = 1 then { s with time.markOut := true } else s

def markWidthOver (s : State) : State := if markMode s = 1 then { s with time.markOut := false } else s

/-- A time less the nearest multiple of a period; from exactly half the later multiple is nearest (R286). -/
def nearestError (t period : Nat) : Int :=
  let r := t % period
  if 2 * r < period then r else (r : Int) - period

/-- A MARK_IN rising edge (R289); in SOURCE_PULSE it runs the servo (R286). -/
def markEdge (s : State) : State :=
  let tooSoon := s.time.lastEdge.any fun t => subMod 64 (now s) t < 256000
  if markMode s ≠ 1 || tooSoon then s
  else
    let period := get s 0x9100_02
    let e := nearestError (now s) period
    let s := { s with time.lastEdge := some (now s) }
    let s := count64 (set s 0x9100_04 (stamp s 10)) 0x9100_05
    let s := set s 0x9100_06 (unsigned 64 e)
    if timeRole s = 2 then servo (count64 (set s 0x9002_03 0) 0x9002_07) e period else s

/-- MARK_IN under STOP has been high for 10 ns (R290). -/
def markStops (s : State) : State := if markMode s = 2 then triggerStop s 2 10 else s

end Sys2Proof.Machine
end

