-- ==== Sys2Proof/Machine/Reads.lean ====
section
/-! DEFINITION. Reading the Catalogue: objects whose value follows other state (12 R258, 17 R365). -/

namespace Sys2Proof.Machine

/-- Values that follow from other state, for objects that are no TABLE. -/
def derivedValue (s : State) (cn : Nat) : Option Nat :=
  match cn with
  | 0x1110_04 => some (s.mgmt.running.length + s.mgmt.ended.length)
  | 0x1110_05 => some s.mgmt.clients.length
  | 0x4103_00 => some ((liveRows s 1 0x4101_00).filter fun e => bit e.2 63).length
  | 0x5000_01 => some ((liveRows s 3 windowCn).filter fun e => winState e.2 == 1 || winState e.2 == 2).length
  | 0x5000_04 => some s.switch.holds.length
  | 0x5303_00 => some ((liveRows s 4 0x5300_00).filter fun e => bit e.2 31).length
  | 0x6410_05 => some (loansActive s)
  | 0x7200_04 => some (s.coll.entries.filter fun e => e.2.thread.isSome).length
  | 0x8020_02 => some (attentionSources s)
  | 0x8050_02 => some s.switch.trackers.length
  | 0x8070_05 => some (pairsOpen s)
  | 0x8070_07 => some s.switch.acks.length
  | 0x8300_06 => some (64 - ((upFrom 0x8300_01 5).map fun c => get s c).sum)
  | 0x9000_00 => some (now s)
  | 0xD000_0C => some (s.time.cycles * 1024 / 5 % 2 ^ 64)
  | _ =>
    if 0x2000_00 ≤ cn && cn ≤ 0x27FF_FF then
      let p := cn / 0x10000 - 0x20
      let c := cn % 0x10000
      if c = 0x000A then some (poolInUse s p)
      else if 0x3001 ≤ c && c ≤ 0x3006 then some (dedicatedInUse s p (c - 0x3001))
      else none
    else if 0xC002_01 ≤ cn && cn ≤ 0xC002_06 then some (traceRing s (cn - 0xC002_01)).length
    else none

/-- Row `row` of the object at `cn` as a READ returns it. -/
def readRow (s : State) (cn row : Nat) : Nat :=
  let v := getRow s cn row
  if 0x6110_00 ≤ cn && cn ≤ 0x6117_00 then
    let p := cn / 256 - 0x6110
    setFld (setFld v 76 69 (queueSizes s p row).length) 68 52 (queueDepth s p row)
  else if cn = issuerCn then setFld v 55 52 (issuerPartition s row)
  else (derivedValue s cn).getD v

end Sys2Proof.Machine
end

