-- ==== Sys2Proof/Machine/Debug.lean ====
section
/-! DEFINITION. On-demand counters cleared, snapshots, global stop by command, scan-out and the test access
port (13 R292 to R294, R301 to R305). -/

namespace Sys2Proof.Machine

/-! ### On-demand counters and snapshots (R292 to R294) -/

/-- odc_clear: the named values become zero at one instant (R292). -/
def odcClearOp (mask : Nat) (s : State) : State × CmdOut :=
  (forEach (setBits 16 0 mask) (fun s i => set s (0xD101_01 + i) 0) s, .done stOk 0)

/-- The right group of an index (Table 12.4). -/
def rightGroup (index : Nat) : Option Nat :=
  (findAt (fun (e : Nat × Nat) => e.1 ≤ index && index ≤ e.2)
    [(0x1000, 0x10FF), (0x1100, 0x11FF), (0x1200, 0x12FF), (0x2000, 0x27FF), (0x3000, 0x37FF), (0x4000, 0x41FF),
     (0x5000, 0x54FF), (0x6000, 0x64FF), (0x7000, 0x74FF), (0x8000, 0x84FF), (0x9000, 0x91FF), (0xA000, 0xA2FF),
     (0xB000, 0xB0FF), (0xC000, 0xC2FF), (0xD000, 0xDFFF), (0xE000, 0xE1FF), (0xF000, 0xF1FF)] 0).map (·.1)

/-- RO objects of type U32, U64 or TIME that hold no count: a size, a level, a mask, a code or a time (R293).
Port digits are cleared. -/
def noCount : List Nat :=
  [0x1010_03, 0x2000_05, 0x2000_09, 0x2000_0A, 0x7002_00, 0x7200_03, 0x8010_04, 0x8010_05, 0x8050_02, 0x8070_05,
   0x8310_02, 0x9000_00, 0x9002_03, 0x9002_04, 0xB001_01, 0xB001_02, 0xB001_03, 0xB002_01, 0xB002_03, 0xE000_02]

/-- The objects a snapshot reads (R293). -/
def counts (o : Obj) : Bool :=
  match o.type with
  | .table _ _ =>
    o.index == 0x3006 || o.index == 0x6202 || o.index == 0x6310 || o.index == 0x6320 || o.index == 0x6406
  | t =>
    o.access == .ro && (t == .u32 || t == .u64 || t == .time) &&
      !noCount.contains (o.index * 256 + o.first) && o.index != 0x6001 && o.index != 0x6002 && o.index != 0x6405

/-- The call numbers of an object's instances. -/
def Obj.instancesIn (o : Obj) (p : Part) : List Nat :=
  (upFrom 0 (o.indices p).1).flatMap fun i =>
    (upFrom o.first (o.lastIn p + 1 - o.first)).map fun sub => (o.index + i * (o.indices p).2) * 256 + sub

/-- The counters of the groups a mask names, in call-number order, with the rows and 8-byte parts of each. -/
def snapshotObjects (s : State) (mask : Nat) : Table (Nat × Nat) :=
  (objects.filter fun o => counts o && (rightGroup o.index).any fun g => bit mask g).foldl (fun t o =>
    (o.instancesIn s.part).foldl (fun t cn => insertT t cn (o.type.rows, (o.type.bytes + 7) / 8)) t) []

/-- The rows of a snapshot (R294, Table 13.7). -/
def snapshotRows (s : State) (mask : Nat) : List Nat :=
  ((snapshotObjects s mask).flatMap fun e =>
    (upFrom 0 e.2.1).flatMap fun row =>
      (upFrom 0 e.2.2).map fun part =>
        e.1 * 2 ^ 104 + part * 2 ^ 96 + row * 2 ^ 64 + readRow s e.1 row / 2 ^ (64 * part) % 2 ^ 64).take 32768

def snapshotInfo (t rows state : Nat) : Nat := t % 2 ^ 64 + rows * 2 ^ 64 + state * 2 ^ 96

/-- snapshot_take (R293). -/
def snapshotTakeOp (mask t : Nat) (s : State) : State × CmdOut :=
  if !domainOn s 24 then (s, .done stBusy 0)
  else if newer 64 t (now s) && t ≠ 0 && 256_000_000_000 < subMod 64 t (now s) then (s, .done stMalformed 0)
  else
    let at' := if t = 0 || !newer 64 t (now s) then (now s + 512_000) % 2 ^ 64 else t
    (set { s with observe.snapshot := some (mask, at') } 0xD201_00 (snapshotInfo at' 0 1), .waits)

/-- Rows of a table from row `r` up. -/
def fillRows (s : State) (cn : Nat) : Nat → List Nat → State
  | _, [] => s
  | r, v :: vs => fillRows (setRow s cn r v) cn (r + 1) vs

/-- The time of a snapshot has come: its rows replace the previous ones (R293, R294). -/
def snapshotTaken (s : State) : State :=
  match s.observe.snapshot with
  | none => s
  | some (mask, t) =>
    let rows := snapshotRows s mask
    let s := { s with observe.snapshot := none, cat := s.cat.filter (fun e => e.1 / 2 ^ 32 != 0xD202_00) }
    let s := set (fillRows s 0xD202_00 0 rows) 0xD201_00 (snapshotInfo t rows.length 2)
    endInvocations s 0xD200_00 (fun _ => true) stOk

/-! ### Global stop by command, and scan-out (R301, R304) -/

/-- global_stop (R301). -/
def globalStopOp (s : State) : State × CmdOut :=
  if stopped s then (s, .done stEmpty 0) else (triggerStop s 1 9, .done stOk 0)

/-- The length of a chain in bits; 0 when absent (Table 13.13). -/
def chainBits (s : State) (chain : Nat) : Nat := if chain < 96 then getRow s 0xC211_00 chain else 0

/-- The domain of a chain is off. -/
def chainOff (s : State) (chain : Nat) : Bool :=
  if chain ≤ 1 then !domainOn s 2
  else if chain = 2 then (upFrom 3 7).all fun d => !domainOn s d
  else if chain = 3 then !domainOn s 18
  else if chain ≤ 8 then !domainOn s (chain + 15)
  else if chain ≤ 22 then !domainOn s 24
  else if chain ≤ 28 then !domainOn s (chain - 5)
  else !domainOn s (10 + (chain - 32) / 8)

/-- Byte `i` of a fall-back ring, oldest record first: past the records come slots never written, which are clear, and
then, where no byte is given here, slots whose records have been drained (Table 13.13, R297). -/
def ringByte (s : State) (src i : Nat) : Option Byte :=
  let ring := traceRing s src
  if i / 16 < ring.length then some (BitVec.ofNat 8 (nth 0 (i / 16) ring / 256 ^ (i % 16)))
  else if i / 16 < traceRingPlaces - (lookupT s.observe.drained src).getD 0 then some 0
  else none

/-- Byte `i` of carrel row `r`'s contents; none where they have no stated layout. -/
def rowByte (s : State) (r i : Nat) : Option Byte :=
  if stagingRow s r && foreignRow s r then none else some (Memory.readByte s.carrel.mem (r * 256 + i))

/-- Byte `i` of a carrel bank's own rows, a failed one unknown, and then of its spares, each with the row it stands for
(R324, Table 13.13). -/
def bankByte (s : State) (bank i : Nat) : Option Byte :=
  let row := i / 256
  let r := bank * 4096 + row
  if row < 4096 then
    if (lookupT s.carrel.spares r).isSome || s.carrel.dead.contains r then none else rowByte s r (i % 256)
  else if s.carrel.badSpares.contains (bank * 32 + (row - 4096)) then none
  else
    match s.carrel.spares.find? fun e => e.1 / 4096 == bank && e.2 == row - 4096 with
    | some e => rowByte s e.1 (i % 256)
    | none => some 0

/-- Byte `i` of a memory chain where a rule gives it (Table 13.13): the fall-back rings, the snapshot buffer,
accumulator storage that has held no tile, and the carrel. -/
def chainByte (s : State) (chain i : Nat) : Option Byte :=
  if 16 ≤ chain && chain ≤ 21 then ringByte s (chain - 16) i
  else if chain = 22 then some (BitVec.ofNat 8 (getRow s 0xD202_00 (i / 16) / 256 ^ (i % 16)))
  else if 24 ≤ chain && chain ≤ 28 then if s.coll.stored.contains (chain - 24) then none else some 0
  else if 32 ≤ chain then bankByte s (chain - 32) i
  else none

/-- Bit `i` of a chain. What no rule gives is a free value, the same each time within one stop (R304). -/
def chainBit (s : State) (chain i : Nat) : Nat :=
  match chainByte s chain (i / 8) with
  | some b => b.toNat / 2 ^ (i % 8) % 2
  | none => Config.freeScanBit (get s 0xD000_03 * 256 + chain) i % 2

def chainRead (s : State) (chain first : Nat) : Nat → Nat
  | 0 => 0
  | n + 1 => chainRead s chain first n + chainBit s chain (first + n) * 2 ^ n

/-- Write the bits of a scan_read into scan_data, 16 bytes to a subindex; `fuel` counts them. -/
def putScan (s : State) (chain first left : Nat) : Nat → Nat → State
  | 0, _ => s
  | fuel + 1, sub =>
    if left = 0 then s
    else
      let n := min left 128
      putScan (setF s (0xC220_00 + sub) 0 (n - 1) 0 (chainRead s chain first n)) chain (first + n) (left - n) fuel
        (sub + 1)

/-- scan_read (R304, R371). -/
def scanReadOp (chain first : Nat) (s : State) : State × CmdOut :=
  let size := chainBits s chain
  if size = 0 then (s, .done stUnsupported 0)
  else if !stopped s then (s, .done stBusy 0)
  else if first % 8 ≠ 0 || size ≤ first then (s, .done stMalformed 0)
  else if chainOff s chain then (s, .done stEmpty 0)
  else
    let n := min 32768 (size - first)
    (putScan s chain first n 256 0, .done stOk n)

/-! ### The test access port (R305) -/

/-- BYPASS: one bit passes. -/
def tapBypass (s : State) (tdi : Bool) : State := { s with observe.tapIr := 0xFF, observe.tapOut := [b2n tdi] }

/-- `n` bits of a number, lowest first. -/
def bitsOf (v : Nat) (n : Nat) : List Nat := (upFrom 0 n).map fun i => v / 2 ^ i % 2

/-- IDCODE: version, part code, manufacturer and 1 (R305). -/
def tapIdcode (s : State) : State :=
  { s with observe.tapIr := 0x01, observe.tapOut := bitsOf (2 ^ 28 + partCode s.part * 2 ^ 12 + 0x7AB) 32 }

/-- EXTEST drives the pins, in a stop or a whole-block reset (R305). -/
def extest (s : State) : Bool := s.observe.tapIr == 0x00 && (stopped s || s.power.blockLow)

/-- The level of an output pin: its own, or in EXTEST that of its boundary cell `i` where the control cell enables the
outputs; none where it does not. -/
def outputPin (s : State) (i : Nat) (own : Bool) : Option Bool :=
  if !extest s then some own
  else if s.observe.tapBoundary.testBit 18 then some (s.observe.tapBoundary.testBit i)
  else none

/-- MARK_OUT (R289, R290). -/
def markOutPin (s : State) : Option Bool := outputPin s 1 s.time.markOut

/-- TXD[i]. -/
def txdPin (s : State) (i : Nat) : Option Bool := outputPin s (3 + i) (s.mgmt.mii.txd.testBit i)

/-- TX_EN. -/
def txEnPin (s : State) : Option Bool := outputPin s 7 s.mgmt.mii.txEn

/-- TX_ER: driven 0 (R273). -/
def txErPin (s : State) : Option Bool := outputPin s 8 false

/-- The level a boundary cell takes, in R305's order from TDI. MARK_IN, the control cell and an output that is not driven
read free values: the model holds no level of them between commands (log entry 65). -/
def pinLevel (s : State) (n i : Nat) : Nat :=
  let m := s.mgmt.mii
  let free := Config.freeScanBit n i % 2
  let level (p : Option Bool) : Nat := (p.map b2n).getD free
  if i = 1 then level (markOutPin s)
  else if i = 2 then b2n m.txClk
  else if 3 ≤ i && i ≤ 6 then level (txdPin s (i - 3))
  else if i = 7 then level (txEnPin s)
  else if i = 8 then level (txErPin s)
  else if i = 9 then b2n m.rxClk
  else if 10 ≤ i && i ≤ 13 then m.rxd / 2 ^ (i - 10) % 2
  else if i = 14 then b2n m.rxDv
  else if i = 15 then b2n m.rxEr
  else if i = 16 then b2n m.crs
  else if i = 17 then b2n m.col
  else free

/-- A pass through the boundary register under an instruction: the 19 cells take the pins' levels, which shift out, TDI end
first, and then hold what is shifted in. -/
def boundaryScan (s : State) (ir shiftIn : Nat) : State :=
  let (n, s) := draw s
  let cells := (upFrom 0 19).map (pinLevel s n)
  { s with observe.tapIr := ir, observe.tapOut := cells, observe.tapBoundary := shiftIn % 2 ^ 19 }

/-- SAMPLE/PRELOAD. -/
def tapSample (s : State) (shiftIn : Nat) : State := boundaryScan s 0x02 shiftIn

/-- SCAN_SELECT: a chain number; outside global stop it acts as BYPASS. -/
def tapSelect (s : State) (chain : Nat) : State :=
  if !stopped s then tapBypass s false
  else { s with observe.tapIr := 0x10, observe.tapChain := chain % 256, observe.tapPos := 0, observe.tapOut := [] }

/-- SCAN_DATA: bits of the selected chain, lowest first, as a rotating chain. -/
def tapScan (s : State) (bits : Nat) : State :=
  let size := chainBits s s.observe.tapChain
  if !stopped s || size = 0 then tapBypass s false
  else
    { s with
      observe.tapIr := 0x11
      observe.tapOut := (upFrom 0 bits).map (fun i => chainBit s s.observe.tapChain ((s.observe.tapPos + i) % size))
      observe.tapPos := (s.observe.tapPos + bits) % size }

/-- EXTEST during global stop or whole-block reset: the boundary cells then drive the output pins. -/
def tapExtest (s : State) (boundary : Nat) : State := boundaryScan s 0x00 boundary

end Sys2Proof.Machine
end

