-- ==== Sys2Proof/Machine/Log.lean ====
section
/-! DEFINITION. The accession log: forming records, their chain, and the drain to host memory
(15 R337 to R341). -/

namespace Sys2Proof.Machine

/-! ### Forming records (R337, R338, R340) -/

/-- The number of the next record. -/
def logHead (s : State) : Nat := get s 0xF000_00

/-- Slots of the log (R337). -/
def logSlots : Nat := 16384

/-- The chain code of a record after one with chain code `prev` (R338). -/
def chainCode (prev bits : Nat) : Nat := sha256First8 (bytesLE 8 prev ++ (bytesLE 64 bits).drop 8)

/-- The record that the next one overwrites is lost from the drained copy when it has not been drained
(R341). -/
def loseUndrained (s : State) : State :=
  let head := logHead s
  if logSlots ≤ head && s.log.drainNext ≤ head - logSlots then
    let old := head - logSlots
    let chain := fld (getRow s 0xF010_00 (old % logSlots)) 63 0
    let gap := match s.log.drainGap with
      | some (first, count, _) => (first, count + 1, chain)
      | none => (old, 1, chain)
    count64 { s with log.drainGap := some gap, log.drainNext := old + 1 } 0xF003_00
  else s

/-- A commit that waits learns the number of its COMMISSION record (R335). -/
def noteCommit (s : State) (bits k : Nat) : State :=
  match s.mirror.commitWait with
  | some c =>
    if c.record.isNone && fld bits 335 328 = 0x12 && fld bits 301 300 = 2 then
      { s with mirror.commitWait := some { c with record := some k } }
    else s
  | none => s

/-- Write a record at log_head: its number and chain code complete it (R337, R338), and its mirror update
is formed (Table 15.2). -/
def putRecord (s : State) (bits : Nat) : State :=
  let k := logHead s
  let bits := setFld (setFld bits 511 448 k) 63 0 0
  let c := chainCode s.log.chain bits
  let s := setRow s 0xF010_00 (k % logSlots) (bits + c)
  let s := { count64 s 0xF000_00 with log.chain := c }
  mirrorChange (noteCommit s bits k) (.records k 1)

/-- LOG_RECORD_FORM (R340): the record of dropped events comes first, then the queue in order. -/
def formRecord (s : State) : State :=
  if s.log.dropped ≠ 0 then
    let bits := recordBits (now s) 0 0x32 0 0 (s.log.dropped % 2 ^ 32 * 2 ^ 272)
    putRecord (loseUndrained { s with log.dropped := 0 }) bits
  else
    match s.log.queue with
    | [] => s
    | e :: es => putRecord (loseUndrained { s with log.queue := es }) e.bits

/-! ### The drain (R341, Table 15.8) -/

def drainCfg (s : State) : Nat := get s 0xF001_00

def drainSize (s : State) : Nat := 4096 * 2 ^ fld (drainCfg s) 126 123

/-- The full rule of R112 for the drain ring. -/
def drainFull (s : State) : Bool := drainSize s ≤ subMod 64 s.log.drainWritten s.log.drainConsumed

/-- A drain access is under way. -/
def drainBusy (s : State) : Bool :=
  s.host.accesses.any fun e => (e.2.kind == .logDrain || e.2.kind == .logConsumed) && !e.2.ignored

/-- The LOG_GAP record after losses, which may itself overwrite one more (R341). -/
def writeGap (s : State) : State :=
  let s := loseUndrained s
  match s.log.drainGap with
  | some (first, n, chain) =>
    putRecord { s with log.drainGap := none }
      (recordBits (now s) 0 0x31 0 0 (first % 2 ^ 64 * 2 ^ 240 + n % 2 ^ 32 * 2 ^ 208 + chain * 2 ^ 144))
  | none => s

/-- LOG_DRAIN_WRITE: copy the next record to its slot, or read the consumed count of a full ring. -/
def drainStep (s : State) : State :=
  let cfg := drainCfg s
  if !bit cfg 127 || drainBusy s || logHead s ≤ s.log.drainNext then s
  else if drainFull s then
    (hostAccess s .logConsumed none 0 (fld cfg 122 111) (fld cfg 110 103) (fld cfg 66 31 * 64) 8 [] false [] 16).2
  else
    let s := if s.log.drainGap.isSome then writeGap s else s
    let k := s.log.drainNext
    let s := { s with log.drainNext := k + 1, log.draining := some (k, fld (getRow s 0xF010_00 (k % logSlots)) 63 0) }
    (hostAccess s .logDrain none 1 (fld cfg 122 111) (fld cfg 110 103)
      (fld cfg 102 67 * 64 + k % drainSize s * 64) 64 (bytesLE 64 (getRow s 0xF010_00 (k % logSlots))) false [] 16).2

/-- A translation fault disables the drain (R341). -/
def drainFault (s : State) (x : Access) : State :=
  reportFault (set s 0xF001_00 (setBit (drainCfg s) 127 false)) x

/-- The record whose write failed has not been drained: it is the next again, or, once the log has overwritten it, one
more of the lost (R341). -/
def drainAgain (s : State) : State :=
  match s.log.draining with
  | none => s
  | some (k, chain) =>
    let s := { s with log.draining := none }
    if logHead s ≤ k + logSlots then { s with log.drainNext := k }
    else
      let gap := match s.log.drainGap with
        | some (_, n, c) => (k, n + 1, c)
        | none => (k, 1, chain)
      count64 { s with log.drainGap := some gap } 0xF003_00

/-- A drain write is over. -/
def finishDrain (s : State) (a : Nat) (x : Access) : State :=
  let s := closeAccess s a x
  if x.status = 2 then drainFault (drainAgain s) x
  else count64 { s with log.drainWritten := s.log.drainWritten + 1, log.draining := none } 0xF002_00

/-- A read of the drain's consumed count is over; a poisoned one brings no count. -/
def finishDrainConsumed (s : State) (a : Nat) (x : Access) : State :=
  let s := closeAccess s a x
  if x.ignored then s
  else if x.status = 2 then drainFault s x
  else if x.status = 1 then s
  else { s with log.drainConsumed := numLE (accessData x) }

/-- log_drain has been written: the counts of a drain that is enabled anew begin at 0 (R109, R341). -/
def drainConfigured (s : State) (old : Nat) : State :=
  if bit (drainCfg s) 127 && !bit old 127 then { s with log.drainWritten := 0, log.drainConsumed := 0 } else s

end Sys2Proof.Machine
end

