-- ==== Sys2Proof/Machine/Power.lean ====
section
/-! DEFINITION. Resets, power domains, thermal sensors, firmware and tenant changes (16 R349 to R362,
14 R317). -/

namespace Sys2Proof.Machine

/-! ### Power domains (R353 to R355) -/

/-- A refused power_target write or a missing acknowledgement (`E000.05`, Table 16.4 bit 6). -/
def powerFault (s : State) : State := { count32 s 0xE000_05 with power.faultLatched := true }

/-- Domains each domain needs (Table 16.5). -/
def domainNeeds (d : Nat) : List Nat :=
  if d ≤ 2 then []
  else if 19 ≤ d && d ≤ 23 then [2, 18]
  else if 26 ≤ d && (d - 26) % 3 = 2 then [d - 2, d - 1]
  else [2]

/-- Bits of power_target that a write ignores: the always-on domains and the carrel groups (R354). -/
def ignoredDomain (d : Nat) : Bool := d ≤ 1 || (10 ≤ d && d ≤ 17)

/-- The target a write leaves (R354). -/
def targetAfter (s : State) (v : Nat) : Nat :=
  let old := get s 0xE000_01
  ((upFrom 0 50).map fun d =>
    if !bit (partDomains s.part) d then 0
    else b2n (bit (if ignoredDomain d then old else v) d) * 2 ^ d).sum

/-- A domain may go off under a new target (Table 16.5). -/
def mayGoOff (s : State) (target d : Nat) : Bool :=
  if d = 2 then (upFrom 3 47).all fun e => ignoredDomain e || !bit target e
  else if d = 3 then (upFrom 0 1024).all fun i => nonpostedOpen s i == 0 && issuerFence s i == 0
  else if 4 ≤ d && d ≤ 9 then
    (upFrom 0 16).all fun n => !bit (get s (0xA100_01 + n)) (2 * (d - 4)) && !bit (get s (0xA100_01 + n)) (2 * (d - 4) + 1)
  else if d = 18 then
    ((rowsOf s entryCn).all fun e => ceState e.2 == 0) &&
      (upFrom 0 5).all fun i => sliceState s i != 0 || !bit target (19 + i)
  else if 19 ≤ d && d ≤ 23 then sliceState s (d - 19) != 0 || !bit target 18
  else if d = 25 then counterpart s == 0x3FFFFF
  else if 26 ≤ d && (d - 26) % 3 = 2 then
    let p := (d - 26) / 3
    fld (dealSet s p) 9 8 == 0 && fld (waitSet s p) 9 8 == 0
  else true

/-- A power_target write is taken (R354): not in global stop, every domain it turns off may go off, and every
domain it leaves on has what it needs. -/
def targetAllowed (s : State) (v : Nat) : Bool :=
  let old := get s 0xE000_01
  let new := targetAfter s v
  !stopped s &&
    (upFrom 2 48).all fun d =>
      ignoredDomain d ||
        (if bit new d then (domainNeeds d).all fun e => bit new e
         else !bit old d || mayGoOff s new d)

/-- A carrel group with an assigned bank (R19). -/
def groupAssigned (s : State) (g : Nat) : Bool := 8 * g < s.carrel.layout.sum

/-- The sequencer wants a domain on. A carrel group follows the quotas and domain 2 (R19, R354). -/
def wantedOn (s : State) (d : Nat) : Bool :=
  let target := get s 0xE000_01
  bit (partDomains s.part) d &&
    (if 10 ≤ d && d ≤ 17 then bit target 2 && groupAssigned s (d - 10) else bit target d)

def setPower (s : State) (d : Nat) (b : Bool) : State :=
  set s 0xE000_02 (setBit (get s 0xE000_02) d b)

/-- The lanes of a run are untrained, FAILED ones apart (R248). -/
def untrain (s : State) (p : Nat) (ns : List Nat) : State :=
  forEach ns (fun s n =>
    let s := setTx s p n 0
    let s := if (lane s p n).rxFailed then s else setRx s p n 0
    setLane s p n fun l => { Lane.reset with rxFailed := l.rxFailed, peerFailed := l.peerFailed }) s

/-- The engine-side ports go off: what they had taken in part and what they offer is lost; no response is open (Table
16.5, R355). -/
def enginesOff (s : State) : State :=
  { s with
    switch.waits := s.switch.waits.filter fun w =>
      match w with
      | .engine _ => false
      | .slip _ | .release _ _ _ => true
    host.esp := []
    host.responses := [] }

/-- What stops with a domain (Table 16.5). -/
def stopDomain (s : State) (d : Nat) : State :=
  if d = 3 then enginesOff s
  else if 4 ≤ d && d ≤ 9 then portOff (portOff s (2 * (d - 4))) (2 * (d - 4) + 1)
  else if d = 18 then clearTable { s with coll.program := [] } 0x7200_03
  else if d = 24 then set s 0xC000_02 (setFld (traceCfg s) 127 126 0)
  else if d = 25 then clearImage s
  else if 26 ≤ d then
    let p := (d - 26) / 3
    if (d - 26) % 3 = 2 then untrain s p [8, 9]
    else
      let s := if linkState s p = 1 || linkState s p = 2 then flushLink s p true else s
      let s := untrain s p (upFrom 0 10)
      set (set (set s (ofPort p 0x2050_01) 0) (ofPort p 0x2010_01) 0) (ofPort p 0x2010_02) 0
  else s

/-- Zero the banks of a carrel group, and its poison flags (R355 step 3, R362). -/
def zeroGroup (s : State) (g : Nat) : State :=
  let low := 8 * g * bankBytes
  let high := low + 8 * bankBytes
  { s with
    carrel.mem := s.carrel.mem.filter fun c => c.1 < low || high ≤ c.1
    carrel.poison := s.carrel.poison.filter fun r => r * 256 < low || high ≤ r * 256
    carrel.foreign := s.carrel.foreign.filter fun e => e.1 * 256 < low || high < (e.1 + e.2) * 256 }

/-- A port whose two domains are on begins to train once the image runs (R358, Table 16.8 step 6). -/
def beginTraining (s : State) (p : Nat) : State :=
  if bit (get s 0xE000_02) (26 + 3 * p) && bit (get s 0xE000_02) (27 + 3 * p) && firmwareRuns s && !held s &&
      linkState s p = 0 then
    startTraining s p false
  else s

/-- A domain of a port is on again: with both, its island stamps what its crossing holds (R281), and its lanes train. -/
def wakePort (s : State) (p : Nat) : State :=
  let powered := bit (get s 0xE000_02) (26 + 3 * p) && bit (get s 0xE000_02) (27 + 3 * p)
  beginTraining (if powered then islandWakes s p else s) p

/-- What a domain does when it is on again: its SRAMs are clear (R355 step 3), and a port's lanes train. -/
def wakeDomain (s : State) (d : Nat) : State :=
  if d = 2 then
    let s := { s with switch := { SwitchState.reset with retired := s.switch.retired } }
    forEach [0x4100_00, 0x4101_00, 0x4102_00, 0x5100_00, 0x5300_00, 0x6400_00, 0x8072_00]
      (fun s cn => clearTable s cn) s
  else if 10 ≤ d && d ≤ 17 then zeroGroup s (d - 10)
  else if 19 ≤ d && d ≤ 23 then { s with coll.stored := s.coll.stored.filter (· != d - 19) }
  else if d = 24 then
    set (clearTable { s with observe.rings := [], observe.line := [], observe.lost := [], observe.drained := [] } 0xD202_00) 0xD201_00 0
  else if 26 ≤ d then wakePort s ((d - 26) / 3)
  else s

/-- The next domain the reset sequencer moves: off first, in descending number, then on, ascending (R355). One whose need
has stayed off is not switched on (R353). -/
def nextMove (s : State) : Option (Nat × Bool) :=
  let state := get s 0xE000_02
  let offs := (upFrom 2 48).reverse.filter fun d => bit state d && !wantedOn s d
  let ons := (upFrom 2 48).filter fun d => 
    !bit state d && wantedOn s d && !s.power.skipped.contains d && (domainNeeds d).all fun e => bit state e
  match offs with
  | d :: _ => some (d, false)
  | [] => match ons with
    | d :: _ => some (d, true)
    | [] => none

/-- The sequencer goes on toward power_target, one domain at a time (R355). -/
def sequencePower (s : State) : State :=
  if s.power.porLow || s.power.switching.isSome then s
  else
    match nextMove s with
    | none => set { s with power.starting := false, power.skipped := [] } 0xE000_03 0
    | some (d, on) =>
      let s := set s 0xE000_03 1
      let s := if on then s else setPower (stopDomain s d) d false
      { s with power.switching := some (d, on), power.pdReq := setBit s.power.pdReq d on }

/-- PD_ACK of the domain being switched (R355). Any other acknowledgement is the host's own affair. -/
def powerAcked (s : State) (d : Nat) (level : Bool) : State :=
  if s.power.switching ≠ some (d, level) then s
  else
    let s := { s with power.switching := none }
    sequencePower (if level then wakeDomain (setPower s d true) d else s)

/-- pd_ack_limit passed (R355): a domain being switched on stays off, one being switched off is off. -/
def powerAckLimit (s : State) (d : Nat) : State :=
  match s.power.switching with
  | none => s
  | some (e, on) =>
    if e ≠ d then s
    else
      let s := powerFault { s with power.switching := none }
      sequencePower (if on then
          { s with power.skipped := s.power.skipped ++ [d], power.pdReq := setBit s.power.pdReq d false }
        else s)

/-- A power_target write that is allowed takes effect (R354, R355). -/
def targetWritten (s : State) (v : Nat) : State :=
  sequencePower { set s 0xE000_01 (targetAfter s v) with power.skipped := [] }

/-! ### Reset inputs (R349, R317, R361) -/

/-- Objects that keep their values through whole-block reset (R367); sparing_records with its history. -/
def keptAtReset (cn : Nat) : Bool :=
  cn == 0xA000_00 || cn == 0xA000_01 || (0xA001_01 ≤ cn && cn ≤ 0xA001_10) || cn == 0xA110_00 || cn == 0xA111_00 ||
    cn == 0xA201_00 || (0xA202_01 ≤ cn && cn ≤ 0xA202_06) || (0xD000_01 ≤ cn && cn ≤ 0xD000_0C) ||
    (0xE101_01 ≤ cn && cn ≤ 0xE101_08) || cn == 0xF000_00 || cn == 0xF003_00 || cn == 0xF004_00 ||
    cn == 0xF010_00 || cn == 0xF101_03 || cn == 0xF102_00

/-- A requester's record of a request that the reset cuts short: what was carried out of it (R271, R317). -/
def cutRecords (s : State) : State :=
  let ms := s.mgmt.msgs ++ s.mgmt.waiting.filterMap fun w =>
    match w with
    | .message m => some m
    | _ => none
  let s := ms.foldl closeRecord s
  { s with mgmt.clients := s.mgmt.clients.map fun c =>
      { c with records := c.records.map fun x => { x with running := false } } }

/-- A drain write that the reset cuts short has not been drained (R341). -/
def cutDrain (s : State) : State := if s.log.draining.isSome then drainAgain s else s

/-- The block leaves its pairing and its commissioning state, with the records of both (R265, R328, Table 15.7). -/
def leaveService (s : State) : State :=
  let s := if pairing s = 0 then s else setPairing s 0
  if commission s = 0 then s else setCommission s 0 .block

/-- What a whole-block reset leaves: what R317 keeps stays, and all else returns to its default. -/
def resetBlock (s : State) : State :=
  let s := cutDrain (cutRecords (leaveService s))
  let r := State.reset
  let s' : State :=
    { r with
      part := s.part, pending := s.pending, freeCount := s.freeCount
      cat := s.cat.filter fun e => keptAtReset (e.1 / 2 ^ 32)
      time := { r.time with acc := s.time.acc, cycles := s.time.cycles }
      log := s.log
      recovery := { r.recovery with nextReport := s.recovery.nextReport, firstSuppressed := s.recovery.firstSuppressed,
                                    firstLate := s.recovery.firstLate }
      mgmt := { r.mgmt with nextMsg := s.mgmt.nextMsg, mii := s.mgmt.mii, clients := s.mgmt.clients }
      observe := { r.observe with tapIr := s.observe.tapIr, tapChain := s.observe.tapChain,
                                  tapBoundary := s.observe.tapBoundary }
      power := { r.power with
        porLow := s.power.porLow, blockLow := s.power.blockLow, partLow := s.power.partLow, droop := s.power.droop,
        pdReq := s.power.pdReq, switching := s.power.switching } }
  set (set s' 0xE000_02 (get s 0xE000_02)) 0xE000_03 (b2n s.power.switching.isSome)

/-- Whole-block reset, as BLOCK_RST_N is released (R317, R349, R361): BLOCK_RESET is recorded and the domains are switched
on. -/
def wholeReset (s : State) : State :=
  let s := resetBlock s
  sequencePower
    (logEvent (light { s with power.blockLow := false, power.starting := true } 0xD000_01 32) 0 0x02 0 0)

/-- POR_N falls: all is lost (R349). -/
def porFalls (s : State) : State :=
  let r := State.reset
  let s' : State :=
    { r with
      part := s.part, pending := s.pending, freeCount := s.freeCount
      log := { r.log with queue := [] }
      mgmt := { r.mgmt with mii := s.mgmt.mii }
      power := { PowerState.reset s.part with
        porLow := true, blockLow := s.power.blockLow, partLow := s.power.partLow, droop := s.power.droop, pdReq := 0 } }
  set s' 0xE000_02 3

/-- POR_N rises: POWER_UP is recorded and the domains are switched on in turn (Table 16.8, Table 15.7). -/
def porRises (s : State) : State :=
  if !s.power.porLow then s
  else
    let detail := partCode s.part * 2 ^ 288 + 0x10 * 2 ^ 280
    sequencePower (logEvent { s with power.porLow := false, power.starting := true } 0 0x01 0 detail)

/-- BLOCK_RST_N falls: the domains but 0 and 1 and the management core are held in reset, the image is discarded, and
the objects of domain 0 that are not kept return to their defaults (R349). -/
def blockFalls (s : State) : State :=
  if s.power.porLow then { s with power.blockLow := true }
  else { resetBlock s with power.blockLow := true }

/-- BLOCK_RST_N rises: the whole-block reset (R317). -/
def blockRises (s : State) : State :=
  if !s.power.blockLow then s
  else if s.power.porLow then { s with power.blockLow := false }
  else wholeReset s

/-- PART_RST_N[n] falls (R349): it begins a reset of a partition that is NORMAL or HUNG. -/
def partFalls (s : State) (n : Nat) : State :=
  if 16 ≤ n || s.power.partLow.contains n then s
  else
    let s := { s with power.partLow := s.power.partLow ++ [n] }
    if held s || stopped s || partitionDown s n then s else startReset s n (0x4200 + n)

def partRises (s : State) (n : Nat) : State :=
  { s with power.partLow := s.power.partLow.filter fun x => x != n }

/-! ### Thermal sensors and attention (R352, R357) -/

def thermalSampled (s : State) (p t : Nat) : State :=
  if s.power.porLow || portsOf s.part ≤ p then s
  else
    let t := t % 2 ^ 16
    let s := set s (0xE100_01 + p) t
    let s := set s (0xE101_01 + p) (max t (get s (0xE101_01 + p)))
    if get s 0xE102_01 ≤ t then set s 0xE102_02 (setBit (get s 0xE102_02) p true) else s

/-- Clear the bits of an object that a mask names. -/
def clearBits (s : State) (cn width mask : Nat) : State :=
  set s cn (((upFrom 0 width).map fun i => b2n (bit (get s cn) i && !bit mask i) * 2 ^ i).sum)

def thermalAlarmClearOp (mask : Nat) (s : State) : State × CmdOut := (clearBits s 0xE102_02 8 mask, .done stOk 0)

def thermalMaxClearOp (s : State) : State × CmdOut :=
  (forEach (upFrom 0 (portsOf s.part)) (fun s p => set s (0xE101_01 + p) (get s (0xE100_01 + p))) s, .done stOk 0)

def powerFaultClearOp (s : State) : State × CmdOut := ({ s with power.faultLatched := false }, .done stOk 0)

def faultAttentionClearOp (mask : Nat) (s : State) : State × CmdOut := (clearBits s 0xA203_01 16 mask, .done stOk 0)

/-! ### Firmware (R358, R359) -/

/-- What a valid image's header gives (Table 16.7): body_crc, version and length. -/
def imageOf (s : State) (bs : List Byte) : Option (Nat × Nat × Nat) :=
  let h := numLE (bs.take 64)
  let part := match s.part with
    | .skx2 => 461
    | .skx4 => 462
    | .skx8 => 463
  let length := fld h 415 384
  if fld h 511 480 = 0x4658_4B53 && fld h 479 464 = 1 && bit h part && fld h 455 448 ≤ get s 0x1000_03 &&
      128 ≤ length && length ≤ 1048576 && length % 64 = 0 then
    some (fld h 383 352, fld h 447 416, length)
  else none

/-- The image as memory returned it is checked (R359): OK makes it ready to start. -/
def firmwareChecked (s : State) (image : Option (List Byte)) : State × Nat :=
  match image with
  | none => (set s 0x8010_03 3, stMiss)
  | some bs =>
    match imageOf s bs with
    | none => (set s 0x8010_03 3, stMalformed)
    | some (crc, version, length) =>
      if bs.length < length || crc32c ((bs.take length).drop 64) ≠ crc then (set s 0x8010_03 3, stMalformed)
      else
        let s := light { s with power.image := some (crc, version, length) } 0xD000_09 32
        let s := logEvent (set s 0x8010_03 1) 9 0x03 0 (crc * 2 ^ 272 + length * 2 ^ 240)
        (s, stOk)

/-- firmware_load is refused BUSY unless firmware_state is BOOT or FAILED, start-up being over (R359, R361). -/
def firmwareBusy (s : State) : Bool :=
  s.power.starting || !(get s 0x8010_03 == 0 || get s 0x8010_03 == 3)

/-- Bytes of host memory that firmware_load reads when memory returns `bs`: the header, then the image it names. -/
def imageReads (s : State) (bs : List Byte) : Nat :=
  match imageOf s bs with
  | some (_, _, length) => length
  | none => 64

/-- The memory-side ports reach the whole image (R345, R359). -/
def imageReachable (s : State) (bs : List Byte) : Bool :=
  let src := get s 0x8010_01
  (split4K (imageReads s bs / 4096 + 2) (fld src 107 66) (imageReads s bs)).all fun e =>
    (mspPort s 16 (fld src 115 108) e.1).isSome

/-- firmware_load with the bytes host memory returns: none for a fault of the host's, and the same where no port takes a
read (R345). -/
def firmwareLoadOp (image : Option (List Byte)) (s : State) : State × CmdOut :=
  if firmwareBusy s then (s, .done stBusy 0)
  else
    let (s, st) := firmwareChecked s (image.filter (imageReachable s))
    (s, .done st 0)

/-- A read of the first `len` bytes of the image. -/
def readImage (s : State) (len : Nat) : State :=
  let src := get s 0x8010_01
  (hostAccess s .firmwareLoad none 0 (fld src 127 116) (fld src 115 108) (fld src 107 66) len [] false [] 16).2

/-- firmware_load that reads host memory itself: the header first. -/
def firmwareLoadReads (s : State) : State × CmdOut :=
  if firmwareBusy s then (s, .done stBusy 0) else (readImage (set s 0x8010_03 1) 64, .waits)

/-- A read of the image is over: after the header comes the image (R359). -/
def finishFirmware (s : State) (a : Nat) (x : Access) : State :=
  let s := closeAccess s a x
  let bs := accessData x
  let ends (s : State) (image : Option (List Byte)) : State :=
    let (s, st) := firmwareChecked s image
    endInvocation s 0x8010_02 0 st 0
  if x.ignored || (runningInvocation s 0x8010_02 0).isNone then s
  else if x.status = 2 then ends s none
  else if x.status = 1 then ends s (some [])
  else if bs.length = 64 then
    match imageOf s bs with
    | some (_, _, length) => readImage s length
    | none => ends s (some [])
  else ends s (some bs)

/-- program_load's read is over (R154). -/
def finishProgram (s : State) (a : Nat) (x : Access) (stage : Nat) : State :=
  let s := closeAccess s a x
  if x.ignored || (runningInvocation s 0x7200_02 0).isNone then s
  else
    let (s, st) := programLoaded (if x.status = 2 then none else some (accessData x)) stage s
    endInvocation s 0x7200_02 0 st 0

/-- The image runs: the full Catalogue is served, and every present port trains (Table 16.8 step 6). -/
def firmwareStarts (s : State) : State :=
  match s.power.image with
  | none => s
  | some (crc, version, _) =>
    if held s || get s 0x8010_03 ≠ 1 then s
    else
      let s := { s with power.image := none }
      let s := coreRecord (set (set (set s 0x8010_03 2) 0x8010_04 crc) 0x8010_05 version) 1
      forEach (upFrom 0 (portsOf s.part)) beginTraining s

/-! ### Tenant change (R362) -/

def tenantBusy (s : State) : Bool :=
  ((rowsOf s windowCn).any fun e => winState e.2 != 0 && 1 ≤ winKind e.2 && winKind e.2 ≤ 3) ||
    ((rowsOf s entryCn).any fun e => ceState e.2 != 0) || !s.observe.dumps.isEmpty || stopped s ||
    s.power.clearing.isSome

/-- tenant_change waits while the banks are written with zeros. -/
def tenantChangeOp (t : Nat) (s : State) : State × CmdOut :=
  if tenantBusy s then (s, .done stBusy 0) else ({ s with power.clearing := some t }, .waits)

/-- The clear is over. -/
def tenantCleared (s : State) : State :=
  match s.power.clearing with
  | none => s
  | some t =>
    let s := { s with power.clearing := none, carrel.mem := [], carrel.poison := [], carrel.foreign := [] }
    let s := count32 (set s 0x8301_00 t) 0x8303_00
    endInvocation s 0x8302_00 0 stOk 0

end Sys2Proof.Machine
end

