-- ==== Sys2Proof/Machine/Rights.lean ====
section
/-! DEFINITION. Whether a Catalogue access is admitted: classes, rights and the values an object takes (12
R257 to R267, with the ranges the home chapters give). -/

namespace Sys2Proof.Machine

/-! ### Classes and rights (R261 to R263) -/

/-- The class of an in-band access from its packet (Table 12.3). A service identifier outside the FM range
comes out as ENDPOINT, which grants it nothing (R261). -/
def requesterOf (s : State) (p : Nat) (k : Packet) : Requester :=
  let cls :=
    if inForce s 0x1101_05 ≤ k.src && k.src ≤ inForce s 0x1101_06 then Path.fm
    else if service k.src then .endpoint
    else if portLocal k.dst || portLocal k.src then .neighbour
    else .endpoint
  { cls := cls, ident := k.src, port := p }

/-- The objects R263 reserves to the fabric. -/
def fabricReserved (cn : Nat) : Bool :=
  let i := cn / 256
  cn == 0x1001_00 || cn == 0x1002_00 || i == 0x1100 || i == 0x1101 || (0x4000 ≤ i && i ≤ 0x41FF) ||
    cn == 0x5301_00 || cn == 0x5302_00 || cn == 0x8073_00 || cn == 0x6402_00 ||
    (0x6404_01 ≤ cn && cn ≤ 0x6404_08) || (0xB000 ≤ i && i ≤ 0xB0FF)

/-- The long-access objects, which no mask governs (R263). -/
def longAccessObject (cn : Nat) : Bool := cn / 256 == 0x11F0 || cn / 256 == 0x11F1

def rightsMask (s : State) (cls : Path) : Nat :=
  match cls with
  | .shelf => inForce s 0x1101_01 ||| 6
  | .host => inForce s 0x1101_02
  | .fm => inForce s 0x1101_03
  | .neighbour => inForce s 0x1101_04
  | _ => 0

/-- A mask grants the object's group (R262). -/
def maskGrants (s : State) (cls : Path) (cn : Nat) : Bool :=
  match rightGroup (cn / 256) with
  | some g => bit (rightsMask s cls) g
  | none => false

/-- The Reads column of Table 12.3. -/
def mayRead (cls : Path) (cn : Nat) : Bool :=
  match cls with
  | .neighbour => (0x1000_00 ≤ cn && cn ≤ 0x10FF_FF) || cn == 0x1100_00
  | .endpoint | .block => false
  | .shelf | .host | .fm => true

/-- While UNCOMMISSIONED the host decides who may commission the block (R263). -/
def hostException (s : State) (cn : Nat) : Bool :=
  commission s == 0 && (cn / 256 == 0x1101 || cn / 256 == 0x1200)

/-- The Writes and invocations column of Table 12.3. -/
def mayChange (s : State) (rq : Requester) (cn : Nat) : Bool :=
  match rq.cls with
  | .block => false
  | .host => longAccessObject cn || hostException s cn || (!fabricReserved cn && maskGrants s .host cn)
  | .endpoint => cn == 0x7300_03 && ordinary rq.ident
  | .neighbour =>
    if cn == 0x6408_00 || cn == 0x6409_00 then get s 0x640A_00 == 1 else maskGrants s .neighbour cn
  | c => maskGrants s c cn

/-- Operations of Table 12.7. -/
def itemRead : Nat := 0
def itemWrite : Nat := 1
def itemInvoke : Nat := 2
def itemNext : Nat := 3

/-- The operation does not suit the type (R258). -/
def unsuited (o : Obj) (op : Nat) : Bool :=
  (op == itemWrite && o.type == .cmd) || (op == itemInvoke && o.type != .cmd)

/-- R264 step 2. -/
def rightsRefuse (s : State) (rq : Requester) (o : Obj) (cn op : Nat) : Bool :=
  if longAccessObject cn && rq.cls != .host then true
  else if op = itemRead then !mayRead rq.cls cn
  else if unsuited o op then rq.cls == .endpoint && !ordinary rq.ident
  else if !mayChange s rq cn then true
  else if op = itemWrite then
    match o.access with
    | .ro => true
    | .rwc => commission s != 1 && !(rq.cls == .host && hostException s cn)
    | _ => false
  else false

/-! ### Values (R264 step 4) -/

/-- The bits of an object's value or row that are not reserved. -/
def keepMask (o : Obj) (cn : Nat) : Nat :=
  let field (hi lo : Nat) : Nat := 2 ^ (hi + 1) - 2 ^ lo
  match o.keep with
  | some m => m
  | none =>
    let i := cn / 256
    if cn = 0x5101_00 then
      field 255 254 + field 244 214 + field 207 200 + field 191 162 + field 159 130 + field 127 54 + field 31 0
    else if cn = 0x6401_00 then field 255 244 + field 239 78 + field 63 0
    else if cn = 0x7101_00 then field 255 5
    else if cn = 0x7200_01 then field 127 38
    else if cn = 0x7103_00 then (upFrom 0 4).foldl (fun m k => m + field (256 * k + 255) (256 * k + 31)) 0
    else if cn = 0x8101_00 then field 255 140 + field 127 0
    else if cn = 0x8201_00 then field 255 68 + field 63 32
    else if i = 0x4100 then 0xC0FF
    else if i = 0x4101 then field 63 63 + field 53 32 + field 15 14 + 0xFF
    else if i = 0x4102 then field 63 60 + field 47 0
    else if 0x6100 ≤ i && i ≤ 0x6107 then field 63 63 + field 55 16
    else if i = 0x6200 then field 63 62 + field 47 0
    else if i = 0x6201 then field 127 125 + field 119 44
    else if cn = 0x8010_01 then field 127 66
    else if i = 0xC000 then field 127 48
    else if i = 0xC100 then field 127 118 + field 95 0
    else if i = 0xC102 then field 127 66
    else if i = 0xF001 then field 127 15
    else if 0x3000 ≤ i && i ≤ 0x37FF then
      let c := i % 256
      if c = 0x0A || c = 0x0B then 0xF000_0000
      else if c = 0x0F then 0xFFFC_0000
      else 2 ^ 64 - 1
    else 2 ^ (8 * o.type.bytes) - 1

/-- The values of a staged window row (Table 2.2). -/
def windowStageOk (v : Nat) : Bool := fld v 127 106 ≤ fld v 105 84

/-- The values of a staged tray row (Table 5.1). -/
def trayStageOk (v : Nat) : Bool := fld v 223 220 ≤ 12 && 1 ≤ fld v 215 200 && fld v 215 200 ≤ 10000

/-- The values of a staged notice ring row (Table 5.5). -/
def ringStageOk (v : Nat) : Bool :=
  fld v 229 226 ≤ 12 && fld v 151 130 ≤ fld v 129 108 && 1 ≤ fld v 107 92 && fld v 107 92 ≤ 10000

/-- The values of a staged loan entry (Table 8.6), as far as its role uses them (log entry 56); a reserved role
is loan_set's to refuse (R180). -/
def loanStageOk (v : Nat) : Bool :=
  fld v 253 252 == 2 || fld v 253 252 == 3 ||
    (1 ≤ fld v 183 168 && fld v 183 168 ≤ 32000 && 1 ≤ fld v 167 160 && (!bit v 251 || 1 ≤ fld v 159 148))

/-- The values of a staged collective entry (Table 7.1). -/
def collectiveStageOk (v : Nat) : Bool := fld v 204 183 ≤ fld v 226 205 && fld v 182 161 ≤ fld v 160 139

/-- The values of a staged stage row (Table 7.2). -/
def stageRowOk (v : Nat) : Bool :=
  let input := fld v 45 41
  let output := fld v 40 36
  fld v 159 128 + fld v 127 96 < 2 ^ 32 && (input ≤ 6 || (8 ≤ input && input ≤ 11)) &&
    (output ≤ 7 || output == 0x1F) && fld v 35 33 ≤ 4

/-- Rules of Tables 2.2, 5.1, 5.5, 7.1, 7.2, 8.6, 9.2, 9.3, 9.4, 13.9, 13.10, 15.8 and others over several fields of
one value. -/
def encodingOk (s : State) (cn row v : Nat) : Bool :=
  let i := cn / 256
  if cn = 0x5101_00 then windowStageOk v
  else if cn = 0x6401_00 then loanStageOk v
  else if cn = 0x7101_00 then collectiveStageOk v
  else if cn = 0x7103_00 then (upFrom 0 4).all fun k => stageRowOk (fld v (256 * k + 255) (256 * k))
  else if cn = 0x8101_00 then trayStageOk v
  else if cn = 0x8201_00 then ringStageOk v
  else if 0x6100 ≤ i && i ≤ 0x6107 then
    1 ≤ fld v 39 24 && fld v 39 24 ≤ 32000 && 1 ≤ fld v 23 16 && (row < 10 || 258 ≤ fld v 55 40)
  else if i = 0x4101 then !bit v 63 || ordinary (fld v 53 32) || service (fld v 53 32)
  else if i = 0x6200 then
    !bit v 63 || (fld v 47 32 ≤ 32000 && max (fld v 47 32) 1 ≤ fld v 31 16 && fld v 31 16 ≤ 32000 &&
      1 ≤ fld v 15 8 && 1 ≤ fld v 7 0)
  else if i = 0x6201 then !bit v 127 || fld v 87 66 ≤ fld v 65 44
  else if i = 0x8001 then bit v 7 || fld v 3 0 ≤ 11
  else if cn = 0x8010_01 then fld v 71 66 = 0
  else if i = 0xC100 then !bit v 127 || (fld v 126 125 ≠ 3 && fld v 63 32 ≤ fld v 31 0)
  else if cn = 0xC000_02 then
    fld v 127 126 ≠ 3 && fld v 124 120 ≤ 16 && 1 ≤ fld v 63 48 && fld v 63 48 ≤ 160
  else if cn = 0xC102_00 then fld v 126 122 ≤ 16
  else if cn = 0xF001_00 then
    !bit v 127 || (fld v 126 123 ≤ 12 && 1 ≤ fld v 30 15 && fld v 30 15 ≤ 10000)
  else if i = 0xD100 then !bit v 31 || (fld v 29 27 ≠ 6 && 1 ≤ fld v 7 0 && fld v 7 0 ≤ 0xC &&
      (!bit v 30 || opcodes.contains (fld v 26 19)))
  else if cn = 0x9001_02 then v ≤ 7 || v = 0xFF
  else if cn = 0x9100_03 then 2 * v ≤ get s 0x9100_02
  else if cn = 0xC103_01 then v + 64 ≤ quota s 2 * bankBytes
  else if cn = 0x1101_06 then get s 0x1101_05 ≤ v
  else if cn = 0xA200_01 then service v || v = 0x3FFFFF
  else if 0x3000 ≤ i && i ≤ 0x37FF then
    let c := i % 256
    if c = 0x01 then tapsAllowed v
    else if c = 0x0A || c = 0x0B then fld v 30 29 ≠ 3
    else if c = 0x0F then
      fld v 31 30 ≠ 3 && (fld v 31 30 = 0 || (1 ≤ fld v 28 24 && fld v 28 24 ≤ 16 && fld v 23 18 ≤ 40))
    else true
  else true

/-- A value lies in its object's stated range with no reserved encoding (R8, R257). -/
def valueOk (s : State) (o : Obj) (cn row v : Nat) : Bool :=
  let v := v &&& keepMask o cn
  (match o.range with
    | some (lo, hi) => lo ≤ v && v ≤ hi
    | none => o.type != .bool || v ≤ 1) &&
    encodingOk s cn row v

/-- What a WRITE leaves in the store: reserved bits are ignored (R8), two bits of the SHELF mask read 1 (R262), and the
bits of dateline_ports for ports the part lacks read 0 (Table 8.5). -/
def storedValue (p : Part) (o : Obj) (cn v : Nat) : Nat :=
  let v := v &&& keepMask o cn
  if cn = 0x1101_01 then v ||| 6
  else if cn = 0x4001_00 then v % 2 ^ portsOf p
  else v

/-- A host write that breaks the host's duty: reserved bits or encodings, or a value out of range (R8, R12,
R264). A memory-side port given to two partitions is stored as it came; bits that no right group has in a mask of
`1101` are no reserved bits: they ignore writes (R262). -/
def hostWrong (s : State) (o : Obj) (cn row v : Nat) : Bool :=
  (v &&& keepMask o cn ≠ v && cn / 256 != 0x1101) || !valueOk s o cn row v

/-- The bits of a host's wrong value that stand as the host wrote them, for its outcome must stay within its partition
and the windows of its context, and reach no other endpoint (R12): whose memory the value names, and where in it. The
value's other bits are free (log entry 51). -/
def confined (cn : Nat) : Nat :=
  let field (hi lo : Nat) : Nat := 2 ^ (hi + 1) - 2 ^ lo
  let i := cn / 256
  if cn = 0x5101_00 then field 239 214 + field 207 200 + field 191 162 + field 159 130 + field 127 54
  else if cn = 0x6401_00 then field 253 252 + field 249 184 + field 147 78
  else if cn = 0x7101_00 then field 252 237 + field 234 227 + field 204 51
  else if cn = 0x7103_00 then (upFrom 0 4).foldl (fun m k => m + field (256 * k + 159) (256 * k + 46)) 0
  else if cn = 0x7200_01 || cn = 0x8010_01 then field 127 66
  else if i = 0x8001 || 0xA100 ≤ i && i ≤ 0xA101 || i = 0x8071 then 2 ^ 16 - 1
  else if cn = 0x8101_00 then field 253 220 + field 199 164
  else if cn = 0x8201_00 then field 253 226 + field 223 108
  else if cn = 0xC000_02 then field 125 64
  else if i = 0xC102 then field 127 66
  else if cn = 0xF001_00 then field 126 31
  else if i = 0x9001 || cn = 0xA200_01 then 2 ^ 64 - 1
  else 0

/-- `free` with the confined bits of `v` in it. -/
def confineTo (mask v free : Nat) : Nat := (free ||| mask) - mask + (v &&& mask)

end Sys2Proof.Machine
end

