-- ==== Sys2Proof/Machine/Commission.lean ====
section
/-! DEFINITION. Commissioning, and what a WRITE of an object does beside storing it (12 R265 to R267). -/

namespace Sys2Proof.Machine

/-! ### The owner (R267) -/

def ownedBy (s : State) (rq : Requester) : Bool :=
  match s.mgmt.owner with
  | some o => sameRequester o rq
  | none => false

/-- commission_owner (`1100.01`). -/
def ownerBits (rq : Requester) : Nat :=
  match rq.cls with
  | .shelf => 1 + rq.ident % 2 ^ 64 * 2 ^ 8 + rq.port % 2 ^ 16 * 2 ^ 72
  | .fm => 2 + rq.ident % 2 ^ 32 * 2 ^ 8 + rq.port % 256 * 2 ^ 40
  | _ => 3 + rq.ident % 2 ^ 32 * 2 ^ 8 + rq.port % 256 * 2 ^ 40

def takeOwner (s : State) (rq : Requester) : State :=
  set { s with mgmt.owner := some rq, mgmt.leaseOver := false } 0x1100_01 (ownerBits rq)

/-- Every access by the owner renews its lease. -/
def renewLease (s : State) (rq : Requester) : State :=
  if ownedBy s rq then { s with mgmt.leaseOver := false } else s

/-- R264 step 3. -/
def ownerRefuse (s : State) (rq : Requester) (o : Obj) (cn op value : Nat) : Bool :=
  commission s == 1 && op == itemWrite && rq.cls != .host && (o.access == .rwc || cn == 0x1100_00) &&
    !ownedBy s rq && !(cn == 0x1100_00 && value == 1 && s.mgmt.leaseOver)

/-! ### Table 12.5 -/

/-- The conditions on which an IN_SERVICE block may be commissioned again. -/
def blockIdle (s : State) : Bool :=
  !((liveRows s 3 windowCn).any fun e => winState e.2 == 1 || winState e.2 == 2) &&
    loansActive s == 0 && !((rowsOf s trayCn).any fun e => trState e.2 != 0) &&
    !((rowsOf s entryCn).any fun e => ceState e.2 != 0) && s.switch.trackers.isEmpty

/-- The sum of the five quotas (R19). -/
def quotaSum (s : State) : Nat := ((upFrom 0x8300_01 5).map fun c => get s c).sum

/-- The commit (R266): every RWC value written is in force from here on, the quotas with the counts that follow them
(R19, R148), and the counterpart is sent a snapshot (Table 15.1). -/
def commit (s : State) (path : Path) : State :=
  let old := ownEdition s
  let s := setCommission { s with mgmt.inForce := [] } 2 path
  let s := if ownEdition s = old then s else reportFreeByEdition s (ownId s) (ownEdition s)
  let s := { s with carrel.layout := (upFrom 0x8300_01 5).map fun c => get s c, mgmt.fromRetired := false }
  let s := releaseForeign s
  let s := set s 0x7001_00 (quota s 3 * 1024 / 48)
  let s := set s 0x8310_02 (ledgerCells s)
  let s := if ordinary (get s 0xB000_01) then setPairing s 1 else s
  sequencePower s

/-- A write of `1100.00` (Table 12.5) that R267 admits: the state and the status. -/
def writeCommission (s : State) (rq : Requester) (v : Nat) : State × Nat :=
  let enter (retired : Bool) : State :=
    takeOwner (setCommission { s with mgmt.fromRetired := retired } 1 rq.cls) rq
  match commission s, v with
  | 0, 1 => (enter false, stOk)
  | 1, 1 => (takeOwner s rq, stOk)
  | 1, 2 =>
    if !ordinary (get s 0x1001_00) || 64 < quotaSum s then (s, stMalformed)
    else if s.mgmt.fromRetired && !newer 8 (get s 0x1002_00) (get s 0x1100_03) then (s, stStale)
    else (commit s rq.cls, stOk)
  | 2, 1 => if blockIdle s then (enter false, stOk) else (s, stBusy)
  | 2, 2 => (s, stEmpty)
  | 1, 3 => (enterRetired s 0 rq.cls, stOk)
  | 2, 3 => (enterRetired s 0 rq.cls, stOk)
  | 3, 1 => (enter true, stOk)
  | 3, 3 => (s, stEmpty)
  | _, _ => (s, stMalformed)

/-! ### What a written value does -/

/-- A byte string as a number whose first byte is the most significant. -/
def numBE (bs : List Byte) : Nat := numLE bs.reverse

/-- The link-local address: fe80::/64 with the modified EUI-64 of shelf_mac (Table 12.9). -/
def shelfAddress (s : State) : Nat :=
  match bytesLE 6 (get s 0x1200_02) with
  | [a, b, c, d, e, f] => 0xFE80 * 2 ^ 112 + numBE [a ^^^ 2, b, c, 0xFF, 0xFE, d, e, f]
  | _ => 0

/-- ff02::1. -/
def allNodes : Nat := 0xFF02 * 2 ^ 112 + 1

/-- The solicited-node multicast address of the link-local address. -/
def solicitedNode (s : State) : Nat := 0xFF02 * 2 ^ 112 + 0x1_FF * 2 ^ 24 + shelfAddress s % 2 ^ 24

/-- The neighbour solicitation for the own address, ICMPv6 type 135, from the unspecified address: duplicate address
detection asks with it (log entry 12). -/
def solicitation (s : State) : List Byte :=
  icmpMessage 0 (solicitedNode s) 135 (bytesBE 4 0 ++ bytesBE 16 (shelfAddress s))

/-- shelf_enable: duplicate address detection runs when it is set (R274). -/
def shelfEnabled (s : State) (old : Nat) : State :=
  if get s 0x1200_01 = 0 then { s with mgmt.dad := false, mgmt.dadFailed := false }
  else if old = 0 then
    let s := { s with mgmt.dad := false, mgmt.dadFailed := false }
    let s := if shelfOn s then sendShelf s (solicitedNode s) 0 (solicitation s) else s
    { s with mgmt.dad := true }
  else s

/-- Row `row` of the object at `cn` has been written over `old`: what its home chapter has follow. -/
def rowWritten (s : State) (cn row old : Nat) : State :=
  let i := cn / 256
  let changed := getRow s cn row != old
  if 0x6100 ≤ i && i ≤ 0x6107 then queueConfigured s (i - 0x6100) row old
  else if i = 0x6200 then policerWritten s row
  else if 0x4100 ≤ i && i ≤ 0x4102 then mirrorRow s cn row
  else if i = 0x6404 then reviewLoans (mirrorValue s cn) (cn % 256 - 1)
  else if cn = 0xF001_00 then drainConfigured s old
  else if cn = 0x1200_01 then shelfEnabled s old
  else if cn = 0xB000_01 then if pairing s = 0 then s else setPairing s 0
  else if cn = 0x9001_01 then if changed then roleBegins s else s
  else if cn = 0x9001_02 then if changed then parentChanged s else s
  else if cn = 0x9100_01 then if changed then markModeChanged s else s
  else if cn = 0x4001_00 || i = 0xB000 || cn = 0x1100_02 then
    if (mirroredValues s).contains cn then mirrorValue s cn else s
  else if 0x2000 ≤ i && i ≤ 0x27FF && i % 256 = 0x50 then
    let p := i / 256 - 0x20
    if cn % 256 = 4 then widthWritten s p
    else if cn % 256 = 5 || cn % 256 = 6 then idleWritten s p
    else s
  else if 0x3000 ≤ i && i ≤ 0x37FF && i % 256 = 0x01 then tapsWritten s (i / 256 - 0x30) (cn % 256 - 1)
  else if 0x3000 ≤ i && i ≤ 0x37FF && i % 256 = 0x0A then patternWritten s (i / 256 - 0x30) (cn % 256 - 1)
  else s

/-- An RWC value written while COMMISSIONING leaves the one in force until the commit (R266). -/
def keepInForce (s : State) (o : Obj) (cn : Nat) : State :=
  if o.access = .rwc && commission s = 1 then holdInForce s cn else s

/-- Write rows in order, each whole (R170, R260). -/
def writeRows (o : Obj) (cn : Nat) : Nat → List Nat → State → State
  | _, [], s => s
  | row, v :: vs, s =>
    let old := getRow s cn row
    let s := keepInForce s o cn
    writeRows o cn (row + 1) vs (rowWritten (setRow s cn row (storedValue s.part o cn v)) cn row old)

/-! ### The home chapters' own checks (R264 step 5) -/

/-- A route row names no absent port and no reserved kind (R170). -/
def routeRefusal (s : State) (v : Nat) : Option Nat :=
  if fld v 15 14 = 3 then some stMalformed
  else if fld v 15 14 = 1 && portsOf s.part ≤ fld v 7 0 then some stUnsupported
  else none

/-- Units that global stop halts (R301, R302): their objects are not served during the stop. -/
def haltedObject (cn : Nat) : Bool :=
  let i := cn / 256
  let within (a b : Nat) : Bool := a ≤ i && i ≤ b
  within 0x5000 0x5201 || within 0x7000 0x74FF || i == 0x8001 || within 0x8040 0x8062 ||
    within 0x8070 0x8073 || within 0x8100 0x8311 || within 0xC000 0xC103 || within 0xD100 0xD102 ||
    within 0xD200 0xD202

/-- The status with which an object's own rule refuses a value, if it does. Of a group row only the slots in use name a
port (R170; log entry 76). -/
def homeRefusal (s : State) (cn v : Nat) : Option Nat :=
  let i := cn / 256
  if i = 0x4100 then routeRefusal s v
  else if i = 0x4101 then routeRefusal s v
  else if i = 0x4102 then
    if (upFrom 0 (fld v 63 60 + 1)).any fun n => portsOf s.part ≤ v / 8 ^ n % 8 then some stUnsupported else none
  else if cn = 0xE000_01 then if targetAllowed s v then none else some stBusy
  else if cn = 0x9100_01 then if stopped s then some stBusy else none
  else if cn = 0xC000_01 then if 2 ^ (1 + slicesOf s.part) ≤ v % 2 ^ 6 then some stUnsupported else none
  else none

end Sys2Proof.Machine
end

