-- ==== Sys2Proof/Machine/Commands.lean ====
section
/-! DEFINITION. Every CMD object and what invoking it does (12 R259, R260; each command's own rule). -/

namespace Sys2Proof.Machine

/-- The cells of a ledger_clear are cleared (R148). -/
def clearCells (s : State) (first n : Nat) : State := forEach (upFrom first n) (fun s c => writeCell s c 0) s

/-- What a waiting ledger_clear is found by: its first cell and its count. -/
def clearArg (first n : Nat) : Nat := first + 2 ^ 32 * n

/-- An access that waits for a slice or a row is for one of these cells. -/
def cellsAwaited (s : State) (first n : Nat) : Bool :=
  s.host.inner.any fun b =>
    match access? s b with
    | some x => (innerCells s x).any fun c => first ≤ c && c < first + n
    | none => false

/-- ledger_clear (R148). While a slice or a row of its cells is held, or an operation that came before waits for one, it
takes its place among the cells' operations (R15, R16, R22). -/
def ledgerClearOp (first n : Nat) (s : State) : State × CmdOut :=
  if n ≠ 0 && get s 0x8310_02 < first + n then (s, .done stUnsupported 0)
  else if n = 0 then (s, .done stEmpty 0)
  else if (upFrom first n).any (cellBusy s) || cellsAwaited s first n then
    ((innerAccess s (.ledgerClear first n) none [] 16).2, .waits)
  else (clearCells s first n, .done stOk 0)

/-- The turn of a waiting ledger_clear has come; one whose invocation is gone has no effect. -/
def performClear (s : State) (a first n : Nat) (x : Access) : State :=
  let s := closeAccess s a x
  if s.mgmt.running.any fun v => v.cn == 0x8311_00 && v.arg == clearArg first n then
    endInvocation (clearCells s first n) 0x8311_00 (clearArg first n) stOk 0
  else s

/-- The fields of a command's argument, as their sizes in bytes (R259). -/
def argSizes (cn : Nat) : List Nat :=
  match normCn cn with
  | 0x2010_03 => [1, 1]
  | 0x3010_01 => [1, 8]
  | 0x5102_00 | 0x5103_00 | 0x5104_00 => [4]
  | 0x5201_00 => [1]
  | 0x5301_00 => [4, 1]
  | 0x5302_00 => [4]
  | 0x6330_00 => [1]
  | 0x6403_00 | 0x6409_00 => [2]
  | 0x6408_00 => [2, 4, 4, 1, 2, 1, 2, 4, 4]
  | 0x7104_00 | 0x7105_00 => [4]
  | 0x7300_03 => [4, 1]
  | 0x8073_00 => [4]
  | 0x8102_00 | 0x8103_00 | 0x8202_00 | 0x8203_00 | 0x8205_00 => [4]
  | 0x8302_00 => [1]
  | 0x8311_00 => [4, 4]
  | 0x9001_06 => [8]
  | 0xA103_00 | 0xA104_00 | 0xA114_00 => [1]
  | 0xA112_00 | 0xA113_00 => [1, 2]
  | 0xA203_02 => [2]
  | 0xB020_00 => [4, 1, 1]
  | 0xC210_00 => [1, 4]
  | 0xD102_00 => [2]
  | 0xD200_00 => [4, 8]
  | 0xE102_03 => [1]
  | _ => []

/-- The argument cut into its fields. -/
def argFields : List Nat → List Byte → List Nat
  | [], _ => []
  | n :: ns, bs => numLE (bs.take n) :: argFields ns (bs.drop n)

/-- Every field lies in its range (R264 step 4); an instance beyond those present is R371's to refuse. -/
def argOk (cn : Nat) (xs : List Nat) : Bool :=
  let x (i : Nat) : Nat := nth 0 i xs
  match normCn cn with
  | 0x2010_03 => x 1 ≤ 1
  | 0x5301_00 | 0x5302_00 | 0x8073_00 | 0xB020_00 => x 0 < 2 ^ 22
  | 0xA112_00 | 0xA113_00 => x 1 < 4096
  | _ => true

/-- The staged bytes a command uses, which its digest covers (R339). -/
def stagedBytes (s : State) (cn : Nat) : List Byte :=
  match cn with
  | 0x5102_00 | 0x5103_00 => bytesLE 32 (get s 0x5101_00)
  | 0x6402_00 | 0x6407_00 => bytesLE 32 (get s 0x6401_00)
  | 0x7104_00 =>
    bytesLE 32 (get s 0x7101_00) ++ bytesLE (32 * (fld (get s 0x7101_00) 236 235 + 1)) (get s 0x7103_00)
  | 0x7200_02 => bytesLE 16 (get s 0x7200_01)
  | 0x8102_00 => bytesLE 32 (get s 0x8101_00)
  | 0x8202_00 => bytesLE 32 (get s 0x8201_00)
  | _ => []

/-- A command's own rule. -/
abbrev Op := State → State × CmdOut

/-- An invocation's own argument and what a later event finds it by, with its rule. -/
abbrev ArgOp := Nat × Op

/-- An invocation, as the rules of its command see it: who invokes it, its call number and its argument in
fields and in bytes. -/
structure Invoked where
  rq : Requester
  cn : Nat
  xs : List Nat
  bs : List Byte

/-- Field `i` of the argument. -/
def Invoked.x (v : Invoked) (i : Nat) : Nat := nth 0 i v.xs

/-- The rules of the commands of snapshots, stop, power and the counterpart. -/
def observeOp (v : Invoked) : ArgOp :=
  match normCn v.cn with
  | 0xB020_00 => (0, counterpartRestoreOp (v.x 0) (v.x 1) (v.x 2))
  | 0xC200_00 => (0, globalStopOp)
  | 0xC210_00 => (0, scanReadOp (v.x 0) (v.x 1))
  | 0xD102_00 => (0, odcClearOp (v.x 0))
  | 0xD200_00 => (0, snapshotTakeOp (v.x 0) (v.x 1))
  | 0xE000_06 => (0, powerFaultClearOp)
  | 0xE102_03 => (0, thermalAlarmClearOp (v.x 0))
  | 0xE102_04 => (0, thermalMaxClearOp)
  | _ => (0, fun s => (s, .done stUnsupported 0))

/-- The rules of the commands of time, partitions, gates and attention. -/
def recoveryOp (v : Invoked) : ArgOp :=
  match normCn v.cn with
  | 0x9001_06 => (0, timeSetOp (v.x 0))
  | 0xA103_00 => (v.x 0, partitionResetOp (v.x 0))
  | 0xA104_00 => (v.x 0, partitionReadyOp (v.x 0))
  | 0xA112_00 => (v.x 0, gateAdmitOp (v.x 0) (v.x 1))
  | 0xA113_00 => (v.x 0, gateClearOp (v.x 0) (v.x 1))
  | 0xA114_00 => (v.x 0, gateOpenOp (v.x 0))
  | 0xA115_00 => (0, contextListClearOp)
  | 0xA203_02 => (0, faultAttentionClearOp (v.x 0))
  | _ => observeOp v

/-- The rules of the commands of host side, slips, rings and the ledger. -/
def engineOp (v : Invoked) : ArgOp :=
  match normCn v.cn with
  | 0x8010_02 => (0, firmwareLoadReads)
  | 0x8073_00 => (v.x 0, fenceLostMarkOp (v.x 0))
  | 0x8102_00 => (v.x 0, trayEnable (v.x 0))
  | 0x8103_00 => (v.x 0, trayDisable (v.x 0))
  | 0x8202_00 => (v.x 0, ringEnable (v.x 0))
  | 0x8203_00 => (v.x 0, ringDisable (v.x 0))
  | 0x8205_00 => (v.x 0, ringAttentionClear (v.x 0))
  | 0x8302_00 => (0, tenantChangeOp (v.x 0))
  | 0x8311_00 => (clearArg (v.x 0) (v.x 1), ledgerClearOp (v.x 0) (v.x 1))
  | _ => recoveryOp v

/-- The rules of the commands of the Collator. -/
def collatorOp (v : Invoked) : ArgOp :=
  match normCn v.cn with
  | 0x7104_00 => (v.x 0, collectiveOpenOp (v.x 0))
  | 0x7105_00 => (v.x 0, collectiveStartOp (v.x 0))
  | 0x7200_02 => (0, programLoadReads)
  | 0x7300_03 => (v.x 0, collectiveAbortOp v.rq (v.x 0))
  | 0x7401_00 => (0, sliceSelfTestOp)
  | _ => engineOp v

/-- The rules of the commands of windows, editions, routes and loans. -/
def fabricOp (s : State) (v : Invoked) : ArgOp :=
  match normCn v.cn with
  | 0x5102_00 => (v.x 0, windowOpen (v.x 0))
  | 0x5103_00 => (modifyArg (v.x 0) (epochOf s (v.x 0)), windowModify (v.x 0))
  | 0x5104_00 => (v.x 0, windowClose (v.x 0))
  | 0x5201_00 => (v.x 0, partitionRaiseOp (v.x 0))
  | 0x5301_00 => (v.x 0, exceptionSet (v.x 0) (v.x 1))
  | 0x5302_00 => (v.x 0, exceptionClear (v.x 0))
  | 0x6330_00 => (v.x 0, sampleClearOp (v.x 0))
  | 0x6402_00 => (0, loanSet)
  | 0x6403_00 => (v.x 0, loanClose (v.x 0))
  | 0x6407_00 => (fld (get s 0x6401_00) 239 228, loanOpenOp)
  | 0x6408_00 => (v.x 0, loanHopOpenOp v.rq.port (hopArgOf v.bs))
  | 0x6409_00 => (v.x 0, loanHopCloseOp (v.x 0))
  | _ => collatorOp v

/-- The rules of the commands of ports and lanes. -/
def linkOp (s : State) (v : Invoked) : ArgOp :=
  match normCn v.cn with
  | 0x2000_04 => (0, portRetrainOp (v.cn / 0x1_0000 % 16))
  | 0x2010_03 => (0, laneChangeOp (v.cn / 0x1_0000 % 16) (v.x 0) (v.x 1 == 1))
  | 0x3010_01 => (0, laneTestOp (v.cn / 0x1_0000 % 16) (v.cn % 256 - 1) (v.x 0) (v.x 1))
  | _ => fabricOp s v

/-- What invoking the command at `cn` with the fields `xs` does, and what a later event finds a waiting
invocation by. `bs` is the argument itself. -/
def commandOp (s : State) (rq : Requester) (cn : Nat) (xs : List Nat) (bs : List Byte) : ArgOp :=
  linkOp s { rq := rq, cn := cn, xs := xs, bs := bs }

/-- Bytes of a command's result (R269, R304, R336). -/
def resultSize (cn : Nat) : Nat := if cn = 0xC210_00 || cn = 0xB020_00 then 4 else 0

/-- A command that must wait while the block is in global stop returns BUSY instead (R302). -/
def commandHalted (s : State) (cn : Nat) : Bool := stopped s && haltedObject cn

/-- Carry out an invocation with a rule given (R259, R260, R302). -/
def runCommand (s : State) (rq : Requester) (cn arg : Nat) (bs : List Byte) (op : Op) : State × CmdOut :=
  if commandHalted s cn then (cmdDone s cn stBusy 0 0 rq, .done stBusy 0)
  else invoke cn arg (digestOf (bs ++ stagedBytes s cn)) rq op s

end Sys2Proof.Machine
end

