-- ==== Sys2Proof/Machine/Catalogue.lean ====
section
/-! DEFINITION. Carrying out one Catalogue access (12 R258 to R264, R267 to R269; 17 R368; 15 R339, R340),
and the commands that reach the block as a single access. -/

namespace Sys2Proof.Machine

/-- How an item ends: with a status and data; waiting for its invocation; or waiting for the log's queue
(R340). -/
inductive ItemOut where
  | done (status : Nat) (data : List Byte)
  | waits
  | held
  deriving DecidableEq, Repr

/-- How the checks of R264 end an item: it is refused with a status; or it is the host's and what it carries,
which they do not check, makes its result unpredictable (R8, R12). -/
inductive CheckEnd where
  | refused (status : Nat)
  | unpredictable (o : Obj)
  deriving DecidableEq, Repr

def Item.cn (i : Item) : Nat := i.index * 256 + i.sub

/-- An access refused RIGHTS is counted, and recorded at most once per requester per 1 ms (`1110.01`,
Table 15.7). -/
def refuseRights (s : State) (rq : Requester) (i : Item) : State :=
  let s := if rq.cls = .host then s else count64 s 0x1110_01
  let recent := s.mgmt.refusals.any fun e => e.1 == rq && subMod 64 (now s) e.2 < 256_000_000
  if recent then s
  else
    logRequested
      { s with mgmt.refusals := (s.mgmt.refusals.filter fun e => e.1 != rq) ++ [(rq, now s)] } 0x11 stRights rq
      (configDetail i.cn i.op i.row i.countM1 (digestOf i.data) rq)

/-- The 16 bytes a NEXT answers for an object (R269, R368). -/
def nextBytes (o : Obj) (cn : Nat) : List Byte :=
  let rows : Nat := match o.type with
    | .table r _ => r
    | _ => 0
  bytesLE 2 (cn / 256) ++ bytesLE 1 (cn % 256) ++ bytesLE 1 o.type.code ++ bytesLE 1 o.access.code ++ bytesLE 1 0 ++
    bytesLE 2 o.type.bytes ++ bytesLE 4 rows ++ bytesLE 4 0

/-- The object a NEXT names has no such row (R264 step 1); an object that is not there may be named all the same (R269). -/
def nextBeyond (s : State) (i : Item) : Bool :=
  match findObj s.part i.cn with
  | some o => o.type.rows != 1 && decide (o.type.rows < i.row + i.countM1 + 1)
  | none => false

/-- The object a NEXT names is no TABLE, and the row fields are not 0 (R264 step 4). -/
def nextForm (s : State) (i : Item) : Bool :=
  match findObj s.part i.cn with
  | some o => o.type.rows == 1 && (i.row != 0 || i.countM1 != 0)
  | none => false

/-- NEXT, with the checks of R264: granted as a read of what it describes; the classes that read everything walk every
object. -/
def carryNext (s : State) (rq : Requester) (i : Item) : State × ItemOut :=
  if nextBeyond s i then (s, .done stUnsupported [])
  else if rq.cls = .endpoint || rq.cls = .block then (refuseRights s rq i, .done stRights [])
  else if nextForm s i then (s, .done stMalformed [])
  else
    match nextObj s.part i.cn with
    | none => (count64 s 0x1110_03, .done stEmpty [])
    | some c =>
      match findObj s.part c with
      | none => (s, .done stUnsupported [])
      | some o =>
        if !mayRead rq.cls c then (refuseRights s rq i, .done stRights [])
        else (count64 s 0x1110_03, .done stOk (nextBytes o c))

/-- Data of a READ. -/
def readBytes (s : State) (o : Obj) (i : Item) : List Byte :=
  (upFrom i.row (i.countM1 + 1)).flatMap fun r => bytesLE o.type.bytes (readRow s i.cn r)

/-- The values a WRITE carries, one for each row. -/
def itemValues (o : Obj) (i : Item) : List Nat := rowValues o.type.bytes (i.countM1 + 1) i.data

/-- Form of an item (R264 step 4, for every class): row fields, operation, and length of data. -/
def formRefuses (o : Obj) (rq : Requester) (i : Item) : Bool :=
  (o.type.rows == 1 && (i.row != 0 || i.countM1 != 0)) || unsuited o i.op ||
    (i.op == itemWrite && i.data.length != o.type.bytes * (i.countM1 + 1)) ||
    (i.op == itemInvoke &&
      (64 < i.data.length || i.data.length < (argSizes i.cn).sum ||
        (rq.cls != .host && i.data.length != (argSizes i.cn).sum)))

/-- Some row's value satisfies `p`. -/
def anyRow (p : Nat → Nat → Bool) : Nat → List Nat → Bool
  | _, [] => false
  | r, v :: vs => p r v || anyRow p (r + 1) vs

/-- The WRITE's record would find the log's queue full (R340). -/
def logFull (s : State) (cn : Nat) : Bool := !unrecorded cn && decide (logPlaces ≤ s.log.queue.length)

/-- Carry out a WRITE of the rows `vs` that every check has passed. -/
def carryWrite (s : State) (rq : Requester) (o : Obj) (i : Item) (vs : List Nat) : State × ItemOut :=
  let cn := i.cn
  let v := nth 0 0 vs
  let recorded (s : State) (status : Nat) : State :=
    let s := count64 s 0x1110_03
    if unrecorded cn then s
    else logAccess s 0x10 status rq (configDetail cn itemWrite i.row i.countM1 (digestOf i.data) rq)
  if stopped s && haltedObject cn then (s, .done stBusy [])
  else if logFull s cn then (s, .held)
  else if cn = 0x1100_00 then
    let waits := commission s = 1 && pairing s = 2
    match writeCommission s rq v with
    | (t, status) =>
      if status = stOk || status = stEmpty then
        if waits && v = 2 then
          (recorded { t with mirror.commitWait := some { msg := 0, record := none, seq := none } } status, .waits)
        else (recorded t status, .done status [])
      else (t, .done status [])
  else
    match vs.filterMap (homeRefusal s cn) with
    | status :: _ => (if cn = 0xE000_01 then powerFault s else s, .done status [])
    | [] =>
      if cn = 0xE000_01 then (recorded (targetWritten s v) stOk, .done stOk [])
      else (recorded (writeRows o cn i.row vs s) stOk, .done stOk [])

/-- Carry out an INVOKE that every check has passed, with the rule `op` found by `arg`. A command's own rule may still
refuse it for want of rights, which counts like any such refusal (`1110.01`). -/
def carryInvoke (s : State) (rq : Requester) (i : Item) (arg : Nat) (op : Op) : State × ItemOut :=
  if logFull s i.cn then (s, .held)
  else
    match runCommand s rq i.cn arg i.data op with
    | (t, .waits) => (count64 t 0x1110_03, .waits)
    | (t, .done status result) =>
      let ok := status = stOk || status = stEmpty
      (if ok then count64 t 0x1110_03 else if status = stRights then refuseRights t rq i else t,
        .done status (if ok then bytesLE (resultSize i.cn) result else []))

/-- The checks of R264 that end an item early, in its order: the object, or how the item ends. -/
def itemChecks (s : State) (rq : Requester) (i : Item) : Except CheckEnd Obj :=
  match findObj s.part i.cn with
  | none => .error (.refused stUnsupported)
  | some o =>
    if o.type.rows != 1 && o.type.rows < i.row + i.countM1 + 1 then .error (.refused stUnsupported)
    else if rightsRefuse s rq o i.cn i.op then .error (.refused stRights)
    else if ownerRefuse s rq o i.cn i.op (nth 0 0 (itemValues o i)) then .error (.refused stBusy)
    else if formRefuses o rq i then .error (.refused stMalformed)
    else if i.op = itemWrite then
      let vs := itemValues o i
      if rq.cls = .host then
        if anyRow (hostWrong s o i.cn) i.row vs then .error (.unpredictable o) else .ok o
      else if anyRow (fun r v => !valueOk s o i.cn r v) i.row vs then .error (.refused stMalformed)
      else .ok o
    else if i.op = itemInvoke && !argOk i.cn (argFields (argSizes i.cn) i.data) then
      .error (if rq.cls = .host then .unpredictable o else .refused stMalformed)
    else .ok o

/-- The rows a host WRITE stores: a row that breaks the host's duty is a free value but for its confined bits (R8, R12;
log entry 51). -/
def hostRows (o : Obj) (cn : Nat) : Nat → List Nat → State → List Nat × State
  | _, [], s => ([], s)
  | row, v :: vs, s =>
    let (v, s) :=
      if hostWrong s o cn row v then
        let (w, s) := freeValue s (8 * o.type.bytes)
        (confineTo (confined cn) v w, s)
      else (v, s)
    let (vs, s) := hostRows o cn (row + 1) vs s
    (v :: vs, s)

/-- A host's WRITE or INVOKE with an unpredictable result (R8, R12; log entry 51): the WRITE is carried out with
free values in place of the wrong ones; the command does nothing and returns a free status and result. -/
def carryUnpredictable (s : State) (rq : Requester) (o : Obj) (i : Item) : State × ItemOut :=
  if i.op = itemWrite then
    let (vs, s) := hostRows o i.cn i.row (itemValues o i) s
    carryWrite s rq o i vs
  else
    let (status, s) := freeStatus s
    let (result, s) := freeValue s (8 * resultSize i.cn)
    (cmdDone s i.cn status result (digestOf i.data) rq, .done status (bytesLE (resultSize i.cn) result))

/-- One item, with the rule of a command given (`arg`, `op`). -/
def carryWith (s : State) (rq : Requester) (i : Item) (arg : Nat) (op : Op) : State × ItemOut :=
  let s := renewLease s rq
  if i.op = itemNext then carryNext s rq i
  else
    match itemChecks s rq i with
    | .error (.refused status) => (if status = stRights then refuseRights s rq i else s, .done status [])
    | .error (.unpredictable o) => carryUnpredictable s rq o i
    | .ok o =>
      if i.op = itemRead then
        if stopped s && haltedObject i.cn then (s, .done stBusy [])
        else (count64 s 0x1110_03, .done stOk (readBytes s o i))
      else if i.op = itemWrite then carryWrite s rq o i (itemValues o i)
      else carryInvoke s rq i arg op

/-- One item (R264, R269). -/
def carryItem (s : State) (rq : Requester) (i : Item) : State × ItemOut :=
  let (arg, op) := commandOp s rq i.cn (argFields (argSizes i.cn) i.data) i.data
  carryWith s rq i arg op

/-! ### Accesses that are no message -/

/-- The management core answers this requester about this object: its image runs (R358), or it is the host
and the object is in the boot set; not in reset nor during a restart (R312, R349). The host's accesses come by
the engine-side ports, whose domain must be on (R348). -/
def serves (s : State) (rq : Requester) (cn : Nat) : Bool :=
  let i := cn / 256
  let within (a b : Nat) : Bool := a ≤ i && i ≤ b
  !held s && !s.recovery.restarting && (rq.cls != .host || domainOn s 3) &&
    (get s 0x8010_03 == 2 ||
      (rq.cls == .host &&
        (within 0x1000 0x10FF || within 0x8000 0x802F || within 0xA000 0xA001 || i == 0xD000 ||
          within 0xE000 0xE1FF || within 0xF000 0xF0FF)))

/-- A host write that is ignored is counted (`1110.02`): one that R263 or its class forbids, and an
invocation while the host's last one of the command runs (R276). -/
def hostRefused (s : State) (rq : Requester) (out : ItemOut) : State :=
  match out with
  | .done status _ => if rq.cls = .host && status = stRights then count64 s 0x1110_02 else s
  | _ => s

/-- The host's last invocation of a command is still RUNNING (R276). -/
def hostRunning (s : State) (rq : Requester) (cn : Nat) : Bool :=
  let last (v : Invocation) : Bool := v.cn == cn && v.rq.cls == .host
  rq.cls == .host && (s.mgmt.running.any last || s.mgmt.ended.any fun e => last e.1)

/-- An access that gets no answer. During a restart a host write is counted (R312). -/
def unserved (s : State) (rq : Requester) (op : Nat) : State :=
  if s.recovery.restarting && !held s && rq.cls = .host && (op = itemWrite || op = itemInvoke) then
    count64 s 0x1110_02
  else s

/-- How a single access ends (R340). -/
def accessEnds (rq : Requester) (i : Item) (r : State × ItemOut) : Out :=
  match r with
  | (t, .held) => .next { t with mgmt.waiting := t.mgmt.waiting ++ [.item rq i] }
  | (t, out) => .next (hostRefused t rq out)

/-- A single access: it waits behind accesses that wait for the log's queue (R340). -/
def accessWith (s : State) (rq : Requester) (i : Item) (arg : Nat) (op : Op) : Out :=
  if !serves s rq i.cn then .next (unserved s rq i.op)
  else if !s.mgmt.waiting.isEmpty then .next { s with mgmt.waiting := s.mgmt.waiting ++ [.item rq i] }
  else if i.op = itemInvoke && hostRunning s rq i.cn then .next (count64 s 0x1110_02)
  else accessEnds rq i (carryWith s rq i arg op)

/-- A single access whose command's rule follows from its argument. -/
def accessItem (s : State) (rq : Requester) (i : Item) : Out :=
  let (arg, op) := commandOp s rq i.cn (argFields (argSizes i.cn) i.data) i.data
  accessWith s rq i arg op

/-- The item of a WRITE of one row. -/
def writeItem (s : State) (cn row v : Nat) : Item :=
  let width := match findObj s.part cn with
    | some o => o.type.bytes
    | none => 0
  { index := cn / 256, sub := cn % 256, op := itemWrite, row := row, countM1 := 0, data := bytesLE width v }

/-- A WRITE of one row, or of an object that is no TABLE, as a single access. -/
def writeAccess (s : State) (rq : Requester) (cn row v : Nat) : Out :=
  accessWith s rq (writeItem s cn row v) 0 fun s => (s, .done stUnsupported 0)

/-- An argument laid out from its fields (R259). -/
def argBytes : List Nat → List Nat → List Byte
  | n :: ns, x :: xs => bytesLE n x ++ argBytes ns xs
  | _, _ => []

/-- The item of an INVOKE with the fields `xs`. -/
def invokeItem (cn : Nat) (xs : List Nat) : Item :=
  { index := cn / 256, sub := cn % 256, op := itemInvoke, row := 0, countM1 := 0, data := argBytes (argSizes cn) xs }

/-- An INVOKE as a single access, with its command's rule. -/
def commandAccess (s : State) (rq : Requester) (cn : Nat) (xs : List Nat) (arg : Nat) (op : Op) : Out :=
  accessWith s rq (invokeItem cn xs) arg op

/-! ### The host window's slots (R10, R276) -/

/-- The requester of the host window. -/
def hostRq : Requester := { cls := .host, ident := 0, port := 0 }

/-- The call number of a window offset (R10). -/
def slotCn (offset : Nat) : Nat := offset / 4096 % 65536 * 256 + offset / 16 % 256

/-- The 16 bytes of a slot as they stand now. -/
def slotBytes (s : State) (cn : Nat) : List Byte :=
  match findObj s.part cn with
  | none => List.replicate 16 0
  | some o =>
    match o.type with
    | .table rows width => bytesLE 4 rows ++ bytesLE 2 width ++ List.replicate 10 0
    | t => bytesLE 16 (readRow s cn 0 % 2 ^ (8 * t.bytes))

/-- Answer the host's read of `len` bytes of one slot at `offset`. The 16 bytes of a halted unit's object
(R302), or of a slot whose byte 0 has not been read, no rule gives. -/
def slotRead (s : State) (offset len : Nat) : State :=
  let cn := slotCn offset
  let first := offset % 16
  let give (s : State) (bs : List Byte) : State :=
    { s with mgmt.slotReads := s.mgmt.slotReads ++ [{ offset := offset, bytes := (bs.drop first).take len }] }
  if held s then s
  else if s.recovery.restarting then give s (List.replicate 16 0xFF)
  else if !serves s hostRq cn then give s (List.replicate 16 0)
  else if first = 0 then
    let (bs, s) := if stopped s && haltedObject cn then freeBytes s 16 else (slotBytes s cn, s)
    give { s with mgmt.snaps := insertT s.mgmt.snaps cn (numLE bs) } bs
  else
    match lookupT s.mgmt.snaps cn with
    | some v => give s (bytesLE 16 v)
    | none =>
      let (bs, s) := freeBytes s 16
      give s bs

/-- A read of one slot: an access like others, which waits behind accesses that wait for the log's queue (R260, R340). -/
def slotAccess (s : State) (offset len : Nat) : State :=
  if !s.mgmt.waiting.isEmpty && serves s hostRq (slotCn offset) then
    { s with mgmt.waiting := s.mgmt.waiting ++ [.slot offset len] }
  else slotRead s offset len

end Sys2Proof.Machine
end

