-- ==== Sys2Proof/Machine/Frames.lean ====
section
/-! DEFINITION. Ethernet frames on the MII and the subset of IEEE 802.3 and IPv6 that Shelf net supports (12 R272 to R274,
Table 12.9). -/

namespace Sys2Proof.Machine

/-! ### The bytes of a frame -/

/-- The IPv6 header between `src` and `dst`. -/
def ipHeader (f : MacFrame) (src dst : Nat) : List Byte :=
  bytesBE 4 f.ipWord ++ bytesBE 2 f.payloadLength ++ bytesBE 1 f.nextHeader ++ bytesBE 1 f.hopLimit ++
    bytesBE 16 src ++ bytesBE 16 dst

/-- A frame's bytes before its frame check sequence. -/
def frameBytes (f : MacFrame) (src dst : Nat) (payload : List Byte) : List Byte :=
  bytesBE 6 f.destMac ++ bytesBE 6 f.srcMac ++ bytesBE 2 f.etherType ++ ipHeader f src dst ++ payload ++ f.padding

/-- A UDP datagram with its header. -/
def udpBytes (d : Datagram) (sport : Nat) : List Byte :=
  bytesBE 2 sport ++ bytesBE 2 d.port ++ bytesBE 2 d.length ++ bytesBE 2 d.frame.checksum ++ d.bytes

/-- A neighbour message of ICMPv6 type `type`. -/
def neighbourBytes (t : FramedTarget) (type : Nat) : List Byte :=
  bytesBE 1 type ++ bytesBE 1 0 ++ bytesBE 2 t.frame.checksum ++ bytesBE 4 t.flags ++ bytesBE 16 t.addr ++ t.options

/-- An echo request: ICMPv6 type 128. -/
def echoBytes (e : FramedEcho) : List Byte := bytesBE 1 128 ++ bytesBE 1 0 ++ bytesBE 2 e.frame.checksum ++ e.bytes

/-! ### Table 12.9 -/

/-- The block's own addresses. -/
def ownAddress (s : State) (a : Nat) : Bool := a == shelfAddress s || a == allNodes || a == solicitedNode s

/-- A frame from `src` to `dst` with payload `payload` of protocol `proto` lies in the subset: EtherType IPv6 (a VLAN tag
is another), 64 to 1,518 bytes, its FCS right, no extension header and no fragment (its next header is the protocol
itself), its length and checksum right, and to one of the block's addresses. -/
def inSubset (s : State) (f : MacFrame) (src dst proto : Nat) (payload : List Byte) : Bool :=
  let bs := frameBytes f src dst payload
  f.etherType == 0x86DD && 60 ≤ bs.length && bs.length ≤ 1514 && frameCheck bs == f.fcs && f.ipWord / 2 ^ 28 == 6 &&
    f.nextHeader == proto && f.payloadLength == payload.length && onesSum src dst proto payload == 65535 &&
    ownAddress s dst

/-- A datagram lies in the subset: to shelf_udp_port, with a checksum. -/
def datagramFits (s : State) (d : Datagram) (src sport dst : Nat) : Bool :=
  inSubset s d.frame src dst 17 (udpBytes d sport) && d.length == (udpBytes d sport).length && d.frame.checksum != 0 &&
    d.port == get s 0x1200_03

/-- A neighbour message lies in the subset: about the own address, with hop limit 255. -/
def neighbourFits (s : State) (t : FramedTarget) (type src dst : Nat) : Bool :=
  inSubset s t.frame src dst 58 (neighbourBytes t type) && t.frame.hopLimit == 255 && t.addr == shelfAddress s

/-- An echo request lies in the subset. -/
def echoFits (s : State) (e : FramedEcho) (src dst : Nat) : Bool := inSubset s e.frame src dst 58 (echoBytes e)

end Sys2Proof.Machine
end

