-- ==== Sys2Proof/Machine/Messages.lean ====
section
/-! DEFINITION. Messages over Shelf net, in-band and the host's long access, and the Shelf net itself (12 R268
to R277). An IPv6 address is a number whose most significant byte is the address's first. -/

namespace Sys2Proof.Machine

/-- Bytes of data an item's response carries when it is OK (R269). -/
def responseSize (s : State) (i : Item) : Nat :=
  if i.op = itemNext then 16
  else if i.op = itemInvoke then resultSize i.cn
  else if i.op = itemRead then
    match findObj s.part i.cn with
    | some o => o.type.bytes * (i.countM1 + 1)
    | none => 0
  else 0

/-- A response would overrun an item's or the path's limit (R268, R270). -/
def overruns (s : State) (limit : Nat) (items : List Item) : Bool :=
  let sizes := items.map (responseSize s)
  sizes.any (fun n => decide (4080 < n)) || decide (limit < 16 + (sizes.map fun n => 16 + (n + 15) / 16 * 16).sum)

/-- The items of a REQUEST that R270 lets in. -/
def requestItems (s : State) (limit : Nat) (m : Message) (received : Nat) : Option (List Item) :=
  if m.version ≠ 1 || m.type ≠ 1 || m.count = 0 || 64 < m.count || m.length ≠ received || limit < received ||
      m.length % 16 ≠ 0 then none
  else
    match itemsOf m.count m.body with
    | some items => if overruns s limit items then none else some items
    | none => none

/-! ### Responses (R269, R270) -/

/-- An item of a response. -/
def itemBytes (d : ItemDone) : List Byte :=
  let i := d.item
  let pad := (d.data.length + 15) / 16 * 16 - d.data.length
  bytesLE 16 (itemHeader i.cn i.op i.row i.countM1 d.data.length d.status) ++ d.data ++ List.replicate pad 0

/-- A message of this block. -/
def messageBytes (type status number : Nat) (items : List ItemDone) : List Byte :=
  let body := items.flatMap itemBytes
  bytesLE 16 (messageHeader type status items.length number (16 + body.length)) ++ body

def failed (d : ItemDone) : Bool := d.status != stOk && d.status != stEmpty

/-- The status of a response: that of its first failed item (R269). -/
def overallStatus (items : List ItemDone) : Nat :=
  match items.find? failed with
  | some d => d.status
  | none => stOk

/-- Answer on Shelf net, when the MAC may transmit (R274). -/
def shelfAnswer (s : State) (addr udp : Nat) (bs : List Byte) : State :=
  if shelfOn s then sendShelf s addr udp bs else s

/-- The MGMT_RSP that carries a message (R275, R57). -/
def mgmtRsp (s : State) (p : Nat) (k : Packet) (bs : List Byte) : State :=
  let data := padSlots bs
  sendResponse s p (respond s p k opMgmtRsp 0 (data.length % 256) 15 false data)

/-- Write the outcome of the host's long access (R277). -/
def longDone (s : State) (status : Nat) (data : List Byte) : State :=
  let s := forEach (upFrom 0 ((data.length + 15) / 16))
    (fun s k => set s (0x11F1_00 + k) (numLE ((data.drop (16 * k)).take 16))) s
  set { s with mgmt.longMsg := 0 } 0x11F0_01 (2 + status * 256 + data.length * 2 ^ 16)

/-- Send a RESPONSE to where its REQUEST came from. -/
def answer (s : State) (rq : Requester) (via : Option (Nat × Packet)) (number status : Nat) (items : List ItemDone) :
    State :=
  match rq.cls, via with
  | .host, _ =>
    match items with
    | d :: _ => longDone s d.status d.data
    | [] => longDone s status []
  | .shelf, _ => shelfAnswer s rq.ident rq.port (messageBytes 2 status number items)
  | _, some (p, k) => mgmtRsp s p k (messageBytes 2 status number items)
  | _, none => s

/-! ### Clients (R271) -/

def clientPlaces : Nat := 64

def clientOf (s : State) (rq : Requester) : Option Client := s.mgmt.clients.find? fun c => sameRequester c.rq rq

/-- A new request of a client is recorded; its 16 latest are kept. -/
def openRecord (s : State) (rq : Requester) (number : Nat) : State :=
  let rec' : ClientRecord := { number := number, running := true, items := [], skipped := [] }
  updClient s rq fun c =>
    let rs := (c.records.filter fun r => r.number != number) ++ [rec']
    { c with records := rs.drop (rs.length - 16) }

/-- An item that was not carried out (R269). -/
def abortedItem (i : Item) : ItemDone := { item := i, status := stAborted, data := [] }

/-- A message is over: its record closes and its response goes. -/
def endMessage (s : State) (m : MsgRun) : State :=
  let items := m.done ++ m.todo.map abortedItem
  answer (closeRecord s m) m.rq m.via m.number (overallStatus items) items

/-- The message waits for the invocation or the commit its first item began (R269, R335). -/
def messageWaits (s : State) (m : MsgRun) (i : Item) : State :=
  let s := { s with mgmt.msgs := s.mgmt.msgs ++ [m] }
  if i.op = itemWrite then
    { s with mirror.commitWait := s.mirror.commitWait.map fun c => { c with msg := m.id } }
  else
    { s with mgmt.running := modifyNth (fun v => { v with msg := m.id }) (s.mgmt.running.length - 1) s.mgmt.running }

/-- Carry out the items of a message in order, as far as they go (R269); no other access waits ahead of it. -/
def runItems : List Item → State → MsgRun → State
  | [], s, m => endMessage s { m with todo := [] }
  | i :: is, s, m =>
    if m.done.any failed then endMessage s { m with todo := i :: is }
    else
      match carryItem s m.rq i with
      | (t, .done status data) => runItems is t { m with done := m.done ++ [{ item := i, status := status, data := data }] }
      | (t, .waits) => messageWaits t { m with todo := i :: is } i
      | (t, .held) => { t with mgmt.waiting := .message { m with todo := i :: is } :: t.mgmt.waiting }

/-- Begin a message; it waits behind accesses that wait for the log's queue (R340). -/
def startMessage (s : State) (rq : Requester) (via : Option (Nat × Packet)) (number : Nat) (items : List Item) : State :=
  let m : MsgRun := { id := s.mgmt.nextMsg, rq := rq, via := via, number := number, todo := items, done := [] }
  let s := { s with mgmt.nextMsg := s.mgmt.nextMsg + 1 }
  if s.mgmt.waiting.isEmpty then runItems items s m
  else { s with mgmt.waiting := s.mgmt.waiting ++ [.message m] }

/-- The invocation or commit a message waits for has ended: the message goes on. -/
def resumeMessage (s : State) (id status result : Nat) : State :=
  match s.mgmt.msgs.find? fun m => m.id == id with
  | none => s
  | some m =>
    let s := { s with mgmt.msgs := s.mgmt.msgs.filter fun x => x.id != id }
    match m.todo with
    | [] => endMessage s m
    | i :: is =>
      let ok := status = stOk || status = stEmpty
      let d : ItemDone :=
        { item := i, status := status,
          data := if ok && i.op = itemInvoke then bytesLE (resultSize i.cn) result else [] }
      let m := { m with done := m.done ++ [d] }
      if s.mgmt.waiting.isEmpty then runItems is s m
      else { s with mgmt.waiting := s.mgmt.waiting ++ [.message { m with todo := is }] }

/-- Items of a rebuilt response (R271): reads afresh, writes and invocations from the record. -/
def rebuild (rq : Requester) : List ItemDone → State → State × List ItemDone
  | [], s => (s, [])
  | d :: ds, s =>
    let (s, e) : State × ItemDone :=
      if d.item.op = itemRead || d.item.op = itemNext then
        match carryItem s rq d.item with
        | (t, .done status data) => (t, { item := d.item, status := status, data := data })
        | (t, _) => (t, d)
      else (s, d)
    let (s, es) := rebuild rq ds s
    (s, e :: es)

/-- A REQUEST that R270 lets in meets the client table (R271). -/
def clientRequest (s : State) (rq : Requester) (via : Option (Nat × Packet)) (number : Nat) (items : List Item) : State :=
  match clientOf s rq with
  | none =>
    if clientPlaces ≤ s.mgmt.clients.length then answer (count64 s 0x1210_05) rq via number stBusy []
    else
      startMessage (openRecord { s with mgmt.clients := s.mgmt.clients ++ [{ rq := rq, records := [] }] } rq number)
        rq via number items
  | some c =>
    match c.records.find? fun r => r.number == number with
    | none => startMessage (openRecord s rq number) rq via number items
    | some r =>
      let s := count64 s 0x1210_04
      if r.running then s
      else
        let (s, done) := rebuild rq r.items s
        let all := done ++ r.skipped.map abortedItem
        answer s rq via number (overallStatus all) all

/-! ### In-band (R275) -/

/-- The management core takes accesses of the fabric (R312, R358). -/
def servesFabric (s : State) : Bool := firmwareRuns s && !held s

/-- A commissioning write from a source that R71 does not name: no service identifier of the fabric manager, and no
port-local source whose rights allow it. -/
def strayCommission (s : State) (rq : Requester) (items : List Item) : Bool :=
  (items.any fun i => i.op == itemWrite && i.cn == 0x1100_00) &&
    !(0x3FFF00 ≤ rq.ident && rq.ident ≤ 0x3FFFEF) && !(portLocal rq.ident && mayChange s rq 0x1100_00)

/-- An MGMT_REQ that has passed R63. It draws no answer while the image does not run. -/
def mgmtRequest (s : State) (p : Nat) (k : Packet) : State :=
  if !servesFabric s then s
  else
    let bs := dataBytes k
    let m := messageOf bs
    match requestItems s 4096 m bs.length with
    | none => mgmtRsp s p k (messageBytes 2 stMalformed m.number [])
    | some items =>
      let rq := requesterOf s p k
      if strayCommission s rq items then countPort s p 0x2080_01
      else clientRequest s rq (some (p, k)) m.number items

/-! ### Shelf net (R272 to R274) -/

def shelfMalformed (s : State) (addr udp number : Nat) : State :=
  shelfAnswer (count64 s 0x1210_03) addr udp (messageBytes 2 stMalformed number [])

/-- The items of a DISCOVER_RSP (Table 12.8). -/
def discoverBytes (s : State) (number : Nat) : List Byte :=
  messageBytes 4 stOk number
    ([0x1000_01, 0x1000_02, 0x1000_03, 0x1001_00, 0x1002_00, 0x1100_00].map fun cn =>
      { item := { index := cn / 256, sub := cn % 256, op := itemRead, row := 0, countM1 := 0, data := [] },
        status := stOk,
        data := bytesLE (match findObj s.part cn with
          | some o => o.type.bytes
          | none => 0) (readRow s cn 0) })

/-- A DISCOVER: to the block's own address it is answered at once, to ff02::1 after its delay (R274). -/
def discovered (s : State) (addr udp : Nat) (unicast : Bool) (number : Nat) : State :=
  if unicast then shelfAnswer s addr udp (discoverBytes s number)
  else { s with mgmt.discovers := s.mgmt.discovers ++ [(addr, udp, number)] }

/-- The delay of the oldest waiting DISCOVER is over. -/
def discoverAnswers (s : State) : State :=
  match s.mgmt.discovers with
  | [] => s
  | (addr, udp, number) :: ds => shelfAnswer { s with mgmt.discovers := ds } addr udp (discoverBytes s number)

/-- A frame arrives on the MII. With no image running Shelf net is silent (R358), and a restart gives no answer (R312);
RX_ER discards the frame (R273), which no counter names (log entry 65); one outside the subset of Table 12.9 is dropped
and counted (R272). -/
def shelfFrame (s : State) (f : MacFrame) (ok : Bool) (act : State → State) : State :=
  let s := { s with mgmt.mii.rxEr := f.rxEr }
  if !servesFabric s || f.rxEr then s
  else if ok then act (count64 s 0x1210_01)
  else count64 s 0x1210_02

/-- A NOTIFY_ACK takes effect only from the address and UDP port in notify_listener (R322). -/
def fromListener (s : State) (addr udp : Nat) : Bool :=
  let v := get s 0x1200_0A
  addr == numLE (bytesLE 16 v).reverse && udp == fld v 143 128

/-- The message of a datagram (R270, R274). -/
def shelfMessage (s : State) (addr udp : Nat) (unicast : Bool) (bs : List Byte) : State :=
  if bs.length < 16 then count64 s 0x1210_03
  else
    let m := messageOf bs
    let framed := m.version = 1 && m.length = bs.length && bs.length ≤ 1440
    if m.type = 2 || m.type = 4 then count64 s 0x1210_03
    else if m.type = 5 then count64 s 0xA202_06
    else if m.type = 6 && framed && m.count = 0 && m.length = 32 then
      (if fromListener s addr udp then reportAck s (numLE (bs.drop 16)) else s)
    else if m.type = 3 && framed && m.length = 16 && m.count = 0 then discovered s addr udp unicast m.number
    else
      match requestItems s 1440 m bs.length with
      | none => shelfMalformed s addr udp m.number
      | some items => clientRequest s { cls := .shelf, ident := addr, port := udp } none m.number items

/-- The message types with a command of their own: an unlisted one comes as a REQUEST, whose type R270 checks. -/
def commandType (t : Nat) : Nat := if 2 ≤ t && t ≤ 6 then t else 1

/-- A datagram of a given message type from `addr` and `udp` to `dst`; one of another type is not this command. -/
def shelfTyped (s : State) (d : Datagram) (type addr udp dst : Nat) : State :=
  if d.bytes.length < 16 || commandType (messageOf d.bytes).type = type then
    shelfFrame s d.frame (datagramFits s d addr udp dst) fun s =>
      shelfMessage s addr udp (dst == shelfAddress s) d.bytes
  else s

/-- The same, with source and destination as the datagram has them. -/
def shelfFrom (s : State) (d : Datagram) (type : Nat) : State := shelfTyped s d type d.frame.src d.sport d.frame.dst

/-- Duplicate address detection has failed: Shelf net stays silent (R274). -/
def addressConflict (s : State) : State :=
  let s := { s with mgmt.dad := false, mgmt.dadFailed := true }
  reportOwn (count32 s 0x1210_06) 0x11 15 0

/-- The neighbour advertisement for the own address to `dst`: ICMPv6 type 136 with the solicited and override flags,
the target and the link-layer address. -/
def advertisement (s : State) (dst : Nat) : List Byte :=
  icmpMessage (shelfAddress s) dst 136
    (bytesBE 4 0x6000_0000 ++ bytesBE 16 (shelfAddress s) ++ [2, 1] ++ bytesLE 6 (get s 0x1200_02))

/-- A neighbour solicitation (R272, R274): `src` 0 is the unspecified address, which another node's duplicate
address detection uses. -/
def solicited (s : State) (src : Nat) (t : FramedTarget) : State :=
  shelfFrame s t.frame (neighbourFits s t 135 src t.frame.dst) fun s =>
    let dst := if src = 0 then allNodes else src
    if s.mgmt.dad then if src = 0 then addressConflict s else s
    else if shelfOn s then sendShelf s dst 0 (advertisement s dst)
    else s

/-- A neighbour advertisement for the address under detection is a conflict (R274). -/
def advertised (s : State) (t : FramedTarget) : State :=
  shelfFrame s t.frame (neighbourFits s t 136 t.frame.src t.frame.dst) fun s =>
    if s.mgmt.dad then addressConflict s else s

/-- An echo request is answered from the own address: ICMPv6 type 129 (R272). -/
def echoed (s : State) (src dst : Nat) (e : FramedEcho) : State :=
  shelfFrame s e.frame (echoFits s e src dst) fun s =>
    if shelfOn s then sendShelf s src 0 (icmpMessage (shelfAddress s) src 129 e.bytes) else s

/-- client_idle_limit passed without a request (R271). -/
def clientExpires (s : State) (ident port : Nat) : State :=
  { s with mgmt.clients := s.mgmt.clients.filter fun c => !(c.rq.ident == ident && c.rq.port == port) }

/-- owner_lease passed without an access of the owner (R267). -/
def leaseExpires (s : State) : State :=
  if s.mgmt.owner.isSome then { s with mgmt.leaseOver := true } else s

/-! ### Accesses that wait for the log's queue (R340) -/

/-- The path an access came by: 0 the host window, 1 Shelf net, 2 in-band. -/
def pathOf (w : HeldAccess) : Nat :=
  let cls := match w with
    | .message m => m.rq.cls
    | .item rq _ => rq.cls
    | .slot _ _ => .host
  match cls with
  | .host => 0
  | .shelf => 1
  | _ => 2

/-- The access to be taken next, after one by path `last`, comes to the front: the paths take turns (R260). -/
def takeTurn (last : Nat) (ws : List HeldAccess) : List HeldAccess :=
  match ([1, 2, 3].map fun k => (last + k) % 3).findSome? fun p => findAt (fun w => pathOf w == p) ws 0 with
  | some (k, w) => w :: ws.eraseIdx k
  | none => ws

/-- An access that could not be carried out is the next again (R340). -/
def heldAgain (s : State) (w : HeldAccess) (ws : List HeldAccess) : State :=
  { s with mgmt.waiting := w :: ws }

/-- One item of a waiting message is carried out (R269); its later items are later accesses of its path. -/
def releaseMessage (s : State) (m : MsgRun) (ws : List HeldAccess) : State :=
  let next := takeTurn (pathOf (.message m)) ws
  match m.todo with
  | [] => endMessage { s with mgmt.waiting := next } m
  | i :: is =>
    if m.done.any failed then endMessage { s with mgmt.waiting := next } m
    else
      match carryItem s m.rq i with
      | (t, .held) => heldAgain t (.message m) ws
      | (t, .waits) => messageWaits { t with mgmt.waiting := next } m i
      | (t, .done status data) =>
        let m := { m with todo := is, done := m.done ++ [{ item := i, status := status, data := data }] }
        if is.isEmpty || m.done.any failed then endMessage { t with mgmt.waiting := next } m
        else { t with mgmt.waiting := takeTurn (pathOf (.message m)) (.message m :: ws) }

/-- One waiting item is carried out, or ignored: an invocation of the host's while its last one runs (R276). -/
def releaseItem (s : State) (rq : Requester) (i : Item) (ws : List HeldAccess) : State :=
  let s := { s with mgmt.waiting := takeTurn (pathOf (.item rq i)) ws }
  if !serves s rq i.cn then s
  else if i.op = itemInvoke && hostRunning s rq i.cn then count64 s 0x1110_02
  else
    match carryItem s rq i with
    | (t, .held) => heldAgain t (.item rq i) ws
    | (t, out) => hostRefused t rq out

/-- The access that waits for the log goes on once a place is free; the others follow it in turn (R260, R340). -/
def releaseWaiting (s : State) : State :=
  match s.mgmt.waiting with
  | [] => s
  | .message m :: ws => releaseMessage s m ws
  | .item rq i :: ws => releaseItem s rq i ws
  | .slot offset len :: ws =>
    slotRead { s with mgmt.waiting := takeTurn (pathOf (.slot offset len)) ws } offset len

end Sys2Proof.Machine
end

