-- ==== Sys2Proof/Machine/HostWindow.lean ====
section
/-! DEFINITION. The host window: direct slot accesses and the long access (12 R276, R277, R10). -/

namespace Sys2Proof.Machine

/-- The object whose value a slot holds; a TABLE's or a long OCTETS object's slot takes no writes (R276). -/
def slotObject (s : State) (cn : Nat) : Option Obj :=
  match findObj s.part cn with
  | some o => if o.type.rows != 1 || 16 < o.type.bytes then none else some o
  | none => none

/-- Begin the long access whose item header has been written (R277). A start while one runs leaves a free status
word; a header with reserved bits, or more data than a message holds, ends it with a free outcome (R8, R12; log
entry 51). -/
def longStart (s : State) (header : Nat) : Out :=
  let size := fld header 47 36
  if !serves s hostRq 0x11F0_00 then .next (unserved s hostRq itemWrite)
  else if s.mgmt.longMsg ≠ 0 then
    let (v, s) := freeValue s 32
    .next (set s 0x11F0_01 v)
  else if fld header 101 96 ≠ 0 || fld header 27 0 ≠ 0 || 4080 < size then
    let (status, s) := freeStatus s
    let (len, s) := freeValue s 12
    let (bs, s) := freeBytes s (len % 4081)
    .next (longDone (set s 0x11F0_00 header) status bs)
  else
    let data := ((upFrom 0 256).flatMap fun k => bytesLE 16 (get s (0x11F1_00 + k))).take size
    let i := itemOf header data
    let s := set (set s 0x11F0_00 header) 0x11F0_01 1
    if overruns s 4096 [i] then .next (longDone s stMalformed [])
    else
      let s := { s with mgmt.longMsg := s.mgmt.nextMsg }
      .next (startMessage s hostRq none 0 [i])

/-- What a write of a slot asks for, once it is whole. -/
def slotOp (o : Obj) : Nat := if o.type = .cmd then itemInvoke else itemWrite

/-- A value or an argument has been collected whole: it is applied. -/
def slotApply (s : State) (cn : Nat) (o : Obj) (bs : List Byte) : Out :=
  if cn = 0x11F0_00 then longStart s (numLE bs)
  else
    accessItem s hostRq
      { index := cn / 256, sub := cn % 256, op := slotOp o, row := 0,
        countM1 := 0, data := bs }

/-- A write of bytes of one slot from byte `first` on: collected, and applied when it covers the last byte. One that R263
or the access class forbids is ignored at once, and counted. -/
def slotWrite (s : State) (cn first : Nat) (bs : List Byte) : Out :=
  if !serves s hostRq cn then .next (unserved s hostRq itemWrite)
  else
    match slotObject s cn with
    | none => .next s
    | some o =>
      if rightsRefuse s hostRq o cn (slotOp o) then .next (count64 s 0x1110_02)
      else
        let have' := (lookupT s.mgmt.collect cn).getD []
        let got := (bs.foldl (fun (t : Table Byte × Nat) b => (insertT t.1 t.2 b, t.2 + 1)) (have', first)).1
        let last := o.type.bytes - 1
        if first ≤ last && last < first + bs.length then
          let now' := slotBytes s cn
          let value := (upFrom 0 (last + 1)).map fun k => (lookupT got k).getD (nth 0 k now')
          slotApply { s with mgmt.collect := eraseT s.mgmt.collect cn } cn o value
        else .next { s with mgmt.collect := insertT s.mgmt.collect cn got }

/-- Cut a host access at slot edges: (offset, bytes). -/
def slotPieces : Nat → Nat → List Byte → List (Nat × List Byte)
  | 0, _, _ => []
  | fuel + 1, offset, bs =>
    if bs.isEmpty then []
    else
      let n := 16 - offset % 16
      (offset, bs.take n) :: slotPieces fuel (offset + n) (bs.drop n)

/-- The slots a host write covers, in order. -/
def slotWrites : List (Nat × List Byte) → State → Out
  | [], s => .next s
  | (offset, bs) :: ps, s =>
    match slotWrite s (slotCn offset) (offset % 16) bs with
    | .next t => slotWrites ps t
    | r => r

/-- HOST_SLOT_WRITE (R276). -/
def hostWrites (s : State) (offset : Nat) (bs : List Byte) : Out := slotWrites (slotPieces bs.length offset bs) s

/-- HOST_SLOT_READ (R276): a read of more than one slot reads each in turn. -/
def hostReads (s : State) (offset len : Nat) : State :=
  forEach (slotPieces len offset (List.replicate len 0))
    (fun s e => slotAccess s e.1 e.2.length) s

/-! ### Requests at the engine-side ports -/

/-- A request with a host error in it (R8, R348, R12; log entry 51): a posted one does nothing, any other is
answered with a free status and free bytes. -/
def espUnpredictable (s : State) (op : Nat) (r : EspReq) : State :=
  if espPosted op then s
  else
    let (status, s) := freeStatus s
    let (bs, s) := freeBytes s (r.lengthM1 + 1)
    offerRsp s r status bs

/-- A LOAD of CATALOGUE space that waits behind the accesses that wait for a place in the log's queue (R340). -/
def loadWaits (s : State) (op : Nat) (r : EspReq) : Bool :=
  r.catalogue && op == 0 && !s.mgmt.waiting.isEmpty && serves s hostRq (slotCn (r.address % 2 ^ 28))

/-- An op of CATALOGUE space: LOAD and STORE reach the host window, within one 16-byte slot; anything else is
the host's error (R348). A LOAD is answered OK with its bytes. -/
def windowAccess (s : State) (op : Nat) (r : EspReq) : Out :=
  let offset := r.address % 2 ^ 28
  let len := r.lengthM1 + 1
  if 16 < offset % 16 + len || 1 < op then .next (espUnpredictable s op r)
  else if op = 0 then
    let t := hostReads s offset len
    match t.mgmt.slotReads.drop s.mgmt.slotReads.length with
    | [] => .next s
    | x :: _ => .next (offerRsp { t with mgmt.slotReads := s.mgmt.slotReads } r stOk x.bytes)
  else hostWrites s offset (r.data.take len)

/-- The host has written a reserved encoding, or a cell count past its range, into a request (Table 16.3, R8). -/
def espReserved (op : Nat) (r : EspReq) : Bool :=
  ((op == 3 || op == 4) && 0x0A < r.sub) || (op == 5 && !ledgerAddFormat r.sub) ||
    ((op == 6 || op == 7) && !ledgerReadFormat r.sub) || (5 ≤ op && op ≤ 7 && 255 < r.lengthM1)

/-- A request of FABRIC space transfers. -/
def espTakes (s : State) (op : Nat) (r : EspReq) : State :=
  if espReserved op r then espUnpredictable s op r else espPresent s op r

/-- The state an access leaves; one that stops leaves it unchanged. -/
def reached (s : State) (o : Out) : State :=
  match o with
  | .next t => t
  | _ => s

/-- The first request held at a port whose READY has risen transfers (R347). -/
def pumpEsp (s : State) : State :=
  let ready (e : Nat × EspReq) : Bool :=
    !espBlocked { s with host.espHeld := s.host.espHeld.takeWhile fun x => x != e } e.2.port && !loadWaits s e.1 e.2
  if !unitsRun s 3 then s
  else
    match s.host.espHeld.find? ready with
    | none => s
    | some (op, r) =>
      let t := { s with host.espHeld := s.host.espHeld.erase (op, r) }
      if r.catalogue then reached t (windowAccess t op r) else espTakes t op r

end Sys2Proof.Machine
end

