-- ==== Sys2Proof/Machine/Failures.lean ====
section
/-! DEFINITION. Memory failures and sparing: an uncorrectable word, and a stuck bit that a test confirms
(14 R308, R309, R324 to R326). -/

namespace Sys2Proof.Machine

/-- Rows of the central tables, by the index of Table 14.3. -/
def tableRows (t : Nat) : Nat :=
  nth 0 t [65536, 4096, 256, 1024, 4096, 4096, 256]

/-- A window or loan row that has failed becomes FREE, and what waited for that ends; a collective entry ends with
ABORTED (R316). -/
def rowGone (s : State) (t row : Nat) : State :=
  if t = 3 then
    let s := if winState (getRow s windowCn row) = 0 then s else freeWindow s row
    let s := endInvocations s 0x5104_00 (fun a => a == row) stOk
    endInvocations s 0x5103_00 (fun a => a % 1024 == row) stOk
  else if t = 5 then endInvocations (freeLoan s row) 0x6403_00 (fun a => a == row) stOk
  else if t = 6 then endEntry s row stAborted true
  else s

/-- A central table row fails (R308). With one good copy it is repaired, which is a corrected error and has
no other effect (R307). With both bad it is a hard failure of the switch and an escalation, and the row acts
from then on as R316 gives. -/
def tableFails (s : State) (t row : Nat) (both : Bool) : State :=
  if !both || tableRows t ≤ row || s.recovery.badRows.contains (t * 65536 + row) then s
  else
    let s := rowGone s t row
    let s := { s with recovery.badRows := s.recovery.badRows ++ [t * 65536 + row] }
    escalate (hardFailure s 0 15 (0x2500 + t) 0 2 row) (0x5300 + t)

/-- A stuck bit in one copy of a central table row: a hard failure without a spare. The other copy serves, so nothing
is lost and nothing escalates (R308, R309; log entry 30). -/
def tableStuck (s : State) (t row : Nat) : State :=
  if tableRows t ≤ row then s else hardFailure s 0 15 (0x2500 + t) 2 2 row

/-- Six ledger cells with poison set and nothing else (Table 6.3). -/
def poisonedCells : List Byte :=
  (List.replicate 6 (bytesLE 40 (2 ^ 319))).flatten ++ List.replicate 16 0

/-- What an uncorrectable word leaves of a row: zeros and its poison flag, or for a ledger row six
poisoned cells; a tile spilled there has every element poisoned, and its entry ends POISON (R320, R324). -/
def loseRow (s : State) (r : Nat) : State :=
  let bank := r / 4096
  let first := quotaFirst s 1
  let s :=
    if first ≤ bank && bank < first + quota s 1 then
      { s with carrel.mem := Memory.write s.carrel.mem (r * 256) poisonedCells }
    else
      { s with
        carrel.mem := Memory.write s.carrel.mem (r * 256) (List.replicate 256 0)
        carrel.poison := if s.carrel.poison.contains r then s.carrel.poison else s.carrel.poison ++ [r] }
  let hit (y : Tile) : Bool := 2 ≤ y.phase && (slotRows s y.slot).contains r
  let es := (s.coll.tiles.filter hit).map (·.entry)
  let s := { s with coll.tiles := s.coll.tiles.map fun y => if hit y then poisonTile y else y }
  forEach es (fun s e => updEntry s e fun x => { x with poisoned := true }) s

/-- The next spare of a bank: the first that stands for no row and has not failed (R324, R360). -/
def freeSpare (s : State) (bank : Nat) : Option Nat :=
  (upFrom 0 32).find? fun j =>
    !s.carrel.badSpares.contains (bank * 32 + j) && !(s.carrel.spares.any fun e => e.1 / 4096 == bank && e.2 == j)

/-- A carrel row has a hard failure (R324): the next spare of its bank replaces it, or it stays in place
poisoned for good. `stuck` says that its contents are known (R309). The spare that stood for it has failed with it. -/
def rowFails (s : State) (bank row : Nat) (stuck : Bool) : State :=
  let r := bank * 4096 + row
  let kind := if stuck then 2 else 0
  if s.carrel.dead.contains r then s
  else
    let s := match lookupT s.carrel.spares r with
      | some j => { s with carrel.badSpares := s.carrel.badSpares ++ [bank * 32 + j] }
      | none => s
    let s1 := if stuck then s else loseRow s r
    match freeSpare s bank with
    | some j =>
      let s := setF s1 0xF100_00 bank 31 26 (getF s 0xF100_00 bank 31 26 + 1)
      let s := { s with
        carrel.spares := insertT s.carrel.spares r j
        carrel.replacing := if s.carrel.replacing.contains r then s.carrel.replacing else s.carrel.replacing ++ [r] }
      hardFailure s 0 15 (0x2100 + bank) kind 0 row
    | none =>
      let s := loseRow (setF s1 0xF100_00 bank 25 13 (getF s 0xF100_00 bank 25 13 + 1)) r
      hardFailure { s with carrel.dead := s.carrel.dead ++ [r] } 0 15 (0x2100 + bank) kind 1 row

/-- Spare `j` of a bank fails (R360): as the row it stands for; one that stands for none is never used (log entry 30). -/
def spareFails (s : State) (bank j : Nat) (stuck : Bool) : State :=
  if s.carrel.badSpares.contains (bank * 32 + j) then s
  else
    match s.carrel.spares.find? fun e => e.1 / 4096 == bank && e.2 == j with
    | some e => rowFails s bank (e.1 % 4096) stuck
    | none =>
      hardFailure { s with carrel.badSpares := s.carrel.badSpares ++ [bank * 32 + j] } 0 15 (0x2100 + bank)
        (if stuck then 2 else 0) 2 (4096 + j)

/-- A row of a bank fails: rows 4,096 to 4,127 are its spares (R360). -/
def carrelFails (s : State) (bank row : Nat) (stuck : Bool) : State :=
  if 64 ≤ bank || 4128 ≤ row then s
  else if row < 4096 then rowFails s bank row stuck
  else spareFails s bank (row - 4096) stuck

/-- The spare has taken the row's place: accesses to it go on (R324). -/
def rowReplaced (s : State) (bank row : Nat) : State :=
  { s with carrel.replacing := s.carrel.replacing.filter fun x => x != bank * 4096 + row }

/-- A word of a port's replay or receive buffers has a hard failure (R326, Table 14.3): an uncorrectable
one makes the port flush as if its grace period had ended; a stuck one loses nothing (R309). -/
def portFails (s : State) (p : Nat) (stuck : Bool) : State :=
  if portsOf s.part ≤ p then s
  else
    let s := hardFailure s (p + 1) p (0x2400 + p) (if stuck then 2 else 0) 2 0
    if !stuck && (linkState s p == 1 || linkState s p == 2) then flushPort s p else s

/-- UNCORRECTABLE_WORD at a place (R308). -/
def uncorrectable (s : State) : MemSite → State
  | .table t row both => tableFails s t row both
  | .carrel bank row => carrelFails s bank row false
  | .tracker i => trackerFails s i false
  | .slice phys => sliceFails s phys 0
  | .port p => portFails s p false

/-- STUCK_BIT_TEST (R309): a stuck bit makes a hard failure whose data is not lost; a test that finds none
has no effect. -/
def stuckBit (s : State) (site : MemSite) (stuck : Bool) : State :=
  if !stuck then s
  else
    match site with
    | .table t row _ => tableStuck s t row
    | .carrel bank row => carrelFails s bank row true
    | .tracker i => trackerFails s i true
    | .slice phys => sliceFails s phys 2
    | .port p => portFails s p true

end Sys2Proof.Machine
end

