-- ==== Sys2Proof/Machine/Forward.lean ====
section
/-! DEFINITION. Packets that pass through (08 R171, R174 to R177; 09 R193, R200; 03 R65). -/

namespace Sys2Proof.Machine

/-- The packet is addressed neither to this block nor to a neighbour by port, and is of an opcode that is forwarded by its
route (R183, R283). -/
def passesBy (s : State) (k : Packet) : Bool :=
  !addressedHere s k && k.opcode != opLoanData && k.opcode != opTimeSync

/-- The ARRIVAL policer of a packet passing through may lower its colour (R200, R201). -/
def policePassing (s : State) (p : Nat) (k : Packet) : Packet × State :=
  if policed k then
    match arrivalBinding s p k with
    | some b => police s (fld b 95 88) k
    | none => (k, s)
  else (k, s)

/-- The packet leaves by port `q` (R174, R192); at a port that takes nothing it is flushed (R227). -/
def passOut (s : State) (p q : Nat) (k : Packet) (place : Option RxPlace) : State :=
  if portTakes s q then joinQueue (count64 s 0x4000_02) q k p none place
  else freeRx (count64 s (ofPort q 0x2020_0C)) place

/-- A packet that is to pass through joins a queue at its egress: the port takes packets, or the packet waits there for a
loan in RETRY mode (R191, R193). -/
def joins (s : State) (w : PassWait) : Bool :=
  portTakes s w.egress || w.loan.any fun n => !loanDiscards s n

/-- A packet that is to pass through finds a place in its queue, or waits at the head of its channel (R193); where
forwarding has stopped it is dropped (R14). -/
def passOn (s : State) (w : PassWait) : State :=
  if !forwards s then freeRx s w.rx
  else if joins s w && queueFull s w.egress (queueFor w.k w.port) then
    { s with switch.passWaits := s.switch.passWaits ++ [w] }
  else
    match w.loan with
    | some n => loanForward s n w.k w.port w.rx
    | none => passOut s w.port w.egress w.k w.rx

/-- What a hop checks and forwards of a packet: as it came where it stands in a buffer, else with its missing slots filled
in; those of a packet being received are still to come (R65, R192, R220). -/
def hopCopy (s : State) (p : Nat) (k : Packet) : Packet := if (rxPlace s p k).isSome then k else completed k

/-- A packet still being received that the checks at its header would stop is received whole first: what they lead to needs
its CRC-32C (R26, R46, R47, R62, R64). `k` is its copy of full length. -/
def mustBeWhole (s : State) (p : Nat) (k0 k : Packet) : Bool :=
  beingReceived s p k0 &&
    match sourceChecks s p { k with abort := k0.abort } with
    | .stop _ => true
    | .go _ => false

/-- The packet ended short after it was begun to be forwarded (R65). -/
def endedShort (s : State) (p : Nat) (k : Packet) : Bool :=
  cutOff k && (rxPlace s p k).isNone && !beingReceived s p k

/-- PASS_THROUGH: a packet for another endpoint arrives at a port: the source checks at its header, the ARRIVAL policer,
the route, the dateline, and its queue (R171, R174, R176, R177, R192, R200). -/
def passArrives (s0 : State) (p : Nat) (k0 : Packet) : State :=
  let k := hopCopy s0 p k0
  if !switchOn s0 || !passesBy s0 k then s0
  else
    if mustBeWhole s0 p k0 k then s0 else
    let (place, s) := leaveChannel s0 p k0
    let s := odc s 0x01 (some p) (some k0) 1
    match sourceChecks s p { k with abort := k0.abort } with
    | .stop s => freeRx s place
    | .go s =>
      if !forwards s then freeRx s place
      else
        let (c, s) := policePassing s p k
        match egressOf s k.src k.dst with
        | none => freeRx (unreachable (count64 s 0x4000_01) k.dst) place
        | some q =>
          let s := if endedShort s0 p k0 then count64 s (ofPort p 0x2080_03) else s
          let (vc, moved) := datelineVc s q k.vc
          let s := if moved && portTakes s q then count64 s 0x4000_03 else s
          let k := if beingReceived s0 p k0 then k0 else k
          passOn s { port := p, vc := k0.vc, k := { k with vc := vc, colour := c.colour }, egress := q, loan := none
                     rx := place }

/-- A LOAN_DATA arrives from a port (R183). One in transit goes on by cut-through, one that ended short is completed and
marked (R65), and it waits at the head of its channel while its queue is full (R192, R193). -/
def loanArrives (s0 : State) (p : Nat) (k0 : Packet) : State :=
  let n := handleM k0
  let transit := loanMatches s0 p k0 1
  let coming := beingReceived s0 p k0
  let k := if transit then hopCopy s0 p k0 else k0
  if coming && (!transit || mustBeWhole s0 p k0 k) then s0
  else
    let (place, s) := leaveChannel s0 p k0
    let s := odc s 0x01 (some p) (some k0) 1
    match sourceChecks s p { k with abort := k0.abort } with
    | .stop s => freeRx s place
    | .go s =>
      if transit then
        (if !forwards s then freeRx s place
         else if k.postHold && loanDiscards s n then freeRx (countHopDiscard s n) place
         else
           let s := if endedShort s0 p k0 then count64 s (ofPort p 0x2080_03) else s
           passOn s { port := p, vc := k0.vc, k := if coming then k0 else k, egress := loanEgress s n, loan := some n
                      rx := place })
      else freeRx (loanLands s p k) place

/-- The first waiting packet of those passing through that finds a place, or whose port takes nothing more. -/
def passReady (s : State) : Option PassWait :=
  s.switch.passWaits.find? fun w =>
    !forwards s || !(joins s w && queueFull s w.egress (queueFor w.k w.port))

/-- It goes on (R193). -/
def pumpPass (s : State) : State :=
  match passReady s with
  | some w => passOn { s with switch.passWaits := s.switch.passWaits.erase w } w
  | none => s

end Sys2Proof.Machine
end

