-- ==== Sys2Proof/Machine/Restore.lean ====
section
/-! DEFINITION. A mirror update at its receiver, and what a counterpart_restore writes (15 R328, R330, R336). -/

namespace Sys2Proof.Machine

/-! ### The requester's side of a restore (R336) -/

/-- A value of a restore is written under steps 1, 4 and 5 of R264, with what a write has follow; one they refuse is not
(log entry 70). -/
def restoreRow (s : State) (cn row v : Nat) : State :=
  match findObj s.part cn with
  | some o => if valueOk s o cn row v && (homeRefusal s cn v).isNone then writeRows o cn row [v] s else s
  | none => s

/-- An edition exception of a restore is written, known from then on (R41, R322), unless it names no ordinary endpoint
(Table 2.8). -/
def restoreException (s : State) (row v : Nat) : State :=
  let v := v % 2 ^ 32 - v / 2 ^ 30 % 2 * 2 ^ 30
  if !bit v 31 then setRow s 0x5300_00 row v
  else if ordinary (fld v 21 0) then exceptionKnown (setRow s 0x5300_00 row v) (fld v 21 0) (fld v 29 22)
  else s

/-- The rows of a ROWS update go to their table, or to the restored copy of it (Table 15.2). -/
def restoreRows (s : State) (cn row : Nat) (vs : List Nat) : State :=
  if cn = 0x5100_00 || cn = 0x6400_00 then putRows s (restoreTable cn) row vs
  else
    forEach ((upFrom row vs.length).zip vs)
      (fun s e => if cn = 0x5300_00 then restoreException s e.1 e.2 else restoreRow s cn e.1 e.2) s

/-- Write what an update of a restore brings (R336 step 4, Table 15.2). A value whose object is absent, not
mirrored, or set by the command itself is not written. -/
def restoreApply (s : State) (k : Packet) : State :=
  match muKind k with
  | 0 =>
    if (mirroredValues s).contains (muCn k) && muCn k ≠ 0xB000_01 && muCn k ≠ 0xB000_02 &&
        muBytes k = valueWidth s (muCn k) then
      restoreRow s (muCn k) 0 (numLE (muData k))
    else s
  | 1 => restoreRows s (muCn k) (muRow k) (rowValues (mirrorWidth (muCn k)) (muCount k) (muData k))
  | _ => s

/-- An update from the endpoint of a running restore. -/
def restoreUpdate (s : State) (r : Restore) (k : Packet) : State :=
  if muKind k = 6 then
    let s := clearTable (clearTable s 0xB021_00) 0xB022_00
    let s := { s with mirror.restore := some { r with lastSeq := some (muSeq k) } }
    ackRestore s r (muSeq k)
  else
    match r.lastSeq with
    | none => mirrorRefused s
    | some last =>
      if muKind k = 3 || muKind k = 2 || !updateFits s k then mirrorRefused s
      else if muSeq k = (last + 1) % 2 ^ 32 then
        let s := restoreApply s k
        let s := { s with mirror.restore := some { r with lastSeq := some (muSeq k) } }
        let s := ackRestore s r (muSeq k)
        if muKind k = 4 then endRestore s stOk (muSeq k) else s
      else ackRestore s r last

/-- A MIRROR_UPDATE that has passed R63 and R44 (R330): from the endpoint of a running restore, or from the counterpart
while mirroring runs (R328). With domain 25 off nothing takes it. -/
def mirrorUpdateArrives (s : State) (k : Packet) : State :=
  if !domainOn s 25 then mirrorRefused s
  else
    match s.mirror.restore.filter fun r => r.endpoint == k.src && muKind k != 5 with
    | some r => restoreUpdate s r k
    | none =>
      if !mirroring s || k.src ≠ counterpart s then mirrorRefused s
      else if muKind k = 5 then restoreRequested s k
      else mirrorApplies s k

end Sys2Proof.Machine
end

