-- ==== Sys2Proof/Machine/Packets.lean ====
section
/-! DEFINITION. What the block does with a packet at the head of its channel, by its opcode (03 R52, R63; 04
R88). -/

namespace Sys2Proof.Machine

/-- `f` acts while the units of domain `d` run: no reset, no global stop, power on (R301, R349, Table 16.5). -/
def whenRuns (d : Nat) (f : State → State) (s : State) : State := if unitsRun s d then f s else s

/-- `f` acts while the central switch works, global stop or not (R14, R302). -/
def whenOn (f : State → State) (s : State) : State := if switchOn s then f s else s

/-- `f` acts while no reset input holds the block (R349). -/
def unlessHeld (f : State → State) (s : State) : State := if held s then s else f s

/-- A TIME_SYNC is answered, or completes an exchange; `stamp` is the time taken as it arrived (R283, R285). -/
def syncActs (s : State) (p : Nat) (k : Packet) (stamp : Nat) : State :=
  if syncKind k = 0 then syncAnswer s p k stamp else syncResponse s p k stamp

/-- A request or notice that has passed R63 and is addressed here acts by its opcode (Table 3.4). -/
def requestActs (s : State) (p : Nat) (k : Packet) (stamp : Nat) : State :=
  let op := k.opcode
  if op = opTimeSync then syncActs s p k stamp
  else if op = opProbe then probeArrives s p k
  else if op = opHoldRelease then holdReleased s p k
  else if op = opNoticePost then noticePostArrives s p k
  else if op = opCommitPoll then pollArrives s p k
  else if op = opContrib || op = opContribLong then contribArrives s p k
  else if op = opCommitAck then takeAck s k
  else if op = opMgmtReq then mgmtRequest s p k
  else if op = opRetiredNotice then retiredNoticeArrives s k
  else if op = opFaultReport then count64 s 0xA202_06
  else if op = opFaultAck then
    (if service k.src then reportAck s (nth 0 0 k.data) else countPort s p 0x2080_01)
  else if op = opMirrorAck then mirrorAckArrives s k
  else if op = opMirrorUpdate then mirrorUpdateArrives s k
  else serve s p k

/-- The rules of Table 3.8 that other chapters give an opcode. -/
def rulesOf (k : Packet) : Bool :=
  if k.opcode = opContrib || k.opcode = opContribLong then contribRules k
  else if k.opcode = opMirrorUpdate then mirrorRules k
  else if k.opcode = opTimeSync then syncRules k
  else if k.opcode = opLedgerAdd then ledgerAddFormat (subM k)
  else if k.opcode = opLedgerRead || k.opcode = opLedgerReadClear then
    ledgerReadFormat (subM k)
  else true

/-- A mirror update refused under R63 or R44 counts among those discarded (R330). -/
def updateRefused (s : State) (k : Packet) : State :=
  if k.opcode = opMirrorUpdate && crcOk k && addressedHere s k then count64 s 0xB001_06 else s

/-- A packet at the head of its channel is taken: it passes through, or is handled here. A contribution that
waits for a slice does not leave its buffer (R14, R137). -/
def packetTaken (s : State) (p : Nat) (k : Packet) (stamp : Nat) : State :=
  if passesBy s k then passArrives s p k
  else if k.opcode = opLoanData then (if p < 8 then loanArrives s p k else s)
  else if isResponse k.opcode && k.opcode != opCommitAck then responseArrives s p k
  else
    match arrive s p k rulesOf with
    | .stop t => updateRefused t k
    | .go t =>
      let t := requestActs t p k stamp
      if collHeld t p k.vc then keepRx s t p else t

/-- A packet before this one in its channel has not left it (R14, R217): the channel's buffer holds another at its head,
or this packet stands in no buffer and others wait. -/
def behindOthers (s : State) (p : Nat) (k : Packet) : Bool :=
  match (lookupT (port s p).rxBuf k.vc).getD [] with
  | r :: _ => r.k != k
  | [] => s.switch.rxWaits.any fun w => w.port == p && w.k.vc == k.vc

/-- A packet of the channel waits at its head for a slice, a spill slot or an output queue (R137, R193). -/
def channelHeld (s : State) (p vc : Nat) : Bool :=
  collHeld s p vc || s.switch.passWaits.any fun w => w.port == p && w.vc == vc

/-- A packet ahead of this one on its channel waits, or this one must wait itself (R14, R88, R137, R193). -/
def packetWaits (s : State) (p : Nat) (k : Packet) : Bool :=
  channelHeld s p k.vc || behindOthers s p k || mustHold s p k

/-- A packet arrives at the central switch from a port of this part, or (15) from the switch itself: it is
taken, or waits in its channel. -/
def packetArrives (s : State) (p : Nat) (k : Packet) (stamp : Nat) : State :=
  if !switchOn s || (p ≠ 15 && portsOf s.part ≤ p) then s
  else if packetWaits s p k then
    if beingReceived s p k then s
    else { s with switch.rxWaits := s.switch.rxWaits ++ [{ port := p, k := k, stamp := stamp }] }
  else packetTaken s p k stamp

/-- The waiting packet that is first in its channel. -/
def firstWaiting (s : State) (p vc : Nat) : Option RxWait :=
  match (lookupT (port s p).rxBuf vc).getD [] with
  | r :: _ => s.switch.rxWaits.find? fun w => w.port == p && w.k == r.k
  | [] => s.switch.rxWaits.find? fun w => w.port == p && w.k.vc == vc

/-- The first packet of channel `vc` of port `p` goes on, unless something holds it (R88, R137, R193). -/
def releaseChannel (s : State) (p vc : Nat) : State :=
  match firstWaiting s p vc with
  | none => s
  | some w =>
    if channelHeld s p vc || mustHold s p w.k then s
    else packetTaken { s with switch.rxWaits := s.switch.rxWaits.erase w } p w.k w.stamp

/-- In global stop the Collator's units hold nothing back: a contribution from a port that waited for them is discarded as
any packet addressed here is (R14, R302). -/
def dropHalted (s : State) : State :=
  if !stopped s then s
  else forEach (s.coll.waits.filter fun w => w.port < 8)
    (fun s w => if s.coll.waits.contains w then count64 (dropPacket s w) 0xC200_03 else s) s

/-- Each channel's first waiting packet goes on, if it can. -/
def pumpRx (s : State) : State :=
  (s.switch.rxWaits.map fun w => (w.port, w.k.vc)).eraseDups.foldl (fun s e => releaseChannel s e.1 e.2) s

end Sys2Proof.Machine
end

