-- ==== Sys2Proof/Machine/Settle.lean ====
section
/-! DEFINITION. What the block goes on to by itself after a command: host accesses whose requests are over end,
carrel and ledger accesses whose turn has come are performed, and units that waited for either go on. -/

namespace Sys2Proof.Machine

/-! ### Accesses end -/

/-- The notice a ring has written or given up is its owner's to take note of. -/
def ownerNoticed (s : State) (n : Option NoticePending) (wrote : Bool) : State :=
  match n with
  | none => s
  | some n =>
    match n.slip, n.entry with
    | some (t, k), _ => noticed s t k wrote
    | none, some e => entryNoticed s e
    | none, none => s

/-- A slip's local access is over. -/
def closeLocal (s : State) (a : Nat) (x : Access) (t k : Nat) : State :=
  let (s, x) := passUses s a x t k
  closeAccess s a x

/-- A host access whose requests are all over ends (R343): the unit it serves takes it. -/
def finishAccess (s : State) (a : Nat) (x : Access) : State :=
  match x.kind with
  | .pktRead _ _ | .pktWrite _ _ | .pktLedger _ _ | .atomicLock _ _ | .atomicUnlock _ _ _ _ | .release =>
    finishPacket s a x
  | .pktNotice _ _ | .ledgerClear _ _ => closeAccess s a x
  | .slipRead t k r pos off =>
    let s := closeLocal s a x t k
    localRead (if x.ignored then s else countFault s x) t k r pos off (if x.ignored then 3 else x.status) (accessData x)
  | .slipWrite t k r pos off =>
    let s := closeLocal s a x t k
    localWrote (if x.ignored then s else countFault s x) t k r pos off (if x.ignored then 3 else x.status)
  | .slotRead t => if x.ignored then closeAccess s a x else finishSlotRead s a x t
  | .oldSlotRead _ => finishOldSlot s a x
  | .oldConsumedRead _ => finishOldConsumed s a x
  | .noticeWrite r =>
    let (s, n) := finishNotice s a x r
    ownerNoticed s n (!x.ignored && x.status != 2)
  | .consumedRead r => if x.ignored then closeAccess s a x else finishConsumed s a x r
  | .seqRead e r i => finishSeqRead s a x e r i
  | .sendRoster e r n => finishSendRoster s a x e r n
  | .sendSource e r n p _ => finishSendSource s a x e r n p
  | .tokenRoster e r g n => finishTokenRoster s a x e r g n
  | .fanoutRoster e n => finishFanoutRoster s a x e n
  | .burst c t e run => finishBurst s a x c t e run
  | .programLoad stage => finishProgram s a x stage
  | .firmwareLoad => finishFirmware s a x
  | .trace => if x.ignored then closeAccess s a x else finishTrace s a x
  | .dump rest => finishDump s a x rest
  | .logDrain => finishDrain s a x
  | .logConsumed => if x.ignored then closeAccess s a x else finishDrainConsumed s a x

/-- End the first access that is over. -/
def endReady (s : State) : State :=
  match s.host.ready with
  | [] => s
  | a :: as =>
    let s := { s with host.ready := as }
    match access? s a with
    | some x => finishAccess s a x
    | none => s

/-- The piece of a slip's request that starts at place `pos`. -/
def slipPieceAt (s : State) (t k r pos : Nat) : Option (SlipCtx × Nat) :=
  match ctx? s t k with
  | none => none
  | some c =>
    match c.reqs.find? fun q => q.req == r with
    | none => none
    | some q =>
      match (requestPieces c.bits q.pos q.length).find? fun e => e.1 == pos with
      | some e => some (c, e.2.2)
      | none => none

/-- A local access of a slip through a carrel kind is performed (R36, R72, R324); one whose window is gone
fails with EDITION_STALE (R105). -/
def performLocal (s : State) (a : Nat) (x : Access) (t k r pos off : Nat) (write : Bool) : State :=
  match slipPieceAt s t k r pos with
  | none => closeLocal s a x t k
  | some (c, n) =>
    match localUse s c off with
    | none =>
      let s := closeLocal s a x t k
      if write then localWrote s t k r pos off 3 else localRead s t k r pos off 3 []
    | some u =>
      let row := usedRow s u
      let addr := carrelAddr s (winKind row) (winTarget row + (off - winBase row))
      if write then localWrote (carrelWrite (closeLocal s a x t k) addr ((accessData x).take n)) t k r pos off 0
      else
        let (bs, bad) := carrelRead s addr n
        localRead (closeLocal s a x t k) t k r pos off (if bad then 1 else 0) bs

/-- An access for the carrel or a slice is performed. -/
def performInner (s : State) (a : Nat) (x : Access) : State :=
  match x.kind with
  | .pktNotice _ k => performNoticePost s a x k
  | .ledgerClear first n => performClear s a first n x
  | .slipRead t k r pos off => performLocal s a x t k r pos off false
  | .slipWrite t k r pos off => performLocal s a x t k r pos off true
  | _ => performPacket s a x

/-- The carrel rows of a slip's local access. -/
def localRows (s : State) (t k r pos off : Nat) : List Nat :=
  match slipPieceAt s t k r pos with
  | none => []
  | some (c, n) =>
    match localUse s c off with
    | none => []
    | some u =>
      let row := usedRow s u
      rowsTouched (carrelAddr s (winKind row) (winTarget row + (off - winBase row))) n

/-- The carrel rows that an access reads or writes, but for ledger cells. -/
def innerRows (s : State) (x : Access) : List Nat :=
  match x.kind with
  | .slipRead t k r pos off => localRows s t k r pos off
  | .slipWrite t k r pos off => localRows s t k r pos off
  | _ => rowsTouched (innerExtent s x).1 (innerExtent s x).2

/-- A carrel row or a slice the access needs is held, so it waits (R15, R16, R324). -/
def innerBusy (s : State) (x : Access) : Bool :=
  (innerRows s x).any (fun r => s.carrel.replacing.contains r) || (innerCells s x).any (cellBusy s)

/-- The bank of an access, and 64 for one that needs none. -/
def innerBank (s : State) (x : Access) : Nat :=
  match innerRows s x, innerCells s x with
  | r :: _, _ => r / 4096
  | [], c :: _ => carrelRow (cellAddr s c) / 4096
  | [], [] => 64

/-- Who asks a bank for an access: a port of arrival, the block's own switch, the slip engine, or the management core
(log entry 74). -/
def bankUser (x : Access) : Nat :=
  match x.kind with
  | .pktRead p _ | .pktWrite p _ | .pktLedger p _ | .pktNotice p _ => p
  | .slipRead _ _ _ _ _ | .slipWrite _ _ _ _ _ => 16
  | _ => 17

/-- Inner accesses whose turn may come (R75, R324), in their order. -/
def readyInner (s : State) : List (Nat × Access) :=
  s.host.inner.filterMap fun a =>
    match access? s a with
    | some x => if inOrder s a 12 && !innerBusy s x && !behindCells s a x then some (a, x) else none
    | none => none

/-- How long after the requester that a bank granted last this one's turn comes. -/
def turnAfter (s : State) (bank : Nat) (x : Access) : Nat :=
  (bankUser x + 32 - ((lookupT s.carrel.turns bank).getD 31 + 1)) % 32

/-- The access a bank grants next: its requesters take turns, and each one's accesses keep their order (R15). -/
def nextInner (s : State) : Option (Nat × Access) :=
  match readyInner s with
  | [] => none
  | e :: es =>
    let bank := innerBank s e.2
    some (es.foldl (fun b c =>
      if innerBank s c.2 = bank && turnAfter s bank c.2 < turnAfter s bank b.2 then c else b) e)

def doInner (s : State) : State :=
  match nextInner s with
  | some (a, x) =>
    performInner
      { s with host.inner := s.host.inner.filter fun b => b != a
               carrel.turns := insertT s.carrel.turns (innerBank s x) (bankUser x) } a x
  | none => s

/-! ### Units that waited -/

/-- Notices of a ring that has been disabled are given up by their owners (R109, R116, R117). -/
def sweepRings (s : State) : State :=
  forEach (keysT s.slips.rings)
    (fun s r =>
      let (s, gone) := sweepRing s r
      gone.foldl (fun s n => ownerNoticed s (some n) false) s) s

/-- A message whose invocation has ended goes on, and a waiting access once the log has room; neither during
a restart (R269, R312, R340). -/
def stirMgmt (s : State) : State :=
  if held s || s.recovery.restarting then s
  else
    let s := returnEnded s
    match s.mgmt.finished with
    | (id, status, result) :: fs => resumeMessage { s with mgmt.finished := fs } id status result
    | [] => if s.log.queue.length < logPlaces then releaseWaiting s else s

/-- Report rows that wait for a path to open (R322). -/
def reportsWait (s : State) : Bool := (rowsOf s reportCn).any fun e => fld e.2 255 254 == 1

/-- One round of the units' waiting work. -/
def stirUnits (s : State) : State :=
  let s := endReady s
  let s := doInner s
  let s := sweepRings s
  let s := pumpMgmt (pumpTiles s)
  let s := pumpProbes s
  let s := pumpEsp (pumpIssue (pumpSlips s))
  let s := pumpThreads s
  guardedEnds (retryWaits s)

/-- One round of everything that may go on. -/
def stir (s : State) : State :=
  let s := if unitsRun s 2 then stirUnits s else s
  let s := if switchOn s then pumpRx (pumpPass (dropHalted s)) else s
  let s := stirMgmt s
  if reportsWait s then reportPending s else s

/-- An entry's movers have nothing to move, and nothing ends it. -/
def runIdle (x : EntryRun) : Bool :=
  !x.excess && !x.poisoned &&
    match x.thread with
    | some t => t.sends.isEmpty && t.tokens.isEmpty
    | none => true

/-- Nothing in the block waits for anything that could go on by itself. -/
def quiet (s : State) : Bool :=
  s.host.ready.isEmpty && s.host.inner.isEmpty && s.host.espHeld.isEmpty && s.switch.waits.isEmpty && s.slips.ctxs.isEmpty &&
    (s.slips.rings.all fun e => e.2.waiting.isEmpty) && (s.coll.entries.all fun e => runIdle e.2) &&
    s.coll.waits.isEmpty && (s.coll.tiles.all fun y => !y.moved) && s.switch.rxWaits.isEmpty && s.switch.passWaits.isEmpty && s.switch.mgmtWaits.isEmpty &&
    s.slips.probes.isEmpty && s.mgmt.finished.isEmpty && s.mgmt.ended.isEmpty && s.mgmt.waiting.isEmpty && !reportsWait s

/-- Rounds until nothing more changes, at most `fuel` of them. -/
def settleLoop : Nat → State → State
  | 0, s => s
  | fuel + 1, s =>
    let t := stir s
    if t = s then s else settleLoop fuel t

/-- How many rounds one command may set off before the next is taken (DESIGN CHOICE, log entry 4). -/
def settleFuel : Nat := 4096

def settle (s : State) : State := if quiet s then s else settleLoop settleFuel s

theorem settle_quiet (s : State) (h : quiet s = true) : settle s = s := by simp [settle, h]

end Sys2Proof.Machine
end

