-- ==== Sys2Proof/Machine/CmdPower.lean ====
section
/-! DEFINITION. Resets, power, temperature, firmware and tenants (16 R349 to R364; 14 R317). -/

namespace Sys2Proof.Machine

/-- The state an access or a step leaves, with all that it sets off. -/
def settled (o : Out) : Out :=
  match o with
  | .next s => .next (settle s)
  | r => r

/-- POR_RELEASE (R361). -/
def execPorRelease (s : State) : Out := .next (porRises s)

/-- POR_ASSERT (R349). -/
def execPorAssert (s : State) : Out := .next (porFalls s)

/-- BLOCK_RST_ASSERT (R349). -/
def execBlockRstAssert (s : State) : Out := .next (blockFalls s)

/-- BLOCK_RST_RELEASE (R317). -/
def execBlockRstRelease (s : State) : Out := .next (blockRises s)

/-- PART_RST_FALL (R349). -/
def execPartRstFall (n : Nat) (s : State) : Out := .next (settle (partFalls s n))

/-- PART_RST_RISE (R349). -/
def execPartRstRise (n : Nat) (s : State) : Out := .next (partRises s n)

/-- DROOP_FALL (R350). -/
def execDroopFall (s : State) : Out := .next { s with power.droop := true }

/-- DROOP_RISE (R350). -/
def execDroopRise (s : State) : Out := .next { s with power.droop := false }

/-- PD_ACK (R355). -/
def execPdAck (d : Nat) (level : Bool) (s : State) : Out := .next (settle (powerAcked s d level))

/-- PD_ACK_LIMIT_EXPIRY (R355). -/
def execPdAckLimitExpiry (d : Nat) (s : State) : Out := .next (settle (powerAckLimit s d))

/-- POWER_TARGET_WRITE (R354). -/
def execPowerTargetWrite (rq : Requester) (v : Nat) (s : State) : Out := settled (writeAccess s rq 0xE000_01 0 v)

/-- THERMAL_SAMPLE (R357). -/
def execThermalSample (p t : Nat) (s : State) : Out := .next (thermalSampled s p t)

/-- THERMAL_ALARM_CLEAR (R352). -/
def execThermalAlarmClear (rq : Requester) (mask : Nat) (s : State) : Out :=
  commandAccess s rq 0xE102_03 [mask] 0 (thermalAlarmClearOp (mask % 256))

/-- THERMAL_MAX_CLEAR (R364). -/
def execThermalMaxClear (rq : Requester) (s : State) : Out := commandAccess s rq 0xE102_04 [] 0 thermalMaxClearOp

/-- POWER_FAULT_CLEAR (R352). -/
def execPowerFaultClear (rq : Requester) (s : State) : Out := commandAccess s rq 0xE000_06 [] 0 powerFaultClearOp

/-- FAULT_ATTENTION_CLEAR (R352). -/
def execFaultAttentionClear (rq : Requester) (mask : Nat) (s : State) : Out :=
  commandAccess s rq 0xA203_02 [mask] 0 (faultAttentionClearOp (mask % 2 ^ 16))

/-- FIRMWARE_LOAD (R359), with the bytes host memory returned, or none for a translation fault. -/
def execFirmwareLoad (rq : Requester) (image : Option (List Byte)) (s : State) : Out :=
  settled (commandAccess s rq 0x8010_02 [] 0 (firmwareLoadOp image))

/-- FIRMWARE_START (R359). -/
def execFirmwareStart (s : State) : Out := .next (settle (firmwareStarts s))

/-- TENANT_CHANGE (R362). -/
def execTenantChange (rq : Requester) (t : Nat) (s : State) : Out :=
  commandAccess s rq 0x8302_00 [t] 0 (tenantChangeOp (t % 256))

/-- TENANT_CLEAR_DONE (R362). -/
def execTenantClearDone (s : State) : Out := .next (settle (whenRuns 2 tenantCleared s))

end Sys2Proof.Machine
end

