-- ==== Sys2Proof/Machine/CmdCollator.lean ====
section
/-! DEFINITION. Tiles, collectives and slices (06 R135, R137; 07 R150 to R168). -/

namespace Sys2Proof.Machine

/-- TILE_BURST_DONE (R135). -/
def execTileBurstDone (collective tile : Nat) (s : State) : Out :=
  .next (settle (whenRuns 18 (fun s => burstDone s collective tile) s))

/-- TILE_SPILL (R137). -/
def execTileSpill (collective tile : Nat) (s : State) : Out :=
  .next (settle (whenRuns 18 (fun s => tileMoved s collective tile) s))

/-- SPILL_WAIT_EXPIRY (R137). -/
def execSpillWaitExpiry (slice : Nat) (s : State) : Out :=
  .next (settle (whenRuns 18 (fun s => spillWaitPassed s slice) s))

/-- COLLECTIVE_OPEN (R150). -/
def execCollectiveOpen (rq : Requester) (e : Nat) (s : State) : Out :=
  settled (commandAccess s rq 0x7104_00 [e] e (collectiveOpenOp e))

/-- COLLECTIVE_START (R150). -/
def execCollectiveStart (rq : Requester) (e : Nat) (s : State) : Out :=
  settled (commandAccess s rq 0x7105_00 [e] e (collectiveStartOp e))

/-- PROGRAM_LOAD (R154), with the bytes host memory returned, or none for a translation fault. -/
def execProgramLoad (rq : Requester) (image : Option (List Byte)) (s : State) : Out :=
  settled (commandAccess s rq 0x7200_02 [] 0 (programLoadOp image))

/-- COLLECTIVE_ABORT (R164). -/
def execCollectiveAbort (rq : Requester) (gate status : Nat) (s : State) : Out :=
  settled (commandAccess s rq 0x7300_03 [gate, status] gate (collectiveAbortOp rq gate))

/-- SLICE_SELF_TEST (R167). -/
def execSliceSelfTest (rq : Requester) (s : State) : Out :=
  settled (commandAccess s rq 0x7401_00 [] 0 sliceSelfTestOp)

/-- SLICE_SELF_TEST_END (R167). -/
def execSliceSelfTestEnd (pass : Bool) (s : State) : Out :=
  .next (settle (whenRuns 18 (fun s => selfTestEnds s pass) s))

/-- SLICE_HARD_FAILURE (R166, R168). -/
def execSliceHardFailure (phys : Nat) (s : State) : Out :=
  .next (settle (whenRuns 18 (fun s => sliceFails s phys 0) s))

/-- SLICE_SUBSTITUTION_DONE (R166). -/
def execSliceSubstitutionDone (s : State) : Out := .next (settle (whenRuns 18 substitutionDone s))

/-- WAIT_CONDITION_MET (R159). -/
def execWaitConditionMet (e : Nat) (s : State) : Out := .next (settle (waitMet s e))

/-- WAIT_LIMIT_EXPIRY (R162). -/
def execWaitLimitExpiry (e : Nat) (s : State) : Out := .next (settle (waitExpires s e false))

/-- GUARD_WAIT_EXPIRY (R163). -/
def execGuardWaitExpiry (e : Nat) (s : State) : Out := .next (settle (waitExpires s e true))

/-- ABORT_FANOUT_INVOCATION (R163): the fan-out's turn goes by rank; a rank whose turn it is not does nothing. -/
def execAbortFanoutInvocation (rank : Nat) (s : State) : Out :=
  .next (settle (whenRuns 18 (fun s => if silent s || !fanoutAt s rank then s else fanoutInvokes s) s))

/-- COLLECTIVE_NOTICE (R161). -/
def execCollectiveNotice (e : Nat) (s : State) : Out :=
  .next (settle (whenRuns 18 (fun s => collectiveNotice s e) s))

end Sys2Proof.Machine
end

