-- ==== Sys2Proof/Machine/CmdFaults.lean ====
section
/-! DEFINITION. Hard failures, watchdogs, partition resets, the replay gate and reports (14 R307 to R325). -/

namespace Sys2Proof.Machine

/-- WATCHDOG_CHECK (R311). -/
def execWatchdogCheck (findings : List WatchdogFinding) (s : State) : Out :=
  .next (settle (unlessHeld (forEach findings watchdogFinds) s))

/-- MGMT_WATCHDOG_EXPIRY (R312). A restore that runs in the management core ends ABORTED. -/
def execMgmtWatchdogExpiry (s : State) : Out :=
  .next (settle (unlessHeld (fun s => if firmwareRuns s then mgmtRestarts (endRestore s stAborted 0) else s) s))

/-- The management core runs again (R312). -/
def coreRestarted (s : State) : State :=
  if s.recovery.restarting then coreRecord { s with recovery.restarting := false } 1 else s

/-- MGMT_RESTART_COMPLETE (R312). -/
def execMgmtRestartComplete (s : State) : Out := .next (settle (unlessHeld coreRestarted s))

/-- The unit that a memory word belongs to works (Table 14.3, Table 16.5). -/
def siteRuns (s : State) (site : MemSite) : Bool :=
  match site with
  | .table _ _ _ => switchOn s
  | .carrel bank _ => unitsRun s (10 + bank / 8)
  | .tracker _ => unitsRun s 2
  | .slice phys => unitsRun s 18 && domainOn s (19 + phys)
  | .port p => portPowered s p

/-- UNCORRECTABLE_WORD (R308). -/
def execUncorrectableWord (site : MemSite) (s : State) : Out :=
  .next (if siteRuns s site then settle (uncorrectable s site) else s)

/-- STUCK_BIT_TEST (R309). -/
def execStuckBitTest (site : MemSite) (stuck : Bool) (s : State) : Out :=
  .next (if siteRuns s site then settle (stuckBit s site stuck) else s)

/-- ROW_REPLACEMENT_DONE (R324). -/
def execRowReplacementDone (bank row : Nat) (s : State) : Out :=
  .next (settle (whenRuns (10 + bank / 8) (fun s => rowReplaced s bank row) s))

/-- TRACKER_HARD_FAILURE (R325). -/
def execTrackerHardFailure (i : Nat) (stuck : Bool) (s : State) : Out :=
  .next (settle (whenRuns 2 (fun s => trackerFails s i stuck) s))

/-- PARTITION_RESET (R314). -/
def execPartitionReset (rq : Requester) (n : Nat) (s : State) : Out :=
  settled (commandAccess s rq 0xA103_00 [n] (n % 256) (partitionResetOp (n % 256)))

/-- DRAIN_COMPLETE (R314). -/
def execDrainComplete (n : Nat) (s : State) : Out := .next (settle (unlessHeld (fun s => partitionDrains s n) s))

/-- DRAIN_LIMIT_EXPIRY (R314, R316). -/
def execDrainLimitExpiry (n : Nat) (s : State) : Out :=
  .next (settle (unlessHeld (fun s => drainLimitPassed s n) s))

/-- PARTITION_READY (R315). -/
def execPartitionReady (rq : Requester) (n : Nat) (s : State) : Out :=
  settled (commandAccess s rq 0xA104_00 [n] (n % 256) (partitionReadyOp (n % 256)))

/-- PARTITION_QUIET_EXPIRY (R315). -/
def execPartitionQuietExpiry (n : Nat) (s : State) : Out :=
  .next (settle (unlessHeld (fun s => partitionQuiets s n) s))

/-- GATE_ADMIT (R319). -/
def execGateAdmit (rq : Requester) (n ctx : Nat) (s : State) : Out :=
  commandAccess s rq 0xA112_00 [n, ctx] 0 (gateAdmitOp (n % 256) (ctx % 2 ^ 16))

/-- GATE_CLEAR (R319). -/
def execGateClear (rq : Requester) (n ctx : Nat) (s : State) : Out :=
  commandAccess s rq 0xA113_00 [n, ctx] 0 (gateClearOp (n % 256) (ctx % 2 ^ 16))

/-- GATE_OPEN (R319). -/
def execGateOpen (rq : Requester) (n : Nat) (s : State) : Out :=
  commandAccess s rq 0xA114_00 [n] 0 (gateOpenOp (n % 256))

/-- CONTEXT_LIST_CLEAR (R319). -/
def execContextListClear (rq : Requester) (s : State) : Out := commandAccess s rq 0xA115_00 [] 0 contextListClearOp

/-- The rows of SENT reports. -/
def sentReports (s : State) : List Nat := ((rowsOf s reportCn).filter fun e => fld e.2 255 254 == 2).map (·.1)

/-- FAULT_RESEND (R322). -/
def execFaultResend (s : State) : Out :=
  .next (settle (unlessHeld (fun s => forEach (sentReports s) (fun s n => (sendReport s n).1) s) s))

end Sys2Proof.Machine
end

