-- ==== Sys2Proof/Machine/CmdHost.lean ====
section
/-! DEFINITION. Memory-side handshakes (16 R343 to R346), engine-side requests (R347, R348) and fences (04 R79,
R80). -/

namespace Sys2Proof.Machine

/-! ### Memory-side ports -/

/-- The domain of a memory-side port's pair (Table 16.5). -/
def pairDomain (m : Nat) : Nat := 4 + m / 2

/-- What an acceptance settles at once when it performs its access (R59, R72, R113, R135). -/
def acceptedHook (s : State) (a : Nat) (x : Access) : State :=
  if !x.performed then s
  else
    match x.kind with
    | .noticeWrite ring => noticePerformed s ring a
    | .burst c t e run => burstPerformed s c t e run
    | _ => performedAt s a

/-- The next request header of port `m` transfers (R344). -/
def acceptNext (s : State) (m : Nat) : State :=
  match nextReq s m with
  | none => s
  | some r =>
    let s := acceptReq s m r
    match access? s r.access with
    | some x => acceptedHook s r.access x
    | none => s

/-- MSP_REQUEST_ACCEPT (R344). -/
def execMspRequestAccept (m : Nat) (s : State) : Out :=
  .next (if unitsRun s (pairDomain m) then settle (acceptNext s m) else s)

/-- MSP_COMPLETION (R343, R344): a completion of an abandoned tag is ignored (R346). Host errors (R344, R12; log
entry 51): a tag that is not outstanding completes nothing, and status 3 stands for a free one of the three. -/
def execMspCompletion (m tag status : Nat) (data : List Byte) (s : State) : Out :=
  let key := m * 1024 + tag
  if !unitsRun s (pairDomain m) then .next s
  else if s.host.dropped.contains key then .next s
  else
    match lookupT s.host.outstanding key with
    | none => .next s
    | some r =>
      let (status, s) :=
        if status < 3 then (status, s)
        else
          let (n, s) := draw s
          (Config.freeChoice n % 3, s)
      let s := { s with host.outstanding := eraseT s.host.outstanding key }
      .next (settle (completeReq s r status data))

/-- ATOMIC_LOCK_GRANT (R68). -/
def execAtomicLockGrant (m : Nat) (s : State) : Out :=
  .next (settle (whenRuns (pairDomain m) (fun s => grantLock s m) s))

/-- MSP_ABANDON (R346). -/
def execMspAbandon (m : Nat) (s : State) : Out :=
  .next (settle (whenRuns (pairDomain m) (fun s => mspAbandoned s m) s))

/-! ### Engine-side ports -/

/-- A request header is presented at an engine-side port (Table 16.3); ops 8, 9 and 10 are FENCE of scope CORE, CHIP and
SYSTEM. It transfers at once, or when ESP_REQ_READY next rises (R302, R347, R348). -/
def engineAccess (s : State) (op : Nat) (r : EspReq) : Out :=
  if held s then .next s
  else if !unitsRun s 3 || espBlocked s r.port || loadWaits s op r then
    .next { s with host.espHeld := s.host.espHeld ++ [(op, r)] }
  else if r.catalogue then settled (windowAccess s op r)
  else .next (settle (espTakes s op r))

/-- LOAD (R347): a READ, or a read of the host window. -/
def execLoad (r : EspReq) (s : State) : Out := engineAccess s 0 r

/-- STORE (R347): a posted WRITE, or a write of the host window. -/
def execStore (r : EspReq) (s : State) : Out := engineAccess s 1 r

/-- STORE_ACK (R347). -/
def execStoreAck (r : EspReq) (s : State) : Out := engineAccess s 2 r

/-- ATOMIC (R347). -/
def execEspAtomic (r : EspReq) (s : State) : Out := engineAccess s 3 r

/-- ATOMIC_FETCH (R347). -/
def execEspAtomicFetch (r : EspReq) (s : State) : Out := engineAccess s 4 r

/-- LEDGER_ADD (R347). -/
def execEspLedgerAdd (r : EspReq) (s : State) : Out := engineAccess s 5 r

/-- LEDGER_READ (R347). -/
def execEspLedgerRead (r : EspReq) (s : State) : Out := engineAccess s 6 r

/-- LEDGER_READ_CLEAR (R347). -/
def execEspLedgerReadClear (r : EspReq) (s : State) : Out := engineAccess s 7 r

/-- FENCE, scope CORE (R79). -/
def execFenceCore (r : EspReq) (s : State) : Out := engineAccess s 8 r

/-- FENCE, scope CHIP (R79). -/
def execFenceChip (r : EspReq) (s : State) : Out := engineAccess s 9 r

/-- FENCE, scope SYSTEM (R79, R80). -/
def execFenceSystem (r : EspReq) (s : State) : Out := engineAccess s 10 r

/-- FENCE_COMPLETE (R79, R80). -/
def execFenceComplete (issuer : Nat) (s : State) : Out :=
  .next (settle (whenRuns 2 (fun s => fenceCompletes s issuer) s))

/-- FENCE_TIMEOUT (R80). -/
def execFenceTimeout (issuer : Nat) (s : State) : Out :=
  .next (settle (whenRuns 2 (fun s => fenceTimesOut s issuer) s))

end Sys2Proof.Machine
end

