-- ==== Sys2Proof/Machine/CmdLink.lean ====
section
/-! DEFINITION. The link layer's flits and lane commands (10), training, lanes and their tests (11). -/

namespace Sys2Proof.Machine

/-- An event of port `p`, whose lanes and link layer are powered and out of reset, with all that it sets off. -/
def portEvent (p : Nat) (f : State → State) (s : State) : Out :=
  .next (if portPowered s p then settle (f s) else s)

/-- FLIT_TRANSMIT (R212). -/
def execFlitTransmit (p : Nat) (s : State) : Out := portEvent p (fun s => flitLeaves s p) s

/-- FLIT_RECEIVE (R213). -/
def execFlitReceive (p lane bits : Nat) (badCodeword : Bool) (s : State) : Out :=
  portEvent p (fun s => flitArrives s p lane bits badCodeword) s

/-- REPLAY_TIMEOUT (R214). -/
def execReplayTimeout (p : Nat) (s : State) : Out := portEvent p (fun s => replayTimesOut s p) s

/-- A lane command record with the code of its row (Table 10.4). -/
def withCode (code record : Nat) : Nat := setFld record 127 120 code

/-- NULL (R221): nothing. -/
def execLaneNull (_p _on _record : Nat) (s : State) : Out := .next s

/-- LANE_ADD (R223): the lane joins the wait set. -/
def execLaneAdd (p _on record : Nat) (s : State) : Out := portEvent p (fun s => laneActs s p (withCode 1 record)) s

/-- LANE_REMOVE (R223): the lane leaves the wait set. -/
def execLaneRemove (p _on record : Nat) (s : State) : Out := portEvent p (fun s => laneActs s p (withCode 2 record)) s

/-- LANE_REQUEST_ADD (R247): the transmitter answers LANE_ADD, or LANE_REFUSE. -/
def execLaneRequestAdd (p _on record : Nat) (s : State) : Out := portEvent p (fun s => laneActs s p (withCode 3 record)) s

/-- LANE_REQUEST_REMOVE (R222): the transmitter answers LANE_REMOVE, or LANE_REFUSE. -/
def execLaneRequestRemove (p _on record : Nat) (s : State) : Out := portEvent p (fun s => laneActs s p (withCode 4 record)) s

/-- LANE_REFUSE (R246): the next candidate is asked for. -/
def execLaneRefuse (p _on record : Nat) (s : State) : Out := portEvent p (fun s => laneActs s p (withCode 5 record)) s

/-- LANE_HUSH (R249): the partner's lane is in HUSH. -/
def execLaneHush (p _on record : Nat) (s : State) : Out := portEvent p (fun s => laneActs s p (withCode 0x10 record)) s

/-- LANE_SHELVE (R249): the partner's lane is SHELVED. -/
def execLaneShelve (p _on record : Nat) (s : State) : Out := portEvent p (fun s => laneActs s p (withCode 0x11 record)) s

/-- LANE_TEST_ENTER (R249): the partner's lane is under TEST. -/
def execLaneTestEnter (p _on record : Nat) (s : State) : Out := portEvent p (fun s => laneActs s p (withCode 0x12 record)) s

/-- LANE_TEST_EXIT (R249): the partner's lane test is over. -/
def execLaneTestExit (p _on record : Nat) (s : State) : Out := portEvent p (fun s => laneActs s p (withCode 0x13 record)) s

/-- LANE_CHANGE_ADD (R222, Table 10.8). -/
def execLaneChangeAdd (rq : Requester) (p lane : Nat) (s : State) : Out :=
  commandAccess s rq (ofPort p 0x2010_03) [lane, 0] 0 (laneChangeOp p lane false)

/-- LANE_CHANGE_REMOVE (R222, Table 10.8). -/
def execLaneChangeRemove (rq : Requester) (p lane : Nat) (s : State) : Out :=
  commandAccess s rq (ofPort p 0x2010_03) [lane, 1] 0 (laneChangeOp p lane true)

/-- GRACE_PERIOD_EXPIRY (R224, R226). -/
def execGracePeriodExpiry (p : Nat) (s : State) : Out := portEvent p (fun s => graceEnds s p) s

/-- RETRAIN_START (R244). -/
def execRetrainStart (p : Nat) (s : State) : Out := portEvent p (fun s => retrainStarts s p) s

/-- PORT_RETRAIN (R228). -/
def execPortRetrain (rq : Requester) (p : Nat) (s : State) : Out :=
  settled (commandAccess s rq (ofPort p 0x2000_04) [] 0 (portRetrainOp p))

/-- LOS_ASSERT (R245). -/
def execLosAssert (p : Nat) (moment : LaneMoment) (s : State) : Out :=
  portEvent p (fun s => losAsserts s p moment.lane moment.filler) s

/-- LOL_ASSERT (R245). -/
def execLolAssert (p lane : Nat) (s : State) : Out := portEvent p (fun s => lolAsserts s p lane) s

/-- UNCORRECTABLE_CODEWORD (R246). -/
def execUncorrectableCodeword (p : Nat) (cw : LaneCodeword) (s : State) : Out :=
  portEvent p (fun s => badCodeword s p cw.lane cw.place) s

/-- TRAINING_BLOCK (R236). -/
def execTrainingBlock (p lane bits : Nat) (s : State) : Out := portEvent p (fun s => blockArrives s p lane bits) s

/-- ALIGNMENT_AND_FILLER_CODEWORD (R234). -/
def execAlignmentAndFillerCodeword (p : Nat) (cw : LaneCodeword) (msg : Nat) (s : State) : Out :=
  portEvent p (fun s => codewordArrives s p cw.lane msg cw.place) s

/-- TRAINING_COMPLETE (R243). -/
def execTrainingComplete (p : Nat) (s : State) : Out := portEvent p (fun s => trainingCompletes s p) s

/-- TRAINING_LIMIT_EXPIRY (R237). -/
def execTrainingLimitExpiry (p : Nat) (s : State) : Out := portEvent p (fun s => trainingLimit s p) s

/-- TRAINING_STAGE_TIMEOUT (R239, R240). -/
def execTrainingStageTimeout (p lane : Nat) (s : State) : Out := portEvent p (fun s => stageTimesOut s p lane) s

/-- FAST_RETRAIN_LIMIT_EXPIRY (R244). -/
def execFastRetrainLimitExpiry (p : Nat) (s : State) : Out := portEvent p (fun s => fastLimit s p) s

/-- LANE_RETRY_INTERVAL_EXPIRY (R237). -/
def execLaneRetryIntervalExpiry (p lane : Nat) (s : State) : Out := portEvent p (fun s => laneRetries s p lane) s

/-- LANE_WAKE_COMPLETE (R250). -/
def execLaneWakeComplete (p lane : Nat) (s : State) : Out := portEvent p (fun s => laneWakes s p lane) s

/-- RX_WIDTH_TARGET_WRITE (R248). -/
def execRxWidthTargetWrite (rq : Requester) (p v : Nat) (s : State) : Out :=
  settled (writeAccess s rq (ofPort p 0x2050_04) 0 v)

/-- LANE_TEST_STOP (R254): the running test ends. -/
def execLaneTestStop (rq : Requester) (p lane duration : Nat) (s : State) : Out :=
  commandAccess s rq (ofLane p lane 0x3010_01) [0, duration] 0 (laneTestOp p lane 0 duration)

/-- LANE_TEST_GENERATE (R254): the generator's pattern. -/
def execLaneTestGenerate (rq : Requester) (p lane duration : Nat) (s : State) : Out :=
  commandAccess s rq (ofLane p lane 0x3010_01) [1, duration] 0 (laneTestOp p lane 1 duration)

/-- LANE_TEST_CHECK (R254): the checker. -/
def execLaneTestCheck (rq : Requester) (p lane duration : Nat) (s : State) : Out :=
  commandAccess s rq (ofLane p lane 0x3010_01) [2, duration] 0 (laneTestOp p lane 2 duration)

/-- LANE_TEST_NEAR_SERIAL (R254): near loopback at the pads. -/
def execLaneTestNearSerial (rq : Requester) (p lane duration : Nat) (s : State) : Out :=
  commandAccess s rq (ofLane p lane 0x3010_01) [3, duration] 0 (laneTestOp p lane 3 duration)

/-- LANE_TEST_NEAR_PARALLEL (R254): near loopback at the serialiser. -/
def execLaneTestNearParallel (rq : Requester) (p lane duration : Nat) (s : State) : Out :=
  commandAccess s rq (ofLane p lane 0x3010_01) [4, duration] 0 (laneTestOp p lane 4 duration)

/-- LANE_TEST_FAR (R254): far loopback. -/
def execLaneTestFar (rq : Requester) (p lane duration : Nat) (s : State) : Out :=
  commandAccess s rq (ofLane p lane 0x3010_01) [5, duration] 0 (laneTestOp p lane 5 duration)

/-- LANE_TEST_DURATION_EXPIRY (R254). -/
def execLaneTestDurationExpiry (p lane : Nat) (s : State) : Out := portEvent p (fun s => laneTestEnds s p lane) s

/-- ERROR_INJECT_WRITE (R253). -/
def execErrorInjectWrite (rq : Requester) (p lane v : Nat) (s : State) : Out :=
  writeAccess s rq (ofLane p lane 0x300F_01) 0 v

/-- ERROR_INJECTION (R253). -/
def execErrorInjection (p lane : Nat) (s : State) : Out := portEvent p (fun s => injects s p lane) s

/-- CHECKER_LOCK (R252). -/
def execCheckerLock (p lane : Nat) (s : State) : Out := portEvent p (fun s => checkerLocks s p lane) s

/-- CHECKER_SYNC_LOSS (R252). -/
def execCheckerSyncLoss (p lane bits errors : Nat) (s : State) : Out := portEvent p (fun s => checkerLoses s p lane bits errors) s

end Sys2Proof.Machine
end

