-- ==== Sys2Proof/Machine/CmdTime.lean ====
section
/-! DEFINITION. Fabric time and the MARK pins (13 R279 to R290). -/

namespace Sys2Proof.Machine

/-- `f` acts while the always-on island runs (R349). -/
def unlessPor (f : State → State) (s : State) : State := if s.power.porLow then s else f s

/-- SYNC_INTERVAL_EXPIRY (R284), with the transmit stamp t1. -/
def execSyncIntervalExpiry (stamp : Nat) (s : State) : Out := .next (whenOn (fun s => syncRequest s stamp) s)

/-- SYNC_TIMEOUT (R284). -/
def execSyncTimeout (s : State) : Out := .next (unlessPor syncTimesOut s)

/-- HOLDOVER_ENTRY (R284, R286). -/
def execHoldoverEntry (s : State) : Out := .next (unlessPor entersHoldover s)

/-- TIME_SET (R282). -/
def execTimeSet (rq : Requester) (v : Nat) (s : State) : Out := commandAccess s rq 0x9001_06 [v] 0 (timeSetOp v)

/-- MARK_MODE_WRITE (R288). -/
def execMarkModeWrite (rq : Requester) (v : Nat) (s : State) : Out := writeAccess s rq 0x9100_01 0 v

/-- MARK_PERIOD_BOUNDARY (R289). -/
def execMarkPeriodBoundary (s : State) : Out := .next (unlessPor markBoundary s)

/-- MARK_WIDTH_EXPIRY (R289). -/
def execMarkWidthExpiry (s : State) : Out := .next (unlessPor markWidthOver s)

/-- MARK_IN_EDGE (R289). -/
def execMarkInEdge (s : State) : Out := .next (unlessPor markEdge s)

/-- MARK_IN_STOP (R290). -/
def execMarkInStop (s : State) : Out := .next (settle (unlessHeld markStops s))

end Sys2Proof.Machine
end

