-- ==== Sys2Proof/Machine/CmdMirror.lean ====
section
/-! DEFINITION. The counterpart mirror and the accession log (15). -/

namespace Sys2Proof.Machine

/-- The mirror unit works, global stop or not (R302, Table 16.5). -/
def mirrorOn (f : State → State) (s : State) : State := if switchOn s && domainOn s 25 then f s else s

/-- MIRROR_RESEND_EXPIRY (R331). -/
def execMirrorResendExpiry (s : State) : Out := .next (settle (mirrorOn mirrorResends s))

/-- MIRROR_LOST_LIMIT_EXPIRY (R328). -/
def execMirrorLostLimitExpiry (s : State) : Out := .next (settle (mirrorOn mirrorLost s))

/-- MIRROR_COMMIT_WAIT_EXPIRY (R335). -/
def execMirrorCommitWaitExpiry (s : State) : Out := .next (settle (unlessHeld endCommitWait s))

/-- COUNTERPART_RESTORE (R336). -/
def execCounterpartRestore (rq : Requester) (ep port ed : Nat) (s : State) : Out :=
  settled (commandAccess s rq 0xB020_00 [ep, port, ed] 0 (counterpartRestoreOp ep (port % 256) (ed % 256)))

/-- RESTORE_TIMEOUT (R336). -/
def execRestoreTimeout (s : State) : Out :=
  .next (settle (unlessHeld (fun s => if s.mirror.restore.isSome then endRestore s stTimeout 0 else s) s))

/-- LOG_RECORD_FORM (R340): the log is always-on. -/
def execLogRecordForm (s : State) : Out := .next (settle (unlessPor formRecord s))

/-- LOG_DRAIN_WRITE (R341), through the memory-side ports. -/
def execLogDrainWrite (s : State) : Out :=
  .next (settle (if held s || stopped s then s else drainStep s))

end Sys2Proof.Machine
end

