-- ==== Sys2Proof/Machine/CmdObserve.lean ====
section
/-! DEFINITION. Counters, snapshots, trace, global stop and the test access port (13 R292 to R305). -/

namespace Sys2Proof.Machine

/-- ODC_CLEAR (R292). -/
def execOdcClear (rq : Requester) (mask : Nat) (s : State) : Out :=
  commandAccess s rq 0xD102_00 [mask] 0 (odcClearOp (mask % 2 ^ 16))

/-- SNAPSHOT_TAKE (R293). -/
def execSnapshotTake (rq : Requester) (mask t : Nat) (s : State) : Out :=
  settled (commandAccess s rq 0xD200_00 [mask, t] 0 (snapshotTakeOp mask t))

/-- SNAPSHOT_TIME_REACHED (R293). -/
def execSnapshotTimeReached (s : State) : Out := .next (settle (whenRuns 24 snapshotTaken s))

/-- TRACE_LINE_FLUSH (R296). -/
def execTraceLineFlush (s : State) : Out := .next (settle (whenRuns 24 traceWriteLine s))

/-- TRACE_DRAIN (R297). -/
def execTraceDrain (s : State) : Out := .next (settle (whenRuns 24 traceDrainOne s))

/-- GLOBAL_STOP (R301). -/
def execGlobalStop (rq : Requester) (s : State) : Out := settled (commandAccess s rq 0xC200_00 [] 0 globalStopOp)

/-- SCAN_READ (R304). -/
def execScanRead (rq : Requester) (chain first : Nat) (s : State) : Out :=
  commandAccess s rq 0xC210_00 [chain, first] 0 (scanReadOp chain first)

/-- EXTEST (R305): outside global stop and whole-block reset its use is a host error (R12). -/
def execExtest (boundary : Nat) (s : State) : Out :=
  if s.power.porLow then .next s
  else if stopped s || s.power.blockLow then .next (tapExtest s boundary)
  else .fault .extestOutsideStop

/-- IDCODE (R305). -/
def execIdcode (s : State) : Out := .next (unlessPor tapIdcode s)

/-- SAMPLE/PRELOAD (R305). -/
def execSamplePreload (shiftIn : Nat) (s : State) : Out := .next (unlessPor (fun s => tapSample s shiftIn) s)

/-- SCAN_SELECT (R305). -/
def execScanSelect (chain : Nat) (s : State) : Out := .next (unlessPor (fun s => tapSelect s chain) s)

/-- SCAN_DATA (R305). -/
def execScanData (bits : Nat) (s : State) : Out := .next (unlessPor (fun s => tapScan s bits) s)

/-- BYPASS (R305). -/
def execBypass (tdi : Bool) (s : State) : Out := .next (unlessPor (fun s => tapBypass s tdi) s)

/-- PRIVATE_TEST_MODE (R305): the block's behaviour becomes unpredictable (R2), which the spec gives no effect. -/
def execPrivateTestMode (_op : Nat) (_s : State) : Out := .refused .privateTestMode

end Sys2Proof.Machine
end

