-- ==== Sys2Proof/Machine/CmdPackets.lean ====
section
/-! DEFINITION. Packets that arrive from a port, or from the block's own switch (03, 04, 08). The row of the
table gives the packet's opcode; `packetArrives` does the rest by it. -/

namespace Sys2Proof.Machine

/-- What a packet leaves, with all that it sets off. -/
def packetOut (s : State) (p : Nat) (k : Packet) : Out := .next (settle (packetArrives s p k 0))

/-- READ (R63): serves a READ: checks, admission, and the host or carrel read that READ_RSP answers. -/
def execRead (p : Nat) (k : Packet) (s : State) : Out := packetOut s p { k with opcode := opRead }

/-- WRITE (R59): a posted WRITE is admitted and performed, and becomes done. -/
def execWrite (p : Nat) (k : Packet) (s : State) : Out := packetOut s p { k with opcode := opWrite }

/-- WRITE_ACK (R57): a WRITE_ACK is performed and answered. -/
def execWriteAck (p : Nat) (k : Packet) (s : State) : Out := packetOut s p { k with opcode := opWriteAck }

/-- ATOMIC (R68): a posted ATOMIC goes to the atomic unit of its port. -/
def execAtomic (p : Nat) (k : Packet) (s : State) : Out := packetOut s p { k with opcode := opAtomic }

/-- ATOMIC_FETCH (R67): an ATOMIC_FETCH is executed and answered with the old value. -/
def execAtomicFetch (p : Nat) (k : Packet) (s : State) : Out := packetOut s p { k with opcode := opAtomicFetch }

/-- LEDGER_ADD (R143): slots are added into their cells. -/
def execLedgerAdd (p : Nat) (k : Packet) (s : State) : Out := packetOut s p { k with opcode := opLedgerAdd }

/-- LEDGER_READ (R144): cells are read, rounded. -/
def execLedgerRead (p : Nat) (k : Packet) (s : State) : Out := packetOut s p { k with opcode := opLedgerRead }

/-- LEDGER_READ_CLEAR (R144): cells are read, rounded, and zeroed. -/
def execLedgerReadClear (p : Nat) (k : Packet) (s : State) : Out := packetOut s p { k with opcode := opLedgerReadClear }

/-- PROBE (R38): a remote extent is admitted and gets a hold, or is refused. -/
def execProbe (p : Nat) (k : Packet) (s : State) : Out := packetOut s p { k with opcode := opProbe }

/-- HOLD_RELEASE (R39): the named hold ends. -/
def execHoldRelease (p : Nat) (k : Packet) (s : State) : Out := packetOut s p { k with opcode := opHoldRelease }

/-- NOTICE_POST (R113): a remote notice joins its ring, or is dropped. -/
def execNoticePost (p : Nat) (k : Packet) (s : State) : Out := packetOut s p { k with opcode := opNoticePost }

/-- COMMIT_POLL (R60): the poll draws its one answer. -/
def execCommitPoll (p : Nat) (k : Packet) (s : State) : Out := packetOut s p { k with opcode := opCommitPoll }

/-- CONTRIB (R152): elements enter their tiles, or a gate counter rises. -/
def execContrib (p : Nat) (k : Packet) (s : State) : Out := packetOut s p { k with opcode := opContrib }

/-- CONTRIB_LONG (R139): LONG partial accumulators enter their tiles. -/
def execContribLong (p : Nat) (k : Packet) (s : State) : Out := packetOut s p { k with opcode := opContribLong }

/-- LOAN_DATA (R183): forwarded by its loan's number, or admitted at the terminus. -/
def execLoanData (p : Nat) (k : Packet) (s : State) : Out := packetOut s p { k with opcode := opLoanData }

/-- READ_RSP (R55): data for the tracker it names. -/
def execReadRsp (p : Nat) (k : Packet) (s : State) : Out := packetOut s p { k with opcode := opReadRsp }

/-- STATUS_RSP (R55): the status its tracker completes with. -/
def execStatusRsp (p : Nat) (k : Packet) (s : State) : Out := packetOut s p { k with opcode := opStatusRsp }

/-- ATOMIC_RSP (R55): the old value for its tracker. -/
def execAtomicRsp (p : Nat) (k : Packet) (s : State) : Out := packetOut s p { k with opcode := opAtomicRsp }

/-- LEDGER_RSP (R55): the cells for its tracker. -/
def execLedgerRsp (p : Nat) (k : Packet) (s : State) : Out := packetOut s p { k with opcode := opLedgerRsp }

/-- PROBE_RSP (R38): a hold, a refusal or BUSY for a slip's probe. -/
def execProbeRsp (p : Nat) (k : Packet) (s : State) : Out := packetOut s p { k with opcode := opProbeRsp }

/-- COMMIT_ACK (R58): taken or ignored for its pair. -/
def execCommitAck (p : Nat) (k : Packet) (s : State) : Out := packetOut s p { k with opcode := opCommitAck }

/-- MGMT_REQ (R275): a REQUEST in-band. -/
def execMgmtReq (p : Nat) (k : Packet) (s : State) : Out := packetOut s p { k with opcode := opMgmtReq }

/-- MGMT_RSP (R275): the answer to this block's own in-band request. -/
def execMgmtRsp (p : Nat) (k : Packet) (s : State) : Out := packetOut s p { k with opcode := opMgmtRsp }

/-- RETIRED_NOTICE (R48): the block retires where the notice names it. -/
def execRetiredNotice (p : Nat) (k : Packet) (s : State) : Out := packetOut s p { k with opcode := opRetiredNotice }

/-- FAULT_REPORT (R321): discarded and counted. -/
def execFaultReport (p : Nat) (k : Packet) (s : State) : Out := packetOut s p { k with opcode := opFaultReport }

/-- FAULT_ACK (R322): frees the report row it matches. -/
def execFaultAck (p : Nat) (k : Packet) (s : State) : Out := packetOut s p { k with opcode := opFaultAck }

/-- MIRROR_ACK (R330): covers mirror updates. -/
def execMirrorAck (p : Nat) (k : Packet) (s : State) : Out := packetOut s p { k with opcode := opMirrorAck }

/-- VALUE (R330), a MIRROR_UPDATE, which acts by the kind in its data: a mirrored value. -/
def execMirrorValue (p : Nat) (k : Packet) (s : State) : Out :=
  packetOut s p { k with opcode := opMirrorUpdate }

/-- ROWS (R330), a MIRROR_UPDATE, which acts by the kind in its data: rows of a mirrored table. -/
def execMirrorRows (p : Nat) (k : Packet) (s : State) : Out :=
  packetOut s p { k with opcode := opMirrorUpdate }

/-- LOG_RECORDS (R333), a MIRROR_UPDATE, which acts by the kind in its data: records for the audit tail. -/
def execMirrorLogRecords (p : Nat) (k : Packet) (s : State) : Out :=
  packetOut s p { k with opcode := opMirrorUpdate }

/-- SNAPSHOT_BEGIN (R331), a MIRROR_UPDATE, which acts by the kind in its data: the image is discarded and BUILDING. -/
def execSnapshotBegin (p : Nat) (k : Packet) (s : State) : Out :=
  packetOut s p { k with opcode := opMirrorUpdate }

/-- SNAPSHOT_END (R331), a MIRROR_UPDATE, which acts by the kind in its data: the image is COMPLETE, or a restore ends. -/
def execSnapshotEnd (p : Nat) (k : Packet) (s : State) : Out :=
  packetOut s p { k with opcode := opMirrorUpdate }

/-- RESTORE_REQUEST (R336), a MIRROR_UPDATE, which acts by the kind in its data: the counterpart asks for its image. -/
def execRestoreRequest (p : Nat) (k : Packet) (s : State) : Out :=
  packetOut s p { k with opcode := opMirrorUpdate }

/-- RESTORE_BEGIN (R336), a MIRROR_UPDATE, which acts by the kind in its data: a restore's updates begin. -/
def execRestoreBegin (p : Nat) (k : Packet) (s : State) : Out :=
  packetOut s p { k with opcode := opMirrorUpdate }

/-- TIME_SYNC REQ (R283), which acts by the kind in its data: it is answered out of its port; `stamp` is t2. -/
def execTimeSyncReq (p : Nat) (k : Packet) (stamp : Nat) (s : State) : Out :=
  .next (settle (packetArrives s p { k with opcode := opTimeSync } stamp))

/-- TIME_SYNC RSP (R285), which acts by the kind in its data: it completes an exchange and runs the servo; `stamp` is t4. -/
def execTimeSyncRsp (p : Nat) (k : Packet) (stamp : Nat) (s : State) : Out :=
  .next (settle (packetArrives s p { k with opcode := opTimeSync } stamp))

/-- PASS_THROUGH (R176): a packet for another endpoint is checked at its header and forwarded. -/
def execPassThrough (p : Nat) (k : Packet) (s : State) : Out := packetOut s p k

/-- MALFORMED_PACKET (R63, R64): a packet with vc 6 or 7 or an unlisted opcode fails step 1. -/
def execMalformedPacket (p : Nat) (k : Packet) (s : State) : Out := packetOut s p k

end Sys2Proof.Machine
end

