-- ==== Sys2Proof/Machine/CmdRouting.lean ====
section
/-! DEFINITION. Routes and loans (08 R170 to R191). -/

namespace Sys2Proof.Machine

/-- ROUTE_ROW_WRITE (R170). -/
def execRouteRowWrite (rq : Requester) (cn row v : Nat) (s : State) : Out := settled (writeAccess s rq cn row v)

/-- LOAN_SET (R180). -/
def execLoanSet (rq : Requester) (s : State) : Out := settled (commandAccess s rq 0x6402_00 [] 0 loanSet)

/-- LOAN_CLOSE (R181). -/
def execLoanClose (rq : Requester) (n : Nat) (s : State) : Out :=
  settled (commandAccess s rq 0x6403_00 [n] (n % 2 ^ 16) (loanClose (n % 2 ^ 16)))

/-- LOAN_CLOSE_DRAIN_END (R181, R190). -/
def execLoanCloseDrainEnd (n : Nat) (s : State) : Out := .next (settle (whenOn (fun s => loanDrainEnd s n) s))

/-- LOAN_DRAIN_LIMIT_EXPIRY (R181). -/
def execLoanDrainLimitExpiry (n : Nat) (s : State) : Out :=
  .next (settle (unlessHeld (fun s => loanDrainLimit s n) s))

/-- LOAN_OPEN (R189). -/
def execLoanOpen (rq : Requester) (s : State) : Out :=
  settled (commandAccess s rq 0x6407_00 [] (fld (get s 0x6401_00) 239 228) loanOpenOp)

/-- LOAN_HOP_OPEN (R189). -/
def execLoanHopOpen (rq : Requester) (a : LoanHopArg) (s : State) : Out :=
  settled
    (commandAccess s rq 0x6408_00
      [a.loan, a.source, a.destination, a.mode, a.rate, a.burst, a.hopWait, a.firstPage, a.pagesM1] a.loan
      (loanHopOpenOp rq.port a))

/-- LOAN_HOP_CLOSE (R190). -/
def execLoanHopClose (rq : Requester) (n : Nat) (s : State) : Out :=
  settled (commandAccess s rq 0x6409_00 [n] (n % 2 ^ 16) (loanHopCloseOp (n % 2 ^ 16)))

/-- LOAN_HOP_WAIT_EXPIRY (R186). -/
def execLoanHopWaitExpiry (p q n : Nat) (s : State) : Out :=
  .next (settle (whenOn (fun s => hopWaitPassed s p q n) s))

/-- LOAN_EXPIRY (R187). -/
def execLoanExpiry (dst issuer : Nat) (s : State) : Out :=
  .next (settle (whenRuns 2 (fun s => loanExpires s dst issuer) s))

end Sys2Proof.Machine
end

