-- ==== Sys2Proof/Machine/CmdSched.lean ====
section
/-! DEFINITION. The egress scheduler, shapers, policers and their samples (09). -/

namespace Sys2Proof.Machine

/-- SCHEDULER_CHOOSE (R195). -/
def execSchedulerChoose (p : Nat) (s : State) : Out := .next (settle (schedule s p))

/-- SHAPER_REFILL (R197, R199, R332). -/
def execShaperRefill (s : State) : Out := .next (settle (shaperRefills s))

/-- POLICER_REFILL (R201). -/
def execPolicerRefill (s : State) : Out := .next (policerRefills s)

/-- QUEUE_CONFIG_WRITE (R198). -/
def execQueueConfigWrite (rq : Requester) (p q v : Nat) (s : State) : Out :=
  writeAccess s rq (ofLow p 0x6100_00) q v

/-- POLICER_WRITE (R201): the row's counts are full at the next packet. -/
def execPolicerWrite (rq : Requester) (n v : Nat) (s : State) : Out := writeAccess s rq 0x6200_00 n v

/-- DEPTH_SAMPLE (R203). -/
def execDepthSample (p : Nat) (s : State) : Out := .next (depthSamples s p)

/-- SAMPLE_CLEAR (R205). -/
def execSampleClear (rq : Requester) (p : Nat) (s : State) : Out := commandAccess s rq 0x6330_00 [p] p (sampleClearOp p)

end Sys2Proof.Machine
end

