-- ==== Sys2Proof/Machine/CmdSequencer.lean ====
section
/-! DEFINITION. The instructions of a collation program (07 R155 to R161, Table 7.5): each is issued by the thread
of entry `e` when it stands at the thread's pc; otherwise nothing happens. -/

namespace Sys2Proof.Machine

/-- What an instruction leaves, with all that it sets off. -/
def seqOut (s : State) : Out := .next (settle s)

/-- The entry ends with ABORTED (FAULT, ABORT and unlisted ops). -/
def seqEnds (s : State) (e : Nat) (is : Nat → Bool) : State := issueOp s e is fun _ _ => endEntry s e stAborted true

/-- FAULT, and every op that Table 7.5 does not list (R157). -/
def execSeqFault (e : Nat) (s : State) : Out := seqOut (seqEnds s e fun op => op == 0 || !listedOp op)

/-- ADD (R157). -/
def execSeqAdd (e : Nat) (s : State) : Out := seqOut (seqSet s e 0x01 fun t w => rA t w + rB t w)

/-- SUB (R157). -/
def execSeqSub (e : Nat) (s : State) : Out := seqOut (seqSet s e 0x02 fun t w => rA t w - rB t w)

/-- AND (R157). -/
def execSeqAnd (e : Nat) (s : State) : Out := seqOut (seqSet s e 0x03 fun t w => rA t w &&& rB t w)

/-- OR (R157). -/
def execSeqOr (e : Nat) (s : State) : Out := seqOut (seqSet s e 0x04 fun t w => rA t w ||| rB t w)

/-- XOR (R157). -/
def execSeqXor (e : Nat) (s : State) : Out := seqOut (seqSet s e 0x05 fun t w => rA t w ^^^ rB t w)

/-- SHL (R157). -/
def execSeqShl (e : Nat) (s : State) : Out := seqOut (seqSet s e 0x06 fun t w => rA t w <<< (inImm14 w % 64))

/-- SHR (R157). -/
def execSeqShr (e : Nat) (s : State) : Out := seqOut (seqSet s e 0x07 fun t w => rA t w >>> (inImm14 w % 64))

/-- MUL (R157). -/
def execSeqMul (e : Nat) (s : State) : Out := seqOut (seqSet s e 0x08 fun t w => rA t w * rB t w)

/-- DIVU (R157): all ones for a divisor of zero. -/
def execSeqDivu (e : Nat) (s : State) : Out := seqOut (seqSet s e 0x09 fun t w => if rB t w = 0 then BitVec.allOnes 64 else rA t w / rB t w)

/-- MINU (R157). -/
def execSeqMinu (e : Nat) (s : State) : Out := seqOut (seqSet s e 0x0A fun t w => if rB t w < rA t w then rB t w else rA t w)

/-- MAXU (R157). -/
def execSeqMaxu (e : Nat) (s : State) : Out := seqOut (seqSet s e 0x0B fun t w => if rA t w < rB t w then rB t w else rA t w)

/-- ADDI (R157). -/
def execSeqAddi (e : Nat) (s : State) : Out := seqOut (seqSet s e 0x0C fun t w => rA t w + BitVec.ofInt 64 (signed 14 (inImm14 w)))

/-- LI (R157). -/
def execSeqLi (e : Nat) (s : State) : Out := seqOut (seqSet s e 0x0D fun _ w => BitVec.ofNat 64 (inImm22 w))

/-- SLI (R157). -/
def execSeqSli (e : Nat) (s : State) : Out := seqOut (seqSet s e 0x0E fun t w => (reg t (inD w) <<< 22) ||| BitVec.ofNat 64 (inImm22 w))

/-- BEQ (R157). -/
def execSeqBeq (e : Nat) (s : State) : Out := seqOut (seqBranch s e 0x10 fun a b => a == b)

/-- BNE (R157). -/
def execSeqBne (e : Nat) (s : State) : Out := seqOut (seqBranch s e 0x11 fun a b => a != b)

/-- BLTU (R157). -/
def execSeqBltu (e : Nat) (s : State) : Out := seqOut (seqBranch s e 0x12 fun a b => decide (a < b))

/-- BGEU (R157). -/
def execSeqBgeu (e : Nat) (s : State) : Out := seqOut (seqBranch s e 0x13 fun a b => decide (b ≤ a))

/-- J (R157). -/
def execSeqJ (e : Nat) (s : State) : Out :=
  seqOut (issueOp s e (· == 0x14) fun t w => takeBranch s e t (inImm22 w % 2 ^ 14))

/-- LDD (R157). -/
def execSeqLdd (e : Nat) (s : State) : Out := seqOut (seqSet s e 0x18 fun t w => dataWord t (inImm14 w % 32))

/-- STD (R157). -/
def execSeqStd (e : Nat) (s : State) : Out :=
  seqOut (issueOp s e (· == 0x19) fun t w =>
    putThread s e (goOn (setDataWord (overtake t (16 + inImm14 w % 32)) (inImm14 w % 32) (reg t (inD w)))))

/-- LDH (R155): 8 bytes at host pointer a + 8 × imm14. -/
def execSeqLdh (e : Nat) (s : State) : Out :=
  seqOut (issueOp s e (· == 0x1A) fun t w =>
    let ptr := ((rA t w).toNat + 8 * inImm14 w) % 2 ^ 64
    threadReads s e t (ptrSegment ptr) (ptrOffset ptr) 8 (.toReg (inD w)))

/-- BLD (R155): data words imm14[4:0] onward from host pointer a. -/
def execSeqBld (e : Nat) (s : State) : Out :=
  seqOut (issueOp s e (· == 0x1B) fun t w =>
    let ptr := (rA t w).toNat
    let n := fld (inImm14 w) 9 5 + 1
    threadReads s e t (ptrSegment ptr) (ptrOffset ptr) (8 * n) (.toData (inImm14 w % 32) n))

/-- RLD (R157): the roster record of rank a, from the thread's roster line where it holds it; else the line of 16
records is read. -/
def execSeqRld (e : Nat) (s : State) : Out :=
  seqOut (issueOp s e (· == 0x1C) fun t w =>
    let row := ceRow s e
    let rank := (rA t w).toNat
    match t.line.filter fun l => l.1 == rank / 16 with
    | some (_, bs) =>
      putThread s e (goOn (writeReg t (inD w) (BitVec.ofNat 64 (numLE ((bs.drop (4 * (rank % 16))).take 4)))))
    | none =>
      threadReads s e t (ceRosterSegment row) ((ceRosterOffset row + 64 * (rank / 16)) % 2 ^ 42) 64
        (.toRecord (inD w) rank))

/-- SEQUENCER_HOST_READ_DONE (R155): what was read is written, and an instruction that waits for it may issue. A fault
has ended the thread. -/
def execSequencerHostReadDone (e : Nat) (s : State) : Out := seqOut (whenRuns 18 (fun s => seqReadDone s e) s)

/-- TIME (R157). -/
def execSeqTime (e : Nat) (s : State) : Out := seqOut (seqSet s e 0x1D fun _ _ => BitVec.ofNat 64 (now s))

/-- SEND (R158). -/
def execSeqSend (e : Nat) (s : State) : Out := seqOut (seqSendOp s e)

/-- The thread waits, and goes on at once where the condition holds already (R159). -/
def seqWaits (s : State) (e : Nat) (t : Thread) (w : ThreadWait) : State :=
  waitMet (putThread s e { t with wait := some w }) e

/-- WAITS (R159). -/
def execSeqWaits (e : Nat) (s : State) : Out := seqOut (issueOp s e (· == 0x21) fun t _ => seqWaits s e t .sends)

/-- WAITC (R159). -/
def execSeqWaitc (e : Nat) (s : State) : Out :=
  seqOut (issueOp s e (· == 0x22) fun t w =>
    seqWaits s e t (.closed ((rA t w).toNat % 4) (rB t w).toNat))

/-- TOKALL (R160). -/
def execSeqTokall (e : Nat) (s : State) : Out :=
  seqOut (issueOp s e (· == 0x23) fun t w =>
    seqTokens s e t ((rA t w).toNat % 32) 0 (ceMembers (ceRow s e)))

/-- TOKEN (R160). A rank that the roster does not hold ends the thread as it does in R158. -/
def execSeqToken (e : Nat) (s : State) : Out :=
  seqOut (issueOp s e (· == 0x24) fun t w =>
    if ceMembers (ceRow s e) ≤ (rB t w).toNat then endEntry s e stAborted true
    else seqTokens s e t ((rA t w).toNat % 32) (rB t w).toNat 1)

/-- WAITG (R159). -/
def execSeqWaitg (e : Nat) (s : State) : Out :=
  seqOut (issueOp s e (· == 0x25) fun t w =>
    seqWaits s e t (.gate ((rA t w).toNat % 32) (rB t w).toNat))

/-- RDC (R157). -/
def execSeqRdc (e : Nat) (s : State) : Out := seqOut (seqSet s e 0x26 fun t w => BitVec.ofNat 64 (nth 0 ((rA t w).toNat % 4) (entryRun s e).closed))

/-- RDG (R157). -/
def execSeqRdg (e : Nat) (s : State) : Out := seqOut (seqSet s e 0x27 fun t w => BitVec.ofNat 64 (gateCount s e ((rA t w).toNat % 32)))

/-- DONE (R161): it waits as WAITS does, and ends the thread. -/
def execSeqDone (e : Nat) (s : State) : Out :=
  seqOut (issueOp s e (· == 0x3E) fun t w => seqWaits s e t (.done (rA t w).toNat))

/-- ABORT (R157, R161). -/
def execSeqAbort (e : Nat) (s : State) : Out := seqOut (seqEnds s e fun op => op == 0x3F)

end Sys2Proof.Machine
end

