-- ==== Sys2Proof/Machine/CmdShelf.lean ====
section
/-! DEFINITION. Shelf net, commissioning and the host window (12 R264 to R277). -/

namespace Sys2Proof.Machine

/-- NOTIFY_ACK (R322): from notify_listener it frees the report row it matches. -/
def execNotifyAck (addr udp : Nat) (d : Datagram) (s : State) : Out :=
  .next (settle (shelfTyped s d 6 addr udp d.frame.dst))

/-- REQUEST (R269). -/
def execRequest (addr udp : Nat) (d : Datagram) (s : State) : Out :=
  .next (settle (shelfTyped s d 1 addr udp d.frame.dst))

/-- NEXT (R368): a REQUEST of NEXT items. -/
def execNextItem (addr udp : Nat) (d : Datagram) (s : State) : Out :=
  .next (settle (shelfTyped s d 1 addr udp d.frame.dst))

/-- DISCOVER (R274): `unicast` says that it goes to the block's own address, else to its frame's. -/
def execDiscover (addr udp : Nat) (unicast : Bool) (d : Datagram) (s : State) : Out :=
  .next (settle (shelfTyped s d 3 addr udp (if unicast then shelfAddress s else d.frame.dst)))

/-- DISCOVER_DELAY_EXPIRY (R274). -/
def execDiscoverDelayExpiry (s : State) : Out := .next (discoverAnswers s)

/-- NOTIFY (R321): discarded and counted. -/
def execNotify (d : Datagram) (s : State) : Out := .next (shelfFrom s d 5)

/-- RESPONSE (R270): never answered; discarded and counted. -/
def execResponse (d : Datagram) (s : State) : Out := .next (shelfFrom s d 2)

/-- DISCOVER_RSP (R270): never answered; discarded and counted. -/
def execDiscoverRsp (d : Datagram) (s : State) : Out := .next (shelfFrom s d 4)

/-- NEIGHBOUR_SOLICITATION (R272). -/
def execNeighbourSolicitation (src : Nat) (target : FramedTarget) (s : State) : Out :=
  .next (solicited s src target)

/-- NEIGHBOUR_ADVERTISEMENT (R274). -/
def execNeighbourAdvertisement (target : FramedTarget) (s : State) : Out :=
  .next (advertised s target)

/-- ECHO_REQUEST (R272). -/
def execEchoRequest (src dst : Nat) (payload : FramedEcho) (s : State) : Out :=
  .next (echoed s src dst payload)

/-- SHELF_ENABLE_WRITE (R274). -/
def execShelfEnableWrite (rq : Requester) (v : Nat) (s : State) : Out := settled (writeAccess s rq 0x1200_01 0 v)

/-- CLIENT_IDLE_EXPIRY (R271). -/
def execClientIdleExpiry (ident port : Nat) (s : State) : Out := .next (clientExpires s ident port)

/-- OWNER_LEASE_EXPIRY (R267). -/
def execOwnerLeaseExpiry (s : State) : Out := .next (leaseExpires s)

/-- COMMISSION_ENTER (R265): a write of 1. -/
def execCommissionEnter (rq : Requester) (s : State) : Out := settled (writeAccess s rq 0x1100_00 0 1)

/-- COMMISSION_COMMIT (R266): a write of 2. -/
def execCommissionCommit (rq : Requester) (s : State) : Out := settled (writeAccess s rq 0x1100_00 0 2)

/-- COMMISSION_RETIRE (R265): a write of 3. -/
def execCommissionRetire (rq : Requester) (s : State) : Out := settled (writeAccess s rq 0x1100_00 0 3)

/-- HOST_SLOT_WRITE (R276). -/
def execHostSlotWrite (offset : Nat) (bytes : List Byte) (s : State) : Out :=
  if domainOn s 3 then settled (hostWrites s offset bytes) else .next s

/-- HOST_SLOT_READ (R276). -/
def execHostSlotRead (offset len : Nat) (s : State) : Out :=
  .next (if domainOn s 3 then hostReads s offset len else s)

/-- HOST_ACCESS_START (R277). -/
def execHostAccessStart (header : Nat) (s : State) : Out := settled (longStart s header)

/-- CATALOGUE_WRITE (R264); the host's write of host_access_control starts a long access (R277). -/
def execCatalogueWrite (rq : Requester) (cn row v : Nat) (s : State) : Out :=
  if rq.cls = .host && cn = 0x11F0_00 then settled (longStart s v) else settled (writeAccess s rq cn row v)

end Sys2Proof.Machine
end

