-- ==== Sys2Proof/Machine/CmdSlips.lean ====
section
/-! DEFINITION. Slip trays, slips, notice rings and the ledger (05 R95 to R117; 06 R148). -/

namespace Sys2Proof.Machine

/-- TRAY_ENABLE (R95). -/
def execTrayEnable (rq : Requester) (t : Nat) (s : State) : Out :=
  settled (commandAccess s rq 0x8102_00 [t] t (trayEnable t))

/-- TRAY_DISABLE (R95). -/
def execTrayDisable (rq : Requester) (t : Nat) (s : State) : Out :=
  settled (commandAccess s rq 0x8103_00 [t] t (trayDisable t))

/-- TRAY_DRAIN_END (R95). -/
def execTrayDrainEnd (t : Nat) (s : State) : Out := .next (settle (whenRuns 2 (fun s => trayDrained s t) s))

/-- TRAY_DRAIN_LIMIT_EXPIRY (R95). -/
def execTrayDrainLimitExpiry (t : Nat) (s : State) : Out :=
  .next (settle (unlessHeld (fun s => trayDrainLimit s t) s))

/-- The tray's context passes its gate (R319). Of a partition out of service the read waits at its port (R315). -/
def trayServed (s : State) (t : Nat) : Bool := !gateShut s (trayPartition s t) (trContext (trayRow s t))

/-- TRAY_SLOT_POLL (R96). -/
def execTraySlotPoll (t : Nat) (s : State) : Out :=
  .next (settle (whenRuns 2 (fun s => if trayServed s t then pollSlot s t else s) s))

/-- SLOT_READ_COMPLETE (R96). -/
def execSlotReadComplete (t : Nat) (s : State) : Out := .next (settle (whenRuns 2 (fun s => takeSlot s t) s))

/-- SLIP_ADMISSION_DONE (R106). -/
def execSlipAdmissionDone (t k : Nat) (s : State) : Out :=
  .next (settle (whenRuns 2 (fun s => checkerFreed s t k) s))

/-- SLIP_ISSUE (R105): the slip's next request is issued. -/
def execSlipIssue (t k : Nat) (s : State) : Out := .next (settle (whenRuns 2 (fun s => issueRequest s t k) s))

/-- SLIP_COMPLETE (R107). -/
def execSlipComplete (t k : Nat) (s : State) : Out := .next (settle (whenRuns 2 (fun s => slipCompletes s t k) s))

/-- REMOTE_NOTICE_POST_TIMEOUT (R113). -/
def execRemoteNoticePostTimeout (t k : Nat) (s : State) : Out :=
  .next (settle (whenRuns 2 (fun s => postTimeout s t k) s))

/-- NOTICE_WRITE (R111). -/
def execNoticeWrite (ring : Nat) (s : State) : Out := .next (settle (whenRuns 2 (fun s => writeNotice s ring) s))

/-- CONSUMED_COUNT_POLL (R112). -/
def execConsumedCountPoll (ring : Nat) (s : State) : Out :=
  .next (settle (whenRuns 2 (fun s => pollConsumed s ring) s))

/-- RING_ENABLE (R109). -/
def execRingEnable (rq : Requester) (ring : Nat) (s : State) : Out :=
  settled (commandAccess s rq 0x8202_00 [ring] ring (ringEnable ring))

/-- RING_DISABLE (R109). -/
def execRingDisable (rq : Requester) (ring : Nat) (s : State) : Out :=
  settled (commandAccess s rq 0x8203_00 [ring] ring (ringDisable ring))

/-- RING_ATTENTION_CLEAR (R114). -/
def execRingAttentionClear (rq : Requester) (ring : Nat) (s : State) : Out :=
  commandAccess s rq 0x8205_00 [ring] ring (ringAttentionClear ring)

/-- LEDGER_CLEAR (R148). -/
def execLedgerClear (rq : Requester) (first count : Nat) (s : State) : Out :=
  settled (commandAccess s rq 0x8311_00 [first, count] (clearArg first count) (ledgerClearOp first count))

end Sys2Proof.Machine
end

