-- ==== Sys2Proof/Machine/CmdTimers.lean ====
section
/-! DEFINITION. Limits of requests, acknowledgements, probes and holds (02 R38, R39; 03 R56 to R60; 04 R83,
R88). -/

namespace Sys2Proof.Machine

/-- TRACKER_TIMEOUT (R56). -/
def execTrackerTimeout (i : Nat) (s : State) : Out := .next (settle (whenRuns 2 (fun s => trackerTimesOut s i) s))

/-- TRACKER_QUARANTINE_EXPIRY (R56, R226). -/
def execTrackerQuarantineExpiry (i : Nat) (s : State) : Out :=
  .next (settle (whenRuns 2 (fun s => trackerRested s i) s))

/-- COMMIT_ACK_DELAY_EXPIRY (R59). -/
def execCommitAckDelayExpiry (src issuer : Nat) (s : State) : Out :=
  .next (settle (whenRuns 2 (fun s => ackDelay s src issuer) s))

/-- A pair with unacknowledged packets on the ordinary route is polled (R60, R83); a silent block issues
nothing (R48). -/
def pollDue (s : State) (dst issuer : Nat) : State :=
  match pairOf s dst issuer with
  | some e => if silent s || e.quarantined || e.path ≠ 0 || unacked e = 0 then s else pollPair s e
  | none => s

/-- COMMIT_POLL_INTERVAL_EXPIRY (R60). -/
def execCommitPollIntervalExpiry (dst issuer : Nat) (s : State) : Out :=
  .next (settle (whenRuns 2 (fun s => pollDue s dst issuer) s))

/-- PENDING_ACK_ENTRY_FREE (R88): the channel's first packet goes on if an entry is to be had, and with it those behind
it. -/
def execPendingAckEntryFree (port vc : Nat) (s : State) : Out :=
  .next (settle (whenOn (fun s => releaseChannel s port vc) s))

/-- What request_timeout is still to end for an issuer's pairs (R83), by the time it runs from: the wait for the answers of the
polls of a pair that is otherwise acknowledged or abandoned (`true`), and the bar of an abandoned pair. -/
def pairTimeouts (s : State) (issuer : Nat) : List (Nat × Pair × Bool) :=
  (s.switch.pairs.filter fun e => e.issuer == issuer).flatMap fun e =>
    (if e.polls ≠ 0 && unacked e = 0 then [(e.pollAt, e, true)] else []) ++
      if e.quarantined then [(e.since, e, false)] else []

/-- request_timeout has passed for what has waited longest: the entry is free for others once its polls are over, and for its
own pair once the bar is (R83). -/
def pairsFree (s : State) (issuer : Nat) : State :=
  match pairTimeouts s issuer with
  | [] => s
  | w :: ws =>
    let (_, e, polls) := ws.foldl (fun a b => if b.1 < a.1 then b else a) w
    settlePair s (if polls then { e with polls := 0 } else { e with quarantined := false })

/-- PAIR_ENTRY_FREE (R83). -/
def execPairEntryFree (issuer : Nat) (s : State) : Out :=
  .next (settle (whenRuns 2 (fun s => pairsFree s issuer) s))

/-- PROBE_RETRY (R38). -/
def execProbeRetry (tray k : Nat) (s : State) : Out := .next (settle (whenRuns 2 (fun s => probeRetry s tray k) s))

/-- PROBE_RETRY_LIMIT_EXPIRY (R38). -/
def execProbeRetryLimitExpiry (tray k : Nat) (s : State) : Out :=
  .next (settle (whenRuns 2 (fun s => probeLimit s tray k) s))

/-- HOLD_TIMEOUT (R39). -/
def execHoldTimeout (hold : Nat) (s : State) : Out := .next (settle (whenRuns 2 (fun s => endHold s hold) s))

end Sys2Proof.Machine
end

