-- ==== Sys2Proof/Machine/CmdWindows.lean ====
section
/-! DEFINITION. Windows and editions (02 R32 to R34, R43, R45; 04 R86). -/

namespace Sys2Proof.Machine

/-- WINDOW_OPEN (R32). -/
def execWindowOpen (rq : Requester) (w : Nat) (s : State) : Out :=
  settled (commandAccess s rq 0x5102_00 [w] w (windowOpen w))

/-- WINDOW_MODIFY (R33). -/
def execWindowModify (rq : Requester) (w : Nat) (s : State) : Out :=
  settled (commandAccess s rq 0x5103_00 [w] (modifyArg w (epochOf s w)) (windowModify w))

/-- WINDOW_CLOSE (R34). -/
def execWindowClose (rq : Requester) (w : Nat) (s : State) : Out :=
  settled (commandAccess s rq 0x5104_00 [w] w (windowClose w))

/-- WINDOW_DRAIN_END (R33, R34). -/
def execWindowDrainEnd (w : Nat) (s : State) : Out := .next (settle (whenRuns 2 (fun s => windowDrainEnd s w) s))

/-- WINDOW_DRAIN_LIMIT_EXPIRY (R33, R34). -/
def execWindowDrainLimitExpiry (w : Nat) (s : State) : Out :=
  .next (settle (unlessHeld (fun s => windowDrainLimit s w) s))

/-- PARTITION_EDITION_RAISE (R45). -/
def execPartitionEditionRaise (rq : Requester) (n : Nat) (s : State) : Out :=
  settled (commandAccess s rq 0x5201_00 [n] n (partitionRaiseOp (n % 256)))

/-- EDITION_EXCEPTION_SET (R43). -/
def execEditionExceptionSet (rq : Requester) (ep ed : Nat) (s : State) : Out :=
  settled (commandAccess s rq 0x5301_00 [ep, ed] ep (exceptionSet ep (ed % 256)))

/-- EDITION_EXCEPTION_CLEAR (R43). -/
def execEditionExceptionClear (rq : Requester) (ep : Nat) (s : State) : Out :=
  settled (commandAccess s rq 0x5302_00 [ep] ep (exceptionClear ep))

/-- FENCE_LOST_MARK (R86). -/
def execFenceLostMark (rq : Requester) (dst : Nat) (s : State) : Out :=
  settled (commandAccess s rq 0x8073_00 [dst] dst (fenceLostMarkOp dst))

end Sys2Proof.Machine
end

