-- ==== Sys2Proof/Machine/Dispatch.lean ====
section
/-! DEFINITION. Which meaning each command has: one arm for each constructor of `Instr`. -/

namespace Sys2Proof.Machine

def exec (i : Instr) (s : State) : Host.Outcome State Fault Refusal :=
  match i with
  | .porRelease => Sys2Proof.Machine.execPorRelease s
  | .porAssert => Sys2Proof.Machine.execPorAssert s
  | .blockRstAssert => Sys2Proof.Machine.execBlockRstAssert s
  | .blockRstRelease => Sys2Proof.Machine.execBlockRstRelease s
  | .partRstFall n => Sys2Proof.Machine.execPartRstFall n s
  | .partRstRise n => Sys2Proof.Machine.execPartRstRise n s
  | .droopFall => Sys2Proof.Machine.execDroopFall s
  | .droopRise => Sys2Proof.Machine.execDroopRise s
  | .pdAck d level => Sys2Proof.Machine.execPdAck d level s
  | .pdAckLimitExpiry d => Sys2Proof.Machine.execPdAckLimitExpiry d s
  | .powerTargetWrite rq v => Sys2Proof.Machine.execPowerTargetWrite rq v s
  | .thermalSample p t => Sys2Proof.Machine.execThermalSample p t s
  | .thermalAlarmClear rq mask => Sys2Proof.Machine.execThermalAlarmClear rq mask s
  | .thermalMaxClear rq => Sys2Proof.Machine.execThermalMaxClear rq s
  | .powerFaultClear rq => Sys2Proof.Machine.execPowerFaultClear rq s
  | .faultAttentionClear rq mask => Sys2Proof.Machine.execFaultAttentionClear rq mask s
  | .firmwareLoad rq image => Sys2Proof.Machine.execFirmwareLoad rq image s
  | .firmwareStart => Sys2Proof.Machine.execFirmwareStart s
  | .tenantChange rq t => Sys2Proof.Machine.execTenantChange rq t s
  | .tenantClearDone => Sys2Proof.Machine.execTenantClearDone s
  | .mspRequestAccept m => Sys2Proof.Machine.execMspRequestAccept m s
  | .mspCompletion m tag status data => Sys2Proof.Machine.execMspCompletion m tag status data s
  | .atomicLockGrant m => Sys2Proof.Machine.execAtomicLockGrant m s
  | .mspAbandon m => Sys2Proof.Machine.execMspAbandon m s
  | .load r => Sys2Proof.Machine.execLoad r s
  | .store r => Sys2Proof.Machine.execStore r s
  | .storeAck r => Sys2Proof.Machine.execStoreAck r s
  | .espAtomic r => Sys2Proof.Machine.execEspAtomic r s
  | .espAtomicFetch r => Sys2Proof.Machine.execEspAtomicFetch r s
  | .espLedgerAdd r => Sys2Proof.Machine.execEspLedgerAdd r s
  | .espLedgerRead r => Sys2Proof.Machine.execEspLedgerRead r s
  | .espLedgerReadClear r => Sys2Proof.Machine.execEspLedgerReadClear r s
  | .fenceCore r => Sys2Proof.Machine.execFenceCore r s
  | .fenceChip r => Sys2Proof.Machine.execFenceChip r s
  | .fenceSystem r => Sys2Proof.Machine.execFenceSystem r s
  | .fenceComplete issuer => Sys2Proof.Machine.execFenceComplete issuer s
  | .fenceTimeout issuer => Sys2Proof.Machine.execFenceTimeout issuer s
  | .read port k => Sys2Proof.Machine.execRead port k s
  | .write port k => Sys2Proof.Machine.execWrite port k s
  | .writeAck port k => Sys2Proof.Machine.execWriteAck port k s
  | .atomic port k => Sys2Proof.Machine.execAtomic port k s
  | .atomicFetch port k => Sys2Proof.Machine.execAtomicFetch port k s
  | .ledgerAdd port k => Sys2Proof.Machine.execLedgerAdd port k s
  | .ledgerRead port k => Sys2Proof.Machine.execLedgerRead port k s
  | .ledgerReadClear port k => Sys2Proof.Machine.execLedgerReadClear port k s
  | .probe port k => Sys2Proof.Machine.execProbe port k s
  | .holdRelease port k => Sys2Proof.Machine.execHoldRelease port k s
  | .noticePost port k => Sys2Proof.Machine.execNoticePost port k s
  | .commitPoll port k => Sys2Proof.Machine.execCommitPoll port k s
  | .contrib port k => Sys2Proof.Machine.execContrib port k s
  | .contribLong port k => Sys2Proof.Machine.execContribLong port k s
  | .loanData port k => Sys2Proof.Machine.execLoanData port k s
  | .readRsp port k => Sys2Proof.Machine.execReadRsp port k s
  | .statusRsp port k => Sys2Proof.Machine.execStatusRsp port k s
  | .atomicRsp port k => Sys2Proof.Machine.execAtomicRsp port k s
  | .ledgerRsp port k => Sys2Proof.Machine.execLedgerRsp port k s
  | .probeRsp port k => Sys2Proof.Machine.execProbeRsp port k s
  | .commitAck port k => Sys2Proof.Machine.execCommitAck port k s
  | .mgmtReq port k => Sys2Proof.Machine.execMgmtReq port k s
  | .mgmtRsp port k => Sys2Proof.Machine.execMgmtRsp port k s
  | .retiredNotice port k => Sys2Proof.Machine.execRetiredNotice port k s
  | .faultReport port k => Sys2Proof.Machine.execFaultReport port k s
  | .faultAck port k => Sys2Proof.Machine.execFaultAck port k s
  | .mirrorAck port k => Sys2Proof.Machine.execMirrorAck port k s
  | .mirrorValue port k => Sys2Proof.Machine.execMirrorValue port k s
  | .mirrorRows port k => Sys2Proof.Machine.execMirrorRows port k s
  | .mirrorLogRecords port k => Sys2Proof.Machine.execMirrorLogRecords port k s
  | .snapshotBegin port k => Sys2Proof.Machine.execSnapshotBegin port k s
  | .snapshotEnd port k => Sys2Proof.Machine.execSnapshotEnd port k s
  | .restoreRequest port k => Sys2Proof.Machine.execRestoreRequest port k s
  | .restoreBegin port k => Sys2Proof.Machine.execRestoreBegin port k s
  | .timeSyncReq port k stamp => Sys2Proof.Machine.execTimeSyncReq port k stamp s
  | .timeSyncRsp port k stamp => Sys2Proof.Machine.execTimeSyncRsp port k stamp s
  | .passThrough port k => Sys2Proof.Machine.execPassThrough port k s
  | .trackerTimeout n => Sys2Proof.Machine.execTrackerTimeout n s
  | .trackerQuarantineExpiry n => Sys2Proof.Machine.execTrackerQuarantineExpiry n s
  | .commitAckDelayExpiry src issuer => Sys2Proof.Machine.execCommitAckDelayExpiry src issuer s
  | .commitPollIntervalExpiry dst issuer => Sys2Proof.Machine.execCommitPollIntervalExpiry dst issuer s
  | .pendingAckEntryFree port vc => Sys2Proof.Machine.execPendingAckEntryFree port vc s
  | .pairEntryFree issuer => Sys2Proof.Machine.execPairEntryFree issuer s
  | .probeRetry tray k => Sys2Proof.Machine.execProbeRetry tray k s
  | .probeRetryLimitExpiry tray k => Sys2Proof.Machine.execProbeRetryLimitExpiry tray k s
  | .holdTimeout hold => Sys2Proof.Machine.execHoldTimeout hold s
  | .windowOpen rq w => Sys2Proof.Machine.execWindowOpen rq w s
  | .windowModify rq w => Sys2Proof.Machine.execWindowModify rq w s
  | .windowClose rq w => Sys2Proof.Machine.execWindowClose rq w s
  | .windowDrainEnd w => Sys2Proof.Machine.execWindowDrainEnd w s
  | .windowDrainLimitExpiry w => Sys2Proof.Machine.execWindowDrainLimitExpiry w s
  | .partitionEditionRaise rq n => Sys2Proof.Machine.execPartitionEditionRaise rq n s
  | .editionExceptionSet rq ep ed => Sys2Proof.Machine.execEditionExceptionSet rq ep ed s
  | .editionExceptionClear rq ep => Sys2Proof.Machine.execEditionExceptionClear rq ep s
  | .fenceLostMark rq dst => Sys2Proof.Machine.execFenceLostMark rq dst s
  | .trayEnable rq t => Sys2Proof.Machine.execTrayEnable rq t s
  | .trayDisable rq t => Sys2Proof.Machine.execTrayDisable rq t s
  | .trayDrainEnd t => Sys2Proof.Machine.execTrayDrainEnd t s
  | .trayDrainLimitExpiry t => Sys2Proof.Machine.execTrayDrainLimitExpiry t s
  | .traySlotPoll t => Sys2Proof.Machine.execTraySlotPoll t s
  | .slotReadComplete t => Sys2Proof.Machine.execSlotReadComplete t s
  | .slipAdmissionDone t k => Sys2Proof.Machine.execSlipAdmissionDone t k s
  | .slipIssue t k => Sys2Proof.Machine.execSlipIssue t k s
  | .slipComplete t k => Sys2Proof.Machine.execSlipComplete t k s
  | .noticeWrite ring => Sys2Proof.Machine.execNoticeWrite ring s
  | .consumedCountPoll ring => Sys2Proof.Machine.execConsumedCountPoll ring s
  | .ringEnable rq ring => Sys2Proof.Machine.execRingEnable rq ring s
  | .ringDisable rq ring => Sys2Proof.Machine.execRingDisable rq ring s
  | .ringAttentionClear rq ring => Sys2Proof.Machine.execRingAttentionClear rq ring s
  | .ledgerClear rq first count => Sys2Proof.Machine.execLedgerClear rq first count s
  | .tileBurstDone collective tile => Sys2Proof.Machine.execTileBurstDone collective tile s
  | .tileSpill collective tile => Sys2Proof.Machine.execTileSpill collective tile s
  | .spillWaitExpiry slice => Sys2Proof.Machine.execSpillWaitExpiry slice s
  | .collectiveOpen rq e => Sys2Proof.Machine.execCollectiveOpen rq e s
  | .collectiveStart rq e => Sys2Proof.Machine.execCollectiveStart rq e s
  | .programLoad rq image => Sys2Proof.Machine.execProgramLoad rq image s
  | .collectiveAbort rq gate status => Sys2Proof.Machine.execCollectiveAbort rq gate status s
  | .sliceSelfTest rq => Sys2Proof.Machine.execSliceSelfTest rq s
  | .sliceSelfTestEnd pass => Sys2Proof.Machine.execSliceSelfTestEnd pass s
  | .sliceHardFailure phys => Sys2Proof.Machine.execSliceHardFailure phys s
  | .sliceSubstitutionDone => Sys2Proof.Machine.execSliceSubstitutionDone s
  | .seqFault e => Sys2Proof.Machine.execSeqFault e s
  | .seqAdd e => Sys2Proof.Machine.execSeqAdd e s
  | .seqSub e => Sys2Proof.Machine.execSeqSub e s
  | .seqAnd e => Sys2Proof.Machine.execSeqAnd e s
  | .seqOr e => Sys2Proof.Machine.execSeqOr e s
  | .seqXor e => Sys2Proof.Machine.execSeqXor e s
  | .seqShl e => Sys2Proof.Machine.execSeqShl e s
  | .seqShr e => Sys2Proof.Machine.execSeqShr e s
  | .seqMul e => Sys2Proof.Machine.execSeqMul e s
  | .seqDivu e => Sys2Proof.Machine.execSeqDivu e s
  | .seqMinu e => Sys2Proof.Machine.execSeqMinu e s
  | .seqMaxu e => Sys2Proof.Machine.execSeqMaxu e s
  | .seqAddi e => Sys2Proof.Machine.execSeqAddi e s
  | .seqLi e => Sys2Proof.Machine.execSeqLi e s
  | .seqSli e => Sys2Proof.Machine.execSeqSli e s
  | .seqBeq e => Sys2Proof.Machine.execSeqBeq e s
  | .seqBne e => Sys2Proof.Machine.execSeqBne e s
  | .seqBltu e => Sys2Proof.Machine.execSeqBltu e s
  | .seqBgeu e => Sys2Proof.Machine.execSeqBgeu e s
  | .seqJ e => Sys2Proof.Machine.execSeqJ e s
  | .seqLdd e => Sys2Proof.Machine.execSeqLdd e s
  | .seqStd e => Sys2Proof.Machine.execSeqStd e s
  | .seqLdh e => Sys2Proof.Machine.execSeqLdh e s
  | .seqBld e => Sys2Proof.Machine.execSeqBld e s
  | .seqRld e => Sys2Proof.Machine.execSeqRld e s
  | .sequencerHostReadDone e => Sys2Proof.Machine.execSequencerHostReadDone e s
  | .seqTime e => Sys2Proof.Machine.execSeqTime e s
  | .seqSend e => Sys2Proof.Machine.execSeqSend e s
  | .seqWaits e => Sys2Proof.Machine.execSeqWaits e s
  | .seqWaitc e => Sys2Proof.Machine.execSeqWaitc e s
  | .seqTokall e => Sys2Proof.Machine.execSeqTokall e s
  | .seqToken e => Sys2Proof.Machine.execSeqToken e s
  | .seqWaitg e => Sys2Proof.Machine.execSeqWaitg e s
  | .seqRdc e => Sys2Proof.Machine.execSeqRdc e s
  | .seqRdg e => Sys2Proof.Machine.execSeqRdg e s
  | .seqDone e => Sys2Proof.Machine.execSeqDone e s
  | .seqAbort e => Sys2Proof.Machine.execSeqAbort e s
  | .waitConditionMet e => Sys2Proof.Machine.execWaitConditionMet e s
  | .waitLimitExpiry e => Sys2Proof.Machine.execWaitLimitExpiry e s
  | .guardWaitExpiry e => Sys2Proof.Machine.execGuardWaitExpiry e s
  | .abortFanoutInvocation rank => Sys2Proof.Machine.execAbortFanoutInvocation rank s
  | .collectiveNotice e => Sys2Proof.Machine.execCollectiveNotice e s
  | .routeRowWrite rq cn row v => Sys2Proof.Machine.execRouteRowWrite rq cn row v s
  | .loanSet rq => Sys2Proof.Machine.execLoanSet rq s
  | .loanClose rq n => Sys2Proof.Machine.execLoanClose rq n s
  | .loanCloseDrainEnd n => Sys2Proof.Machine.execLoanCloseDrainEnd n s
  | .loanDrainLimitExpiry n => Sys2Proof.Machine.execLoanDrainLimitExpiry n s
  | .loanOpen rq => Sys2Proof.Machine.execLoanOpen rq s
  | .loanHopOpen rq a => Sys2Proof.Machine.execLoanHopOpen rq a s
  | .loanHopClose rq n => Sys2Proof.Machine.execLoanHopClose rq n s
  | .loanHopWaitExpiry p q n => Sys2Proof.Machine.execLoanHopWaitExpiry p q n s
  | .loanExpiry dst issuer => Sys2Proof.Machine.execLoanExpiry dst issuer s
  | .schedulerChoose p => Sys2Proof.Machine.execSchedulerChoose p s
  | .shaperRefill => Sys2Proof.Machine.execShaperRefill s
  | .policerRefill => Sys2Proof.Machine.execPolicerRefill s
  | .queueConfigWrite rq p q v => Sys2Proof.Machine.execQueueConfigWrite rq p q v s
  | .policerWrite rq n v => Sys2Proof.Machine.execPolicerWrite rq n v s
  | .depthSample p => Sys2Proof.Machine.execDepthSample p s
  | .sampleClear rq p => Sys2Proof.Machine.execSampleClear rq p s
  | .flitTransmit p => Sys2Proof.Machine.execFlitTransmit p s
  | .flitReceive p lane bits badCodeword => Sys2Proof.Machine.execFlitReceive p lane bits badCodeword s
  | .replayTimeout p => Sys2Proof.Machine.execReplayTimeout p s
  | .laneNull p on rec => Sys2Proof.Machine.execLaneNull p on rec s
  | .laneAdd p on rec => Sys2Proof.Machine.execLaneAdd p on rec s
  | .laneRemove p on rec => Sys2Proof.Machine.execLaneRemove p on rec s
  | .laneRequestAdd p on rec => Sys2Proof.Machine.execLaneRequestAdd p on rec s
  | .laneRequestRemove p on rec => Sys2Proof.Machine.execLaneRequestRemove p on rec s
  | .laneRefuse p on rec => Sys2Proof.Machine.execLaneRefuse p on rec s
  | .laneHush p on rec => Sys2Proof.Machine.execLaneHush p on rec s
  | .laneShelve p on rec => Sys2Proof.Machine.execLaneShelve p on rec s
  | .laneTestEnter p on rec => Sys2Proof.Machine.execLaneTestEnter p on rec s
  | .laneTestExit p on rec => Sys2Proof.Machine.execLaneTestExit p on rec s
  | .laneChangeAdd rq p lane => Sys2Proof.Machine.execLaneChangeAdd rq p lane s
  | .laneChangeRemove rq p lane => Sys2Proof.Machine.execLaneChangeRemove rq p lane s
  | .losAssert p moment => Sys2Proof.Machine.execLosAssert p moment s
  | .lolAssert p lane => Sys2Proof.Machine.execLolAssert p lane s
  | .uncorrectableCodeword p cw => Sys2Proof.Machine.execUncorrectableCodeword p cw s
  | .gracePeriodExpiry p => Sys2Proof.Machine.execGracePeriodExpiry p s
  | .retrainStart p => Sys2Proof.Machine.execRetrainStart p s
  | .portRetrain rq p => Sys2Proof.Machine.execPortRetrain rq p s
  | .trainingBlock p lane bits => Sys2Proof.Machine.execTrainingBlock p lane bits s
  | .alignmentAndFillerCodeword p cw msg => Sys2Proof.Machine.execAlignmentAndFillerCodeword p cw msg s
  | .trainingComplete p => Sys2Proof.Machine.execTrainingComplete p s
  | .trainingLimitExpiry p => Sys2Proof.Machine.execTrainingLimitExpiry p s
  | .trainingStageTimeout p lane => Sys2Proof.Machine.execTrainingStageTimeout p lane s
  | .fastRetrainLimitExpiry p => Sys2Proof.Machine.execFastRetrainLimitExpiry p s
  | .laneRetryIntervalExpiry p lane => Sys2Proof.Machine.execLaneRetryIntervalExpiry p lane s
  | .laneWakeComplete p lane => Sys2Proof.Machine.execLaneWakeComplete p lane s
  | .rxWidthTargetWrite rq p v => Sys2Proof.Machine.execRxWidthTargetWrite rq p v s
  | .laneTestStop rq p lane duration => Sys2Proof.Machine.execLaneTestStop rq p lane duration s
  | .laneTestGenerate rq p lane duration => Sys2Proof.Machine.execLaneTestGenerate rq p lane duration s
  | .laneTestCheck rq p lane duration => Sys2Proof.Machine.execLaneTestCheck rq p lane duration s
  | .laneTestNearSerial rq p lane duration => Sys2Proof.Machine.execLaneTestNearSerial rq p lane duration s
  | .laneTestNearParallel rq p lane duration => Sys2Proof.Machine.execLaneTestNearParallel rq p lane duration s
  | .laneTestFar rq p lane duration => Sys2Proof.Machine.execLaneTestFar rq p lane duration s
  | .laneTestDurationExpiry p lane => Sys2Proof.Machine.execLaneTestDurationExpiry p lane s
  | .errorInjectWrite rq p lane v => Sys2Proof.Machine.execErrorInjectWrite rq p lane v s
  | .errorInjection p lane => Sys2Proof.Machine.execErrorInjection p lane s
  | .syncIntervalExpiry stamp => Sys2Proof.Machine.execSyncIntervalExpiry stamp s
  | .syncTimeout => Sys2Proof.Machine.execSyncTimeout s
  | .holdoverEntry => Sys2Proof.Machine.execHoldoverEntry s
  | .timeSet rq v => Sys2Proof.Machine.execTimeSet rq v s
  | .markModeWrite rq v => Sys2Proof.Machine.execMarkModeWrite rq v s
  | .markPeriodBoundary => Sys2Proof.Machine.execMarkPeriodBoundary s
  | .markInEdge => Sys2Proof.Machine.execMarkInEdge s
  | .markInStop => Sys2Proof.Machine.execMarkInStop s
  | .odcClear rq mask => Sys2Proof.Machine.execOdcClear rq mask s
  | .snapshotTake rq mask t => Sys2Proof.Machine.execSnapshotTake rq mask t s
  | .snapshotTimeReached => Sys2Proof.Machine.execSnapshotTimeReached s
  | .traceLineFlush => Sys2Proof.Machine.execTraceLineFlush s
  | .traceDrain => Sys2Proof.Machine.execTraceDrain s
  | .globalStop rq => Sys2Proof.Machine.execGlobalStop rq s
  | .scanRead rq chain first => Sys2Proof.Machine.execScanRead rq chain first s
  | .extest boundary => Sys2Proof.Machine.execExtest boundary s
  | .idcode => Sys2Proof.Machine.execIdcode s
  | .samplePreload shiftIn => Sys2Proof.Machine.execSamplePreload shiftIn s
  | .scanSelect chain => Sys2Proof.Machine.execScanSelect chain s
  | .scanData bits => Sys2Proof.Machine.execScanData bits s
  | .bypass tdi => Sys2Proof.Machine.execBypass tdi s
  | .watchdogCheck findings => Sys2Proof.Machine.execWatchdogCheck findings s
  | .mgmtWatchdogExpiry => Sys2Proof.Machine.execMgmtWatchdogExpiry s
  | .mgmtRestartComplete => Sys2Proof.Machine.execMgmtRestartComplete s
  | .uncorrectableWord site => Sys2Proof.Machine.execUncorrectableWord site s
  | .stuckBitTest site stuck => Sys2Proof.Machine.execStuckBitTest site stuck s
  | .rowReplacementDone bank row => Sys2Proof.Machine.execRowReplacementDone bank row s
  | .trackerHardFailure n stuck => Sys2Proof.Machine.execTrackerHardFailure n stuck s
  | .partitionReset rq n => Sys2Proof.Machine.execPartitionReset rq n s
  | .drainComplete n => Sys2Proof.Machine.execDrainComplete n s
  | .drainLimitExpiry n => Sys2Proof.Machine.execDrainLimitExpiry n s
  | .partitionReady rq n => Sys2Proof.Machine.execPartitionReady rq n s
  | .partitionQuietExpiry n => Sys2Proof.Machine.execPartitionQuietExpiry n s
  | .gateAdmit rq n ctx => Sys2Proof.Machine.execGateAdmit rq n ctx s
  | .gateClear rq n ctx => Sys2Proof.Machine.execGateClear rq n ctx s
  | .gateOpen rq n => Sys2Proof.Machine.execGateOpen rq n s
  | .contextListClear rq => Sys2Proof.Machine.execContextListClear rq s
  | .faultResend => Sys2Proof.Machine.execFaultResend s
  | .notifyAck addr udp d => Sys2Proof.Machine.execNotifyAck addr udp d s
  | .request addr udp d => Sys2Proof.Machine.execRequest addr udp d s
  | .nextItem addr udp d => Sys2Proof.Machine.execNextItem addr udp d s
  | .discover addr udp unicast d => Sys2Proof.Machine.execDiscover addr udp unicast d s
  | .discoverDelayExpiry => Sys2Proof.Machine.execDiscoverDelayExpiry s
  | .neighbourSolicitation src target => Sys2Proof.Machine.execNeighbourSolicitation src target s
  | .echoRequest src dst payload => Sys2Proof.Machine.execEchoRequest src dst payload s
  | .shelfEnableWrite rq v => Sys2Proof.Machine.execShelfEnableWrite rq v s
  | .clientIdleExpiry ident port => Sys2Proof.Machine.execClientIdleExpiry ident port s
  | .ownerLeaseExpiry => Sys2Proof.Machine.execOwnerLeaseExpiry s
  | .commissionEnter rq => Sys2Proof.Machine.execCommissionEnter rq s
  | .commissionCommit rq => Sys2Proof.Machine.execCommissionCommit rq s
  | .commissionRetire rq => Sys2Proof.Machine.execCommissionRetire rq s
  | .hostSlotWrite offset bytes => Sys2Proof.Machine.execHostSlotWrite offset bytes s
  | .hostSlotRead offset len => Sys2Proof.Machine.execHostSlotRead offset len s
  | .hostAccessStart header => Sys2Proof.Machine.execHostAccessStart header s
  | .catalogueWrite rq cn row v => Sys2Proof.Machine.execCatalogueWrite rq cn row v s
  | .mirrorResendExpiry => Sys2Proof.Machine.execMirrorResendExpiry s
  | .mirrorLostLimitExpiry => Sys2Proof.Machine.execMirrorLostLimitExpiry s
  | .mirrorCommitWaitExpiry => Sys2Proof.Machine.execMirrorCommitWaitExpiry s
  | .counterpartRestore rq ep port ed => Sys2Proof.Machine.execCounterpartRestore rq ep port ed s
  | .restoreTimeout => Sys2Proof.Machine.execRestoreTimeout s
  | .logRecordForm => Sys2Proof.Machine.execLogRecordForm s
  | .logDrainWrite => Sys2Proof.Machine.execLogDrainWrite s
  | .remoteNoticePostTimeout tray k => Sys2Proof.Machine.execRemoteNoticePostTimeout tray k s
  | .checkerLock p lane => Sys2Proof.Machine.execCheckerLock p lane s
  | .checkerSyncLoss p lane bits errors => Sys2Proof.Machine.execCheckerSyncLoss p lane bits errors s
  | .markWidthExpiry => Sys2Proof.Machine.execMarkWidthExpiry s
  | .notify d => Sys2Proof.Machine.execNotify d s
  | .response d => Sys2Proof.Machine.execResponse d s
  | .discoverRsp d => Sys2Proof.Machine.execDiscoverRsp d s
  | .neighbourAdvertisement target => Sys2Proof.Machine.execNeighbourAdvertisement target s
  | .malformedPacket port k => Sys2Proof.Machine.execMalformedPacket port k s
  | .privateTestMode op => Sys2Proof.Machine.execPrivateTestMode op s

end Sys2Proof.Machine
end

