-- ==== Sys2Proof/Machine/Tick.lean ====
section
/-! DEFINITION. One cycle of the fabric-time island (R279): what the block does with no command waiting
(log entry 3). -/

namespace Sys2Proof.Machine

/-- At each cycle the island adds its rate word to the 96-bit accumulator (R279), but not in power-on
reset, which holds the always-on island (R349). -/
def tickTime (s : State) : State :=
  { s with time.acc := (s.time.acc + get s 0x9002_04) % 2 ^ 96, time.cycles := s.time.cycles + 1 }

/-- The trace bandwidth cap of one cycle of 0.8 ns (R296): its bucket gains 8 hundredths of a byte for each
0.1 GB/s, up to the 4,096 bytes it holds. -/
def tickTrace (s : State) : State :=
  { s with observe.bucket := min 409600 (s.observe.bucket + 8 * fld (get s 0xC000_02) 63 48) }

/-- The management core takes a branch (R295). -/
def tickCore (s : State) : State :=
  if firmwareRuns s && Config.freeBranch s.time.cycles then coreRecord s 0 else s

/-! ### What is counted in cycles -/

/-- Port cycles, of 0.64 ns, that begin in this cycle of 0.8 ns (R234). -/
def tickPortCycles (s : State) : Nat := portCyclesAt (s.time.cycles + 1) - portCyclesAt s.time.cycles

/-- Central cycles, of 1/1.3 ns, that begin in this cycle of 0.8 ns: 26 in 25; while DROOP_N is low every second one
is skipped (R9, R350). -/
def tickCentralCycles (s : State) : Nat :=
  let rate := if s.power.droop then 13 else 26
  (s.time.cycles + 1) * rate / 25 - s.time.cycles * rate / 25

/-- An engine request waits only for a tracker (R56). -/
def engineWantsTracker (s : State) (w : EspWait) : Bool :=
  w.op < 8 && !espPosted w.op && w.next < (espPieces w.op w.req).length &&
    (let k := espPacket s w.op w.req w.next
     !issuerHeld s k.issuer && !trackersLeft s ((viaOf s k.dst).getD 15) 1)

/-- A slip's presented request waits only for a tracker (R56). -/
def slipWantsTracker (s : State) (w : SlipWait) : Bool :=
  match ctx? s w.tray w.k with
  | none => false
  | some c =>
    w.item != .post && (w.item == .probe || !slUseLoan c.bits) && (wanted s c).contains w.item &&
      !issuerHeld s c.issuer && !trackersLeft s ((viaOf s (slEndpoint c.bits)).getD 15) 1

/-- A waiting request that is first of its issuer waits only for a tracker (R56, R74). -/
def wantsTracker (s : State) (w : Waiting) : Bool :=
  s.switch.waits.find? (fun v => v.issuer s == w.issuer s) == some w && !fenced s (w.issuer s) &&
    match w with
    | .engine w => engineWantsTracker s w
    | .slip w => slipWantsTracker s w
    | .release _ _ _ => false

/-- Event 0x06 (Table 13.6): a cycle in which a request waits for a tracker (log entry 55). -/
def trackerWanted (s : State) : Bool := s.switch.waits.any (wantsTracker s) || !s.switch.mgmtWaits.isEmpty

/-- Event 0x0B (Table 13.6): a transmitter has a packet to send that only the partner's xoff holds back
(R216, R219). -/
def heldByXoff (s : State) (p : Nat) : Bool :=
  peerXoff s p && (port s p).queues.any fun e =>
    match e.2 with
    | [] => false
    | d :: _ => shaperAllows s p e.1 && !creditFor s p d.k.vc (sizeOf d.k)

/-- The counters of one port in this cycle: those of its checkers (R252), those of its codewords (R230), of which one comes
in 16 cycles, xoff_time while this receiver sends
xoff (Table 10.8), and event 0x0B. -/
def tickPort (s : State) (p : Nat) : State :=
  let s := if portPowered s p then forEach (upFrom 0 10) (checkerCycle p) s else s
  let s := if portPowered s p && (s.time.cycles + 1) % 16 = 0 then forEach (upFrom 0 10) (codewordCycle p) s else s
  if portPowered s p && portTakes s p then
    let n := tickPortCycles s
    let s := if (port s p).xoff && isUp s p then count s (ofPort p 0x2020_0D) 64 n else s
    if heldByXoff s p then odc s 0x0B (some p) none n else s
  else s

/-- All that is counted in cycles. -/
def tickCounts (s : State) : State :=
  let s := if trackerWanted s then odc s 0x06 none none (tickCentralCycles s) else s
  forEach (upFrom 0 8) tickPort s

/-- The frames of the lanes begin every 13.12 µs (R230). -/
def tickFrames (s : State) : State :=
  if (s.time.cycles + 1) % frameCycles = 0 then forEach (upFrom 0 8) framesBegin s else s

/-- A response that the engine takes leaves its port (R342, Table 16.1). -/
def takeResponse (s : State) (port : Nat) : State :=
  match s.host.responses.find? fun r => r.port == port with
  | some r => if Config.freeReady s.time.cycles port then { s with host.responses := s.host.responses.erase r } else s
  | none => s

/-- The valid/ready channels in one cycle: each memory-side port raises valid for its next request, and a beat and a
response transfer where the host holds ready (R342; log entry 71). -/
def tickChannels (s : State) : State :=
  let s := forEach (upFrom 0 12)
    (fun s m =>
      if unitsRun s (4 + m / 2) then
        let s := if Config.freeReady s.time.cycles (8 + m) then takeBeat s m else s
        presentNext s m
      else s) s
  if unitsRun s 3 then forEach (upFrom 0 8) takeResponse s else s

/-- A cycle with no command waiting. Duplicate address detection ends here, while the management firmware runs
(R272, log entry 6). -/
def tick (s : State) : State :=
  if s.power.porLow then s
  else
    let s := if held s then s else tickChannels (tickTrace (tickCore (tickFrames (tickCounts s))))
    let s := tickTime s
    if s.mgmt.dad && firmwareRuns s then { s with mgmt.dad := false } else s

end Sys2Proof.Machine
end

