-- ==== Sys2Proof/Safety.lean ====
section
/-! DEFINITION. What a sound state of the block is: the facts that every command keeps and that
statements over all states rest on. -/

namespace Sys2Proof.Machine

/-- The carrel's bytes and the Catalogue store are in their canonical form: keys strictly rising, and no listed
byte equals what an unlisted one reads as; at most 32 invocations run (R260); every port keeps its place. -/
structure Sound (s : State) : Prop where
  carrel : Memory.wf s.carrel.mem = true
  store : sortedT s.cat = true
  running : s.mgmt.running.length ≤ invocationLimit
  ports : s.ports.length = 8

/-! ### The terms of the claims -/

/-- The command is answered, and `P` holds of the state it leaves. -/
def Leaves (o : Out) (P : State → Prop) : Prop := ∃ t, o = .next t ∧ P t

/-- The command is answered: `P` holds of the state that its own effect leaves, from which the block goes on to
what the effect set off (log entry 4). Where nothing waits (`quiet`) that is the state answered. -/
def Does (o : Out) (P : State → Prop) : Prop := ∃ u, o = .next (settle u) ∧ P u

/-- The Catalogue's objects and rows read as before, those of `cns` apart. -/
def StoreFrame (s t : State) (cns : List Nat) : Prop :=
  ∀ cn row, row < 2 ^ 32 → cn ∉ cns → getRow t cn row = getRow s cn row

/-- The checks of R264 let an item through. -/
def passes (r : Except CheckEnd Obj) : Bool :=
  match r with
  | .ok _ => true
  | .error _ => false

/-- An invocation of the command at `cn` that is carried out at once: the management core answers, nothing of the
requester or the log's queue is waited for, and every check of R264 and R260 passes. -/
structure Granted (s : State) (rq : Requester) (cn : Nat) (xs : List Nat) : Prop where
  serves : serves s rq cn = true
  behind : s.mgmt.waiting = []
  once : hostRunning s rq cn = false
  checks : passes (itemChecks (renewLease s rq) rq (invokeItem cn xs)) = true
  room : logFull s cn = false
  places : invocations s < invocationLimit
  moves : commandHalted s cn = false

/-- A WRITE of row `row` of `cn` that is carried out at once: likewise, and no rule of the object refuses it. -/
structure GrantedWrite (s : State) (rq : Requester) (cn row v : Nat) : Prop where
  serves : serves s rq cn = true
  behind : s.mgmt.waiting = []
  checks : passes (itemChecks (renewLease s rq) rq (writeItem s cn row v)) = true
  room : logFull s cn = false
  moves : (stopped s && haltedObject cn) = false
  home : homeRefusal (renewLease s rq) cn v = none
  plain : cn ≠ 0x1100_00 ∧ cn ≠ 0xE000_01
  fits : v < 2 ^ (8 * valueWidth s cn)

/-- A WRITE of `v` to commission_state (Table 12.5) that reaches its rule: as `GrantedWrite`. -/
structure GrantedCommission (s : State) (rq : Requester) (v : Nat) : Prop where
  serves : serves s rq 0x1100_00 = true
  behind : s.mgmt.waiting = []
  checks : passes (itemChecks (renewLease s rq) rq (writeItem s 0x1100_00 0 v)) = true
  room : logFull s 0x1100_00 = false
  moves : (stopped s && haltedObject 0x1100_00) = false

/-- The log after an invocation of the command at `cn` has returned `st`: a status of OK or OK_EMPTY writes one
CONFIG record (R339). `d` is the digest of its argument. -/
def doneLog (t : State) (cn st d : Nat) (rq : Requester) : LogState :=
  if (st = stOk || st = stEmpty) && !unrecorded cn then
    { t.log with queue := t.log.queue ++
        [{ bits := recordBits (now t) 9 0x10 st (Path.code rq.cls) (configDetail cn 2 0 0 d rq) }] }
  else t.log

/-- The invocation has returned OK with result `r`: its slot reads DONE, the log has its record, and besides the
slot, the count of accesses carried out (`1110.03`) and `touched` no object of the Catalogue has changed; of the
management core only the owner's lease may be renewed (R267), and the slot shows no earlier invocation any more (R259). -/
structure Completed (s t : State) (rq : Requester) (cn r : Nat) (touched : List Nat) : Prop where
  slot : get t cn = cmdValue 2 stOk r
  store : StoreFrame s t (cn :: 0x1110_03 :: touched)
  mgmt : t.mgmt = { (newInvocation s cn).mgmt with leaseOver := t.mgmt.leaseOver }
  log : ∃ d, t.log = doneLog s cn stOk d rq

/-- A packet at port `p` (15 stands for the block's own switch) that is addressed here and that nothing ahead of it
holds passes the checks of R63 up to admission or the tag match, which leave the state `t`. -/
structure Checked (s : State) (p : Nat) (k : Packet) (t : State) : Prop where
  works : switchOn s = true
  port : p = 15 ∨ p < portsOf s.part
  first : packetWaits s p k = false
  here : passesBy s k = false
  checks : arrive s p k rulesOf = .go t

/-- A memory-side request that a packet's access presents, all of it in one piece. -/
def packetReq (op a row offset len : Nat) (data : List Byte) (poison : Bool) : MspReq :=
  { op := op, poison := poison, context := winContext row, segment := winSegment row, offset := offset, length := len,
    data := data, enabled := true, access := a, piece := 0, waited := false }

/-- No line of the port is locked and no request waits for one. -/
def noLocksAt (s : State) (m : Nat) : Prop := (∀ l ∈ s.host.locks, l.port ≠ m) ∧ ∀ e ∈ s.host.lockWaits, e.1 ≠ m

/-- No counterpart is fed: the pairing state is UNPAIRED or LOST (Table 15.1), so a change forms no update. -/
def unmirrored (s : State) : Prop := pairing s ≠ 1 ∧ pairing s ≠ 2

/-- No invocation of the command at `cn` that an event finds by `arg` runs. -/
def noneRuns (s : State) (cn arg : Nat) : Prop := ∀ v ∈ s.mgmt.running, ¬(v.cn = cn ∧ v.arg = arg)

/-- The invocation of the command at `cn` that an event finds by `arg` is the latest one of its command. -/
def latestRuns (s : State) (cn arg : Nat) : Prop := ∃ v, runningInvocation s cn arg = some v ∧ v.latest = true

/-- Each invocation that runs would find the place of its record in the log's queue (R340). -/
def recordsFit (s : State) : Prop := s.log.queue.length + s.mgmt.running.length ≤ logPlaces

/-- The link layer and the lanes of port `p` are powered and out of reset, and the port has its ten lanes. -/
structure PortRuns (s : State) (p : Nat) : Prop where
  powered : portPowered s p = true
  ports : s.ports.length = 8
  lanes : (port s p).lanes.length = 10

end Sys2Proof.Machine
end

