-- ==== Sys2Proof/Certificates/Slice0/Obligations.lean ====
section
/-! DEFINITION. The statements for the provers. -/

section

open Sys2Proof Sys2Proof.Machine

/-- A step takes the command at the front of the queue and runs it on the state with the queue's rest. -/
def Obligations.StepRunsTheFrontCommand : Prop :=
  ∀ (c : Instr) (cs : List Instr) (s : State),
    step { s with pending := c :: cs } = exec c { s with pending := cs }

/-- With no command waiting a step is one cycle of the fabric clock, the model's choice (log entry 3): the 96-bit
accumulator gains the rate word (R279), and a running duplicate address detection may end. While no reset holds the
block, xoff_time grows by the port cycles (log entry 55) of each UP port whose receiver sends xoff, the lanes under test
generate and check their patterns, codewords are counted, frames begin, a request that a memory-side port presents stays
presented, an engine may take responses (log entry 71), and the trace bandwidth bucket refills; beyond this only the
management core's own trace records may be written, and on-demand counters may count. Power-on reset holds
everything, a block reset everything but the island's time. -/
def Obligations.IdleStepIsOneCycle : Prop :=
  ∀ s : State, s.pending = [] →
    Leaves (step s) fun t =>
      (s.power.porLow = true → t = s) ∧
      (s.power.porLow = false →
        t.time = { s.time with acc := (s.time.acc + get s 0x9002_04) % 2 ^ 96, cycles := s.time.cycles + 1 } ∧
        t.mgmt = { s.mgmt with dad := s.mgmt.dad && !firmwareRuns s } ∧
        (∀ p, p < 8 → get t (ofPort p 0x2020_0D) =
          if !s.power.blockLow && portPowered s p && isUp s p && (port s p).xoff then
            (get s (ofPort p 0x2020_0D) + ((s.time.cycles + 1) * 5 / 4 - s.time.cycles * 5 / 4)) % 2 ^ 64
          else get s (ofPort p 0x2020_0D)) ∧
        (∀ p n, p < 8 → n < 10 → (lane s p n).test = 0 →
          ∀ cn ∈ [0x300C_01, 0x300D_01, 0x300E_01, 0x3011_01], get t (ofLane p n cn) = get s (ofLane p n cn)) ∧
        StoreFrame s t ((upFrom 0 8).map (ofPort · 0x2020_0D) ++ (upFrom 0 16).map (0xD101_01 + ·) ++
          (upFrom 0 12).map (0x8062_01 + ·) ++ [0xC000_04, 0xC000_05] ++
          (upFrom 0 8).flatMap fun p => (upFrom 0 10).flatMap fun n =>
            [0x3003_01, 0x3004_01, 0x3006_01, 0x300C_01, 0x300D_01, 0x300E_01, 0x3011_01].map (ofLane p n)) ∧
        (∀ p, port t p = { port s p with frames := (port t p).frames, lanes := (port t p).lanes }) ∧
        ((s.time.cycles + 1) % frameCycles ≠ 0 → ∀ p, (port t p).frames = (port s p).frames) ∧
        (∀ m r, lookupT s.host.valid m = some r → lookupT t.host.valid m = some r) ∧
        t.host.responses.Sublist s.host.responses ∧
        (tracing s 0 0 = false →
          t.observe = { s.observe with bucket := t.observe.bucket } ∧
          (s.power.blockLow = false →
            t.observe.bucket = min 409600 (s.observe.bucket + 8 * fld (get s 0xC000_02) 63 48)) ∧
          t.host = { s.host with valid := t.host.valid, beats := t.host.beats, locks := t.host.locks,
                                 responses := t.host.responses }) ∧
        (s.power.blockLow = true → t = { s with time := t.time, mgmt := t.mgmt }) ∧
        t = { s with time := t.time, observe := t.observe, mgmt := t.mgmt, cat := t.cat,
                     freeCount := t.freeCount, ports := t.ports, host := t.host })

/-- Reset: the objects read the defaults of chapter 17 (a few of each kind named here), the block is
UNCOMMISSIONED with no identifier, every port is INIT, the management core is in BOOT, no partition is down,
no command waits, and the log holds the POWER_UP record yet to be formed. -/
def Obligations.ResetLeavesDefaults : Prop :=
  let s := State.reset
  s.pending = [] ∧ s.cat = [] ∧ get s 0x1000_01 = 0xEB7A ∧ get s 0x1000_02 = 0x5808 ∧ get s 0x1000_03 = 0x10 ∧
    get s 0x1001_00 = 0x3FFFFF ∧ commission s = 0 ∧ get s 0x1101_01 = 0x1FFFF ∧ get s 0x1101_02 = 0x1FFF9 ∧
    get s 0x8010_03 = 0 ∧ get s 0xE000_01 = 0x3FFFFFFFFFFFF ∧ partitionState s 0 = 0 ∧
    (∀ p < 8, linkState s p = 0) ∧ s.time.acc = 0 ∧ get s 0xF000_00 = 0 ∧ s.log.queue.length = 1 ∧
    s.switch.trackers = [] ∧ s.switch.pairs = [] ∧ s.host.accesses = [] ∧ s.carrel.mem = [] ∧ s.mgmt.running = []

/-- The invariant of `Sound` holds at reset. -/
def Obligations.ResetIsSound : Prop :=
 Sound State.reset

/-- From every sound state every step that answers leaves a sound state: the carrel's bytes and the Catalogue's
store keep their canonical form, at most 32 invocations run (R260) and eight ports stay. The part never
changes, and of the queue exactly the front command has gone. -/
def Obligations.EveryStepKeepsSound : Prop :=
  ∀ s t : State, Sound s → step s = .next t →
    Sound t ∧ t.part = s.part ∧ t.pending = s.pending.tail

/-- A packet laid out in its two header slots and its data slots (Table 3.2) is read back from them as it was,
where each header field lies in its width and each data slot has 128 bits; abort and the held post do not
travel in the slots. -/
def Obligations.PacketsSurviveTheWire : Prop :=
  ∀ k : Packet,
    k.partition < 2 ^ 4 → k.partitionEdition < 2 ^ 8 → k.tracker < 2 ^ 16 → k.turn < 2 ^ 4 → k.issuer < 2 ^ 10 →
    k.opspec < 2 ^ 86 → k.crc < 2 ^ 32 → k.dst < 2 ^ 22 → k.dstEdition < 2 ^ 8 → k.src < 2 ^ 22 →
    k.srcEdition < 2 ^ 8 → k.opcode < 2 ^ 8 → k.slotCount < 2 ^ 8 → k.lastByte < 2 ^ 4 → k.vc < 2 ^ 3 →
    k.colour < 2 ^ 2 → k.reserved < 2 ^ 10 → (∀ x ∈ k.data, x < 2 ^ 128) →
    packetOf (packetSlots k) k.abort k.postHold = k

/-- POR_N low puts every domain in reset (R349): every object and every other piece of state is at its value at
power-up but for the levels of the other pins, power_state, which keeps domains 0 and 1, and the log, which is
lost. At its rise the POWER_UP record waits (R361) and nothing else of the log or of fabric time moves.
BLOCK_RST_N low resets and holds the block (R317, R349): fabric time, the log and the objects R317 and R367 keep are as
they were, every other object but power_state and power_busy reads its default, every port is INIT, the block is
UNCOMMISSIONED, and the state of the rest is that of power-up but for what R317 and the pins keep; a change of
pairing_state or commission_state that the reset makes has its record in the log. At its rise whole_block_resets is one
more and a BLOCK_RESET record waits. A change of level that is no edge does nothing. DROOP_N changes only its pin (R350). PART_RST_N rising releases its pin; its fall begins a reset of a
partition that is NORMAL or HUNG and is otherwise ignored beyond the pin's level (R349). -/
def Obligations.PinsAct : Prop :=
  (∀ s : State,
    Leaves (exec .porAssert s) fun t =>
      get t 0xE000_02 = 3 ∧ StoreFrame { s with cat := [] } t [0xE000_02] ∧
      t = { State.reset with
              part := s.part, pending := s.pending, freeCount := s.freeCount, cat := t.cat,
              log := { LogState.reset with queue := [] }, mgmt := { MgmtState.reset with mii := s.mgmt.mii },
              power := { PowerState.reset s.part with
                porLow := true, blockLow := s.power.blockLow, partLow := s.power.partLow, droop := s.power.droop,
                pdReq := 0 } }) ∧
  (∀ s : State, s.power.porLow = true → get s 0xE000_02 = 3 →
    Leaves (exec .porRelease s) fun t =>
      t.power.porLow = false ∧ t.power.blockLow = s.power.blockLow ∧ t.time = s.time ∧
      (s.log.queue.length < 256 →
        t.log = { s.log with queue := s.log.queue ++
          [{ bits := recordBits (now s) 0 0x01 0 0 (partCode s.part * 2 ^ 288 + 0x10 * 2 ^ 280) + lateBits s }] })) ∧
  (∀ s : State, s.power.porLow = false → exec .porRelease s = .next s) ∧
  (∀ s : State, s.power.porLow = true → exec .blockRstAssert s = .next { s with power.blockLow := true }) ∧
  (∀ (s : State) (c : Instr) (rise : Bool),
    (c, rise) ∈ [(.blockRstAssert, false), (.blockRstRelease, true)] → s.power.porLow = false →
    (rise = true → s.power.blockLow = true ∧ ∀ d < 50, domainOn s d = true → bit (partDomains s.part) d = true) →
    Leaves (exec c s) fun t =>
      t.power.blockLow = !rise ∧ t.power.porLow = false ∧ t.power.partLow = s.power.partLow ∧
      t.power.droop = s.power.droop ∧
      (∀ cn row, row < 2 ^ 32 → keptAtReset cn = true → cn ∉ [0xD000_01, 0xF003_00, 0xF004_00] →
        getRow t cn row = getRow s cn row) ∧
      get t 0xD000_01 = (if rise then min (get s 0xD000_01 + 1) (2 ^ 32 - 1) else get s 0xD000_01) ∧
      get t 0xE000_02 = get s 0xE000_02 ∧
      (∀ cn row, row < 2 ^ 32 → keptAtReset cn = false → cn ∉ [0xE000_02, 0xE000_03] →
        getRow t cn row = getRow { t with cat := [] } cn row) ∧
      commission t = 0 ∧ (∀ p < 8, linkState t p = 0) ∧
      (s.log.queue.length < 254 → ∃ rs,
        t.log.queue = s.log.queue ++ rs ++ (if rise then [{ bits := recordBits (now s) 0 0x02 0 0 0 }] else []) ∧
        (commission s ≠ 0 → ∃ r ∈ rs, fld r.bits 335 328 = 0x12) ∧
        (pairing s ≠ 0 → ∃ r ∈ rs, fld r.bits 335 328 = 0x30) ∧
        (commission s = 0 → pairing s = 0 → rs = []) ∧
        (s.log.draining = none → t.log = { s.log with queue := t.log.queue })) ∧
      t.mgmt.clients.map (fun c => c.records.map fun x => (x.number, x.running)) =
        s.mgmt.clients.map (fun c => c.records.map fun x => (x.number, false)) ∧
      t = { State.reset with
              part := s.part, pending := s.pending, freeCount := s.freeCount, cat := t.cat, log := t.log,
              power := t.power, time := { TimeState.reset with acc := s.time.acc, cycles := s.time.cycles },
              mgmt := { MgmtState.reset with
                nextMsg := s.mgmt.nextMsg, mii := s.mgmt.mii, clients := t.mgmt.clients },
              observe := { ObserveState.reset with
                tapIr := s.observe.tapIr, tapChain := s.observe.tapChain, tapBoundary := s.observe.tapBoundary },
              recovery := { RecoveryState.reset with
                nextReport := s.recovery.nextReport, firstSuppressed := s.recovery.firstSuppressed,
                firstLate := s.recovery.firstLate } }) ∧
  (∀ s : State, s.power.blockLow = false → exec .blockRstRelease s = .next s) ∧
  (∀ s : State, exec .droopFall s = .next { s with power.droop := true }) ∧
  (∀ s : State, exec .droopRise s = .next { s with power.droop := false }) ∧
  (∀ (s : State) (n : Nat),
    Leaves (exec (.partRstRise n) s) fun t =>
      (∀ m, m ∈ t.power.partLow ↔ m ∈ s.power.partLow ∧ m ≠ n) ∧ t = { s with power.partLow := t.power.partLow }) ∧
  (∀ (s : State) (n : Nat), n < 16 → n ∉ s.power.partLow → held s = false → stopped s = false →
    partitionState s n < 2 →
    Does (exec (.partRstFall n) s) fun u =>
      n ∈ u.power.partLow ∧ partitionState u n = 2 ∧ get u (0xA001_01 + n) = 0x4200 + n ∧
      u.part = s.part ∧ u.pending = s.pending) ∧
  (∀ (s : State) (n : Nat), n < 16 → n ∉ s.power.partLow →
    held s = true ∨ stopped s = true ∨ 2 ≤ partitionState s n →
    Does (exec (.partRstFall n) s) fun u => u = { s with power.partLow := s.power.partLow ++ [n] }) ∧
  (∀ (s : State) (n : Nat), n ∈ s.power.partLow →
    Does (exec (.partRstFall n) s) fun u => u = s)

/-- The power sequencer goes on at the acknowledgement of the domain it switches: a domain it switches on is then
on where power_target still wants it, and an acknowledgement that is late leaves it off and counts a power
fault (R355). An allowed write of power_target holds what was written, but for the bits it ignores (R354). -/
def Obligations.PowerSequencingActs : Prop :=
  (∀ (s : State) (d : Nat), 2 ≤ d → d < 50 → s.power.switching = some (d, true) → s.power.porLow = false →
    wantedOn s d = true →
    Does (exec (.pdAck d true) s) fun u => domainOn u d = true ∧ get u 0xE000_01 = get s 0xE000_01) ∧
  (∀ (s : State) (d : Nat), s.power.switching = some (d, false) → nextMove s = none → s.power.porLow = false →
    Does (exec (.pdAck d false) s) fun u =>
      get u 0xE000_03 = 0 ∧ u.power = { s.power with switching := none, starting := false, skipped := [] } ∧
      StoreFrame s u [0xE000_03] ∧ u = { s with power := u.power, cat := u.cat }) ∧
  (∀ (s : State) (d : Nat), 2 ≤ d → d < 50 → s.power.switching = some (d, true) → domainOn s d = false →
    Does (exec (.pdAckLimitExpiry d) s) fun u =>
      domainOn u d = false ∧ u.power.faultLatched = true ∧
      get u 0xE000_05 = (get s 0xE000_05 + 1) % 2 ^ 32) ∧
  (∀ (s : State) (rq : Requester) (v : Nat),
    serves s rq 0xE000_01 = true → s.mgmt.waiting = [] → v < 2 ^ 64 →
    passes (itemChecks (renewLease s rq) rq (writeItem s 0xE000_01 0 v)) = true → logFull s 0xE000_01 = false →
    targetAllowed s v = true →
    Does (exec (.powerTargetWrite rq v) s) fun u =>
      (∀ d < 50, bit (get u 0xE000_01) d =
        (bit (partDomains s.part) d && if ignoredDomain d then bit (get s 0xE000_01) d else bit v d)) ∧
      u.part = s.part ∧ u.pending = s.pending) ∧
  (∀ (s : State) (rq : Requester) (v : Nat),
    serves s rq 0xE000_01 = true → s.mgmt.waiting = [] → v < 2 ^ 64 →
    passes (itemChecks (renewLease s rq) rq (writeItem s 0xE000_01 0 v)) = true → logFull s 0xE000_01 = false →
    targetAllowed s v = false →
    Does (exec (.powerTargetWrite rq v) s) fun u =>
      u.power = { s.power with faultLatched := true } ∧
      get u 0xE000_05 = (get s 0xE000_05 + 1) % 2 ^ 32 ∧ StoreFrame s u [0xE000_05] ∧
      u = { s with power := u.power, cat := u.cat, mgmt := u.mgmt })

/-- A temperature sample stands in its port's object, raises the port's maximum where it is above it, and sets the
port's alarm bit at or above the limit; nothing else changes (R357). The clears of thermal_alarm,
fault_attention, the power fault's attention bit and the temperature maxima (R352, R364) do what they name and
leave everything else. -/
def Obligations.ThermalAndAttentionAct : Prop :=
  (∀ (s : State) (p v : Nat), p < portsOf s.part → s.power.porLow = false → v < 2 ^ 16 →
      Leaves (exec (.thermalSample p v) s) fun t =>
        get t (0xE100_01 + p) = v ∧ get t (0xE101_01 + p) = max v (get s (0xE101_01 + p)) ∧
        (∀ n < 8, bit (get t 0xE102_02) n =
          (bit (get s 0xE102_02) n || decide (n = p) && decide (get s 0xE102_01 ≤ v))) ∧
        StoreFrame s t [0xE100_01 + p, 0xE101_01 + p, 0xE102_02] ∧ t = { s with cat := t.cat }) ∧
  (∀ (s : State) (rq : Requester) (mask : Nat),
      (Granted s rq 0xE102_03 [mask] → mask < 2 ^ 8 →
        Leaves (exec (.thermalAlarmClear rq mask) s) fun t =>
          (∀ i < 8, bit (get t 0xE102_02) i = (bit (get s 0xE102_02) i && !bit mask i)) ∧
          Completed s t rq 0xE102_03 0 [0xE102_02] ∧ t = { s with cat := t.cat, log := t.log, mgmt := t.mgmt }) ∧
      (Granted s rq 0xA203_02 [mask] → mask < 2 ^ 16 →
        Leaves (exec (.faultAttentionClear rq mask) s) fun t =>
          (∀ i < 16, bit (get t 0xA203_01) i = (bit (get s 0xA203_01) i && !bit mask i)) ∧
          Completed s t rq 0xA203_02 0 [0xA203_01] ∧ t = { s with cat := t.cat, log := t.log, mgmt := t.mgmt }) ∧
      (Granted s rq 0xE000_06 [] →
        Leaves (exec (.powerFaultClear rq) s) fun t =>
          t.power = { s.power with faultLatched := false } ∧ Completed s t rq 0xE000_06 0 [] ∧
          t = { s with cat := t.cat, log := t.log, mgmt := t.mgmt, power := t.power }) ∧
      (Granted s rq 0xE102_04 [] →
        Leaves (exec (.thermalMaxClear rq) s) fun t =>
          (∀ p < portsOf s.part, get t (0xE101_01 + p) = get s (0xE100_01 + p)) ∧
          Completed s t rq 0xE102_04 0 ((upFrom 0 (portsOf s.part)).map (0xE101_01 + ·)) ∧
          t = { s with cat := t.cat, log := t.log, mgmt := t.mgmt }))

/-- firmware_load of a whole and valid image leaves it READY with its header's checksum and version to run; its
start makes firmware_state RUNNING and shows both (R359, Table 16.8). An image that fails its check leaves the
state FAILED. -/
def Obligations.FirmwareLoadsAndStarts : Prop :=
  (∀ (s : State) (rq : Requester) (bs : List Byte) (crc version length : Nat),
    Granted s rq 0x8010_02 [] → firmwareBusy s = false → imageOf s bs = some (crc, version, length) →
    length ≤ bs.length → crc32c ((bs.take length).drop 64) = crc →
    Does (exec (.firmwareLoad rq (some bs)) s) fun u =>
      get u 0x8010_03 = 1 ∧ u.power.image = some (crc, version, length) ∧ get u 0x8010_02 = cmdValue 2 stOk 0 ∧
      StoreFrame s u [0x8010_03, 0x8010_02, 0x1110_03, 0xD000_09, 0xF004_00] ∧
      u = { s with cat := u.cat, log := u.log, mgmt := u.mgmt, power := u.power }) ∧
  (∀ (s : State) (rq : Requester) (bs : List Byte),
    Granted s rq 0x8010_02 [] → firmwareBusy s = false → imageOf s bs = none →
    Does (exec (.firmwareLoad rq (some bs)) s) fun u =>
      get u 0x8010_03 = 3 ∧ get u 0x8010_02 = cmdValue 2 stMalformed 0 ∧ u.power = s.power ∧
      StoreFrame s u [0x8010_03, 0x8010_02]) ∧
  (∀ (s : State) (crc version length : Nat),
    s.power.image = some (crc, version, length) → held s = false → get s 0x8010_03 = 1 →
    Does (exec .firmwareStart s) fun u =>
      get u 0x8010_03 = 2 ∧ get u 0x8010_04 = crc ∧ get u 0x8010_05 = version ∧ u.power.image = none)

/-- The acceptance of a memory-side request (R343, R344): the header that transfers takes a tag that is not
outstanding and leaves its port's queue and its channel, and a READ changes nothing beside the host side; the beats of
a WRITE follow on MSP_WD (R342). A waiting request whose line is free is let on, and an atomic's READ_LOCK takes its
line as it goes where its source's earlier accesses are performed (R68, R72). -/
def Obligations.MemoryRequestsGoOn : Prop :=
  (∀ (s : State) (m : Nat) (r : MspReq) (x : Access),
      unitsRun s (pairDomain m) = true → nextReq s m = some r → access? s r.access = some x →
      (pickTag s m (Config.freeTag s.freeCount)).isSome = true →
      Does (exec (.mspRequestAccept m) s) fun u =>
        (∃ n, n < 1024 ∧ lookupT s.host.outstanding (m * 1024 + n) = none ∧
          lookupT u.host.outstanding (m * 1024 + n) = some r) ∧
        (∀ p k, x.kind = .pktRead p k → r.op = 0 →
          mspQueue u m = (mspQueue s m).erase r ∧
          access? u r.access = some { x with toAccept := x.toAccept - 1, performed := x.performed || x.toAccept ≤ 1 } ∧
          u.host.locks = s.host.locks ∧ lookupT u.host.valid m = none ∧
          u = { s with host := u.host, freeCount := s.freeCount + 1 }) ∧
        (∀ p k, x.kind = .pktWrite p k → r.op = 1 →
          (lookupT u.host.beats m).getD [] = (lookupT s.host.beats m).getD [] ++ writeBeats r)) ∧
  (∀ (s : State) (m : Nat) (e : Nat × MspReq), unitsRun s (pairDomain m) = true → grantable s m = some e →
      Does (exec (.atomicLockGrant m) s) fun u =>
        mspQueue u m = mspQueue s m ++ [e.2] ∧ u.host.lockWaits = s.host.lockWaits.erase e ∧
        (∃ ls, u.host.locks = s.host.locks ++ ls ∧
          ls.all (fun l => l == { access := e.2.access, port := m, context := e.2.context, segment := e.2.segment,
                                  line := e.2.offset / 64 }) = true ∧
          (e.2.op ≠ 2 → ls = []) ∧
          (e.2.op = 2 → (∀ x ∈ s.host.accesses, e.2.access ≤ x.1 ∨ x.2.performed = true) →
            lockHeld s m e.2 = false → ls.length = 1)) ∧
        u.host.accesses = s.host.accesses ∧ u.host.outstanding = s.host.outstanding ∧ u = { s with host := u.host })

/-- A completion of an outstanding tag (R343, R344) frees the tag and is taken into its access; one of an abandoned
tag is ignored (R346). Two errors of the host, whose results are unpredictable (R12): one of a tag that is not
outstanding completes nothing, and status 3 acts as one of the three (the model's choices, log entry 51).
MSP_ABANDON on a quiesced port counts its outstanding requests as completed and marks their tags, whose later
completions are ignored (R346); one of a partition that is not in reset goes on, the model's choice at a port that
partitions share (log entry 35). -/
def Obligations.CompletionsAreTakenOrIgnored : Prop :=
  (∀ (s : State) (m tag status : Nat) (data : List Byte), unitsRun s (pairDomain m) = true →
      (∀ (r : MspReq) (x : Access), m * 1024 + tag ∉ s.host.dropped →
        lookupT s.host.outstanding (m * 1024 + tag) = some r → status < 3 →
        access? s r.access = some x → (r.op = 0 ∨ r.op = 2 → data.length = r.length) →
        Does (exec (.mspCompletion m tag status data) s) fun u =>
          lookupT u.host.outstanding (m * 1024 + tag) = none ∧
          access? u r.access = some
            { x with toComplete := x.toComplete - 1, status := max x.status status,
                     data := insertT x.data r.piece (if r.op = 0 ∨ r.op = 2 then data else []),
                     faultAt := if status = 2 && x.faultAt.isNone then some r.offset else x.faultAt } ∧
          (x.toAccept = 0 → x.toComplete = 1 → r.access ∈ u.host.ready) ∧
          u.host.queues = s.host.queues ∧ u.host.locks = s.host.locks ∧ u = { s with host := u.host }) ∧
      (m * 1024 + tag ∈ s.host.dropped → exec (.mspCompletion m tag status data) s = .next s) ∧
      (lookupT s.host.outstanding (m * 1024 + tag) = none → exec (.mspCompletion m tag status data) s = .next s) ∧
      (m * 1024 + tag ∉ s.host.dropped → (lookupT s.host.outstanding (m * 1024 + tag)).isSome → 3 ≤ status →
        ∃ st, st < 3 ∧ exec (.mspCompletion m tag status data) s =
          exec (.mspCompletion m tag st data) { s with freeCount := s.freeCount + 1 })) ∧
  (∀ (s : State) (m : Nat), unitsRun s (pairDomain m) = true → bit s.host.quiesce m = true →
      Does (exec (.mspAbandon m) s) fun u =>
        bit u.host.abandon m = true ∧
        (∀ key r, key / 1024 = m → (key, r) ∈ s.host.outstanding → spared s r.access = false →
          key ∈ u.host.dropped ∧ lookupT u.host.outstanding key = none) ∧
        (∀ key, key / 1024 ≠ m → lookupT u.host.outstanding key = lookupT s.host.outstanding key) ∧
        u.part = s.part ∧ u.pending = s.pending)

/-- A request of FABRIC space that no rule completes at once is taken for its turn behind its issuer's earlier
ones (R74, R347): one that draws a response has its engine access open with a place for each piece of R54. While a
request that its port took still waits, or the units do not run, the port takes no other (R347), and a LOAD of the host
window waits behind the accesses that wait for the log (R340). A request that may not go on completes at once: BUSY at
a shut gate (R319), RETIRED of a silent block (R48), STALE of a partition in reset (R315), WINDOW_MISS beyond the
offset space (R54). A posted one is dropped; any other is answered with exactly that status. -/
def Obligations.EngineRequestsTakeTheirTurn : Prop :=
  (∀ (s : State) (r : EspReq) (op : Nat) (c : Instr),
      (op, c) ∈ [(0, Instr.load r), (1, .store r), (2, .storeAck r), (3, .espAtomic r),
        (4, .espAtomicFetch r), (5, .espLedgerAdd r), (6, .espLedgerRead r), (7, .espLedgerReadClear r),
        (8, .fenceCore r), (9, .fenceChip r), (10, .fenceSystem r)] →
      unitsRun s 3 = true → espBlocked s r.port = false → r.catalogue = false → espReserved op r = false →
      gateShut s (issuerPartition s r.issuer) r.context = false → silent s = false →
      partitionDown s (issuerPartition s r.issuer) = false → espBeyond op r = false →
      Does (exec c s) fun u =>
        (if op < 8 && !espPosted op then
          u.switch.waits = s.switch.waits ++ [.engine { op := op, req := r, acc := some s.host.nextEsp, next := 0 }] ∧
          espAccess? u s.host.nextEsp = some
            { port := r.port, etag := r.etag, op := op, pieces := (espPieces op r).length, status := stOk, data := [],
              partition := issuerPartition s r.issuer } ∧
          u.host.nextEsp = s.host.nextEsp + 1
         else
          u.switch.waits = s.switch.waits ++ [.engine { op := op, req := r, acc := none, next := 0 }] ∧
          u.host.esp = s.host.esp) ∧
        (issuerPartition s r.issuer, r.context, now s) ∈ u.host.activity ∧
        u.host.accesses = s.host.accesses ∧ u.host.responses = s.host.responses ∧
        u = { s with host := u.host, switch := { s.switch with waits := u.switch.waits } }) ∧
  (∀ (s : State) (r : EspReq) (op : Nat) (c : Instr),
      (op, c) ∈ [(0, Instr.load r), (1, .store r), (2, .storeAck r), (3, .espAtomic r),
        (4, .espAtomicFetch r), (5, .espLedgerAdd r), (6, .espLedgerRead r), (7, .espLedgerReadClear r)] →
      unitsRun s 3 = true → espBlocked s r.port = false → r.catalogue = false → espReserved op r = false →
      ∀ st : Nat,
        (gateShut s (issuerPartition s r.issuer) r.context = true ∧ st = stBusy) ∨
        (gateShut s (issuerPartition s r.issuer) r.context = false ∧ silent s = true ∧ st = stRetired) ∨
        (gateShut s (issuerPartition s r.issuer) r.context = false ∧ silent s = false ∧
          partitionDown s (issuerPartition s r.issuer) = true ∧ st = stStale) ∨
        (gateShut s (issuerPartition s r.issuer) r.context = false ∧ silent s = false ∧
          partitionDown s (issuerPartition s r.issuer) = false ∧ espBeyond op r = true ∧ st = stMiss) →
      Does (exec c s) fun u =>
        u.host.responses = s.host.responses ++
          (if espPosted op then []
           else [{ port := r.port, etag := r.etag, status := st, data := [],
                   partition := issuerPartition s r.issuer }]) ∧
        u.switch = s.switch ∧ u.host.accesses = s.host.accesses ∧ StoreFrame s u [0x5000_06] ∧
        u = { s with host := u.host, cat := u.cat }) ∧
  (∀ (s : State) (r : EspReq) (op : Nat) (c : Instr),
      (op, c) ∈ [(0, Instr.load r), (1, .store r), (2, .storeAck r), (3, .espAtomic r),
        (4, .espAtomicFetch r), (5, .espLedgerAdd r), (6, .espLedgerRead r), (7, .espLedgerReadClear r),
        (8, .fenceCore r), (9, .fenceChip r), (10, .fenceSystem r)] →
      held s = false → (unitsRun s 3 = false ∨ espBlocked s r.port = true ∨ loadWaits s op r = true) →
      exec c s = .next { s with host.espHeld := s.host.espHeld ++ [(op, r)] })

/-- A LOAD of CATALOGUE space from the start of a slot, with no earlier access waiting, is a read of the host window:
its response is OK with the slot's bytes (R276, R348). -/
def Obligations.LoadReadsTheHostWindow : Prop :=
  ∀ (s : State) (r : EspReq), unitsRun s 3 = true → espBlocked s r.port = false → s.mgmt.waiting = [] →
    r.catalogue = true → r.lengthM1 < 16 →
    r.address % 2 ^ 28 % 16 = 0 → s.recovery.restarting = false →
    serves s hostRq (slotCn (r.address % 2 ^ 28)) = true →
    Does (exec (.load r) s) fun u =>
      u.host.responses = s.host.responses ++
        [{ port := r.port, etag := r.etag, status := stOk,
           data := (slotBytes s (slotCn (r.address % 2 ^ 28))).take (r.lengthM1 + 1),
           partition := issuerPartition s r.issuer }] ∧
      u.mgmt.slotReads = s.mgmt.slotReads ∧ u.mgmt.running = s.mgmt.running ∧
      u = { s with host := u.host, mgmt := u.mgmt }

/-- A fence ends with one response (R79, R80, Table 4.1): OK or FENCE_LOST once its conditions are met, TIMEOUT
where fence_timeout passes first; the issuer waits no more, and each kind of end is counted. -/
def Obligations.FencesEndWithTheirStatus : Prop :=
  ∀ (s : State) (i : Nat) (f : FenceWait), unitsRun s 2 = true → i < 1024 → f.issuer = i →
    s.switch.fences.find? (fun f => f.issuer == i) = some f →
    (silent s = false → fenceMet s f = true →
      Does (exec (.fenceComplete i) s) fun u =>
        u.host.responses = s.host.responses ++
          [{ port := f.port, etag := f.etag,
             status := if f.scope = 2 && issuerLost s i then stFenceLost else stOk, data := [],
             partition := issuerPartition s i }] ∧
        u.switch = { s.switch with fences := s.switch.fences.erase f } ∧ issuerFence u i = 0 ∧
        issuerLost u i = (issuerLost s i && f.scope != 2) ∧ outstanding u i = outstanding s i ∧
        (∀ j, j < 1024 → j ≠ i → getRow u issuerCn j = getRow s issuerCn j) ∧
        get u 0x8070_02 = (get s 0x8070_02 + 1) % 2 ^ 64 ∧ StoreFrame s u [issuerCn, 0x8070_02, 0x8070_03] ∧
        u = { s with host := u.host, switch := u.switch, cat := u.cat }) ∧
    (f.scope = 2 → fenceMet s f = false →
      Does (exec (.fenceTimeout i) s) fun u =>
        u.host.responses = s.host.responses ++
          [{ port := f.port, etag := f.etag, status := stTimeout, data := [], partition := issuerPartition s i }] ∧
        u.switch = { s.switch with fences := s.switch.fences.erase f } ∧ issuerFence u i = 0 ∧
        issuerLost u i = issuerLost s i ∧ outstanding u i = outstanding s i ∧
        (∀ j, j < 1024 → j ≠ i → getRow u issuerCn j = getRow s issuerCn j) ∧
        get u 0x8070_02 = (get s 0x8070_02 + 1) % 2 ^ 64 ∧ get u 0x8070_04 = (get s 0x8070_04 + 1) % 2 ^ 64 ∧
        StoreFrame s u [issuerCn, 0x8070_02, 0x8070_04] ∧
        u = { s with host := u.host, switch := u.switch, cat := u.cat })

/-- What the checks of R63 leave behind when they let a packet through to admission: the packet's place in the
receive buffers, the on-demand counters, a policer's counts and, for a fence-counted packet, its pending-ack
entry; the packet is addressed here, meets its opcode's rules and, off the wire, its CRC-32C (R61 to R64). -/
def Obligations.PassedChecksLeaveTheRest : Prop :=
  ∀ (s t : State) (p : Nat) (k : Packet), arrive s p k rulesOf = .go t →
    opcodeRules k = true ∧ rulesOf k = true ∧
    (p ≠ 15 → k.abort = false ∧ wellFramed k = true ∧ badIdentifiers k = false ∧ crcOk k = true ∧
      addressedHere s k = true) ∧
    (fenceCounted k.opcode = false → t.switch.acks = s.switch.acks) ∧
    StoreFrame s t (0x6202_00 :: (upFrom 0 16).map (0xD101_01 + ·)) ∧
    t = { s with switch := { s.switch with acks := t.switch.acks, loop := t.switch.loop },
                 ports := t.ports, cat := t.cat, policers := t.policers }

/-- READ, WRITE and WRITE_ACK admitted through a HOST window become one access that keeps their source's order,
with its request at the memory-side port of R345: the window's context and segment, the target offset of the
first byte, and the extent's bytes (R36, R53, R63, R72, R343). -/
def Obligations.HostWindowRequestIsPresented : Prop :=
  ∀ (s t v : State) (p : Nat) (k : Packet) (uses : List Nat) (row off m : Nat) (c : Instr),
    (k.opcode, c) ∈ [(opRead, .read p k), (opWrite, .write p k), (opWriteAck, .writeAck p k)] → Checked s p k t →
    admission t [spanOf k] (askOf k) = (v, .pass uses) →
    row = windowRow v (nth 0 0 uses / 2 ^ 32) → off = winTarget row + (offsetM k - winBase row) → winKind row = 0 →
    off % 4096 + extentLength k ≤ 4096 → mspPort v (winPartition row) (winSegment row) off = some m →
    quiesced v m = false → noLocksAt v m →
    Does (exec c s) fun u =>
      access? u v.host.nextAccess = some
        { kind := accessKind p k, pair := some k.src, performed := false, toAccept := 1, toComplete := 1, status := 0,
          data := [], windows := uses, partition := winPartition row, context := winContext row, ignored := false,
          faultAt := none, written := 0 } ∧
      mspQueue u m = mspQueue v m ++
        [if k.opcode = opRead then packetReq 0 v.host.nextAccess row off (extentLength k) [] false
         else packetReq 1 v.host.nextAccess row off (extentLength k) (extentBytes k) k.poison] ∧
      u.host.locks = v.host.locks ∧ u.host.outstanding = v.host.outstanding ∧ u = { v with host := u.host }

/-- ATOMIC and ATOMIC_FETCH admitted through a HOST window present the READ_LOCK of their 64-byte line at its port; the
line is locked from then on where no earlier access of the same source is yet to be performed, and no later than
its turn (R67, R68, R72). -/
def Obligations.AtomicLocksItsLine : Prop :=
  ∀ (s t v : State) (p : Nat) (k : Packet) (uses : List Nat) (row off m : Nat) (c : Instr),
    (k.opcode, c) ∈ [(opAtomic, .atomic p k), (opAtomicFetch, .atomicFetch p k)] → Checked s p k t →
    admission t [spanOf k] (askOf k) = (v, .pass uses) →
    row = windowRow v (nth 0 0 uses / 2 ^ 32) → off = winTarget row + (offsetM k - winBase row) → winKind row = 0 →
    mspPort v (winPartition row) (winSegment row) (off / 64 * 64) = some m → quiesced v m = false → noLocksAt v m →
    Does (exec c s) fun u =>
      (∃ x, access? u v.host.nextAccess = some x ∧ x.kind = .atomicLock p k ∧ x.pair = some k.src ∧
        x.windows = uses ∧ x.performed = false ∧ x.toAccept = 1) ∧
      mspQueue u m = mspQueue v m ++ [packetReq 2 v.host.nextAccess row (off / 64 * 64) 64 [] false] ∧
      (∃ ls, u.host.locks = v.host.locks ++ ls ∧
        ls.all (fun l => l == { access := v.host.nextAccess, port := m, context := winContext row,
                                segment := winSegment row, line := off / 64 }) = true ∧ ls.length ≤ 1 ∧
        ((∀ e ∈ v.host.accesses, e.2.performed = true ∨ e.2.pair ≠ some k.src) → ls.length = 1)) ∧
      u.host.outstanding = v.host.outstanding ∧ u = { v with host := u.host }

/-- Requests admitted through a carrel kind, and ledger requests, take their place in their source's order for the
carrel (R22, R72, R75, R143, R144); NOTICE_POST takes one too (R113). -/
def Obligations.CarrelRequestTakesItsTurn : Prop :=
  (∀ (s t v : State) (p : Nat) (k : Packet) (uses : List Nat) (row : Nat) (c : Instr),
    (k.opcode, c) ∈ [(opRead, .read p k), (opWrite, .write p k), (opWriteAck, .writeAck p k),
      (opLedgerAdd, .ledgerAdd p k), (opLedgerRead, .ledgerRead p k),
      (opLedgerReadClear, .ledgerReadClear p k)] → Checked s p k t →
    admission t [spanOf k] (askOf k) = (v, .pass uses) →
    row = windowRow v (nth 0 0 uses / 2 ^ 32) → winKind row ≠ 0 → domainOn v 18 = true →
    Does (exec c s) fun u =>
      u.host.inner = v.host.inner ++ [v.host.nextAccess] ∧ u.host.queues = v.host.queues ∧
      access? u v.host.nextAccess = some
        { kind := accessKind p k, pair := some k.src, performed := false, toAccept := 0, toComplete := 0, status := 0,
          data := [], windows := uses, partition := winPartition row, context := 0, ignored := false,
          faultAt := none, written := 0 } ∧
      u = { v with host := u.host }) ∧
  (∀ (s t : State) (p : Nat) (k : Packet), k.opcode = opNoticePost → Checked s p k t →
    Does (exec (.noticePost p k) s) fun u =>
      u.host.inner = t.host.inner ++ [t.host.nextAccess] ∧ u.host.queues = t.host.queues ∧
      (∃ x, access? u t.host.nextAccess = some x ∧ x.kind = .pktNotice p k ∧ x.pair = some k.src ∧
        x.performed = false) ∧
      u = { t with host := u.host })

/-- A request that admission refuses through whatever window is answered with the status and the offending offset
where it is non-posted; a posted one is dropped, counted at its port and done (R36, R57, R59). -/
def Obligations.RefusedRequestIsAnsweredOrDropped : Prop :=
  ∀ (s t v : State) (p : Nat) (k : Packet) (st off : Nat) (c : Instr),
    (k.opcode, c) ∈ [(opRead, .read p k), (opWrite, .write p k), (opWriteAck, .writeAck p k), (opAtomic, .atomic p k),
      (opAtomicFetch, .atomicFetch p k), (opLedgerAdd, .ledgerAdd p k), (opLedgerRead, .ledgerRead p k),
      (opLedgerReadClear, .ledgerReadClear p k)] → Checked s p k t →
    admission t [spanOf k] (askOf k) = (v, .refuse st off) → st < 256 → off < 2 ^ 43 →
    Does (exec c s) fun u =>
      u.host = t.host ∧ u.carrel = t.carrel ∧ get v 0x5000_06 = (get t 0x5000_06 + 1) % 2 ^ 64 ∧
      (nonPosted k.opcode = true → ∃ a, statusS a = st ∧ offendingS a = off ∧ a.opcode = opStatusRsp ∧
        a.tracker = k.tracker ∧ a.turn = k.turn ∧ a.issuer = k.issuer ∧ u = sendResponse v p a) ∧
      (nonPosted k.opcode = false → p < 8 →
        get u (ofPort p 0x2080_04) = (get v (ofPort p 0x2080_04) + 1) % 2 ^ 64)

/-- PROBE that admission lets in gets a hold that keeps its uses, and PROBE_RSP names it (R38); one that arrives while
a tray's extent is being checked takes its place behind it (R106, log entry 53); HOLD_RELEASE by the hold's owner ends it and its uses, and by any other is refused (R39). -/
def Obligations.ProbesHoldAndRelease : Prop :=
  (∀ (s t v : State) (p : Nat) (k : Packet) (uses : List Nat) (spans : List (Nat × Nat)) (h : Nat),
    k.opcode = opProbe → Checked s p k t →
    admissionTurn t = none → t.slips.probes = [] →
    spans = (remoteExtent (nth 0 0 k.data + nth 0 1 k.data * 2 ^ 128)).spans →
    admission t spans { request := false, source := k.src, mask := if subM k = 0 then rightRead else rightWrite } =
      (v, .pass uses) →
    pickHold v (Config.freeChoice v.freeCount) = some h →
    Does (exec (.probe p k) s) fun u =>
      lookupT v.switch.holds h = none ∧ h < 4096 ∧ ∃ w a,
        w = { v with freeCount := v.freeCount + 1, switch := { v.switch with holds := w.switch.holds } } ∧
        lookupT w.switch.holds h = some { src := k.src, windows := uses, right := probeRight k, spans := spans } ∧
        (∀ j, j ≠ h → lookupT w.switch.holds j = lookupT v.switch.holds j) ∧
        a.opcode = opProbeRsp ∧ statusS a = stOk ∧ holdS a = h ∧ a.tracker = k.tracker ∧ u = sendResponse w p a) ∧
  (∀ (s t : State) (p : Nat) (k : Packet), k.opcode = opProbe → Checked s p k t → admissionTurn t ≠ none →
    Does (exec (.probe p k) s) fun u => u = { t with slips.probes := t.slips.probes ++ [(p, k)] }) ∧
  (∀ (s t : State) (p : Nat) (k : Packet) (x : Hold), k.opcode = opHoldRelease → Checked s p k t →
    lookupT t.switch.holds (handleM k) = some x → x.src = k.src → (∀ key ∈ x.windows, key / 2 ^ 32 < 1024) →
    Does (exec (.holdRelease p k) s) fun u =>
      lookupT u.switch.holds (handleM k) = none ∧
      (∀ j, j ≠ handleM k → lookupT u.switch.holds j = lookupT t.switch.holds j) ∧ StoreFrame t u [windowCn] ∧
      (∀ w, w < 1024 → (∀ key ∈ x.windows, key / 2 ^ 32 ≠ w) → getRow u windowCn w = getRow t windowCn w) ∧
      u = { t with switch := { t.switch with holds := u.switch.holds, uses := u.switch.uses }, cat := u.cat }) ∧
  (∀ (s t : State) (p : Nat) (k : Packet), k.opcode = opHoldRelease → Checked s p k t → p < 8 →
    (∀ x, lookupT t.switch.holds (handleM k) = some x → x.src ≠ k.src) →
    Does (exec (.holdRelease p k) s) fun u =>
      get u (ofPort p 0x2080_04) = (get t (ofPort p 0x2080_04) + 1) % 2 ^ 64 ∧
      StoreFrame t u [ofPort p 0x2080_04] ∧ u = { t with cat := u.cat })

/-- COMMIT_POLL of a pair with nothing pending is answered at once with a COMMIT_ACK for all it names; with
packets of the pair under way the poll waits for those (R60). COMMIT_ACK newer than what its pair holds
acknowledged, and not beyond what was sent, acknowledges up to its committed value: the issuer's outstanding
count falls by as many packets, and a pair with none left frees its entry (R58, R83). -/
def Obligations.PollsAndAcknowledgementsArrive : Prop :=
  (∀ (s t : State) (p : Nat) (k : Packet), k.opcode = opCommitPoll → Checked s p k t →
    ackOf t k.src k.issuer = none →
    Does (exec (.commitPoll p k) s) fun u =>
      ∃ a : Packet, a.opcode = opCommitAck ∧ a.dst = k.src ∧ a.issuer = k.issuer ∧
        runFirstA a = (seqM k + 1) % 2 ^ 16 ∧ committedA a = seqM k ∧ pollAnswerA a = true ∧
        u = sendLoose (count64 t 0x8040_03) a) ∧
  (∀ (s t : State) (p : Nat) (k : Packet) (e : PendingAck), k.opcode = opCommitPoll → Checked s p k t →
    ackOf t k.src k.issuer = some e → (e.notDone ≠ [] ∨ e.older ≠ []) →
    Does (exec (.commitPoll p k) s) fun u =>
      ackOf u k.src k.issuer = some { e with polls := e.polls ++ [e.older ++ e.notDone] } ∧
      u = { t with switch := { t.switch with acks := u.switch.acks } }) ∧
  (∀ (s t : State) (p : Nat) (k : Packet) (e : Pair), k.opcode = opCommitAck → Checked s p k t → k.issuer < 1024 →
      pairOf t k.src k.issuer = some e → newer 16 (committedA k) e.lastAcked = true →
      newer 16 (committedA k) e.lastSent = false → subMod 16 (e.lastAcked + 1) (runFirstA k) < 32768 →
      Does (exec (.commitAck p k) s) fun u =>
        outstanding u k.issuer = outstanding t k.issuer - subMod 16 (committedA k) e.lastAcked ∧
        pairOf u k.src k.issuer =
          (let e' : Pair := { e with polls := if pollAnswerA k then e.polls - 1 else e.polls, lastAcked := committedA k }
           if unacked e' = 0 && e'.polls = 0 && !e.quarantined then none else some e') ∧
        (∀ j, j < 1024 → j ≠ k.issuer → getRow u issuerCn j = getRow t issuerCn j) ∧ StoreFrame t u [issuerCn] ∧
        u = { t with switch := { t.switch with pairs := u.switch.pairs }, cat := u.cat })

/-- A gate token raises the gate counter it names (R152, R159); the elements of a contribution enter the open tile
of their stage, each added to what the element holds; a tile lost in a spill gives poisoned elements (R123, R133, R134,
R139, R324). -/
def Obligations.ContributionsEnter : Prop :=
  (∀ (s t : State) (p : Nat) (k : Packet) (e : Nat), k.opcode = opContrib → Checked s p k t →
    contribRefused k = false → collAdmit t k = .gate e →
    Does (exec (.contrib p k) s) fun u =>
      gateCount u e (elementC k) = (gateCount t e (elementC k) + 1) % 2 ^ 32 ∧
      get u 0x7110_04 = (get t 0x7110_04 + 1) % 2 ^ 64 ∧ StoreFrame t u [gateCn, 0x7110_04] ∧
      u = { t with cat := u.cat }) ∧
  (∀ (s t : State) (p : Nat) (k : Packet) (e n i : Nat) (y : Tile) (c : Instr),
    (k.opcode, c) ∈ [(opContrib, .contrib p k), (opContribLong, .contribLong p k)] → Checked s p k t →
    contribRefused k = false → collAdmit t k = .stage e n → packetTiles k = [i] → tileOf t e n i = some y →
    y.phase = 0 →
    (∀ j, j < contribCount k →
      ((lookupT y.elems (elementC k + j)).getD Elem.fresh).count + 1 < stExpected (stRow t e n)) →
    Does (exec c s) fun u =>
      (∃ z, tileOf u e n i = some z ∧ z.phys = y.phys ∧ z.long = y.long ∧
        ∀ j, (contribCount k ≤ j ∨ (packetParts k).length ≤ j →
            lookupT z.elems (elementC k + j) = lookupT y.elems (elementC k + j)) ∧
          ∀ c, j < contribCount k → (packetParts k)[j]? = some c →
            lookupT z.elems (elementC k + j) =
              some (elemAdd ((lookupT y.elems (elementC k + j)).getD { Elem.fresh with poison := y.lost }) c)) ∧
      u = { t with coll := u.coll, host := u.host, cat := u.cat })

/-- A packet for another endpoint that passes the checks of every hop leaves by its route's egress, on the channel
the dateline rule gives it, with every other field of its header and its data as they came, but for a
policer's colour (R171, R174, R176). LOAN_DATA at a hop of its loan goes on by the loan's number, unpoliced,
and is counted there (R179, R183). -/
def Obligations.TrafficPassesThrough : Prop :=
  (∀ (s t v : State) (p q : Nat) (k k' : Packet),
      switchOn s = true → p < portsOf s.part → packetWaits s p k = false → passesBy s k = true → cutOff k = false →
      sourceChecks (odc (dropRx s p k) 0x01 (some p) (some k) 1) p k = .go t → forwards t = true →
      policePassing t p k = (k', v) → egressOf v k.src k.dst = some q → portTakes v q = true →
      queueFull v q (queueFor { k' with vc := (datelineVc v q k'.vc).1 } p) = false → v.ports.length = 8 →
      Does (exec (.passThrough p k) s) fun u =>
        k' = { k with colour := k'.colour } ∧ k.colour ≤ k'.colour ∧
        (let x : Packet := { k' with vc := (datelineVc v q k'.vc).1 }
         (queueOf u q (queueFor x p)).map (fun d => (d.k, d.origin, d.entry)) =
           (queueOf v q (queueFor x p)).map (fun d => (d.k, d.origin, d.entry)) ++ [(x, p, none)]) ∧
        get u 0x4000_02 = (get v 0x4000_02 + 1) % 2 ^ 64 ∧ StoreFrame v u [0x4000_02, 0x4000_03] ∧
        u = { v with ports := u.ports, cat := u.cat }) ∧
  (∀ (s t : State) (p : Nat) (k : Packet) (n q : Nat),
      k.opcode = opLoanData → switchOn s = true → p < portsOf s.part → packetWaits s p k = false → cutOff k = false →
      sourceChecks (odc (dropRx s p k) 0x01 (some p) (some k) 1) p k = .go t → n = handleM k → q = loanEgress t n →
      loanMatches s p k 1 = true → forwards t = true → (k.postHold && loanDiscards t n) = false →
      portTakes t q = true → queueFull t q (queueFor k p) = false → q < 8 → t.ports.length = 8 →
      Does (exec (.loanData p k) s) fun u =>
        getF u 0x6400_00 n 63 0 = (getF t 0x6400_00 n 63 0 + 1) % 2 ^ 64 ∧
        (queueOf u q (queueFor k p)).map (fun d => (d.k, d.origin, d.entry)) =
          (queueOf t q (queueFor k p)).map (fun d => (d.k, d.origin, d.entry)) ++ [(namedAt t q k, p, none)] ∧
        StoreFrame t u [0x6400_00] ∧ u = { t with ports := u.ports, cat := u.cat })

/-- A packet with no class or no listed opcode fails step 1 of R63: with a good CRC-32C it is counted malformed at
its port, with a bad one as a CRC failure, and in both cases nothing it asks for is done (R62, R64). -/
def Obligations.MalformedPacketIsCounted : Prop :=
  ∀ (s : State) (p : Nat) (k : Packet), (5 < k.vc ∨ opcodes.contains k.opcode = false) → k.abort = false →
    k.opcode ≠ opLoanData → switchOn s = true → p < portsOf s.part → packetWaits s p k = false →
    (passesBy s k = true → cutOff k = false) →
    Does (exec (.malformedPacket p k) s) fun u =>
      (crcOk k = true → get u (ofPort p 0x2080_01) = (get s (ofPort p 0x2080_01) + 1) % 2 ^ 64 ∧
        get u (ofPort p 0x2080_02) = get s (ofPort p 0x2080_02)) ∧
      (crcOk k = false → get u (ofPort p 0x2080_02) = (get s (ofPort p 0x2080_02) + 1) % 2 ^ 64 ∧
        get u (ofPort p 0x2080_01) = get s (ofPort p 0x2080_01)) ∧
      u.host = s.host ∧ u.carrel = s.carrel ∧ u.coll = s.coll ∧ u.slips = s.slips ∧
      u.switch.trackers = s.switch.trackers ∧ u.switch.acks = s.switch.acks ∧ u.switch.pairs = s.switch.pairs

/-- A response that matches its tracker completes it (R55, R57): the tracker is free, its issuer has one non-
posted request fewer, and the engine's access takes the piece: with its last one the engine is answered with
the first status that is not OK, or with the data of all pieces (R54, R347). -/
def Obligations.ResponseCompletesItsTracker : Prop :=
  ∀ (s t : State) (p : Nat) (k : Packet) (w : Tracker) (a i : Nat) (e : EspAccess) (c : Instr),
    (k.opcode, c) ∈ [(opReadRsp, .readRsp p k), (opStatusRsp, .statusRsp p k), (opAtomicRsp, .atomicRsp p k),
      (opLedgerRsp, .ledgerRsp p k)] → Checked s p k t →
    tagMatches t p k = some w → w.owner = .engine a i → w.stuck = false → w.opcode ≠ opMgmtReq → w.issuer < 1024 →
    answerFits w k = true → espAccess? t a = some e →
    Does (exec c s) fun u =>
      lookupT u.switch.trackers k.tracker = none ∧
      (∀ j, j ≠ k.tracker → lookupT u.switch.trackers j = lookupT t.switch.trackers j) ∧
      nonpostedOpen u w.issuer = nonpostedOpen t w.issuer - 1 ∧
      (let st := if e.status = stOk then statusS k else e.status
       let data := insertT e.data i (espRspData w k)
       if e.pieces ≤ 1 then
         espAccess? u a = none ∧
         u.host.responses = t.host.responses ++
           [{ port := e.port, etag := e.etag, status := st,
              data := if st = stOk then (data.map Prod.snd).flatten else [], partition := e.partition }]
       else
         espAccess? u a = some { e with pieces := e.pieces - 1, status := st, data := data } ∧
         u.host.responses = t.host.responses) ∧
      (∀ j, j < 1024 → j ≠ w.issuer → getRow u issuerCn j = getRow t issuerCn j) ∧ StoreFrame t u [issuerCn] ∧
      u = { t with host := u.host, switch := { t.switch with trackers := u.switch.trackers }, cat := u.cat }

/-- A tracker whose request has waited request_timeout completes with TIMEOUT, is counted, and stays out of use
until the time has passed again; then it may be taken (R56). commit_ack_delay sends the acknowledgement of
what is done and owed (R59); commit_poll_interval polls a pair with packets unacknowledged on the ordinary
route (R60). -/
def Obligations.RequestTimersAct : Prop :=
  (∀ (s : State) (i a j : Nat) (w : Tracker) (e : EspAccess), unitsRun s 2 = true →
    lookupT s.switch.trackers i = some w → w.owner = .engine a j → w.stuck = false → w.opcode ≠ opMgmtReq →
    w.issuer < 1024 → espAccess? s a = some e → e.pieces = 1 →
    Does (exec (.trackerTimeout i) s) fun u =>
      lookupT u.switch.trackers i = none ∧ u.switch.quarantine = s.switch.quarantine ++ [i] ∧
      nonpostedOpen u w.issuer = nonpostedOpen s w.issuer - 1 ∧
      issuerLost u w.issuer = (issuerLost s w.issuer || writeKind w.opcode) ∧
      get u 0x8050_03 = (get s 0x8050_03 + 1) % 2 ^ 64 ∧
      (∃ r, u.host.responses = s.host.responses ++ [r] ∧ r.port = e.port ∧ r.etag = e.etag ∧
        (e.status = stOk → r.status = stTimeout ∧ r.data = [])) ∧
      StoreFrame s u [issuerCn, 0x8050_03] ∧
      u = { s with host := u.host, cat := u.cat,
                   switch := { s.switch with trackers := u.switch.trackers, quarantine := u.switch.quarantine } }) ∧
  (∀ (s : State) (i : Nat), unitsRun s 2 = true →
    Does (exec (.trackerQuarantineExpiry i) s) fun u =>
      (∀ j, j ∈ u.switch.quarantine ↔ j ∈ s.switch.quarantine ∧ j ≠ i) ∧
      u = { s with switch.quarantine := u.switch.quarantine }) ∧
  (∀ (s : State) (src i c : Nat) (e : PendingAck), unitsRun s 2 = true → ackOf s src i = some e → e.owed ≠ 0 →
    ackReach e = some c →
    Does (exec (.commitAckDelayExpiry src i) s) fun u =>
      ackOf u src i = (if ackSettled e then none
        else some { e with owed := subMod 16 e.expected (c + 1) - e.notDone.length }) ∧
      ∃ v a, a.opcode = opCommitAck ∧ a.dst = src ∧ a.issuer = i ∧ committedA a = c ∧
        runFirstA a = e.runFirst % 2 ^ 16 ∧ pollAnswerA a = false ∧ v = sendLoose (count64 s 0x8040_03) a ∧
        u = { v with switch.acks := u.switch.acks }) ∧
  (∀ (s : State) (dst i : Nat) (e : Pair), unitsRun s 2 = true → pairOf s dst i = some e → silent s = false →
    e.quarantined = false → e.path = 0 → unacked e ≠ 0 →
    Does (exec (.commitPollIntervalExpiry dst i) s) fun u =>
      ∃ v k, pairOf v dst i = some { e with polls := e.polls + 1, pollAt := now s } ∧
        v = { s with switch.pairs := v.switch.pairs, cat := v.cat } ∧ k.opcode = opCommitPoll ∧ k.dst = dst ∧
        k.issuer = i ∧ seqM k = e.lastSent % 2 ^ 16 ∧ u = sendLoose v k)

/-- What waits goes on, and what was held ends, when its timer or event comes: a packet that waited for a pending-
ack entry (R88), of the waits of an issuer's pairs, for the answer of a poll and of an abandonment, the one that has
lasted longest (R83), a probe answered BUSY (R38), a hold (R39). -/
def Obligations.WaitsGoOnAndHoldsEnd : Prop :=
  (∀ (s : State) (p vc : Nat) (w : RxWait), switchOn s = true → firstWaiting s p vc = some w →
    channelHeld s p vc = false → mustHold s p w.k = false →
    Does (exec (.pendingAckEntryFree p vc) s) fun u =>
      u = packetTaken { s with switch.rxWaits := s.switch.rxWaits.erase w } p w.k w.stamp) ∧
  (∀ (s : State) (i at' : Nat) (e : Pair) (polls : Bool), unitsRun s 2 = true → i < 1024 →
    (at', e, polls) ∈ pairTimeouts s i → (∀ w ∈ pairTimeouts s i, w ≠ (at', e, polls) → at' < w.1) →
    Does (exec (.pairEntryFree i) s) fun u =>
      pairOf u e.dst i =
        (let e' : Pair := if polls then { e with polls := 0 } else { e with quarantined := false }
         if unacked e' = 0 && e'.polls = 0 && !e'.quarantined then none else some e') ∧ (∀ dst j, (dst ≠ e.dst ∨ j ≠ i) → pairOf u dst j = pairOf s dst j) ∧
      (∀ j, j < 1024 → j ≠ i → getRow u issuerCn j = getRow s issuerCn j) ∧ StoreFrame s u [issuerCn] ∧
      u = { s with switch.pairs := u.switch.pairs, cat := u.cat }) ∧
  (∀ (s : State) (t k : Nat) (c : SlipCtx), unitsRun s 2 = true → ctx? s t k = some c → c.probe = .busy →
    c.result = none →
    Does (exec (.probeRetry t k) s) (fun u =>
      ctx? u t k = some { c with probe := .notSent } ∧ u = { s with slips.ctxs := u.slips.ctxs }) ∧
    (c.retried = true → Does (exec (.probeRetryLimitExpiry t k) s) (fun u =>
      ctx? u t k = some { c with probe := .refused stTimeout 0 } ∧ u = { s with slips.ctxs := u.slips.ctxs }))) ∧
  (∀ (s : State) (h : Nat) (x : Hold), unitsRun s 2 = true → lookupT s.switch.holds h = some x →
    (∀ key ∈ x.windows, key / 2 ^ 32 < 1024) →
    Does (exec (.holdTimeout h) s) fun u =>
      lookupT u.switch.holds h = none ∧ (∀ j, j ≠ h → lookupT u.switch.holds j = lookupT s.switch.holds j) ∧
      (∀ w, w < 1024 → (∀ key ∈ x.windows, key / 2 ^ 32 ≠ w) → getRow u windowCn w = getRow s windowCn w) ∧
      StoreFrame s u [windowCn] ∧
      u = { s with switch := { s.switch with holds := u.switch.holds, uses := u.switch.uses }, cat := u.cat })

/-- window_open puts the staged row in force OPEN with no use (R32); window_modify changes the rights, the source
range and the size of an OPEN window and waits for the uses admitted before it (R33); window_close frees a
window with no use at once, and else lets it close and waits (R34). A CLOSING window with no use left becomes
FREE and its closes return; a drain that passes window_drain_limit with uses left ends the waiting closes with TIMEOUT,
and the waiting modifies with OK where the uses they wait for are over and with TIMEOUT where not, and leaves the row
as it is (R33, R34). -/
def Obligations.WindowCommandsComplete : Prop :=
  (∀ (s : State) (rq : Requester) (w : Nat), Granted s rq 0x5102_00 [w] → w < 1024 →
    winState (windowRow s w) = 0 → windowFits s (get s 0x5101_00) = true →
    Does (exec (.windowOpen rq w) s) fun u =>
      getRow u windowCn w = setFld (setFld (get s 0x5101_00) 255 254 1) 31 0 0 ∧
      get u 0x5102_00 = cmdValue 2 stOk 0 ∧
      (∀ j, j < 1024 → j ≠ w → getRow u windowCn j = getRow s windowCn j) ∧
      (unmirrored s → Completed s u rq 0x5102_00 0 [windowCn] ∧
        u = { s with cat := u.cat, log := u.log, mgmt := u.mgmt })) ∧
  (∀ (s : State) (rq : Requester) (w new : Nat), Granted s rq 0x5103_00 [w] → w < 1024 →
    winState (windowRow s w) = 1 →
    new = setFld (setFld (setFld (setFld (getRow s windowCn w) 247 240 (winRights (get s 0x5101_00))) 127 106
      (winLo (get s 0x5101_00))) 105 84 (winHi (get s 0x5101_00))) 159 130 (fld (get s 0x5101_00) 159 130) →
    windowFits s new = true →
    Does (exec (.windowModify rq w) s) fun u =>
      getRow u windowCn w = new ∧ (∀ j, j < 1024 → j ≠ w → getRow u windowCn j = getRow s windowCn j) ∧
      (usesUpTo s w (epochOf s w) = 0 → get u 0x5103_00 = cmdValue 2 stOk 0) ∧
      (usesUpTo s w (epochOf s w) ≠ 0 → get u 0x5103_00 = cmdValue 1 0 0 ∧ epochOf u w = epochOf s w + 1 ∧
        ∃ v ∈ u.mgmt.running, v.cn = 0x5103_00 ∧ v.arg = modifyArg w (epochOf s w))) ∧
  (∀ (s : State) (rq : Requester) (w : Nat), Granted s rq 0x5104_00 [w] → w < 1024 →
    winState (windowRow s w) ≠ 0 →
    Does (exec (.windowClose rq w) s) fun u =>
      (∀ j, j < 1024 → j ≠ w → getRow u windowCn j = getRow s windowCn j) ∧
      (winInFlight (getRow s windowCn w) = 0 →
        winState (getRow u windowCn w) = 0 ∧ get u 0x5104_00 = cmdValue 2 stOk 0) ∧
      (winInFlight (getRow s windowCn w) ≠ 0 →
        winState (getRow u windowCn w) = 2 ∧ winInFlight (getRow u windowCn w) = winInFlight (getRow s windowCn w) ∧
        get u 0x5104_00 = cmdValue 1 0 0 ∧ ∃ v ∈ u.mgmt.running, v.cn = 0x5104_00 ∧ v.arg = w)) ∧
  (∀ (s : State) (w : Nat), unitsRun s 2 = true → w < 1024 → winState (getRow s windowCn w) = 2 →
    winInFlight (getRow s windowCn w) = 0 →
    Does (exec (.windowDrainEnd w) s) fun u =>
      winState (getRow u windowCn w) = 0 ∧ (∀ key, key / 2 ^ 32 = w → useCount u key = 0) ∧
      noneRuns u 0x5104_00 w ∧
      (latestRuns s 0x5104_00 w → recordsFit s → get u 0x5104_00 = cmdValue 2 stOk 0) ∧
      (∀ j, j < 1024 → j ≠ w → getRow u windowCn j = getRow s windowCn j)) ∧
  (∀ (s : State) (w : Nat), held s = false → w < 1024 →
    ¬(winState (getRow s windowCn w) = 2 ∧ winInFlight (getRow s windowCn w) = 0) →
    Does (exec (.windowDrainLimitExpiry w) s) fun u =>
      noneRuns u 0x5104_00 w ∧ (∀ v ∈ u.mgmt.running, ¬(v.cn = 0x5103_00 ∧ v.arg % 1024 = w)) ∧
      (latestRuns s 0x5104_00 w → get u 0x5104_00 = cmdValue 2 stTimeout 0) ∧
      (∀ v ∈ s.mgmt.running, v.cn = 0x5103_00 → v.arg % 1024 = w → v.latest = true →
        (∀ x ∈ s.mgmt.running, x.cn = 0x5103_00 → x.latest = true → x = v) → recordsFit s →
        get u 0x5103_00 = cmdValue 2 (if usesUpTo s w (v.arg / 1024) = 0 then stOk else stTimeout) 0) ∧
      StoreFrame s u [0x5103_00, 0x5104_00] ∧ u = { s with cat := u.cat, mgmt := u.mgmt, log := u.log })

/-- A partition's edition rises by one modulo 256 and its windows become FREE without drain (R45); an edition
exception takes the row of its endpoint or a free one, and its clear empties that row (R43); fence_lost_mark
abandons the named destination's pairs that have packets unacknowledged and marks their issuers (R86). -/
def Obligations.EditionCommandsComplete : Prop :=
  (∀ (s : State) (rq : Requester) (n : Nat), Granted s rq 0x5201_00 [n] → n < 16 →
    Does (exec (.partitionEditionRaise rq n) s) fun u =>
      partitionEdition u n = (partitionEdition s n + 1) % 256 ∧ get u 0x5201_00 = cmdValue 2 stOk 0 ∧
      (∀ m, m < 16 → m ≠ n → partitionEdition u m = partitionEdition s m) ∧
      (∀ w, w < 1024 → winPartition (getRow s windowCn w) = n → winState (getRow u windowCn w) = 0)) ∧
  (∀ (s : State) (rq : Requester) (ep ed r : Nat), Granted s rq 0x5301_00 [ep, ed] → ep < 2 ^ 22 → ed < 256 →
    ((exceptionOf s ep).map Prod.fst = some r ∨ exceptionOf s ep = none ∧ freeException s = some r) →
    Does (exec (.editionExceptionSet rq ep ed) s) fun u =>
      getRow u 0x5300_00 r = exceptionBits ep ed ∧ get u 0x5301_00 = cmdValue 2 stOk 0 ∧
      (∀ j, j < 4096 → j ≠ r → getRow u 0x5300_00 j = getRow s 0x5300_00 j) ∧
      u.host = s.host ∧ u.carrel = s.carrel ∧ u.coll = s.coll ∧ u.slips = s.slips) ∧
  (∀ (s : State) (rq : Requester) (ep : Nat) (e : Nat × Nat), Granted s rq 0x5302_00 [ep] → ep < 2 ^ 22 →
    exceptionOf s ep = some e →
    Does (exec (.editionExceptionClear rq ep) s) fun u =>
      getRow u 0x5300_00 e.1 = 0 ∧ get u 0x5302_00 = cmdValue 2 stOk 0 ∧
      (∀ j, j < 4096 → j ≠ e.1 → getRow u 0x5300_00 j = getRow s 0x5300_00 j) ∧
      (unmirrored s → Completed s u rq 0x5302_00 0 [0x5300_00] ∧
        u = { s with cat := u.cat, log := u.log, mgmt := u.mgmt })) ∧
  (∀ (s : State) (rq : Requester) (dst : Nat), Granted s rq 0x8073_00 [dst] → dst < 2 ^ 22 →
    Does (exec (.fenceLostMark rq dst) s) fun u =>
      (∀ e ∈ s.switch.pairs, (dst = 0x3FFFFF ∨ e.dst = dst) → unacked e ≠ 0 → e.issuer < 1024 →
        issuerLost u e.issuer = true ∧ ∃ x, pairOf u e.dst e.issuer = some x ∧ x.quarantined = true) ∧
      get u 0x8073_00 = cmdValue 2 stOk 0 ∧
      u = { s with switch.pairs := u.switch.pairs, cat := u.cat, log := u.log, mgmt := u.mgmt })

/-- tray_enable puts the staged row in force ENABLED at slot 0 and turn 1; tray_disable of a tray with no slip
makes it DISABLED, and of one whose slips have all begun STOPPING until they are over or its drain limit
passes (R95). -/
def Obligations.TrayCommandsComplete : Prop :=
  (∀ (s : State) (rq : Requester) (n : Nat), Granted s rq 0x8102_00 [n] → n < 64 → trState (trayRow s n) = 0 →
    Does (exec (.trayEnable rq n) s) fun u =>
      trState (trayRow u n) = 1 ∧ trNext (trayRow u n) = 0 ∧ trTurn (trayRow u n) = 1 ∧
      fld (trayRow u n) 127 0 = 0 ∧ fld (trayRow u n) 253 164 = fld (get s 0x8101_00) 253 164 ∧
      trayRun u n = { reading := false, returned := none, serial := (trayRun s n).serial } ∧
      (∀ j, j < 64 → j ≠ n → trayRow u j = trayRow s j) ∧
      Completed s u rq 0x8102_00 0 [trayCn] ∧
      u = { s with slips.trays := u.slips.trays, host.accesses := u.host.accesses, cat := u.cat, log := u.log,
                   mgmt := u.mgmt }) ∧
  (∀ (s : State) (rq : Requester) (n : Nat), Granted s rq 0x8103_00 [n] → n < 64 → trState (trayRow s n) ≠ 0 →
    (∀ c ∈ trayCtxs s n, c.reqs ≠ []) →
    Does (exec (.trayDisable rq n) s) fun u =>
      (∀ j, j < 64 → j ≠ n → trayRow u j = trayRow s j) ∧
      (trayCtxs s n = [] → trState (trayRow u n) = 0 ∧ Completed s u rq 0x8103_00 0 [trayCn]) ∧
      (trayCtxs s n ≠ [] → trState (trayRow u n) = 2 ∧ get u 0x8103_00 = cmdValue 1 0 0 ∧
        ∃ v ∈ u.mgmt.running, v.cn = 0x8103_00 ∧ v.arg = n) ∧
      u = { s with cat := u.cat, log := u.log, mgmt := u.mgmt }) ∧
  (∀ (s : State) (n : Nat), unitsRun s 2 = true → n < 64 → trState (trayRow s n) = 2 → trayCtxs s n = [] →
    Does (exec (.trayDrainEnd n) s) fun u =>
      trState (trayRow u n) = 0 ∧ noneRuns u 0x8103_00 n ∧
      (latestRuns s 0x8103_00 n → recordsFit s → get u 0x8103_00 = cmdValue 2 stOk 0) ∧
      StoreFrame s u [trayCn, 0x8103_00] ∧ u = { s with cat := u.cat, mgmt := u.mgmt, log := u.log }) ∧
  (∀ (s : State) (n : Nat), held s = false →
    Does (exec (.trayDrainLimitExpiry n) s) fun u =>
      noneRuns u 0x8103_00 n ∧
      (latestRuns s 0x8103_00 n → get u 0x8103_00 = cmdValue 2 stTimeout 0) ∧
      StoreFrame s u [0x8103_00] ∧ u = { s with cat := u.cat, mgmt := u.mgmt })

/-- A slip's way in (R96, R105, R106): the poll reads the 64 bytes of the next slot, a slot with the tray's turn
is accepted and the tray moves on, to end at once with EDITION_STALE where its partition is in reset (R315), and admission of the local extent decides whether the slip goes on, after which
the PROBEs that waited for the checker are admitted. -/
def Obligations.SlipsAreFetchedAndAdmitted : Prop :=
  (∀ (s : State) (n m : Nat), unitsRun s 2 = true → n < 64 → trayServed s n = true → trState (trayRow s n) = 1 →
    (trayRun s n).reading = false → (trayRun s n).returned = none → (trayCtxs s n).length < trAhead (trayRow s n) →
    silent s = false →
    mspPort s (trayPartition s n) (trSegment (trayRow s n)) (trBase (trayRow s n) + trNext (trayRow s n) * 64) = some m →
    quiesced s m = false → noLocksAt s m →
    Does (exec (.traySlotPoll n) s) fun u =>
      (trayRun u n).reading = true ∧
      (∃ x, access? u s.host.nextAccess = some x ∧ x.kind = .slotRead n ∧ x.toAccept = 1 ∧ x.toComplete = 1) ∧
      mspQueue u m = mspQueue s m ++
        [{ op := 0, poison := false, context := trContext (trayRow s n), segment := trSegment (trayRow s n),
           offset := trBase (trayRow s n) + trNext (trayRow s n) * 64, length := 64, data := [], enabled := true,
           access := s.host.nextAccess, piece := 0, waited := false }] ∧
      u = { s with host := u.host, slips.trays := u.slips.trays }) ∧
  (∀ (s : State) (n : Nat) (bs : List Byte), unitsRun s 2 = true → n < 64 →
    (trayRun s n).returned = some (0, bs) → trState (trayRow s n) = 1 → silent s = false →
    slTurn (numLE (bs.take 64)) = trTurn (trayRow s n) → partitionDown s (trayPartition s n) = true →
    ctx? s n (trayRun s n).serial = none →
    Does (exec (.slotReadComplete n) s) fun u =>
      (∃ c r, ctx? u n (trayRun s n).serial = some c ∧ c.bits = numLE (bs.take 64) ∧ c.result = some r ∧
        r.status = stStale ∧ r.bytes = 0) ∧
      trNext (trayRow u n) = (trNext (trayRow s n) + 1) % trSize (trayRow s n) % 2 ^ 16) ∧
  (∀ (s : State) (n : Nat) (bs : List Byte), unitsRun s 2 = true → n < 64 →
    (trayRun s n).returned = some (0, bs) → trState (trayRow s n) = 1 → silent s = false →
    slTurn (numLE (bs.take 64)) = trTurn (trayRow s n) → partitionDown s (trayPartition s n) = false →
    Does (exec (.slotReadComplete n) s) fun u =>
      (∃ c, u.slips.ctxs = s.slips.ctxs ++ [c] ∧ c.tray = n ∧ c.k = (trayRun s n).serial ∧
        c.slot = trNext (trayRow s n) ∧ c.bits = numLE (bs.take 64) ∧ c.reqs = [] ∧ c.result = none) ∧
      trNext (trayRow u n) = (trNext (trayRow s n) + 1) % trSize (trayRow s n) % 2 ^ 16 ∧
      trTurn (trayRow u n) = (fld (trayRow s n) 127 64 + 1) / trSize (trayRow s n) % 255 + 1 ∧
      fld (trayRow u n) 127 64 = (fld (trayRow s n) 127 64 + 1) % 2 ^ 64 ∧
      trayRun u n = { reading := false, returned := none, serial := (trayRun s n).serial + 1 } ∧
      (∀ j, j < 64 → j ≠ n → trayRow u j = trayRow s j) ∧ StoreFrame s u [trayCn] ∧
      u = { s with slips := u.slips, cat := u.cat }) ∧
  (∀ (s v : State) (n k : Nat) (c : SlipCtx) (r : Admitted), unitsRun s 2 = true →
    (trayCtxs s n).find? waitsAdmission = some c → ctx? s n k = some c → c.k = k → admissionTurn s = some n →
    slTag c.bits = 0 →
    admission { s with slips.lastTray := n } (slLocal c.bits).spans
      { request := false, source := ownId s, mask := if slPull c.bits then rightWrite else rightRead } = (v, r) →
    Does (exec (.slipAdmissionDone n k) s) fun u =>
      ∃ w : State, ctx? w n k = some
        (match r with
          | .pass uses => { c with localDone := true, localWindows := uses }
          | .refuse st off => { c with localDone := true, localRefusal := some (st, off) }) ∧
      w = { v with slips.ctxs := w.slips.ctxs } ∧ u = serveProbes w)

/-- A slip's way out: a PROBE_RSP decides its remote side (R38), each request it issues is the next piece of its
extents (R101, R105), it completes with the result of R107, and a remote notice whose post times out makes
that result TIMEOUT and its issuer's lost flag is set (R113). -/
def Obligations.SlipsIssueAndComplete : Prop :=
  (∀ (s t : State) (p n j : Nat) (k : Packet) (w : Tracker) (c : SlipCtx), k.opcode = opProbeRsp → Checked s p k t →
    tagMatches t p k = some w → w.opcode = opProbe → w.owner = .probe n j → w.stuck = false → ctx? t n j = some c →
    c.result = none →
    c.probe = .pending → slTag c.bits = 0 →
    Does (exec (.probeRsp p k) s) fun u =>
      lookupT u.switch.trackers k.tracker = none ∧
      ctx? u n j = some { c with
        retried := c.retried || statusS k == stBusy,
        probe := if statusS k = stOk then .granted (holdS k)
                 else if statusS k = stBusy then .busy else .refused (statusS k) (offendingS k) } ∧
      u = { t with slips.ctxs := u.slips.ctxs, cat := u.cat,
                   switch := { t.switch with trackers := u.switch.trackers } }) ∧
  (∀ (s : State) (n k : Nat) (c : SlipCtx) (i : Piece), unitsRun s 2 = true → ctx? s n k = some c →
    mayIssue s c = true → slipPiece c.bits c.nextPos = some i →
    Does (exec (.slipIssue n k) s) fun u =>
      ∃ d q, ctx? u n k = some d ∧ d.nextReq = c.nextReq + 1 ∧ d.nextPos = i.next ∧
        d.reqs.length = c.reqs.length + 1 ∧ d.reqs.getLast? = some q ∧ q.req = c.nextReq ∧ q.remote = i.remote ∧
        q.pos = i.pos ∧ q.length = i.length ∧ q.sent = false ∧
        (slPull c.bits = true → u = { s with slips.ctxs := u.slips.ctxs })) ∧
  (∀ (s : State) (n k : Nat) (c : SlipCtx) (r : SlipResult), unitsRun s 2 = true → ctx? s n k = some c →
    c.tray = n → c.k = k → c.result = none → slipOutcome c = some r →
    Does (exec (.slipComplete n k) s) fun u =>
      ∃ d, ctx? u n k = some d ∧ d.result = some r ∧ d.localWindows = [] ∧ d.bits = c.bits ∧ d.slot = c.slot ∧
        (r.status = stLinkLost → issuerLost u c.issuer = true) ∧
        get u 0x8110_02 = (if slipRefused c then (get s 0x8110_02 + 1) % 2 ^ 64 else get s 0x8110_02)) ∧
  (∀ (s : State) (n k seq : Nat) (c : SlipCtx) (r : SlipResult), unitsRun s 2 = true → ctx? s n k = some c →
    c.tray = n → c.k = k → c.post = some seq → c.result = some r →
    Does (exec (.remoteNoticePostTimeout n k) s) fun u =>
      ctx? u n k = some { c with post := none, flagged := true,
                                 result := some { r with status := stTimeout, offset := 0 } } ∧
      issuerLost u c.issuer = true ∧ StoreFrame s u [issuerCn] ∧
      u = { s with slips.ctxs := u.slips.ctxs, cat := u.cat })

/-- The notice rings: enable puts the staged row in force empty at slot 0 and turn 1, disable takes it out of
force (R109); the next waiting notice is written in one 32-byte write at its slot and the ring moves on (R110,
R111); a full ring asks for its consumed count (R112); ring_attention_clear clears its bit (R114). -/
def Obligations.RingsWriteAndAnswer : Prop :=
  (∀ (s : State) (rq : Requester) (n : Nat), Granted s rq 0x8202_00 [n] → n < 256 → fld (ringRow s n) 255 254 = 0 →
    Does (exec (.ringEnable rq n) s) fun u =>
      rgOn (ringRow u n) = true ∧ fld (ringRow u n) 91 76 = 0 ∧ fld (ringRow u n) 75 68 = 1 ∧
      fld (ringRow u n) 63 0 = 0 ∧ fld (ringRow u n) 253 92 = fld (get s 0x8201_00) 253 92 ∧
      (ringRun u n).written = 0 ∧ (ringRun u n).consumed = 0 ∧
      (∀ j, j < 256 → j ≠ n → ringRow u j = ringRow s j) ∧ Completed s u rq 0x8202_00 0 [ringCn] ∧
      u = { s with slips.rings := u.slips.rings, host.accesses := u.host.accesses, cat := u.cat, log := u.log,
                   mgmt := u.mgmt }) ∧
  (∀ (s : State) (rq : Requester) (n : Nat), Granted s rq 0x8203_00 [n] → n < 256 →
    Does (exec (.ringDisable rq n) s) fun u =>
      rgOn (ringRow u n) = false ∧ (∀ j, j < 256 → j ≠ n → ringRow u j = ringRow s j) ∧
      Completed s u rq 0x8203_00 0 [ringCn] ∧ u = { s with cat := u.cat, log := u.log, mgmt := u.mgmt }) ∧
  (∀ (s : State) (rq : Requester) (n : Nat), Granted s rq 0x8205_00 [n] → n < 256 →
    Leaves (exec (.ringAttentionClear rq n) s) fun t =>
      (∀ i, bit (get t 0x8204_00) i = (bit (get s 0x8204_00) i && i != n)) ∧
      Completed s t rq 0x8205_00 0 [0x8204_00] ∧ t = { s with cat := t.cat, log := t.log, mgmt := t.mgmt }) ∧
  (∀ (s : State) (n m w bits : Nat) (x : NoticePending), unitsRun s 2 = true → n < 256 →
    rgOn (ringRow s n) = true → ringFull s n = false → nextNotice s n = some x → w = (ringRun s n).written →
    bits = setFld (setBit (setFld x.bits 255 248 (ringTurn (rgSize (ringRow s n)) w)) 236 (ringRun s n).overflowed)
      63 0 (now s) →
    mspPort s (rgPartition (ringRow s n)) (rgSegment (ringRow s n))
      (rgBase (ringRow s n) + ringSlot (rgSize (ringRow s n)) w * 32) = some m → quiesced s m = false → noLocksAt s m →
    Does (exec (.noticeWrite n) s) fun u =>
      (ringRun u n).written = w + 1 ∧ (ringRun u n).overflowed = false ∧
      fld (ringRow u n) 91 76 = ringSlot (rgSize (ringRow s n)) (w + 1) % 2 ^ 16 ∧
      fld (ringRow u n) 75 68 = ringTurn (rgSize (ringRow s n)) (w + 1) ∧
      mspQueue u m = mspQueue s m ++
        [{ op := 1, poison := false, context := rgContext (ringRow s n), segment := rgSegment (ringRow s n),
           offset := rgBase (ringRow s n) + ringSlot (rgSize (ringRow s n)) w * 32, length := 32,
           data := bytesLE 32 bits, enabled := true, access := s.host.nextAccess, piece := 0, waited := false }] ∧
      StoreFrame s u [ringCn] ∧ u = { s with host := u.host, slips.rings := u.slips.rings, cat := u.cat }) ∧
  (∀ (s : State) (n m : Nat), unitsRun s 2 = true → rgOn (ringRow s n) = true → ringFull s n = true →
    (∀ e ∈ s.host.accesses, e.2.kind = .consumedRead n → e.2.ignored = true) →
    mspPort s (rgPartition (ringRow s n)) (rgSegment (ringRow s n)) (rgConsumed (ringRow s n)) = some m →
    quiesced s m = false → noLocksAt s m →
    Does (exec (.consumedCountPoll n) s) fun u =>
      mspQueue u m = mspQueue s m ++
        [{ op := 0, poison := false, context := rgContext (ringRow s n), segment := rgSegment (ringRow s n),
           offset := rgConsumed (ringRow s n), length := 8, data := [], enabled := true,
           access := s.host.nextAccess, piece := 0, waited := false }] ∧
      (∃ x, access? u s.host.nextAccess = some x ∧ x.kind = .consumedRead n) ∧ u = { s with host := u.host })

/-- ledger_clear zeroes the cells it names, poison bits included, and no other byte of the carrel (R148); where a cell
is being replaced or an earlier operation on it waits, it waits its turn (R22, R324).
tenant_change waits while the banks are cleared; at the end of the clear the carrel reads zero with no row
poisoned, carrel_tenant holds the argument and the change is counted (R362). -/
def Obligations.CarrelIsCleared : Prop :=
  (∀ (s : State) (rq : Requester) (first n : Nat), Granted s rq 0x8311_00 [first, n] → n ≠ 0 →
      first + n ≤ get s 0x8310_02 → first < 2 ^ 32 → n < 2 ^ 32 →
      (∀ c, first ≤ c → c < first + n → cellBusy s c = false) → cellsAwaited s first n = false →
      (∀ c, first ≤ c → c < first + n → carrelRow (cellAddr s c) ∉ s.carrel.dead) →
      Does (exec (.ledgerClear rq first n) s) fun t =>
        (∀ c, first ≤ c → c < first + n → readCell t c = 0) ∧
        (∀ a, (∀ c, first ≤ c → c < first + n → a < cellAddr s c ∨ cellAddr s c + 40 ≤ a) →
          Memory.readByte t.carrel.mem a = Memory.readByte s.carrel.mem a) ∧
        t.carrel = { s.carrel with mem := t.carrel.mem } ∧ Completed s t rq 0x8311_00 0 [] ∧
        t = { s with carrel := t.carrel, cat := t.cat, log := t.log, mgmt := t.mgmt }) ∧
  (∀ (s : State) (rq : Requester) (first n : Nat), Granted s rq 0x8311_00 [first, n] → n ≠ 0 →
      first + n ≤ get s 0x8310_02 → first < 2 ^ 32 → n < 2 ^ 32 →
      (∃ c, first ≤ c ∧ c < first + n ∧ cellBusy s c = true) ∨ cellsAwaited s first n = true →
      Does (exec (.ledgerClear rq first n) s) fun u =>
        u.host.inner = s.host.inner ++ [s.host.nextAccess] ∧
        (∃ x, access? u s.host.nextAccess = some x ∧ x.kind = .ledgerClear first n) ∧
        (∃ v ∈ u.mgmt.running, v.cn = 0x8311_00 ∧ v.arg = clearArg first n ∧ v.latest = true) ∧
        get u 0x8311_00 = cmdValue 1 0 0 ∧ StoreFrame s u [0x8311_00, 0x1110_03] ∧
        u = { s with host := u.host, cat := u.cat, mgmt := u.mgmt }) ∧
  (∀ (s : State) (rq : Requester) (n : Nat), Granted s rq 0x8302_00 [n] → n < 256 → tenantBusy s = false →
    Leaves (exec (.tenantChange rq n) s) fun t =>
      t.power = { s.power with clearing := some n } ∧ get t 0x8302_00 = cmdValue 1 0 0 ∧
      (runningInvocation t 0x8302_00 0).isSome = true ∧ StoreFrame s t [0x8302_00, 0x1110_03] ∧
      t = { s with cat := t.cat, mgmt := t.mgmt, power := t.power }) ∧
  (∀ (s : State) (n : Nat), s.power.clearing = some n → unitsRun s 2 = true →
    Does (exec .tenantClearDone s) fun u =>
      (∀ a, Memory.readByte u.carrel.mem a = 0) ∧ u.carrel.poison = [] ∧ get u 0x8301_00 = n ∧
      get u 0x8303_00 = (get s 0x8303_00 + 1) % 2 ^ 32 ∧ u.power = { s.power with clearing := none } ∧
      StoreFrame s u [0x8301_00, 0x8303_00, 0x8302_00] ∧
      u = { s with carrel := { s.carrel with mem := [], poison := [], foreign := [] }, cat := u.cat, mgmt := u.mgmt,
                   log := u.log, power := u.power })

/-- The management packets: an ill-formed MGMT_REQ is answered MALFORMED, a repeat of one still running is only
counted (R270, R275), and a new one opens its client's record and its items start; MGMT_RSP completes its tracker, and
one that answers loan_hop_open with OK opens the loan and ends the command that waits for it (R189); a RETIRED notice that names this block retires it, and any other is counted (R48); FAULT_REPORT is
counted and FAULT_ACK of a service frees the row it names (R322). -/
def Obligations.ManagementPacketsAct : Prop :=
  (∀ (s t : State) (p : Nat) (k : Packet), k.opcode = opMgmtReq → Checked s p k t → servesFabric t = true →
    requestItems t 4096 (messageOf (dataBytes k)) (dataBytes k).length = none →
    Does (exec (.mgmtReq p k) s) fun u =>
      ∃ a : Packet, a.opcode = opMgmtRsp ∧ a.tracker = k.tracker ∧ a.turn = k.turn ∧ a.vc = 5 ∧
        a.data = padSlots (messageBytes 2 stMalformed (messageOf (dataBytes k)).number []) ∧ u = sendResponse t p a) ∧
  (∀ (s t : State) (p : Nat) (k : Packet) (items : List Item) (c : Client) (r : ClientRecord), k.opcode = opMgmtReq →
    Checked s p k t → servesFabric t = true →
    requestItems t 4096 (messageOf (dataBytes k)) (dataBytes k).length = some items →
    strayCommission t (requesterOf t p k) items = false → clientOf t (requesterOf t p k) = some c →
    c.records.find? (fun r => r.number == (messageOf (dataBytes k)).number) = some r → r.running = true →
    Does (exec (.mgmtReq p k) s) fun u =>
      get u 0x1210_04 = (get t 0x1210_04 + 1) % 2 ^ 64 ∧ StoreFrame t u [0x1210_04] ∧ u = { t with cat := u.cat }) ∧
  (∀ (s t v : State) (p : Nat) (k : Packet) (items : List Item), k.opcode = opMgmtReq → Checked s p k t →
    servesFabric t = true → requestItems t 4096 (messageOf (dataBytes k)) (dataBytes k).length = some items →
    strayCommission t (requesterOf t p k) items = false →
    ((∃ c, v = t ∧ clientOf t (requesterOf t p k) = some c ∧
        ∀ r ∈ c.records, r.number ≠ (messageOf (dataBytes k)).number) ∨
      (clientOf t (requesterOf t p k) = none ∧ t.mgmt.clients.length < clientPlaces ∧
        v = { t with mgmt.clients := t.mgmt.clients ++ [{ rq := requesterOf t p k, records := [] }] })) →
    Does (exec (.mgmtReq p k) s) fun u =>
      u = startMessage (openRecord v (requesterOf t p k) (messageOf (dataBytes k)).number) (requesterOf t p k)
        (some (p, k)) (messageOf (dataBytes k)).number items) ∧
  (∀ (s t : State) (p n : Nat) (k : Packet) (w : Tracker), k.opcode = opMgmtRsp → Checked s p k t →
    tagMatches t p k = some w → w.opcode = opMgmtReq → w.stuck = false → answerFits w k = true →
    Does (exec (.mgmtRsp p k) s) fun u =>
      lookupT u.switch.trackers k.tracker = none ∧
      (w.owner = .mgmt (.abort n) →
        u = { t with switch := { t.switch with trackers := u.switch.trackers } }) ∧
      (w.owner = .mgmt (.loanOpen n) → n < 4096 → responseStatus k = stOk → loanState t n = 1 →
        loanState u n = 2 ∧ ∀ cn, cn = 0x6407_00 ∨ cn = 0x6408_00 →
          noneRuns u cn n ∧ (latestRuns t cn n → recordsFit t → get u cn = cmdValue 2 stOk 0))) ∧
  (∀ (s t : State) (p : Nat) (k : Packet), k.opcode = opRetiredNotice → Checked s p k t →
    Does (exec (.retiredNotice p k) s) fun u =>
      (retiredNoticeTakes t k = true → commission u = 3 ∧ get u 0x1100_03 = get t 0x1002_00) ∧
      (retiredNoticeTakes t k = false → get u 0x5400_07 = (get t 0x5400_07 + 1) % 2 ^ 64 ∧
        StoreFrame t u [0x5400_07] ∧ u = { t with cat := u.cat })) ∧
  (∀ (s t : State) (p : Nat) (k : Packet), k.opcode = opFaultReport → Checked s p k t →
    Does (exec (.faultReport p k) s) fun u =>
      get u 0xA202_06 = (get t 0xA202_06 + 1) % 2 ^ 64 ∧ StoreFrame t u [0xA202_06] ∧ u = { t with cat := u.cat }) ∧
  (∀ (s t : State) (p n : Nat) (k : Packet), k.opcode = opFaultAck → Checked s p k t → service k.src = true →
    sortedT t.cat = true →
    get t 0xA202_03 = 0 → n < 256 → fld (getRow t reportCn n) 255 254 ≠ 0 →
    fld (getRow t reportCn n) 211 196 = fld (nth 0 0 k.data) 127 112 →
    fld (getRow t reportCn n) 253 246 = fld (nth 0 0 k.data) 111 104 →
    fld (getRow t reportCn n) 241 220 = fld (nth 0 0 k.data) 103 82 →
    fld (getRow t reportCn n) 219 212 = fld (nth 0 0 k.data) 81 74 →
    (∀ m, m ≠ n → (fld (getRow t reportCn m) 255 254 = 0 ∨
      fld (getRow t reportCn m) 211 196 ≠ fld (getRow t reportCn n) 211 196)) →
    Does (exec (.faultAck p k) s) fun u =>
      getRow u reportCn n = 0 ∧ get u 0xA202_02 = (get t 0xA202_02 + 1) % 2 ^ 64 ∧
      (∀ m, m < 256 → m ≠ n → getRow u reportCn m = getRow t reportCn m) ∧
      StoreFrame t u [reportCn, 0xA202_02, 0xA202_04] ∧ u = { t with cat := u.cat })

/-- The mirror's packets (R330, R331, R333, R336): MIRROR_ACK of the counterpart moves the acknowledged sequence
and lets the covered updates go; an update in sequence is applied to the image and acknowledged; a
SNAPSHOT_BEGIN begins a new image and a SNAPSHOT_END completes it; RESTORE_REQUEST queues the image's updates,
and RESTORE_BEGIN starts the restore afresh. -/
def Obligations.MirrorPacketsAct : Prop :=
  (∀ (s t : State) (p seq : Nat) (k : Packet), k.opcode = opMirrorAck → Checked s p k t → t.mirror.restore = none →
    mirroring t = true → k.src = counterpart t → pairing t = 2 → bit (mirrorSlot k) 91 = false → t.mirror.jobs = [] →
    t.mirror.commitWait = none → seq = fld (mirrorSlot k) 127 96 → subMod 32 seq (get t 0xB001_02) ≠ 0 →
    subMod 32 seq (get t 0xB001_02) ≤ subMod 32 (get t 0xB001_01) (get t 0xB001_02) →
    Does (exec (.mirrorAck p k) s) fun u =>
      get u 0xB001_02 = seq ∧ StoreFrame t u [0xB001_02] ∧
      (∀ x, x ∈ u.mirror.buffer ↔ x ∈ t.mirror.buffer ∧
        ¬(subMod 32 x.seq (get t 0xB001_02) ≤ subMod 32 seq (get t 0xB001_02))) ∧
      u = { t with cat := u.cat, mirror.buffer := u.mirror.buffer }) ∧
  (∀ (s t : State) (p : Nat) (k : Packet) (c : Instr), k.opcode = opMirrorUpdate →
    (muKind k, c) ∈ [(0, .mirrorValue p k), (1, .mirrorRows p k), (2, .mirrorLogRecords p k), (3, .snapshotBegin p k),
      (4, .snapshotEnd p k)] → Checked s p k t → domainOn t 25 = true → t.mirror.restore = none →
    mirroring t = true → k.src = counterpart t → updateFits t k = true →
    (muKind k = 3 ∨ muSeq k = (get t 0xB001_03 + 1) % 2 ^ 32) →
    Does (exec c s) fun u => ∃ v, u = ackMirror v ∧ v = { t with cat := v.cat } ∧
      get v 0xB001_03 = muSeq k ∧ get v 0xB002_03 = now t ∧
      (muKind k = 0 → ∀ r, imageValueRow t (muCn k) = some r →
        getRow v 0xB016_00 r = muCn k * 2 ^ 232 + min (muBytes k) 16 * 2 ^ 224 + numLE ((muData k).take 16)) ∧
      (muKind k = 1 → ∀ cn j, imageTable (muCn k) = some cn → j < muCount k →
        getRow v cn (muRow k + j) =
          numLE (((muData k).drop (j * mirrorWidth (muCn k))).take (mirrorWidth (muCn k)))) ∧
      (muKind k = 2 → muCount k = 1 → rowsOf t 0xB017_00 = [] →
        getRow v 0xB017_00 0 = numLE ((muData k).take 64)) ∧
      (muKind k = 3 → get v 0xB002_00 = 1 ∧ get v 0xB002_01 = k.src ∧ get v 0xB002_02 = k.srcEdition) ∧
      (muKind k = 4 → get v 0xB002_00 = 2)) ∧
  (∀ (s t : State) (p : Nat) (k : Packet), k.opcode = opMirrorUpdate → muKind k = 5 → Checked s p k t →
    domainOn t 25 = true → mirroring t = true → k.src = counterpart t → k.src = get t 0xB002_01 →
    newer 8 (get t 0xB002_02) k.srcEdition = false → get t 0xB002_00 = 2 →
    Does (exec (.restoreRequest p k) s) fun u => ∃ v w a, a.opcode = opMirrorAck ∧ a.dst = k.src ∧ v = sendLoose t a ∧
      w = { v with mirror := { v.mirror with buffer := w.mirror.buffer, jobs := w.mirror.jobs } } ∧
      (∀ x, x ∈ w.mirror.buffer ↔ x ∈ v.mirror.buffer ∧ x.edition = none) ∧
      w.mirror.jobs = (imageWork v).map (fun x => { work := x, snap := false, edition := some k.srcEdition }) ++
        v.mirror.jobs.filter (fun j => j.edition.isNone) ∧
      u = mirrorPump pumpFuel w) ∧
  (∀ (s t : State) (p : Nat) (k : Packet) (r : Restore), k.opcode = opMirrorUpdate → muKind k = 6 → Checked s p k t →
    domainOn t 25 = true → t.mirror.restore = some r → r.endpoint = k.src →
    Does (exec (.restoreBegin p k) s) fun u => ∃ v, u = ackRestore v r (muSeq k) ∧
      v.mirror.restore = some { r with lastSeq := some (muSeq k) } ∧
      (∀ row, row < 2 ^ 32 → getRow v 0xB021_00 row = defaultOf t.part 0xB021_00 row ∧
        getRow v 0xB022_00 row = defaultOf t.part 0xB022_00 row) ∧
      StoreFrame t v [0xB021_00, 0xB022_00] ∧ v = { t with cat := v.cat, mirror.restore := v.mirror.restore })

/-- The mirror's and the log's own acts: unacknowledged updates go again in order, ahead of others (R331, R332), a direction whose limit passes is
LOST (R328), a commit that waits is answered (R335), counterpart_restore asks its endpoint and times out
(R336); a record is formed with its number and chain code (R337, R338, R340) and the next undrained record is
copied to its slot of the drain ring (R341). -/
def Obligations.MirrorAndLogAct : Prop :=
  (∀ (s : State), switchOn s = true → domainOn s 25 = true → pairing s = 2 → mirrorUnacked s = true →
    Does (exec .mirrorResendExpiry s) (fun u => ∃ v, u = mirrorPump pumpFuel v ∧
      (∃ rest, v.mirror.jobs = s.mirror.buffer.map (fun x =>
          ({ work := .resend x.seq, snap := false, edition := x.edition } : MirrorJob)) ++ rest ∧
        ∀ j, j ∈ rest ↔ j ∈ s.mirror.jobs ∧ ∀ q, j.work ≠ .resend q) ∧
      v = { s with mirror.jobs := v.mirror.jobs }) ∧
    Does (exec .mirrorLostLimitExpiry s) (fun u => pairing u = 3 ∧ u.mirror.snapshotEnd = none ∧
      (∀ x, x ∈ u.mirror.buffer ↔ x ∈ s.mirror.buffer ∧ x.edition ≠ none) ∧
      (∀ x, x ∈ u.mirror.jobs ↔ x ∈ s.mirror.jobs ∧ x.edition ≠ none) ∧
      u = { s with cat := u.cat, log := u.log, mirror := u.mirror })) ∧
  (∀ (s : State) (c : CommitWait), held s = false → s.mirror.commitWait = some c →
    Does (exec .mirrorCommitWaitExpiry s) fun u =>
      u = { s with mirror.commitWait := none, mgmt.finished := s.mgmt.finished ++ [(c.msg, stOk, 0)] }) ∧
  (∀ (s : State) (rq : Requester) (ep p ed : Nat), Granted s rq 0xB020_00 [ep, p, ed] → p < portsOf s.part →
    ordinary ep = true → ed < 256 → commission s = 1 → ordinary (ownId s) = true → s.mirror.restore = none →
    Does (exec (.counterpartRestore rq ep p ed) s) fun u =>
      get u 0xB000_01 = ep ∧ get u 0xB000_02 = ed ∧ get u 0xB020_00 = cmdValue 1 0 0 ∧
      u.mirror.restore = some { endpoint := ep, port := p, edition := ed, lastSeq := none } ∧
      ∃ v ∈ u.mgmt.running, v.cn = 0xB020_00 ∧ v.arg = 0) ∧
  (∀ (s : State) (r : Restore), held s = false → s.mirror.restore = some r →
    Does (exec .restoreTimeout s) fun u =>
      u.mirror.restore = none ∧ (∀ x, x ∈ u.mirror.buffer ↔ x ∈ s.mirror.buffer ∧ x.edition = none) ∧
      (latestRuns s 0xB020_00 0 → get u 0xB020_00 = cmdValue 2 stTimeout 0) ∧
      StoreFrame s u [0xB020_00, 0xF004_00] ∧
      u = { s with cat := u.cat, log := u.log, mgmt := u.mgmt, mirror := u.mirror }) ∧
  (∀ (s : State) (e : LogEvent) (es : List LogEvent), s.power.porLow = false → s.log.dropped = 0 →
    s.log.queue = e :: es → get s 0xF000_00 < logSlots → unmirrored s → s.mirror.commitWait = none →
    Does (exec .logRecordForm s) fun u =>
      (∃ bits, bits = setFld (setFld e.bits 511 448 (get s 0xF000_00)) 63 0 0 ∧
        u.log.chain = chainCode s.log.chain bits ∧
        getRow u 0xF010_00 (get s 0xF000_00) = bits + u.log.chain) ∧
      get u 0xF000_00 = get s 0xF000_00 + 1 ∧ u.log.queue = es ∧
      (∀ j, j < logSlots → j ≠ get s 0xF000_00 → getRow u 0xF010_00 j = getRow s 0xF010_00 j) ∧
      StoreFrame s u [0xF010_00, 0xF000_00] ∧ u = { s with cat := u.cat, log := u.log }) ∧
  (∀ (s : State) (m k : Nat), held s = false → stopped s = false → bit (drainCfg s) 127 = true →
    drainBusy s = false → k = s.log.drainNext → k < get s 0xF000_00 → drainFull s = false → s.log.drainGap = none →
    (fld (drainCfg s) 102 67 * 64 + k % drainSize s * 64) % 4096 + 64 ≤ 4096 →
    mspPort s 16 (fld (drainCfg s) 110 103) (fld (drainCfg s) 102 67 * 64 + k % drainSize s * 64) = some m →
    quiesced s m = false → noLocksAt s m →
    Does (exec .logDrainWrite s) fun u =>
      u.log = { s.log with drainNext := k + 1, draining := some (k, fld (getRow s 0xF010_00 (k % logSlots)) 63 0) } ∧
      mspQueue u m = mspQueue s m ++
        [{ op := 1, poison := false, context := fld (drainCfg s) 122 111, segment := fld (drainCfg s) 110 103,
           offset := fld (drainCfg s) 102 67 * 64 + k % drainSize s * 64, length := 64,
           data := bytesLE 64 (getRow s 0xF010_00 (k % logSlots)), enabled := true,
           access := s.host.nextAccess, piece := 0, waited := false }] ∧
      u = { s with host := u.host, log := u.log })

/-- Tiles and slices: a burst that has been performed frees its tile's place and counts it closed (R135); a tile
that moves out is spilled and one that moves in is open again, and either waits while a row of its slot is being
replaced (R137, R324); a contribution that waits too long for a
spill slot is discarded and its entry aborted (R137); a ready spare is tested and becomes spare again or fails
(R167); a failed active slice with a spare is substituted (R166), and the spare then holds its logical number. -/
def Obligations.TilesAndSlicesAct : Prop :=
  (∀ (s : State) (id t : Nat) (y : Tile), unitsRun s 18 = true → burstTile s id t = some y → y.burstLeft = 0 →
    Does (exec (.tileBurstDone id t) s) fun u =>
      u.coll.tiles = s.coll.tiles.erase y ∧
      (∀ k, nth 0 k (entryRun u y.entry).closed =
        nth 0 k (entryRun s y.entry).closed + (if k = y.stage ∧ k < (entryRun s y.entry).closed.length then 1 else 0)) ∧
      get u 0x7000_04 = (get s 0x7000_04 + 1) % 2 ^ 64 ∧ StoreFrame s u [0x7000_04] ∧
      u = { s with coll := u.coll, cat := u.cat }) ∧
  (∀ (s : State) (id t : Nat) (y : Tile), unitsRun s 18 = true →
    s.coll.tiles.find? (fun x => stId (stRow s x.entry x.stage) == id && x.tile == t && 3 ≤ x.phase) = some y →
    tileOf s y.entry y.stage t = some y → slotBusy s y = true →
    Does (exec (.tileSpill id t) s) fun u =>
      tileOf u y.entry y.stage t = some { y with moved := true } ∧ u = { s with coll := u.coll }) ∧
  (∀ (s : State) (id t : Nat) (y : Tile), unitsRun s 18 = true →
    s.coll.tiles.find? (fun x => stId (stRow s x.entry x.stage) == id && x.tile == t && 3 ≤ x.phase) = some y →
    tileOf s y.entry y.stage t = some y → slotBusy s y = false → (∀ r ∈ slotRows s y.slot, r ∉ s.carrel.dead) →
    Does (exec (.tileSpill id t) s) fun u =>
      tileOf u y.entry y.stage t = some { y with phase := if y.phase = 3 then 2 else 0, moved := false } ∧
      get u 0x7000_05 = (if y.phase = 3 then (get s 0x7000_05 + 1) % 2 ^ 64 else get s 0x7000_05) ∧
      get u 0x7000_06 = (if y.phase = 3 then get s 0x7000_06 else (get s 0x7000_06 + 1) % 2 ^ 64) ∧
      StoreFrame s u [0x7000_05, 0x7000_06] ∧ u = { s with coll := u.coll, cat := u.cat }) ∧
  (∀ (s : State) (phys e n : Nat) (w : CollWait), unitsRun s 18 = true → sortedT s.cat = true →
    s.coll.waits.find? (fun x => x.phys == phys && x.slot) = some w → collAdmit s w.k = .stage e n →
    Does (exec (.spillWaitExpiry phys) s) fun u =>
      (∀ x ∈ u.coll.waits, x.serial ≠ w.serial) ∧ get u 0x7000_0B = (get s 0x7000_0B + 1) % 2 ^ 64 ∧
      ceState (ceRow u e) = 3 ∧ (entryRun u e).ended = some stAborted) ∧
  (∀ (s : State) (rq : Requester) (i : Nat), Granted s rq 0x7401_00 [] → spareSlice s = some i → sliceState s i = 1 →
    Does (exec (.sliceSelfTest rq) s) fun u =>
      get u (sliceCn i) = 0x80 ∧ u.coll.testing = true ∧ get u 0x7401_00 = cmdValue 1 0 0 ∧
      ∃ v ∈ u.mgmt.running, v.cn = 0x7401_00) ∧
  (∀ (s : State) (pass : Bool) (i : Nat), unitsRun s 18 = true → s.coll.testing = true →
    (upFrom 0 (slicesOf s.part)).find? (fun i => sliceState s i == 2) = some i →
    Does (exec (.sliceSelfTestEnd pass) s) fun u =>
      get u (sliceCn i) = (if pass then 0x40 else 0xC0) ∧ u.coll.testing = false ∧
      ((∃ v ∈ s.mgmt.running, v.cn = 0x7401_00 ∧ v.latest = true) → recordsFit s →
        get u 0x7401_00 = cmdValue 2 (if pass then stOk else stAborted) 0)) ∧
  (∀ (s : State) (phys spare : Nat), unitsRun s 18 = true → phys < slicesOf s.part → sliceState s phys = 0 →
    entriesOn s phys (sliceLogical s phys) = [] → spareSlice s = some spare → s.coll.testing = false →
    Does (exec (.sliceHardFailure phys) s) fun u =>
      get u (sliceCn phys) = 0xC0 ∧ u.coll.substituting = some (spare, sliceLogical s phys) ∧
      (∀ i, i < 8 → i ≠ phys → get u (sliceCn i) = get s (sliceCn i)) ∧ get u 0x1010_02 = get s 0x1010_02) ∧
  (∀ (s : State) (phys k : Nat), unitsRun s 18 = true → s.coll.substituting = some (phys, k) → phys < 8 →
    Does (exec .sliceSubstitutionDone s) fun u =>
      get u (sliceCn phys) = k ∧ get u 0x7402_00 = (get s 0x7402_00 + 1) % 2 ^ 32 ∧
      StoreFrame s u [sliceCn phys, 0x7402_00] ∧ u = { s with cat := u.cat, coll.substituting := none })

/-- The collective commands: open puts the staged entry and its stages in force with its gates at zero, start
gives it its thread (R150, R153), program_load writes the words read and the CRC of program memory (R154),
abort ends the entry without fan-out (R164); each invocation of a fan-out moves it to its next member (R163),
and the notice of an ended entry joins its ring once (R161). -/
def Obligations.CollectiveCommandsComplete : Prop :=
  (∀ (s : State) (rq : Requester) (e row : Nat) (ids : List Nat), Granted s rq 0x7104_00 [e] → e < 256 →
    sortedT s.cat = true → row = get s 0x7101_00 → (ceGuarded row = true → ceMembers row ≤ 4096) →
    domainOn s 18 = true → ceState (ceRow s e) = 0 →
    ids = ceGate row :: (upFrom 0 (ceStages row)).map (fun k => stId (stagedRow s k)) → ids.Nodup →
    (∀ x, x < 2 ^ 32 → ceState (ceRow s x) ≠ 0 → ∀ i ∈ entryIds s x, i ∉ ids) →
    Does (exec (.collectiveOpen rq e) s) fun u =>
      ceRow u e = setFld (setFld row 255 254 1) 4 0 0 ∧
      (∀ k, k < ceStages row → stRow u e k = stagedRow s k) ∧ (∀ g, g < 32 → gateCount u e g = 0) ∧
      entryRun u e = { EntryRun.reset with run := s.coll.runs + 1 } ∧ (∀ x, x < 256 → x ≠ e → ceRow u x = ceRow s x ∧ entryRun u x = entryRun s x) ∧
      Completed s u rq 0x7104_00 0 [entryCn, stageCn, gateCn] ∧
      u = { s with coll := u.coll, cat := u.cat, log := u.log, mgmt := u.mgmt }) ∧
  (∀ (s : State) (rq : Requester) (e : Nat), Granted s rq 0x7105_00 [e] → e < 256 → domainOn s 18 = true →
    ceState (ceRow s e) = 1 → gateShut s (cePartition (ceRow s e)) (ceContext (ceRow s e)) = false →
    threadsOn s (homeOf s (e % max 1 (activeSlices s))) < 64 →
    Does (exec (.collectiveStart rq e) s) fun u =>
      ceState (ceRow u e) = 2 ∧ get u 0x7105_00 = cmdValue 2 stOk 0 ∧
      ∃ t, thread? u e = some t ∧ t.pc = ceStart (ceRow s e) ∧ t.phys = homeOf s (e % max 1 (activeSlices s)) ∧
        reg t 0 = BitVec.ofNat 64 (ceRank (ceRow s e)) ∧ reg t 1 = BitVec.ofNat 64 (ceMembers (ceRow s e)) ∧
        reg t 2 = BitVec.ofNat 64 e ∧ reg t 3 = BitVec.ofNat 64 (ceParams (ceRow s e)) ∧
        (∀ j, 4 ≤ j → reg t j = 0) ∧ (∀ j, dataWord t j = 0) ∧ t.wait = none ∧ t.sends = []) ∧
  (∀ (s : State) (rq : Requester) (bs : List Byte) (stage : Nat), Granted s rq 0x7200_02 [] →
    programRefusal s = none → stage = get s 0x7200_01 → bs.length = 4 * loadWords stage →
    Does (exec (.programLoad rq (some bs)) s) fun u =>
      (∀ a, (lookupT u.coll.program a).getD 0 =
        if loadFirst stage ≤ a ∧ a < loadFirst stage + loadWords stage then
          BitVec.ofNat 32 (numLE ((bs.drop (4 * (a - loadFirst stage))).take 4))
        else (lookupT s.coll.program a).getD 0) ∧
      get u 0x7200_03 = crc32c (programBytes u) ∧ Completed s u rq 0x7200_02 0 [0x7200_03]) ∧
  (∀ (s : State) (rq : Requester) (gate status e : Nat), Granted s rq 0x7300_03 [gate, status] → sortedT s.cat = true →
    gateOf s gate = some e →
    (rq.cls = .endpoint ∨ (rq.cls = .neighbour ∧ ordinary rq.ident = true) → ceGuarded (ceRow s e) = true ∧
      ceLo (ceRow s e) ≤ rq.ident ∧ rq.ident ≤ ceHi (ceRow s e)) →
    Does (exec (.collectiveAbort rq gate status) s) fun u =>
      ceState (ceRow u e) = 3 ∧ (entryRun u e).ended = some stAborted ∧ u.coll.fanouts = s.coll.fanouts ∧
      get u 0x7300_03 = cmdValue 2 stOk 0) ∧
  (∀ (s t : State) (f : Fanout) (fs : List Fanout) (record : Nat) (r : Option Nat), unitsRun s 18 = true →
    silent s = false → s.coll.fanouts = f :: fs → f.left ≠ 0 → f.record = some (some record) →
    badMember record = false →
    sendInvoke s (fld record 21 0) 0x7300_03 (abortArg f.gate f.status) (.abort f.entry) = (t, r) →
    Does (exec (.abortFanoutInvocation f.next) s) fun u =>
      u = { t with coll.fanouts := if f.left ≤ 1 then fs else
        { f with next := (f.next + 1) % f.members, left := f.left - 1, asked := false, record := none } :: fs }) ∧
  (∀ (s : State) (e st : Nat), unitsRun s 18 = true → ceState (ceRow s e) = 3 → (entryRun s e).ended = some st →
    (entryRun s e).noticed = false → entryBursting s e = false →
    Does (exec (.collectiveNotice e) s) fun u =>
      (∃ x, (ringRun u (ceRing (ceRow s e))).waiting = (ringRun s (ceRing (ceRow s e))).waiting ++ [x] ∧
        x.entry = some e ∧ x.slip = none ∧
        x.bits = noticeBits st 1 0 (e * 2 ^ 14 + (entryRun s e).endPc)
          (if st = stMiss then (entryRun s e).faultOffset else 0) (entryRun s e).burstBytes (ceGate (ceRow s e))
          (entryRun s e).endStep) ∧
      (entryRun u e).noticed = true ∧ u = { s with coll := u.coll, slips := u.slips })

/-- The sequencer operations that write register d (R157, Table 7.5): the thread that stands at the instruction, with
nothing it reads still on its way, has d written, its other registers and its data words as they were, and goes on at
the next word; no host read on its way writes d any more (log entry 62). -/
def Obligations.SequencerWritesItsRegister : Prop :=
  ∀ (s : State) (e w op : Nat) (t : Thread) (a b v : Word64) (c : Instr), readyThread s e = some t →
    w = programWord s t.pc → (sourcesOf w).any (awaited t) = false → op = fld w 31 26 → t.regs.length = 16 →
    a = reg t (fld w 21 18) → b = reg t (fld w 17 14) →
    (op, v, c) ∈ [(0x01, a + b, .seqAdd e), (0x02, a - b, .seqSub e), (0x03, a &&& b, .seqAnd e),
      (0x04, a ||| b, .seqOr e), (0x05, a ^^^ b, .seqXor e), (0x06, a <<< (fld w 13 0 % 64), .seqShl e),
      (0x07, a >>> (fld w 13 0 % 64), .seqShr e), (0x08, a * b, .seqMul e),
      (0x09, if b = 0 then BitVec.allOnes 64 else a / b, .seqDivu e), (0x0A, if a ≤ b then a else b, .seqMinu e),
      (0x0B, if a ≤ b then b else a, .seqMaxu e), (0x0C, a + BitVec.ofInt 64 (signed 14 (fld w 13 0)), .seqAddi e),
      (0x0D, BitVec.ofNat 64 (fld w 21 0), .seqLi e),
      (0x0E, (reg t (fld w 25 22) <<< 22) ||| BitVec.ofNat 64 (fld w 21 0), .seqSli e),
      (0x18, dataWord t (fld w 13 0), .seqLdd e), (0x1D, BitVec.ofNat 64 (now s), .seqTime e),
      (0x26, BitVec.ofNat 64 (nth 0 (a.toNat % 4) (entryRun s e).closed), .seqRdc e),
      (0x27, BitVec.ofNat 64 (gateCount s e (a.toNat % 32)), .seqRdg e)] →
    Does (exec c s) fun u =>
      (∃ x, thread? u e = some x ∧ reg x (fld w 25 22) = v ∧ (∀ j, j ≠ fld w 25 22 → reg x j = reg t j) ∧
        x.pc = (t.pc + 1) % 16384 ∧ awaited x (fld w 25 22) = false ∧
        x = { t with regs := x.regs, pc := x.pc, sinceTrace := x.sinceTrace, reads := x.reads }) ∧
      (∀ j, j ≠ e → entryRun u j = entryRun s j) ∧ u = { s with coll := u.coll }

/-- Branches go to the word at their offset when their relation holds and to the next word else, J to its target
(R157); the registers and data words stay, and a thread that is not traced changes nothing else. -/
def Obligations.SequencerBranches : Prop :=
  ∀ (s : State) (e w op : Nat) (t : Thread) (a b : Word64) (taken : Bool) (c : Instr), readyThread s e = some t →
    w = programWord s t.pc → (sourcesOf w).any (awaited t) = false → op = fld w 31 26 →
    a = reg t (fld w 21 18) → b = reg t (fld w 17 14) →
    (op, taken, c) ∈ [(0x10, decide (a = b), .seqBeq e), (0x11, decide (a ≠ b), .seqBne e),
      (0x12, decide (a < b), .seqBltu e), (0x13, decide (b ≤ a), .seqBgeu e), (0x14, true, .seqJ e)] →
    Does (exec c s) fun u =>
      (∃ x, thread? u e = some x ∧ x.regs = t.regs ∧ x.words = t.words ∧ x.wait = t.wait ∧ x.sends = t.sends ∧
        (taken = false → x.pc = (t.pc + 1) % 16384) ∧
        (taken = true → op ≠ 0x14 → (x.pc : Int) = ((t.pc : Int) + signed 14 (fld w 13 0)) % 16384) ∧
        (op = 0x14 → x.pc = fld w 21 0 % 16384)) ∧
      (tracing s (threadSource t) e = false → u = { s with coll := u.coll })

/-- The sequencer operations that reach beyond its registers (R155, R157, R158, R160): STD writes its data word; LDH,
BLD, and RLD where the thread does not hold the roster line, ask host memory and go on, and what was read goes to its
register or data words when it has come; an RLD of a line held writes at once; SEND and the tokens join the thread's
work. A SEND from a register above g12, a host error (R12), draws free values for the registers that are not
(log entry 51). -/
def Obligations.SequencerReadsAndSends : Prop :=
  (∀ (s : State) (e w : Nat) (t : Thread), readyThread s e = some t → w = programWord s t.pc → fld w 31 26 = 0x19 →
    (sourcesOf w).any (awaited t) = false → t.words.length = 32 →
    Does (exec (.seqStd e) s) fun u =>
      (∃ x, thread? u e = some x ∧ dataWord x (fld w 13 0) = reg t (fld w 25 22) ∧
        (∀ j, j % 32 ≠ fld w 13 0 % 32 → dataWord x j = dataWord t j) ∧ x.pc = (t.pc + 1) % 16384 ∧
        x = { t with words := x.words, pc := x.pc, sinceTrace := x.sinceTrace, reads := x.reads }) ∧
      u = { s with coll := u.coll }) ∧
  (∀ (s : State) (e w op ptr off seg n m : Nat) (t : Thread) (r : HostRead) (c : Instr), readyThread s e = some t →
    w = programWord s t.pc → (sourcesOf w).any (awaited t) = false → op = fld w 31 26 →
    (op, ptr, n, r, c) ∈ [(0x1A, ((reg t (fld w 21 18)).toNat + 8 * fld w 13 0) % 2 ^ 64, 1,
        .toReg (fld w 25 22), .seqLdh e),
      (0x1B, (reg t (fld w 21 18)).toNat, fld w 9 5 + 1, .toData (fld w 13 0 % 32) (fld w 9 5 + 1), .seqBld e)] →
    seg = fld ptr 49 42 → off = fld ptr 41 0 / 8 * 8 → off % 4096 + 8 * n ≤ 4096 →
    mspPort s (cePartition (ceRow s e)) seg off = some m → quiesced s m = false → noLocksAt s m →
    Does (exec c s) fun u =>
      (∃ x q, thread? u e = some x ∧ x.pc = (t.pc + 1) % 16384 ∧ x.regs = t.regs ∧ x.words = t.words ∧
        x.reads.getLast? = some q ∧ q = { id := t.nextRead, dest := r, late := [], back := none } ∧
        (∀ j, (readTargets r).contains j = true → ∀ y ∈ x.reads, y ≠ q → y.late.contains j = true)) ∧
      mspQueue u m = mspQueue s m ++
        [{ op := 0, poison := false, context := ceContext (ceRow s e), segment := seg, offset := off, length := 8 * n,
           data := [], enabled := true, access := s.host.nextAccess, piece := 0, waited := false }] ∧
      u = { s with coll := u.coll, host := u.host }) ∧
  (∀ (s : State) (e w rank : Nat) (t : Thread) (bs : List Byte), readyThread s e = some t → w = programWord s t.pc →
    (sourcesOf w).any (awaited t) = false → fld w 31 26 = 0x1C → rank = (reg t (fld w 21 18)).toNat →
    t.line = some (rank / 16, bs) → t.regs.length = 16 →
    Does (exec (.seqRld e) s) fun u =>
      (∃ x, thread? u e = some x ∧
        reg x (fld w 25 22) = BitVec.ofNat 64 (numLE ((bs.drop (4 * (rank % 16))).take 4)) ∧
        (∀ j, j ≠ fld w 25 22 → reg x j = reg t j) ∧ x.pc = (t.pc + 1) % 16384) ∧ u = { s with coll := u.coll }) ∧
  (∀ (s : State) (e w rank off m : Nat) (t : Thread), readyThread s e = some t → w = programWord s t.pc →
    (sourcesOf w).any (awaited t) = false → fld w 31 26 = 0x1C → rank = (reg t (fld w 21 18)).toNat →
    (∀ bs, t.line ≠ some (rank / 16, bs)) → off = (ceRosterOffset (ceRow s e) + 64 * (rank / 16)) % 2 ^ 42 →
    off % 4096 + 64 ≤ 4096 →
    mspPort s (cePartition (ceRow s e)) (ceRosterSegment (ceRow s e)) off = some m → quiesced s m = false →
    noLocksAt s m →
    Does (exec (.seqRld e) s) fun u =>
      (∃ x, thread? u e = some x ∧ x.pc = (t.pc + 1) % 16384 ∧ x.regs = t.regs ∧
        x.reads.getLast? = some { id := t.nextRead, dest := .toRecord (fld w 25 22) rank, late := [], back := none }) ∧
      mspQueue u m = mspQueue s m ++
        [{ op := 0, poison := false, context := ceContext (ceRow s e), segment := ceRosterSegment (ceRow s e),
           offset := off, length := 64, data := [], enabled := true, access := s.host.nextAccess, piece := 0,
           waited := false }] ∧
      u = { s with coll := u.coll, host := u.host }) ∧
  (∀ (s : State) (e d at0 : Nat) (t : Thread) (r : ThreadRead) (bs : List Byte), unitsRun s 18 = true →
    thread? s e = some t → t.reads.find? (fun r => r.back.isSome) = some r → r.back = some bs → r.late = [] →
    t.regs.length = 16 → d < 16 →
    (at0 = 0 ∧ r.dest = .toReg d ∨ ∃ rank, at0 = 4 * (rank % 16) ∧ r.dest = .toRecord d rank) →
    Does (exec (.sequencerHostReadDone e) s) fun u =>
      (∃ x, thread? u e = some x ∧
        reg x d = BitVec.ofNat 64 (numLE ((bs.drop at0).take (if r.dest = .toReg d then 8 else 4))) ∧
        (∀ j, j ≠ d → reg x j = reg t j) ∧ x.pc = t.pc ∧ x.reads = t.reads.erase r ∧ x.words = t.words ∧
        x.line = (match r.dest with | .toRecord _ rank => some (rank / 16, bs) | _ => t.line)) ∧
      u = { s with coll := u.coll }) ∧
  (∀ (s : State) (e word n : Nat) (t : Thread) (r : ThreadRead) (bs : List Byte), unitsRun s 18 = true →
    thread? s e = some t → t.reads.find? (fun r => r.back.isSome) = some r → r.back = some bs → r.late = [] →
    r.dest = .toData word n → word < 32 → n ≤ 32 → t.words.length = 32 →
    Does (exec (.sequencerHostReadDone e) s) fun u =>
      (∃ x, thread? u e = some x ∧
        (∀ i, i < n → dataWord x (word + i) = BitVec.ofNat 64 (numLE ((bs.drop (8 * i)).take 8))) ∧
        (∀ j, (∀ i < n, j % 32 ≠ (word + i) % 32) → dataWord x j = dataWord t j) ∧ x.regs = t.regs ∧ x.pc = t.pc ∧
        x.reads = t.reads.erase r) ∧
      u = { s with coll := u.coll }) ∧
  (∀ (s : State) (e w rank first n : Nat) (t : Thread), readyThread s e = some t → w = programWord s t.pc →
    (sourcesOf w).any (awaited t) = false → fld w 31 26 = 0x20 → fld w 21 18 ≤ 12 →
    rank = (reg t (fld w 21 18)).toNat →
    first = (reg t (fld w 21 18 + 2)).toNat → n = (reg t (fld w 21 18 + 3)).toNat → t.sends.length < 16 →
    rank < ceMembers (ceRow s e) → n ≠ 0 → first + n ≤ 2 ^ 32 →
    Does (exec (.seqSend e) s) fun u =>
      (∃ x j, thread? u e = some x ∧ x.sends = t.sends ++ [j] ∧ j.rank = rank ∧ j.first = first ∧ j.count = n ∧
        j.stage = (reg t (fld w 17 14)).toNat % 4 ∧ j.source = (reg t (fld w 21 18 + 1)).toNat ∧ j.formed = 0 ∧
        x.pc = (t.pc + 1) % 16384 ∧ x.regs = t.regs) ∧ u = { s with coll := u.coll }) ∧
  (∀ (s : State) (e w : Nat) (t : Thread), readyThread s e = some t → w = programWord s t.pc →
    (sourcesOf w).any (awaited t) = false → fld w 31 26 = 0x20 → 12 < fld w 21 18 → t.sends.length < 16 →
    Does (exec (.seqSend e) s) fun u =>
      u.freeCount = s.freeCount + 3 ∧
      ((∃ x, thread? u e = some x ∧ x.pc = (t.pc + 1) % 16384 ∧ x.regs = t.regs ∧
          x.sends.length ≤ t.sends.length + 1 ∧ u = { s with coll := u.coll, freeCount := u.freeCount }) ∨
        (ceState (ceRow u e) = 3 ∧ (entryRun u e).ended = some stAborted))) ∧
  (∀ (s : State) (e w op first n : Nat) (t : Thread) (c : Instr), readyThread s e = some t →
    w = programWord s t.pc → (sourcesOf w).any (awaited t) = false → op = fld w 31 26 →
    (op, first, n, c) ∈ [(0x23, 0, ceMembers (ceRow s e), .seqTokall e),
      (0x24, (reg t (fld w 17 14)).toNat, 1, .seqToken e)] → (op = 0x24 → first < ceMembers (ceRow s e)) →
    Does (exec c s) fun u =>
      (∃ x, thread? u e = some x ∧ x.tokens = t.tokens ++
        [{ gate := (reg t (fld w 21 18)).toNat % 32, next := first, left := n, asked := false }] ∧
        x.pc = (t.pc + 1) % 16384 ∧ x.regs = t.regs) ∧ u = { s with coll := u.coll })

/-- A wait whose condition holds goes on at once and one whose condition does not waits for it (R159); DONE ends
the thread once its SENDs have left (R161); a wait past its limit ends the entry TIMEOUT, or ABORTED when it
is guarded (R162, R163); FAULT, every op not listed, and ABORT end it ABORTED (R157, R161). -/
def Obligations.SequencerWaitsAndEnds : Prop :=
  (∀ (s : State) (e w op : Nat) (t : Thread) (holds : Bool) (x : ThreadWait) (c : Instr), readyThread s e = some t →
    w = programWord s t.pc → (sourcesOf w).any (awaited t) = false → op = fld w 31 26 →
    (op, x, holds, c) ∈ [(0x21, .sends, t.sends.isEmpty && t.unsent == 0, .seqWaits e),
      (0x22, .closed ((reg t (fld w 21 18)).toNat % 4) (reg t (fld w 17 14)).toNat,
        decide ((reg t (fld w 17 14)).toNat ≤ nth 0 ((reg t (fld w 21 18)).toNat % 4) (entryRun s e).closed),
        .seqWaitc e),
      (0x25, .gate ((reg t (fld w 21 18)).toNat % 32) (reg t (fld w 17 14)).toNat,
        decide ((reg t (fld w 17 14)).toNat ≤ gateCount s e ((reg t (fld w 21 18)).toNat % 32)), .seqWaitg e)] →
    Does (exec c s) fun u =>
      (∃ y, thread? u e = some y ∧ y.regs = t.regs ∧ y.words = t.words ∧ y.sends = t.sends ∧
        (holds = true → y.pc = (t.pc + 1) % 16384 ∧ y.wait = none) ∧
        (holds = false → y.pc = t.pc ∧ y.wait = some x)) ∧ u = { s with coll := u.coll }) ∧
  (∀ (s : State) (e : Nat) (t : Thread) (x : ThreadWait), unitsRun s 18 = true → ceState (ceRow s e) = 2 →
    thread? s e = some t → t.wait = some x → waitHolds s e t = true → (∀ n, x ≠ .done n) →
    Does (exec (.waitConditionMet e) s) fun u =>
      (∃ y, thread? u e = some y ∧ y.pc = (t.pc + 1) % 16384 ∧ y.wait = none ∧ y.regs = t.regs) ∧
      u = { s with coll := u.coll }) ∧
  (∀ (s : State) (e w : Nat) (t : Thread), readyThread s e = some t → w = programWord s t.pc → fld w 31 26 = 0x3E →
    (sourcesOf w).any (awaited t) = false →
    Does (exec (.seqDone e) s) fun u =>
      (sendsLeft t = false → thread? u e = some { t with wait := some (.done (reg t (fld w 21 18)).toNat) } ∧
        u = { s with coll := u.coll }) ∧
      (sendsLeft t = true → ceState (ceRow u e) = 3 ∧ (entryRun u e).ended.isSome = true ∧
        (entryRun u e).endStep = (reg t (fld w 21 18)).toNat)) ∧
  (∀ (s : State) (e : Nat) (t : Thread) (g : Bool) (c : Instr),
    (g, c) ∈ [(false, .waitLimitExpiry e), (true, .guardWaitExpiry e)] → unitsRun s 18 = true →
    ceState (ceRow s e) = 2 → ceGuarded (ceRow s e) = g → thread? s e = some t → t.wait.isSome = true →
    Does (exec c s) fun u =>
      ceState (ceRow u e) = 3 ∧ (entryRun u e).ended = some (if g then stAborted else stTimeout) ∧
      get u 0x7110_05 = (get s 0x7110_05 + 1) % 2 ^ 64) ∧
  (∀ (s : State) (e op : Nat) (t : Thread) (c : Instr), readyThread s e = some t →
    op = fld (programWord s t.pc) 31 26 → c ∈ [.seqFault e, .seqAbort e] →
    (c = .seqAbort e → op = 0x3F) → (c = .seqFault e → op = 0 ∨ listedOp op = false) →
    Does (exec c s) fun u =>
      ceState (ceRow u e) = 3 ∧ (entryRun u e).ended = some stAborted ∧ (entryRun u e).endPc = t.pc ∧
      get u 0x7110_01 = (get s 0x7110_01 + 1) % 2 ^ 64)

/-- Routes and loans: a routing row is written (R170); loan_set puts the staged entry in force OPEN and reserves
its rate (R180); loan_close frees an entry that holds nothing, and lets an origin with packets drain (R181);
loan_open installs its entry OPENING and asks the next hop (R189); loan_hop_open at the destination installs a
TERMINUS on the landing window; loan_hop_close frees an in-band terminus (R190); a DISCARD loan drops what
waits too long at a hop (R186) and gives up what stays unacknowledged (R187). -/
def Obligations.RoutesAndLoansAct : Prop :=
  (∀ (s : State) (rq : Requester) (cn row v : Nat) (o : Obj), cn ∈ [0x4100_00, 0x4101_00, 0x4102_00] → row < 2 ^ 32 →
    findObj s.part cn = some o → GrantedWrite s rq cn row v →
    Does (exec (.routeRowWrite rq cn row v) s) fun u =>
      getRow u cn row = storedValue s.part o cn v ∧ (∀ j, j < 2 ^ 32 → j ≠ row → getRow u cn j = getRow s cn j) ∧
      (unmirrored s → StoreFrame s u [cn, 0x1110_03] ∧ u = { s with cat := u.cat, log := u.log, mgmt := u.mgmt })) ∧
  (∀ (s : State) (rq : Requester) (row n : Nat), Granted s rq 0x6402_00 [] → row = get s 0x6401_00 →
    n = fld row 239 228 → loanRefusal s row = none →
    Does (exec (.loanSet rq) s) fun u =>
      getRow u loanCn n =
        setFld (setFld (setFld (setFld (setFld row 250 250 0) 255 254 2) 243 240 0) 77 64 0) 63 0 0 ∧
      (∀ j, j < 4096 → j ≠ n → getRow u loanCn j = getRow s loanCn j) ∧ get u 0x6402_00 = cmdValue 2 stOk 0 ∧
      (fld row 253 252 ≤ 1 →
        get u (reservedCn (fld row 246 244)) = get s (reservedCn (fld row 246 244)) + fld row 183 168)) ∧
  (∀ (s : State) (rq : Requester) (n : Nat), Granted s rq 0x6403_00 [n] → n < 4096 →
    fld (loanRow s n) 255 254 ≠ 0 →
    Does (exec (.loanClose rq n) s) fun u =>
      (∀ j, j < 4096 → j ≠ n → getRow u loanCn j = getRow s loanCn j) ∧
      (fld (loanRow s n) 253 252 ≠ 0 →
        fld (getRow u loanCn n) 255 254 = 0 ∧ get u 0x6403_00 = cmdValue 2 stOk 0) ∧
      (fld (loanRow s n) 253 252 = 0 → loanDrained s n = false →
        fld (getRow u loanCn n) 255 254 = 3 ∧ get u 0x6403_00 = cmdValue 1 0 0 ∧
        ∃ v ∈ u.mgmt.running, v.cn = 0x6403_00 ∧ v.arg = n)) ∧
  (∀ (s : State) (n : Nat), switchOn s = true → n < 4096 → fld (loanRow s n) 255 254 = 3 →
    fld (loanRow s n) 253 252 = 0 → loanDrained s n = true → closingBelow s n = false →
    bit (loanRow s n) 250 = false →
    Does (exec (.loanCloseDrainEnd n) s) fun u =>
      fld (getRow u loanCn n) 255 254 = 0 ∧ noneRuns u 0x6403_00 n ∧
      (latestRuns s 0x6403_00 n → recordsFit s → get u 0x6403_00 = cmdValue 2 stOk 0) ∧
      (∀ j, j < 4096 → j ≠ n → getRow u loanCn j = getRow s loanCn j)) ∧
  (∀ (s : State) (n : Nat), held s = false → loanState s n = 3 →
    Does (exec (.loanDrainLimitExpiry n) s) fun u =>
      noneRuns u 0x6403_00 n ∧
      (latestRuns s 0x6403_00 n → get u 0x6403_00 = cmdValue 2 stTimeout 0) ∧
      StoreFrame s u [0x6403_00] ∧ u = { s with cat := u.cat, mgmt := u.mgmt }) ∧
  (∀ (s : State) (rq : Requester) (stage row q n : Nat), Granted s rq 0x6407_00 [] → stage = get s 0x6401_00 →
    egressOf s (ownId s) (fld stage 205 184) = some q → q < 8 →
    row = setFld (setFld (setFld stage 253 252 0) 250 250 1) 246 244 q → n = fld stage 239 228 →
    loanRefusal s row = none →
    (sendInvoke (loanInstall (renewLease s rq) row 1) (portAddress q) 0x6408_00 (hopArgBytes (hopArgOfRow stage))
      (.loanOpen n)).2 = none →
    Does (exec (.loanOpen rq) s) fun u =>
      fld (getRow u loanCn n) 255 254 = 1 ∧ bit (getRow u loanCn n) 250 = true ∧
      fld (getRow u loanCn n) 246 244 = q ∧ get u 0x6407_00 = cmdValue 1 0 0 ∧
      (∃ v ∈ u.mgmt.running, v.cn = 0x6407_00 ∧ v.arg = n) ∧
      ((∃ e ∈ u.switch.trackers, e.2.owner = .mgmt (.loanOpen n)) ∨
        ∃ x ∈ u.switch.mgmtWaits, x.purpose = .loanOpen n)) ∧
  (∀ (s : State) (rq : Requester) (a : LoanHopArg) (w : Nat),
    Granted s rq 0x6408_00
      [a.loan, a.source, a.destination, a.mode, a.rate, a.burst, a.hopWait, a.firstPage, a.pagesM1] →
    a.loan < 4096 → rq.port < portsOf s.part → get s 0x640A_00 = 1 → hopArgOk a = true → a.destination = ownId s →
    landingWindow s a = some w → w < 1024 → loanRefusal s (hopRow a 2 rq.port 0 w) = none →
    Does (exec (.loanHopOpen rq a) s) fun u => ∃ row, getRow u loanCn a.loan = row ∧
      fld row 255 254 = 2 ∧ fld row 253 252 = 2 ∧ bit row 250 = true ∧ fld row 249 247 = rq.port ∧
      fld row 227 206 = a.source ∧ fld row 205 184 = a.destination ∧ fld row 147 138 = w ∧
      fld row 137 108 = a.firstPage ∧ fld row 107 78 = a.pagesM1 ∧ get u 0x6408_00 = cmdValue 2 stOk 0 ∧
      (lookupT u.switch.loanUses a.loan).isSome = true) ∧
  (∀ (s : State) (rq : Requester) (n : Nat), Granted s rq 0x6409_00 [n] → n < 4096 →
    fld (loanRow s n) 255 254 ≠ 0 → bit (loanRow s n) 250 = true → fld (loanRow s n) 253 252 ≠ 1 →
    Does (exec (.loanHopClose rq n) s) fun u =>
      fld (getRow u loanCn n) 255 254 = 0 ∧ get u 0x6409_00 = cmdValue 2 stOk 0 ∧
      (∀ j, j < 4096 → j ≠ n → getRow u loanCn j = getRow s loanCn j)) ∧
  (∀ (s : State) (p q n : Nat) (d : Desc), switchOn s = true → s.ports.length = 8 → p < 8 → n < 4096 →
    loanDiscards s n = true →
    (∀ t ∈ (port s p).tx, t.begun = true ∨ t.queue ≠ q ∨ t.vc ≠ 4 ∨ handleOf t ≠ n) →
    (queueOf s p q).find? (fun d => d.k.vc == 4 && handleM d.k == n) = some d →
    Does (exec (.loanHopWaitExpiry p q n) s) fun u =>
      queueOf u p q = settledQueue (placesOf (port s p) q) s.time.cycles ((queueOf s p q).erase d) ∧
      getF u 0x6406_00 n 127 96 = (getF s 0x6406_00 n 127 96 + 1) % 2 ^ 32 ∧
      StoreFrame s u [0x6406_00] ∧ u = { s with ports := u.ports, cat := u.cat }) ∧
  (∀ (s : State) (p q n : Nat) (x : TxPacket), switchOn s = true → s.ports.length = 8 → p < 8 → n < 4096 →
    loanDiscards s n = true → (port s p).tx = [x] → x.begun = false → x.queue = q → x.vc = 4 → handleOf x = n →
    Does (exec (.loanHopWaitExpiry p q n) s) fun u =>
      (port u p).tx = [] ∧ getF u 0x6406_00 n 127 96 = (getF s 0x6406_00 n 127 96 + 1) % 2 ^ 32 ∧
      StoreFrame s u [0x6406_00] ∧ u = { s with ports := u.ports, cat := u.cat }) ∧
  (∀ (s : State) (p q n : Nat) (w : PassWait), switchOn s = true → s.ports.length = 8 → p < 8 → n < 4096 →
    loanDiscards s n = true → (port s p).tx = [] → queueOf s p q = [] →
    s.switch.passWaits.find? (fun w => w.egress == p && w.loan == some n && queueFor w.k w.port == q) = some w →
    Does (exec (.loanHopWaitExpiry p q n) s) fun u =>
      u.switch = { s.switch with passWaits := s.switch.passWaits.erase w } ∧
      getF u 0x6406_00 n 127 96 = (getF s 0x6406_00 n 127 96 + 1) % 2 ^ 32 ∧
      StoreFrame s u [0x6406_00] ∧ u = { s with ports := u.ports, cat := u.cat, switch := u.switch }) ∧
  (∀ (s : State) (dst i : Nat) (e : Pair), unitsRun s 2 = true → i < 1024 → pairOf s dst i = some e → e.path ≠ 0 →
    unacked e ≠ 0 → loanDiscards s (e.path - 1) = true → linkState s e.via ≠ 2 →
    Does (exec (.loanExpiry dst i) s) fun u =>
      outstanding u i = outstanding s i - unacked e ∧ issuerLost u i = issuerLost s i ∧
      pairOf u dst i = (if e.polls = 0 ∧ e.quarantined = false then none else some { e with lastAcked := e.lastSent }) ∧
      get u 0x6410_04 = (get s 0x6410_04 + 1) % 2 ^ 64 ∧
      (∀ j, j < 1024 → j ≠ i → getRow u issuerCn j = getRow s issuerCn j) ∧ StoreFrame s u [issuerCn, 0x6410_04])

/-- The scheduler takes the head of queue 0 before all others (R195); buckets gain their rates up to their depth
(R197, R201); a queue or policer row written is in force (R198, R201); a depth sample raises its bin and the
deepest depth (R203, R205), and sample_clear zeroes a port's samples (R205). -/
def Obligations.SchedulerAndPolicersAct : Prop :=
  (∀ (s : State) (p : Nat) (d : Desc) (ds : List Desc), s.ports.length = 8 → portPowered s p = true →
    isUp s p = true → (∀ t ∈ (port s p).tx, t.begun = true) → sendableQ s p 0 = true → queueOf s p 0 = d :: ds →
    Does (exec (.schedulerChoose p) s) fun u =>
      queueOf u p 0 = settledQueue (placesOf (port u p) 0) s.time.cycles ds ∧ (∀ q, q ≠ 0 → queueOf u p q = queueOf s p q) ∧
      (port u p).tx = (port s p).tx ++
        [{ slots := packetSlots d.k, size := Machine.sizeOf d.k, rx := d.rx,
           owed := Machine.sizeOf d.k - (packetSlots d.k).length, vc := d.k.vc, begun := false, pool := false,
           abort := d.k.abort, entry := d.entry, queue := 0,
           sample := sampledDesc s ((lookupT (port s p).sentCount 0).getD 0 + 1) d }] ∧
      u = { s with ports := u.ports, cat := u.cat }) ∧
  (∀ (s : State), switchOn s = true → (domainOn s 25 = false ∨ s.mirror.jobs = []) →
    Does (exec .shaperRefill s) fun u =>
      ∀ p q, txPowered s p = true → q < 64 → lookupT (port s p).oldCfg q = none →
        queueTokens u p q = min (queueTokens s p q + fld (queueCfg s p q) 39 24)
          (256 * (fld (queueCfg s p q) 23 16 : Int))) ∧
  (∀ (s : State), switchOn s = true →
    Leaves (exec .policerRefill s) fun u =>
      (∀ n r, lookupT s.policers n = some r → lookupT u.policers n = some
        { tc := min (r.tc + fld (getRow s 0x6200_00 n) 47 32) (256 * fld (getRow s 0x6200_00 n) 15 8),
          tp := min (r.tp + fld (getRow s 0x6200_00 n) 31 16) (256 * fld (getRow s 0x6200_00 n) 7 0) }) ∧
      (∀ n, lookupT s.policers n = none → lookupT u.policers n = none) ∧ u = { s with policers := u.policers }) ∧
  (∀ (s : State) (rq : Requester) (p q v : Nat) (o : Obj), p < 8 → q < 64 → findObj s.part (ofLow p 0x6100_00) = some o →
    GrantedWrite s rq (ofLow p 0x6100_00) q v →
    Leaves (exec (.queueConfigWrite rq p q v) s) fun u =>
      getRow u (ofLow p 0x6100_00) q = storedValue s.part o (ofLow p 0x6100_00) v ∧
      (∀ j, j < 64 → j ≠ q → getRow u (ofLow p 0x6100_00) j = getRow s (ofLow p 0x6100_00) j) ∧
      StoreFrame s u [ofLow p 0x6100_00, ofLow p 0x6110_00, 0x1110_03] ∧
      u = { s with ports := u.ports, cat := u.cat, log := u.log, mgmt := u.mgmt }) ∧
  (∀ (s : State) (rq : Requester) (n v : Nat) (o : Obj), n < 2 ^ 32 → findObj s.part 0x6200_00 = some o →
    GrantedWrite s rq 0x6200_00 n v →
    Leaves (exec (.policerWrite rq n v) s) fun u =>
      getRow u 0x6200_00 n = storedValue s.part o 0x6200_00 v ∧ lookupT u.policers n = none ∧
      (∀ j, j ≠ n → lookupT u.policers j = lookupT s.policers j) ∧ StoreFrame s u [0x6200_00, 0x1110_03] ∧
      u = { s with policers := u.policers, cat := u.cat, log := u.log, mgmt := u.mgmt }) ∧
  (∀ (s : State) (p : Nat), txPowered s p = true → p < 8 →
    Leaves (exec (.depthSample p) s) fun u =>
      (∀ q, q < 64 → queueDepth s p q < 2 ^ 17 →
        getF u (ofLow p 0x6110_00) q 51 35 = max (getF s (ofLow p 0x6110_00) q 51 35) (queueDepth s p q)) ∧
      (∀ q b, q < 64 → b = depthBin (queueDepth s p q) →
        getF u (ofLow p 0x6310_00) q (32 * b + 31) (32 * b) =
          min (getF s (ofLow p 0x6310_00) q (32 * b + 31) (32 * b) + 1) (2 ^ 32 - 1)) ∧
      StoreFrame s u [ofLow p 0x6110_00, ofLow p 0x6310_00] ∧ u = { s with cat := u.cat }) ∧
  (∀ (s : State) (rq : Requester) (p : Nat), Granted s rq 0x6330_00 [p] → p < portsOf s.part →
    Leaves (exec (.sampleClear rq p) s) fun u =>
      (∀ q, q < 64 → getRow u (ofLow p 0x6310_00) q = 0 ∧ getRow u (ofLow p 0x6320_00) q = 0 ∧
        getF u (ofLow p 0x6110_00) q 51 15 = 0 ∧
        getF u (ofLow p 0x6110_00) q 127 52 = getF s (ofLow p 0x6110_00) q 127 52) ∧
      Completed s u rq 0x6330_00 0 [ofLow p 0x6310_00, ofLow p 0x6320_00, ofLow p 0x6110_00] ∧
      u = { s with cat := u.cat, log := u.log, mgmt := u.mgmt })

/-- Flits (R206 to R214): with nothing to send a port deals an IDLE flit to the next lane of its deal set; the
slots of a packet under way leave in a DATA flit that is kept for replay; a flit whose CRC fails is counted
and discarded, one with the expected sequence is delivered, and the replay timer sends the buffer again from
its first flit. -/
def Obligations.FlitsLeaveAndArrive : Prop :=
  (∀ (s : State) (p n : Nat), PortRuns s p → isUp s p = true → (port s p).replayAt = none →
    (port s p).replayHeld = false → (port s p).replay.length < 8192 → (port s p).cmds = [] → (port s p).tx = [] →
    nextLane s p = some n →
    Does (exec (.flitTransmit p) s) fun u =>
      (∃ f, (port u p).sent = (port s p).sent ++ [(n, f)] ∧ f.type = 1 ∧ f.seq = (port s p).txSeq ∧
        f.ack = ((port s p).expect + 65535) % 65536 ∧ f.nak = (port s p).nakDue ∧ f.slots = []) ∧
      (port u p).txSeq = (port s p).txSeq ∧ (port u p).replay = (port s p).replay ∧
      get u (ofPort p 0x2020_01) = (get s (ofPort p 0x2020_01) + 1) % 2 ^ 64 ∧
      StoreFrame s u [ofPort p 0x2020_01] ∧ u = { s with ports := u.ports, cat := u.cat }) ∧
  (∀ (s : State) (p n : Nat) (t : TxPacket), PortRuns s p → isUp s p = true → (port s p).replayAt = none →
    (port s p).replayHeld = false → (port s p).replay.length < 8192 → (port s p).cmds = [] → (port s p).tx = [t] →
    t.begun = true → t.slots ≠ [] → t.slots.length ≤ 15 → t.owed = 0 → nextLane s p = some n →
    Does (exec (.flitTransmit p) s) fun u =>
      ∃ f, (port u p).replay = (port s p).replay ++ [f] ∧ f.type = 0 ∧ f.seq = (port s p).txSeq ∧ f.slots = t.slots ∧
        f.slotsUsed = t.slots.length ∧ f.abort = t.abort ∧ (port u p).tx = [] ∧
        (port u p).txSeq = ((port s p).txSeq + 1) % 65536 ∧
        ∃ g, (port u p).sent = (port s p).sent ++ [(n, g)] ∧ g.seq = f.seq ∧ g.slots = f.slots) ∧
  (∀ (s : State) (p k bits : Nat) (bad : Bool), PortRuns s p → isUp s p = true → k < 10 →
    takesFlits s p k = true → isSkip bits = false → (bad = true ∨ placeOk bits = false) →
    Does (exec (.flitReceive p k bits bad) s) fun u =>
      get u (ofPort p 0x2020_03) = (get s (ofPort p 0x2020_03) + 1) % 2 ^ 64 ∧
      StoreFrame s u [ofPort p 0x2020_03] ∧ u = { s with cat := u.cat }) ∧
  (∀ (s : State) (p k bits : Nat) (f : Flit), PortRuns s p → isUp s p = true → k < 10 →
    takesFlits s p k = true → isSkip bits = false → placeOk bits = true → f = flitOf bits → f.type = 0 →
    f.slotsUsed ≠ 0 → f.nak = false → 6 ≤ f.creditVc → f.seq = (port s p).expect → (port s p).expect < 65536 →
    (port s p).replay = [] → (port s p).replayHeld = false → f.ack = ((port s p).txSeq + 65535) % 65536 →
    (port s p).heldFlits = [] → (port s p).behind = [] →
    Does (exec (.flitReceive p k bits false) s) fun u =>
      (port u p).expect = ((port s p).expect + 1) % 65536 ∧
      get u (ofPort p 0x2020_02) = (get s (ofPort p 0x2020_02) + 1) % 2 ^ 64 ∧ 
      (f.xoff = true → (port u p).xoffAt = some s.time.cycles)) ∧
  (∀ (s : State) (p : Nat) (f : Flit) (fs : List Flit), PortRuns s p → isUp s p = true →
    (port s p).replay = f :: fs → (port s p).fruitless + 1 < get s (ofPort p 0x2000_07) →
    Does (exec (.replayTimeout p) s) fun u =>
      (port u p).replayAt = some f.seq ∧ (port u p).fruitless = (port s p).fruitless + 1 ∧
      (port u p).replay = f :: fs ∧ get u (ofPort p 0x2020_07) = (get s (ofPort p 0x2020_07) + 1) % 2 ^ 64 ∧
      u = { s with ports := u.ports, cat := u.cat })

/-- The lane commands of Tables 10.4 and 11.9 (R221 to R223, R246, R247, R249), lane_change (Table 10.8) and
rx_width_target (R248): NULL does nothing; the receiver's wait set follows LANE_ADD and LANE_REMOVE; a
transmitter queues its answer to a request; a refusal ends what was asked, or another lane is asked for; the partner's
announcements are taken. -/
def Obligations.LaneCommandsAct : Prop :=
  (∀ (s : State) (p on r : Nat), Leaves (exec (.laneNull p on r) s) fun u => u = s) ∧
  (∀ (s : State) (p on r n k : Nat), PortRuns s p → isUp s p = true → n = fld r 119 116 → n < 10 →
    k = rxPhys s p n → bit (waitSet s p) n = false → (lane s p k).rxTrained = true → (lane s p k).lost = false →
    (port s p).asked = none →
    Does (exec (.laneAdd p on r) s) fun u =>
      waitSet u p = setBit (waitSet s p) n true ∧ rxState u p k = 2 ∧ (lane u p k).peerState = 0 ∧
      StoreFrame s u [ofPort p 0x2010_02, laneStateCn p k] ∧ u = { s with cat := u.cat, ports := u.ports }) ∧
  (∀ (s : State) (p on r n : Nat), PortRuns s p → isUp s p = true → n = fld r 119 116 → n < 10 →
    bit (waitSet s p) n = true → setBit (waitSet s p) n false ≠ 0 → (lane s p (rxPhys s p n)).test = 0 →
    Does (exec (.laneRemove p on r) s) fun u =>
      waitSet u p = setBit (waitSet s p) n false ∧ linkState u p = 1 ∧
      (rxState s p (rxPhys s p n) = 2 → rxState u p (rxPhys s p n) = 3)) ∧
  (∀ (s : State) (p on r n : Nat), PortRuns s p → isUp s p = true → n = fld r 119 116 → n < 10 →
    bit (plannedDeal s p) n = false → popcount 10 (plannedDeal s p) < 8 → (lane s p n).peerFailed = false →
    (lane s p n).test = 0 → txState s p n = 3 → (lane s p n).peerTrained = true → (lane s p n).leaving = 0 →
    (lane s p n).announced = none → (lane s p n).waking = false →
    (∀ c ∈ (port s p).cmds, recLane c.record = n → recCode c.record ≠ 0x10 ∧ recCode c.record ≠ 0x11) →
    Does (exec (.laneRequestAdd p on r) s) fun u =>
      (port u p).cmds = (port s p).cmds ++ [{ record := laneRecord 1 n (fld r 115 112) 0, lane := some n }] ∧
      u = { s with ports := u.ports }) ∧
  (∀ (s : State) (p on r n : Nat), PortRuns s p → isUp s p = true → n = fld r 119 116 → n < 10 →
    bit (plannedDeal s p) n = true →
    Does (exec (.laneRequestRemove p on r) s) fun u =>
      (∃ c, (port u p).cmds = (port s p).cmds ++ [c] ∧
        c.record = (if popcount 10 (plannedDeal s p) = 1 then laneRecord 5 n 0 1
                    else laneRecord 2 n (fld r 115 112) 0)) ∧ u = { s with ports := u.ports }) ∧
  (∀ (s : State) (p on r n reason : Nat), PortRuns s p → isUp s p = true → n = fld r 119 116 → n < 10 →
    (port s p).asked = some (n, reason) →
    Does (exec (.laneRefuse p on r) s) fun u =>
      (fld r 111 108 ≠ 2 → fld r 111 108 ≠ 3 →
        (port u p).asked = none ∧ (∀ k, k < 10 → (lane u p k).refused = false) ∧ u = { s with ports := u.ports }) ∧
      (fld r 111 108 = 2 ∨ fld r 111 108 = 3 →
        (port u p).asked = none ∨ ∃ m, m ≠ n ∧ (port u p).asked = some (m, reason))) ∧
  (∀ (s : State) (p on r n v : Nat) (c : Instr), PortRuns s p → isUp s p = true → n = fld r 119 116 → n < 10 →
    (v, c) ∈ [(4, .laneHush p on r), (5, .laneShelve p on r), (6, .laneTestEnter p on r),
      (0, .laneTestExit p on r)] →
    Does (exec c s) fun u =>
      ((lane s p (rxPhys s p n)).rxFailed = true →
        (lane u p (rxPhys s p n)).peerState = v ∧ u = { s with ports := u.ports }) ∧
      ((lane s p (rxPhys s p n)).rxFailed = false →
      (lane u p (rxPhys s p n)).peerState = v ∧ rxState u p (rxPhys s p n) = (if v = 0 then 1 else v) ∧
      (lane u p (rxPhys s p n)).rxTrained = ((lane s p (rxPhys s p n)).rxTrained && v != 6 && v != 0) ∧
      StoreFrame s u [laneStateCn p (rxPhys s p n)] ∧ u = { s with ports := u.ports, cat := u.cat })) ∧
  (∀ (s : State) (rq : Requester) (p n : Nat), Granted s rq (ofPort p 0x2010_03) [n, 0] → p < portsOf s.part →
    s.ports.length = 8 → isUp s p = true → n < 10 → bit (waitSet s p) n = false →
    Leaves (exec (.laneChangeAdd rq p n) s) fun u =>
      (port u p).cmds = (port s p).cmds ++ [{ record := laneRecord 3 n 6 0, lane := none }] ∧
      Completed s u rq (ofPort p 0x2010_03) 0 [] ∧
      u = { s with ports := u.ports, cat := u.cat, log := u.log, mgmt := u.mgmt }) ∧
  (∀ (s : State) (rq : Requester) (p n : Nat), Granted s rq (ofPort p 0x2010_03) [n, 1] → p < portsOf s.part →
    s.ports.length = 8 → isUp s p = true → n < 10 → bit (plannedDeal s p) n = true →
    popcount 10 (plannedDeal s p) ≠ 1 →
    Leaves (exec (.laneChangeRemove rq p n) s) fun u =>
      (port u p).cmds = (port s p).cmds ++ [{ record := laneRecord 2 n 6 0, lane := some n }] ∧
      Completed s u rq (ofPort p 0x2010_03) 0 [] ∧
      u = { s with ports := u.ports, cat := u.cat, log := u.log, mgmt := u.mgmt }) ∧
  (∀ (s : State) (rq : Requester) (p v : Nat) (o : Obj), findObj s.part (ofPort p 0x2050_04) = some o → p < 8 →
    GrantedWrite s rq (ofPort p 0x2050_04) 0 v → isUp s p = false →
    Does (exec (.rxWidthTargetWrite rq p v) s) fun u =>
      widthTarget u p = storedValue s.part o (ofPort p 0x2050_04) v ∧ StoreFrame s u [ofPort p 0x2050_04, 0x1110_03] ∧
      u = { s with cat := u.cat, log := u.log, mgmt := u.mgmt })

/-- Hold, flush and training (R224 to R228, R236 to R244): the end of the grace period flushes a held port, which
is INIT with nothing queued; a held port retrains; port_retrain holds an UP port; a valid training block
counts towards detection; a codeword gives its probe and, in stage 5, the cycle of its frame (R241); with both ends
ready an INIT port comes UP with the lanes the partner wants; a limit leaves late lanes out, and a port left with no
lane waits for its retry. -/
def Obligations.HoldAndTrainingAct : Prop :=
  (∀ (s : State) (p : Nat), PortRuns s p → linkState s p = 2 →
    Does (exec (.gracePeriodExpiry p) s) fun u =>
      linkState u p = 0 ∧ stageOfPort u p = 1 ∧ (∀ q, queueOf u p q = []) ∧ (port u p).tx = [] ∧
      (port u p).replay = [] ∧ get u (ofPort p 0x2020_0B) = (get s (ofPort p 0x2020_0B) + 1) % 2 ^ 32 ∧
      (stopped s = false → ∀ e ∈ u.switch.trackers, e ∈ s.switch.trackers → e.2.via ≠ p)) ∧
  (∀ (s : State) (p : Nat), PortRuns s p → linkState s p = 2 → stageOfPort s p = 8 →
    Does (exec (.retrainStart p) s) fun u =>
      stageOfPort u p = 1 ∧ (port u p).fast = true ∧
      get u (ofPort p 0x2050_0B) = (get s (ofPort p 0x2050_0B) + 1) % 2 ^ 32 ∧
      (∀ n, n < 10 → laneUsable s p n = true → txState u p n = 1 ∧
        (lane u p n).stage = (if (lane s p n).rxFailed = true ∨ (lane s p n).barred = 2 then 0 else 1) ∧
        (lane u p n).taps = get s (tapsCn p n))) ∧
  (∀ (s : State) (rq : Requester) (p : Nat), Granted s rq (ofPort p 0x2000_04) [] → p < portsOf s.part →
    s.ports.length = 8 → isUp s p = true → get s (ofPort p 0x2000_02) ≠ 0 →
    Does (exec (.portRetrain rq p) s) fun u =>
      linkState u p = 2 ∧ get u (ofPort p 0x2020_0A) = (get s (ofPort p 0x2020_0A) + 1) % 2 ^ 32 ∧
      (port u p).replayHeld = true ∧ (port u p).ready = false ∧ get u (ofPort p 0x2000_04) = cmdValue 1 0 0 ∧
      ∃ v ∈ u.mgmt.running, v.cn = ofPort p 0x2000_04 ∧ v.arg = 0) ∧
  (∀ (s : State) (p k bits v : Nat) (inv : Bool), PortRuns s p → takesBlocks s p k = true →
    stageOfPort s p ≠ 0 → (linkState s p = 0 → stageOfPort s p ≠ 8) →
    trainingBlockOf bits = some (v, inv) → (lane s p k).stage = 1 →
    Does (exec (.trainingBlock p k bits) s) fun u =>
      (lane u p k).detects = (lane s p k).detects + 1 ∧ (lane u p k).badBlocks = 0 ∧ (lane u p k).inverted = inv ∧
      (lane u p k).reports = some (fld v 111 108) ∧
      (lane u p k).stage = (if (lane s p k).detects = 15 then 3 else 1) ∧
      ((lane s p k).detects ≠ 15 →
        StoreFrame s u [ofPort p 0x2050_01] ∧ u = { s with ports := u.ports, cat := u.cat })) ∧
  (∀ (s : State) (p k msg : Nat), PortRuns s p → laneUsable s p k = true → (lane s p k).rxFailed = false →
    msg % 2 ^ 128 = 0x4B1D_4B1D_4B1D_4B1D_4B1D_4B1D_4B1D_4B1D → plateOk (fld msg 639 128) = false →
    stageOfPort s p = 8 → (lane s p k).rxTrained = true → (lane s p k).lock = 2 → (lane s p k).peerState ≠ 5 →
    Does (exec (.alignmentAndFillerCodeword p ⟨k, 1025⟩ msg) s) fun u =>
      (lane u p k).badFrames = 0 ∧ (lane u p k).probe = fld (fld msg 767 640) 95 64 ∧
      (lane u p k).probeAt = portCycles s ∧ (lane u p k).peerInject = bit (fld msg 767 640) 122 ∧
      u = { s with ports := u.ports }) ∧
  (∀ (s : State) (p k j msg : Nat), PortRuns s p → laneUsable s p k = true → (lane s p k).rxFailed = false →
    msg % 2 ^ 128 = 0x4B1D_4B1D_4B1D_4B1D_4B1D_4B1D_4B1D_4B1D → plateOk (fld msg 639 128) = false →
    stageOfPort s p = 5 → isUp s p = false → (lane s p k).lock = 2 → (lane s p k).peerState ≠ 5 → j < 10 → j ≠ k → (lane s p j).stage = 4 →
    (lane s p j).lock = 2 → (lane s p j).frameAt = none →
    Does (exec (.alignmentAndFillerCodeword p ⟨k, 1025⟩ msg) s) fun u =>
      (lane u p k).frameAt = some s.time.cycles ∧ (lane u p k).lock = 2 ∧ stageOfPort u p = 5 ∧
      u = { s with ports := u.ports }) ∧
  (∀ (s : State) (p : Nat), PortRuns s p → linkState s p = 0 → stageOfPort s p = 7 → (port s p).ready = true →
    (port s p).peerReady = true →
    Does (exec (.trainingComplete p) s) fun u =>
      linkState u p = 1 ∧ stageOfPort u p = 8 ∧ dealSet u p = (port s p).peerWanted ∧ waitSet u p = waitSet s p ∧
      (port u p).txSeq = 0 ∧ (port u p).expect = 0 ∧ (port u p).replay = [] ∧
      (port u p).heldSession = plateSession (partnerPlate s p)) ∧
  (∀ (s : State) (p k : Nat), PortRuns s p → linkState s p = 0 → inLaneStages s p = true → lockedLanes s p = [] →
    (port s p).told = false → k < 10 → 1 ≤ (lane s p k).stage → (lane s p k).lock ≠ 2 →
    Does (exec (.trainingLimitExpiry p) s) fun u =>
      (lane u p k).stage = 0 ∧ (lane u p k).lock = 0 ∧ rxState u p k = 0 ∧ linkState u p = 0 ∧
      stageOfPort u p = 0 ∧ (port u p).stalled = true) ∧
  (∀ (s : State) (p k : Nat), PortRuns s p → isUp s p = false → k < 10 → (lane s p k).stage = 3 →
    (port s p).fast = false →
    Does (exec (.trainingStageTimeout p k) s) fun u =>
      (lane u p k).stage = 4 ∧ (lane u p k).rxDone = true ∧ (lane u p k).eqRequest = 4 ∧
      StoreFrame s u [ofPort p 0x2050_01] ∧ u = { s with ports := u.ports, cat := u.cat }) ∧
  (∀ (s : State) (p n : Nat), PortRuns s p → isUp s p = true → n < 10 → (lane s p n).addAsked.isSome = true →
    (lane s p n).waking = false →
    Does (exec (.fastRetrainLimitExpiry p) s) fun u =>
      (lane u p n).addAsked = none ∧ ∃ c ∈ (port u p).cmds, c.record = laneRecord 5 n 0 2) ∧
  (∀ (s : State) (p k : Nat), PortRuns s p → laneUsable s p k = true → linkState s p = 0 →
    (port s p).stalled = true →
    Does (exec (.laneRetryIntervalExpiry p k) s) fun u =>
      stageOfPort u p = 1 ∧ get u (ofPort p 0x2050_0B) = (get s (ofPort p 0x2050_0B) + 1) % 2 ^ 32 ∧
      txState u p k = 1 ∧ (lane u p k).stage = (if (lane s p k).rxFailed then 0 else 1)) ∧
  (∀ (s : State) (p k : Nat), PortRuns s p → laneUsable s p k = true → isUp s p = true →
    (lane s p k).rxTrained = false → (lane s p k).rxFailed = false → (lane s p k).barred ≠ 2 →
    Does (exec (.laneRetryIntervalExpiry p k) s) fun u =>
      rxState u p k = 1 ∧ (lane u p k).barred = 0 ∧ (lane u p k).lock = 0 ∧ StoreFrame s u [laneStateCn p k] ∧
      u = { s with ports := u.ports, cat := u.cat }) ∧
  (∀ (s : State) (p n : Nat), PortRuns s p → n < 10 → (lane s p n).waking = true →
    Does (exec (.laneWakeComplete p n) s) fun u =>
      txState u p n = (if txState s p n = 4 ∨ txState s p n = 5 then 3 else txState s p n) ∧
      (lane u p n).waking = false ∧ StoreFrame s u [laneStateCn p n] ∧
      u = { s with ports := u.ports, cat := u.cat })

/-- Detectors, injection and tests (R245, R246, R251 to R254): LOS, LOL and uncorrectable codewords are counted
and cost a trained lane its training; lane_test runs its mode or ends, an injection is made and ONCE is over,
and the checker locks and counts what it lost. -/
def Obligations.LaneDetectorsAndTestsAct : Prop :=
  (∀ (s : State) (p k cn : Nat) (filler : Bool) (c : Instr),
    (cn, c) ∈ [(0x3007_01, .losAssert p ⟨k, filler⟩), (0x3008_01, .lolAssert p k)] →
    PortRuns s p → laneUsable s p k = true → masked s p k = false →
    (cn = 0x3007_01 → (lane s p k).peerState ≠ 4 ∨ filler = true) →
    Does (exec c s) fun u =>
      get u (ofLane p k cn) = (get s (ofLane p k cn) + 1) % 2 ^ 32 ∧ (lane u p k).rxTrained = false ∧
      ((lane s p k).rxTrained = false → bit (waitSet s p) (rxPhys s p k) = false →
        (lane u p k).lock = 0 ∧ StoreFrame s u [ofLane p k cn] ∧ u = { s with cat := u.cat, ports := u.ports }) ∧
      ((lane s p k).rxTrained = true → get u (ofLane p k 0x3009_01) = min 255 (get s (ofLane p k 0x3009_01) + 1))) ∧
  (∀ (s : State) (p k place : Nat), PortRuns s p → laneUsable s p k = true →
    Does (exec (.uncorrectableCodeword p ⟨k, place⟩) s) fun u =>
      get u (ofLane p k 0x3005_01) = (get s (ofLane p k 0x3005_01) + 1) % 2 ^ 64 ∧
      ((lane s p k).rxTrained = true → (lane s p k).peerInject = false → masked s p k = false →
        (lane u p k).rxTrained = false ∧
        (place % 1025 ≠ 0 → get u (ofLane p k 0x3009_01) = min 255 (get s (ofLane p k 0x3009_01) + 1))) ∧
      ((lane s p k).peerInject = true → place % 1025 ≠ 0 → (lane u p k).rxTrained = (lane s p k).rxTrained)) ∧
  (∀ (s : State) (rq : Requester) (p n duration : Nat), Granted s rq (ofLane p n 0x3010_01) [0, duration] →
    p < portsOf s.part → s.ports.length = 8 → (port s p).lanes.length = 10 → n < 10 → (lane s p n).test ≠ 0 →
    Leaves (exec (.laneTestStop rq p n duration) s) fun u =>
      (lane u p n).test = 0 ∧ get u (ofLane p n 0x3010_01) = cmdValue 2 stOk 0) ∧
  (∀ (s : State) (rq : Requester) (p n m duration : Nat) (c : Instr),
    (m, c) ∈ [(1, .laneTestGenerate rq p n duration), (2, .laneTestCheck rq p n duration),
      (3, .laneTestNearSerial rq p n duration), (4, .laneTestNearParallel rq p n duration),
      (5, .laneTestFar rq p n duration)] → Granted s rq (ofLane p n 0x3010_01) [m, duration] →
    p < portsOf s.part → s.ports.length = 8 → (port s p).lanes.length = 10 → n < 10 →
    (3 ≤ m → n = 0 ∨ n = 8 ∨ n = 9) → (lane s p n).rxFailed = false → (lane s p n).peerFailed = false →
    (lane s p n).test = 0 → (m ≠ 2 → bit (dealSet s p) n = false) →
    (m ≠ 1 → bit (waitSet s p) (rxPhys s p n) = false) →
    Leaves (exec c s) fun u =>
      (lane u p n).test = m ∧ (lane u p n).testEnds = (duration != 0) ∧
      get u (ofLane p n 0x300E_01) = (if m = 2 ∨ m = 3 ∨ m = 4 then 1 else get s (ofLane p n 0x300E_01)) ∧
      get u (ofLane p n 0x3010_01) = cmdValue 1 0 0 ∧
      (∃ v ∈ u.mgmt.running, v.cn = ofLane p n 0x3010_01 ∧ v.arg = 0) ∧
      StoreFrame s u [ofLane p n 0x300E_01, ofLane p n 0x3010_01, 0x1110_03]) ∧
  (∀ (s : State) (p n : Nat), PortRuns s p → n < 10 → (lane s p n).test ≠ 0 → (lane s p n).testEnds = true →
    Does (exec (.laneTestDurationExpiry p n) s) fun u =>
      (lane u p n).test = 0 ∧
      (latestRuns s (ofLane p n 0x3010_01) 0 → recordsFit s →
        get u (ofLane p n 0x3010_01) = cmdValue 2 stOk 0)) ∧
  (∀ (s : State) (rq : Requester) (p n v : Nat) (o : Obj), findObj s.part (ofLane p n 0x300F_01) = some o →
    p < 8 → n < 10 → GrantedWrite s rq (ofLane p n 0x300F_01) 0 v →
    Leaves (exec (.errorInjectWrite rq p n v) s) fun u =>
      get u (ofLane p n 0x300F_01) = storedValue s.part o (ofLane p n 0x300F_01) v ∧
      StoreFrame s u [ofLane p n 0x300F_01, 0x1110_03] ∧
      u = { s with cat := u.cat, log := u.log, mgmt := u.mgmt }) ∧
  (∀ (s : State) (p n : Nat), PortRuns s p → n < 10 →
    (fld (get s (ofLane p n 0x300F_01)) 31 30 = 1 ∨ fld (get s (ofLane p n 0x300F_01)) 31 30 = 2) →
    Does (exec (.errorInjection p n) s) fun u =>
      (lane u p n).injections = (lane s p n).injections + 1 ∧
      fld (get u (ofLane p n 0x300F_01)) 31 30 =
        (if fld (get s (ofLane p n 0x300F_01)) 31 30 = 1 then 0 else fld (get s (ofLane p n 0x300F_01)) 31 30) ∧
      StoreFrame s u [ofLane p n 0x300F_01] ∧ u = { s with ports := u.ports, cat := u.cat }) ∧
  (∀ (s : State) (p n : Nat), PortRuns s p → (lane s p n).test ∈ [2, 3, 4] → get s (ofLane p n 0x300E_01) = 1 →
    Does (exec (.checkerLock p n) s) fun u =>
      get u (ofLane p n 0x300E_01) = 2 ∧ StoreFrame s u [ofLane p n 0x300E_01] ∧ u = { s with cat := u.cat }) ∧
  (∀ (s : State) (p n bits errors : Nat), PortRuns s p → get s (ofLane p n 0x300E_01) = 2 → n < 10 →
    Does (exec (.checkerSyncLoss p n bits errors) s) fun u =>
      get u (ofLane p n 0x300E_01) = 1 ∧
      get u (ofLane p n 0x300C_01) = (get s (ofLane p n 0x300C_01) + bits) % 2 ^ 64 ∧
      get u (ofLane p n 0x300D_01) = (get s (ofLane p n 0x300D_01) + errors) % 2 ^ 64 ∧
      get u (ofLane p n 0x3011_01) = (get s (ofLane p n 0x3011_01) + 1) % 2 ^ 32 ∧
      u = { s with cat := u.cat, ports := u.ports })

/-- Fabric time and the MARK pins (R282 to R290): an exchange goes out with its stamp and is answered with the
time it arrived; an answer completes it and a missing one is counted; HOLDOVER follows LOCKED; time_set steps
the counter forward; MARK_OUT follows its mode and MARK_IN's edges are stamped, or stop the block. -/
def Obligations.TimeAndMarkAct : Prop :=
  (∀ (s : State) (p stamp : Nat), switchOn s = true → parentPort s = some p →
    Leaves (exec (.syncIntervalExpiry stamp) s) fun u => ∃ v a,
      v = { s with time.req := some (s.time.nextReqSeq, stamp % 2 ^ 64),
                   time.nextReqSeq := (s.time.nextReqSeq + 1) % 65536 } ∧
      a.opcode = opTimeSync ∧ syncSlot a = s.time.nextReqSeq * 2 ^ 110 ∧ a.vc = 5 ∧ u = (sendAt v p a none).state) ∧
  (∀ (s : State), s.power.porLow = false → s.time.req.isSome = true →
    Leaves (exec .syncTimeout s) fun u =>
      get u 0x9002_08 = (get s 0x9002_08 + 1) % 2 ^ 32 ∧ StoreFrame s u [0x9002_08] ∧
      u = { s with cat := u.cat, time.req := none }) ∧
  (∀ (s t : State) (p stamp : Nat) (k : Packet), k.opcode = opTimeSync → p < portsOf s.part → Checked s p k t →
    syncKind k = 0 →
    Does (exec (.timeSyncReq p k stamp) s) fun u => ∃ a : Packet, a.opcode = opTimeSync ∧ syncKind a = 1 ∧
      fld (syncSlot a) 125 110 = fld (syncSlot k) 125 110 ∧ bit (syncSlot a) 109 = (timeState t == 2) ∧
      fld (syncSlot a) 63 0 = stamp % 2 ^ 64 ∧ u = (sendAt t p a none).state) ∧
  (∀ (s t : State) (p stamp q t1 : Nat) (k : Packet), k.opcode = opTimeSync → p < portsOf s.part → Checked s p k t →
    syncKind k = 1 → t.time.req = some (q, t1) → parentPort t = some p → fld (syncSlot k) 125 110 = q →
    bit (syncSlot k) 109 = true →
    Does (exec (.timeSyncRsp p k stamp) s) fun u =>
      u.time.req = none ∧ get u 0x9002_07 = (get t 0x9002_07 + 1) % 2 ^ 64 ∧
      get u 0x9002_05 = min 31 (fld (syncSlot k) 108 104 + 1) ∧
      u = { t with cat := u.cat, time := u.time, freeCount := u.freeCount }) ∧
  (∀ (s : State), s.power.porLow = false → timeState s = 2 → timeRole s ≠ 1 →
    Leaves (exec .holdoverEntry s) fun u => timeState u = 3 ∧ u.time.slew = 0 ∧ u.time.freq = s.time.freq) ∧
  (∀ (s : State) (rq : Requester) (v : Nat), Granted s rq 0x9001_06 [v] → timeRole s = 1 → v < 2 ^ 64 →
    newer 64 v (now s) = true →
    Leaves (exec (.timeSet rq v) s) fun u =>
      now u = v ∧ get u 0x9002_06 = (get s 0x9002_06 + 1) % 2 ^ 32 ∧ get u 0x9001_06 = cmdValue 2 stOk 0) ∧
  (∀ (s : State) (rq : Requester) (v : Nat) (o : Obj), findObj s.part 0x9100_01 = some o →
    GrantedWrite s rq 0x9100_01 0 v → storedValue s.part o 0x9100_01 v ≠ markMode s →
    Leaves (exec (.markModeWrite rq v) s) fun u =>
      markMode u = storedValue s.part o 0x9100_01 v ∧ u.time.markOut = false) ∧
  (∀ (s : State), s.power.porLow = false → markMode s = 1 →
    Leaves (exec .markPeriodBoundary s) (fun u => u = { s with time.markOut := true }) ∧
    Leaves (exec .markWidthExpiry s) (fun u => u = { s with time.markOut := false })) ∧
  (∀ (s : State), s.power.porLow = false → markMode s = 1 → timeRole s ≠ 2 →
    (∀ e, s.time.lastEdge = some e → 256000 ≤ subMod 64 (now s) e) →
    Leaves (exec .markInEdge s) fun u =>
      get u 0x9100_04 = stamp s 10 ∧ get u 0x9100_05 = (get s 0x9100_05 + 1) % 2 ^ 64 ∧
      get u 0x9100_06 = unsigned 64 (nearestError (now s) (get s 0x9100_02)) ∧
      StoreFrame s u [0x9100_04, 0x9100_05, 0x9100_06] ∧
      u = { s with cat := u.cat, time.lastEdge := some (now s) }) ∧
  (∀ (s : State), held s = false → stopped s = false → markMode s = 2 →
    Does (exec .markInStop s) fun u => stopped u = true ∧ u.time.markOut = true ∧
      fld (get u 0xC200_02) 15 8 = 2)

/-- Counters, snapshots, trace and global stop (R292 to R301): odc_clear zeroes the counters its mask names; a
snapshot waits for its time and then its rows replace the previous ones; the trace's line and its rings drain
to the region; global_stop stops the block. -/
def Obligations.ObservationActs : Prop :=
  (∀ (s : State) (rq : Requester) (mask : Nat), Granted s rq 0xD102_00 [mask] → mask < 2 ^ 16 →
    Leaves (exec (.odcClear rq mask) s) fun u =>
      (∀ i, i < 16 → get u (0xD101_01 + i) = if bit mask i then 0 else get s (0xD101_01 + i)) ∧
      Completed s u rq 0xD102_00 0 ((upFrom 0 16).map (0xD101_01 + ·)) ∧
      u = { s with cat := u.cat, log := u.log, mgmt := u.mgmt }) ∧
  (∀ (s : State) (rq : Requester) (mask t at0 : Nat), Granted s rq 0xD200_00 [mask, t] → domainOn s 24 = true →
    (t = 0 ∧ at0 = (now s + 512000) % 2 ^ 64 ∨
      t ≠ 0 ∧ newer 64 t (now s) = true ∧ subMod 64 t (now s) ≤ 256_000_000_000 ∧ at0 = t) →
    Does (exec (.snapshotTake rq mask t) s) fun u =>
      u.observe.snapshot = some (mask, at0) ∧ get u 0xD201_00 = snapshotInfo at0 0 1 ∧
      get u 0xD200_00 = cmdValue 1 0 0 ∧ ∃ v ∈ u.mgmt.running, v.cn = 0xD200_00) ∧
  (∀ (s : State) (mask t : Nat), unitsRun s 24 = true → s.observe.snapshot = some (mask, t) →
    Does (exec .snapshotTimeReached s) fun u =>
      u.observe.snapshot = none ∧ get u 0xD201_00 = snapshotInfo t (snapshotRows s mask).length 2 ∧
      (∀ r, r < (snapshotRows s mask).length → getRow u 0xD202_00 r = nth 0 r (snapshotRows s mask)) ∧
      (∀ r, (snapshotRows s mask).length ≤ r → r < 2 ^ 32 → getRow u 0xD202_00 r = defaultOf s.part 0xD202_00 r) ∧
      (∀ v ∈ u.mgmt.running, v.cn ≠ 0xD200_00) ∧
      ((∃ v ∈ s.mgmt.running, v.cn = 0xD200_00 ∧ v.latest = true) → recordsFit s → get u 0xD200_00 = cmdValue 2 stOk 0)) ∧
  (∀ (s : State) (m off : Nat), unitsRun s 24 = true → s.observe.line ≠ [] →
    off = fld (traceCfg s) 99 64 * 64 + tracePlaced s % traceSize s * 16 →
    off % 4096 + 16 * s.observe.line.length ≤ 4096 → mspPort s 16 (fld (traceCfg s) 107 100) off = some m →
    quiesced s m = false → noLocksAt s m →
    Does (exec .traceLineFlush s) fun u =>
      u.observe.line = [] ∧ get u 0xC000_04 = (get s 0xC000_04 + s.observe.line.length) % 2 ^ 64 ∧
      mspQueue u m = mspQueue s m ++
        [{ op := 1, poison := false, context := fld (traceCfg s) 119 108, segment := fld (traceCfg s) 107 100,
           offset := off, length := 16 * s.observe.line.length, data := s.observe.line.flatMap (bytesLE 16),
           enabled := true, access := s.host.nextAccess, piece := 0, waited := false }] ∧
      StoreFrame s u [0xC000_04] ∧ u = { s with cat := u.cat, host := u.host, observe.line := [] }) ∧
  (∀ (s : State) (i r : Nat) (rs : List Nat), unitsRun s 24 = true → tracePath s = 1 → tracePlaces s = true →
    traceTurn s = some i → traceRing s i = r :: rs → lookupT s.observe.lost i = none →
    (tracePlaced s + s.observe.line.length + 1) % 4 ≠ 0 →
    Does (exec .traceDrain s) fun u =>
      u.observe.line = s.observe.line ++ [r] ∧ traceRing u i = rs ∧ u.observe.lastSource = i ∧
      (∀ j, j ≠ i → traceRing u j = traceRing s j) ∧ u = { s with observe := u.observe }) ∧
  (∀ (s : State) (rq : Requester), Granted s rq 0xC200_00 [] → stopped s = false →
    Does (exec (.globalStop rq) s) fun u =>
      stopped u = true ∧ fld (get u 0xC200_02) 15 8 = 1 ∧ get u 0xC200_00 = cmdValue 2 stOk 0)

/-- Scan-out and the test access port (R304, R305): scan_read brings bits of a chain of a stopped block; the
listed instructions take the port's registers; EXTEST outside global stop and block reset is a host error
(R12), and a private test mode is refused by name, its behaviour being unpredictable (R2). -/
def Obligations.ScanAndTestPortAct : Prop :=
  (∀ (s : State) (rq : Requester) (chain first n : Nat), Granted s rq 0xC210_00 [chain, first] → stopped s = true →
    chainBits s chain ≠ 0 → first % 8 = 0 → first < chainBits s chain → chainOff s chain = false →
    n = min 32768 (chainBits s chain - first) →
    Leaves (exec (.scanRead rq chain first) s) fun u =>
      get u 0xC210_00 = cmdValue 2 stOk n ∧
      (∀ k, 128 * k < n → fld (get u (0xC220_00 + k)) (min (n - 128 * k) 128 - 1) 0 =
        chainRead s chain (first + 128 * k) (min (n - 128 * k) 128))) ∧
  (∀ (s : State) (b : Nat), s.power.porLow = false → (stopped s = true ∨ s.power.blockLow = true) →
    Leaves (exec (.extest b) s) fun u => u.observe.tapIr = 0x00 ∧ u.observe.tapBoundary = b % 2 ^ 19 ∧
      u.observe.tapOut.length = 19 ∧
      markOutPin u = (if b.testBit 18 then some (b.testBit 1) else none) ∧
      txEnPin u = (if b.testBit 18 then some (b.testBit 7) else none) ∧
      txErPin u = (if b.testBit 18 then some (b.testBit 8) else none) ∧
      (∀ i, i < 4 → txdPin u i = if b.testBit 18 then some (b.testBit (3 + i)) else none) ∧
      u = { s with observe := u.observe, freeCount := s.freeCount + 1 }) ∧
  (∀ (s : State) (b : Nat), s.power.porLow = false → stopped s = false → s.power.blockLow = false →
    exec (.extest b) s = .fault .extestOutsideStop) ∧
  (∀ (s : State), s.power.porLow = false →
    Leaves (exec .idcode s) fun u => u.observe.tapIr = 0x01 ∧ u.observe.tapOut.length = 32 ∧
      (∀ i, i < 32 → nth 0 i u.observe.tapOut = (2 ^ 28 + partCode s.part * 2 ^ 12 + 0x7AB) / 2 ^ i % 2) ∧
      u = { s with observe.tapIr := 0x01, observe.tapOut := u.observe.tapOut }) ∧
  (∀ (s : State) (v : Nat), s.power.porLow = false →
    Leaves (exec (.samplePreload v) s) fun u => u.observe.tapIr = 0x02 ∧ u.observe.tapBoundary = v % 2 ^ 19 ∧
      u.observe.tapOut.length = 19 ∧ (extest s = false → nth 0 1 u.observe.tapOut = b2n s.time.markOut) ∧
      (∀ i, i < 4 → nth 0 (10 + i) u.observe.tapOut = s.mgmt.mii.rxd / 2 ^ i % 2) ∧
      u = { s with observe := u.observe, freeCount := s.freeCount + 1 }) ∧
  (∀ (s : State) (chain : Nat), s.power.porLow = false → stopped s = true →
    Leaves (exec (.scanSelect chain) s) fun u => u =
      { s with observe.tapIr := 0x10, observe.tapChain := chain % 256, observe.tapPos := 0, observe.tapOut := [] }) ∧
  (∀ (s : State) (n size : Nat), s.power.porLow = false → stopped s = true →
    size = chainBits s s.observe.tapChain → size ≠ 0 →
    Leaves (exec (.scanData n) s) fun u => u.observe.tapIr = 0x11 ∧ u.observe.tapPos = (s.observe.tapPos + n) % size ∧
      u.observe.tapOut.length = n ∧
      (∀ i, i < n → nth 0 i u.observe.tapOut = chainBit s s.observe.tapChain ((s.observe.tapPos + i) % size)) ∧
      u = { s with observe := u.observe }) ∧
  (∀ (s : State) (tdi : Bool), s.power.porLow = false →
    Leaves (exec (.bypass tdi) s) fun u =>
      u = { s with observe.tapIr := 0xFF, observe.tapOut := [if tdi then 1 else 0] }) ∧
  (∀ (s : State) (op : Nat), exec (.privateTestMode op) s = .refused .privateTestMode)

/-- Watchdogs, hard failures and reports (R307 to R313, R322 to R325): a finding hangs its partition or is
counted; the management core restarts; a row that fails is replaced by a spare of its bank, and a word whose
bits were lost reads POISON; a failed tracker is replaced; a SENT report is sent again. -/
def Obligations.FailuresAreHandled : Prop :=
  (∀ (s : State) (m n : Nat), held s = false → stopped s = false → m < 12 →
    (outstandingAt s m ≠ [] ∨ (nextReq s m).isSome = true) → portOwner s m = some n → partitionState s n = 0 →
    get s (0xA101_01 + n) ≠ 1 →
    Does (exec (.watchdogCheck [.msp m]) s) fun u =>
      partitionState u n = 1 ∧ get u 0xA011_01 = (get s 0xA011_01 + 1) % 2 ^ 32 ∧
      bit (get u 0xA203_01) 0 = true ∧ u.host = s.host) ∧
  (∀ (s : State) (p q : Nat), held s = false → p < 8 → isUp s p = true → queueOf s p q ≠ [] →
    Does (exec (.watchdogCheck [.egress p q]) s) fun u => get u 0xA011_02 = (get s 0xA011_02 + 1) % 2 ^ 32) ∧
  (∀ (s : State), held s = false → firmwareRuns s = true → (∀ v ∈ s.mgmt.running, v.cn ≠ 0xA011_04) →
    Does (exec .mgmtWatchdogExpiry s) fun u =>
      u.recovery.restarting = true ∧ u.recovery.lastRestart = some s.time.cycles ∧ u.mgmt.running = [] ∧
      u.mgmt.collect = [] ∧ u.mirror.restore = none ∧ get u 0xA011_04 = (get s 0xA011_04 + 1) % 2 ^ 32) ∧
  (∀ (s : State), held s = false →
    Does (exec .mgmtRestartComplete s) fun u => u.recovery.restarting = false ∧ u.cat = s.cat ∧
      (tracing s 0 0 = false → u = { s with recovery.restarting := false })) ∧
  (∀ (s : State) (bank row j : Nat) (stuck : Bool) (c : Instr),
    (stuck, c) ∈ [(false, .uncorrectableWord (.carrel bank row)), (true, .stuckBitTest (.carrel bank row) true)] →
    unitsRun s (10 + bank / 8) = true → bank < 64 → row < 4096 → bank * 4096 + row ∉ s.carrel.dead →
    getF s 0xF100_00 bank 31 26 < 32 → freeSpare s bank = some j →
    Does (exec c s) fun u =>
      getF u 0xF100_00 bank 31 26 = getF s 0xF100_00 bank 31 26 + 1 ∧
      lookupT u.carrel.spares (bank * 4096 + row) = some j ∧
      bank * 4096 + row ∈ u.carrel.replacing ∧ u.carrel.dead = s.carrel.dead ∧
      (stuck = true → u.carrel.mem = s.carrel.mem ∧ u.carrel.poison = s.carrel.poison) ∧
      (stuck = false → (bank < quotaFirst s 1 ∨ quotaFirst s 1 + quota s 1 ≤ bank) →
        bank * 4096 + row ∈ u.carrel.poison ∧
        ∀ i, i < 256 → Memory.readByte u.carrel.mem ((bank * 4096 + row) * 256 + i) = 0) ∧
      (∀ a, (a < (bank * 4096 + row) * 256 ∨ (bank * 4096 + row) * 256 + 256 ≤ a) →
        Memory.readByte u.carrel.mem a = Memory.readByte s.carrel.mem a)) ∧
  (∀ (s : State) (site : MemSite), siteRuns s site = true →
    Does (exec (.stuckBitTest site false) s) fun u => u = s) ∧
  (∀ (s : State) (bank row : Nat), unitsRun s (10 + bank / 8) = true →
    Does (exec (.rowReplacementDone bank row) s) fun u =>
      (∀ r, r ∈ u.carrel.replacing ↔ r ∈ s.carrel.replacing ∧ r ≠ bank * 4096 + row) ∧
      u = { s with carrel.replacing := u.carrel.replacing }) ∧
  (∀ (s : State) (i : Nat) (w : Tracker), unitsRun s 2 = true → i < trackerCount → i ∉ s.switch.retired →
    Does (exec (.trackerHardFailure i true) s) fun u =>
      (lookupT s.switch.trackers i = some w →
        lookupT u.switch.trackers i = some { w with stuck := true } ∧
        u = { s with switch.trackers := u.switch.trackers }) ∧
      (∀ j, lookupT s.switch.trackers i = none → freeSpareTracker s = some j →
        u.recovery.spareTrackers = insertT s.recovery.spareTrackers i j ∧
        get u 0xF101_01 = u.recovery.spareTrackers.length ∧ u.switch.retired = s.switch.retired)) ∧
  (∀ (s : State) (n : Nat), held s = false → sentReports s = [n] →
    reportInband s (fld (getRow s reportCn n) 253 246) = true →
    reportShelf s (fld (getRow s reportCn n) 253 246) = false →
    Does (exec .faultResend s) fun u =>
      get u 0xA202_01 = (get s 0xA202_01 + 1) % 2 ^ 64 ∧ fld (getRow u reportCn n) 255 254 = 2 ∧
      (∀ m, m < 256 → m ≠ n → getRow u reportCn m = getRow s reportCn m))

/-- Partition resets and the replay gate (R314 to R316, R319): a reset drains its partition under a new edition, a
drained partition reinitialises its memory, partition_ready returns it to NORMAL once partition_quiet has
passed, a drain past its limit escalates; contexts are admitted, cleared and opened again. -/
def Obligations.PartitionsResetAndGate : Prop :=
  (∀ (s : State) (rq : Requester) (n : Nat), Granted s rq 0xA103_00 [n] → n < 16 → partitionDown s n = false →
    stopped s = false →
    Does (exec (.partitionReset rq n) s) fun u =>
      partitionState u n = 2 ∧ partitionEdition u n = (partitionEdition s n + 1) % 256 ∧
      get u (0xA001_01 + n) = 0x4100 + n ∧ get u 0xA103_00 = cmdValue 1 0 0 ∧
      (∀ m, m < 12 → bit (get s (0xA100_01 + n)) m = true → quiesced u m = true) ∧
      ∃ v ∈ u.mgmt.running, v.cn = 0xA103_00 ∧ v.arg = n) ∧
  (∀ (s : State) (n : Nat), held s = false → n < 16 → partitionState s n = 2 → partitionDrained s n = true →
    n ∉ s.recovery.undrained →
    Does (exec (.drainComplete n) s) fun u =>
      partitionState u n = 3 ∧
      (∀ m, m < 12 → bit u.host.quiesce m = (bit s.host.quiesce m && !bit (get s (0xA100_01 + n)) m) ∧
        bit u.host.resetReq m = (bit s.host.resetReq m || bit (get s (0xA100_01 + n)) m)) ∧
      (latestRuns s 0xA103_00 n → recordsFit s → get u 0xA103_00 = cmdValue 2 stOk 0)) ∧
  (∀ (s : State) (n : Nat), held s = false → partitionState s n = 2 → n < 16 → n ∉ s.recovery.undrained →
    Does (exec (.drainLimitExpiry n) s) fun u =>
      partitionState u n = 2 ∧ u.recovery.undrained = s.recovery.undrained ++ [n] ∧ get u 0xA203_03 = 1 ∧ get u 0xA011_03 = (get s 0xA011_03 + 1) % 2 ^ 32 ∧
      u.host = s.host) ∧
  (∀ (s : State) (rq : Requester) (n : Nat), Granted s rq 0xA104_00 [n] → n < 16 → partitionState s n = 3 →
    s.power.partLow.contains n = false →
    Does (exec (.partitionReady rq n) s) fun u =>
      (n ∈ s.recovery.quiet → partitionState u n = 0 ∧ get u 0xA104_00 = cmdValue 2 stOk 0 ∧
        ∀ m, m < 12 → bit (get s (0xA100_01 + n)) m = true → bit u.host.resetReq m = false) ∧
      (n ∉ s.recovery.quiet → partitionState u n = 3 ∧ get u 0xA104_00 = cmdValue 1 0 0 ∧
        ∃ v ∈ u.mgmt.running, v.cn = 0xA104_00 ∧ v.arg = n)) ∧
  (∀ (s : State) (n : Nat), held s = false → n < 16 → partitionDown s n = true → n ∉ s.recovery.quiet →
    Does (exec (.partitionQuietExpiry n) s) fun u =>
      u.recovery.quiet = s.recovery.quiet ++ [n] ∧
      (partitionState s n = 3 → latestRuns s 0xA104_00 n → recordsFit s →
        s.power.partLow.contains n = false →
        partitionState u n = 0 ∧ get u 0xA104_00 = cmdValue 2 stOk 0 ∧ noneRuns u 0xA104_00 n) ∧
      (partitionState s n = 2 → u = { s with recovery.quiet := u.recovery.quiet })) ∧
  (∀ (s : State) (rq : Requester) (n ctx : Nat) (e : Nat × Nat), Granted s rq 0xA112_00 [n, ctx] → n < 16 →
    ctx < 2 ^ 16 → gateRow s n ctx = some e → fld e.2 126 125 = 0 → admittedRows s n = [] →
    Leaves (exec (.gateAdmit rq n ctx) s) fun u =>
      fld (getRow u 0xA110_00 e.1) 126 125 = 1 ∧ Completed s u rq 0xA112_00 0 [0xA110_00] ∧
      u = { s with cat := u.cat, log := u.log, mgmt := u.mgmt }) ∧
  (∀ (s : State) (rq : Requester) (n ctx : Nat) (e : Nat × Nat), Granted s rq 0xA113_00 [n, ctx] → n < 16 →
    ctx < 2 ^ 16 → gateRow s n ctx = some e → fld e.2 126 125 ≤ 1 →
    Leaves (exec (.gateClear rq n ctx) s) fun u =>
      fld (getRow u 0xA110_00 e.1) 126 125 = 2 ∧ Completed s u rq 0xA113_00 0 [0xA110_00] ∧
      u = { s with cat := u.cat, log := u.log, mgmt := u.mgmt }) ∧
  (∀ (s : State) (rq : Requester) (n : Nat), Granted s rq 0xA114_00 [n] → n < 16 → sortedT s.cat = true →
    Leaves (exec (.gateOpen rq n) s) fun u =>
      (∀ r, r < 64 → fld (getRow u 0xA110_00 r) 126 125 =
        if bit (getRow s 0xA110_00 r) 127 = true ∧ fld (getRow s 0xA110_00 r) 124 121 = n then 2
        else fld (getRow s 0xA110_00 r) 126 125) ∧
      Completed s u rq 0xA114_00 0 [0xA110_00] ∧ u = { s with cat := u.cat, log := u.log, mgmt := u.mgmt }) ∧
  (∀ (s : State) (rq : Requester), Granted s rq 0xA115_00 [] → sortedT s.cat = true → (∀ n, n < 16 → partitionState s n = 0) →
    Leaves (exec (.contextListClear rq) s) fun u =>
      (∀ r, r < 64 → getRow u 0xA110_00 r = 0) ∧ get u 0xA111_00 = 0 ∧
      Completed s u rq 0xA115_00 0 [0xA110_00, 0xA111_00] ∧
      u = { s with cat := u.cat, log := u.log, mgmt := u.mgmt })

/-- Shelf net (R268 to R274, R322): a REQUEST of one NEXT is answered with the object after the one it names and a
client record is kept; a REQUEST that R270 does not let in, one of an unlisted message type with it, is answered
MALFORMED; a DISCOVER to the own address is answered at once and one to all nodes after its delay; what the block
never answers is counted, and so is a frame outside the subset of Table 12.9, while RX_ER discards one in silence;
NOTIFY_ACK takes effect from notify_listener alone; the block answers solicitations and echoes for its address, and a
conflict under detection silences it; idle clients and leases end. The bytes of the advertisement and of the echo reply
are presumed from the protocols' own documents (log entry 12), and that no counter names a frame with RX_ER is the
model's (log entry 65). -/
def Obligations.ShelfNetAnswers : Prop :=
  (∀ (s : State) (addr udp c0 : Nat) (d : Datagram) (m : Message) (i : Item) (o : Obj) (c : Instr),
    c ∈ [.request addr udp d, .nextItem addr udp d] → servesFabric s = true → d.frame.rxEr = false →
    datagramFits s d addr udp d.frame.dst = true → 16 ≤ d.bytes.length → m = messageOf d.bytes →
    m.type = 1 → requestItems s 1440 m d.bytes.length = some [i] → i.op = itemNext →
    nextBeyond s i = false → nextForm s i = false →
    clientOf s { cls := .shelf, ident := addr, port := udp } = none → s.mgmt.clients.length < 64 →
    s.mgmt.waiting = [] → nextObj s.part i.cn = some c0 → findObj s.part c0 = some o →
    Does (exec c s) fun u =>
      (shelfOn s = true → u.mgmt.shelfOut = s.mgmt.shelfOut ++
        [{ addr := addr, udp := udp,
           bytes := messageBytes 2 stOk m.number [{ item := i, status := stOk, data := nextBytes o c0 }] }]) ∧
      (shelfOn s = false → u.mgmt.shelfOut = s.mgmt.shelfOut) ∧
      get u 0x1210_01 = (get s 0x1210_01 + 1) % 2 ^ 64 ∧ get u 0x1110_03 = (get s 0x1110_03 + 1) % 2 ^ 64 ∧
      (∃ x, clientOf u { cls := .shelf, ident := addr, port := udp } = some x ∧
        ∃ r ∈ x.records, r.number = m.number ∧ r.running = false) ∧
      StoreFrame s u [0x1210_01, 0x1110_03] ∧ u = { s with cat := u.cat, mgmt := u.mgmt }) ∧
  (∀ (s : State) (addr udp : Nat) (d : Datagram) (m : Message), servesFabric s = true → d.frame.rxEr = false →
    datagramFits s d addr udp d.frame.dst = true → 16 ≤ d.bytes.length → m = messageOf d.bytes →
    (m.type < 2 ∨ 6 < m.type) → requestItems s 1440 m d.bytes.length = none →
    Does (exec (.request addr udp d) s) fun u =>
      get u 0x1210_03 = (get s 0x1210_03 + 1) % 2 ^ 64 ∧
      (shelfOn s = true → u.mgmt.shelfOut = s.mgmt.shelfOut ++
        [{ addr := addr, udp := udp, bytes := messageBytes 2 stMalformed m.number [] }]) ∧
      StoreFrame s u [0x1210_01, 0x1210_03]) ∧
  (∀ (s : State) (addr udp dst : Nat) (d : Datagram) (m : Message) (uni : Bool), servesFabric s = true →
    d.frame.rxEr = false → (uni = true → dst = shelfAddress s) →
    (uni = false → dst = d.frame.dst ∧ dst ≠ shelfAddress s) → datagramFits s d addr udp dst = true →
    d.bytes.length = 16 → m = messageOf d.bytes → m.version = 1 → m.type = 3 → m.count = 0 → m.length = 16 →
    Does (exec (.discover addr udp uni d) s) fun u =>
      get u 0x1210_01 = (get s 0x1210_01 + 1) % 2 ^ 64 ∧ StoreFrame s u [0x1210_01] ∧
      (uni = true → u.mgmt.discovers = s.mgmt.discovers ∧ (shelfOn s = true → u.mgmt.shelfOut = s.mgmt.shelfOut ++
        [{ addr := addr, udp := udp, bytes := discoverBytes s m.number }])) ∧
      (uni = false → u.mgmt.discovers = s.mgmt.discovers ++ [(addr, udp, m.number)] ∧
        u.mgmt.shelfOut = s.mgmt.shelfOut) ∧ u = { s with cat := u.cat, mgmt := u.mgmt }) ∧
  (∀ (s : State) (addr udp n : Nat) (ds : List (Nat × Nat × Nat)), s.mgmt.discovers = (addr, udp, n) :: ds →
    Leaves (exec .discoverDelayExpiry s) fun u =>
      u.mgmt.discovers = ds ∧ (shelfOn s = true → u.mgmt.shelfOut = s.mgmt.shelfOut ++
        [{ addr := addr, udp := udp, bytes := discoverBytes s n }]) ∧ u = { s with mgmt := u.mgmt }) ∧
  (∀ (s : State) (d : Datagram) (type cn : Nat) (c : Instr),
    (type, cn, c) ∈ [(5, 0xA202_06, .notify d), (2, 0x1210_03, .response d), (4, 0x1210_03, .discoverRsp d)] →
    servesFabric s = true → d.frame.rxEr = false → datagramFits s d d.frame.src d.sport d.frame.dst = true →
    16 ≤ d.bytes.length → (messageOf d.bytes).type = type →
    Leaves (exec c s) fun u =>
      get u 0x1210_01 = (get s 0x1210_01 + 1) % 2 ^ 64 ∧ get u cn = (get s cn + 1) % 2 ^ 64 ∧
      StoreFrame s u [0x1210_01, cn] ∧ u = { s with cat := u.cat, mgmt.mii.rxEr := false }) ∧
  (∀ (s : State) (addr udp n x : Nat) (d : Datagram), servesFabric s = true → d.frame.rxEr = false →
    datagramFits s d addr udp d.frame.dst = true → sortedT s.cat = true →
    d.bytes.length = 32 → (messageOf d.bytes).version = 1 → (messageOf d.bytes).type = 6 →
    (messageOf d.bytes).count = 0 → (messageOf d.bytes).length = 32 → x = numLE (d.bytes.drop 16) →
    get s 0xA202_03 = 0 → n < 256 →
    fld (getRow s reportCn n) 255 254 ≠ 0 → fld (getRow s reportCn n) 211 196 = fld x 127 112 →
    fld (getRow s reportCn n) 253 246 = fld x 111 104 → fld (getRow s reportCn n) 241 220 = fld x 103 82 →
    fld (getRow s reportCn n) 219 212 = fld x 81 74 →
    (∀ m, m ≠ n → (fld (getRow s reportCn m) 255 254 = 0 ∨
      fld (getRow s reportCn m) 211 196 ≠ fld (getRow s reportCn n) 211 196)) →
    fromListener s addr udp = true →
    Does (exec (.notifyAck addr udp d) s) fun u =>
      getRow u reportCn n = 0 ∧ get u 0xA202_02 = (get s 0xA202_02 + 1) % 2 ^ 64 ∧
      (∀ m, m < 256 → m ≠ n → getRow u reportCn m = getRow s reportCn m) ∧
      StoreFrame s u [reportCn, 0x1210_01, 0xA202_02, 0xA202_04] ∧
      u = { s with cat := u.cat, mgmt.mii.rxEr := false }) ∧
  (∀ (s : State) (addr udp : Nat) (d : Datagram), servesFabric s = true → d.frame.rxEr = false →
    datagramFits s d addr udp d.frame.dst = true → d.bytes.length = 32 →
    (messageOf d.bytes).version = 1 → (messageOf d.bytes).type = 6 → (messageOf d.bytes).count = 0 →
    (messageOf d.bytes).length = 32 → fromListener s addr udp = false →
    Does (exec (.notifyAck addr udp d) s) fun u =>
      get u 0x1210_01 = (get s 0x1210_01 + 1) % 2 ^ 64 ∧ StoreFrame s u [0x1210_01] ∧
      u = { s with cat := u.cat, mgmt.mii.rxEr := false }) ∧
  (∀ (s : State) (src dst : Nat) (d : Datagram) (t : FramedTarget) (e : FramedEcho) (fits : Bool) (f : MacFrame)
    (c : Instr), servesFabric s = true → d.bytes.length < 16 →
    (fits, f, c) ∈
      [(datagramFits s d d.frame.src d.sport d.frame.dst, d.frame, Instr.notify d),
       (datagramFits s d d.frame.src d.sport d.frame.dst, d.frame, .response d),
       (datagramFits s d d.frame.src d.sport d.frame.dst, d.frame, .discoverRsp d),
       (neighbourFits s t 135 src t.frame.dst, t.frame, .neighbourSolicitation src t),
       (neighbourFits s t 136 t.frame.src t.frame.dst, t.frame, .neighbourAdvertisement t),
       (echoFits s e src dst, e.frame, .echoRequest src dst e)] →
    (f.rxEr = true → Leaves (exec c s) fun u => u = { s with mgmt.mii.rxEr := true }) ∧
    (f.rxEr = false → fits = false → Leaves (exec c s) fun u =>
      get u 0x1210_02 = (get s 0x1210_02 + 1) % 2 ^ 64 ∧ StoreFrame s u [0x1210_02] ∧
      u = { s with cat := u.cat, mgmt.mii.rxEr := false })) ∧
  (∀ (s : State) (src : Nat) (t : FramedTarget), servesFabric s = true → t.frame.rxEr = false →
    neighbourFits s t 135 src t.frame.dst = true → s.mgmt.dad = false → shelfOn s = true →
    Leaves (exec (.neighbourSolicitation src t) s) fun u =>
      u.mgmt.shelfOut = s.mgmt.shelfOut ++
        [{ addr := if src = 0 then allNodes else src, udp := 0,
           bytes := advertisement s (if src = 0 then allNodes else src) }] ∧
      get u 0x1210_01 = (get s 0x1210_01 + 1) % 2 ^ 64 ∧ StoreFrame s u [0x1210_01] ∧
      u = { s with cat := u.cat, mgmt := u.mgmt }) ∧
  (∀ (s : State) (t : FramedTarget), servesFabric s = true → t.frame.rxEr = false →
    neighbourFits s t 136 t.frame.src t.frame.dst = true →
    Leaves (exec (.neighbourAdvertisement t) s) fun u =>
      (s.mgmt.dad = false → get u 0x1210_01 = (get s 0x1210_01 + 1) % 2 ^ 64 ∧ StoreFrame s u [0x1210_01] ∧
        u = { s with cat := u.cat, mgmt.mii.rxEr := false }) ∧
      (s.mgmt.dad = true → u.mgmt.dad = false ∧ u.mgmt.dadFailed = true ∧
        get u 0x1210_06 = (get s 0x1210_06 + 1) % 2 ^ 32)) ∧
  (∀ (s : State) (src dst : Nat) (e : FramedEcho), servesFabric s = true → e.frame.rxEr = false →
    echoFits s e src dst = true → shelfOn s = true →
    Leaves (exec (.echoRequest src dst e) s) fun u =>
      u.mgmt.shelfOut = s.mgmt.shelfOut ++
        [{ addr := src, udp := 0, bytes := icmpMessage (shelfAddress s) src 129 e.bytes }] ∧
      get u 0x1210_01 = (get s 0x1210_01 + 1) % 2 ^ 64 ∧ StoreFrame s u [0x1210_01] ∧
      u = { s with cat := u.cat, mgmt := u.mgmt }) ∧
  (∀ (s : State) (ident port : Nat),
    Leaves (exec (.clientIdleExpiry ident port) s) fun u =>
      (∀ x, x ∈ u.mgmt.clients ↔ x ∈ s.mgmt.clients ∧ ¬(x.rq.ident = ident ∧ x.rq.port = port)) ∧
      u = { s with mgmt.clients := u.mgmt.clients }) ∧
  (∀ (s : State), s.mgmt.owner.isSome = true →
    Leaves (exec .ownerLeaseExpiry s) fun u => u = { s with mgmt.leaseOver := true })

/-- Commissioning and the host's window (R264 to R267, R276, R277): the block enters COMMISSIONING for its new
owner, commits with the quotas in force, or retires; a WRITE that passes its checks stands in its object; a
slot write that covers the value's last byte is such a WRITE and a slot read gives the slot's bytes; the long
access runs its item. -/
def Obligations.CatalogueAndHostWindowAct : Prop :=
  (∀ (s : State) (rq : Requester), GrantedCommission s rq 1 → commission s = 0 →
    Does (exec (.commissionEnter rq) s) fun u =>
      commission u = 1 ∧ u.mgmt.owner = some rq ∧ u.mgmt.leaseOver = false ∧ get u 0x1100_01 = ownerBits rq ∧
      u.host = s.host ∧ u.carrel = s.carrel ∧ u.switch = s.switch) ∧
  (∀ (s : State) (rq : Requester), GrantedCommission s rq 2 → commission s = 1 → ordinary (ownId s) = true →
    quotaSum s ≤ 64 → s.mgmt.fromRetired = false →
    Does (exec (.commissionCommit rq) s) fun u =>
      commission u = 2 ∧ u.carrel.layout = (upFrom 0x8300_01 5).map (fun c => get s c)) ∧
  (∀ (s : State) (rq : Requester), GrantedCommission s rq 3 → (commission s = 1 ∨ commission s = 2) →
    Does (exec (.commissionRetire rq) s) fun u => commission u = 3 ∧ get u 0x1100_03 = ownEdition s) ∧
  (∀ (s : State) (rq : Requester) (cn row v : Nat) (o : Obj), row < 2 ^ 32 → findObj s.part cn = some o →
    GrantedWrite s rq cn row v → (rq.cls ≠ .host ∨ cn ≠ 0x11F0_00) →
    Does (exec (.catalogueWrite rq cn row v) s) fun u => getRow u cn row = storedValue s.part o cn v) ∧
  (∀ (s : State) (rq : Requester) (v : Nat) (o : Obj), findObj s.part 0x1200_01 = some o →
    GrantedWrite s rq 0x1200_01 0 v →
    Does (exec (.shelfEnableWrite rq v) s) fun u =>
      get u 0x1200_01 = storedValue s.part o 0x1200_01 v ∧
      (storedValue s.part o 0x1200_01 v = 0 → u.mgmt.dad = false ∧ u.mgmt.dadFailed = false) ∧
      (storedValue s.part o 0x1200_01 v ≠ 0 → get s 0x1200_01 = 0 → u.mgmt.dad = true ∧ u.mgmt.dadFailed = false) ∧
      StoreFrame s u [0x1200_01, 0x1110_03] ∧ u = { s with cat := u.cat, log := u.log, mgmt := u.mgmt }) ∧
  (∀ (s : State) (offset cn : Nat) (bs : List Byte) (o : Obj), domainOn s 3 = true → offset % 16 = 0 →
    cn = slotCn offset → serves s hostRq cn = true → slotObject s cn = some o → o.type ≠ .cmd → cn ≠ 0x11F0_00 →
    bs.length = o.type.bytes → bs ≠ [] →
    GrantedWrite { s with mgmt.collect := eraseT s.mgmt.collect cn } hostRq cn 0 (numLE bs) →
    Does (exec (.hostSlotWrite offset bs) s) fun u =>
      get u cn = storedValue s.part o cn (numLE bs) ∧ lookupT u.mgmt.collect cn = none) ∧
  (∀ (s : State) (offset cn len : Nat), domainOn s 3 = true → offset % 16 = 0 → cn = slotCn offset → len ≠ 0 →
    len ≤ 16 → serves s hostRq cn = true → s.mgmt.waiting = [] → (stopped s && haltedObject cn) = false →
    Leaves (exec (.hostSlotRead offset len) s) fun u =>
      u.mgmt.slotReads = s.mgmt.slotReads ++ [{ offset := offset, bytes := (slotBytes s cn).take len }] ∧
      lookupT u.mgmt.snaps cn = some (numLE (slotBytes s cn)) ∧ u = { s with mgmt := u.mgmt }) ∧
  (∀ (s : State) (header c0 : Nat) (o : Obj) (i : Item), serves s hostRq 0x11F0_00 = true → s.mgmt.longMsg = 0 →
    s.mgmt.waiting = [] → fld header 101 96 = 0 → fld header 27 0 = 0 → fld header 47 36 ≤ 4080 →
    fld header 103 102 = itemNext → i = itemOf header [] → nextBeyond s i = false → nextForm s i = false →
    nextObj s.part i.cn = some c0 →
    findObj s.part c0 = some o →
    Does (exec (.hostAccessStart header) s) fun u =>
      get u 0x11F0_00 = header ∧ get u 0x11F0_01 = 2 + stOk * 256 + 16 * 2 ^ 16 ∧
      get u 0x11F1_00 = numLE (nextBytes o c0) ∧ get u 0x1110_03 = (get s 0x1110_03 + 1) % 2 ^ 64 ∧
      u.mgmt.longMsg = 0 ∧ StoreFrame s u [0x11F0_00, 0x11F0_01, 0x11F1_00, 0x1110_03] ∧
      u = { s with cat := u.cat, mgmt := u.mgmt })

/-- The place of a notice (R111): a ring begins with W = 0 at its enable, and notice W is presented to slot (W mod
size) of the ring's base with turn ((W div size) mod 255) + 1 in its top byte, after which W is one more. -/
def Obligations.NoticesGoToTheirSlots : Prop :=
  (∀ (s : State) (rq : Requester) (n : Nat), Granted s rq 0x8202_00 [n] → n < 256 → fld (ringRow s n) 255 254 = 0 →
    Does (exec (.ringEnable rq n) s) fun u => (ringRun u n).written = 0) ∧
  (∀ (s : State) (n m w size : Nat) (x : NoticePending), unitsRun s 2 = true → n < 256 →
    rgOn (ringRow s n) = true → ringFull s n = false → nextNotice s n = some x → w = (ringRun s n).written →
    size = rgSize (ringRow s n) →
    mspPort s (rgPartition (ringRow s n)) (rgSegment (ringRow s n)) (rgBase (ringRow s n) + w % size * 32) = some m →
    quiesced s m = false → noLocksAt s m →
    Does (exec (.noticeWrite n) s) fun u =>
      (ringRun u n).written = w + 1 ∧
      ∃ r, mspQueue u m = mspQueue s m ++ [r] ∧ r.op = 1 ∧ r.offset = rgBase (ringRow s n) + w % size * 32 ∧
        r.length = 32 ∧ r.data.length = 32 ∧ fld (numLE r.data) 255 248 = w / size % 255 + 1)

/-- A command whose argument names an instance beyond those present returns UNSUPPORTED and changes nothing but
its own slot (R371), before any other check of its own. A tray, partition or window number and the like is the
argument `n` of the command; `lo` is how many there are. Rings, collective entries and the carrel's tenants
fill their 8-bit arguments, and a port or lane in a call number is R4's case. -/
def Obligations.AbsentInstancesAreUnsupported : Prop :=
  (∀ (s : State) (rq : Requester) (n x y lo hi cn : Nat) (xs : List Nat) (c : Instr),
    (lo, hi, cn, xs, c) ∈
      [(1024, 2 ^ 32, 0x5102_00, [n], Instr.windowOpen rq n), (1024, 2 ^ 32, 0x5103_00, [n], .windowModify rq n),
       (1024, 2 ^ 32, 0x5104_00, [n], .windowClose rq n), (16, 2 ^ 8, 0x5201_00, [n], .partitionEditionRaise rq n),
       (64, 2 ^ 8, 0x8102_00, [n], .trayEnable rq n), (64, 2 ^ 8, 0x8103_00, [n], .trayDisable rq n),
       (4096, 2 ^ 16, 0x6403_00, [n], .loanClose rq n), (4096, 2 ^ 16, 0x6409_00, [n], .loanHopClose rq n),
       (16, 2 ^ 8, 0xA103_00, [n], .partitionReset rq n), (16, 2 ^ 8, 0xA104_00, [n], .partitionReady rq n),
       (portsOf s.part, 2 ^ 8, 0xB020_00, [x, n, y], .counterpartRestore rq x n y)] →
    lo ≤ n → n < hi → Granted s rq cn xs →
    Does (exec c s) fun u =>
      get u cn = cmdValue 2 stUnsupported 0 ∧ StoreFrame s u [cn] ∧
      u = { s with cat := u.cat, mgmt := { (newInvocation s cn).mgmt with leaseOver := u.mgmt.leaseOver } }) ∧
  (∀ (s : State) (rq : Requester) (n x p lo hi cn : Nat) (xs : List Nat) (c : Instr),
    (lo, hi, cn, xs, c) ∈
      [(16, 2 ^ 8, 0xA112_00, [n, x], Instr.gateAdmit rq n x), (16, 2 ^ 8, 0xA113_00, [n, x], .gateClear rq n x),
       (16, 2 ^ 8, 0xA114_00, [n], .gateOpen rq n), (portsOf s.part, 2 ^ 8, 0x6330_00, [n], .sampleClear rq n),
       (10, 2 ^ 8, ofPort p 0x2010_03, [n, 1], .laneChangeRemove rq p n),
       (10, 2 ^ 8, ofPort p 0x2010_03, [n, 0], .laneChangeAdd rq p n),
       (if chainBits s n = 0 then n else n + 1, 2 ^ 8, 0xC210_00, [n, x], .scanRead rq n x),
       (if get s 0x8310_02 < x + n ∧ n ≠ 0 then n else n + 1, 2 ^ 32, 0x8311_00, [x, n], .ledgerClear rq x n)] →
    lo ≤ n → n < hi → Granted s rq cn xs →
    Leaves (exec c s) fun u =>
      get u cn = cmdValue 2 stUnsupported 0 ∧ StoreFrame s u [cn] ∧
      u = { s with cat := u.cat, mgmt := { (newInvocation s cn).mgmt with leaseOver := u.mgmt.leaseOver } })

/-- The rights masks (R262): a mask grants a write or an invocation to its class exactly where it has the bit of
the object's group in Table 12.4; a WRITE of a mask leaves the bits of that table and no other, and bits 1 and
2 of the SHELF mask read 1 whatever is written, so that the classes that pass by their mask alone never lose
Shelf net. -/
def Obligations.RightsMasksGrant : Prop :=
  (∀ (s : State) (rq : Requester) (cn g first last : Nat),
    (g, first, last) ∈
      [(0, 0x1000, 0x10FF), (1, 0x1100, 0x11FF), (2, 0x1200, 0x12FF), (3, 0x2000, 0x27FF), (4, 0x3000, 0x37FF),
       (5, 0x4000, 0x41FF), (6, 0x5000, 0x54FF), (7, 0x6000, 0x64FF), (8, 0x7000, 0x74FF), (9, 0x8000, 0x84FF),
       (10, 0x9000, 0x91FF), (11, 0xA000, 0xA2FF), (12, 0xB000, 0xB0FF), (13, 0xC000, 0xC2FF), (14, 0xD000, 0xDFFF),
       (15, 0xE000, 0xE1FF), (16, 0xF000, 0xF1FF)] → first ≤ cn / 256 → cn / 256 ≤ last →
    (rq.cls = .shelf → mayChange s rq cn = (bit (inForce s 0x1101_01) g || g == 1 || g == 2)) ∧
    (rq.cls = .fm → mayChange s rq cn = bit (inForce s 0x1101_03) g) ∧
    (rq.cls = .host → fabricReserved cn = false → longAccessObject cn = false → hostException s cn = false →
      mayChange s rq cn = bit (inForce s 0x1101_02) g) ∧
    (rq.cls = .neighbour → cn ≠ 0x6408_00 → cn ≠ 0x6409_00 → mayChange s rq cn = bit (inForce s 0x1101_04) g)) ∧
  (∀ (s : State) (rq : Requester) (m v : Nat), 1 ≤ m → m ≤ 4 → GrantedWrite s rq (0x1101_00 + m) 0 v →
    Does (exec (.catalogueWrite rq (0x1101_00 + m) 0 v) s) fun u =>
      ∀ i, bit (get u (0x1101_00 + m)) i = ((decide (i < 17) && bit v i) || (m == 1 && (i == 1 || i == 2))))

end
end

