-- ==== Sys2Proof/Laws/State.lean ====
section
/-! SUPPORT. What the updates of the Catalogue store and of the ports leave alone, one lemma per field, and what
a read after a write of the store gives. -/

namespace Sys2Proof.Machine

variable {s : State}

@[simp] theorem setRow_part {cn row v : Nat} : (setRow s cn row v).part = s.part := (rfl)
@[simp] theorem setRow_pending {cn row v : Nat} : (setRow s cn row v).pending = s.pending := (rfl)
@[simp] theorem setRow_power {cn row v : Nat} : (setRow s cn row v).power = s.power := (rfl)
@[simp] theorem setRow_carrel {cn row v : Nat} : (setRow s cn row v).carrel = s.carrel := (rfl)
@[simp] theorem setRow_switch {cn row v : Nat} : (setRow s cn row v).switch = s.switch := (rfl)
@[simp] theorem setRow_host {cn row v : Nat} : (setRow s cn row v).host = s.host := (rfl)
@[simp] theorem setRow_slips {cn row v : Nat} : (setRow s cn row v).slips = s.slips := (rfl)
@[simp] theorem setRow_coll {cn row v : Nat} : (setRow s cn row v).coll = s.coll := (rfl)
@[simp] theorem setRow_ports {cn row v : Nat} : (setRow s cn row v).ports = s.ports := (rfl)
@[simp] theorem setRow_policers {cn row v : Nat} : (setRow s cn row v).policers = s.policers := (rfl)
@[simp] theorem setRow_time {cn row v : Nat} : (setRow s cn row v).time = s.time := (rfl)
@[simp] theorem setRow_observe {cn row v : Nat} : (setRow s cn row v).observe = s.observe := (rfl)
@[simp] theorem setRow_recovery {cn row v : Nat} : (setRow s cn row v).recovery = s.recovery := (rfl)
@[simp] theorem setRow_mgmt {cn row v : Nat} : (setRow s cn row v).mgmt = s.mgmt := (rfl)
@[simp] theorem setRow_log {cn row v : Nat} : (setRow s cn row v).log = s.log := (rfl)
@[simp] theorem setRow_mirror {cn row v : Nat} : (setRow s cn row v).mirror = s.mirror := (rfl)
@[simp] theorem setRow_freeCount {cn row v : Nat} : (setRow s cn row v).freeCount = s.freeCount := (rfl)

@[simp] theorem set_part {cn v : Nat} : (set s cn v).part = s.part := (rfl)
@[simp] theorem set_pending {cn v : Nat} : (set s cn v).pending = s.pending := (rfl)
@[simp] theorem set_power {cn v : Nat} : (set s cn v).power = s.power := (rfl)
@[simp] theorem set_carrel {cn v : Nat} : (set s cn v).carrel = s.carrel := (rfl)
@[simp] theorem set_switch {cn v : Nat} : (set s cn v).switch = s.switch := (rfl)
@[simp] theorem set_host {cn v : Nat} : (set s cn v).host = s.host := (rfl)
@[simp] theorem set_slips {cn v : Nat} : (set s cn v).slips = s.slips := (rfl)
@[simp] theorem set_coll {cn v : Nat} : (set s cn v).coll = s.coll := (rfl)
@[simp] theorem set_ports {cn v : Nat} : (set s cn v).ports = s.ports := (rfl)
@[simp] theorem set_policers {cn v : Nat} : (set s cn v).policers = s.policers := (rfl)
@[simp] theorem set_time {cn v : Nat} : (set s cn v).time = s.time := (rfl)
@[simp] theorem set_observe {cn v : Nat} : (set s cn v).observe = s.observe := (rfl)
@[simp] theorem set_recovery {cn v : Nat} : (set s cn v).recovery = s.recovery := (rfl)
@[simp] theorem set_mgmt {cn v : Nat} : (set s cn v).mgmt = s.mgmt := (rfl)
@[simp] theorem set_log {cn v : Nat} : (set s cn v).log = s.log := (rfl)
@[simp] theorem set_mirror {cn v : Nat} : (set s cn v).mirror = s.mirror := (rfl)
@[simp] theorem set_freeCount {cn v : Nat} : (set s cn v).freeCount = s.freeCount := (rfl)

@[simp] theorem setF_part {cn row hi lo x : Nat} : (setF s cn row hi lo x).part = s.part := (rfl)
@[simp] theorem setF_pending {cn row hi lo x : Nat} : (setF s cn row hi lo x).pending = s.pending := (rfl)
@[simp] theorem setF_power {cn row hi lo x : Nat} : (setF s cn row hi lo x).power = s.power := (rfl)
@[simp] theorem setF_carrel {cn row hi lo x : Nat} : (setF s cn row hi lo x).carrel = s.carrel := (rfl)
@[simp] theorem setF_switch {cn row hi lo x : Nat} : (setF s cn row hi lo x).switch = s.switch := (rfl)
@[simp] theorem setF_host {cn row hi lo x : Nat} : (setF s cn row hi lo x).host = s.host := (rfl)
@[simp] theorem setF_slips {cn row hi lo x : Nat} : (setF s cn row hi lo x).slips = s.slips := (rfl)
@[simp] theorem setF_coll {cn row hi lo x : Nat} : (setF s cn row hi lo x).coll = s.coll := (rfl)
@[simp] theorem setF_ports {cn row hi lo x : Nat} : (setF s cn row hi lo x).ports = s.ports := (rfl)
@[simp] theorem setF_policers {cn row hi lo x : Nat} : (setF s cn row hi lo x).policers = s.policers := (rfl)
@[simp] theorem setF_time {cn row hi lo x : Nat} : (setF s cn row hi lo x).time = s.time := (rfl)
@[simp] theorem setF_observe {cn row hi lo x : Nat} : (setF s cn row hi lo x).observe = s.observe := (rfl)
@[simp] theorem setF_recovery {cn row hi lo x : Nat} : (setF s cn row hi lo x).recovery = s.recovery := (rfl)
@[simp] theorem setF_mgmt {cn row hi lo x : Nat} : (setF s cn row hi lo x).mgmt = s.mgmt := (rfl)
@[simp] theorem setF_log {cn row hi lo x : Nat} : (setF s cn row hi lo x).log = s.log := (rfl)
@[simp] theorem setF_mirror {cn row hi lo x : Nat} : (setF s cn row hi lo x).mirror = s.mirror := (rfl)
@[simp] theorem setF_freeCount {cn row hi lo x : Nat} : (setF s cn row hi lo x).freeCount = s.freeCount := (rfl)

@[simp] theorem count_part {cn n k : Nat} : (count s cn n k).part = s.part := (rfl)
@[simp] theorem count_pending {cn n k : Nat} : (count s cn n k).pending = s.pending := (rfl)
@[simp] theorem count_power {cn n k : Nat} : (count s cn n k).power = s.power := (rfl)
@[simp] theorem count_carrel {cn n k : Nat} : (count s cn n k).carrel = s.carrel := (rfl)
@[simp] theorem count_switch {cn n k : Nat} : (count s cn n k).switch = s.switch := (rfl)
@[simp] theorem count_host {cn n k : Nat} : (count s cn n k).host = s.host := (rfl)
@[simp] theorem count_slips {cn n k : Nat} : (count s cn n k).slips = s.slips := (rfl)
@[simp] theorem count_coll {cn n k : Nat} : (count s cn n k).coll = s.coll := (rfl)
@[simp] theorem count_ports {cn n k : Nat} : (count s cn n k).ports = s.ports := (rfl)
@[simp] theorem count_policers {cn n k : Nat} : (count s cn n k).policers = s.policers := (rfl)
@[simp] theorem count_time {cn n k : Nat} : (count s cn n k).time = s.time := (rfl)
@[simp] theorem count_observe {cn n k : Nat} : (count s cn n k).observe = s.observe := (rfl)
@[simp] theorem count_recovery {cn n k : Nat} : (count s cn n k).recovery = s.recovery := (rfl)
@[simp] theorem count_mgmt {cn n k : Nat} : (count s cn n k).mgmt = s.mgmt := (rfl)
@[simp] theorem count_log {cn n k : Nat} : (count s cn n k).log = s.log := (rfl)
@[simp] theorem count_mirror {cn n k : Nat} : (count s cn n k).mirror = s.mirror := (rfl)
@[simp] theorem count_freeCount {cn n k : Nat} : (count s cn n k).freeCount = s.freeCount := (rfl)

@[simp] theorem count64_part {cn : Nat} : (count64 s cn).part = s.part := (rfl)
@[simp] theorem count64_pending {cn : Nat} : (count64 s cn).pending = s.pending := (rfl)
@[simp] theorem count64_power {cn : Nat} : (count64 s cn).power = s.power := (rfl)
@[simp] theorem count64_carrel {cn : Nat} : (count64 s cn).carrel = s.carrel := (rfl)
@[simp] theorem count64_switch {cn : Nat} : (count64 s cn).switch = s.switch := (rfl)
@[simp] theorem count64_host {cn : Nat} : (count64 s cn).host = s.host := (rfl)
@[simp] theorem count64_slips {cn : Nat} : (count64 s cn).slips = s.slips := (rfl)
@[simp] theorem count64_coll {cn : Nat} : (count64 s cn).coll = s.coll := (rfl)
@[simp] theorem count64_ports {cn : Nat} : (count64 s cn).ports = s.ports := (rfl)
@[simp] theorem count64_policers {cn : Nat} : (count64 s cn).policers = s.policers := (rfl)
@[simp] theorem count64_time {cn : Nat} : (count64 s cn).time = s.time := (rfl)
@[simp] theorem count64_observe {cn : Nat} : (count64 s cn).observe = s.observe := (rfl)
@[simp] theorem count64_recovery {cn : Nat} : (count64 s cn).recovery = s.recovery := (rfl)
@[simp] theorem count64_mgmt {cn : Nat} : (count64 s cn).mgmt = s.mgmt := (rfl)
@[simp] theorem count64_log {cn : Nat} : (count64 s cn).log = s.log := (rfl)
@[simp] theorem count64_mirror {cn : Nat} : (count64 s cn).mirror = s.mirror := (rfl)
@[simp] theorem count64_freeCount {cn : Nat} : (count64 s cn).freeCount = s.freeCount := (rfl)

@[simp] theorem count32_part {cn : Nat} : (count32 s cn).part = s.part := (rfl)
@[simp] theorem count32_pending {cn : Nat} : (count32 s cn).pending = s.pending := (rfl)
@[simp] theorem count32_power {cn : Nat} : (count32 s cn).power = s.power := (rfl)
@[simp] theorem count32_carrel {cn : Nat} : (count32 s cn).carrel = s.carrel := (rfl)
@[simp] theorem count32_switch {cn : Nat} : (count32 s cn).switch = s.switch := (rfl)
@[simp] theorem count32_host {cn : Nat} : (count32 s cn).host = s.host := (rfl)
@[simp] theorem count32_slips {cn : Nat} : (count32 s cn).slips = s.slips := (rfl)
@[simp] theorem count32_coll {cn : Nat} : (count32 s cn).coll = s.coll := (rfl)
@[simp] theorem count32_ports {cn : Nat} : (count32 s cn).ports = s.ports := (rfl)
@[simp] theorem count32_policers {cn : Nat} : (count32 s cn).policers = s.policers := (rfl)
@[simp] theorem count32_time {cn : Nat} : (count32 s cn).time = s.time := (rfl)
@[simp] theorem count32_observe {cn : Nat} : (count32 s cn).observe = s.observe := (rfl)
@[simp] theorem count32_recovery {cn : Nat} : (count32 s cn).recovery = s.recovery := (rfl)
@[simp] theorem count32_mgmt {cn : Nat} : (count32 s cn).mgmt = s.mgmt := (rfl)
@[simp] theorem count32_log {cn : Nat} : (count32 s cn).log = s.log := (rfl)
@[simp] theorem count32_mirror {cn : Nat} : (count32 s cn).mirror = s.mirror := (rfl)
@[simp] theorem count32_freeCount {cn : Nat} : (count32 s cn).freeCount = s.freeCount := (rfl)

@[simp] theorem light_part {cn n : Nat} : (light s cn n).part = s.part := (rfl)
@[simp] theorem light_pending {cn n : Nat} : (light s cn n).pending = s.pending := (rfl)
@[simp] theorem light_power {cn n : Nat} : (light s cn n).power = s.power := (rfl)
@[simp] theorem light_carrel {cn n : Nat} : (light s cn n).carrel = s.carrel := (rfl)
@[simp] theorem light_switch {cn n : Nat} : (light s cn n).switch = s.switch := (rfl)
@[simp] theorem light_host {cn n : Nat} : (light s cn n).host = s.host := (rfl)
@[simp] theorem light_slips {cn n : Nat} : (light s cn n).slips = s.slips := (rfl)
@[simp] theorem light_coll {cn n : Nat} : (light s cn n).coll = s.coll := (rfl)
@[simp] theorem light_ports {cn n : Nat} : (light s cn n).ports = s.ports := (rfl)
@[simp] theorem light_policers {cn n : Nat} : (light s cn n).policers = s.policers := (rfl)
@[simp] theorem light_time {cn n : Nat} : (light s cn n).time = s.time := (rfl)
@[simp] theorem light_observe {cn n : Nat} : (light s cn n).observe = s.observe := (rfl)
@[simp] theorem light_recovery {cn n : Nat} : (light s cn n).recovery = s.recovery := (rfl)
@[simp] theorem light_mgmt {cn n : Nat} : (light s cn n).mgmt = s.mgmt := (rfl)
@[simp] theorem light_log {cn n : Nat} : (light s cn n).log = s.log := (rfl)
@[simp] theorem light_mirror {cn n : Nat} : (light s cn n).mirror = s.mirror := (rfl)
@[simp] theorem light_freeCount {cn n : Nat} : (light s cn n).freeCount = s.freeCount := (rfl)

@[simp] theorem setPort_part {p : Nat} {f : Port → Port} : (setPort s p f).part = s.part := (rfl)
@[simp] theorem setPort_pending {p : Nat} {f : Port → Port} : (setPort s p f).pending = s.pending := (rfl)
@[simp] theorem setPort_cat {p : Nat} {f : Port → Port} : (setPort s p f).cat = s.cat := (rfl)
@[simp] theorem setPort_power {p : Nat} {f : Port → Port} : (setPort s p f).power = s.power := (rfl)
@[simp] theorem setPort_carrel {p : Nat} {f : Port → Port} : (setPort s p f).carrel = s.carrel := (rfl)
@[simp] theorem setPort_switch {p : Nat} {f : Port → Port} : (setPort s p f).switch = s.switch := (rfl)
@[simp] theorem setPort_host {p : Nat} {f : Port → Port} : (setPort s p f).host = s.host := (rfl)
@[simp] theorem setPort_slips {p : Nat} {f : Port → Port} : (setPort s p f).slips = s.slips := (rfl)
@[simp] theorem setPort_coll {p : Nat} {f : Port → Port} : (setPort s p f).coll = s.coll := (rfl)
@[simp] theorem setPort_policers {p : Nat} {f : Port → Port} : (setPort s p f).policers = s.policers := (rfl)
@[simp] theorem setPort_time {p : Nat} {f : Port → Port} : (setPort s p f).time = s.time := (rfl)
@[simp] theorem setPort_observe {p : Nat} {f : Port → Port} : (setPort s p f).observe = s.observe := (rfl)
@[simp] theorem setPort_recovery {p : Nat} {f : Port → Port} : (setPort s p f).recovery = s.recovery := (rfl)
@[simp] theorem setPort_mgmt {p : Nat} {f : Port → Port} : (setPort s p f).mgmt = s.mgmt := (rfl)
@[simp] theorem setPort_log {p : Nat} {f : Port → Port} : (setPort s p f).log = s.log := (rfl)
@[simp] theorem setPort_mirror {p : Nat} {f : Port → Port} : (setPort s p f).mirror = s.mirror := (rfl)
@[simp] theorem setPort_freeCount {p : Nat} {f : Port → Port} : (setPort s p f).freeCount = s.freeCount := (rfl)

@[simp] theorem setLane_part {p n : Nat} {f : Lane → Lane} : (setLane s p n f).part = s.part := (rfl)
@[simp] theorem setLane_pending {p n : Nat} {f : Lane → Lane} : (setLane s p n f).pending = s.pending := (rfl)
@[simp] theorem setLane_cat {p n : Nat} {f : Lane → Lane} : (setLane s p n f).cat = s.cat := (rfl)
@[simp] theorem setLane_power {p n : Nat} {f : Lane → Lane} : (setLane s p n f).power = s.power := (rfl)
@[simp] theorem setLane_carrel {p n : Nat} {f : Lane → Lane} : (setLane s p n f).carrel = s.carrel := (rfl)
@[simp] theorem setLane_switch {p n : Nat} {f : Lane → Lane} : (setLane s p n f).switch = s.switch := (rfl)
@[simp] theorem setLane_host {p n : Nat} {f : Lane → Lane} : (setLane s p n f).host = s.host := (rfl)
@[simp] theorem setLane_slips {p n : Nat} {f : Lane → Lane} : (setLane s p n f).slips = s.slips := (rfl)
@[simp] theorem setLane_coll {p n : Nat} {f : Lane → Lane} : (setLane s p n f).coll = s.coll := (rfl)
@[simp] theorem setLane_policers {p n : Nat} {f : Lane → Lane} : (setLane s p n f).policers = s.policers := (rfl)
@[simp] theorem setLane_time {p n : Nat} {f : Lane → Lane} : (setLane s p n f).time = s.time := (rfl)
@[simp] theorem setLane_observe {p n : Nat} {f : Lane → Lane} : (setLane s p n f).observe = s.observe := (rfl)
@[simp] theorem setLane_recovery {p n : Nat} {f : Lane → Lane} : (setLane s p n f).recovery = s.recovery := (rfl)
@[simp] theorem setLane_mgmt {p n : Nat} {f : Lane → Lane} : (setLane s p n f).mgmt = s.mgmt := (rfl)
@[simp] theorem setLane_log {p n : Nat} {f : Lane → Lane} : (setLane s p n f).log = s.log := (rfl)
@[simp] theorem setLane_mirror {p n : Nat} {f : Lane → Lane} : (setLane s p n f).mirror = s.mirror := (rfl)
@[simp] theorem setLane_freeCount {p n : Nat} {f : Lane → Lane} : (setLane s p n f).freeCount = s.freeCount := (rfl)

@[simp] theorem logAccess_part (kind status : Nat) (rq : Requester) (detail : Nat) : (logAccess s kind status rq detail).part = s.part := (rfl)
@[simp] theorem logAccess_pending (kind status : Nat) (rq : Requester) (detail : Nat) : (logAccess s kind status rq detail).pending = s.pending := (rfl)
@[simp] theorem logAccess_cat (kind status : Nat) (rq : Requester) (detail : Nat) : (logAccess s kind status rq detail).cat = s.cat := (rfl)
@[simp] theorem logAccess_power (kind status : Nat) (rq : Requester) (detail : Nat) : (logAccess s kind status rq detail).power = s.power := (rfl)
@[simp] theorem logAccess_carrel (kind status : Nat) (rq : Requester) (detail : Nat) : (logAccess s kind status rq detail).carrel = s.carrel := (rfl)
@[simp] theorem logAccess_switch (kind status : Nat) (rq : Requester) (detail : Nat) : (logAccess s kind status rq detail).switch = s.switch := (rfl)
@[simp] theorem logAccess_host (kind status : Nat) (rq : Requester) (detail : Nat) : (logAccess s kind status rq detail).host = s.host := (rfl)
@[simp] theorem logAccess_slips (kind status : Nat) (rq : Requester) (detail : Nat) : (logAccess s kind status rq detail).slips = s.slips := (rfl)
@[simp] theorem logAccess_coll (kind status : Nat) (rq : Requester) (detail : Nat) : (logAccess s kind status rq detail).coll = s.coll := (rfl)
@[simp] theorem logAccess_ports (kind status : Nat) (rq : Requester) (detail : Nat) : (logAccess s kind status rq detail).ports = s.ports := (rfl)
@[simp] theorem logAccess_policers (kind status : Nat) (rq : Requester) (detail : Nat) : (logAccess s kind status rq detail).policers = s.policers := (rfl)
@[simp] theorem logAccess_time (kind status : Nat) (rq : Requester) (detail : Nat) : (logAccess s kind status rq detail).time = s.time := (rfl)
@[simp] theorem logAccess_observe (kind status : Nat) (rq : Requester) (detail : Nat) : (logAccess s kind status rq detail).observe = s.observe := (rfl)
@[simp] theorem logAccess_recovery (kind status : Nat) (rq : Requester) (detail : Nat) : (logAccess s kind status rq detail).recovery = s.recovery := (rfl)
@[simp] theorem logAccess_mgmt (kind status : Nat) (rq : Requester) (detail : Nat) : (logAccess s kind status rq detail).mgmt = s.mgmt := (rfl)
@[simp] theorem logAccess_mirror (kind status : Nat) (rq : Requester) (detail : Nat) : (logAccess s kind status rq detail).mirror = s.mirror := (rfl)
@[simp] theorem logAccess_freeCount (kind status : Nat) (rq : Requester) (detail : Nat) : (logAccess s kind status rq detail).freeCount = s.freeCount := (rfl)

@[simp] theorem newInvocation_part (cn : Nat) : (newInvocation s cn).part = s.part := (rfl)
@[simp] theorem newInvocation_pending (cn : Nat) : (newInvocation s cn).pending = s.pending := (rfl)
@[simp] theorem newInvocation_cat (cn : Nat) : (newInvocation s cn).cat = s.cat := (rfl)
@[simp] theorem newInvocation_power (cn : Nat) : (newInvocation s cn).power = s.power := (rfl)
@[simp] theorem newInvocation_carrel (cn : Nat) : (newInvocation s cn).carrel = s.carrel := (rfl)
@[simp] theorem newInvocation_switch (cn : Nat) : (newInvocation s cn).switch = s.switch := (rfl)
@[simp] theorem newInvocation_host (cn : Nat) : (newInvocation s cn).host = s.host := (rfl)
@[simp] theorem newInvocation_slips (cn : Nat) : (newInvocation s cn).slips = s.slips := (rfl)
@[simp] theorem newInvocation_coll (cn : Nat) : (newInvocation s cn).coll = s.coll := (rfl)
@[simp] theorem newInvocation_ports (cn : Nat) : (newInvocation s cn).ports = s.ports := (rfl)
@[simp] theorem newInvocation_policers (cn : Nat) : (newInvocation s cn).policers = s.policers := (rfl)
@[simp] theorem newInvocation_time (cn : Nat) : (newInvocation s cn).time = s.time := (rfl)
@[simp] theorem newInvocation_observe (cn : Nat) : (newInvocation s cn).observe = s.observe := (rfl)
@[simp] theorem newInvocation_recovery (cn : Nat) : (newInvocation s cn).recovery = s.recovery := (rfl)
@[simp] theorem newInvocation_log (cn : Nat) : (newInvocation s cn).log = s.log := (rfl)
@[simp] theorem newInvocation_mirror (cn : Nat) : (newInvocation s cn).mirror = s.mirror := (rfl)
@[simp] theorem newInvocation_freeCount (cn : Nat) : (newInvocation s cn).freeCount = s.freeCount := (rfl)
theorem newInvocation_set_mgmt (cn c v : Nat) : (newInvocation (set s c v) cn).mgmt = (newInvocation s cn).mgmt := by
  unfold newInvocation; simp only [set_mgmt]

@[simp] theorem cmdDone_part (cn st r d : Nat) (rq : Requester) :
    (cmdDone s cn st r d rq).part = s.part := by
  unfold cmdDone recordInvoke; split
  · exact (logAccess_part ..).trans ((newInvocation_part ..).trans set_part)
  · exact (newInvocation_part ..).trans set_part
@[simp] theorem cmdDone_pending (cn st r d : Nat) (rq : Requester) :
    (cmdDone s cn st r d rq).pending = s.pending := by
  unfold cmdDone recordInvoke; split
  · exact (logAccess_pending ..).trans ((newInvocation_pending ..).trans set_pending)
  · exact (newInvocation_pending ..).trans set_pending
theorem cmdDone_cat (cn st r d : Nat) (rq : Requester) :
    (cmdDone s cn st r d rq).cat = (set s cn (cmdValue 2 st r)).cat := by
  unfold cmdDone recordInvoke; split
  · exact (logAccess_cat ..).trans (newInvocation_cat ..)
  · exact newInvocation_cat ..
@[simp] theorem cmdDone_power (cn st r d : Nat) (rq : Requester) :
    (cmdDone s cn st r d rq).power = s.power := by
  unfold cmdDone recordInvoke; split
  · exact (logAccess_power ..).trans ((newInvocation_power ..).trans set_power)
  · exact (newInvocation_power ..).trans set_power
@[simp] theorem cmdDone_carrel (cn st r d : Nat) (rq : Requester) :
    (cmdDone s cn st r d rq).carrel = s.carrel := by
  unfold cmdDone recordInvoke; split
  · exact (logAccess_carrel ..).trans ((newInvocation_carrel ..).trans set_carrel)
  · exact (newInvocation_carrel ..).trans set_carrel
@[simp] theorem cmdDone_switch (cn st r d : Nat) (rq : Requester) :
    (cmdDone s cn st r d rq).switch = s.switch := by
  unfold cmdDone recordInvoke; split
  · exact (logAccess_switch ..).trans ((newInvocation_switch ..).trans set_switch)
  · exact (newInvocation_switch ..).trans set_switch
@[simp] theorem cmdDone_host (cn st r d : Nat) (rq : Requester) :
    (cmdDone s cn st r d rq).host = s.host := by
  unfold cmdDone recordInvoke; split
  · exact (logAccess_host ..).trans ((newInvocation_host ..).trans set_host)
  · exact (newInvocation_host ..).trans set_host
@[simp] theorem cmdDone_slips (cn st r d : Nat) (rq : Requester) :
    (cmdDone s cn st r d rq).slips = s.slips := by
  unfold cmdDone recordInvoke; split
  · exact (logAccess_slips ..).trans ((newInvocation_slips ..).trans set_slips)
  · exact (newInvocation_slips ..).trans set_slips
@[simp] theorem cmdDone_coll (cn st r d : Nat) (rq : Requester) :
    (cmdDone s cn st r d rq).coll = s.coll := by
  unfold cmdDone recordInvoke; split
  · exact (logAccess_coll ..).trans ((newInvocation_coll ..).trans set_coll)
  · exact (newInvocation_coll ..).trans set_coll
@[simp] theorem cmdDone_ports (cn st r d : Nat) (rq : Requester) :
    (cmdDone s cn st r d rq).ports = s.ports := by
  unfold cmdDone recordInvoke; split
  · exact (logAccess_ports ..).trans ((newInvocation_ports ..).trans set_ports)
  · exact (newInvocation_ports ..).trans set_ports
@[simp] theorem cmdDone_policers (cn st r d : Nat) (rq : Requester) :
    (cmdDone s cn st r d rq).policers = s.policers := by
  unfold cmdDone recordInvoke; split
  · exact (logAccess_policers ..).trans ((newInvocation_policers ..).trans set_policers)
  · exact (newInvocation_policers ..).trans set_policers
@[simp] theorem cmdDone_time (cn st r d : Nat) (rq : Requester) :
    (cmdDone s cn st r d rq).time = s.time := by
  unfold cmdDone recordInvoke; split
  · exact (logAccess_time ..).trans ((newInvocation_time ..).trans set_time)
  · exact (newInvocation_time ..).trans set_time
@[simp] theorem cmdDone_observe (cn st r d : Nat) (rq : Requester) :
    (cmdDone s cn st r d rq).observe = s.observe := by
  unfold cmdDone recordInvoke; split
  · exact (logAccess_observe ..).trans ((newInvocation_observe ..).trans set_observe)
  · exact (newInvocation_observe ..).trans set_observe
@[simp] theorem cmdDone_recovery (cn st r d : Nat) (rq : Requester) :
    (cmdDone s cn st r d rq).recovery = s.recovery := by
  unfold cmdDone recordInvoke; split
  · exact (logAccess_recovery ..).trans ((newInvocation_recovery ..).trans set_recovery)
  · exact (newInvocation_recovery ..).trans set_recovery
@[simp] theorem cmdDone_mgmt (cn st r d : Nat) (rq : Requester) :
    (cmdDone s cn st r d rq).mgmt = (newInvocation s cn).mgmt := by
  unfold cmdDone recordInvoke; split
  · exact (logAccess_mgmt ..).trans (newInvocation_set_mgmt ..)
  · exact newInvocation_set_mgmt ..
@[simp] theorem cmdDone_mirror (cn st r d : Nat) (rq : Requester) :
    (cmdDone s cn st r d rq).mirror = s.mirror := by
  unfold cmdDone recordInvoke; split
  · exact (logAccess_mirror ..).trans ((newInvocation_mirror ..).trans set_mirror)
  · exact (newInvocation_mirror ..).trans set_mirror
@[simp] theorem cmdDone_freeCount (cn st r d : Nat) (rq : Requester) :
    (cmdDone s cn st r d rq).freeCount = s.freeCount := by
  unfold cmdDone recordInvoke; split
  · exact (logAccess_freeCount ..).trans ((newInvocation_freeCount ..).trans set_freeCount)
  · exact (newInvocation_freeCount ..).trans set_freeCount

@[simp] theorem cmdRuns_part (cn a d : Nat) (rq : Requester) : (cmdRuns s cn a d rq).part = s.part := (rfl)
@[simp] theorem cmdRuns_pending (cn a d : Nat) (rq : Requester) : (cmdRuns s cn a d rq).pending = s.pending := (rfl)
@[simp] theorem cmdRuns_power (cn a d : Nat) (rq : Requester) : (cmdRuns s cn a d rq).power = s.power := (rfl)
@[simp] theorem cmdRuns_carrel (cn a d : Nat) (rq : Requester) : (cmdRuns s cn a d rq).carrel = s.carrel := (rfl)
@[simp] theorem cmdRuns_switch (cn a d : Nat) (rq : Requester) : (cmdRuns s cn a d rq).switch = s.switch := (rfl)
@[simp] theorem cmdRuns_host (cn a d : Nat) (rq : Requester) : (cmdRuns s cn a d rq).host = s.host := (rfl)
@[simp] theorem cmdRuns_slips (cn a d : Nat) (rq : Requester) : (cmdRuns s cn a d rq).slips = s.slips := (rfl)
@[simp] theorem cmdRuns_coll (cn a d : Nat) (rq : Requester) : (cmdRuns s cn a d rq).coll = s.coll := (rfl)
@[simp] theorem cmdRuns_ports (cn a d : Nat) (rq : Requester) : (cmdRuns s cn a d rq).ports = s.ports := (rfl)
@[simp] theorem cmdRuns_policers (cn a d : Nat) (rq : Requester) : (cmdRuns s cn a d rq).policers = s.policers := (rfl)
@[simp] theorem cmdRuns_time (cn a d : Nat) (rq : Requester) : (cmdRuns s cn a d rq).time = s.time := (rfl)
@[simp] theorem cmdRuns_observe (cn a d : Nat) (rq : Requester) : (cmdRuns s cn a d rq).observe = s.observe := (rfl)
@[simp] theorem cmdRuns_recovery (cn a d : Nat) (rq : Requester) : (cmdRuns s cn a d rq).recovery = s.recovery := (rfl)
@[simp] theorem cmdRuns_log (cn a d : Nat) (rq : Requester) : (cmdRuns s cn a d rq).log = s.log := (rfl)
@[simp] theorem cmdRuns_mirror (cn a d : Nat) (rq : Requester) : (cmdRuns s cn a d rq).mirror = s.mirror := (rfl)
@[simp] theorem cmdRuns_freeCount (cn a d : Nat) (rq : Requester) : (cmdRuns s cn a d rq).freeCount = s.freeCount := (rfl)

end Sys2Proof.Machine
end

