-- ==== Sys2Proof/Laws/Tables.lean ====
section
/-! SUPPORT. Sparse tables and the canonical memory: what a read after a write gives, and that every update
keeps the canonical form. -/

namespace Sys2Proof.Machine

variable {α : Type}

/-- Every key of `t` lies above `k`. -/
def Above (k : Nat) (t : Table α) : Prop := ∀ e ∈ t, k < e.1

theorem sortedT_cons (k : Nat) (v : α) (t : Table α) : sortedT ((k, v) :: t) = true ↔ Above k t ∧ sortedT t = true := by
  induction t generalizing k v with
  | nil => simp [sortedT, Above]
  | cons e t ih =>
    obtain ⟨j, w⟩ := e
    constructor
    · intro h
      simp only [sortedT, Bool.and_eq_true, decide_eq_true_eq] at h
      refine ⟨?_, h.2⟩
      intro e he
      rcases List.mem_cons.1 he with rfl | he
      · exact h.1
      · exact h.1.trans (((ih j w).1 h.2).1 e he)
    · intro h
      simp only [sortedT, Bool.and_eq_true, decide_eq_true_eq]
      exact ⟨h.1 (j, w) (by simp), h.2⟩

theorem lookupT_insertT (t : Table α) (k : Nat) (v : α) (j : Nat) :
    lookupT (insertT t k v) j = if j = k then some v else lookupT t j := by
  induction t with
  | nil => simp [insertT, lookupT]
  | cons e t ih =>
    obtain ⟨i, w⟩ := e
    simp only [insertT]
    split
    · simp [lookupT]
    · split
      · subst_vars; by_cases hj : j = i <;> simp [lookupT, hj]
      · by_cases hj : j = i
        · subst hj; simp [lookupT]; intro h; omega
        · simp [lookupT, hj, ih]

theorem lookupT_eraseT (t : Table α) (k j : Nat) :
    lookupT (eraseT t k) j = if j = k then none else lookupT t j := by
  induction t with
  | nil => simp [eraseT, lookupT]
  | cons e t ih =>
    obtain ⟨i, w⟩ := e
    unfold eraseT at ih ⊢
    by_cases hi : i = k
    · subst hi; simp only [List.filter, bne_self_eq_false]; rw [ih]; by_cases hj : j = i <;> simp [lookupT, hj]
    · have hb : (i != k) = true := by simp [hi]
      simp only [List.filter, hb, lookupT, ih]
      by_cases hj : j = i
      · subst hj; simp [hi]
      · simp [hj]

theorem mem_insertT {t : Table α} {k : Nat} {v : α} {e : Nat × α} (h : e ∈ insertT t k v) : e = (k, v) ∨ e ∈ t := by
  induction t with
  | nil => simpa [insertT] using h
  | cons f t ih =>
    obtain ⟨i, w⟩ := f
    simp only [insertT] at h
    split at h
    · simpa using h
    · split at h
      · rcases List.mem_cons.1 h with h | h
        · exact .inl h
        · exact .inr (List.mem_cons_of_mem _ h)
      · rcases List.mem_cons.1 h with h | h
        · exact .inr (by simp [h])
        · rcases ih h with h | h
          · exact .inl h
          · exact .inr (List.mem_cons_of_mem _ h)

theorem insertT_sorted (t : Table α) (k : Nat) (v : α) (h : sortedT t = true) : sortedT (insertT t k v) = true := by
  induction t with
  | nil => simp [insertT, sortedT]
  | cons e t ih =>
    obtain ⟨i, w⟩ := e
    have ⟨ha, hs⟩ := (sortedT_cons i w t).1 h
    simp only [insertT]
    split
    · rename_i hk
      refine (sortedT_cons _ _ _).2 ⟨?_, h⟩
      intro e he
      rcases List.mem_cons.1 he with rfl | he
      · exact hk
      · exact hk.trans (ha e he)
    · split
      · subst_vars; exact (sortedT_cons _ _ _).2 ⟨ha, hs⟩
      · refine (sortedT_cons _ _ _).2 ⟨?_, ih hs⟩
        intro e he
        rcases mem_insertT he with rfl | he
        · show i < k; omega
        · exact ha e he

theorem filter_sorted (t : Table α) (p : Nat × α → Bool) (h : sortedT t = true) : sortedT (t.filter p) = true := by
  induction t with
  | nil => simp [sortedT]
  | cons e t ih =>
    obtain ⟨i, w⟩ := e
    have ⟨ha, hs⟩ := (sortedT_cons i w t).1 h
    simp only [List.filter]
    split
    · exact (sortedT_cons _ _ _).2 ⟨fun e he => ha e (List.mem_filter.1 he).1, ih hs⟩
    · exact ih hs

theorem eraseT_sorted (t : Table α) (k : Nat) (h : sortedT t = true) : sortedT (eraseT t k) = true :=
  filter_sorted t _ h

/-! ### The canonical memory -/

theorem wf_iff (m : List Host.Cell) : Memory.wf m = true ↔ sortedT m = true ∧ ∀ c ∈ m, c.2 ≠ 0 := by
  induction m with
  | nil => simp [Memory.wf, sortedT]
  | cons c m ih =>
    obtain ⟨a, v⟩ := c
    cases m with
    | nil => simp [Memory.wf, sortedT]
    | cons d m =>
      obtain ⟨b, w⟩ := d
      simp only [Memory.wf, sortedT, Bool.and_eq_true, bne_iff_ne, decide_eq_true_eq, ih]
      constructor
      · rintro ⟨⟨hv, hab⟩, hs, hm⟩
        refine ⟨⟨hab, hs⟩, ?_⟩
        intro c hc
        rcases List.mem_cons.1 hc with rfl | hc
        · exact hv
        · exact hm c hc
      · rintro ⟨⟨hab, hs⟩, hm⟩
        exact ⟨⟨hm (a, v) (by simp), hab⟩, hs, fun c hc => hm c (List.mem_cons_of_mem _ hc)⟩

theorem filter_wf (m : List Host.Cell) (p : Host.Cell → Bool) (h : Memory.wf m = true) : Memory.wf (m.filter p) = true := by
  have ⟨hs, hm⟩ := (wf_iff m).1 h
  exact (wf_iff _).2 ⟨filter_sorted m p hs, fun c hc => hm c (List.mem_filter.1 hc).1⟩

theorem writeByte_wf (m : List Host.Cell) (a : Nat) (v : Byte) (h : Memory.wf m = true) :
    Memory.wf (Memory.writeByte m a v) = true := by
  unfold Memory.writeByte
  split
  · exact filter_wf m _ h
  · rename_i hv
    have ⟨hs, hm⟩ := (wf_iff m).1 h
    refine (wf_iff _).2 ⟨insertT_sorted m a v hs, fun c hc => ?_⟩
    rcases mem_insertT hc with rfl | hc
    · exact hv
    · exact hm c hc

theorem write_wf (m : List Host.Cell) (a : Nat) (bs : List Byte) (h : Memory.wf m = true) :
    Memory.wf (Memory.write m a bs) = true := by
  induction bs generalizing m a with
  | nil => exact h
  | cons b bs ih => exact ih _ _ (writeByte_wf m a b h)

/-- A byte reads as it was written, and every other byte as before. -/
theorem readByte_writeByte (m : List Host.Cell) (a : Nat) (v : Byte) (b : Nat) :
    Memory.readByte (Memory.writeByte m a v) b = if b = a then v else Memory.readByte m b := by
  unfold Memory.readByte Memory.writeByte
  split
  · rename_i hv; subst hv; rw [lookupT_eraseT]; by_cases h : b = a <;> simp [h]
  · rw [lookupT_insertT]; by_cases h : b = a <;> simp [h]

/-- Bytes outside a write read as before. -/
theorem readByte_write_outside (m : List Host.Cell) (a : Nat) (bs : List Byte) (b : Nat)
    (h : b < a ∨ a + bs.length ≤ b) : Memory.readByte (Memory.write m a bs) b = Memory.readByte m b := by
  induction bs generalizing m a with
  | nil => rfl
  | cons c bs ih =>
    simp only [List.length_cons] at h
    rw [Memory.write, ih _ _ (by omega), readByte_writeByte, if_neg (by omega)]

/-- A read of what has just been written gives it. -/
theorem read_write (m : List Host.Cell) (a : Nat) (bs : List Byte) :
    Memory.read (Memory.write m a bs) a bs.length = bs := by
  induction bs generalizing m a with
  | nil => rfl
  | cons b bs ih =>
    simp only [List.length_cons, Memory.read, Memory.write]
    rw [ih, readByte_write_outside _ _ _ _ (by omega), readByte_writeByte, if_pos rfl]

end Sys2Proof.Machine
end

