-- ==== Sys2Proof/Laws/Store.lean ====
section
/-! SUPPORT. What a read of the Catalogue store gives after a write, and what a granted access answers. -/

namespace Sys2Proof.Machine

variable {s t u : State}

theorem catKey_inj {c d r q : Nat} (hr : r < 2 ^ 32) (hq : q < 2 ^ 32) : catKey c r = catKey d q ↔ c = d ∧ r = q := by
  unfold catKey; omega

/-- A row reads as it was written, and every other row as before. -/
theorem getRow_setRow (s : State) (c r v d q : Nat) :
    getRow (setRow s c r v) d q = if catKey d q = catKey c r then
      (if v = defaultOf s.part c r then defaultOf s.part d q else v) else getRow s d q := by
  unfold getRow setRow
  split_ifs with hv hk hk
  · simp [lookupT_eraseT, hk]
  · simp [lookupT_eraseT, hk]
  · simp [lookupT_insertT, hk]
  · simp [lookupT_insertT, hk]

@[simp] theorem getRow_setRow_same (s : State) (c r v : Nat) : getRow (setRow s c r v) c r = v := by
  rw [getRow_setRow]; simp only [if_true]; split <;> simp_all

theorem getRow_setRow_ne (s : State) {c r d q : Nat} (v : Nat) (h : catKey d q ≠ catKey c r) :
    getRow (setRow s c r v) d q = getRow s d q := by rw [getRow_setRow, if_neg h]

@[simp] theorem get_set_same (s : State) (c v : Nat) : get (set s c v) c = v := getRow_setRow_same s c 0 v

theorem get_set_ne (s : State) {c d : Nat} (v : Nat) (h : d ≠ c) : get (set s c v) d = get s d :=
  getRow_setRow_ne s v (by unfold catKey; omega)

theorem getRow_set_ne (s : State) {c d q : Nat} (v : Nat) (hq : q < 2 ^ 32) (h : d ≠ c) :
    getRow (set s c v) d q = getRow s d q :=
  getRow_setRow_ne s v (by unfold catKey; omega)

/-- An update of another part of the state leaves the store's reads alone. -/
theorem getRow_congr (hp : t.part = s.part) (hc : t.cat = s.cat) (c r : Nat) : getRow t c r = getRow s c r := by
  unfold getRow; rw [hp, hc]

theorem StoreFrame.refl (cns : List Nat) : StoreFrame s s cns := fun _ _ _ _ => rfl

theorem StoreFrame.trans {cns : List Nat} (h : StoreFrame s t cns) (g : StoreFrame t u cns) : StoreFrame s u cns :=
  fun c r hr hc => (g c r hr hc).trans (h c r hr hc)

theorem StoreFrame.mono {cns dns : List Nat} (h : StoreFrame s t cns) (hs : cns ⊆ dns) : StoreFrame s t dns :=
  fun c r hr hc => h c r hr fun m => hc (hs m)

theorem StoreFrame.of_cat {cns : List Nat} (hp : t.part = s.part) (hc : t.cat = s.cat) : StoreFrame s t cns :=
  fun c r _ _ => getRow_congr hp hc c r

theorem StoreFrame.set {cns : List Nat} (h : StoreFrame s t cns) {c : Nat} (v : Nat) (hc : c ∈ cns) :
    StoreFrame s (Machine.set t c v) cns :=
  fun d r hr hd => (getRow_set_ne t v hr fun e => hd (by rw [e]; exact hc)).trans (h d r hr hd)

theorem StoreFrame.setRow {cns : List Nat} (h : StoreFrame s t cns) {c q : Nat} (v : Nat) (hq : q < 2 ^ 32)
    (hc : c ∈ cns) : StoreFrame s (Machine.setRow t c q v) cns :=
  fun d r hr hd => (getRow_setRow_ne t v fun e => hd (by rw [((catKey_inj hr hq).1 e).1]; exact hc)).trans (h d r hr hd)

end Sys2Proof.Machine
end

