-- ==== Sys2Proof/Laws/Access.lean ====
section
/-! SUPPORT. What a granted access answers: one lemma for an invocation that returns, one for an invocation that
waits, and one for a WRITE. -/

namespace Sys2Proof.Machine

variable {s t : State} {rq : Requester} {cn arg st r : Nat} {xs : List Nat} {op : Op}

/-- The digest of a granted invocation's CONFIG record (R339). -/
def invokeDigest (s : State) (rq : Requester) (cn : Nat) (xs : List Nat) : Nat :=
  digestOf ((invokeItem cn xs).data ++ stagedBytes (renewLease s rq) cn)

theorem invokeItem_cn (cn : Nat) (xs : List Nat) : (invokeItem cn xs).cn = cn := by
  unfold invokeItem Item.cn; simp only []; omega

@[simp] theorem renewLease_cat (s : State) (rq : Requester) : (renewLease s rq).cat = s.cat := by
  unfold renewLease; split <;> rfl

@[simp] theorem renewLease_part (s : State) (rq : Requester) : (renewLease s rq).part = s.part := by
  unfold renewLease; split <;> rfl

@[simp] theorem renewLease_power (s : State) (rq : Requester) : (renewLease s rq).power = s.power := by
  unfold renewLease; split <;> rfl

@[simp] theorem renewLease_log (s : State) (rq : Requester) : (renewLease s rq).log = s.log := by
  unfold renewLease; split <;> rfl

@[simp] theorem renewLease_running (s : State) (rq : Requester) : (renewLease s rq).mgmt.running = s.mgmt.running := by
  unfold renewLease; split <;> rfl

@[simp] theorem invocations_renewLease (s : State) (rq : Requester) : invocations (renewLease s rq) = invocations s := by
  unfold renewLease; split <;> rfl

theorem renewLease_eq (s : State) (rq : Requester) :
    renewLease s rq = { s with mgmt.leaseOver := (renewLease s rq).mgmt.leaseOver } := by
  unfold renewLease; split <;> rfl

@[simp] theorem getRow_renewLease (s : State) (rq : Requester) (c q : Nat) : getRow (renewLease s rq) c q = getRow s c q :=
  getRow_congr (by simp) (by simp) c q

@[simp] theorem get_renewLease (s : State) (rq : Requester) (c : Nat) : get (renewLease s rq) c = get s c :=
  getRow_renewLease s rq c 0

@[simp] theorem stopped_renewLease (s : State) (rq : Requester) : stopped (renewLease s rq) = stopped s := by
  simp [stopped]

theorem passes_ok {r : Except CheckEnd Obj} (h : passes r = true) : ∃ o, r = .ok o := by
  cases r with
  | ok o => exact ⟨o, rfl⟩
  | error e => exact absurd h (by simp [passes])

theorem carryWith_granted (g : Granted s rq cn xs) :
    carryWith s rq (invokeItem cn xs) arg op =
      carryInvoke (renewLease s rq) rq (invokeItem cn xs) arg op := by
  obtain ⟨o, ho⟩ := passes_ok g.checks
  unfold carryWith
  have h2 : (invokeItem cn xs).op = itemInvoke := rfl
  simp only [h2, ho]
  rfl

theorem runCommand_done (g : Granted s rq cn xs) (e : op (renewLease s rq) = (t, .done st r)) :
    runCommand (renewLease s rq) rq cn arg (invokeItem cn xs).data op =
      (cmdDone t cn st r (invokeDigest s rq cn xs) rq, .done st r) := by
  have h1 : commandHalted (renewLease s rq) cn = false := by
    have := g.moves; simpa [commandHalted] using this
  have h2 : ¬ invocations (renewLease s rq) ≥ invocationLimit := by
    have := g.places; simp only [invocations_renewLease]; omega
  unfold runCommand invoke
  rw [if_neg (by simp [h1]), if_neg h2, e]
  rfl

theorem runCommand_waits (g : Granted s rq cn xs) (e : op (renewLease s rq) = (t, .waits)) :
    runCommand (renewLease s rq) rq cn arg (invokeItem cn xs).data op =
      (cmdRuns t cn arg (invokeDigest s rq cn xs) rq, .waits) := by
  have h1 : commandHalted (renewLease s rq) cn = false := by
    have := g.moves; simpa [commandHalted] using this
  have h2 : ¬ invocations (renewLease s rq) ≥ invocationLimit := by
    have := g.places; simp only [invocations_renewLease]; omega
  unfold runCommand invoke
  rw [if_neg (by simp [h1]), if_neg h2, e]
  rfl

theorem logFull_renewLease (s : State) (rq : Requester) (cn : Nat) : logFull (renewLease s rq) cn = logFull s cn := by
  simp [logFull]

theorem accessWith_granted (g : Granted s rq cn xs) :
    commandAccess s rq cn xs arg op =
      accessEnds rq (invokeItem cn xs) (carryInvoke (renewLease s rq) rq (invokeItem cn xs) arg op) := by
  have hs : serves s rq (invokeItem cn xs).cn = true := by rw [invokeItem_cn]; exact g.serves
  have ho : hostRunning s rq (invokeItem cn xs).cn = false := by rw [invokeItem_cn]; exact g.once
  unfold commandAccess accessWith
  rw [if_neg (by simp [hs]), if_neg (by simp [g.behind]), if_neg (by simp [ho]), carryWith_granted g]

/-- A granted invocation whose rule returns OK or OK_EMPTY is answered with the rule's effect, its slot DONE, its
CONFIG record, and one more access carried out. -/
theorem commandAccess_done (g : Granted s rq cn xs) (e : op (renewLease s rq) = (t, .done st r))
    (ok : st = stOk ∨ st = stEmpty) :
    commandAccess s rq cn xs arg op =
      .next (count64 (cmdDone t cn st r (invokeDigest s rq cn xs) rq) 0x1110_03) := by
  have hl : logFull (renewLease s rq) (invokeItem cn xs).cn = false := by
    rw [logFull_renewLease, invokeItem_cn]; exact g.room
  rw [accessWith_granted g]
  unfold carryInvoke
  rw [if_neg (by simp [hl]), invokeItem_cn, runCommand_done g e]
  have hb : (decide (st = stOk) || decide (st = stEmpty)) = true := by simpa using ok
  have hne : st ≠ stRights := by rcases ok with rfl | rfl <;> decide
  simp only [hb, if_true, accessEnds, hostRefused, hne, if_false, decide_false, Bool.and_false, Bool.false_eq_true]

/-- A granted invocation whose rule waits reads RUNNING, and is one of those that run. -/
theorem commandAccess_waits (g : Granted s rq cn xs) (e : op (renewLease s rq) = (t, .waits)) :
    commandAccess s rq cn xs arg op = .next (count64 (cmdRuns t cn arg (invokeDigest s rq cn xs) rq) 0x1110_03) := by
  have hl : logFull (renewLease s rq) (invokeItem cn xs).cn = false := by
    rw [logFull_renewLease, invokeItem_cn]; exact g.room
  rw [accessWith_granted g]
  unfold carryInvoke
  rw [if_neg (by simp [hl]), invokeItem_cn, runCommand_waits g e]
  rfl

/-! ### What the bookkeeping changes -/

theorem State.eq_of {s t : State} (h1 : s.part = t.part) (h2 : s.pending = t.pending) (h3 : s.cat = t.cat)
    (h4 : s.power = t.power) (h5 : s.carrel = t.carrel) (h6 : s.switch = t.switch) (h7 : s.host = t.host)
    (h8 : s.slips = t.slips) (h9 : s.coll = t.coll) (h10 : s.ports = t.ports) (h11 : s.policers = t.policers)
    (h12 : s.time = t.time) (h13 : s.observe = t.observe) (h14 : s.recovery = t.recovery) (h15 : s.mgmt = t.mgmt)
    (h16 : s.log = t.log) (h17 : s.mirror = t.mirror) (h18 : s.freeCount = t.freeCount) : s = t := by
  cases s; cases t; simp_all

theorem getRow_cmdDone (t : State) {cn c q : Nat} (st r d : Nat) (rq : Requester) (hq : q < 2 ^ 32) (h : c ≠ cn) :
    getRow (cmdDone t cn st r d rq) c q = getRow t c q := by
  have hc := cmdDone_cat (s := t) cn st r d rq
  have hp := cmdDone_part (s := t) cn st r d rq
  generalize cmdDone t cn st r d rq = u at *
  generalize cmdValue 2 st r = v at hc
  exact (getRow_congr (hp.trans set_part.symm) hc c q).trans (getRow_set_ne t v hq h)

theorem get_cmdDone (t : State) (cn st r d : Nat) (rq : Requester) :
    get (cmdDone t cn st r d rq) cn = cmdValue 2 st r := by
  have hc := cmdDone_cat (s := t) cn st r d rq
  have hp := cmdDone_part (s := t) cn st r d rq
  generalize cmdDone t cn st r d rq = u at *
  generalize cmdValue 2 st r = v at *
  exact (getRow_congr (hp.trans set_part.symm) hc cn 0).trans (get_set_same t cn v)

theorem logAccess_log (t : State) (k v d : Nat) (rq : Requester) :
    (logAccess t k v rq d).log =
      { t.log with queue := t.log.queue ++ [{ bits := recordBits (now t) 9 k v (Path.code rq.cls) d }] } := rfl

theorem cmdDone_log (t : State) (cn st r d : Nat) (rq : Requester) :
    (cmdDone t cn st r d rq).log = doneLog t cn st d rq := by
  unfold cmdDone recordInvoke doneLog invokeRecorded
  simp only [← Bool.decide_or]
  split
  · rename_i e
    rw [if_pos (by simpa using e), logAccess_log, newInvocation_log, set_log]
    unfold now
    rw [newInvocation_time, set_time]
  · rename_i e; rw [if_neg (by simpa using e), newInvocation_log, set_log]

/-- The state in which a granted invocation has returned. -/
def doneState (s t : State) (rq : Requester) (cn st r : Nat) (xs : List Nat) : State :=
  count64 (cmdDone t cn st r (invokeDigest s rq cn xs) rq) 0x1110_03

@[simp] theorem doneState_part : (doneState s t rq cn st r xs).part = t.part := by
  unfold doneState; rw [count64_part, cmdDone_part]
@[simp] theorem doneState_pending : (doneState s t rq cn st r xs).pending = t.pending := by
  unfold doneState; rw [count64_pending, cmdDone_pending]
@[simp] theorem doneState_power : (doneState s t rq cn st r xs).power = t.power := by
  unfold doneState; rw [count64_power, cmdDone_power]
@[simp] theorem doneState_carrel : (doneState s t rq cn st r xs).carrel = t.carrel := by
  unfold doneState; rw [count64_carrel, cmdDone_carrel]
@[simp] theorem doneState_switch : (doneState s t rq cn st r xs).switch = t.switch := by
  unfold doneState; rw [count64_switch, cmdDone_switch]
@[simp] theorem doneState_host : (doneState s t rq cn st r xs).host = t.host := by
  unfold doneState; rw [count64_host, cmdDone_host]
@[simp] theorem doneState_slips : (doneState s t rq cn st r xs).slips = t.slips := by
  unfold doneState; rw [count64_slips, cmdDone_slips]
@[simp] theorem doneState_coll : (doneState s t rq cn st r xs).coll = t.coll := by
  unfold doneState; rw [count64_coll, cmdDone_coll]
@[simp] theorem doneState_ports : (doneState s t rq cn st r xs).ports = t.ports := by
  unfold doneState; rw [count64_ports, cmdDone_ports]
@[simp] theorem doneState_policers : (doneState s t rq cn st r xs).policers = t.policers := by
  unfold doneState; rw [count64_policers, cmdDone_policers]
@[simp] theorem doneState_time : (doneState s t rq cn st r xs).time = t.time := by
  unfold doneState; rw [count64_time, cmdDone_time]
@[simp] theorem doneState_observe : (doneState s t rq cn st r xs).observe = t.observe := by
  unfold doneState; rw [count64_observe, cmdDone_observe]
@[simp] theorem doneState_recovery : (doneState s t rq cn st r xs).recovery = t.recovery := by
  unfold doneState; rw [count64_recovery, cmdDone_recovery]
@[simp] theorem doneState_mgmt : (doneState s t rq cn st r xs).mgmt = (newInvocation t cn).mgmt := by
  unfold doneState; exact count64_mgmt.trans (cmdDone_mgmt ..)
@[simp] theorem doneState_mirror : (doneState s t rq cn st r xs).mirror = t.mirror := by
  unfold doneState; rw [count64_mirror, cmdDone_mirror]
@[simp] theorem doneState_freeCount : (doneState s t rq cn st r xs).freeCount = t.freeCount := by
  unfold doneState; rw [count64_freeCount, cmdDone_freeCount]

theorem getRow_doneState {c q : Nat} (hq : q < 2 ^ 32) (h : c ≠ cn) (h' : c ≠ 0x1110_03) :
    getRow (doneState s t rq cn st r xs) c q = getRow t c q := by
  unfold doneState count64 count
  rw [getRow_set_ne _ _ hq h', getRow_cmdDone t st r _ rq hq h]

theorem get_doneState (h' : cn ≠ 0x1110_03) : get (doneState s t rq cn st r xs) cn = cmdValue 2 st r := by
  unfold doneState count64 count
  rw [get_set_ne _ _ h', get_cmdDone]

theorem doneState_log : (doneState s t rq cn st r xs).log = doneLog t cn st (invokeDigest s rq cn xs) rq := by
  unfold doneState; rw [count64_log, cmdDone_log]

/-- A rule that leaves the log, the core and all but `touched` of the store as they were gives what `Completed` says. -/
theorem doneState_completed {touched : List Nat} (hn : cn ≠ 0x1110_03) (ht : t.time = s.time)
    (hl : t.log = s.log) (hm : t.mgmt = { s.mgmt with leaseOver := t.mgmt.leaseOver }) (hf : StoreFrame s t touched) :
    Completed s (doneState s t rq cn stOk r xs) rq cn r touched := by
  refine ⟨get_doneState hn, ?_, ?_, invokeDigest s rq cn xs, ?_⟩
  · intro c q hq hc
    simp only [List.mem_cons, not_or] at hc
    rw [getRow_doneState hq hc.1 hc.2.1, hf c q hq hc.2.2]
  · rw [doneState_mgmt]
    unfold newInvocation
    rw [hm]
  · rw [doneState_log]
    have hn : now t = now s := by unfold now; rw [ht]
    unfold doneLog
    rw [hl, hn]

/-! ### A WRITE -/

theorem numLE_bytesLE (n v : Nat) : numLE (bytesLE n v) = v % 256 ^ n := by
  induction n generalizing v with
  | zero => simp [bytesLE, numLE, Nat.mod_one]
  | succ n ih =>
    simp only [bytesLE, numLE, ih, BitVec.toNat_ofNat]
    rw [show 256 ^ (n + 1) = 256 * 256 ^ n by rw [Nat.pow_succ, Nat.mul_comm], Nat.mod_mul]

@[simp] theorem length_bytesLE (n v : Nat) : (bytesLE n v).length = n := by
  induction n generalizing v with
  | zero => rfl
  | succ n ih => simp [bytesLE, ih]

/-- The state in which a granted WRITE has been carried out. -/
def writtenState (s : State) (rq : Requester) (o : Obj) (cn row v : Nat) : State :=
  let t := count64 (writeRows o cn row [v] (renewLease s rq)) 0x1110_03
  if unrecorded cn then t
  else logAccess t 0x10 stOk rq (configDetail cn itemWrite row 0 (digestOf (writeItem s cn row v).data) rq)

theorem writeItem_cn (s : State) (cn row v : Nat) : (writeItem s cn row v).cn = cn := by
  unfold writeItem Item.cn; simp only []; omega

theorem itemValues_write {o : Obj} {row v : Nat} (ho : findObj s.part cn = some o) (hv : v < 2 ^ (8 * valueWidth s cn)) :
    itemValues o (writeItem s cn row v) = [v] := by
  have hw : valueWidth s cn = o.type.bytes := by simp [valueWidth, ho]
  rw [hw] at hv
  have hd : (writeItem s cn row v).data = bytesLE o.type.bytes v := by simp [writeItem, ho]
  have hc : (writeItem s cn row v).countM1 = 0 := rfl
  have h256 : (256 : Nat) ^ o.type.bytes = 2 ^ (8 * o.type.bytes) := by rw [Nat.pow_mul]
  simp only [itemValues, hd, hc, rowValues, List.take_of_length_le, length_bytesLE, le_refl, numLE_bytesLE, h256,
    Nat.mod_eq_of_lt hv]

theorem itemChecks_obj {rq : Requester} {i : Item} {o : Obj} (h : itemChecks s rq i = .ok o) : findObj s.part i.cn = some o := by
  unfold itemChecks at h
  split at h
  · cases h
  · rename_i o' ho'
    rw [ho']
    refine congrArg some ?_
    simp only [] at h
    repeat' (first | injection h | split at h)

/-- A granted WRITE is answered with its row written, what the object's home chapter has follow, its CONFIG record
and one more access carried out. -/
theorem writeAccess_done {row v : Nat} {o : Obj} (g : GrantedWrite s rq cn row v) (ho : findObj s.part cn = some o) :
    writeAccess s rq cn row v = .next (writtenState s rq o cn row v) := by
  have hcn := writeItem_cn s cn row v
  obtain ⟨o', ho'⟩ := passes_ok g.checks
  have hoo : o' = o := by
    have := itemChecks_obj ho'
    rw [renewLease_part, hcn, ho] at this
    exact (Option.some.inj this).symm
  subst hoo
  have hv := itemValues_write ho (row := row) g.fits
  have hop : (writeItem s cn row v).op = itemWrite := rfl
  have hrow : (writeItem s cn row v).row = row := rfl
  have hcount : (writeItem s cn row v).countM1 = 0 := rfl
  have hl : logFull (renewLease s rq) cn = false := by rw [logFull_renewLease]; exact g.room
  have hm : (stopped (renewLease s rq) && haltedObject cn) = false := by rw [stopped_renewLease]; exact g.moves
  have key : carryWith s rq (writeItem s cn row v) 0 (fun s => (s, .done stUnsupported 0)) =
      (writtenState s rq o' cn row v, .done stOk []) := by
    unfold carryWith
    simp only [ho', hop]
    rw [if_neg (by decide), if_neg (by decide), if_pos trivial]
    unfold carryWrite
    simp only [hcn, hv, hrow, hcount, List.filterMap_cons, List.filterMap_nil, g.home]
    rw [if_neg (by rw [hm]; exact Bool.false_ne_true), if_neg (by simp [hl]), if_neg g.plain.1, if_neg g.plain.2]
    rfl
  unfold writeAccess accessWith
  rw [hcn, if_neg (by simp [g.serves]), if_neg (by simp [g.behind]),
    if_neg (by rw [hop]; simp [itemWrite, itemInvoke]), key]
  simp [accessEnds, hostRefused, stOk, stRights]

end Sys2Proof.Machine
end

