-- ==== Sys2Proof/Laws/Kept.lean ====
section
/-! SUPPORT. What every operation keeps: the part and the queue `a`, and soundness. One lemma for each
operation follows, in the files Kept<Module>. -/

namespace Sys2Proof.Machine

/-- What is kept: the part, the queue, and a bound on the running invocations. -/
structure Keep where
  part : Part
  pending : List Instr
  most : Nat

/-- The part and the queue are those of `a`, at most `a.most` invocations run, and the state is sound in
everything else. -/
structure Kept (a : Keep) (s : State) : Prop where
  part : s.part = a.part
  pending : s.pending = a.pending
  carrel : Memory.wf s.carrel.mem = true
  store : sortedT s.cat = true
  running : s.mgmt.running.length ≤ a.most
  ports : s.ports.length = 8

/-- The memory is canonical; `_a` names what the surrounding claim is about. -/
def KeptMem (_a : Keep) (m : List Host.Cell) : Prop := Memory.wf m = true

def KeptRunning (a : Keep) (v : List Invocation) : Prop := v.length ≤ a.most

def KeptPorts (_a : Keep) (v : List Port) : Prop := v.length = 8

def KeptCat (_a : Keep) (v : Table Nat) : Prop := sortedT v = true

/-- The bound is that of R260. -/
def Keep.full (a : Keep) : Keep := { a with most := invocationLimit }

variable {a : Keep} {s x : State}

theorem kept_sub (h : Kept a x) :
    KeptMem a x.carrel.mem ∧ KeptRunning a x.mgmt.running ∧ KeptPorts a x.ports ∧ KeptCat a x.cat :=
  ⟨h.carrel, h.running, h.ports, h.store⟩

@[simp] theorem kept_mem (h : Kept a x) : KeptMem a x.carrel.mem := h.carrel
@[simp] theorem kept_running (h : Kept a x) : KeptRunning a x.mgmt.running := h.running
@[simp] theorem kept_ports (h : Kept a x) : KeptPorts a x.ports := h.ports
@[simp] theorem kept_cat (h : Kept a x) : KeptCat a x.cat := h.store

/-- A record update keeps what it keeps of the four fields that matter. -/
@[simp] theorem kept_mk {ct pw ca sw ho sl co po pl ti ob re mg lo mi fc} (h : Kept a x) :
    Kept a (State.mk x.part x.pending ct pw ca sw ho sl co po pl ti ob re mg lo mi fc) ↔
      KeptCat a ct ∧ KeptMem a ca.mem ∧ KeptRunning a mg.running ∧ KeptPorts a po :=
  ⟨fun g => ⟨kept_cat g, kept_mem g, kept_running g, kept_ports g⟩,
    fun g => ⟨h.part, h.pending, g.2.1, g.1, g.2.2.1, g.2.2.2⟩⟩

theorem Kept.sound (h : Kept a.full s) : Sound s := ⟨h.carrel, h.store, h.running, h.ports⟩

/-- A tighter bound implies a looser one. -/
theorem Kept.mono {b : Keep} (h : Kept b s) (hp : b.part = a.part) (hq : b.pending = a.pending) (hm : b.most ≤ a.most) :
    Kept a s := ⟨h.part.trans hp, h.pending.trans hq, h.carrel, h.store, le_trans h.running hm, h.ports⟩

@[simp] theorem keptPorts_map {v : List Port} {f : Port → Port} (h : KeptPorts a v) : KeptPorts a (v.map f) := by
  simpa [KeptPorts] using h

theorem length_modifyNth {α : Type} (f : α → α) (n : Nat) (v : List α) : (modifyNth f n v).length = v.length := by
  induction v generalizing n with
  | nil => cases n <;> rfl
  | cons y v ih => cases n <;> simp [modifyNth, ih]

@[simp] theorem keptPorts_modify {v : List Port} {f : Port → Port} {n : Nat} (h : KeptPorts a v) :
    KeptPorts a (modifyNth f n v) := by
  simpa [KeptPorts, length_modifyNth] using h

@[simp] theorem keptPorts_reset : KeptPorts a (List.replicate 8 Port.reset) := rfl

@[simp] theorem keptMem_write {m : List Host.Cell} {k : Nat} {bs : List Byte} (h : KeptMem a m) :
    KeptMem a (Memory.write m k bs) := write_wf m k bs h

@[simp] theorem keptMem_filter {m : List Host.Cell} {p : Host.Cell → Bool} (h : KeptMem a m) : KeptMem a (m.filter p) :=
  filter_wf m p h

@[simp] theorem keptMem_nil : KeptMem a [] := rfl

@[simp] theorem keptCat_filter {t : Table Nat} {p : Nat × Nat → Bool} (h : KeptCat a t) : KeptCat a (t.filter p) :=
  filter_sorted t p h

@[simp] theorem keptCat_insert {t : Table Nat} {k v : Nat} (h : KeptCat a t) : KeptCat a (insertT t k v) :=
  insertT_sorted t k v h

@[simp] theorem keptCat_erase {t : Table Nat} {k : Nat} (h : KeptCat a t) : KeptCat a (eraseT t k) := eraseT_sorted t k h

@[simp] theorem keptCat_nil : KeptCat a [] := rfl

@[simp] theorem keptRunning_erase {v : List Invocation} {i : Invocation} (h : KeptRunning a v) : KeptRunning a (v.erase i) :=
  le_trans List.length_erase_le h

@[simp] theorem keptRunning_filter {v : List Invocation} {p : Invocation → Bool} (h : KeptRunning a v) :
    KeptRunning a (v.filter p) := le_trans (List.length_filter_le _ _) h

@[simp] theorem keptRunning_modify {v : List Invocation} {f : Invocation → Invocation} {n : Nat} (h : KeptRunning a v) :
    KeptRunning a (modifyNth f n v) := by simpa [KeptRunning, length_modifyNth] using h

@[simp] theorem keptRunning_map {v : List Invocation} {f : Invocation → Invocation} (h : KeptRunning a v) :
    KeptRunning a (v.map f) := by simpa [KeptRunning] using h

@[simp] theorem keptRunning_nil : KeptRunning a [] := Nat.zero_le _

@[simp] theorem kept_ite {c : Prop} [Decidable c] {t u : State} (ht : c → Kept a t) (hu : ¬c → Kept a u) :
    Kept a (if c then t else u) := by split <;> simp_all

@[simp] theorem kept_foldl {α : Type} {f : State → α → State} {xs : List α} (h : Kept a s)
    (hf : ∀ t y, Kept a t → Kept a (f t y)) : Kept a (xs.foldl f s) := by
  induction xs generalizing s with
  | nil => exact h
  | cons y xs ih => exact ih (hf s y h)

@[simp] theorem forEach_kept {α : Type} {f : State → α → State} {xs : List α} (hf : ∀ t y, Kept a t → Kept a (f t y))
    (h : Kept a s) : Kept a (forEach xs f s) := kept_foldl h hf

/-- A step that goes on keeps `a` and soundness. -/
def KeptOut (a : Keep) (o : Out) : Prop := ∀ t, o = .next t → Kept a t

@[simp] theorem keptOut_next (h : Kept a x) : KeptOut a (.next x) := fun t e => by cases e; exact h

@[simp] theorem keptOut_fault {f : Fault} : KeptOut a (.fault f) := fun t e => by cases e

@[simp] theorem keptOut_refused {r : Refusal} : KeptOut a (.refused r) := fun t e => by cases e

/-! ### Results that hold a state -/

/-- Both ways a check ends keep `a`. -/
def KeptVerdict (a : Keep) (v : Verdict) : Prop :=
  match v with
  | .stop t => Kept a t
  | .go t => Kept a t

@[simp] theorem keptVerdict_stop {t : State} : KeptVerdict a (.stop t) ↔ Kept a t := Iff.rfl

@[simp] theorem keptVerdict_go {t : State} : KeptVerdict a (.go t) ↔ Kept a t := Iff.rfl

/-- However a packet is sent, `a` is kept. -/
def KeptSent (a : Keep) (v : Sent) : Prop :=
  match v with
  | .queued t => Kept a t
  | .unreachable t => Kept a t
  | .flushed t => Kept a t

@[simp] theorem keptSent_queued {t : State} : KeptSent a (.queued t) ↔ Kept a t := Iff.rfl

@[simp] theorem keptSent_unreachable {t : State} : KeptSent a (.unreachable t) ↔ Kept a t := Iff.rfl

@[simp] theorem keptSent_flushed {t : State} : KeptSent a (.flushed t) ↔ Kept a t := Iff.rfl

/-- Whatever becomes of a piece, `a` is kept. -/
def KeptFate (a : Keep) (v : Piece.Fate) : Prop :=
  match v with
  | .enters t => Kept a t
  | .waits t _ _ => Kept a t

@[simp] theorem keptFate_enters {t : State} : KeptFate a (.enters t) ↔ Kept a t := Iff.rfl

@[simp] theorem keptFate_waits {t : State} {n : Nat} {b : Bool} : KeptFate a (.waits t n b) ↔ Kept a t := Iff.rfl

/-- A state that is there keeps `a`. -/
def KeptOpt (a : Keep) (v : Option State) : Prop :=
  match v with
  | none => True
  | some t => Kept a t

@[simp] theorem keptOpt_none : KeptOpt a none ↔ True := Iff.rfl

@[simp] theorem keptOpt_some {t : State} : KeptOpt a (some t) ↔ Kept a t := Iff.rfl

@[simp] theorem keptSent_ite {c : Prop} [Decidable c] {t u : Sent} (ht : c → KeptSent a t) (hu : ¬c → KeptSent a u) :
    KeptSent a (if c then t else u) := by split <;> simp_all

@[simp] theorem keptVerdict_ite {c : Prop} [Decidable c] {t u : Verdict} (ht : c → KeptVerdict a t) (hu : ¬c → KeptVerdict a u) :
    KeptVerdict a (if c then t else u) := by split <;> simp_all

@[simp] theorem sentState_kept {r : Sent} (h : KeptSent a r) : Kept a r.state := by cases r <;> exact h

theorem keptSent_of_queued {v : Sent} {t : State} (hv : KeptSent a v) (e : v = .queued t) : Kept a t := by subst e; exact hv

theorem keptSent_of_unreachable {v : Sent} {t : State} (hv : KeptSent a v) (e : v = .unreachable t) : Kept a t := by subst e; exact hv

theorem keptSent_of_flushed {v : Sent} {t : State} (hv : KeptSent a v) (e : v = .flushed t) : Kept a t := by subst e; exact hv

theorem keptVerdict_of_stop {v : Verdict} {t : State} (hv : KeptVerdict a v) (e : v = .stop t) : Kept a t := by subst e; exact hv

theorem keptVerdict_of_go {v : Verdict} {t : State} (hv : KeptVerdict a v) (e : v = .go t) : Kept a t := by subst e; exact hv

theorem keptFate_of_enters {v : Piece.Fate} {t : State} (hv : KeptFate a v) (e : v = .enters t) : Kept a t := by subst e; exact hv

theorem keptFate_of_waits {v : Piece.Fate} {t : State} {n : Nat} {b : Bool} (hv : KeptFate a v) (e : v = .waits t n b) : Kept a t := by subst e; exact hv

theorem keptOpt_of_some {v : Option State} {t : State} (hv : KeptOpt a v) (e : v = some t) : Kept a t := by subst e; exact hv

theorem keptSome_of_eq {β γ : Type} {v : Option (β × γ × State)} {t : State} {b : β} {c : γ} (hv : ∀ x, v = some x → Kept a x.2.2)
    (e : v = some (b, c, t)) : Kept a t := hv _ e

theorem kept_of_fst {β : Type} {v : State × β} {t : State} {b : β} (hv : Kept a v.1) (e : v = (t, b)) : Kept a t := by subst e; exact hv

theorem kept_of_snd {β : Type} {v : β × State} {t : State} {b : β} (hv : Kept a v.2) (e : v = (b, t)) : Kept a t := by subst e; exact hv

theorem keptOut_of_next {v : Out} {t : State} (hv : KeptOut a v) (e : v = .next t) : Kept a t := hv t e

end Sys2Proof.Machine
end

