-- ==== Sys2Proof/Laws/KeptFabric.lean ====
section
/-! SUPPORT. What is kept (Laws/Kept) by the operations of the store, egress, reports and windows: one lemma for each. -/

namespace Sys2Proof.Machine

variable {a : Keep}

set_option linter.all false
set_option exponentiation.threshold 1000

/-! ### Ops -/

@[simp] theorem setPort_kept {s : State} {x1 : Nat} {x2 : Port → Port} (h : Kept a s) : Kept a (setPort s x1 x2) := by simp [setPort, h]

@[simp] theorem setLane_kept {s : State} {x1 : Nat} {x2 : Nat} {x3 : Lane → Lane} (h : Kept a s) : Kept a (setLane s x1 x2 x3) := by simp [setLane, h]

@[simp] theorem draw_kept {s : State} (h : Kept a s) : Kept a (draw s).2 := by simp [draw, h]

/-! ### Objects -/

@[simp] theorem setRow_kept {s : State} {x1 : Nat} {x2 : Nat} {x3 : Nat} (h : Kept a s) : Kept a (setRow s x1 x2 x3) := by
  unfold setRow
  (repeat' split) <;> simp +contextual (maxDischargeDepth := 40) [h]

@[simp] theorem set_kept {s : State} {x1 : Nat} {x2 : Nat} (h : Kept a s) : Kept a (set s x1 x2) := by simp [set, h]

@[simp] theorem setF_kept {s : State} {x1 : Nat} {x2 : Nat} {x3 : Nat} {x4 : Nat} {x5 : Nat} (h : Kept a s) : Kept a (setF s x1 x2 x3 x4 x5) := by simp [setF, h]

@[simp] theorem count_kept {s : State} {x1 : Nat} {x2 : Nat} {x3 : Nat} (h : Kept a s) : Kept a (count s x1 x2 x3) := by simp [count, h]

@[simp] theorem count64_kept {s : State} {x1 : Nat} (h : Kept a s) : Kept a (count64 s x1) := by simp [count64, h]

@[simp] theorem count32_kept {s : State} {x1 : Nat} (h : Kept a s) : Kept a (count32 s x1) := by simp [count32, h]

@[simp] theorem light_kept {s : State} {x1 : Nat} {x2 : Nat} (h : Kept a s) : Kept a (light s x1 x2) := by simp [light, h]

/-! ### Operands -/

@[simp] theorem holdInForce_kept {s : State} {x1 : Nat} (h : Kept a s) : Kept a (holdInForce s x1) := by simp [holdInForce, h]

/-! ### Flags -/

@[simp] theorem freeStatus_kept {s : State} (h : Kept a s) : Kept a (freeStatus s).2 := by simp [freeStatus, h]

@[simp] theorem freeBytes_kept {s : State} {x1 : Nat} (h : Kept a s) : Kept a (freeBytes s x1).2 := by simp [freeBytes, h]

@[simp] theorem freeValue_kept {s : State} {x1 : Nat} (h : Kept a s) : Kept a (freeValue s x1).2 := by simp [freeValue, h]

@[simp] theorem logEvent_kept {s : State} {x1 : Nat} {x2 : Nat} {x3 : Nat} {x4 : Nat} (h : Kept a s) : Kept a (logEvent s x1 x2 x3 x4) := by
  unfold logEvent; simp +contextual (maxDischargeDepth := 40) [h]

@[simp] theorem logRequested_kept {s : State} {x1 : Nat} {x2 : Nat} {x3 : Requester} {x4 : Nat} (h : Kept a s) : Kept a (logRequested s x1 x2 x3 x4) := by
  unfold logRequested; simp +contextual (maxDischargeDepth := 40) [h]

@[simp] theorem logAccess_kept {s : State} {x1 : Nat} {x2 : Nat} {x3 : Requester} {x4 : Nat} (h : Kept a s) : Kept a (logAccess s x1 x2 x3 x4) := by simp [logAccess, h]

@[simp] theorem updClient_kept {s : State} {x1 : Requester} {x2 : Client → Client} (h : Kept a s) : Kept a (updClient s x1 x2) := by simp [updClient, h]

@[simp] theorem closeRecord_kept {s : State} {x1 : MsgRun} (h : Kept a s) : Kept a (closeRecord s x1) := by simp [closeRecord, h]

@[simp] theorem writeError_kept {s : State} {x1 : Nat} {x2 : Nat} (h : Kept a s) : Kept a (writeError s x1 x2) := by
  unfold writeError; simp +contextual (maxDischargeDepth := 40) [h]

@[simp] theorem faultAttention_kept {s : State} {x1 : Nat} (h : Kept a s) : Kept a (faultAttention s x1) := by simp [faultAttention, h]

@[simp] theorem odc_kept {s : State} {x1 : Nat} {x2 : Option Nat} {x3 : Option Packet} {x4 : Nat} (h : Kept a s) : Kept a (odc s x1 x2 x3 x4) := by
  unfold odc; simp +contextual (maxDischargeDepth := 40) [h]

@[simp] theorem recordInvoke_kept {s : State} {x1 : Nat} {x2 : Nat} {x3 : Nat} {x4 : Requester} (h : Kept a s) : Kept a (recordInvoke s x1 x2 x3 x4) := by simp [recordInvoke, h]

@[simp] theorem newInvocation_kept {s : State} {x1 : Nat} (h : Kept a s) : Kept a (newInvocation s x1) := by simp [newInvocation, h]

@[simp] theorem cmdDone_kept {s : State} {x1 : Nat} {x2 : Nat} {x3 : Nat} {x4 : Nat} {x5 : Requester} (h : Kept a s) : Kept a (cmdDone s x1 x2 x3 x4 x5) := by
  unfold cmdDone; simp +contextual (maxDischargeDepth := 40) [h]

theorem cmdRuns_kept {s : State} {cn arg digest : Nat} {rq : Requester} (h : Kept a s) (hr : s.mgmt.running.length < a.most) :
    Kept a (cmdRuns s cn arg digest rq) := by
  have hs : Kept a (newInvocation (set s cn (cmdValue 1 0 0)) cn) := newInvocation_kept (set_kept h)
  have e : (newInvocation (set s cn (cmdValue 1 0 0)) cn).mgmt.running.length = s.mgmt.running.length := List.length_map ..
  unfold cmdRuns
  refine (kept_mk hs).2 ⟨kept_cat hs, kept_mem hs, ?_, kept_ports hs⟩
  simp only [KeptRunning, List.length_append, e, List.length_cons, List.length_nil]; omega

theorem invoke_kept {cn arg digest : Nat} {rq : Requester} {op : State → State × CmdOut} {s : State} (h : Kept a.full s)
    (ho : ∀ b, Kept b s → Kept b (op s).1) : Kept a.full (invoke cn arg digest rq op s).1 := by
  unfold invoke
  split
  · exact (cmdDone_kept h : Kept a.full (cmdDone s cn stBusy 0 digest rq))
  · rename_i hn
    have hb := ho { a with most := s.mgmt.running.length } ⟨h.part, h.pending, h.carrel, h.store, le_refl _, h.ports⟩
    have hl : s.mgmt.running.length < invocationLimit :=
      lt_of_le_of_lt (Nat.le_add_right _ _) (Nat.lt_of_not_le hn)
    simp only []
    split
    · exact cmdDone_kept (ho _ h)
    · exact cmdRuns_kept (ho _ h) (lt_of_le_of_lt hb.running hl)

@[simp] theorem returnInvocation_kept {s : State} {x1 : Invocation} {x2 : Nat} {x3 : Nat} (h : Kept a s) : Kept a (returnInvocation s x1 x2 x3) := by
  unfold returnInvocation; simp +contextual (maxDischargeDepth := 40) [h]

@[simp] theorem endInvocation_kept {s : State} {x1 : Nat} {x2 : Nat} {x3 : Nat} {x4 : Nat} (h : Kept a s) : Kept a (endInvocation s x1 x2 x3 x4) := by
  unfold endInvocation
  (repeat' split) <;> simp +contextual (maxDischargeDepth := 40) [h]

@[simp] theorem returnEnded_kept {s : State} (h : Kept a s) : Kept a (returnEnded s) := by
  unfold returnEnded
  (repeat' split) <;> simp +contextual (maxDischargeDepth := 40) [h]

/-! ### Egress -/

@[simp] theorem setQueueTokens_kept {s : State} {x1 : Nat} {x2 : Nat} {x3 : ℤ} (h : Kept a s) : Kept a (setQueueTokens s x1 x2 x3) := by simp [setQueueTokens, h]

@[simp] theorem setLoanBucket_kept {s : State} {x1 : Nat} {x2 : Nat} {x3 : Bucket} (h : Kept a s) : Kept a (setLoanBucket s x1 x2 x3) := by simp [setLoanBucket, h]

@[simp] theorem chargeLoan_kept {s : State} {x1 : Nat} {x2 : Nat} {x3 : Nat} (h : Kept a s) : Kept a (chargeLoan s x1 x2 x3) := by simp [chargeLoan, h]

@[simp] theorem police_kept {s : State} {x1 : Nat} {x2 : Packet} (h : Kept a s) : Kept a (police s x1 x2).2 := by
  unfold police
  (try simp only []) <;> (repeat' split) <;> simp +contextual (maxDischargeDepth := 40) [*]

@[simp] theorem policeOrigin_kept {s : State} {x1 : Packet} (h : Kept a s) : Kept a (policeOrigin s x1).2 := by
  unfold policeOrigin
  (repeat' split) <;> simp +contextual (maxDischargeDepth := 40) [h]

@[simp] theorem reviewXoff_kept {s : State} {x1 : Nat} (h : Kept a s) : Kept a (reviewXoff s x1) := by simp [reviewXoff, h]

@[simp] theorem freeRx_kept {s : State} {x1 : Option RxPlace} (h : Kept a s) : Kept a (freeRx s x1) := by
  unfold freeRx
  (repeat' split) <;> simp +contextual (maxDischargeDepth := 40) [h]

@[simp] theorem setQueue_kept {s : State} {x1 : Nat} {x2 : Nat} {x3 : List Desc} (h : Kept a s) : Kept a (setQueue s x1 x2 x3) := by simp [setQueue, h]

@[simp] theorem joinQueue_kept {s : State} {x1 : Nat} {x2 : Packet} {x3 : Nat} {x4 : Option Nat} {x5 : Option RxPlace} (h : Kept a s) : Kept a (joinQueue s x1 x2 x3 x4 x5) := by simp [joinQueue, h]

@[simp] theorem sendAt_kept {s : State} {x1 : Nat} {x2 : Packet} {x3 : Option Nat} (h : Kept a s) : KeptSent a (sendAt s x1 x2 x3) := by
  unfold sendAt; simp +contextual (maxDischargeDepth := 40) [h]

@[simp] theorem countHopDiscard_kept {s : State} {x1 : Nat} (h : Kept a s) : Kept a (countHopDiscard s x1) := by simp [countHopDiscard, h]

@[simp] theorem loanForward_kept {s : State} {x1 : Nat} {x2 : Packet} {x3 : Nat} {x4 : Option RxPlace} (h : Kept a s) : Kept a (loanForward s x1 x2 x3 x4) := by
  unfold loanForward; simp +contextual (maxDischargeDepth := 40) [h]

@[simp] theorem sendPacket_kept {s : State} {x1 : Packet} {x2 : Option Nat} (h : Kept a s) : KeptSent a (sendPacket s x1 x2) := by
  unfold sendPacket
  (try simp only []) <;> (repeat' split) <;> simp +contextual (maxDischargeDepth := 40) [*]

/-! ### Reports -/

@[simp] theorem sendShelf_kept {s : State} {x1 : Nat} {x2 : Nat} {x3 : List Byte} (h : Kept a s) : Kept a (sendShelf s x1 x2 x3) := by simp [sendShelf, h]

@[simp] theorem sendReport_kept {s : State} {x1 : Nat} (h : Kept a s) : Kept a (sendReport s x1).1 := by
  unfold sendReport
  (try simp only []) <;> repeat' first
    | (simp +contextual (maxDischargeDepth := 40) [*]; done)
    | (rename_i e; have he := keptSent_of_queued (a := a) (hv := by clear e; simp +contextual (maxDischargeDepth := 40) [*]) e; clear e)
    | (rename_i e; have he := keptSent_of_unreachable (a := a) (hv := by clear e; simp +contextual (maxDischargeDepth := 40) [*]) e; clear e)
    | (rename_i e; have he := keptSent_of_flushed (a := a) (hv := by clear e; simp +contextual (maxDischargeDepth := 40) [*]) e; clear e)
    | split

@[simp] theorem reportInstall_kept {s : State} {x1 : Nat} {x2 : Nat} {x3 : Nat} {x4 : Nat} {x5 : Nat} {x6 : Nat} {x7 : Nat} {x8 : Nat} (h : Kept a s) : Kept a (reportInstall s x1 x2 x3 x4 x5 x6 x7 x8).1 := by
  unfold reportInstall; simp +contextual (maxDischargeDepth := 40) [h]

@[simp] theorem reportRepeats_kept {s : State} {x1 : Nat} (h : Kept a s) : Kept a (reportRepeats s x1) := by simp [reportRepeats, h]

@[simp] theorem suppressReport_kept {s : State} (h : Kept a s) : Kept a (suppressReport s) := by simp [suppressReport, h]

@[simp] theorem reportOnce_kept {s : State} {x1 : Nat} {x2 : Nat} {x3 : Nat} {x4 : Nat} {x5 : Nat} (h : Kept a s) : Kept a (reportOnce s x1 x2 x3 x4 x5).1 := by
  unfold reportOnce
  (try simp only []) <;> (repeat' split) <;> simp +contextual (maxDischargeDepth := 40) [*]

@[simp] theorem report_kept {s : State} {x1 : Nat} {x2 : Nat} {x3 : Nat} {x4 : Nat} {x5 : Nat} (h : Kept a s) : Kept a (report s x1 x2 x3 x4 x5) := by
  unfold report; simp +contextual (maxDischargeDepth := 40) [h]

@[simp] theorem reportOwn_kept {s : State} {x1 : Nat} {x2 : Nat} {x3 : Nat} (h : Kept a s) : Kept a (reportOwn s x1 x2 x3) := by simp [reportOwn, h]

@[simp] theorem reportPartner_kept {s : State} {x1 : Nat} {x2 : Nat} {x3 : Nat} (h : Kept a s) : Kept a (reportPartner s x1 x2 x3) := by simp [reportPartner, h]

@[simp] theorem unreachable_kept {s : State} {x1 : Nat} (h : Kept a s) : Kept a (unreachable s x1) := by
  unfold unreachable; simp +contextual (maxDischargeDepth := 40) [h]

@[simp] theorem reportFreeRow_kept {s : State} {x1 : Nat} (h : Kept a s) : Kept a (reportFreeRow s x1) := by
  unfold reportFreeRow; simp +contextual (maxDischargeDepth := 40) [h]

@[simp] theorem reportFreeByEdition_kept {s : State} {x1 : Nat} {x2 : Nat} (h : Kept a s) : Kept a (reportFreeByEdition s x1 x2) := by
  unfold reportFreeByEdition; simp +contextual (maxDischargeDepth := 40) [h]

@[simp] theorem exceptionKnown_kept {s : State} {x1 : Nat} {x2 : Nat} (h : Kept a s) : Kept a (exceptionKnown s x1 x2) := by simp [exceptionKnown, h]

@[simp] theorem reportPending_kept {s : State} (h : Kept a s) : Kept a (reportPending s) := by
  unfold reportPending; simp +contextual (maxDischargeDepth := 40) [h]

@[simp] theorem reportAck_kept {s : State} {x1 : Nat} (h : Kept a s) : Kept a (reportAck s x1) := by
  unfold reportAck
  (repeat' split) <;> simp +contextual (maxDischargeDepth := 40) [h]

@[simp] theorem send_kept {s : State} {x1 : Packet} {x2 : Option Nat} (h : Kept a s) : KeptSent a (send s x1 x2) := by
  unfold send
  (try simp only []) <;> repeat' first
    | (simp +contextual (maxDischargeDepth := 40) [*]; done)
    | (rename_i e; have he := keptSent_of_queued (a := a) (hv := by clear e; simp +contextual (maxDischargeDepth := 40) [*]) e; clear e)
    | (rename_i e; have he := keptSent_of_unreachable (a := a) (hv := by clear e; simp +contextual (maxDischargeDepth := 40) [*]) e; clear e)
    | (rename_i e; have he := keptSent_of_flushed (a := a) (hv := by clear e; simp +contextual (maxDischargeDepth := 40) [*]) e; clear e)
    | split

@[simp] theorem sendLoose_kept {s : State} {x1 : Packet} (h : Kept a s) : Kept a (sendLoose s x1) := by simp [sendLoose, h]

@[simp] theorem sendBack_kept {s : State} {x1 : Nat} {x2 : Packet} (h : Kept a s) : Kept a (sendBack s x1 x2) := by
  unfold sendBack; simp +contextual (maxDischargeDepth := 40) [h]

@[simp] theorem sendResponse_kept {s : State} {x1 : Nat} {x2 : Packet} (h : Kept a s) : Kept a (sendResponse s x1 x2) := by simp [sendResponse, h]

@[simp] theorem dropFormed_kept {s : State} (h : Kept a s) : Kept a (dropFormed s) := by simp [dropFormed, h]

@[simp] theorem triggerStop_kept {s : State} {x1 : Nat} {x2 : Nat} (h : Kept a s) : Kept a (triggerStop s x1 x2) := by
  unfold triggerStop; simp +contextual (maxDischargeDepth := 40) [h]

@[simp] theorem sparingRecord_kept {s : State} {x1 : Nat} {x2 : Nat} {x3 : Nat} {x4 : Nat} {x5 : Nat} (h : Kept a s) : Kept a (sparingRecord s x1 x2 x3 x4 x5) := by
  unfold sparingRecord; simp +contextual (maxDischargeDepth := 40) [h]

@[simp] theorem hardFailure_kept {s : State} {x1 : Nat} {x2 : Nat} {x3 : Nat} {x4 : Nat} {x5 : Nat} {x6 : Nat} (h : Kept a s) : Kept a (hardFailure s x1 x2 x3 x4 x5 x6) := by
  unfold hardFailure; simp +contextual (maxDischargeDepth := 40) [h]

@[simp] theorem escalate_kept {s : State} {x1 : Nat} (h : Kept a s) : Kept a (escalate s x1) := by
  unfold escalate; simp +contextual (maxDischargeDepth := 40) [h]

/-! ### MirrorSend -/

@[simp] theorem restoreOnly_kept {s : State} (h : Kept a s) : Kept a (restoreOnly s) := by simp [restoreOnly, h]

@[simp] theorem setPairing_kept {s : State} {x1 : Nat} (h : Kept a s) : Kept a (setPairing s x1) := by
  unfold setPairing; simp +contextual (maxDischargeDepth := 40) [h]

@[simp] theorem sendUpdate_kept {s : State} {x1 : MirrorUpdate} (h : Kept a s) : Kept a (sendUpdate s x1) := by
  unfold sendUpdate
  (try simp only []) <;> (repeat' split) <;> simp +contextual (maxDischargeDepth := 40) [*]

@[simp] theorem sendCharged_kept {s : State} {x1 : MirrorUpdate} (h : Kept a s) : Kept a (sendCharged s x1) := by simp [sendCharged, h]

@[simp] theorem noteCarried_kept {s : State} {x1 : MirrorWork} {x2 : MirrorUpdate} (h : Kept a s) : Kept a (noteCarried s x1 x2) := by
  unfold noteCarried
  (repeat' split) <;> simp +contextual (maxDischargeDepth := 40) [h]

@[simp] theorem formUpdate_kept {s : State} {x1 : MirrorJob} {x2 : MirrorUpdate} (h : Kept a s) : Kept a (formUpdate s x1 x2) := by
  unfold formUpdate; simp +contextual (maxDischargeDepth := 40) [h]

@[simp] theorem pumpJob_kept {s : State} {x1 : MirrorJob} {x2 : List MirrorJob} (h : Kept a s) : Kept a (pumpJob s x1 x2).1 := by
  unfold pumpJob
  (try simp only []) <;> (repeat' split) <;> simp +contextual (maxDischargeDepth := 40) [*]

@[simp] theorem mirrorPump_kept {n : Nat} {s : State} (h : Kept a s) : Kept a (mirrorPump n s) := by
  induction n generalizing s with
  | zero => simpa [mirrorPump] using h
  | succ n ih =>
    simp only [mirrorPump]
    split
    · exact h
    · split
      · exact h
      · split <;> rename_i e
        · exact ih (kept_of_fst (hv := pumpJob_kept h) e)
        · exact kept_of_fst (hv := pumpJob_kept h) e

@[simp] theorem mirrorChange_kept {s : State} {x1 : MirrorWork} (h : Kept a s) : Kept a (mirrorChange s x1) := by
  unfold mirrorChange; simp +contextual (maxDischargeDepth := 40) [h]

@[simp] theorem mirrorRow_kept {s : State} {x1 : Nat} {x2 : Nat} (h : Kept a s) : Kept a (mirrorRow s x1 x2) := by simp [mirrorRow, h]

@[simp] theorem mirrorValue_kept {s : State} {x1 : Nat} (h : Kept a s) : Kept a (mirrorValue s x1) := by simp [mirrorValue, h]

@[simp] theorem mirrorRefill_kept {s : State} (h : Kept a s) : Kept a (mirrorRefill s) := by simp [mirrorRefill, h]

/-! ### Windows -/

@[simp] theorem noteForeign_kept {s : State} {x1 : Nat} {x2 : Nat} (h : Kept a s) : Kept a (noteForeign s x1 x2) := by simp [noteForeign, h]

@[simp] theorem releaseForeign_kept {s : State} (h : Kept a s) : Kept a (releaseForeign s) := by
  unfold releaseForeign; simp +contextual (maxDischargeDepth := 40) [h]

@[simp] theorem carrelWriteRow_kept {s : State} {x1 : Nat} {x2 : List Byte} (h : Kept a s) : Kept a (carrelWriteRow s x1 x2) := by
  unfold carrelWriteRow; simp +contextual (maxDischargeDepth := 40) [h]

@[simp] theorem carrelWrite_kept {s : State} {x1 : Nat} {x2 : List Byte} (h : Kept a s) : Kept a (carrelWrite s x1 x2) := by
  unfold carrelWrite; simp +contextual (maxDischargeDepth := 40) [h]

@[simp] theorem carrelPoison_kept {s : State} {x1 : Nat} {x2 : Nat} (h : Kept a s) : Kept a (carrelPoison s x1 x2) := by simp [carrelPoison, h]

@[simp] theorem setUseCount_kept {s : State} {x1 : Nat} {x2 : Nat} (h : Kept a s) : Kept a (setUseCount s x1 x2) := by simp [setUseCount, h]

@[simp] theorem beginUse_kept {s : State} {x1 : Nat} (h : Kept a s) : Kept a (beginUse s x1).2 := by simp [beginUse, h]

@[simp] theorem beginUses_kept {s : State} {x : List Nat} (h : Kept a s) : Kept a (beginUses s x).2 := by
  induction x generalizing s with
  | nil => simpa [beginUses] using h
  | cons y x ih => simp +contextual (maxDischargeDepth := 40) [beginUses, *]

@[simp] theorem endUse_kept {s : State} {x1 : Nat} (h : Kept a s) : Kept a (endUse s x1) := by
  unfold endUse; simp +contextual (maxDischargeDepth := 40) [h]

@[simp] theorem endUses_kept {s : State} {x1 : List Nat} (h : Kept a s) : Kept a (endUses s x1) := by
  unfold endUses; simp +contextual (maxDischargeDepth := 40) [h]

@[simp] theorem freeWindow_kept {s : State} {x1 : Nat} (h : Kept a s) : Kept a (freeWindow s x1) := by
  unfold freeWindow; simp +contextual (maxDischargeDepth := 40) [h]

@[simp] theorem windowAt_kept {s : State} {x1 : Asking} {x2 : Nat} {x3 : Nat} (h : Kept a s) : Kept a (windowAt s x1 x2 x3).2 := by
  unfold windowAt
  (try simp only []) <;> (repeat' split) <;> simp +contextual (maxDischargeDepth := 40) [*]

@[simp] theorem checkSpans_kept {s : State} {q : Asking} {r : List Nat} {x : List (Nat × Nat)} (h : Kept a s) : Kept a (checkSpans s q r x).1 := by
  induction x generalizing s r with
  | nil => simpa [checkSpans] using h
  | cons y x ih =>
    obtain ⟨y, z⟩ := y
    have hw : Kept a (windowAt s q y z).2 := by simp [h]
    simp only [checkSpans]
    split
    · rename_i e; simpa using kept_of_snd (hv := hw) e
    · rename_i e; have he := kept_of_snd (hv := hw) e
      split
      · simpa using he
      · exact ih he

@[simp] theorem admission_kept {s : State} {x1 : List (Nat × Nat)} {x2 : Asking} (h : Kept a s) : Kept a (admission s x1 x2).1 := by
  unfold admission
  (try simp only []) <;> repeat' first
    | (simp +contextual (maxDischargeDepth := 40) [*]; done)
    | (rename_i e; have he := kept_of_fst (a := a) (hv := by clear e; simp +contextual (maxDischargeDepth := 40) [*]) e; clear e)
    | split

@[simp] theorem windowOpen_kept {x0 : Nat} {s : State} (h : Kept a s) : Kept a (windowOpen x0 s).1 := by
  unfold windowOpen
  (try simp only []) <;> (repeat' split) <;> simp +contextual (maxDischargeDepth := 40) [*]

@[simp] theorem windowModify_kept {x0 : Nat} {s : State} (h : Kept a s) : Kept a (windowModify x0 s).1 := by
  unfold windowModify
  (try simp only []) <;> (repeat' split) <;> simp +contextual (maxDischargeDepth := 40) [*]

@[simp] theorem endInvocations_kept {s : State} {x1 : Nat} {x2 : Nat → Bool} {x3 : Nat} (h : Kept a s) : Kept a (endInvocations s x1 x2 x3) := by
  unfold endInvocations; simp +contextual (maxDischargeDepth := 40) [h]

@[simp] theorem windowDrainEnd_kept {s : State} {x1 : Nat} (h : Kept a s) : Kept a (windowDrainEnd s x1) := by
  unfold windowDrainEnd; simp +contextual (maxDischargeDepth := 40) [h]

@[simp] theorem windowClose_kept {x0 : Nat} {s : State} (h : Kept a s) : Kept a (windowClose x0 s).1 := by
  unfold windowClose
  (try simp only []) <;> (repeat' split) <;> simp +contextual (maxDischargeDepth := 40) [*]

@[simp] theorem windowDrainLimit_kept {s : State} {x1 : Nat} (h : Kept a s) : Kept a (windowDrainLimit s x1) := by
  unfold windowDrainLimit; simp +contextual (maxDischargeDepth := 40) [h]

end Sys2Proof.Machine
end

