-- ==== Sys2Proof/Laws/KeptMemory.lean ====
section
/-! SUPPORT. What is kept (Laws/Kept) by the operations of host accesses, packets served, trace and notices: one lemma for each. -/

namespace Sys2Proof.Machine

variable {a : Keep}

set_option linter.all false
set_option exponentiation.threshold 1000

/-! ### HostSide -/

@[simp] theorem updAccess_kept {s : State} {x1 : Nat} {x2 : Access → Access} (h : Kept a s) : Kept a (updAccess s x1 x2) := by
  unfold updAccess
  (repeat' split) <;> simp +contextual (maxDischargeDepth := 40) [h]

@[simp] theorem setMspQueue_kept {s : State} {x1 : Nat} {x2 : List MspReq} (h : Kept a s) : Kept a (setMspQueue s x1 x2) := by simp [setMspQueue, h]

@[simp] theorem markReady_kept {s : State} {x1 : Nat} (h : Kept a s) : Kept a (markReady s x1) := by
  unfold markReady
  (repeat' split) <;> simp +contextual (maxDischargeDepth := 40) [h]

@[simp] theorem takeLock_kept {s : State} {x1 : Nat} {x2 : MspReq} (h : Kept a s) : Kept a (takeLock s x1 x2) := by simp [takeLock, h]

@[simp] theorem lockIfReached_kept {s : State} {x1 : Nat} {x2 : MspReq} (h : Kept a s) : Kept a (lockIfReached s x1 x2) := by simp [lockIfReached, h]

@[simp] theorem offerReq_kept {s : State} {x1 : Nat} {x2 : MspReq} (h : Kept a s) : Kept a (offerReq s x1 x2) := by
  unfold offerReq; simp +contextual (maxDischargeDepth := 40) [h]

@[simp] theorem presentPieces_kept {c o d g : Nat} {b : Bool} {n : Nat} {x : List (Nat × Nat)} {v : List Byte} {i : Nat} {s : State} (h : Kept a s) :
    Kept a (presentPieces c o d g b n x v i s) := by
  induction x generalizing s v i with
  | nil => simpa [presentPieces] using h
  | cons y x ih =>
    obtain ⟨y, z⟩ := y
    simp only [presentPieces]
    apply ih
    split <;> simp +contextual (maxDischargeDepth := 40) [*]

@[simp] theorem enterAccess_kept {s : State} {x1 : Access} (h : Kept a s) : Kept a (enterAccess s x1).2 := by simp [enterAccess, h]

@[simp] theorem hostAccess_kept {s : State} {x1 : AccessKind} {x2 : Option Nat} {x3 : Nat} {x4 : Nat} {x5 : Nat} {x6 : Nat} {x7 : Nat} {x8 : List Byte} {x9 : Bool} {x10 : List Nat} {x11 : Nat} (h : Kept a s) : Kept a (hostAccess s x1 x2 x3 x4 x5 x6 x7 x8 x9 x10 x11).2 := by
  unfold hostAccess; simp +contextual (maxDischargeDepth := 40) [h]

@[simp] theorem innerAccess_kept {s : State} {x1 : AccessKind} {x2 : Option Nat} {x3 : List Nat} {x4 : Nat} (h : Kept a s) : Kept a (innerAccess s x1 x2 x3 x4).2 := by simp [innerAccess, h]

@[simp] theorem markPerformed_kept {s : State} {x1 : Nat} (h : Kept a s) : Kept a (markPerformed s x1) := by simp [markPerformed, h]

@[simp] theorem presentNext_kept {s : State} {x1 : Nat} (h : Kept a s) : Kept a (presentNext s x1) := by
  unfold presentNext
  (repeat' split) <;> simp +contextual (maxDischargeDepth := 40) [h]

@[simp] theorem queueBeats_kept {s : State} {x1 : Nat} {x2 : MspReq} (h : Kept a s) : Kept a (queueBeats s x1 x2) := by simp [queueBeats, h]

@[simp] theorem takeBeat_kept {s : State} {x1 : Nat} (h : Kept a s) : Kept a (takeBeat s x1) := by
  unfold takeBeat
  (repeat' split) <;> simp +contextual (maxDischargeDepth := 40) [h]

@[simp] theorem dropLocks_kept {s : State} {x1 : Nat} {x2 : Nat} (h : Kept a s) : Kept a (dropLocks s x1 x2) := by simp [dropLocks, h]

@[simp] theorem acceptReq_kept {s : State} {x1 : Nat} {x2 : MspReq} (h : Kept a s) : Kept a (acceptReq s x1 x2) := by
  unfold acceptReq
  (try simp only []) <;> (repeat' split) <;> simp +contextual (maxDischargeDepth := 40) [*]

@[simp] theorem readData_kept {s : State} {x1 : Nat} {x2 : List Byte} (h : Kept a s) : Kept a (readData s x1 x2).2 := by
  unfold readData
  (try simp only []) <;> (repeat' split) <;> simp +contextual (maxDischargeDepth := 40) [*]

@[simp] theorem completeReq_kept {s : State} {x1 : MspReq} {x2 : Nat} {x3 : List Byte} (h : Kept a s) : Kept a (completeReq s x1 x2 x3) := by
  unfold completeReq
  (try simp only []) <;> (repeat' split) <;> simp +contextual (maxDischargeDepth := 40) [*]

@[simp] theorem grantLock_kept {s : State} {x1 : Nat} (h : Kept a s) : Kept a (grantLock s x1) := by
  unfold grantLock
  (repeat' split) <;> simp +contextual (maxDischargeDepth := 40) [h]

@[simp] theorem releaseLine_kept {s : State} {x1 : Nat} {x2 : Nat} {x3 : MspReq} (h : Kept a s) : Kept a (releaseLine s x1 x2 x3) := by simp [releaseLine, h]

@[simp] theorem withdraw_kept {s : State} {x1 : Nat} (h : Kept a s) : Kept a (withdraw s x1) := by simp [withdraw, h]

@[simp] theorem portOff_kept {s : State} {x1 : Nat} (h : Kept a s) : Kept a (portOff s x1) := by
  unfold portOff; simp +contextual (maxDischargeDepth := 40) [h]

/-! ### Issue -/

@[simp] theorem setLost_kept {s : State} {x1 : Nat} {x2 : Bool} (h : Kept a s) : Kept a (setLost s x1 x2) := by simp [setLost, h]

@[simp] theorem setOutstanding_kept {s : State} {x1 : Nat} {x2 : Nat} (h : Kept a s) : Kept a (setOutstanding s x1 x2) := by simp [setOutstanding, h]

@[simp] theorem setNonposted_kept {s : State} {x1 : Nat} {x2 : Nat} (h : Kept a s) : Kept a (setNonposted s x1 x2) := by simp [setNonposted, h]

@[simp] theorem countPairs_kept {s : State} {x1 : Nat} (h : Kept a s) : Kept a (countPairs s x1) := by simp [countPairs, h]

@[simp] theorem putPair_kept {s : State} {x1 : Pair} (h : Kept a s) : Kept a (putPair s x1) := by simp [putPair, h]

@[simp] theorem dropPair_kept {s : State} {x1 : Pair} (h : Kept a s) : Kept a (dropPair s x1) := by simp [dropPair, h]

@[simp] theorem settlePair_kept {s : State} {x1 : Pair} (h : Kept a s) : Kept a (settlePair s x1) := by simp [settlePair, h]

@[simp] theorem noteSent_kept {s : State} {x1 : Nat} {x2 : Nat} {x3 : Nat} {x4 : Nat} (h : Kept a s) : Kept a (noteSent s x1 x2 x3 x4) := by simp [noteSent, h]

@[simp] theorem abandonPair_kept {s : State} {x1 : Pair} {x2 : Bool} (h : Kept a s) : Kept a (abandonPair s x1 x2) := by
  unfold abandonPair; simp +contextual (maxDischargeDepth := 40) [h]

@[simp] theorem abandonPairs_kept {s : State} {x1 : Pair → Bool} {x2 : Bool} (h : Kept a s) : Kept a (abandonPairs s x1 x2) := by
  unfold abandonPairs; simp +contextual (maxDischargeDepth := 40) [h]

@[simp] theorem takeAck_kept {s : State} {x1 : Packet} (h : Kept a s) : Kept a (takeAck s x1) := by
  unfold takeAck
  (repeat' split) <;> simp +contextual (maxDischargeDepth := 40) [h]

@[simp] theorem pollPair_kept {s : State} {x1 : Pair} (h : Kept a s) : Kept a (pollPair s x1) := by simp [pollPair, h]

theorem allocTracker_kept {s : State} {t : Tracker} (h : Kept a s) {x} (e : allocTracker s t = some x) : Kept a x.2.2 := by
  unfold allocTracker at e
  have hd : Kept a (draw s).2 := draw_kept h
  generalize draw s = v at hd e
  obtain ⟨n, s1⟩ := v
  simp only [] at e
  split at e
  · cases e
  · cases e
    have h2 : ∀ u v, Kept a { s1 with switch.turns := u, switch.trackers := v } := fun u v =>
      (kept_mk hd).2 ⟨kept_cat hd, kept_mem hd, kept_running hd, kept_ports hd⟩
    exact kept_ite (fun _ => odc_kept (h2 _ _)) (fun _ => setNonposted_kept (odc_kept (h2 _ _)))

@[simp] theorem releaseTracker_kept {s : State} {x1 : Nat} {x2 : Tracker} {x3 : Nat} {x4 : Bool} (h : Kept a s) : Kept a (releaseTracker s x1 x2 x3 x4) := by
  unfold releaseTracker; simp +contextual (maxDischargeDepth := 40) [h]

@[simp] theorem putAck_kept {s : State} {x1 : PendingAck} (h : Kept a s) : Kept a (putAck s x1) := by simp [putAck, h]

@[simp] theorem dropAck_kept {s : State} {x1 : PendingAck} (h : Kept a s) : Kept a (dropAck s x1) := by simp [dropAck, h]

@[simp] theorem ackArrive_kept {s : State} {x1 : Nat} {x2 : Packet} (h : Kept a s) : Kept a (ackArrive s x1 x2) := by
  unfold ackArrive
  (repeat' split) <;> simp +contextual (maxDischargeDepth := 40) [h]

@[simp] theorem sendAck_kept {s : State} {x1 : PendingAck} {x2 : Nat} {x3 : Nat} {x4 : Bool} (h : Kept a s) : Kept a (sendAck s x1 x2 x3 x4) := by simp [sendAck, h]

@[simp] theorem ackNow_kept {s : State} {x1 : PendingAck} {x2 : Bool} (h : Kept a s) : Kept a (ackNow s x1 x2) := by
  unfold ackNow
  (repeat' split) <;> simp +contextual (maxDischargeDepth := 40) [h]

@[simp] theorem answerPolls_kept {s : State} {x1 : PendingAck} (h : Kept a s) : Kept a (answerPolls s x1) := by
  unfold answerPolls
  (try simp only []) <;> repeat' first
    | (simp +contextual (maxDischargeDepth := 40) [*]; done)
    | with_reducible refine kept_foldl ?_ (fun t y ht => ?_)
    | split

@[simp] theorem ackDone_kept {s : State} {x1 : Nat} {x2 : Nat} {x3 : Nat} (h : Kept a s) : Kept a (ackDone s x1 x2 x3) := by
  unfold ackDone
  (try simp only []) <;> (repeat' split) <;> simp +contextual (maxDischargeDepth := 40) [*]

@[simp] theorem donePacket_kept {s : State} {x1 : Packet} (h : Kept a s) : Kept a (donePacket s x1) := by simp [donePacket, h]

@[simp] theorem ackDelay_kept {s : State} {x1 : Nat} {x2 : Nat} (h : Kept a s) : Kept a (ackDelay s x1 x2) := by
  unfold ackDelay
  (repeat' split) <;> simp +contextual (maxDischargeDepth := 40) [h]

@[simp] theorem pollArrives_kept {s : State} {x1 : Nat} {x2 : Packet} (h : Kept a s) : Kept a (pollArrives s x1 x2) := by
  unfold pollArrives
  (repeat' split) <;> simp +contextual (maxDischargeDepth := 40) [h]

@[simp] theorem sendCounted_kept {s : State} {k : Packet} {p v : Nat} {f : State → Packet → Sent} (h : Kept a s)
    (hf : ∀ t y, Kept a t → KeptSent a (f t y)) : Kept a (sendCounted s k p v f).1 := by
  unfold sendCounted
  (try simp only []) <;> repeat' first
    | (simp +contextual (maxDischargeDepth := 40) [*]; done)
    | (rename_i e; have he := keptSent_of_queued (a := a) (hv := by clear e; simp +contextual (maxDischargeDepth := 40) [*]) e; clear e)
    | (rename_i e; have he := keptSent_of_unreachable (a := a) (hv := by clear e; simp +contextual (maxDischargeDepth := 40) [*]) e; clear e)
    | (rename_i e; have he := keptSent_of_flushed (a := a) (hv := by clear e; simp +contextual (maxDischargeDepth := 40) [*]) e; clear e)
    | split

@[simp] theorem sendNonPosted_kept {s : State} {k : Packet} {t : Tracker} (h : Kept a s) : Kept a (sendNonPosted s k t).1 := by
  unfold sendNonPosted
  split
  · exact h
  · rename_i e
    have he := allocTracker_kept h e
    simp only []
    split <;> rename_i e
    · have he := keptSent_of_queued (send_kept he) e; simp [he]
    · have he := keptSent_of_unreachable (send_kept he) e; simp [he]
    · have he := keptSent_of_flushed (send_kept he) e; simp [he]

/-! ### Receive -/

@[simp] theorem dropRx_kept {s : State} {x1 : Nat} {x2 : Packet} (h : Kept a s) : Kept a (dropRx s x1 x2) := by
  unfold dropRx
  (repeat' split) <;> simp +contextual (maxDischargeDepth := 40) [h]

@[simp] theorem takeRx_kept {s : State} {x1 : Nat} {x2 : Packet} (h : Kept a s) : Kept a (takeRx s x1 x2) := by simp [takeRx, h]

@[simp] theorem beginCut_kept {s : State} {x1 : Nat} {x2 : Packet} (h : Kept a s) : Kept a (beginCut s x1 x2).2 := by simp [beginCut, h]

@[simp] theorem leaveChannel_kept {s : State} {x1 : Nat} {x2 : Packet} (h : Kept a s) : Kept a (leaveChannel s x1 x2).2 := by
  unfold leaveChannel
  (repeat' split) <;> simp +contextual (maxDischargeDepth := 40) [h]

@[simp] theorem countPort_kept {s : State} {x1 : Nat} {x2 : Nat} (h : Kept a s) : Kept a (countPort s x1 x2) := by simp [countPort, h]

@[simp] theorem postedRefusal_kept {s : State} {x1 : Nat} (h : Kept a s) : Kept a (postedRefusal s x1) := by simp [postedRefusal, h]

@[simp] theorem crcFailure_kept {s : State} {x1 : Nat} (h : Kept a s) : Kept a (crcFailure s x1) := by
  unfold crcFailure; simp +contextual (maxDischargeDepth := 40) [h]

@[simp] theorem malformed_kept {s : State} {x1 : Nat} {x2 : Packet} {x3 : Bool} (h : Kept a s) : Kept a (malformed s x1 x2 x3) := by
  unfold malformed; simp +contextual (maxDischargeDepth := 40) [h]

@[simp] theorem releaseHolds_kept {s : State} {x1 : Nat} (h : Kept a s) : Kept a (releaseHolds s x1) := by
  unfold releaseHolds; simp +contextual (maxDischargeDepth := 40) [h]

@[simp] theorem staleSpeaker_kept {s : State} {x1 : Nat} {x2 : Packet} {x3 : Nat} (h : Kept a s) : Kept a (staleSpeaker s x1 x2 x3) := by
  unfold staleSpeaker; simp +contextual (maxDischargeDepth := 40) [h]

@[simp] theorem duplicateIdentity_kept {s : State} {x1 : Nat} {x2 : Packet} (h : Kept a s) : Kept a (duplicateIdentity s x1 x2) := by
  unfold duplicateIdentity; simp +contextual (maxDischargeDepth := 40) [h]

@[simp] theorem sourceChecks_kept {s : State} {x1 : Nat} {x2 : Packet} (h : Kept a s) : KeptVerdict a (sourceChecks s x1 x2) := by
  unfold sourceChecks
  (repeat' split) <;> simp +contextual (maxDischargeDepth := 40) [h]

@[simp] theorem refuseHere_kept {s : State} {x1 : Nat} {x2 : Packet} {x3 : Nat} {x4 : Nat} (h : Kept a s) : Kept a (refuseHere s x1 x2 x3 x4) := by simp [refuseHere, h]

@[simp] theorem destinationChecks_kept {s : State} {x1 : Nat} {x2 : Packet} (h : Kept a s) : KeptVerdict a (destinationChecks s x1 x2) := by
  unfold destinationChecks; simp +contextual (maxDischargeDepth := 40) [h]

@[simp] theorem policeHere_kept {s : State} {x1 : Nat} {x2 : Packet} (h : Kept a s) : KeptVerdict a (policeHere s x1 x2) := by
  unfold policeHere
  (repeat' split) <;> simp +contextual (maxDischargeDepth := 40) [h]

@[simp] theorem arrive_kept {s : State} {x1 : Nat} {x2 : Packet} {x3 : Packet → Bool} (h : Kept a s) : KeptVerdict a (arrive s x1 x2 x3) := by
  unfold arrive
  (try simp only []) <;> repeat' first
    | (simp +contextual (maxDischargeDepth := 40) [*]; done)
    | (rename_i e; have he := keptVerdict_of_stop (a := a) (hv := by clear e; simp +contextual (maxDischargeDepth := 40) [*]) e; clear e)
    | (rename_i e; have he := keptVerdict_of_go (a := a) (hv := by clear e; simp +contextual (maxDischargeDepth := 40) [*]) e; clear e)
    | split

/-! ### Serve -/

@[simp] theorem refuseAdmission_kept {s : State} {x1 : Nat} {x2 : Packet} {x3 : Nat} {x4 : Nat} (h : Kept a s) : Kept a (refuseAdmission s x1 x2 x3 x4) := by
  unfold refuseAdmission; simp +contextual (maxDischargeDepth := 40) [h]

@[simp] theorem unsupportedHere_kept {s : State} {x1 : Nat} {x2 : Packet} (h : Kept a s) : Kept a (unsupportedHere s x1 x2) := by
  unfold unsupportedHere; simp +contextual (maxDischargeDepth := 40) [h]

@[simp] theorem startAccess_kept {s : State} {x1 : Nat} {x2 : Packet} {x3 : List Nat} {x4 : Nat} (h : Kept a s) : Kept a (startAccess s x1 x2 x3 x4) := by
  unfold startAccess
  (try simp only []) <;> (repeat' split) <;> simp +contextual (maxDischargeDepth := 40) [*]

@[simp] theorem serve_kept {s : State} {x1 : Nat} {x2 : Packet} (h : Kept a s) : Kept a (serve s x1 x2) := by
  unfold serve
  (try simp only []) <;> repeat' first
    | (simp +contextual (maxDischargeDepth := 40) [*]; done)
    | (rename_i e; have he := kept_of_fst (a := a) (hv := by clear e; simp +contextual (maxDischargeDepth := 40) [*]) e; clear e)
    | split

@[simp] theorem writeCell_kept {s : State} {x1 : Nat} {x2 : Nat} (h : Kept a s) : Kept a (writeCell s x1 x2) := by simp [writeCell, h]

@[simp] theorem addCell_kept {s : State} {x1 : Nat} {x2 : Nat} {x3 : Nat} {x4 : Bool} (h : Kept a s) : Kept a (addCell s x1 x2 x3 x4) := by
  unfold addCell; simp +contextual (maxDischargeDepth := 40) [h]

@[simp] theorem addCells_kept {s : State} {f : Nat} {p : Bool} {c : Nat} {x : List Nat} (h : Kept a s) : Kept a (addCells s f p c x) := by
  induction x generalizing s c with
  | nil => simpa [addCells] using h
  | cons y x ih => simp +contextual (maxDischargeDepth := 40) [addCells, *]

@[simp] theorem applyLedger_kept {s : State} {x1 : Packet} {x2 : Nat} (h : Kept a s) : Kept a (applyLedger s x1 x2).1 := by
  unfold applyLedger
  (try simp only []) <;> (repeat' split) <;> simp +contextual (maxDischargeDepth := 40) [*]

@[simp] theorem closeAccess_kept {s : State} {x1 : Nat} {x2 : Access} (h : Kept a s) : Kept a (closeAccess s x1 x2) := by simp [closeAccess, h]

@[simp] theorem reportFaultAt_kept {s : State} {x1 : Nat} {x2 : Nat} (h : Kept a s) : Kept a (reportFaultAt s x1 x2) := by simp [reportFaultAt, h]

@[simp] theorem reportFault_kept {s : State} {x1 : Access} (h : Kept a s) : Kept a (reportFault s x1) := by simp [reportFault, h]

@[simp] theorem countFault_kept {s : State} {x1 : Access} (h : Kept a s) : Kept a (countFault s x1) := by
  unfold countFault; simp +contextual (maxDischargeDepth := 40) [h]

@[simp] theorem closeCounted_kept {s : State} {x1 : Nat} {x2 : Access} (h : Kept a s) : Kept a (closeCounted s x1 x2) := by
  unfold closeCounted; simp +contextual (maxDischargeDepth := 40) [h]

@[simp] theorem answerRead_kept {s : State} {x1 : Nat} {x2 : Packet} {x3 : Nat} {x4 : List Byte} (h : Kept a s) : Kept a (answerRead s x1 x2 x3 x4) := by simp [answerRead, h]

@[simp] theorem answerWrite_kept {s : State} {x1 : Nat} {x2 : Packet} {x3 : Nat} (h : Kept a s) : Kept a (answerWrite s x1 x2 x3) := by simp [answerWrite, h]

@[simp] theorem answerLedger_kept {s : State} {x1 : Nat} {x2 : Packet} {x3 : Nat} {x4 : List Nat} (h : Kept a s) : Kept a (answerLedger s x1 x2 x3 x4) := by
  unfold answerLedger; simp +contextual (maxDischargeDepth := 40) [h]

@[simp] theorem answerAtomic_kept {s : State} {x1 : Nat} {x2 : Packet} {x3 : Nat} {x4 : Nat} (h : Kept a s) : Kept a (answerAtomic s x1 x2 x3 x4) := by
  unfold answerAtomic; simp +contextual (maxDischargeDepth := 40) [h]

@[simp] theorem countLanded_kept {s : State} {x1 : Packet} (h : Kept a s) : Kept a (countLanded s x1) := by simp [countLanded, h]

@[simp] theorem atomicLocked_kept {s : State} {x1 : Nat} {x2 : Access} {x3 : Nat} {x4 : Packet} (h : Kept a s) : Kept a (atomicLocked s x1 x2 x3 x4) := by
  unfold atomicLocked
  (repeat' split) <;> simp +contextual (maxDischargeDepth := 40) [h]

@[simp] theorem performedAt_kept {s : State} {x1 : Nat} (h : Kept a s) : Kept a (performedAt s x1) := by
  unfold performedAt
  (repeat' split) <;> simp +contextual (maxDischargeDepth := 40) [h]

@[simp] theorem finishPacket_kept {s : State} {x1 : Nat} {x2 : Access} (h : Kept a s) : Kept a (finishPacket s x1 x2) := by
  unfold finishPacket
  (repeat' split) <;> simp +contextual (maxDischargeDepth := 40) [h]

@[simp] theorem performPacket_kept {s : State} {x1 : Nat} {x2 : Access} (h : Kept a s) : Kept a (performPacket s x1 x2) := by
  unfold performPacket
  (repeat' split) <;> simp +contextual (maxDischargeDepth := 40) [h]

/-! ### Trace -/

@[simp] theorem setTraceRing_kept {s : State} {x1 : Nat} {x2 : List Nat} (h : Kept a s) : Kept a (setTraceRing s x1 x2) := by simp [setTraceRing, h]

@[simp] theorem traceWriteLine_kept {s : State} (h : Kept a s) : Kept a (traceWriteLine s) := by
  unfold traceWriteLine; simp +contextual (maxDischargeDepth := 40) [h]

@[simp] theorem tracePlace_kept {s : State} {x1 : Nat} (h : Kept a s) : Kept a (tracePlace s x1) := by
  unfold tracePlace; simp +contextual (maxDischargeDepth := 40) [h]

@[simp] theorem traceLose_kept {s : State} {x1 : Nat} {x2 : Nat} (h : Kept a s) : Kept a (traceLose s x1 x2) := by simp [traceLose, h]

@[simp] theorem tracePut_kept {s : State} {x1 : Nat} {x2 : Nat} (h : Kept a s) : Kept a (tracePut s x1 x2) := by
  unfold tracePut; simp +contextual (maxDischargeDepth := 40) [h]

@[simp] theorem traceRecord_kept {s : State} {x1 : Nat} {x2 : Nat} {x3 : Nat} {x4 : Nat} {x5 : Nat} (h : Kept a s) : Kept a (traceRecord s x1 x2 x3 x4 x5) := by simp [traceRecord, h]

@[simp] theorem coreRecord_kept {s : State} {x1 : Nat} (h : Kept a s) : Kept a (coreRecord s x1) := by
  unfold coreRecord; simp +contextual (maxDischargeDepth := 40) [h]

@[simp] theorem traceLoss_kept {s : State} {x1 : Nat} (h : Kept a s) : Kept a (traceLoss s x1) := by
  unfold traceLoss
  (repeat' split) <;> simp +contextual (maxDischargeDepth := 40) [h]

@[simp] theorem traceDrainOne_kept {s : State} (h : Kept a s) : Kept a (traceDrainOne s) := by
  unfold traceDrainOne
  (repeat' split) <;> simp +contextual (maxDischargeDepth := 40) [h]

@[simp] theorem finishTrace_kept {s : State} {x1 : Nat} {x2 : Access} (h : Kept a s) : Kept a (finishTrace s x1 x2) := by
  unfold finishTrace; simp +contextual (maxDischargeDepth := 40) [h]

@[simp] theorem dumpStart_kept {s : State} {x1 : Nat} {x2 : Nat} (h : Kept a s) : Kept a (dumpStart s x1 x2) := by
  unfold dumpStart; simp +contextual (maxDischargeDepth := 40) [h]

@[simp] theorem offerSlip_kept {s : State} {x1 : Nat} {x2 : Nat} {x3 : Nat} (h : Kept a s) : Kept a (offerSlip s x1 x2 x3) := by
  unfold offerSlip
  (repeat' split) <;> simp +contextual (maxDischargeDepth := 40) [h]

@[simp] theorem dumpCapture_kept {s : State} {x1 : Nat} {x2 : Nat} {x3 : Nat} {x4 : List Byte} (h : Kept a s) : Kept a (dumpCapture s x1 x2 x3 x4) := by simp [dumpCapture, h]

@[simp] theorem dumpWrite_kept {s : State} {x1 : Nat} {x2 : List Byte} (h : Kept a s) : Kept a (dumpWrite s x1 x2) := by simp [dumpWrite, h]

@[simp] theorem dumpNext_kept {s : State} (h : Kept a s) : Kept a (dumpNext s) := by
  unfold dumpNext
  (repeat' split) <;> simp +contextual (maxDischargeDepth := 40) [h]

@[simp] theorem dumpEnd_kept {s : State} {x1 : Nat} {x2 : Nat} {x3 : Nat} {x4 : Nat} {x5 : Nat} (h : Kept a s) : Kept a (dumpEnd s x1 x2 x3 x4 x5) := by
  unfold dumpEnd
  (repeat' split) <;> simp +contextual (maxDischargeDepth := 40) [h]

@[simp] theorem dumpFreed_kept {s : State} (h : Kept a s) : Kept a (dumpFreed s) := by
  unfold dumpFreed
  (repeat' split) <;> simp +contextual (maxDischargeDepth := 40) [h]

@[simp] theorem finishDump_kept {s : State} {x1 : Nat} {x2 : Access} {x3 : List Byte} (h : Kept a s) : Kept a (finishDump s x1 x2 x3) := by
  unfold finishDump; simp +contextual (maxDischargeDepth := 40) [h]

/-! ### Notices -/

@[simp] theorem setRingRun_kept {s : State} {x1 : Nat} {x2 : RingRun} (h : Kept a s) : Kept a (setRingRun s x1 x2) := by simp [setRingRun, h]

@[simp] theorem queueNotice_kept {s : State} {x1 : Nat} {x2 : NoticePending} (h : Kept a s) : Kept a (queueNotice s x1 x2) := by simp [queueNotice, h]

@[simp] theorem countDiscarded_kept {s : State} {x1 : Nat} (h : Kept a s) : Kept a (countDiscarded s x1) := by simp [countDiscarded, h]

@[simp] theorem writeNotice_kept {s : State} {x1 : Nat} (h : Kept a s) : Kept a (writeNotice s x1) := by
  unfold writeNotice
  (repeat' split) <;> simp +contextual (maxDischargeDepth := 40) [h]

@[simp] theorem pollConsumed_kept {s : State} {x1 : Nat} (h : Kept a s) : Kept a (pollConsumed s x1) := by simp [pollConsumed, h]

@[simp] theorem disableRing_kept {s : State} {x1 : Nat} (h : Kept a s) : Kept a (disableRing s x1) := by simp [disableRing, h]

@[simp] theorem ringFault_kept {s : State} {x1 : Nat} {x2 : Access} (h : Kept a s) : Kept a (ringFault s x1 x2) := by
  unfold ringFault; simp +contextual (maxDischargeDepth := 40) [h]

@[simp] theorem finishConsumed_kept {s : State} {x1 : Nat} {x2 : Access} {x3 : Nat} (h : Kept a s) : Kept a (finishConsumed s x1 x2 x3) := by
  unfold finishConsumed; simp +contextual (maxDischargeDepth := 40) [h]

@[simp] theorem finishOldConsumed_kept {s : State} {x1 : Nat} {x2 : Access} (h : Kept a s) : Kept a (finishOldConsumed s x1 x2) := by
  unfold finishOldConsumed; simp +contextual (maxDischargeDepth := 40) [h]

@[simp] theorem dropRemote_kept {s : State} {x1 : Nat} {x2 : Bool} (h : Kept a s) : Kept a (dropRemote s x1 x2) := by
  unfold dropRemote; simp +contextual (maxDischargeDepth := 40) [h]

@[simp] theorem performNoticePost_kept {s : State} {x1 : Nat} {x2 : Access} {x3 : Packet} (h : Kept a s) : Kept a (performNoticePost s x1 x2 x3) := by
  unfold performNoticePost; simp +contextual (maxDischargeDepth := 40) [h]

@[simp] theorem endPost_kept {s : State} {x1 : NoticePending} (h : Kept a s) : Kept a (endPost s x1) := by
  unfold endPost
  (repeat' split) <;> simp +contextual (maxDischargeDepth := 40) [h]

@[simp] theorem takeNotice_kept {s : State} {x1 : Nat} {x2 : Nat} (h : Kept a s) : Kept a (takeNotice s x1 x2).2 := by
  unfold takeNotice
  (try simp only []) <;> (repeat' split) <;> simp +contextual (maxDischargeDepth := 40) [*]

@[simp] theorem noticePerformed_kept {s : State} {x1 : Nat} {x2 : Nat} (h : Kept a s) : Kept a (noticePerformed s x1 x2) := by
  unfold noticePerformed
  (repeat' split) <;> simp +contextual (maxDischargeDepth := 40) [h]

@[simp] theorem finishNotice_kept {s : State} {x1 : Nat} {x2 : Access} {x3 : Nat} (h : Kept a s) : Kept a (finishNotice s x1 x2 x3).1 := by
  unfold finishNotice
  (try simp only []) <;> (repeat' split) <;> simp +contextual (maxDischargeDepth := 40) [*]

@[simp] theorem sweepRing_kept {s : State} {x1 : Nat} (h : Kept a s) : Kept a (sweepRing s x1).1 := by
  unfold sweepRing
  (try simp only []) <;> (repeat' split) <;> simp +contextual (maxDischargeDepth := 40) [*]

@[simp] theorem ringEnable_kept {x0 : Nat} {s : State} (h : Kept a s) : Kept a (ringEnable x0 s).1 := by
  unfold ringEnable
  (repeat' split) <;> simp +contextual (maxDischargeDepth := 40) [h]

@[simp] theorem ringDisable_kept {x0 : Nat} {s : State} (h : Kept a s) : Kept a (ringDisable x0 s).1 := by
  unfold ringDisable
  (repeat' split) <;> simp +contextual (maxDischargeDepth := 40) [h]

@[simp] theorem ringAttentionClear_kept {x0 : Nat} {s : State} (h : Kept a s) : Kept a (ringAttentionClear x0 s).1 := by
  unfold ringAttentionClear
  (repeat' split) <;> simp +contextual (maxDischargeDepth := 40) [h]

end Sys2Proof.Machine
end

