-- ==== Sys2Proof/Laws/KeptEngines.lean ====
section
/-! SUPPORT. What is kept (Laws/Kept) by the operations of slips, loans, engine requests and trackers: one lemma for each. -/

namespace Sys2Proof.Machine

variable {a : Keep}

set_option linter.all false
set_option exponentiation.threshold 1000

/-! ### Slips -/

@[simp] theorem setTrayRun_kept {s : State} {x1 : Nat} {x2 : TrayRun} (h : Kept a s) : Kept a (setTrayRun s x1 x2) := by simp [setTrayRun, h]

@[simp] theorem updCtx_kept {s : State} {x1 : Nat} {x2 : Nat} {x3 : SlipCtx → SlipCtx} (h : Kept a s) : Kept a (updCtx s x1 x2 x3) := by simp [updCtx, h]

@[simp] theorem updReq_kept {s : State} {x1 : Nat} {x2 : Nat} {x3 : Nat} {x4 : SlipReq → SlipReq} (h : Kept a s) : Kept a (updReq s x1 x2 x3 x4) := by simp [updReq, h]

@[simp] theorem pollSlot_kept {s : State} {x1 : Nat} (h : Kept a s) : Kept a (pollSlot s x1) := by
  unfold pollSlot; simp +contextual (maxDischargeDepth := 40) [h]

@[simp] theorem finishSlotRead_kept {s : State} {x1 : Nat} {x2 : Access} {x3 : Nat} (h : Kept a s) : Kept a (finishSlotRead s x1 x2 x3) := by
  unfold finishSlotRead; simp +contextual (maxDischargeDepth := 40) [h]

@[simp] theorem finishOldSlot_kept {s : State} {x1 : Nat} {x2 : Access} (h : Kept a s) : Kept a (finishOldSlot s x1 x2) := by
  unfold finishOldSlot; simp +contextual (maxDischargeDepth := 40) [h]

@[simp] theorem acceptSlip_kept {s : State} {x1 : Nat} {x2 : Nat} (h : Kept a s) : Kept a (acceptSlip s x1 x2) := by
  unfold acceptSlip; simp +contextual (maxDischargeDepth := 40) [h]

@[simp] theorem trayOff_kept {s : State} {x1 : Nat} {x2 : Nat} (h : Kept a s) : Kept a (trayOff s x1 x2) := by simp [trayOff, h]

@[simp] theorem offerAdmitted_kept {s : State} {x1 : Nat} {x2 : Nat} (h : Kept a s) : Kept a (offerAdmitted s x1 x2) := by
  unfold offerAdmitted
  (repeat' split) <;> simp +contextual (maxDischargeDepth := 40) [h]

@[simp] theorem admissionDone_kept {s : State} {x1 : Nat} {x2 : Nat} (h : Kept a s) : Kept a (admissionDone s x1 x2) := by
  unfold admissionDone
  (try simp only []) <;> (repeat' split) <;> simp +contextual (maxDischargeDepth := 40) [*]

@[simp] theorem sendProbe_kept {s : State} {x1 : SlipCtx} (h : Kept a s) : KeptOpt a (sendProbe s x1) := by
  unfold sendProbe
  (try simp only []) <;> (repeat' split) <;> simp +contextual (maxDischargeDepth := 40) [*]

@[simp] theorem releaseHold_kept {s : State} {x1 : Nat} {x2 : Nat} {x3 : Nat} (h : Kept a s) : Kept a (releaseHold s x1 x2 x3) := by simp [releaseHold, h]

@[simp] theorem probeAnswered_kept {s : State} {x1 : Nat} {x2 : Nat} {x3 : Nat} {x4 : Nat} {x5 : Nat} {x6 : Nat} {x7 : Nat} (h : Kept a s) : Kept a (probeAnswered s x1 x2 x3 x4 x5 x6 x7) := by
  unfold probeAnswered
  (repeat' split) <;> simp +contextual (maxDischargeDepth := 40) [h]

@[simp] theorem startLocal_kept {s : State} {x1 : SlipCtx} {x2 : Nat} {x3 : Nat} {x4 : Nat} {x5 : Nat} {x6 : Option (List Byte)} {x7 : Bool} (h : Kept a s) : Kept a (startLocal s x1 x2 x3 x4 x5 x6 x7) := by
  unfold startLocal
  (repeat' split) <;> simp +contextual (maxDischargeDepth := 40) [h]

@[simp] theorem startLocals_kept {s : State} {x1 : Nat} {x2 : Nat} {x3 : Nat} {x4 : Option (List Byte)} {x5 : List (Nat × Nat × Nat)} (h : Kept a s) : Kept a (startLocals s x1 x2 x3 x4 x5) := by
  unfold startLocals
  (try simp only []) <;> repeat' first
    | (simp +contextual (maxDischargeDepth := 40) [*]; done)
    | with_reducible refine kept_foldl ?_ (fun t y ht => ?_)
    | split

@[simp] theorem issueRequest_kept {s : State} {x1 : Nat} {x2 : Nat} (h : Kept a s) : Kept a (issueRequest s x1 x2) := by
  unfold issueRequest
  (repeat' split) <;> simp +contextual (maxDischargeDepth := 40) [h]

@[simp] theorem endReq_kept {s : State} {x1 : Nat} {x2 : Nat} {x3 : Nat} {x4 : Nat} {x5 : Option Nat} (h : Kept a s) : Kept a (endReq s x1 x2 x3 x4 x5) := by
  unfold endReq; simp +contextual (maxDischargeDepth := 40) [h]

@[simp] theorem localRead_kept {s : State} {x1 : Nat} {x2 : Nat} {x3 : Nat} {x4 : Nat} {x5 : Nat} {x6 : Nat} {x7 : List Byte} (h : Kept a s) : Kept a (localRead s x1 x2 x3 x4 x5 x6 x7) := by
  unfold localRead
  (repeat' split) <;> simp +contextual (maxDischargeDepth := 40) [h]

@[simp] theorem localWrote_kept {s : State} {x1 : Nat} {x2 : Nat} {x3 : Nat} {x4 : Nat} {x5 : Nat} {x6 : Nat} (h : Kept a s) : Kept a (localWrote s x1 x2 x3 x4 x5 x6) := by
  unfold localWrote
  (try simp only []) <;> (repeat' split) <;> simp +contextual (maxDischargeDepth := 40) [*]

@[simp] theorem pulled_kept {s : State} {x1 : Nat} {x2 : Nat} {x3 : Nat} {x4 : List Byte} (h : Kept a s) : Kept a (pulled s x1 x2 x3 x4) := by
  unfold pulled
  (repeat' split) <;> simp +contextual (maxDischargeDepth := 40) [h]

@[simp] theorem sendLoan_kept {x0 : Nat} {s : State} {x2 : Packet} (h : Kept a s) : KeptSent a (sendLoan x0 s x2) := by simp [sendLoan, h]

@[simp] theorem sendReq_kept {s : State} {x1 : SlipCtx} {x2 : SlipReq} (h : Kept a s) : KeptOpt a (sendReq s x1 x2) := by
  unfold sendReq
  (try simp only []) <;> (repeat' split) <;> simp +contextual (maxDischargeDepth := 40) [*]

@[simp] theorem coverReqs_kept {s : State} {x1 : SlipCtx} (h : Kept a s) : Kept a (coverReqs s x1) := by
  unfold coverReqs
  (try simp only []) <;> repeat' first
    | (simp +contextual (maxDischargeDepth := 40) [*]; done)
    | with_reducible refine kept_foldl ?_ (fun t y ht => ?_)
    | split

@[simp] theorem endLocalUses_kept {s : State} {x1 : SlipCtx} (h : Kept a s) : Kept a (endLocalUses s x1) := by
  unfold endLocalUses
  (repeat' split) <;> simp +contextual (maxDischargeDepth := 40) [h]

@[simp] theorem passUses_kept {s : State} {x1 : Nat} {x2 : Access} {x3 : Nat} {x4 : Nat} (h : Kept a s) : Kept a (passUses s x1 x2 x3 x4).1 := by
  unfold passUses
  (repeat' split) <;> simp +contextual (maxDischargeDepth := 40) [h]

@[simp] theorem endUsesEarly_kept {s : State} {x1 : SlipCtx} (h : Kept a s) : Kept a (endUsesEarly s x1) := by
  unfold endUsesEarly; simp +contextual (maxDischargeDepth := 40) [h]

@[simp] theorem staleSlip_kept {s : State} {x1 : SlipCtx} (h : Kept a s) : Kept a (staleSlip s x1) := by simp [staleSlip, h]

@[simp] theorem completeSlip_kept {s : State} {x1 : SlipCtx} {x2 : SlipResult} (h : Kept a s) : Kept a (completeSlip s x1 x2) := by
  unfold completeSlip
  (repeat' split) <;> simp +contextual (maxDischargeDepth := 40) [h]

@[simp] theorem slipCompletes_kept {s : State} {x1 : Nat} {x2 : Nat} (h : Kept a s) : Kept a (slipCompletes s x1 x2) := by
  unfold slipCompletes
  (repeat' split) <;> simp +contextual (maxDischargeDepth := 40) [h]

@[simp] theorem forceSlip_kept {s : State} {x1 : SlipCtx} {x2 : Nat} (h : Kept a s) : Kept a (forceSlip s x1 x2) := by
  unfold forceSlip
  (repeat' split) <;> simp +contextual (maxDischargeDepth := 40) [h]

@[simp] theorem acceptServed_kept {s : State} {x1 : Nat} {x2 : Nat} (h : Kept a s) : Kept a (acceptServed s x1 x2) := by
  unfold acceptServed
  (try simp only []) <;> (repeat' split) <;> simp +contextual (maxDischargeDepth := 40) [*]

@[simp] theorem takeSlot_kept {s : State} {x1 : Nat} (h : Kept a s) : Kept a (takeSlot s x1) := by
  unfold takeSlot
  (repeat' split) <;> simp +contextual (maxDischargeDepth := 40) [h]

@[simp] theorem freeCtx_kept {s : State} {x1 : SlipCtx} {x2 : Bool} (h : Kept a s) : Kept a (freeCtx s x1 x2) := by
  unfold freeCtx; simp +contextual (maxDischargeDepth := 40) [h]

@[simp] theorem postFailed_kept {s : State} {x1 : SlipCtx} {x2 : Nat} (h : Kept a s) : Kept a (postFailed s x1 x2) := by simp [postFailed, h]

@[simp] theorem postCovered_kept {s : State} {x1 : SlipCtx} {x2 : Nat} (h : Kept a s) : Kept a (postCovered s x1 x2) := by
  unfold postCovered
  (repeat' split) <;> simp +contextual (maxDischargeDepth := 40) [h]

@[simp] theorem sendPost_kept {s : State} {x1 : SlipCtx} {x2 : SlipResult} (h : Kept a s) : KeptOpt a (sendPost s x1 x2) := by
  unfold sendPost
  (try simp only []) <;> (repeat' split) <;> simp +contextual (maxDischargeDepth := 40) [*]

@[simp] theorem noticeSlip_kept {s : State} {x1 : SlipCtx} {x2 : SlipResult} (h : Kept a s) : Kept a (noticeSlip s x1 x2) := by
  unfold noticeSlip; simp +contextual (maxDischargeDepth := 40) [h]

@[simp] theorem freeQuiet_kept {s : State} {x1 : Nat} (h : Kept a s) : Kept a (freeQuiet s x1) := by
  unfold freeQuiet
  (try simp only []) <;> repeat' first
    | (simp +contextual (maxDischargeDepth := 40) [*]; done)
    | with_reducible refine kept_foldl ?_ (fun t y ht => ?_)
    | split

@[simp] theorem pumpNotice_kept {s : State} {x1 : Nat} (h : Kept a s) : Kept a (pumpNotice s x1) := by
  unfold pumpNotice
  (try simp only []) <;> (repeat' split) <;> simp +contextual (maxDischargeDepth := 40) [*]

@[simp] theorem noticed_kept {s : State} {x1 : Nat} {x2 : Nat} {x3 : Bool} (h : Kept a s) : Kept a (noticed s x1 x2 x3) := by
  unfold noticed
  (repeat' split) <;> simp +contextual (maxDischargeDepth := 40) [h]

@[simp] theorem present_kept {s : State} {x1 : SlipWait} (h : Kept a s) : Kept a (present s x1) := by simp [present, h]

@[simp] theorem slipStep_kept {s : State} {x1 : SlipWait} (h : Kept a s) : KeptOpt a (slipStep s x1) := by
  unfold slipStep
  (repeat' split) <;> simp +contextual (maxDischargeDepth := 40) [h]

@[simp] theorem pumpSlip_kept {s : State} {x1 : Nat} {x2 : Nat} (h : Kept a s) : Kept a (pumpSlip s x1 x2) := by
  unfold pumpSlip
  (try simp only []) <;> (repeat' split) <;> simp +contextual (maxDischargeDepth := 40) [*]

@[simp] theorem pumpSlips_kept {s : State} (h : Kept a s) : Kept a (pumpSlips s) := by
  unfold pumpSlips; simp +contextual (maxDischargeDepth := 40) [h]

@[simp] theorem trayEnable_kept {x0 : Nat} {s : State} (h : Kept a s) : Kept a (trayEnable x0 s).1 := by
  unfold trayEnable
  (repeat' split) <;> simp +contextual (maxDischargeDepth := 40) [h]

@[simp] theorem trayDrained_kept {s : State} {x1 : Nat} (h : Kept a s) : Kept a (trayDrained s x1) := by simp [trayDrained, h]

@[simp] theorem trayDisable_kept {x0 : Nat} {s : State} (h : Kept a s) : Kept a (trayDisable x0 s).1 := by
  unfold trayDisable
  (try simp only []) <;> (repeat' split) <;> simp +contextual (maxDischargeDepth := 40) [*]

@[simp] theorem trayDrainLimit_kept {s : State} {x1 : Nat} (h : Kept a s) : Kept a (trayDrainLimit s x1) := by simp [trayDrainLimit, h]

@[simp] theorem probeRetry_kept {s : State} {x1 : Nat} {x2 : Nat} (h : Kept a s) : Kept a (probeRetry s x1 x2) := by
  unfold probeRetry
  (repeat' split) <;> simp +contextual (maxDischargeDepth := 40) [h]

@[simp] theorem probeLimit_kept {s : State} {x1 : Nat} {x2 : Nat} (h : Kept a s) : Kept a (probeLimit s x1 x2) := by
  unfold probeLimit
  (repeat' split) <;> simp +contextual (maxDischargeDepth := 40) [h]

@[simp] theorem postTimeout_kept {s : State} {x1 : Nat} {x2 : Nat} (h : Kept a s) : Kept a (postTimeout s x1 x2) := by
  unfold postTimeout
  (repeat' split) <;> simp +contextual (maxDischargeDepth := 40) [h]

@[simp] theorem stopTrays_kept {s : State} {x1 : Nat → Bool} {x2 : Nat} (h : Kept a s) : Kept a (stopTrays s x1 x2) := by
  unfold stopTrays; simp +contextual (maxDischargeDepth := 40) [h]

/-! ### Inband -/

@[simp] theorem launchInvoke_kept {s : State} {x1 : MgmtWait} (h : Kept a s) : Kept a (launchInvoke s x1).1 := by
  unfold launchInvoke
  (try simp only []) <;> repeat' first
    | (simp +contextual (maxDischargeDepth := 40) [*]; done)
    | (rename_i e; have he := kept_of_fst (a := a) (hv := by clear e; simp +contextual (maxDischargeDepth := 40) [*]) e; clear e)
    | split

@[simp] theorem sendInvoke_kept {s : State} {x1 : Nat} {x2 : Nat} {x3 : List Byte} {x4 : MgmtPurpose} (h : Kept a s) : Kept a (sendInvoke s x1 x2 x3 x4).1 := by
  unfold sendInvoke
  (try simp only []) <;> repeat' first
    | (simp +contextual (maxDischargeDepth := 40) [*]; done)
    | (rename_i e; have he := kept_of_fst (a := a) (hv := by clear e; simp +contextual (maxDischargeDepth := 40) [*]) e; clear e)
    | split

/-! ### Loans -/

@[simp] theorem reviewLoans_kept {s : State} {x1 : Nat} (h : Kept a s) : Kept a (reviewLoans s x1) := by
  unfold reviewLoans; simp +contextual (maxDischargeDepth := 40) [h]

@[simp] theorem loanInstall_kept {s : State} {x1 : Nat} {x2 : Nat} (h : Kept a s) : Kept a (loanInstall s x1 x2) := by
  unfold loanInstall; simp +contextual (maxDischargeDepth := 40) [h]

@[simp] theorem freeLoan_kept {s : State} {x1 : Nat} (h : Kept a s) : Kept a (freeLoan s x1) := by
  unfold freeLoan
  (try simp only []) <;> (repeat' split) <;> simp +contextual (maxDischargeDepth := 40) [*]

@[simp] theorem loanSet_kept {s : State} (h : Kept a s) : Kept a (loanSet s).1 := by
  unfold loanSet
  (try simp only []) <;> (repeat' split) <;> simp +contextual (maxDischargeDepth := 40) [*]

@[simp] theorem originEnds_kept {s : State} {x1 : Nat} (h : Kept a s) : Kept a (originEnds s x1).1 := by
  unfold originEnds
  (try simp only []) <;> repeat' first
    | (simp +contextual (maxDischargeDepth := 40) [*]; done)
    | (rename_i e; have he := kept_of_fst (a := a) (hv := by clear e; simp +contextual (maxDischargeDepth := 40) [*]) e; clear e)
    | split

@[simp] theorem loanClose_kept {x0 : Nat} {s : State} (h : Kept a s) : Kept a (loanClose x0 s).1 := by
  unfold loanClose
  (try simp only []) <;> repeat' first
    | (simp +contextual (maxDischargeDepth := 40) [*]; done)
    | (rename_i e; have he := kept_of_fst (a := a) (hv := by clear e; simp +contextual (maxDischargeDepth := 40) [*]) e; clear e)
    | split

@[simp] theorem loanDrainEnd_kept {s : State} {x1 : Nat} (h : Kept a s) : Kept a (loanDrainEnd s x1) := by
  unfold loanDrainEnd
  (try simp only []) <;> repeat' first
    | (simp +contextual (maxDischargeDepth := 40) [*]; done)
    | (rename_i e; have he := kept_of_fst (a := a) (hv := by clear e; simp +contextual (maxDischargeDepth := 40) [*]) e; clear e)
    | split

@[simp] theorem loanDrainLimit_kept {s : State} {x1 : Nat} (h : Kept a s) : Kept a (loanDrainLimit s x1) := by simp [loanDrainLimit, h]

@[simp] theorem loanAsks_kept {s : State} {x1 : Nat} {x2 : LoanHopArg} (h : Kept a s) : Kept a (loanAsks s x1 x2).1 := by
  unfold loanAsks
  (try simp only []) <;> repeat' first
    | (simp +contextual (maxDischargeDepth := 40) [*]; done)
    | (rename_i e; have he := kept_of_fst (a := a) (hv := by clear e; simp +contextual (maxDischargeDepth := 40) [*]) e; clear e)
    | split

@[simp] theorem loanOpening_kept {s : State} {x1 : Nat} {x2 : LoanHopArg} (h : Kept a s) : Kept a (loanOpening s x1 x2).1 := by
  unfold loanOpening
  (repeat' split) <;> simp +contextual (maxDischargeDepth := 40) [h]

@[simp] theorem loanOpenOp_kept {s : State} (h : Kept a s) : Kept a (loanOpenOp s).1 := by
  unfold loanOpenOp
  (try simp only []) <;> (repeat' split) <;> simp +contextual (maxDischargeDepth := 40) [*]

@[simp] theorem loanEndsHere_kept {s : State} {x1 : Nat} (h : Kept a s) : Kept a (loanEndsHere s x1).1 := by
  unfold loanEndsHere
  (repeat' split) <;> simp +contextual (maxDischargeDepth := 40) [h]

@[simp] theorem loanHopOpenOp_kept {x0 : Nat} {x1 : LoanHopArg} {s : State} (h : Kept a s) : Kept a (loanHopOpenOp x0 x1 s).1 := by
  unfold loanHopOpenOp
  (repeat' split) <;> simp +contextual (maxDischargeDepth := 40) [h]

@[simp] theorem loanHopCloseOp_kept {x0 : Nat} {s : State} (h : Kept a s) : Kept a (loanHopCloseOp x0 s).1 := by
  unfold loanHopCloseOp
  (try simp only []) <;> repeat' first
    | (simp +contextual (maxDischargeDepth := 40) [*]; done)
    | (rename_i e; have he := kept_of_fst (a := a) (hv := by clear e; simp +contextual (maxDischargeDepth := 40) [*]) e; clear e)
    | split

@[simp] theorem loanOpened_kept {s : State} {x1 : Nat} {x2 : Nat} (h : Kept a s) : Kept a (loanOpened s x1 x2) := by
  unfold loanOpened; simp +contextual (maxDischargeDepth := 40) [h]

@[simp] theorem loanClosedBelow_kept {s : State} {x1 : Nat} {x2 : Nat} (h : Kept a s) : Kept a (loanClosedBelow s x1 x2) := by
  unfold loanClosedBelow; simp +contextual (maxDischargeDepth := 40) [h]

@[simp] theorem invokeAnswered_kept {s : State} {x1 : MgmtPurpose} {x2 : Nat} (h : Kept a s) : Kept a (invokeAnswered s x1 x2) := by
  unfold invokeAnswered
  (repeat' split) <;> simp +contextual (maxDischargeDepth := 40) [h]

@[simp] theorem pumpMgmt_kept {s : State} (h : Kept a s) : Kept a (pumpMgmt s) := by
  unfold pumpMgmt
  (try simp only []) <;> repeat' first
    | (simp +contextual (maxDischargeDepth := 40) [*]; done)
    | (rename_i e; have he := kept_of_fst (a := a) (hv := by clear e; simp +contextual (maxDischargeDepth := 40) [*]) e; clear e)
    | split

@[simp] theorem loanUnknown_kept {s : State} {x1 : Nat} {x2 : Packet} (h : Kept a s) : Kept a (loanUnknown s x1 x2) := by
  unfold loanUnknown; simp +contextual (maxDischargeDepth := 40) [h]

@[simp] theorem loanSequence_kept {s : State} {x1 : Packet} (h : Kept a s) : Kept a (loanSequence s x1).1 := by
  unfold loanSequence
  (try simp only []) <;> (repeat' split) <;> simp +contextual (maxDischargeDepth := 40) [*]

@[simp] theorem loanAdmit_kept {s : State} {x1 : Nat} {x2 : Packet} (h : Kept a s) : Kept a (loanAdmit s x1 x2) := by
  unfold loanAdmit
  (try simp only []) <;> repeat' first
    | (simp +contextual (maxDischargeDepth := 40) [*]; done)
    | (rename_i e; have he := kept_of_fst (a := a) (hv := by clear e; simp +contextual (maxDischargeDepth := 40) [*]) e; clear e)
    | split

@[simp] theorem terminusChecks_kept {s : State} {x1 : Nat} {x2 : Packet} (h : Kept a s) : KeptVerdict a (terminusChecks s x1 x2) := by
  unfold terminusChecks; simp +contextual (maxDischargeDepth := 40) [h]

@[simp] theorem loanLands_kept {s : State} {x1 : Nat} {x2 : Packet} (h : Kept a s) : Kept a (loanLands s x1 x2) := by
  unfold loanLands
  (try simp only []) <;> repeat' first
    | (simp +contextual (maxDischargeDepth := 40) [*]; done)
    | (rename_i e; have he := keptVerdict_of_stop (a := a) (hv := by clear e; simp +contextual (maxDischargeDepth := 40) [*]) e; clear e)
    | (rename_i e; have he := keptVerdict_of_go (a := a) (hv := by clear e; simp +contextual (maxDischargeDepth := 40) [*]) e; clear e)
    | (rename_i e; have he := kept_of_fst (a := a) (hv := by clear e; simp +contextual (maxDischargeDepth := 40) [*]) e; clear e)
    | split

@[simp] theorem discardWaiting_kept {s : State} {x1 : RxWait} (h : Kept a s) : Kept a (discardWaiting s x1) := by
  unfold discardWaiting
  (try simp only []) <;> (repeat' split) <;> simp +contextual (maxDischargeDepth := 40) [*]

@[simp] theorem hopWaitPassed_kept {s : State} {x1 : Nat} {x2 : Nat} {x3 : Nat} (h : Kept a s) : Kept a (hopWaitPassed s x1 x2 x3) := by
  unfold hopWaitPassed
  (try simp only []) <;> (repeat' split) <;> simp +contextual (maxDischargeDepth := 40) [*]

@[simp] theorem discardLoans_kept {s : State} {x1 : Nat} (h : Kept a s) : Kept a (discardLoans s x1) := by
  unfold discardLoans; simp +contextual (maxDischargeDepth := 40) [h]

@[simp] theorem loanExpires_kept {s : State} {x1 : Nat} {x2 : Nat} (h : Kept a s) : Kept a (loanExpires s x1 x2) := by
  unfold loanExpires
  (repeat' split) <;> simp +contextual (maxDischargeDepth := 40) [h]

@[simp] theorem freeLoansIn_kept {s : State} {x1 : List Nat} (h : Kept a s) : Kept a (freeLoansIn s x1) := by
  unfold freeLoansIn; simp +contextual (maxDischargeDepth := 40) [h]

/-! ### Forward -/

@[simp] theorem policePassing_kept {s : State} {x1 : Nat} {x2 : Packet} (h : Kept a s) : Kept a (policePassing s x1 x2).2 := by
  unfold policePassing
  (repeat' split) <;> simp +contextual (maxDischargeDepth := 40) [h]

@[simp] theorem passOut_kept {s : State} {x1 : Nat} {x2 : Nat} {x3 : Packet} {x4 : Option RxPlace} (h : Kept a s) : Kept a (passOut s x1 x2 x3 x4) := by
  unfold passOut; simp +contextual (maxDischargeDepth := 40) [h]

@[simp] theorem passOn_kept {s : State} {x1 : PassWait} (h : Kept a s) : Kept a (passOn s x1) := by
  unfold passOn
  (repeat' split) <;> simp +contextual (maxDischargeDepth := 40) [h]

@[simp] theorem passArrives_kept {s : State} {x1 : Nat} {x2 : Packet} (h : Kept a s) : Kept a (passArrives s x1 x2) := by
  unfold passArrives
  (try simp only []) <;> repeat' first
    | (simp +contextual (maxDischargeDepth := 40) [*]; done)
    | (rename_i e; have he := keptVerdict_of_stop (a := a) (hv := by clear e; simp +contextual (maxDischargeDepth := 40) [*]) e; clear e)
    | (rename_i e; have he := keptVerdict_of_go (a := a) (hv := by clear e; simp +contextual (maxDischargeDepth := 40) [*]) e; clear e)
    | split

@[simp] theorem loanArrives_kept {s : State} {x1 : Nat} {x2 : Packet} (h : Kept a s) : Kept a (loanArrives s x1 x2) := by
  unfold loanArrives
  (try simp only []) <;> repeat' first
    | (simp +contextual (maxDischargeDepth := 40) [*]; done)
    | (rename_i e; have he := keptVerdict_of_stop (a := a) (hv := by clear e; simp +contextual (maxDischargeDepth := 40) [*]) e; clear e)
    | (rename_i e; have he := keptVerdict_of_go (a := a) (hv := by clear e; simp +contextual (maxDischargeDepth := 40) [*]) e; clear e)
    | split

@[simp] theorem pumpPass_kept {s : State} (h : Kept a s) : Kept a (pumpPass s) := by
  unfold pumpPass
  (repeat' split) <;> simp +contextual (maxDischargeDepth := 40) [h]

/-! ### Engine -/

@[simp] theorem noteActivity_kept {s : State} {x1 : Nat} {x2 : Nat} (h : Kept a s) : Kept a (noteActivity s x1 x2) := by simp [noteActivity, h]

@[simp] theorem offerRsp_kept {s : State} {x1 : EspReq} {x2 : Nat} {x3 : List Byte} (h : Kept a s) : Kept a (offerRsp s x1 x2 x3) := by simp [offerRsp, h]

@[simp] theorem espRefused_kept {s : State} {x1 : Nat} {x2 : EspReq} {x3 : Nat} (h : Kept a s) : Kept a (espRefused s x1 x2 x3) := by
  unfold espRefused; simp +contextual (maxDischargeDepth := 40) [h]

@[simp] theorem espPieceDone_kept {s : State} {x1 : Nat} {x2 : Nat} {x3 : Nat} {x4 : List Byte} (h : Kept a s) : Kept a (espPieceDone s x1 x2 x3 x4) := by
  unfold espPieceDone
  (repeat' split) <;> simp +contextual (maxDischargeDepth := 40) [h]

@[simp] theorem espBegin_kept {s : State} {x1 : Nat} {x2 : EspReq} (h : Kept a s) : Kept a (espBegin s x1 x2).2 := by simp [espBegin, h]

@[simp] theorem espSend_kept {s : State} {x1 : EspWait} {x2 : Nat} (h : Kept a s) : KeptOpt a (espSend s x1 x2) := by
  unfold espSend
  (try simp only []) <;> (repeat' split) <;> simp +contextual (maxDischargeDepth := 40) [*]

@[simp] theorem espGo_kept {n : Nat} {s : State} {w : EspWait} (h : Kept a s) : Kept a (espGo n s w).1 := by
  induction n generalizing s w with
  | zero => simpa [espGo] using h
  | succ n ih =>
    simp only [espGo]
    split
    · simpa using h
    · split
      · simpa using h
      · rename_i e; exact ih (keptOpt_of_some (hv := espSend_kept h) e)

@[simp] theorem fenceRsp_kept {s : State} {x1 : FenceWait} {x2 : Nat} (h : Kept a s) : Kept a (fenceRsp s x1 x2) := by
  unfold fenceRsp; simp +contextual (maxDischargeDepth := 40) [h]

@[simp] theorem fenceBegin_kept {s : State} {x1 : Nat} {x2 : EspReq} (h : Kept a s) : Kept a (fenceBegin s x1 x2) := by
  unfold fenceBegin; simp +contextual (maxDischargeDepth := 40) [h]

@[simp] theorem fenceCompletes_kept {s : State} {x1 : Nat} (h : Kept a s) : Kept a (fenceCompletes s x1) := by
  unfold fenceCompletes
  (repeat' split) <;> simp +contextual (maxDischargeDepth := 40) [h]

@[simp] theorem fenceTimesOut_kept {s : State} {x1 : Nat} (h : Kept a s) : Kept a (fenceTimesOut s x1) := by
  unfold fenceTimesOut
  (repeat' split) <;> simp +contextual (maxDischargeDepth := 40) [h]

@[simp] theorem endFences_kept {s : State} {x1 : FenceWait → Bool} {x2 : Nat} (h : Kept a s) : Kept a (endFences s x1 x2) := by
  unfold endFences; simp +contextual (maxDischargeDepth := 40) [h]

@[simp] theorem espPresent_kept {s : State} {x1 : Nat} {x2 : EspReq} (h : Kept a s) : Kept a (espPresent s x1 x2) := by
  unfold espPresent; simp +contextual (maxDischargeDepth := 40) [h]

@[simp] theorem Waiting.go_kept {s : State} {w : Waiting} (h : Kept a s) : Kept a (Waiting.go s w).1 := by
  cases w with
  | engine w => simp only [Waiting.go]; split <;> simp [h]
  | slip w =>
    simp only [Waiting.go]
    split
    · rename_i e; exact keptOpt_of_some (hv := slipStep_kept h) e
    · exact h
  | release issuer endpoint hold =>
    simp only [Waiting.go]
    (repeat' split) <;> simp [h]

@[simp] theorem issuePass_kept {x : List Waiting} {y : List Nat} {s : State} (h : Kept a s) : Kept a (issuePass x y s).1 := by
  induction x generalizing s y with
  | nil => simpa [issuePass] using h
  | cons w x ih =>
    simp only [issuePass]
    apply ih
    split <;> simp [h]

@[simp] theorem pumpIssue_kept {s : State} (h : Kept a s) : Kept a (pumpIssue s) := by
  unfold pumpIssue; simp +contextual (maxDischargeDepth := 40) [h]

@[simp] theorem refuseWaiting_kept {s : State} {x1 : EspWait → Bool} {x2 : Nat} (h : Kept a s) : Kept a (refuseWaiting s x1 x2) := by
  unfold refuseWaiting
  (try simp only []) <;> repeat' first
    | (simp +contextual (maxDischargeDepth := 40) [*]; done)
    | with_reducible refine kept_foldl ?_ (fun t y ht => ?_)
    | split

/-! ### Trackers -/

@[simp] theorem ownerDone_kept {s : State} {x1 : Tracker} {x2 : Nat} {x3 : Nat} {x4 : Nat} {x5 : List Byte} {x6 : List Byte} (h : Kept a s) : Kept a (ownerDone s x1 x2 x3 x4 x5 x6) := by
  unfold ownerDone
  (repeat' split) <;> simp +contextual (maxDischargeDepth := 40) [h]

@[simp] theorem replaceTracker_kept {s : State} {x1 : Nat} {x2 : Nat} (h : Kept a s) : Kept a (replaceTracker s x1 x2) := by
  unfold replaceTracker
  (try simp only []) <;> (repeat' split) <;> simp +contextual (maxDischargeDepth := 40) [*]

@[simp] theorem completeTracker_kept {s : State} {x1 : Nat} {x2 : Tracker} {x3 : Nat} {x4 : Bool} {x5 : Nat} {x6 : Nat} {x7 : List Byte} {x8 : List Byte} (h : Kept a s) : Kept a (completeTracker s x1 x2 x3 x4 x5 x6 x7 x8) := by
  unfold completeTracker; simp +contextual (maxDischargeDepth := 40) [h]

@[simp] theorem endTracker_kept {s : State} {x1 : Nat} {x2 : Nat} {x3 : Bool} (h : Kept a s) : Kept a (endTracker s x1 x2 x3) := by
  unfold endTracker
  (repeat' split) <;> simp +contextual (maxDischargeDepth := 40) [h]

@[simp] theorem endTrackers_kept {s : State} {x1 : Tracker → Bool} {x2 : Nat} {x3 : Bool} (h : Kept a s) : Kept a (endTrackers s x1 x2 x3) := by
  unfold endTrackers; simp +contextual (maxDischargeDepth := 40) [h]

@[simp] theorem responseArrives_kept {s : State} {x1 : Nat} {x2 : Packet} (h : Kept a s) : Kept a (responseArrives s x1 x2) := by
  unfold responseArrives
  (try simp only []) <;> repeat' first
    | (simp +contextual (maxDischargeDepth := 40) [*]; done)
    | (rename_i e; have he := keptVerdict_of_stop (a := a) (hv := by clear e; simp +contextual (maxDischargeDepth := 40) [*]) e; clear e)
    | (rename_i e; have he := keptVerdict_of_go (a := a) (hv := by clear e; simp +contextual (maxDischargeDepth := 40) [*]) e; clear e)
    | split

@[simp] theorem trackerTimesOut_kept {s : State} {x1 : Nat} (h : Kept a s) : Kept a (trackerTimesOut s x1) := by
  unfold trackerTimesOut
  (repeat' split) <;> simp +contextual (maxDischargeDepth := 40) [h]

@[simp] theorem trackerRested_kept {s : State} {x1 : Nat} (h : Kept a s) : Kept a (trackerRested s x1) := by simp [trackerRested, h]

@[simp] theorem indexFails_kept {s : State} {x1 : Nat} {x2 : Bool} (h : Kept a s) : Kept a (indexFails s x1 x2) := by
  unfold indexFails
  (repeat' split) <;> simp +contextual (maxDischargeDepth := 40) [h]

@[simp] theorem spareTrackerFails_kept {s : State} {x1 : Nat} {x2 : Bool} (h : Kept a s) : Kept a (spareTrackerFails s x1 x2) := by
  unfold spareTrackerFails
  (repeat' split) <;> simp +contextual (maxDischargeDepth := 40) [h]

@[simp] theorem trackerFails_kept {s : State} {x1 : Nat} {x2 : Bool} (h : Kept a s) : Kept a (trackerFails s x1 x2) := by
  unfold trackerFails
  (repeat' split) <;> simp +contextual (maxDischargeDepth := 40) [h]

end Sys2Proof.Machine
end

