-- ==== Sys2Proof/Laws/KeptCollator.lean ====
section
/-! SUPPORT. What is kept (Laws/Kept) by the operations of the Collator, holds, recovery and the scheduler: one lemma for each. -/

namespace Sys2Proof.Machine

variable {a : Keep}

set_option linter.all false
set_option exponentiation.threshold 1000

/-! ### Collate -/

@[simp] theorem setEntryRun_kept {s : State} {x1 : Nat} {x2 : EntryRun} (h : Kept a s) : Kept a (setEntryRun s x1 x2) := by simp [setEntryRun, h]

@[simp] theorem updEntry_kept {s : State} {x1 : Nat} {x2 : EntryRun → EntryRun} (h : Kept a s) : Kept a (updEntry s x1 x2) := by simp [updEntry, h]

@[simp] theorem updThread_kept {s : State} {x1 : Nat} {x2 : Thread → Thread} (h : Kept a s) : Kept a (updThread s x1 x2) := by simp [updThread, h]

@[simp] theorem gateRaise_kept {s : State} {x1 : Nat} {x2 : Nat} (h : Kept a s) : Kept a (gateRaise s x1 x2) := by simp [gateRaise, h]

@[simp] theorem updTile_kept {s : State} {x1 : Nat} {x2 : Nat} {x3 : Nat} {x4 : Tile → Tile} (h : Kept a s) : Kept a (updTile s x1 x2 x3 x4) := by simp [updTile, h]

@[simp] theorem closeElem_kept {s : State} {x1 : Nat} {x2 : Nat} {x3 : Nat} {x4 : Nat} {x5 : Elem} (h : Kept a s) : Kept a (closeElem s x1 x2 x3 x4 x5) := by
  unfold closeElem; simp +contextual (maxDischargeDepth := 40) [h]

@[simp] theorem feedElem_kept {s : State} {x1 : Nat} {x2 : Nat} {x3 : Nat} {x4 : Nat} {x5 : Addend} (h : Kept a s) : Kept a (feedElem s x1 x2 x3 x4 x5) := by
  unfold feedElem
  (repeat' split) <;> simp +contextual (maxDischargeDepth := 40) [h]

@[simp] theorem startBurst_kept {s : State} {x1 : Nat} {x2 : Nat} {x3 : Nat} (h : Kept a s) : Kept a (startBurst s x1 x2 x3) := by
  unfold startBurst
  (repeat' split) <;> simp +contextual (maxDischargeDepth := 40) [h]

@[simp] theorem feedTile_kept {s : State} {x1 : Nat} {x2 : Nat} {x3 : Nat} {x4 : Packet} (h : Kept a s) : Kept a (feedTile s x1 x2 x3 x4) := by
  unfold feedTile; simp +contextual (maxDischargeDepth := 40) [h]

@[simp] theorem noteStored_kept {s : State} {x1 : Nat} (h : Kept a s) : Kept a (noteStored s x1) := by simp [noteStored, h]

@[simp] theorem makePlace_kept {s : State} {x1 : Nat} (h : Kept a s) : KeptFate a (makePlace s x1) := by
  unfold makePlace
  (try simp only []) <;> (repeat' split) <;> simp +contextual (maxDischargeDepth := 40) [*]

@[simp] theorem pieceGoes_kept {s : State} {x1 : Nat} {x2 : Nat} {x3 : Nat} {x4 : Packet} (h : Kept a s) : KeptFate a (pieceGoes s x1 x2 x3 x4) := by
  unfold pieceGoes
  (try simp only []) <;> (repeat' split) <;> simp +contextual (maxDischargeDepth := 40) [*]

@[simp] theorem offerPiece_kept {s : State} {x1 : Nat} {x2 : Nat} {x3 : Nat} {x4 : Nat} {x5 : Nat} {x6 : Packet} (h : Kept a s) : Kept a (offerPiece s x1 x2 x3 x4 x5 x6) := by
  unfold offerPiece
  (try simp only []) <;> repeat' first
    | (simp +contextual (maxDischargeDepth := 40) [*]; done)
    | (rename_i e; have he := keptFate_of_enters (a := a) (hv := by clear e; simp +contextual (maxDischargeDepth := 40) [*]) e; clear e)
    | (rename_i e; have he := keptFate_of_waits (a := a) (hv := by clear e; simp +contextual (maxDischargeDepth := 40) [*]) e; clear e)
    | split

@[simp] theorem contribArrives_kept {s : State} {x1 : Nat} {x2 : Packet} (h : Kept a s) : Kept a (contribArrives s x1 x2) := by
  unfold contribArrives
  (repeat' split) <;> simp +contextual (maxDischargeDepth := 40) [h]

@[simp] theorem keepRx_kept {s : State} {s1 : State} {x2 : Nat} (h : Kept a s) (h1 : Kept a s1) : Kept a (keepRx s s1 x2) := by
  unfold keepRx
  (try simp only []) <;> (repeat' split) <;> simp +contextual (maxDischargeDepth := 40) [*]

@[simp] theorem dropWait_kept {s : State} {x1 : CollWait} (h : Kept a s) : Kept a (dropWait s x1) := by
  unfold dropWait; simp +contextual (maxDischargeDepth := 40) [h]

@[simp] theorem dropPacket_kept {s : State} {x1 : CollWait} (h : Kept a s) : Kept a (dropPacket s x1) := by
  unfold dropPacket; simp +contextual (maxDischargeDepth := 40) [h]

@[simp] theorem retryWait_kept {s : State} {x1 : CollWait} (h : Kept a s) : Kept a (retryWait s x1) := by
  unfold retryWait
  (try simp only []) <;> repeat' first
    | (simp +contextual (maxDischargeDepth := 40) [*]; done)
    | (rename_i e; have he := keptFate_of_enters (a := a) (hv := by clear e; simp +contextual (maxDischargeDepth := 40) [*]) e; clear e)
    | (rename_i e; have he := keptFate_of_waits (a := a) (hv := by clear e; simp +contextual (maxDischargeDepth := 40) [*]) e; clear e)
    | split

@[simp] theorem retryWaits_kept {s : State} (h : Kept a s) : Kept a (retryWaits s) := by
  unfold retryWaits; simp +contextual (maxDischargeDepth := 40) [h]

@[simp] theorem endMove_kept {s : State} {x1 : Tile} (h : Kept a s) : Kept a (endMove s x1) := by
  unfold endMove; simp +contextual (maxDischargeDepth := 40) [h]

@[simp] theorem tileMoved_kept {s : State} {x1 : Nat} {x2 : Nat} (h : Kept a s) : Kept a (tileMoved s x1 x2) := by
  unfold tileMoved
  (repeat' split) <;> simp +contextual (maxDischargeDepth := 40) [h]

@[simp] theorem pumpTiles_kept {s : State} (h : Kept a s) : Kept a (pumpTiles s) := by
  unfold pumpTiles; simp +contextual (maxDischargeDepth := 40) [h]

@[simp] theorem discardTiles_kept {s : State} {x1 : Nat} (h : Kept a s) : Kept a (discardTiles s x1).1 := by simp [discardTiles, h]

@[simp] theorem fanOut_kept {s : State} {x1 : Nat} {x2 : Nat} {x3 : Nat} (h : Kept a s) : Kept a (fanOut s x1 x2 x3) := by simp [fanOut, h]

@[simp] theorem endEntry_kept {s : State} {e c : Nat} {f : Bool} (h : Kept a s) : Kept a (endEntry s e c f) := by
  unfold endEntry
  extract_lets row
  refine kept_ite (fun _ => h) (fun _ => ?_)
  split
  rename_i s1 held e1
  have h1 : Kept a s1 := kept_of_fst (hv := discardTiles_kept h) e1
  extract_lets r excess st st' pc s2 s3 s4 s5 s6
  have h2 : Kept a s2 := setF_kept h1
  have h3 : Kept a s3 := setEntryRun_kept h2
  have h4 : Kept a s4 := count64_kept h3
  have h5 : Kept a s5 := kept_ite (fun _ => count64_kept h4) (fun _ => h4)
  have h6 : Kept a s6 := by
    simp only [s6]
    split
    · exact traceRecord_kept h5
    · exact h5
  clear_value s6
  exact kept_ite (fun _ => (kept_mk h6).2 ⟨kept_cat h6, kept_mem h6, kept_running h6, kept_ports h6⟩) (fun _ => h6)

@[simp] theorem lateFault_kept {s : State} {x1 : Nat} {x2 : Nat} (h : Kept a s) : Kept a (lateFault s x1 x2) := by
  unfold lateFault; simp +contextual (maxDischargeDepth := 40) [h]

@[simp] theorem endFaulted_kept {s : State} {x1 : Nat} {x2 : Nat} (h : Kept a s) : Kept a (endFaulted s x1 x2) := by
  unfold endFaulted; simp +contextual (maxDischargeDepth := 40) [h]

@[simp] theorem guardedEnds_kept {s : State} (h : Kept a s) : Kept a (guardedEnds s) := by
  unfold guardedEnds; simp +contextual (maxDischargeDepth := 40) [h]

@[simp] theorem runFaults_kept {s : State} {x1 : Access} {x2 : Nat} {x3 : Nat} (h : Kept a s) : Kept a (runFaults s x1 x2 x3) := by
  unfold runFaults; simp +contextual (maxDischargeDepth := 40) [h]

@[simp] theorem burstPerformed_kept {s : State} {x1 : Nat} {x2 : Nat} {x3 : Nat} {x4 : Nat} (h : Kept a s) : Kept a (burstPerformed s x1 x2 x3 x4) := by
  unfold burstPerformed
  (repeat' split) <;> simp +contextual (maxDischargeDepth := 40) [h]

@[simp] theorem finishBurst_kept {s : State} {x1 : Nat} {x2 : Access} {x3 : Nat} {x4 : Nat} {x5 : Nat} {x6 : Nat} (h : Kept a s) : Kept a (finishBurst s x1 x2 x3 x4 x5 x6) := by
  unfold finishBurst; simp +contextual (maxDischargeDepth := 40) [h]

@[simp] theorem burstDone_kept {s : State} {x1 : Nat} {x2 : Nat} (h : Kept a s) : Kept a (burstDone s x1 x2) := by
  unfold burstDone
  (repeat' split) <;> simp +contextual (maxDischargeDepth := 40) [h]

@[simp] theorem spillWaitPassed_kept {s : State} {x1 : Nat} (h : Kept a s) : Kept a (spillWaitPassed s x1) := by
  unfold spillWaitPassed
  (try simp only []) <;> (repeat' split) <;> simp +contextual (maxDischargeDepth := 40) [*]

@[simp] theorem collectiveNotice_kept {s : State} {x1 : Nat} (h : Kept a s) : Kept a (collectiveNotice s x1) := by
  unfold collectiveNotice
  (try simp only []) <;> (repeat' split) <;> simp +contextual (maxDischargeDepth := 40) [*]

@[simp] theorem entryNoticed_kept {s : State} {x1 : Nat} (h : Kept a s) : Kept a (entryNoticed s x1) := by simp [entryNoticed, h]

/-! ### Sequencer -/

@[simp] theorem issueOp_kept {s : State} {e : Nat} {p : Nat → Bool} {f : Thread → Nat → State} (h : Kept a s)
    (hf : ∀ t w, Kept a (f t w)) : Kept a (issueOp s e p f) := by
  unfold issueOp
  split
  · simp only []; split <;> simp [*]
  · exact h

@[simp] theorem putThread_kept {s : State} {x1 : Nat} {x2 : Thread} (h : Kept a s) : Kept a (putThread s x1 x2) := by simp [putThread, h]

@[simp] theorem seqSet_kept {s : State} {x1 : Nat} {x2 : Nat} {x3 : Thread → Nat → Word64} (h : Kept a s) : Kept a (seqSet s x1 x2 x3) := by simp [seqSet, h]

@[simp] theorem takeBranch_kept {s : State} {x1 : Nat} {x2 : Thread} {x3 : Nat} (h : Kept a s) : Kept a (takeBranch s x1 x2 x3) := by
  unfold takeBranch; simp +contextual (maxDischargeDepth := 40) [h]

@[simp] theorem seqBranch_kept {s : State} {x1 : Nat} {x2 : Nat} {x3 : Word64 → Word64 → Bool} (h : Kept a s) : Kept a (seqBranch s x1 x2 x3) := by
  unfold seqBranch; simp +contextual (maxDischargeDepth := 40) [h]

@[simp] theorem threadReads_kept {s : State} {x1 : Nat} {x2 : Thread} {x3 : Nat} {x4 : Nat} {x5 : Nat} {x6 : HostRead} (h : Kept a s) : Kept a (threadReads s x1 x2 x3 x4 x5 x6) := by simp [threadReads, h]

@[simp] theorem finishSeqRead_kept {s : State} {x1 : Nat} {x2 : Access} {x3 : Nat} {x4 : Nat} {x5 : Nat} (h : Kept a s) : Kept a (finishSeqRead s x1 x2 x3 x4 x5) := by
  unfold finishSeqRead; simp +contextual (maxDischargeDepth := 40) [h]

@[simp] theorem seqReadDone_kept {s : State} {x1 : Nat} (h : Kept a s) : Kept a (seqReadDone s x1) := by
  unfold seqReadDone
  (repeat' split) <;> simp +contextual (maxDischargeDepth := 40) [h]

@[simp] theorem updJob_kept {s : State} {x1 : Nat} {x2 : Nat} {x3 : SendJob → SendJob} (h : Kept a s) : Kept a (updJob s x1 x2 x3) := by simp [updJob, h]

@[simp] theorem finishSendRoster_kept {s : State} {x1 : Nat} {x2 : Access} {x3 : Nat} {x4 : Nat} {x5 : Nat} (h : Kept a s) : Kept a (finishSendRoster s x1 x2 x3 x4 x5) := by
  unfold finishSendRoster
  (try simp only []) <;> (repeat' split) <;> simp +contextual (maxDischargeDepth := 40) [*]

@[simp] theorem awaitsLeaving_kept {s : State} {x1 : Nat} (h : Kept a s) : Kept a (awaitsLeaving s x1) := by simp [awaitsLeaving, h]

@[simp] theorem finishSendSource_kept {s : State} {x1 : Nat} {x2 : Access} {x3 : Nat} {x4 : Nat} {x5 : Nat} {x6 : Nat} (h : Kept a s) : Kept a (finishSendSource s x1 x2 x3 x4 x5 x6) := by
  unfold finishSendSource
  (try simp only []) <;> repeat' first
    | (simp +contextual (maxDischargeDepth := 40) [*]; done)
    | (rename_i e; have he := keptSent_of_queued (a := a) (hv := by clear e; simp +contextual (maxDischargeDepth := 40) [*]) e; clear e)
    | (rename_i e; have he := keptSent_of_unreachable (a := a) (hv := by clear e; simp +contextual (maxDischargeDepth := 40) [*]) e; clear e)
    | (rename_i e; have he := keptSent_of_flushed (a := a) (hv := by clear e; simp +contextual (maxDischargeDepth := 40) [*]) e; clear e)
    | split

@[simp] theorem readSource_kept {s : State} {x1 : Nat} {x2 : SendJob} {x3 : Nat} (h : Kept a s) : Kept a (readSource s x1 x2 x3) := by simp [readSource, h]

@[simp] theorem readRoster_kept {s : State} {x1 : Nat} {x2 : SendJob} (h : Kept a s) : Kept a (readRoster s x1 x2) := by simp [readRoster, h]

@[simp] theorem moveSend_kept {s : State} {x1 : Nat} {x2 : SendJob} (h : Kept a s) : Kept a (moveSend s x1 x2) := by
  unfold moveSend
  (repeat' split) <;> simp +contextual (maxDischargeDepth := 40) [h]

@[simp] theorem finishTokenRoster_kept {s : State} {x1 : Nat} {x2 : Access} {x3 : Nat} {x4 : Nat} {x5 : Nat} {x6 : Nat} (h : Kept a s) : Kept a (finishTokenRoster s x1 x2 x3 x4 x5 x6) := by
  unfold finishTokenRoster
  (try simp only []) <;> (repeat' split) <;> simp +contextual (maxDischargeDepth := 40) [*]

@[simp] theorem moveToken_kept {s : State} {x1 : Nat} (h : Kept a s) : Kept a (moveToken s x1) := by
  unfold moveToken
  (repeat' split) <;> simp +contextual (maxDischargeDepth := 40) [h]

@[simp] theorem moveFanout_kept {s : State} (h : Kept a s) : Kept a (moveFanout s) := by
  unfold moveFanout
  (repeat' split) <;> simp +contextual (maxDischargeDepth := 40) [h]

@[simp] theorem pumpThreads_kept {s : State} (h : Kept a s) : Kept a (pumpThreads s) := by
  unfold pumpThreads; simp +contextual (maxDischargeDepth := 40) [h]

@[simp] theorem sendRegs_kept {s : State} {x1 : Thread} {x2 : Nat} (h : Kept a s) : Kept a (sendRegs s x1 x2).2 := by
  unfold sendRegs
  (try simp only []) <;> (repeat' split) <;> simp +contextual (maxDischargeDepth := 40) [*]

@[simp] theorem seqSendOp_kept {s : State} {x1 : Nat} (h : Kept a s) : Kept a (seqSendOp s x1) := by
  unfold seqSendOp; simp +contextual (maxDischargeDepth := 40) [h]

@[simp] theorem seqTokens_kept {s : State} {x1 : Nat} {x2 : Thread} {x3 : Nat} {x4 : Nat} {x5 : Nat} (h : Kept a s) : Kept a (seqTokens s x1 x2 x3 x4 x5) := by simp [seqTokens, h]

@[simp] theorem threadDone_kept {s : State} {x1 : Nat} {x2 : Nat} (h : Kept a s) : Kept a (threadDone s x1 x2) := by simp [threadDone, h]

@[simp] theorem waitMet_kept {s : State} {x1 : Nat} (h : Kept a s) : Kept a (waitMet s x1) := by
  unfold waitMet
  (repeat' split) <;> simp +contextual (maxDischargeDepth := 40) [h]

@[simp] theorem waitExpires_kept {s : State} {x1 : Nat} {x2 : Bool} (h : Kept a s) : Kept a (waitExpires s x1 x2) := by
  unfold waitExpires
  (repeat' split) <;> simp +contextual (maxDischargeDepth := 40) [h]

@[simp] theorem fanoutNext_kept {s : State} {x1 : Fanout} {x2 : List Fanout} (h : Kept a s) : Kept a (fanoutNext s x1 x2) := by simp [fanoutNext, h]

@[simp] theorem fanoutInvokes_kept {s : State} (h : Kept a s) : Kept a (fanoutInvokes s) := by
  unfold fanoutInvokes
  (repeat' split) <;> simp +contextual (maxDischargeDepth := 40) [h]

@[simp] theorem finishFanoutRoster_kept {s : State} {x1 : Nat} {x2 : Access} {x3 : Nat} {x4 : Nat} (h : Kept a s) : Kept a (finishFanoutRoster s x1 x2 x3 x4) := by
  unfold finishFanoutRoster
  (try simp only []) <;> (repeat' split) <;> simp +contextual (maxDischargeDepth := 40) [*]

@[simp] theorem collectiveOpenOp_kept {x0 : Nat} {s : State} (h : Kept a s) : Kept a (collectiveOpenOp x0 s).1 := by
  unfold collectiveOpenOp
  (try simp only []) <;> (repeat' split) <;> simp +contextual (maxDischargeDepth := 40) [*]

@[simp] theorem collectiveStartOp_kept {x0 : Nat} {s : State} (h : Kept a s) : Kept a (collectiveStartOp x0 s).1 := by
  unfold collectiveStartOp
  (try simp only []) <;> (repeat' split) <;> simp +contextual (maxDischargeDepth := 40) [*]

@[simp] theorem collectiveAbortOp_kept {x0 : Requester} {x1 : Nat} {s : State} (h : Kept a s) : Kept a (collectiveAbortOp x0 x1 s).1 := by
  unfold collectiveAbortOp
  (try simp only []) <;> (repeat' split) <;> simp +contextual (maxDischargeDepth := 40) [*]

@[simp] theorem putProgram_kept {s : State} {x1 : Nat} {x2 : Nat} (h : Kept a s) : Kept a (putProgram s x1 x2) := by simp [putProgram, h]

@[simp] theorem programLoaded_kept {x0 : Option (List Byte)} {x1 : Nat} {s : State} (h : Kept a s) : Kept a (programLoaded x0 x1 s).1 := by
  unfold programLoaded
  (try simp only []) <;> (repeat' split) <;> simp +contextual (maxDischargeDepth := 40) [*]

@[simp] theorem programLoadOp_kept {x0 : Option (List Byte)} {s : State} (h : Kept a s) : Kept a (programLoadOp x0 s).1 := by
  unfold programLoadOp
  (try simp only []) <;> (repeat' split) <;> simp +contextual (maxDischargeDepth := 40) [*]

@[simp] theorem programLoadReads_kept {s : State} (h : Kept a s) : Kept a (programLoadReads s).1 := by
  unfold programLoadReads
  (repeat' split) <;> simp +contextual (maxDischargeDepth := 40) [h]

@[simp] theorem sliceSelfTestOp_kept {s : State} (h : Kept a s) : Kept a (sliceSelfTestOp s).1 := by
  unfold sliceSelfTestOp
  (repeat' split) <;> simp +contextual (maxDischargeDepth := 40) [h]

@[simp] theorem selfTestEnds_kept {s : State} {x1 : Bool} (h : Kept a s) : Kept a (selfTestEnds s x1) := by
  unfold selfTestEnds
  (try simp only []) <;> (repeat' split) <;> simp +contextual (maxDischargeDepth := 40) [*]

@[simp] theorem renumber_kept {s : State} {x : List Nat} {k : Nat} (h : Kept a s) : Kept a (renumber s x k) := by
  induction x generalizing s k with
  | nil => simpa [renumber] using h
  | cons y x ih =>
    simp only [renumber]
    split
    · exact ih (by simp [h])
    · split
      · exact ih (by simp [h])
      · exact ih h

@[simp] theorem sliceFails_kept {s : State} {x1 : Nat} {x2 : Nat} (h : Kept a s) : Kept a (sliceFails s x1 x2) := by
  unfold sliceFails
  (try simp only []) <;> (repeat' split) <;> simp +contextual (maxDischargeDepth := 40) [*]

@[simp] theorem substitutionDone_kept {s : State} (h : Kept a s) : Kept a (substitutionDone s) := by
  unfold substitutionDone
  (repeat' split) <;> simp +contextual (maxDischargeDepth := 40) [h]

/-! ### Holds -/

@[simp] theorem holdGiven_kept {s : State} {x1 : Nat} {x2 : Packet} {x3 : List (Nat × Nat)} {x4 : List Nat} (h : Kept a s) : Kept a (holdGiven s x1 x2 x3 x4) := by
  unfold holdGiven
  (try simp only []) <;> (repeat' split) <;> simp +contextual (maxDischargeDepth := 40) [*]

@[simp] theorem probeDecided_kept {p : Nat} {k : Packet} {x : List (Nat × Nat)} {r : State × Admitted} (h : Kept a r.1) :
    Kept a (probeDecided p k x r) := by
  obtain ⟨t, _ | _⟩ := r
  · exact holdGiven_kept h
  · exact sendResponse_kept h

@[simp] theorem probeAdmitted_kept {s : State} {x1 : Nat} {x2 : Packet} (h : Kept a s) : Kept a (probeAdmitted s x1 x2) := by simp [probeAdmitted, h]

@[simp] theorem serveProbes_kept {s : State} (h : Kept a s) : Kept a (serveProbes s) := by
  unfold serveProbes; simp +contextual (maxDischargeDepth := 40) [h]

@[simp] theorem pumpProbes_kept {s : State} (h : Kept a s) : Kept a (pumpProbes s) := by simp [pumpProbes, h]

@[simp] theorem probeArrives_kept {s : State} {p : Nat} {k : Packet} (h : Kept a s) : Kept a (probeArrives s p k) := by simp [probeArrives, h]

@[simp] theorem checkerFreed_kept {s : State} {x1 : Nat} {x2 : Nat} (h : Kept a s) : Kept a (checkerFreed s x1 x2) := by
  unfold checkerFreed; simp +contextual (maxDischargeDepth := 40) [h]

@[simp] theorem endHold_kept {s : State} {x1 : Nat} (h : Kept a s) : Kept a (endHold s x1) := by
  unfold endHold
  (repeat' split) <;> simp +contextual (maxDischargeDepth := 40) [h]

@[simp] theorem holdReleased_kept {s : State} {x1 : Nat} {x2 : Packet} (h : Kept a s) : Kept a (holdReleased s x1 x2) := by
  unfold holdReleased
  (repeat' split) <;> simp +contextual (maxDischargeDepth := 40) [h]

@[simp] theorem noticePostArrives_kept {s : State} {x1 : Nat} {x2 : Packet} (h : Kept a s) : Kept a (noticePostArrives s x1 x2) := by simp [noticePostArrives, h]

/-! ### Recovery -/

@[simp] theorem setCommission_kept {s : State} {x1 : Nat} {x2 : Path} (h : Kept a s) : Kept a (setCommission s x1 x2) := by
  unfold setCommission; simp +contextual (maxDischargeDepth := 40) [h]

@[simp] theorem exceptionSet_kept {x0 : Nat} {x1 : Nat} {s : State} (h : Kept a s) : Kept a (exceptionSet x0 x1 s).1 := by
  unfold exceptionSet
  (try simp only []) <;> (repeat' split) <;> simp +contextual (maxDischargeDepth := 40) [*]

@[simp] theorem exceptionClear_kept {x0 : Nat} {s : State} (h : Kept a s) : Kept a (exceptionClear x0 s).1 := by
  unfold exceptionClear
  (repeat' split) <;> simp +contextual (maxDischargeDepth := 40) [h]

@[simp] theorem fenceLostMarkOp_kept {x0 : Nat} {s : State} (h : Kept a s) : Kept a (fenceLostMarkOp x0 s).1 := by simp [fenceLostMarkOp, h]

@[simp] theorem cancelAccess_kept {s : State} {x1 : Nat} (h : Kept a s) : Kept a (cancelAccess s x1) := by
  unfold cancelAccess; simp +contextual (maxDischargeDepth := 40) [h]

@[simp] theorem dropAccess_kept {s : State} {x1 : Nat} (h : Kept a s) : Kept a (dropAccess s x1) := by
  unfold dropAccess
  (repeat' split) <;> simp +contextual (maxDischargeDepth := 40) [h]

@[simp] theorem freePartitionWindows_kept {s : State} {x1 : Nat} (h : Kept a s) : Kept a (freePartitionWindows s x1) := by
  unfold freePartitionWindows; simp +contextual (maxDischargeDepth := 40) [h]

@[simp] theorem resetIssuers_kept {s : State} {x1 : Nat} (h : Kept a s) : Kept a (resetIssuers s x1) := by
  unfold resetIssuers; simp +contextual (maxDischargeDepth := 40) [h]

@[simp] theorem raisePartition_kept {s : State} {x1 : Nat} (h : Kept a s) : Kept a (raisePartition s x1) := by
  unfold raisePartition; simp +contextual (maxDischargeDepth := 40) [h]

@[simp] theorem partitionRaiseOp_kept {x0 : Nat} {s : State} (h : Kept a s) : Kept a (partitionRaiseOp x0 s).1 := by
  unfold partitionRaiseOp
  (repeat' split) <;> simp +contextual (maxDischargeDepth := 40) [h]

@[simp] theorem enterRetired_kept {s : State} {x1 : Nat} {x2 : Path} (h : Kept a s) : Kept a (enterRetired s x1 x2) := by
  unfold enterRetired; simp +contextual (maxDischargeDepth := 40) [h]

@[simp] theorem retiredNoticeArrives_kept {s : State} {x1 : Packet} (h : Kept a s) : Kept a (retiredNoticeArrives s x1) := by simp [retiredNoticeArrives, h]

@[simp] theorem listContext_kept {s : State} {x1 : Nat} {x2 : Nat} {x3 : Nat} {x4 : Nat} (h : Kept a s) : Kept a (listContext s x1 x2 x3 x4) := by
  unfold listContext
  (repeat' split) <;> simp +contextual (maxDischargeDepth := 40) [h]

@[simp] theorem captureContexts_kept {s : State} {x1 : Nat} {x2 : Nat} (h : Kept a s) : Kept a (captureContexts s x1 x2) := by
  unfold captureContexts; simp +contextual (maxDischargeDepth := 40) [h]

@[simp] theorem dropBurst_kept {s : State} {x1 : Nat} (h : Kept a s) : Kept a (dropBurst s x1) := by
  unfold dropBurst
  (repeat' split) <;> simp +contextual (maxDischargeDepth := 40) [h]

@[simp] theorem cancelQueued_kept {s : State} {x1 : Nat} (h : Kept a s) : Kept a (cancelQueued s x1) := by
  unfold cancelQueued; simp +contextual (maxDischargeDepth := 40) [h]

@[simp] theorem beginReset_kept {s : State} {x1 : Nat} {x2 : Nat} {x3 : Bool} (h : Kept a s) : Kept a (beginReset s x1 x2 x3) := by
  unfold beginReset; simp +contextual (maxDischargeDepth := 40) [h]

@[simp] theorem startReset_kept {s : State} {x1 : Nat} {x2 : Nat} (h : Kept a s) : Kept a (startReset s x1 x2) := by simp [startReset, h]

@[simp] theorem partitionResetOp_kept {x0 : Nat} {s : State} (h : Kept a s) : Kept a (partitionResetOp x0 s).1 := by
  unfold partitionResetOp
  (repeat' split) <;> simp +contextual (maxDischargeDepth := 40) [h]

@[simp] theorem partitionDrains_kept {s : State} {x1 : Nat} (h : Kept a s) : Kept a (partitionDrains s x1) := by
  unfold partitionDrains; simp +contextual (maxDischargeDepth := 40) [h]

@[simp] theorem drainLimitPassed_kept {s : State} {x1 : Nat} (h : Kept a s) : Kept a (drainLimitPassed s x1) := by
  unfold drainLimitPassed; simp +contextual (maxDischargeDepth := 40) [h]

@[simp] theorem mspAbandoned_kept {s : State} {x1 : Nat} (h : Kept a s) : Kept a (mspAbandoned s x1) := by
  unfold mspAbandoned; simp +contextual (maxDischargeDepth := 40) [h]

@[simp] theorem partitionResumes_kept {s : State} {x1 : Nat} (h : Kept a s) : Kept a (partitionResumes s x1) := by
  unfold partitionResumes; simp +contextual (maxDischargeDepth := 40) [h]

@[simp] theorem partitionReadyOp_kept {x0 : Nat} {s : State} (h : Kept a s) : Kept a (partitionReadyOp x0 s).1 := by
  unfold partitionReadyOp
  (repeat' split) <;> simp +contextual (maxDischargeDepth := 40) [h]

@[simp] theorem partitionQuiets_kept {s : State} {x1 : Nat} (h : Kept a s) : Kept a (partitionQuiets s x1) := by
  unfold partitionQuiets; simp +contextual (maxDischargeDepth := 40) [h]

@[simp] theorem hang_kept {s : State} {x1 : Nat} {x2 : Nat} (h : Kept a s) : Kept a (hang s x1 x2) := by
  unfold hang; simp +contextual (maxDischargeDepth := 40) [h]

@[simp] theorem watchdogFinds_kept {s : State} {x1 : WatchdogFinding} (h : Kept a s) : Kept a (watchdogFinds s x1) := by
  unfold watchdogFinds
  (repeat' split) <;> simp +contextual (maxDischargeDepth := 40) [h]

@[simp] theorem setGate_kept {s : State} {x1 : Nat} {x2 : Nat} (h : Kept a s) : Kept a (setGate s x1 x2) := by simp [setGate, h]

@[simp] theorem gateAdmitOp_kept {x0 : Nat} {x1 : Nat} {s : State} (h : Kept a s) : Kept a (gateAdmitOp x0 x1 s).1 := by
  unfold gateAdmitOp
  (repeat' split) <;> simp +contextual (maxDischargeDepth := 40) [h]

@[simp] theorem gateClearOp_kept {x0 : Nat} {x1 : Nat} {s : State} (h : Kept a s) : Kept a (gateClearOp x0 x1 s).1 := by
  unfold gateClearOp
  (repeat' split) <;> simp +contextual (maxDischargeDepth := 40) [h]

@[simp] theorem gateOpenOp_kept {x0 : Nat} {s : State} (h : Kept a s) : Kept a (gateOpenOp x0 s).1 := by
  unfold gateOpenOp
  (repeat' split) <;> simp +contextual (maxDischargeDepth := 40) [h]

@[simp] theorem contextListClearOp_kept {s : State} (h : Kept a s) : Kept a (contextListClearOp s).1 := by
  unfold contextListClearOp
  (repeat' split) <;> simp +contextual (maxDischargeDepth := 40) [h]

/-! ### Sched -/

@[simp] theorem histogram_kept {s : State} {x1 : Nat} {x2 : Nat} {x3 : Nat} (h : Kept a s) : Kept a (histogram s x1 x2 x3) := by simp [histogram, h]

@[simp] theorem recordDelay_kept {s : State} {x1 : Nat} {x2 : TxPacket} (h : Kept a s) : Kept a (recordDelay s x1 x2) := by
  unfold recordDelay
  (repeat' split) <;> simp +contextual (maxDischargeDepth := 40) [h]

@[simp] theorem sendHead_kept {s : State} {x1 : Nat} {x2 : Nat} (h : Kept a s) : Kept a (sendHead s x1 x2) := by
  unfold sendHead
  (repeat' split) <;> simp +contextual (maxDischargeDepth := 40) [h]

@[simp] theorem setDrr_kept {s : State} {x1 : Nat} {x2 : Nat} {x3 : Nat} {x4 : Bool} (h : Kept a s) : Kept a (setDrr s x1 x2 x3 x4) := by simp [setDrr, h]

@[simp] theorem rotateActive_kept {s : State} {x1 : Nat} (h : Kept a s) : Kept a (rotateActive s x1) := by simp [rotateActive, h]

@[simp] theorem drr_kept {n : Nat} {s : State} {p : Nat} (h : Kept a s) : Kept a (drr n s p) := by
  induction n generalizing s with
  | zero => simpa [drr] using h
  | succ n ih =>
    unfold drr
    split
    · exact h
    · split
      · exact ih (setPort_kept (setDrr_kept h))
      · refine kept_ite (fun _ => ih (rotateActive_kept h)) (fun _ => ?_)
        extract_lets turn deficit s1
        have h1 : Kept a s1 := sendHead_kept h
        exact kept_ite (fun _ => kept_ite (fun _ => setPort_kept (setDrr_kept h1)) (fun _ => setDrr_kept h1))
          (fun _ => ih (rotateActive_kept (setDrr_kept h)))

@[simp] theorem schedule_kept {s : State} {x1 : Nat} (h : Kept a s) : Kept a (schedule s x1) := by
  unfold schedule
  (repeat' split) <;> simp +contextual (maxDischargeDepth := 40) [h]

@[simp] theorem refillQueue_kept {x0 : Nat} {s : State} {x2 : Nat} (h : Kept a s) : Kept a (refillQueue x0 s x2) := by simp [refillQueue, h]

@[simp] theorem refillLoan_kept {x0 : Nat} {x1 : Nat} {s : State} {x3 : Nat} (h : Kept a s) : Kept a (refillLoan x0 x1 s x3) := by simp [refillLoan, h]

@[simp] theorem refillPort_kept {s : State} {x1 : Nat} (h : Kept a s) : Kept a (refillPort s x1) := by
  unfold refillPort; simp +contextual (maxDischargeDepth := 40) [h]

@[simp] theorem shaperRefills_kept {s : State} (h : Kept a s) : Kept a (shaperRefills s) := by
  unfold shaperRefills; simp +contextual (maxDischargeDepth := 40) [h]

@[simp] theorem policerRefills_kept {s : State} (h : Kept a s) : Kept a (policerRefills s) := by simp [policerRefills, h]

@[simp] theorem queueConfigured_kept {s : State} {x1 : Nat} {x2 : Nat} {x3 : Nat} (h : Kept a s) : Kept a (queueConfigured s x1 x2 x3) := by
  unfold queueConfigured
  (repeat' split) <;> simp +contextual (maxDischargeDepth := 40) [h]

@[simp] theorem policerWritten_kept {s : State} {x1 : Nat} (h : Kept a s) : Kept a (policerWritten s x1) := by simp [policerWritten, h]

@[simp] theorem depthSamples_kept {s : State} {x1 : Nat} (h : Kept a s) : Kept a (depthSamples s x1) := by
  unfold depthSamples; simp +contextual (maxDischargeDepth := 40) [h]

@[simp] theorem sampleClearOp_kept {x0 : Nat} {s : State} (h : Kept a s) : Kept a (sampleClearOp x0 s).1 := by
  unfold sampleClearOp
  (repeat' split) <;> simp +contextual (maxDischargeDepth := 40) [h]

end Sys2Proof.Machine
end

