-- ==== Sys2Proof/Laws/KeptLink.lean ====
section
/-! SUPPORT. What is kept (Laws/Kept) by the operations of the link, lanes, time, mirror, power and log: one lemma for each. -/

namespace Sys2Proof.Machine

variable {a : Keep}

set_option linter.all false
set_option exponentiation.threshold 1000

/-! ### Mirror -/

@[simp] theorem endRestore_kept {s : State} {x1 : Nat} {x2 : Nat} (h : Kept a s) : Kept a (endRestore s x1 x2) := by
  unfold endRestore
  (repeat' split) <;> simp +contextual (maxDischargeDepth := 40) [h]

@[simp] theorem mgmtRestarts_kept {s : State} (h : Kept a s) : Kept a (mgmtRestarts s) := by
  unfold mgmtRestarts
  split
  · exact h
  · extract_lets t1 t2 t3 t4 t5 t6
    have h2 : Kept a t2 := by simp [t2, t1, h]
    have h3 : Kept a t3 := by
      simp only [t3]
      (repeat' split) <;> simp [h2]
    have h5 : Kept a t5 := forEach_kept (fun _ _ hy => endInvocation_kept hy) (endRestore_kept h3)
    have h6 : Kept a t6 := coreRecord_kept (reportOwn_kept h5)
    exact (kept_mk h6).mpr ⟨kept_cat h6, kept_mem h6, kept_running h6, kept_ports h6⟩

@[simp] theorem endCommitWait_kept {s : State} (h : Kept a s) : Kept a (endCommitWait s) := by
  unfold endCommitWait
  (repeat' split) <;> simp +contextual (maxDischargeDepth := 40) [h]

@[simp] theorem ackCovers_kept {s : State} {x1 : Nat} (h : Kept a s) : Kept a (ackCovers s x1) := by
  unfold ackCovers
  (try simp only []) <;> (repeat' split) <;> simp +contextual (maxDischargeDepth := 40) [*]

@[simp] theorem mirrorAckArrives_kept {s : State} {k : Packet} (h : Kept a s) : Kept a (mirrorAckArrives s k) := by
  unfold mirrorAckArrives; simp +contextual (maxDischargeDepth := 40) [h]

@[simp] theorem mirrorResends_kept {s : State} (h : Kept a s) : Kept a (mirrorResends s) := by
  unfold mirrorResends; simp +contextual (maxDischargeDepth := 40) [h]

@[simp] theorem mirrorLost_kept {s : State} (h : Kept a s) : Kept a (mirrorLost s) := by
  unfold mirrorLost; simp +contextual (maxDischargeDepth := 40) [h]

@[simp] theorem clearTable_kept {s : State} {x1 : Nat} (h : Kept a s) : Kept a (clearTable s x1) := by simp [clearTable, h]

@[simp] theorem putRows_kept {s : State} {c r : Nat} {x : List Nat} (h : Kept a s) : Kept a (putRows s c r x) := by
  induction x generalizing s r with
  | nil => simpa [putRows] using h
  | cons y x ih => simp [putRows, *]

@[simp] theorem clearImage_kept {s : State} (h : Kept a s) : Kept a (clearImage s) := by
  unfold clearImage; simp +contextual (maxDischargeDepth := 40) [h]

@[simp] theorem tailAdd_kept {s : State} {x1 : Nat} (h : Kept a s) : Kept a (tailAdd s x1) := by
  unfold tailAdd; simp +contextual (maxDischargeDepth := 40) [h]

@[simp] theorem imageApply_kept {s : State} {x1 : Packet} (h : Kept a s) : Kept a (imageApply s x1) := by
  unfold imageApply
  (repeat' split) <;> simp +contextual (maxDischargeDepth := 40) [h]

@[simp] theorem ackMirror_kept {s : State} (h : Kept a s) : Kept a (ackMirror s) := by simp [ackMirror, h]

@[simp] theorem mirrorRefused_kept {s : State} (h : Kept a s) : Kept a (mirrorRefused s) := by simp [mirrorRefused, h]

@[simp] theorem mirrorApplies_kept {s : State} {x1 : Packet} (h : Kept a s) : Kept a (mirrorApplies s x1) := by
  unfold mirrorApplies; simp +contextual (maxDischargeDepth := 40) [h]

@[simp] theorem restoreRequested_kept {s : State} {x1 : Packet} (h : Kept a s) : Kept a (restoreRequested s x1) := by
  unfold restoreRequested; simp +contextual (maxDischargeDepth := 40) [h]

@[simp] theorem ackRestore_kept {s : State} {x1 : Restore} {x2 : Nat} (h : Kept a s) : Kept a (ackRestore s x1 x2) := by simp [ackRestore, h]

@[simp] theorem counterpartRestoreOp_kept {x0 : Nat} {x1 : Nat} {x2 : Nat} {s : State} (h : Kept a s) : Kept a (counterpartRestoreOp x0 x1 x2 s).1 := by
  unfold counterpartRestoreOp
  (repeat' split) <;> simp +contextual (maxDischargeDepth := 40) [h]

/-! ### Link -/

@[simp] theorem setTx_kept {s : State} {x1 : Nat} {x2 : Nat} {x3 : Nat} (h : Kept a s) : Kept a (setTx s x1 x2 x3) := by simp [setTx, h]

@[simp] theorem setRx_kept {s : State} {x1 : Nat} {x2 : Nat} {x3 : Nat} (h : Kept a s) : Kept a (setRx s x1 x2 x3) := by simp [setRx, h]

@[simp] theorem queueCmd_kept {s : State} {x1 : Nat} {x2 : Nat} {x3 : Option Nat} (h : Kept a s) : Kept a (queueCmd s x1 x2 x3) := by simp [queueCmd, h]

@[simp] theorem linkError_kept {s : State} {x1 : Nat} (h : Kept a s) : Kept a (linkError s x1) := by
  unfold linkError; simp +contextual (maxDischargeDepth := 40) [h]

@[simp] theorem startLane_kept {s : State} {x1 : Nat} {x2 : Bool} {x3 : Nat} (h : Kept a s) : Kept a (startLane s x1 x2 x3) := by
  unfold startLane; simp +contextual (maxDischargeDepth := 40) [h]

@[simp] theorem startTraining_kept {s : State} {x1 : Nat} {x2 : Bool} (h : Kept a s) : Kept a (startTraining s x1 x2) := by
  unfold startTraining; simp +contextual (maxDischargeDepth := 40) [h]

@[simp] theorem updCut_kept {s : State} {x1 : Nat} {x2 : Packet → RxPlace → Packet × RxPlace} {x3 : TxPacket → TxPacket} (h : Kept a s) : Kept a (updCut s x1 x2 x3) := by simp [updCut, h]

@[simp] theorem feedCut_kept {s : State} {x1 : Nat} {x2 : Nat} {x3 : Nat} (h : Kept a s) : Kept a (feedCut s x1 x2 x3) := by
  unfold feedCut; simp +contextual (maxDischargeDepth := 40) [h]

@[simp] theorem closeCut_kept {s : State} {x1 : Nat} {x2 : Bool} {x3 : Bool} (h : Kept a s) : Kept a (closeCut s x1 x2 x3) := by
  unfold closeCut; simp +contextual (maxDischargeDepth := 40) [h]

@[simp] theorem emptyPort_kept {s : State} {x1 : Nat} (h : Kept a s) : Kept a (emptyPort s x1) := by
  unfold emptyPort; simp +contextual (maxDischargeDepth := 40) [h]

@[simp] theorem flushEvent_kept {s : State} {x1 : Nat} {x2 : Nat} {x3 : Nat} (h : Kept a s) : Kept a (flushEvent s x1 x2 x3) := by simp [flushEvent, h]

@[simp] theorem holdEvent_kept {s : State} {x1 : Nat} {x2 : Nat} {x3 : Nat} (h : Kept a s) : Kept a (holdEvent s x1 x2 x3) := by simp [holdEvent, h]

@[simp] theorem islandWakes_kept {s : State} {x1 : Nat} (h : Kept a s) : Kept a (islandWakes s x1) := by
  unfold islandWakes; simp +contextual (maxDischargeDepth := 40) [h]

@[simp] theorem flushLink_kept {s : State} {x1 : Nat} {x2 : Bool} (h : Kept a s) : Kept a (flushLink s x1 x2) := by
  unfold flushLink
  (repeat' split) <;> simp +contextual (maxDischargeDepth := 40) [h]

@[simp] theorem flushPort_kept {s : State} {x1 : Nat} (h : Kept a s) : Kept a (flushPort s x1) := by
  unfold flushPort; simp +contextual (maxDischargeDepth := 40) [h]

@[simp] theorem holdPort_kept {s : State} {x1 : Nat} (h : Kept a s) : Kept a (holdPort s x1) := by
  unfold holdPort; simp +contextual (maxDischargeDepth := 40) [h]

@[simp] theorem endTest_kept {s : State} {x1 : Nat} {x2 : Nat} {x3 : Nat} (h : Kept a s) : Kept a (endTest s x1 x2 x3) := by
  unfold endTest; simp +contextual (maxDischargeDepth := 40) [h]

@[simp] theorem searchOver_kept {s : State} {x1 : Nat} (h : Kept a s) : Kept a (searchOver s x1) := by simp [searchOver, h]

@[simp] theorem reacquire_kept {s : State} {x1 : Nat} {x2 : Nat} (h : Kept a s) : Kept a (reacquire s x1 x2) := by simp [reacquire, h]

@[simp] theorem seekLane_kept {s : State} {x1 : Nat} {x2 : Nat} (h : Kept a s) : Kept a (seekLane s x1 x2) := by
  unfold seekLane
  (try simp only []) <;> (repeat' split) <;> simp +contextual (maxDischargeDepth := 40) [*]

@[simp] theorem dropWaitLane_kept {s : State} {x1 : Nat} {x2 : Nat} (h : Kept a s) : Kept a (dropWaitLane s x1 x2) := by
  unfold dropWaitLane; simp +contextual (maxDischargeDepth := 40) [h]

@[simp] theorem joinWaitSet_kept {s : State} {x1 : Nat} {x2 : Nat} (h : Kept a s) : Kept a (joinWaitSet s x1 x2) := by
  unfold joinWaitSet; simp +contextual (maxDischargeDepth := 40) [h]

@[simp] theorem trimLanes_kept {s : State} {x1 : Nat} (h : Kept a s) : Kept a (trimLanes s x1) := by
  unfold trimLanes; simp +contextual (maxDischargeDepth := 40) [h]

@[simp] theorem addWaitLane_kept {s : State} {x1 : Nat} {x2 : Nat} (h : Kept a s) : Kept a (addWaitLane s x1 x2) := by
  unfold addWaitLane
  (try simp only []) <;> (repeat' split) <;> simp +contextual (maxDischargeDepth := 40) [*]

@[simp] theorem laneRefused_kept {s : State} {x1 : Nat} {x2 : Nat} {x3 : Nat} (h : Kept a s) : Kept a (laneRefused s x1 x2 x3) := by
  unfold laneRefused
  (repeat' split) <;> simp +contextual (maxDischargeDepth := 40) [h]

@[simp] theorem dropIdle_kept {s : State} {x1 : Nat} {x2 : Nat} (h : Kept a s) : Kept a (dropIdle s x1 x2) := by
  unfold dropIdle
  (try simp only []) <;> (repeat' split) <;> simp +contextual (maxDischargeDepth := 40) [*]

@[simp] theorem answerAdd_kept {s : State} {x1 : Nat} {x2 : Nat} {x3 : Nat} (h : Kept a s) : Kept a (answerAdd s x1 x2 x3) := by
  unfold answerAdd
  (repeat' split) <;> simp +contextual (maxDischargeDepth := 40) [h]

@[simp] theorem answerRemove_kept {s : State} {x1 : Nat} {x2 : Nat} {x3 : Nat} (h : Kept a s) : Kept a (answerRemove s x1 x2 x3) := by
  unfold answerRemove; simp +contextual (maxDischargeDepth := 40) [h]

@[simp] theorem peerAnnounces_kept {s : State} {x1 : Nat} {x2 : Nat} {x3 : Nat} (h : Kept a s) : Kept a (peerAnnounces s x1 x2 x3) := by
  unfold peerAnnounces; simp +contextual (maxDischargeDepth := 40) [h]

@[simp] theorem laneActs_kept {s : State} {x1 : Nat} {x2 : Nat} (h : Kept a s) : Kept a (laneActs s x1 x2) := by
  unfold laneActs; simp +contextual (maxDischargeDepth := 40) [h]

@[simp] theorem idleLanes_kept {s : State} {x1 : Nat} (h : Kept a s) : Kept a (idleLanes s x1) := by
  unfold idleLanes
  refine forEach_kept (fun t y ht => ?_) h
  extract_lets
  (repeat' with_reducible refine kept_ite (fun _ => ?_) (fun _ => ?_)) <;> simp [ht]

@[simp] theorem announcedCovered_kept {s : State} {x1 : Nat} {x2 : Nat} (h : Kept a s) : Kept a (announcedCovered s x1 x2) := by
  unfold announcedCovered
  (try simp only []) <;> repeat' first
    | (simp +contextual (maxDischargeDepth := 40) [*]; done)
    | with_reducible refine forEach_kept (fun t y ht => ?_) ?_
    | split

@[simp] theorem beginReplay_kept {s : State} {x1 : Nat} {x2 : Nat} (h : Kept a s) : Kept a (beginReplay s x1 x2) := by
  unfold beginReplay; simp +contextual (maxDischargeDepth := 40) [h]

@[simp] theorem takeFlitAck_kept {s : State} {x1 : Nat} {x2 : Nat} (h : Kept a s) : Kept a (takeFlitAck s x1 x2) := by
  unfold takeFlitAck; simp +contextual (maxDischargeDepth := 40) [h]

@[simp] theorem takeCredit_kept {s : State} {x1 : Nat} {x2 : Nat} {x3 : Nat} (h : Kept a s) : Kept a (takeCredit s x1 x2 x3) := by
  unfold takeCredit; simp +contextual (maxDischargeDepth := 40) [h]

@[simp] theorem takeNak_kept {s : State} {x1 : Nat} {x2 : Flit} (h : Kept a s) : Kept a (takeNak s x1 x2) := by
  unfold takeNak; simp +contextual (maxDischargeDepth := 40) [h]

@[simp] theorem storePacket_kept {s : State} {x1 : Nat} {x2 : Bool} (h : Kept a s) : Kept a (storePacket s x1 x2) := by
  unfold storePacket; simp +contextual (maxDischargeDepth := 40) [h]

@[simp] theorem loseSlot_kept {s : State} {x1 : Nat} (h : Kept a s) : Kept a (loseSlot s x1) := by
  unfold loseSlot; simp +contextual (maxDischargeDepth := 40) [h]

@[simp] theorem loseHeader_kept {s : State} {x1 : Nat} (h : Kept a s) : Kept a (loseHeader s x1) := by
  unfold loseHeader; simp +contextual (maxDischargeDepth := 40) [h]

@[simp] theorem assembleSlot_kept {s : State} {x1 : Nat} {x2 : Nat} {x3 : Bool} {x4 : Bool} {x5 : Bool} (h : Kept a s) : Kept a (assembleSlot s x1 x2 x3 x4 x5) := by
  unfold assembleSlot; simp +contextual (maxDischargeDepth := 40) [h]

@[simp] theorem forwardSlot_kept {s : State} {x1 : Nat} {x2 : Nat} {x3 : Nat} {x4 : Nat} {x5 : Bool} (h : Kept a s) : Kept a (forwardSlot s x1 x2 x3 x4 x5) := by
  unfold forwardSlot; simp +contextual (maxDischargeDepth := 40) [h]

@[simp] theorem streamSlots_kept {f : Flit} {x : List Nat} {s : State} {p : Nat} (h : Kept a s) : Kept a (streamSlots f x s p) := by
  induction x generalizing s with
  | nil => simpa [streamSlots] using h
  | cons y x ih =>
    simp only [streamSlots]
    apply ih
    (try simp only []); split <;> simp +contextual (maxDischargeDepth := 40) [*]

@[simp] theorem deliverRecords_kept {s : State} {p q : Nat} {x : List Nat} {i : Nat} (h : Kept a s) : Kept a (deliverRecords s p q x i) := by
  induction x generalizing s i with
  | nil => simp [deliverRecords, h]
  | cons y x ih =>
    simp only [deliverRecords]
    apply ih
    split <;> simp [h]

@[simp] theorem deliverFlit_kept {s : State} {x1 : Nat} {x2 : Flit} (h : Kept a s) : Kept a (deliverFlit s x1 x2) := by
  unfold deliverFlit; simp +contextual (maxDischargeDepth := 40) [h]

@[simp] theorem receiveRecords_kept {s : State} {p q o : Nat} {x : List Nat} {i : Nat} (h : Kept a s) : Kept a (receiveRecords s p q o x i) := by
  induction x generalizing s i with
  | nil => simpa [receiveRecords] using h
  | cons y x ih =>
    simp only [receiveRecords]
    apply ih
    split <;> simp [h]

@[simp] theorem gapCheck_kept {s : State} {x1 : Nat} (h : Kept a s) : Kept a (gapCheck s x1) := by
  unfold gapCheck; simp +contextual (maxDischargeDepth := 40) [h]

@[simp] theorem handleFlit_kept {s : State} {p o : Nat} {f : Flit} (h : Kept a s) : Kept a (handleFlit s p o f).1 := by
  unfold handleFlit
  extract_lets s1 s2 s3 older s4 s5 s6
  have h1 : Kept a s1 := by simp [s1, h]
  have h2 : Kept a s2 := by simp [s2, h1]
  have h3 : Kept a s3 := by simp only [s3]; split <;> simp [h2]
  have h4 : Kept a s4 := by simp only [s4]; split <;> simp [h3]
  have h5 : Kept a s5 := by simp [s5, h4]
  clear_value s5
  (repeat' split) <;> first | exact h1 | (simp [h5]; done) | exact gapCheck_kept (setPort_kept h5)

@[simp] theorem mergeLanes_kept {n : Nat} {s : State} {p : Nat} (h : Kept a s) : Kept a (mergeLanes n s p) := by
  induction n generalizing s with
  | zero => simpa [mergeLanes] using h
  | succ n ih =>
    simp only [mergeLanes]
    (repeat' split) <;> first | exact h | (apply ih; simp only [setPort_kept h, gapCheck_kept, deliverFlit_kept, handleFlit_kept]; done)

@[simp] theorem shownActive_kept {s : State} {x1 : Nat} {x2 : Nat} (h : Kept a s) : Kept a (shownActive s x1 x2) := by
  unfold shownActive; simp +contextual (maxDischargeDepth := 40) [h]

@[simp] theorem flitArrives_kept {s : State} {x1 : Nat} {x2 : Nat} {x3 : Nat} {x4 : Bool} (h : Kept a s) : Kept a (flitArrives s x1 x2 x3 x4) := by
  unfold flitArrives
  (try simp only []) <;> (repeat' split) <;> simp +contextual (maxDischargeDepth := 40) [*]

@[simp] theorem fillFlit_kept {n : Nat} {s : State} {p : Nat} {w : Fill} (h : Kept a s) : Kept a (fillFlit n s p w).1 := by
  induction n generalizing s w with
  | zero => simpa [fillFlit] using h
  | succ n ih =>
    simp only [fillFlit]
    split
    · exact h
    · split
      · exact h
      · split
        · exact h
        · split
          · exact h
          · apply ih
            apply freeRx_kept
            split
            · exact setPort_kept h
            · exact setQueue_kept (setPort_kept (recordDelay_kept h))

@[simp] theorem dealFlit_kept {s : State} {x1 : Nat} {x2 : Flit} {x3 : Option Nat} (h : Kept a s) : Kept a (dealFlit s x1 x2 x3) := by
  unfold dealFlit
  (repeat' split) <;> simp +contextual (maxDischargeDepth := 40) [h]

@[simp] theorem sendSequenced_kept {s : State} {x1 : Nat} {x2 : Flit} {x3 : Option Nat} (h : Kept a s) : Kept a (sendSequenced s x1 x2 x3) := by simp [sendSequenced, h]

@[simp] theorem sendControl_kept {s : State} {x1 : Nat} (h : Kept a s) : Kept a (sendControl s x1) := by
  unfold sendControl
  (try simp only []) <;> repeat' first
    | (simp +contextual (maxDischargeDepth := 40) [*]; done)
    | with_reducible refine kept_foldl ?_ (fun t y ht => ?_)
    | split

@[simp] theorem removeFirst_kept {s : State} {x1 : Nat} (h : Kept a s) : Kept a (removeFirst s x1) := by
  unfold removeFirst
  (repeat' split) <;> simp +contextual (maxDischargeDepth := 40) [h]

@[simp] theorem resendFlit_kept {s : State} {x1 : Nat} {x2 : Nat} (h : Kept a s) : Kept a (resendFlit s x1 x2) := by
  unfold resendFlit
  (repeat' split) <;> simp +contextual (maxDischargeDepth := 40) [h]

@[simp] theorem entriesLeft_kept {s : State} {x1 : List Nat} (h : Kept a s) : Kept a (entriesLeft s x1) := by
  unfold entriesLeft
  (try simp only []) <;> repeat' first
    | (simp +contextual (maxDischargeDepth := 40) [*]; done)
    | with_reducible refine forEach_kept (fun t y ht => ?_) ?_
    | split

@[simp] theorem flitLeaves_kept {s : State} {x1 : Nat} (h : Kept a s) : Kept a (flitLeaves s x1) := by
  unfold flitLeaves
  (try simp only []) <;> (repeat' split) <;> simp +contextual (maxDischargeDepth := 40) [*]

@[simp] theorem replayTimesOut_kept {s : State} {x1 : Nat} (h : Kept a s) : Kept a (replayTimesOut s x1) := by
  unfold replayTimesOut
  (repeat' split) <;> simp +contextual (maxDischargeDepth := 40) [h]

@[simp] theorem graceEnds_kept {s : State} {x1 : Nat} (h : Kept a s) : Kept a (graceEnds s x1) := by simp [graceEnds, h]

@[simp] theorem portRetrainOp_kept {x0 : Nat} {s : State} (h : Kept a s) : Kept a (portRetrainOp x0 s).1 := by
  unfold portRetrainOp
  (try simp only []) <;> (repeat' split) <;> simp +contextual (maxDischargeDepth := 40) [*]

@[simp] theorem laneChangeOp_kept {x0 : Nat} {x1 : Nat} {x2 : Bool} {s : State} (h : Kept a s) : Kept a (laneChangeOp x0 x1 x2 s).1 := by
  unfold laneChangeOp
  (repeat' split) <;> simp +contextual (maxDischargeDepth := 40) [h]

/-! ### Clocks -/

@[simp] theorem roundFree_kept {s : State} {x1 : ℤ} {x2 : Nat} (h : Kept a s) : Kept a (roundFree s x1 x2).2 := by
  unfold roundFree
  (try simp only []) <;> (repeat' split) <;> simp +contextual (maxDischargeDepth := 40) [*]

@[simp] theorem steer_kept {s : State} (h : Kept a s) : Kept a (steer s) := by simp [steer, h]

@[simp] theorem nominal_kept {s : State} (h : Kept a s) : Kept a (nominal s) := by simp [nominal, h]

@[simp] theorem stepTime_kept {s : State} {x1 : Nat} (h : Kept a s) : Kept a (stepTime s x1) := by simp [stepTime, h]

@[simp] theorem servo_kept {s : State} {x1 : ℤ} {x2 : Nat} (h : Kept a s) : Kept a (servo s x1 x2) := by
  unfold servo; simp +contextual (maxDischargeDepth := 40) [h]

@[simp] theorem roleBegins_kept {s : State} (h : Kept a s) : Kept a (roleBegins s) := by
  unfold roleBegins
  (try simp only []) <;> (repeat' split) <;> simp +contextual (maxDischargeDepth := 40) [*]

@[simp] theorem parentChanged_kept {s : State} (h : Kept a s) : Kept a (parentChanged s) := by
  unfold parentChanged; simp +contextual (maxDischargeDepth := 40) [h]

@[simp] theorem freeRefusal_kept {s : State} (h : Kept a s) : Kept a (freeRefusal s).1 := by simp [freeRefusal, h]

@[simp] theorem timeSetOp_kept {x0 : Nat} {s : State} (h : Kept a s) : Kept a (timeSetOp x0 s).1 := by
  unfold timeSetOp
  (try simp only []) <;> (repeat' split) <;> simp +contextual (maxDischargeDepth := 40) [*]

@[simp] theorem syncRequest_kept {s : State} {x1 : Nat} (h : Kept a s) : Kept a (syncRequest s x1) := by
  unfold syncRequest
  (repeat' split) <;> simp +contextual (maxDischargeDepth := 40) [h]

@[simp] theorem syncAnswer_kept {s : State} {x1 : Nat} {x2 : Packet} {x3 : Nat} (h : Kept a s) : Kept a (syncAnswer s x1 x2 x3) := by simp [syncAnswer, h]

@[simp] theorem exchanged_kept {s : State} {p t1 t2 t3 t4 : Nat} (h : Kept a s) : Kept a (exchanged s p t1 t2 t3 t4) := servo_kept (set_kept (roundFree_kept (roundFree_kept h)))

@[simp] theorem syncResponse_kept {s : State} {x1 : Nat} {x2 : Packet} {x3 : Nat} (h : Kept a s) : Kept a (syncResponse s x1 x2 x3) := by
  unfold syncResponse
  (repeat' split) <;> simp +contextual (maxDischargeDepth := 40) [h]

@[simp] theorem syncTimesOut_kept {s : State} (h : Kept a s) : Kept a (syncTimesOut s) := by
  unfold syncTimesOut; simp +contextual (maxDischargeDepth := 40) [h]

@[simp] theorem entersHoldover_kept {s : State} (h : Kept a s) : Kept a (entersHoldover s) := by
  unfold entersHoldover; simp +contextual (maxDischargeDepth := 40) [h]

@[simp] theorem markModeChanged_kept {s : State} (h : Kept a s) : Kept a (markModeChanged s) := by
  unfold markModeChanged; simp +contextual (maxDischargeDepth := 40) [h]

@[simp] theorem markBoundary_kept {s : State} (h : Kept a s) : Kept a (markBoundary s) := by simp [markBoundary, h]

@[simp] theorem markWidthOver_kept {s : State} (h : Kept a s) : Kept a (markWidthOver s) := by simp [markWidthOver, h]

@[simp] theorem markEdge_kept {s : State} (h : Kept a s) : Kept a (markEdge s) := by
  unfold markEdge; simp +contextual (maxDischargeDepth := 40) [h]

@[simp] theorem markStops_kept {s : State} (h : Kept a s) : Kept a (markStops s) := by simp [markStops, h]

/-! ### Debug -/

@[simp] theorem odcClearOp_kept {x0 : Nat} {s : State} (h : Kept a s) : Kept a (odcClearOp x0 s).1 := by
  unfold odcClearOp; simp +contextual (maxDischargeDepth := 40) [h]

@[simp] theorem snapshotTakeOp_kept {x0 : Nat} {x1 : Nat} {s : State} (h : Kept a s) : Kept a (snapshotTakeOp x0 x1 s).1 := by
  unfold snapshotTakeOp
  (repeat' split) <;> simp +contextual (maxDischargeDepth := 40) [h]

@[simp] theorem fillRows_kept {s : State} {c r : Nat} {x : List Nat} (h : Kept a s) : Kept a (fillRows s c r x) := by
  induction x generalizing s r with
  | nil => simpa [fillRows] using h
  | cons y x ih => simp [fillRows, *]

@[simp] theorem snapshotTaken_kept {s : State} (h : Kept a s) : Kept a (snapshotTaken s) := by
  unfold snapshotTaken
  (repeat' split) <;> simp +contextual (maxDischargeDepth := 40) [h]

@[simp] theorem globalStopOp_kept {s : State} (h : Kept a s) : Kept a (globalStopOp s).1 := by
  unfold globalStopOp
  (repeat' split) <;> simp +contextual (maxDischargeDepth := 40) [h]

@[simp] theorem putScan_kept {s : State} {c f l n b : Nat} (h : Kept a s) : Kept a (putScan s c f l n b) := by
  induction n generalizing s f l b with
  | zero => simpa [putScan] using h
  | succ n ih =>
    simp only [putScan]
    split
    · exact h
    · exact ih (by simp [h])

@[simp] theorem scanReadOp_kept {x0 : Nat} {x1 : Nat} {s : State} (h : Kept a s) : Kept a (scanReadOp x0 x1 s).1 := by
  unfold scanReadOp
  (try simp only []) <;> (repeat' split) <;> simp +contextual (maxDischargeDepth := 40) [*]

@[simp] theorem tapBypass_kept {s : State} {x1 : Bool} (h : Kept a s) : Kept a (tapBypass s x1) := by simp [tapBypass, h]

@[simp] theorem tapIdcode_kept {s : State} (h : Kept a s) : Kept a (tapIdcode s) := by simp [tapIdcode, h]

@[simp] theorem boundaryScan_kept {s : State} {x1 : Nat} {x2 : Nat} (h : Kept a s) : Kept a (boundaryScan s x1 x2) := by simp [boundaryScan, h]

@[simp] theorem tapSample_kept {s : State} {x1 : Nat} (h : Kept a s) : Kept a (tapSample s x1) := by simp [tapSample, h]

@[simp] theorem tapSelect_kept {s : State} {x1 : Nat} (h : Kept a s) : Kept a (tapSelect s x1) := by simp [tapSelect, h]

@[simp] theorem tapScan_kept {s : State} {x1 : Nat} (h : Kept a s) : Kept a (tapScan s x1) := by simp [tapScan, h]

@[simp] theorem tapExtest_kept {s : State} {x1 : Nat} (h : Kept a s) : Kept a (tapExtest s x1) := by simp [tapExtest, h]

/-! ### Lanes -/

@[simp] theorem answerTaps_kept {s : State} {x1 : Nat} {x2 : Nat} {x3 : Nat} {x4 : Nat} (h : Kept a s) : Kept a (answerTaps s x1 x2 x3 x4) := by
  unfold answerTaps
  (repeat' split) <;> simp +contextual (maxDischargeDepth := 40) [h]

@[simp] theorem takeEqRequest_kept {s : State} {x1 : Nat} {x2 : Nat} {x3 : Nat} (h : Kept a s) : Kept a (takeEqRequest s x1 x2 x3) := by
  unfold takeEqRequest; simp +contextual (maxDischargeDepth := 40) [h]

@[simp] theorem showStage_kept {s : State} {x1 : Nat} (h : Kept a s) : Kept a (showStage s x1) := by simp [showStage, h]

@[simp] theorem tellOnce_kept {s : State} {x1 : Nat} {x2 : State → State} (h : Kept a s) (hf : ∀ t, Kept a t → Kept a (x2 t)) : Kept a (tellOnce s x1 x2) := by
  unfold tellOnce
  (try simp only []) <;> (repeat' split) <;> simp +contextual (maxDischargeDepth := 40) [*]

@[simp] theorem retrainStarts_kept {s : State} {x1 : Nat} (h : Kept a s) : Kept a (retrainStarts s x1) := by simp [retrainStarts, h]

@[simp] theorem loseLane_kept {s : State} {x1 : Nat} {x2 : Nat} {x3 : Nat} (h : Kept a s) : Kept a (loseLane s x1 x2 x3) := by
  unfold loseLane; simp +contextual (maxDischargeDepth := 40) [h]

@[simp] theorem laneFails_kept {s : State} {p k i r : Nat} (h : Kept a s) : Kept a (laneFails s p k i r) := by
  unfold laneFails; simp +contextual (maxDischargeDepth := 40) [h]

@[simp] theorem laneLost_kept {s : State} {x1 : Nat} {x2 : Nat} {x3 : Nat} {x4 : Nat} (h : Kept a s) : Kept a (laneLost s x1 x2 x3 x4) := by
  unfold laneLost; simp +contextual (maxDischargeDepth := 40) [h]

@[simp] theorem losAsserts_kept {s : State} {x1 : Nat} {x2 : Nat} {x3 : Bool} (h : Kept a s) : Kept a (losAsserts s x1 x2 x3) := by
  unfold losAsserts; simp +contextual (maxDischargeDepth := 40) [h]

@[simp] theorem lolAsserts_kept {s : State} {x1 : Nat} {x2 : Nat} (h : Kept a s) : Kept a (lolAsserts s x1 x2) := by
  unfold lolAsserts; simp +contextual (maxDischargeDepth := 40) [h]

@[simp] theorem fillersMissing_kept {s : State} {x1 : Nat} {x2 : Nat} {x3 : Nat} (h : Kept a s) : Kept a (fillersMissing s x1 x2 x3) := by
  unfold fillersMissing; simp +contextual (maxDischargeDepth := 40) [h]

@[simp] theorem badCodeword_kept {s : State} {x1 : Nat} {x2 : Nat} {x3 : Nat} (h : Kept a s) : Kept a (badCodeword s x1 x2 x3) := by
  unfold badCodeword; simp +contextual (maxDischargeDepth := 40) [h]

@[simp] theorem nextEqRequest_kept {s : State} {x1 : Nat} {x2 : Nat} {x3 : Bool} (h : Kept a s) : Kept a (nextEqRequest s x1 x2 x3) := by simp [nextEqRequest, h]

@[simp] theorem judgeOrder_kept {s : State} {x1 : Nat} (h : Kept a s) : Kept a (judgeOrder s x1) := by
  unfold judgeOrder
  (try simp only []) <;> (repeat' split) <;> simp +contextual (maxDischargeDepth := 40) [*]

@[simp] theorem blockDetects_kept {s : State} {x1 : Nat} {x2 : Nat} {x3 : Nat} {x4 : Bool} (h : Kept a s) : Kept a (blockDetects s x1 x2 x3 x4) := by
  unfold blockDetects; simp +contextual (maxDischargeDepth := 40) [h]

@[simp] theorem blockEqualises_kept {s : State} {x1 : Nat} {x2 : Nat} {x3 : Nat} (h : Kept a s) : Kept a (blockEqualises s x1 x2 x3) := by
  unfold blockEqualises; simp +contextual (maxDischargeDepth := 40) [h]

@[simp] theorem blockArrives_kept {s : State} {x1 : Nat} {x2 : Nat} {x3 : Nat} (h : Kept a s) : Kept a (blockArrives s x1 x2 x3) := by
  unfold blockArrives
  (try simp only []) <;> (repeat' split) <;> simp +contextual (maxDischargeDepth := 40) [*]

@[simp] theorem leaveOut_kept {x0 : Nat} {x1 : Nat} {s : State} {x3 : Nat} (h : Kept a s) : Kept a (leaveOut x0 x1 s x3) := by simp [leaveOut, h]

@[simp] theorem takeSession_kept {s : State} {x1 : Nat} (h : Kept a s) : Kept a (takeSession s x1) := by
  unfold takeSession; simp +contextual (maxDischargeDepth := 40) [h]

@[simp] theorem enterStage5_kept {s : State} {x1 : Nat} (h : Kept a s) : Kept a (enterStage5 s x1) := by
  unfold enterStage5
  (try simp only []) <;> (repeat' split) <;> simp +contextual (maxDischargeDepth := 40) [*]

@[simp] theorem endStage5_kept {s : State} {x1 : Nat} (h : Kept a s) : Kept a (endStage5 s x1) := by
  unfold endStage5; simp +contextual (maxDischargeDepth := 40) [h]

@[simp] theorem linkChanged_kept {s : State} {x1 : Nat} (h : Kept a s) : Kept a (linkChanged s x1) := by
  unfold linkChanged; simp +contextual (maxDischargeDepth := 40) [h]

@[simp] theorem endStage6_kept {s : State} {x1 : Nat} {x2 : Nat} (h : Kept a s) : Kept a (endStage6 s x1 x2) := by
  unfold endStage6; simp +contextual (maxDischargeDepth := 40) [h]

@[simp] theorem endStage7_kept {s : State} {x1 : Nat} (h : Kept a s) : Kept a (endStage7 s x1) := by
  unfold endStage7; simp +contextual (maxDischargeDepth := 40) [h]

@[simp] theorem advanceTraining_kept {s : State} {x1 : Nat} (h : Kept a s) : Kept a (advanceTraining s x1) := by
  unfold advanceTraining
  (try simp only []) <;> (repeat' split) <;> simp +contextual (maxDischargeDepth := 40) [*]

@[simp] theorem addAnswered_kept {s : State} {x1 : Nat} {x2 : Nat} (h : Kept a s) : Kept a (addAnswered s x1 x2) := by
  unfold addAnswered
  (repeat' split) <;> simp +contextual (maxDischargeDepth := 40) [h]

@[simp] theorem takePlate_kept {s : State} {x1 : Nat} {x2 : Nat} {x3 : Nat} (h : Kept a s) : Kept a (takePlate s x1 x2 x3) := by
  unfold takePlate; simp +contextual (maxDischargeDepth := 40) [h]

@[simp] theorem takeProbe_kept {s : State} {x1 : Nat} {x2 : Nat} {x3 : Nat} (h : Kept a s) : Kept a (takeProbe s x1 x2 x3) := by simp [takeProbe, h]

@[simp] theorem endPlaces_kept {s : State} {x1 : Nat} (h : Kept a s) : Kept a (endPlaces s x1) := by simp [endPlaces, h]

@[simp] theorem newCounts_kept {s : State} {x1 : Nat} (h : Kept a s) : Kept a (newCounts s x1) := by simp [newCounts, h]

@[simp] theorem goUp_kept {s : State} {x1 : Nat} (h : Kept a s) : Kept a (goUp s x1) := by
  unfold goUp; simp +contextual (maxDischargeDepth := 40) [h]

@[simp] theorem trainingCompletes_kept {s : State} {x1 : Nat} (h : Kept a s) : Kept a (trainingCompletes s x1) := by
  unfold trainingCompletes; simp +contextual (maxDischargeDepth := 40) [h]

@[simp] theorem relockLane_kept {s : State} {x1 : Nat} {x2 : Nat} (h : Kept a s) : Kept a (relockLane s x1 x2) := by
  unfold relockLane; simp +contextual (maxDischargeDepth := 40) [h]

@[simp] theorem lockLane_kept {s : State} {x1 : Nat} {x2 : Nat} {x3 : Nat} {x4 : Nat} (h : Kept a s) : Kept a (lockLane s x1 x2 x3 x4) := by simp [lockLane, h]

@[simp] theorem wokenLane_kept {s : State} {x1 : Nat} {x2 : Nat} (h : Kept a s) : Kept a (wokenLane s x1 x2) := by
  unfold wokenLane; simp +contextual (maxDischargeDepth := 40) [h]

@[simp] theorem codewordArrives_kept {s : State} {x1 : Nat} {x2 : Nat} {x3 : Nat} {x4 : Nat} (h : Kept a s) : Kept a (codewordArrives s x1 x2 x3 x4) := by
  unfold codewordArrives
  (try simp only []) <;> (repeat' split) <;> simp +contextual (maxDischargeDepth := 40) [*]

@[simp] theorem trainingLimit_kept {s : State} {x1 : Nat} (h : Kept a s) : Kept a (trainingLimit s x1) := by
  unfold trainingLimit; simp +contextual (maxDischargeDepth := 40) [h]

@[simp] theorem stageTimesOut_kept {s : State} {x1 : Nat} {x2 : Nat} (h : Kept a s) : Kept a (stageTimesOut s x1 x2) := by
  unfold stageTimesOut; simp +contextual (maxDischargeDepth := 40) [h]

@[simp] theorem fastLimit_kept {s : State} {x1 : Nat} (h : Kept a s) : Kept a (fastLimit s x1) := by
  unfold fastLimit; simp +contextual (maxDischargeDepth := 40) [h]

@[simp] theorem laneRetries_kept {s : State} {x1 : Nat} {x2 : Nat} (h : Kept a s) : Kept a (laneRetries s x1 x2) := by
  unfold laneRetries; simp +contextual (maxDischargeDepth := 40) [h]

@[simp] theorem laneWakes_kept {s : State} {x1 : Nat} {x2 : Nat} (h : Kept a s) : Kept a (laneWakes s x1 x2) := by
  unfold laneWakes; simp +contextual (maxDischargeDepth := 40) [h]

@[simp] theorem widthWritten_kept {s : State} {x1 : Nat} (h : Kept a s) : Kept a (widthWritten s x1) := by
  unfold widthWritten; simp +contextual (maxDischargeDepth := 40) [h]

@[simp] theorem idleWritten_kept {s : State} {x1 : Nat} (h : Kept a s) : Kept a (idleWritten s x1) := by simp [idleWritten, h]

@[simp] theorem tapsWritten_kept {s : State} {x1 : Nat} {x2 : Nat} (h : Kept a s) : Kept a (tapsWritten s x1 x2) := by simp [tapsWritten, h]

@[simp] theorem patternWritten_kept {s : State} {x1 : Nat} {x2 : Nat} (h : Kept a s) : Kept a (patternWritten s x1 x2) := by simp [patternWritten, h]

@[simp] theorem frameBegins_kept {x0 : Nat} {s : State} {x2 : Nat} (h : Kept a s) : Kept a (frameBegins x0 s x2) := by
  unfold frameBegins
  (repeat' split) <;> simp +contextual (maxDischargeDepth := 40) [h]

@[simp] theorem framesBegin_kept {s : State} {x1 : Nat} (h : Kept a s) : Kept a (framesBegin s x1) := by
  unfold framesBegin; simp +contextual (maxDischargeDepth := 40) [h]

@[simp] theorem checkerLocks_kept {s : State} {x1 : Nat} {x2 : Nat} (h : Kept a s) : Kept a (checkerLocks s x1 x2) := by simp [checkerLocks, h]

@[simp] theorem checkerCounts_kept {s : State} {x1 : Nat} {x2 : Nat} {x3 : Nat} {x4 : Nat} (h : Kept a s) : Kept a (checkerCounts s x1 x2 x3 x4) := by simp [checkerCounts, h]

@[simp] theorem checkerLoses_kept {s : State} {x1 : Nat} {x2 : Nat} {x3 : Nat} {x4 : Nat} (h : Kept a s) : Kept a (checkerLoses s x1 x2 x3 x4) := by
  unfold checkerLoses; simp +contextual (maxDischargeDepth := 40) [h]

@[simp] theorem checkerDone_kept {s : State} {x1 : Nat} {x2 : Nat} {x3 : Checking} (h : Kept a s) : Kept a (checkerDone s x1 x2 x3) := by
  unfold checkerDone; simp +contextual (maxDischargeDepth := 40) [h]

@[simp] theorem generatorCycle_kept {s : State} {x1 : Nat} {x2 : Nat} {x3 : Bool} {x4 : Nat} (h : Kept a s) : Kept a (generatorCycle s x1 x2 x3 x4) := by
  unfold generatorCycle; simp +contextual (maxDischargeDepth := 40) [h]

@[simp] theorem receivedCycle_kept {s : State} {x1 : Nat} {x2 : Nat} (h : Kept a s) : Kept a (receivedCycle s x1 x2) := by simp [receivedCycle, h]

@[simp] theorem checkerCycle_kept {x0 : Nat} {s : State} {x2 : Nat} (h : Kept a s) : Kept a (checkerCycle x0 s x2) := by
  unfold checkerCycle; simp +contextual (maxDischargeDepth := 40) [h]

@[simp] theorem codewordCycle_kept {x0 : Nat} {s : State} {x2 : Nat} (h : Kept a s) : Kept a (codewordCycle x0 s x2) := by
  unfold codewordCycle; simp +contextual (maxDischargeDepth := 40) [h]

@[simp] theorem injects_kept {s : State} {x1 : Nat} {x2 : Nat} (h : Kept a s) : Kept a (injects s x1 x2) := by
  unfold injects; simp +contextual (maxDischargeDepth := 40) [h]

@[simp] theorem laneTestOp_kept {x0 : Nat} {x1 : Nat} {x2 : Nat} {x3 : Nat} {s : State} (h : Kept a s) : Kept a (laneTestOp x0 x1 x2 x3 s).1 := by
  unfold laneTestOp
  extract_lets l asleep s1 s2 s3
  have h1 : Kept a s1 := by simp only [s1]; split <;> simp [h]
  have h2 : Kept a s2 := by simp [s2, h1]
  have h3 : Kept a s3 := by simp only [s3]; split <;> simp [h2]
  clear_value s3
  (repeat' split) <;> simp [h, h3]

@[simp] theorem laneTestEnds_kept {s : State} {x1 : Nat} {x2 : Nat} (h : Kept a s) : Kept a (laneTestEnds s x1 x2) := by simp [laneTestEnds, h]

/-! ### Log -/

@[simp] theorem loseUndrained_kept {s : State} (h : Kept a s) : Kept a (loseUndrained s) := by
  unfold loseUndrained; simp +contextual (maxDischargeDepth := 40) [h]

@[simp] theorem noteCommit_kept {s : State} {x1 : Nat} {x2 : Nat} (h : Kept a s) : Kept a (noteCommit s x1 x2) := by
  unfold noteCommit
  (repeat' split) <;> simp +contextual (maxDischargeDepth := 40) [h]

@[simp] theorem putRecord_kept {s : State} {x1 : Nat} (h : Kept a s) : Kept a (putRecord s x1) := by
  unfold putRecord; simp +contextual (maxDischargeDepth := 40) [h]

@[simp] theorem formRecord_kept {s : State} (h : Kept a s) : Kept a (formRecord s) := by
  unfold formRecord
  (repeat' split) <;> simp +contextual (maxDischargeDepth := 40) [h]

@[simp] theorem writeGap_kept {s : State} (h : Kept a s) : Kept a (writeGap s) := by
  unfold writeGap
  (try simp only []) <;> (repeat' split) <;> simp +contextual (maxDischargeDepth := 40) [*]

@[simp] theorem drainStep_kept {s : State} (h : Kept a s) : Kept a (drainStep s) := by
  unfold drainStep; simp +contextual (maxDischargeDepth := 40) [h]

@[simp] theorem drainFault_kept {s : State} {x1 : Access} (h : Kept a s) : Kept a (drainFault s x1) := by simp [drainFault, h]

@[simp] theorem drainAgain_kept {s : State} (h : Kept a s) : Kept a (drainAgain s) := by
  unfold drainAgain
  (repeat' split) <;> simp +contextual (maxDischargeDepth := 40) [h]

@[simp] theorem finishDrain_kept {s : State} {x1 : Nat} {x2 : Access} (h : Kept a s) : Kept a (finishDrain s x1 x2) := by
  unfold finishDrain; simp +contextual (maxDischargeDepth := 40) [h]

@[simp] theorem finishDrainConsumed_kept {s : State} {x1 : Nat} {x2 : Access} (h : Kept a s) : Kept a (finishDrainConsumed s x1 x2) := by
  unfold finishDrainConsumed; simp +contextual (maxDischargeDepth := 40) [h]

@[simp] theorem drainConfigured_kept {s : State} {x1 : Nat} (h : Kept a s) : Kept a (drainConfigured s x1) := by simp [drainConfigured, h]

/-! ### Power -/

@[simp] theorem powerFault_kept {s : State} (h : Kept a s) : Kept a (powerFault s) := by simp [powerFault, h]

@[simp] theorem setPower_kept {s : State} {x1 : Nat} {x2 : Bool} (h : Kept a s) : Kept a (setPower s x1 x2) := by simp [setPower, h]

@[simp] theorem untrain_kept {s : State} {x1 : Nat} {x2 : List Nat} (h : Kept a s) : Kept a (untrain s x1 x2) := by
  unfold untrain; simp +contextual (maxDischargeDepth := 40) [h]

@[simp] theorem enginesOff_kept {s : State} (h : Kept a s) : Kept a (enginesOff s) := by simp [enginesOff, h]

@[simp] theorem stopDomain_kept {s : State} {x1 : Nat} (h : Kept a s) : Kept a (stopDomain s x1) := by
  unfold stopDomain; simp +contextual (maxDischargeDepth := 40) [h]

@[simp] theorem zeroGroup_kept {s : State} {x1 : Nat} (h : Kept a s) : Kept a (zeroGroup s x1) := by simp [zeroGroup, h]

@[simp] theorem beginTraining_kept {s : State} {x1 : Nat} (h : Kept a s) : Kept a (beginTraining s x1) := by simp [beginTraining, h]

@[simp] theorem wakePort_kept {s : State} {x1 : Nat} (h : Kept a s) : Kept a (wakePort s x1) := by
  unfold wakePort; simp +contextual (maxDischargeDepth := 40) [h]

@[simp] theorem wakeDomain_kept {s : State} {x1 : Nat} (h : Kept a s) : Kept a (wakeDomain s x1) := by
  unfold wakeDomain; simp +contextual (maxDischargeDepth := 40) [h]

@[simp] theorem sequencePower_kept {s : State} (h : Kept a s) : Kept a (sequencePower s) := by
  unfold sequencePower
  (repeat' split) <;> simp +contextual (maxDischargeDepth := 40) [h]

@[simp] theorem powerAcked_kept {s : State} {x1 : Nat} {x2 : Bool} (h : Kept a s) : Kept a (powerAcked s x1 x2) := by
  unfold powerAcked; simp +contextual (maxDischargeDepth := 40) [h]

@[simp] theorem powerAckLimit_kept {s : State} {x1 : Nat} (h : Kept a s) : Kept a (powerAckLimit s x1) := by
  unfold powerAckLimit
  (repeat' split) <;> simp +contextual (maxDischargeDepth := 40) [h]

@[simp] theorem targetWritten_kept {s : State} {x1 : Nat} (h : Kept a s) : Kept a (targetWritten s x1) := by
  unfold targetWritten; simp +contextual (maxDischargeDepth := 40) [h]

@[simp] theorem cutRecords_kept {s : State} (h : Kept a s) : Kept a (cutRecords s) := by
  unfold cutRecords; simp +contextual (maxDischargeDepth := 40) [h]

@[simp] theorem cutDrain_kept {s : State} (h : Kept a s) : Kept a (cutDrain s) := by simp [cutDrain, h]

@[simp] theorem leaveService_kept {s : State} (h : Kept a s) : Kept a (leaveService s) := by
  unfold leaveService; simp +contextual (maxDischargeDepth := 40) [h]

@[simp] theorem resetBlock_kept {s : State} (h : Kept a s) : Kept a (resetBlock s) := by
  unfold resetBlock
  have ht : Kept a (cutDrain (cutRecords (leaveService s))) := cutDrain_kept (cutRecords_kept (leaveService_kept h))
  generalize cutDrain (cutRecords (leaveService s)) = t at ht ⊢
  exact set_kept (set_kept ⟨ht.part, ht.pending, rfl, filter_sorted _ _ ht.store, Nat.zero_le _, rfl⟩)

@[simp] theorem wholeReset_kept {s : State} (h : Kept a s) : Kept a (wholeReset s) := by
  unfold wholeReset; simp +contextual (maxDischargeDepth := 40) [h]

@[simp] theorem porFalls_kept {s : State} (h : Kept a s) : Kept a (porFalls s) := by
  unfold porFalls
  refine set_kept ?_
  exact ⟨h.part, h.pending, rfl, rfl, Nat.zero_le _, rfl⟩

@[simp] theorem porRises_kept {s : State} (h : Kept a s) : Kept a (porRises s) := by
  unfold porRises; simp +contextual (maxDischargeDepth := 40) [h]

@[simp] theorem blockFalls_kept {s : State} (h : Kept a s) : Kept a (blockFalls s) := by
  unfold blockFalls; simp +contextual (maxDischargeDepth := 40) [h]

@[simp] theorem blockRises_kept {s : State} (h : Kept a s) : Kept a (blockRises s) := by
  unfold blockRises; simp +contextual (maxDischargeDepth := 40) [h]

@[simp] theorem partFalls_kept {s : State} {x1 : Nat} (h : Kept a s) : Kept a (partFalls s x1) := by
  unfold partFalls; simp +contextual (maxDischargeDepth := 40) [h]

@[simp] theorem partRises_kept {s : State} {x1 : Nat} (h : Kept a s) : Kept a (partRises s x1) := by simp [partRises, h]

@[simp] theorem thermalSampled_kept {s : State} {x1 : Nat} {x2 : Nat} (h : Kept a s) : Kept a (thermalSampled s x1 x2) := by
  unfold thermalSampled; simp +contextual (maxDischargeDepth := 40) [h]

@[simp] theorem clearBits_kept {s : State} {x1 : Nat} {x2 : Nat} {x3 : Nat} (h : Kept a s) : Kept a (clearBits s x1 x2 x3) := by simp [clearBits, h]

@[simp] theorem thermalAlarmClearOp_kept {x0 : Nat} {s : State} (h : Kept a s) : Kept a (thermalAlarmClearOp x0 s).1 := by simp [thermalAlarmClearOp, h]

@[simp] theorem thermalMaxClearOp_kept {s : State} (h : Kept a s) : Kept a (thermalMaxClearOp s).1 := by
  unfold thermalMaxClearOp; simp +contextual (maxDischargeDepth := 40) [h]

@[simp] theorem powerFaultClearOp_kept {s : State} (h : Kept a s) : Kept a (powerFaultClearOp s).1 := by simp [powerFaultClearOp, h]

@[simp] theorem faultAttentionClearOp_kept {x0 : Nat} {s : State} (h : Kept a s) : Kept a (faultAttentionClearOp x0 s).1 := by simp [faultAttentionClearOp, h]

@[simp] theorem firmwareChecked_kept {s : State} {x1 : Option (List Byte)} (h : Kept a s) : Kept a (firmwareChecked s x1).1 := by
  unfold firmwareChecked
  (repeat' split) <;> simp +contextual (maxDischargeDepth := 40) [h]

@[simp] theorem firmwareLoadOp_kept {x0 : Option (List Byte)} {s : State} (h : Kept a s) : Kept a (firmwareLoadOp x0 s).1 := by
  unfold firmwareLoadOp
  (try simp only []) <;> (repeat' split) <;> simp +contextual (maxDischargeDepth := 40) [*]

@[simp] theorem readImage_kept {s : State} {x1 : Nat} (h : Kept a s) : Kept a (readImage s x1) := by simp [readImage, h]

@[simp] theorem firmwareLoadReads_kept {s : State} (h : Kept a s) : Kept a (firmwareLoadReads s).1 := by
  unfold firmwareLoadReads
  (repeat' split) <;> simp +contextual (maxDischargeDepth := 40) [h]

@[simp] theorem finishFirmware_kept {s : State} {x1 : Nat} {x2 : Access} (h : Kept a s) : Kept a (finishFirmware s x1 x2) := by
  unfold finishFirmware
  (try simp only []) <;> (repeat' split) <;> simp +contextual (maxDischargeDepth := 40) [*]

@[simp] theorem finishProgram_kept {s : State} {x1 : Nat} {x2 : Access} {x3 : Nat} (h : Kept a s) : Kept a (finishProgram s x1 x2 x3) := by
  unfold finishProgram; simp +contextual (maxDischargeDepth := 40) [h]

@[simp] theorem firmwareStarts_kept {s : State} (h : Kept a s) : Kept a (firmwareStarts s) := by
  unfold firmwareStarts
  (repeat' split) <;> simp +contextual (maxDischargeDepth := 40) [h]

@[simp] theorem tenantChangeOp_kept {x0 : Nat} {s : State} (h : Kept a s) : Kept a (tenantChangeOp x0 s).1 := by
  unfold tenantChangeOp
  (repeat' split) <;> simp +contextual (maxDischargeDepth := 40) [h]

@[simp] theorem tenantCleared_kept {s : State} (h : Kept a s) : Kept a (tenantCleared s) := by
  unfold tenantCleared
  (repeat' split) <;> simp +contextual (maxDischargeDepth := 40) [h]

end Sys2Proof.Machine
end

