-- ==== Sys2Proof/Laws/KeptAccess.lean ====
section
/-! SUPPORT. What is kept (Laws/Kept) by the operations of Catalogue accesses, messages, settling and packets: one lemma for each. -/

namespace Sys2Proof.Machine

variable {a : Keep}

set_option linter.all false
set_option exponentiation.threshold 1000

/-! ### Commission -/

@[simp] theorem takeOwner_kept {s : State} {x1 : Requester} (h : Kept a s) : Kept a (takeOwner s x1) := by simp [takeOwner, h]

@[simp] theorem renewLease_kept {s : State} {x1 : Requester} (h : Kept a s) : Kept a (renewLease s x1) := by simp [renewLease, h]

@[simp] theorem commit_kept {s : State} {x1 : Path} (h : Kept a s) : Kept a (commit s x1) := by
  unfold commit; simp +contextual (maxDischargeDepth := 40) [h]

@[simp] theorem writeCommission_kept {s : State} {x1 : Requester} {x2 : Nat} (h : Kept a s) : Kept a (writeCommission s x1 x2).1 := by
  unfold writeCommission
  (repeat' split) <;> simp +contextual (maxDischargeDepth := 40) [h]

@[simp] theorem shelfEnabled_kept {s : State} {x1 : Nat} (h : Kept a s) : Kept a (shelfEnabled s x1) := by
  unfold shelfEnabled; simp +contextual (maxDischargeDepth := 40) [h]

@[simp] theorem rowWritten_kept {s : State} {c r o : Nat} (h : Kept a s) : Kept a (rowWritten s c r o) := by
  unfold rowWritten
  extract_lets i changed
  clear_value i changed
  refine kept_ite (fun _ => queueConfigured_kept h) (fun _ => ?_)
  refine kept_ite (fun _ => policerWritten_kept h) (fun _ => ?_)
  refine kept_ite (fun _ => mirrorRow_kept h) (fun _ => ?_)
  refine kept_ite (fun _ => reviewLoans_kept (mirrorValue_kept h)) (fun _ => ?_)
  refine kept_ite (fun _ => drainConfigured_kept h) (fun _ => ?_)
  refine kept_ite (fun _ => shelfEnabled_kept h) (fun _ => ?_)
  refine kept_ite (fun _ => kept_ite (fun _ => h) (fun _ => setPairing_kept h)) (fun _ => ?_)
  refine kept_ite (fun _ => kept_ite (fun _ => roleBegins_kept h) (fun _ => h)) (fun _ => ?_)
  refine kept_ite (fun _ => kept_ite (fun _ => parentChanged_kept h) (fun _ => h)) (fun _ => ?_)
  refine kept_ite (fun _ => kept_ite (fun _ => markModeChanged_kept h) (fun _ => h)) (fun _ => ?_)
  refine kept_ite (fun _ => kept_ite (fun _ => mirrorValue_kept h) (fun _ => h)) (fun _ => ?_)
  refine kept_ite (fun _ => kept_ite (fun _ => widthWritten_kept h) (fun _ => kept_ite (fun _ => idleWritten_kept h) (fun _ => h))) (fun _ => ?_)
  exact kept_ite (fun _ => tapsWritten_kept h) (fun _ => kept_ite (fun _ => patternWritten_kept h) (fun _ => h))

@[simp] theorem keepInForce_kept {s : State} {x1 : Obj} {x2 : Nat} (h : Kept a s) : Kept a (keepInForce s x1 x2) := by simp [keepInForce, h]

@[simp] theorem writeRows_kept {o : Obj} {c r : Nat} {x : List Nat} {s : State} (h : Kept a s) : Kept a (writeRows o c r x s) := by
  induction x generalizing s r with
  | nil => simpa [writeRows] using h
  | cons y x ih => exact ih (rowWritten_kept (setRow_kept (keepInForce_kept h)))

/-! ### Commands -/

@[simp] theorem clearCells_kept {s : State} {x1 : Nat} {x2 : Nat} (h : Kept a s) : Kept a (clearCells s x1 x2) := by
  unfold clearCells; simp +contextual (maxDischargeDepth := 40) [h]

@[simp] theorem ledgerClearOp_kept {x0 : Nat} {x1 : Nat} {s : State} (h : Kept a s) : Kept a (ledgerClearOp x0 x1 s).1 := by
  unfold ledgerClearOp
  (repeat' split) <;> simp +contextual (maxDischargeDepth := 40) [h]

@[simp] theorem performClear_kept {s : State} {x1 : Nat} {x2 : Nat} {x3 : Nat} {x4 : Access} (h : Kept a s) : Kept a (performClear s x1 x2 x3 x4) := by
  unfold performClear; simp +contextual (maxDischargeDepth := 40) [h]

theorem observeOp_kept {v : Invoked} {b : Keep} {t : State} (h : Kept b t) : Kept b ((observeOp v).2 t).1 := by
  unfold observeOp
  generalize normCn v.cn = n
  split
  all_goals with_reducible first | exact h | exact counterpartRestoreOp_kept h | exact globalStopOp_kept h | exact scanReadOp_kept h | exact odcClearOp_kept h | exact snapshotTakeOp_kept h | exact powerFaultClearOp_kept h | exact thermalAlarmClearOp_kept h | exact thermalMaxClearOp_kept h

theorem recoveryOp_kept {v : Invoked} {b : Keep} {t : State} (h : Kept b t) : Kept b ((recoveryOp v).2 t).1 := by
  unfold recoveryOp
  generalize normCn v.cn = n
  split
  all_goals with_reducible first | exact h | exact timeSetOp_kept h | exact partitionResetOp_kept h | exact partitionReadyOp_kept h | exact gateAdmitOp_kept h | exact gateClearOp_kept h | exact gateOpenOp_kept h | exact contextListClearOp_kept h | exact faultAttentionClearOp_kept h | exact observeOp_kept h

theorem engineOp_kept {v : Invoked} {b : Keep} {t : State} (h : Kept b t) : Kept b ((engineOp v).2 t).1 := by
  unfold engineOp
  generalize normCn v.cn = n
  split
  all_goals with_reducible first | exact h | exact firmwareLoadReads_kept h | exact fenceLostMarkOp_kept h | exact trayEnable_kept h | exact trayDisable_kept h | exact ringEnable_kept h | exact ringDisable_kept h | exact ringAttentionClear_kept h | exact tenantChangeOp_kept h | exact ledgerClearOp_kept h | exact recoveryOp_kept h

theorem collatorOp_kept {v : Invoked} {b : Keep} {t : State} (h : Kept b t) : Kept b ((collatorOp v).2 t).1 := by
  unfold collatorOp
  generalize normCn v.cn = n
  split
  all_goals with_reducible first | exact h | exact collectiveOpenOp_kept h | exact collectiveStartOp_kept h | exact programLoadReads_kept h | exact collectiveAbortOp_kept h | exact sliceSelfTestOp_kept h | exact engineOp_kept h

theorem fabricOp_kept {s : State} {v : Invoked} {b : Keep} {t : State} (h : Kept b t) : Kept b ((fabricOp s v).2 t).1 := by
  unfold fabricOp
  generalize normCn v.cn = n
  split
  all_goals with_reducible first | exact h | exact windowOpen_kept h | exact windowModify_kept h | exact windowClose_kept h | exact partitionRaiseOp_kept h | exact exceptionSet_kept h | exact exceptionClear_kept h | exact sampleClearOp_kept h | exact loanSet_kept h | exact loanClose_kept h | exact loanOpenOp_kept h | exact loanHopOpenOp_kept h | exact loanHopCloseOp_kept h | exact collatorOp_kept h

theorem linkOp_kept {s : State} {v : Invoked} {b : Keep} {t : State} (h : Kept b t) : Kept b ((linkOp s v).2 t).1 := by
  unfold linkOp
  generalize normCn v.cn = n
  split
  all_goals with_reducible first | exact h | exact portRetrainOp_kept h | exact laneChangeOp_kept h | exact laneTestOp_kept h | exact fabricOp_kept h

@[simp] theorem commandOp_kept {s : State} {rq : Requester} {cn : Nat} {xs : List Nat} {bs : List Byte} {b : Keep} {t : State} (h : Kept b t) :
    Kept b ((commandOp s rq cn xs bs).2 t).1 := linkOp_kept h

theorem runCommand_kept {s : State} {rq : Requester} {cn arg : Nat} {bs : List Byte} {op : Op} (h : Kept a.full s)
    (ho : ∀ b t, Kept b t → Kept b (op t).1) : Kept a.full (runCommand s rq cn arg bs op).1 := by
  unfold runCommand
  split
  · exact (cmdDone_kept h : Kept a.full (cmdDone s cn stBusy 0 0 rq))
  · exact invoke_kept h fun b hb => ho b s hb

/-! ### Catalogue -/

@[simp] theorem refuseRights_kept {s : State} {x1 : Requester} {x2 : Item} (h : Kept a.full s) : Kept a.full (refuseRights s x1 x2) := by
  unfold refuseRights; simp +contextual (maxDischargeDepth := 40) [h]

@[simp] theorem carryNext_kept {s : State} {x1 : Requester} {x2 : Item} (h : Kept a.full s) : Kept a.full (carryNext s x1 x2).1 := by
  unfold carryNext
  (repeat' split) <;> simp +contextual (maxDischargeDepth := 40) [h]

@[simp] theorem carryWrite_kept {s : State} {x1 : Requester} {x2 : Obj} {x3 : Item} {x4 : List Nat} (h : Kept a.full s) : Kept a.full (carryWrite s x1 x2 x3 x4).1 := by
  unfold carryWrite
  (try simp only []) <;> (repeat' split) <;> simp +contextual (maxDischargeDepth := 40) [*]

@[simp] theorem carryInvoke_kept {s : State} {rq : Requester} {i : Item} {n : Nat} {op : Op} (h : Kept a.full s)
    (ho : ∀ b t, Kept b t → Kept b (op t).1) : Kept a.full (carryInvoke s rq i n op).1 := by
  unfold carryInvoke
  split
  · exact h
  · split <;> rename_i e <;> have he := kept_of_fst (hv := runCommand_kept h ho) e
    · exact count64_kept he
    · simp only []; split <;> simp [he]

@[simp] theorem hostRows_kept {o : Obj} {c r : Nat} {x : List Nat} {s : State} (h : Kept a s) : Kept a (hostRows o c r x s).2 := by
  induction x generalizing s r with
  | nil => simpa [hostRows] using h
  | cons y x ih =>
    simp only [hostRows]
    apply ih
    split <;> simp [h]

@[simp] theorem carryUnpredictable_kept {s : State} {x1 : Requester} {x2 : Obj} {x3 : Item} (h : Kept a.full s) : Kept a.full (carryUnpredictable s x1 x2 x3).1 := by
  unfold carryUnpredictable
  (try simp only []) <;> (repeat' split) <;> simp +contextual (maxDischargeDepth := 40) [*]

@[simp] theorem carryWith_kept {s : State} {x1 : Requester} {x2 : Item} {x3 : Nat} {x4 : Op} (h : Kept a.full s) (ho : ∀ b t, Kept b t → Kept b (x4 t).1) : Kept a.full (carryWith s x1 x2 x3 x4).1 := by
  unfold carryWith
  (try simp only []) <;> (repeat' split) <;> simp +contextual (maxDischargeDepth := 40) [*]

@[simp] theorem carryItem_kept {s : State} {x1 : Requester} {x2 : Item} (h : Kept a.full s) : Kept a.full (carryItem s x1 x2).1 := by
  unfold carryItem; simp +contextual (maxDischargeDepth := 40) [h]

@[simp] theorem hostRefused_kept {s : State} {x1 : Requester} {x2 : ItemOut} (h : Kept a.full s) : Kept a.full (hostRefused s x1 x2) := by
  unfold hostRefused
  (repeat' split) <;> simp +contextual (maxDischargeDepth := 40) [h]

@[simp] theorem unserved_kept {s : State} {x1 : Requester} {x2 : Nat} (h : Kept a.full s) : Kept a.full (unserved s x1 x2) := by simp [unserved, h]

@[simp] theorem accessEnds_kept {rq : Requester} {i : Item} {r : State × ItemOut} (h : Kept a.full r.1) : KeptOut a.full (accessEnds rq i r) := by
  unfold accessEnds
  (repeat' split) <;> simp +contextual (maxDischargeDepth := 40) [h]

@[simp] theorem accessWith_kept {s : State} {rq : Requester} {i : Item} {n : Nat} {op : Op} (h : Kept a.full s)
    (ho : ∀ b t, Kept b t → Kept b (op t).1) : KeptOut a.full (accessWith s rq i n op) := by
  unfold accessWith
  split
  · exact keptOut_next (unserved_kept h)
  · split
    · exact keptOut_next ⟨h.part, h.pending, h.carrel, h.store, h.running, h.ports⟩
    · split
      · exact keptOut_next (count64_kept h)
      · exact accessEnds_kept (carryWith_kept h ho)

@[simp] theorem accessItem_kept {s : State} {x1 : Requester} {x2 : Item} (h : Kept a.full s) : KeptOut a.full (accessItem s x1 x2) := by
  unfold accessItem; simp +contextual (maxDischargeDepth := 40) [h]

@[simp] theorem writeAccess_kept {s : State} {x1 : Requester} {x2 : Nat} {x3 : Nat} {x4 : Nat} (h : Kept a.full s) : KeptOut a.full (writeAccess s x1 x2 x3 x4) := by simp [writeAccess, h]

@[simp] theorem commandAccess_kept {s : State} {x1 : Requester} {x2 : Nat} {x3 : List Nat} {x4 : Nat} {x5 : Op} (h : Kept a.full s) (ho : ∀ b t, Kept b t → Kept b (x5 t).1) : KeptOut a.full (commandAccess s x1 x2 x3 x4 x5) := by
  unfold commandAccess
  (try simp only []) <;> (repeat' split) <;> simp +contextual (maxDischargeDepth := 40) [*]

@[simp] theorem slotRead_kept {s : State} {x1 : Nat} {x2 : Nat} (h : Kept a.full s) : Kept a.full (slotRead s x1 x2) := by
  unfold slotRead
  (try simp only []) <;> (repeat' split) <;> simp +contextual (maxDischargeDepth := 40) [*]

@[simp] theorem slotAccess_kept {s : State} {x1 : Nat} {x2 : Nat} (h : Kept a.full s) : Kept a.full (slotAccess s x1 x2) := by simp [slotAccess, h]

/-! ### Messages -/

@[simp] theorem shelfAnswer_kept {s : State} {x1 : Nat} {x2 : Nat} {x3 : List Byte} (h : Kept a.full s) : Kept a.full (shelfAnswer s x1 x2 x3) := by simp [shelfAnswer, h]

@[simp] theorem mgmtRsp_kept {s : State} {x1 : Nat} {x2 : Packet} {x3 : List Byte} (h : Kept a.full s) : Kept a.full (mgmtRsp s x1 x2 x3) := by simp [mgmtRsp, h]

@[simp] theorem longDone_kept {s : State} {x1 : Nat} {x2 : List Byte} (h : Kept a.full s) : Kept a.full (longDone s x1 x2) := by
  unfold longDone; simp +contextual (maxDischargeDepth := 40) [h]

@[simp] theorem answer_kept {s : State} {x1 : Requester} {x2 : Option (Nat × Packet)} {x3 : Nat} {x4 : Nat} {x5 : List ItemDone} (h : Kept a.full s) : Kept a.full (answer s x1 x2 x3 x4 x5) := by
  unfold answer
  (repeat' split) <;> simp +contextual (maxDischargeDepth := 40) [h]

@[simp] theorem openRecord_kept {s : State} {x1 : Requester} {x2 : Nat} (h : Kept a.full s) : Kept a.full (openRecord s x1 x2) := by simp [openRecord, h]

@[simp] theorem endMessage_kept {s : State} {x1 : MsgRun} (h : Kept a.full s) : Kept a.full (endMessage s x1) := by simp [endMessage, h]

@[simp] theorem messageWaits_kept {s : State} {x1 : MsgRun} {x2 : Item} (h : Kept a.full s) : Kept a.full (messageWaits s x1 x2) := by
  unfold messageWaits; simp +contextual (maxDischargeDepth := 40) [h]

@[simp] theorem runItems_kept {x : List Item} {s : State} {m : MsgRun} (h : Kept a.full s) : Kept a.full (runItems x s m) := by
  induction x generalizing s m with
  | nil => simp [runItems, h]
  | cons y x ih =>
    simp only [runItems]
    split
    · exact endMessage_kept h
    · split <;> rename_i e <;> have he := kept_of_fst (hv := carryItem_kept h) e
      · exact ih he
      · exact messageWaits_kept he
      · exact (kept_mk he).2 ⟨kept_cat he, kept_mem he, kept_running he, kept_ports he⟩

@[simp] theorem startMessage_kept {s : State} {rq : Requester} {v : Option (Nat × Packet)} {n : Nat} {x : List Item}
    (h : Kept a.full s) : Kept a.full (startMessage s rq v n x) := kept_ite
    (fun _ => runItems_kept ⟨h.part, h.pending, h.carrel, h.store, h.running, h.ports⟩)
    (fun _ => ⟨h.part, h.pending, h.carrel, h.store, h.running, h.ports⟩)

@[simp] theorem resumeMessage_kept {s : State} {i t r : Nat} (h : Kept a.full s) : Kept a.full (resumeMessage s i t r) := by
  unfold resumeMessage
  split
  · exact h
  · rename_i m _
    have h1 : Kept a.full { s with mgmt.msgs := s.mgmt.msgs.filter fun x => x.id != i } :=
      (kept_mk h).2 ⟨kept_cat h, kept_mem h, kept_running h, kept_ports h⟩
    generalize { s with mgmt.msgs := s.mgmt.msgs.filter fun x => x.id != i } = s1 at h1 ⊢
    simp only []
    split
    · exact endMessage_kept h1
    · exact kept_ite (fun _ => runItems_kept h1)
        (fun _ => (kept_mk h1).2 ⟨kept_cat h1, kept_mem h1, kept_running h1, kept_ports h1⟩)

@[simp] theorem rebuild_kept {r : Requester} {x : List ItemDone} {s : State} (h : Kept a.full s) : Kept a.full (rebuild r x s).1 := by
  induction x generalizing s with
  | nil => simpa [rebuild] using h
  | cons y x ih =>
    simp only [rebuild]
    apply ih
    split
    · split <;> rename_i e <;> exact kept_of_fst (hv := carryItem_kept h) e
    · exact h

@[simp] theorem clientRequest_kept {s : State} {rq : Requester} {v : Option (Nat × Packet)} {n : Nat} {x : List Item}
    (h : Kept a.full s) : Kept a.full (clientRequest s rq v n x) := by
  unfold clientRequest
  split
  · refine kept_ite (fun _ => answer_kept (count64_kept h)) (fun _ => startMessage_kept (openRecord_kept ?_))
    exact (kept_mk h).2 ⟨kept_cat h, kept_mem h, kept_running h, kept_ports h⟩
  · split
    · exact startMessage_kept (openRecord_kept h)
    · extract_lets s1
      have h1 : Kept a.full s1 := count64_kept h
      exact kept_ite (fun _ => h1) (fun _ => answer_kept (rebuild_kept h1))

@[simp] theorem mgmtRequest_kept {s : State} {p : Nat} {k : Packet} (h : Kept a.full s) : Kept a.full (mgmtRequest s p k) := by
  unfold mgmtRequest
  (try simp only []) <;> (repeat' split) <;> simp +contextual (maxDischargeDepth := 40) [*]

@[simp] theorem shelfMalformed_kept {s : State} {x1 : Nat} {x2 : Nat} {x3 : Nat} (h : Kept a.full s) : Kept a.full (shelfMalformed s x1 x2 x3) := by simp [shelfMalformed, h]

@[simp] theorem discovered_kept {s : State} {x1 : Nat} {x2 : Nat} {x3 : Bool} {x4 : Nat} (h : Kept a.full s) : Kept a.full (discovered s x1 x2 x3 x4) := by simp [discovered, h]

@[simp] theorem discoverAnswers_kept {s : State} (h : Kept a.full s) : Kept a.full (discoverAnswers s) := by
  unfold discoverAnswers
  (repeat' split) <;> simp +contextual (maxDischargeDepth := 40) [h]

@[simp] theorem shelfFrame_kept {s : State} {x1 : MacFrame} {x2 : Bool} {x3 : State → State} (h : Kept a.full s) (hf : ∀ t, Kept a.full t → Kept a.full (x3 t)) : Kept a.full (shelfFrame s x1 x2 x3) := by
  unfold shelfFrame
  (try simp only []) <;> (repeat' split) <;> simp +contextual (maxDischargeDepth := 40) [*]

@[simp] theorem shelfMessage_kept {s : State} {d u : Nat} {x : Bool} {b : List Byte} (h : Kept a.full s) :
    Kept a.full (shelfMessage s d u x b) := by
  unfold shelfMessage
  (try simp only []) <;> (repeat' split) <;> simp +contextual (maxDischargeDepth := 40) [*]

@[simp] theorem shelfTyped_kept {s : State} {x1 : Datagram} {x2 : Nat} {x3 : Nat} {x4 : Nat} {x5 : Nat} (h : Kept a.full s) : Kept a.full (shelfTyped s x1 x2 x3 x4 x5) := by
  unfold shelfTyped; simp +contextual (maxDischargeDepth := 40) [h]

@[simp] theorem shelfFrom_kept {s : State} {x1 : Datagram} {x2 : Nat} (h : Kept a.full s) : Kept a.full (shelfFrom s x1 x2) := by simp [shelfFrom, h]

@[simp] theorem addressConflict_kept {s : State} (h : Kept a.full s) : Kept a.full (addressConflict s) := by
  unfold addressConflict; simp +contextual (maxDischargeDepth := 40) [h]

@[simp] theorem solicited_kept {s : State} {x1 : Nat} {x2 : FramedTarget} (h : Kept a.full s) : Kept a.full (solicited s x1 x2) := by
  unfold solicited; simp +contextual (maxDischargeDepth := 40) [h]

@[simp] theorem advertised_kept {s : State} {x1 : FramedTarget} (h : Kept a.full s) : Kept a.full (advertised s x1) := by
  unfold advertised; simp +contextual (maxDischargeDepth := 40) [h]

@[simp] theorem echoed_kept {s : State} {x1 : Nat} {x2 : Nat} {x3 : FramedEcho} (h : Kept a.full s) : Kept a.full (echoed s x1 x2 x3) := by
  unfold echoed; simp +contextual (maxDischargeDepth := 40) [h]

@[simp] theorem clientExpires_kept {s : State} {x1 : Nat} {x2 : Nat} (h : Kept a.full s) : Kept a.full (clientExpires s x1 x2) := by simp [clientExpires, h]

@[simp] theorem leaseExpires_kept {s : State} (h : Kept a.full s) : Kept a.full (leaseExpires s) := by simp [leaseExpires, h]

@[simp] theorem heldAgain_kept {s : State} {x1 : HeldAccess} {x2 : List HeldAccess} (h : Kept a.full s) : Kept a.full (heldAgain s x1 x2) := by simp [heldAgain, h]

@[simp] theorem releaseMessage_kept {s : State} {x1 : MsgRun} {x2 : List HeldAccess} (h : Kept a.full s) : Kept a.full (releaseMessage s x1 x2) := by
  unfold releaseMessage
  (try simp only []) <;> repeat' first
    | (simp +contextual (maxDischargeDepth := 40) [*]; done)
    | (rename_i e; have he := kept_of_fst (a := a.full) (hv := by clear e; simp +contextual (maxDischargeDepth := 40) [*]) e; clear e)
    | split

@[simp] theorem releaseItem_kept {s : State} {x1 : Requester} {x2 : Item} {x3 : List HeldAccess} (h : Kept a.full s) : Kept a.full (releaseItem s x1 x2 x3) := by
  unfold releaseItem
  (try simp only []) <;> repeat' first
    | (simp +contextual (maxDischargeDepth := 40) [*]; done)
    | (rename_i e; have he := kept_of_fst (a := a.full) (hv := by clear e; simp +contextual (maxDischargeDepth := 40) [*]) e; clear e)
    | split

@[simp] theorem releaseWaiting_kept {s : State} (h : Kept a.full s) : Kept a.full (releaseWaiting s) := by
  unfold releaseWaiting
  (try simp only []) <;> repeat' first
    | (simp +contextual (maxDischargeDepth := 40) [*]; done)
    | (rename_i e; have he := kept_of_fst (a := a.full) (hv := by clear e; simp +contextual (maxDischargeDepth := 40) [*]) e; clear e)
    | split

/-! ### Restore -/

@[simp] theorem restoreRow_kept {s : State} {x1 : Nat} {x2 : Nat} {x3 : Nat} (h : Kept a s) : Kept a (restoreRow s x1 x2 x3) := by
  unfold restoreRow
  (repeat' split) <;> simp +contextual (maxDischargeDepth := 40) [h]

@[simp] theorem restoreException_kept {s : State} {x1 : Nat} {x2 : Nat} (h : Kept a s) : Kept a (restoreException s x1 x2) := by
  unfold restoreException; simp +contextual (maxDischargeDepth := 40) [h]

@[simp] theorem restoreRows_kept {s : State} {x1 : Nat} {x2 : Nat} {x3 : List Nat} (h : Kept a s) : Kept a (restoreRows s x1 x2 x3) := by
  unfold restoreRows; simp +contextual (maxDischargeDepth := 40) [h]

@[simp] theorem restoreApply_kept {s : State} {x1 : Packet} (h : Kept a s) : Kept a (restoreApply s x1) := by
  unfold restoreApply
  (repeat' split) <;> simp +contextual (maxDischargeDepth := 40) [h]

@[simp] theorem restoreUpdate_kept {s : State} {x1 : Restore} {x2 : Packet} (h : Kept a s) : Kept a (restoreUpdate s x1 x2) := by
  unfold restoreUpdate
  (repeat' split) <;> simp +contextual (maxDischargeDepth := 40) [h]

@[simp] theorem mirrorUpdateArrives_kept {s : State} {x1 : Packet} (h : Kept a s) : Kept a (mirrorUpdateArrives s x1) := by
  unfold mirrorUpdateArrives
  (repeat' split) <;> simp +contextual (maxDischargeDepth := 40) [h]

/-! ### Failures -/

@[simp] theorem rowGone_kept {s : State} {x1 : Nat} {x2 : Nat} (h : Kept a s) : Kept a (rowGone s x1 x2) := by
  unfold rowGone; simp +contextual (maxDischargeDepth := 40) [h]

@[simp] theorem tableFails_kept {s : State} {x1 : Nat} {x2 : Nat} {x3 : Bool} (h : Kept a s) : Kept a (tableFails s x1 x2 x3) := by
  unfold tableFails; simp +contextual (maxDischargeDepth := 40) [h]

@[simp] theorem tableStuck_kept {s : State} {x1 : Nat} {x2 : Nat} (h : Kept a s) : Kept a (tableStuck s x1 x2) := by simp [tableStuck, h]

@[simp] theorem loseRow_kept {s : State} {r : Nat} (h : Kept a s) : Kept a (loseRow s r) := by
  unfold loseRow
  generalize poisonedCells = w
  generalize List.replicate 256 (0 : Byte) = z
  extract_lets bank first c1 s1 hit es c2 s2
  have h1 : Kept a s1 :=
    kept_ite
      (fun _ => (kept_mk h).2 ⟨kept_cat h, keptMem_write (kept_mem h), kept_running h, kept_ports h⟩)
      (fun _ => (kept_mk h).2 ⟨kept_cat h, keptMem_write (kept_mem h), kept_running h, kept_ports h⟩)
  have h2 : Kept a s2 := (kept_mk h1).2 ⟨kept_cat h1, kept_mem h1, kept_running h1, kept_ports h1⟩
  exact forEach_kept (fun t y ht => updEntry_kept ht) h2

@[simp] theorem rowFails_kept {s : State} {x1 : Nat} {x2 : Nat} {x3 : Bool} (h : Kept a s) : Kept a (rowFails s x1 x2 x3) := by
  unfold rowFails
  (try simp only []) <;> (repeat' split) <;> simp +contextual (maxDischargeDepth := 40) [*]

@[simp] theorem spareFails_kept {s : State} {x1 : Nat} {x2 : Nat} {x3 : Bool} (h : Kept a s) : Kept a (spareFails s x1 x2 x3) := by
  unfold spareFails
  (repeat' split) <;> simp +contextual (maxDischargeDepth := 40) [h]

@[simp] theorem carrelFails_kept {s : State} {x1 : Nat} {x2 : Nat} {x3 : Bool} (h : Kept a s) : Kept a (carrelFails s x1 x2 x3) := by
  unfold carrelFails; simp +contextual (maxDischargeDepth := 40) [h]

@[simp] theorem rowReplaced_kept {s : State} {x1 : Nat} {x2 : Nat} (h : Kept a s) : Kept a (rowReplaced s x1 x2) := by simp [rowReplaced, h]

@[simp] theorem portFails_kept {s : State} {x1 : Nat} {x2 : Bool} (h : Kept a s) : Kept a (portFails s x1 x2) := by
  unfold portFails; simp +contextual (maxDischargeDepth := 40) [h]

@[simp] theorem uncorrectable_kept {s : State} {x1 : MemSite} (h : Kept a s) : Kept a (uncorrectable s x1) := by
  unfold uncorrectable
  (repeat' split) <;> simp +contextual (maxDischargeDepth := 40) [h]

@[simp] theorem stuckBit_kept {s : State} {x1 : MemSite} {x2 : Bool} (h : Kept a s) : Kept a (stuckBit s x1 x2) := by
  unfold stuckBit
  (repeat' split) <;> simp +contextual (maxDischargeDepth := 40) [h]

/-! ### Packets -/

@[simp] theorem whenRuns_kept {x0 : Nat} {x1 : State → State} {s : State} (hf : ∀ t, Kept a.full t → Kept a.full (x1 t)) (h : Kept a.full s) : Kept a.full (whenRuns x0 x1 s) := by
  unfold whenRuns
  (try simp only []) <;> (repeat' split) <;> simp +contextual (maxDischargeDepth := 40) [*]

@[simp] theorem whenOn_kept {x0 : State → State} {s : State} (hf : ∀ t, Kept a.full t → Kept a.full (x0 t)) (h : Kept a.full s) : Kept a.full (whenOn x0 s) := by
  unfold whenOn
  (try simp only []) <;> (repeat' split) <;> simp +contextual (maxDischargeDepth := 40) [*]

@[simp] theorem unlessHeld_kept {x0 : State → State} {s : State} (hf : ∀ t, Kept a.full t → Kept a.full (x0 t)) (h : Kept a.full s) : Kept a.full (unlessHeld x0 s) := by
  unfold unlessHeld
  (try simp only []) <;> (repeat' split) <;> simp +contextual (maxDischargeDepth := 40) [*]

@[simp] theorem syncActs_kept {s : State} {x1 : Nat} {x2 : Packet} {x3 : Nat} (h : Kept a.full s) : Kept a.full (syncActs s x1 x2 x3) := by simp [syncActs, h]

@[simp] theorem requestActs_kept {s : State} {p : Nat} {k : Packet} {n : Nat} (h : Kept a.full s) : Kept a.full (requestActs s p k n) := by
  unfold requestActs
  extract_lets op
  repeat' (with_reducible refine kept_ite (fun _ => ?_) (fun _ => ?_))
  all_goals first | exact h | (simp [h]; done)

@[simp] theorem updateRefused_kept {s : State} {x1 : Packet} (h : Kept a.full s) : Kept a.full (updateRefused s x1) := by simp [updateRefused, h]

@[simp] theorem packetTaken_kept {s : State} {p : Nat} {k : Packet} {n : Nat} (h : Kept a.full s) : Kept a.full (packetTaken s p k n) := by
  unfold packetTaken
  refine kept_ite (fun _ => passArrives_kept h) (fun _ => ?_)
  refine kept_ite (fun _ => kept_ite (fun _ => loanArrives_kept h) (fun _ => h)) (fun _ => ?_)
  refine kept_ite (fun _ => responseArrives_kept h) (fun _ => ?_)
  have hv : KeptVerdict a.full (arrive s p k rulesOf) := arrive_kept h
  generalize arrive s p k rulesOf = v at hv ⊢
  cases v with
  | stop t => exact updateRefused_kept hv
  | go t => exact kept_ite (fun _ => keepRx_kept h (requestActs_kept hv)) (fun _ => requestActs_kept hv)

@[simp] theorem packetArrives_kept {s : State} {x1 : Nat} {x2 : Packet} {x3 : Nat} (h : Kept a.full s) : Kept a.full (packetArrives s x1 x2 x3) := by
  unfold packetArrives; simp +contextual (maxDischargeDepth := 40) [h]

@[simp] theorem releaseChannel_kept {s : State} {p v : Nat} (h : Kept a.full s) : Kept a.full (releaseChannel s p v) := by
  unfold releaseChannel
  split
  · exact h
  · split
    · exact h
    · simp [h]

@[simp] theorem dropHalted_kept {s : State} (h : Kept a.full s) : Kept a.full (dropHalted s) := by
  unfold dropHalted; simp +contextual (maxDischargeDepth := 40) [h]

@[simp] theorem pumpRx_kept {s : State} (h : Kept a.full s) : Kept a.full (pumpRx s) := by
  unfold pumpRx; simp +contextual (maxDischargeDepth := 40) [h]

/-! ### HostWindow -/

@[simp] theorem longStart_kept {s : State} {x1 : Nat} (h : Kept a.full s) : KeptOut a.full (longStart s x1) := by
  unfold longStart
  (try simp only []) <;> (repeat' split) <;> simp +contextual (maxDischargeDepth := 40) [*]

@[simp] theorem slotApply_kept {s : State} {x1 : Nat} {x2 : Obj} {x3 : List Byte} (h : Kept a.full s) : KeptOut a.full (slotApply s x1 x2 x3) := by
  unfold slotApply
  (repeat' split) <;> simp +contextual (maxDischargeDepth := 40) [h]

@[simp] theorem slotWrite_kept {s : State} {x1 : Nat} {x2 : Nat} {x3 : List Byte} (h : Kept a.full s) : KeptOut a.full (slotWrite s x1 x2 x3) := by
  unfold slotWrite
  (try simp only []) <;> (repeat' split) <;> simp +contextual (maxDischargeDepth := 40) [*]

@[simp] theorem slotWrites_kept {x : List (Nat × List Byte)} {s : State} (h : Kept a.full s) : KeptOut a.full (slotWrites x s) := by
  induction x generalizing s with
  | nil => exact keptOut_next h
  | cons y x ih =>
    obtain ⟨y, z⟩ := y
    simp only [slotWrites]
    split
    · rename_i e; exact ih (keptOut_of_next (hv := slotWrite_kept h) e)
    · exact slotWrite_kept h

@[simp] theorem hostWrites_kept {s : State} {x1 : Nat} {x2 : List Byte} (h : Kept a.full s) : KeptOut a.full (hostWrites s x1 x2) := by simp [hostWrites, h]

@[simp] theorem hostReads_kept {s : State} {x1 : Nat} {x2 : Nat} (h : Kept a.full s) : Kept a.full (hostReads s x1 x2) := by
  unfold hostReads; simp +contextual (maxDischargeDepth := 40) [h]

@[simp] theorem espUnpredictable_kept {s : State} {x1 : Nat} {x2 : EspReq} (h : Kept a.full s) : Kept a.full (espUnpredictable s x1 x2) := by
  unfold espUnpredictable; simp +contextual (maxDischargeDepth := 40) [h]

@[simp] theorem windowAccess_kept {s : State} {x1 : Nat} {x2 : EspReq} (h : Kept a.full s) : KeptOut a.full (windowAccess s x1 x2) := by
  unfold windowAccess
  (try simp only []) <;> (repeat' split) <;> simp +contextual (maxDischargeDepth := 40) [*]

@[simp] theorem espTakes_kept {s : State} {x1 : Nat} {x2 : EspReq} (h : Kept a.full s) : Kept a.full (espTakes s x1 x2) := by simp [espTakes, h]

theorem reached_kept {s : State} {o : Out} (h : Kept a.full s) (ho : KeptOut a.full o) : Kept a.full (reached s o) := by
  unfold reached; split
  · exact ho _ rfl
  · exact h

@[simp] theorem pumpEsp_kept {s : State} (h : Kept a.full s) : Kept a.full (pumpEsp s) := by
  unfold pumpEsp
  extract_lets ready
  split
  · exact h
  · split
    · exact h
    · rename_i op r _
      have ht : Kept a.full { s with host.espHeld := s.host.espHeld.erase (op, r) } :=
        ⟨h.part, h.pending, h.carrel, h.store, h.running, h.ports⟩
      exact kept_ite (fun _ => reached_kept ht (windowAccess_kept ht)) (fun _ => espTakes_kept ht)

/-! ### Settle -/

@[simp] theorem ownerNoticed_kept {s : State} {x1 : Option NoticePending} {x2 : Bool} (h : Kept a.full s) : Kept a.full (ownerNoticed s x1 x2) := by
  unfold ownerNoticed
  (repeat' split) <;> simp +contextual (maxDischargeDepth := 40) [h]

@[simp] theorem closeLocal_kept {s : State} {x1 : Nat} {x2 : Access} {x3 : Nat} {x4 : Nat} (h : Kept a.full s) : Kept a.full (closeLocal s x1 x2 x3 x4) := by simp [closeLocal, h]

@[simp] theorem finishAccess_kept {s : State} {x1 : Nat} {x2 : Access} (h : Kept a.full s) : Kept a.full (finishAccess s x1 x2) := by
  unfold finishAccess
  (try simp only []) <;> (repeat' split) <;> simp +contextual (maxDischargeDepth := 40) [*]

@[simp] theorem endReady_kept {s : State} (h : Kept a.full s) : Kept a.full (endReady s) := by
  unfold endReady
  (try simp only []) <;> (repeat' split) <;> simp +contextual (maxDischargeDepth := 40) [*]

@[simp] theorem performLocal_kept {s : State} {x1 : Nat} {x2 : Access} {x3 : Nat} {x4 : Nat} {x5 : Nat} {x6 : Nat} {x7 : Nat} {x8 : Bool} (h : Kept a.full s) : Kept a.full (performLocal s x1 x2 x3 x4 x5 x6 x7 x8) := by
  unfold performLocal
  (repeat' split) <;> simp +contextual (maxDischargeDepth := 40) [h]

@[simp] theorem performInner_kept {s : State} {x1 : Nat} {x2 : Access} (h : Kept a.full s) : Kept a.full (performInner s x1 x2) := by
  unfold performInner
  (repeat' split) <;> simp +contextual (maxDischargeDepth := 40) [h]

@[simp] theorem doInner_kept {s : State} (h : Kept a.full s) : Kept a.full (doInner s) := by
  unfold doInner
  (repeat' split) <;> simp +contextual (maxDischargeDepth := 40) [h]

@[simp] theorem sweepRings_kept {s : State} (h : Kept a.full s) : Kept a.full (sweepRings s) := by
  unfold sweepRings; simp +contextual (maxDischargeDepth := 40) [h]

@[simp] theorem stirMgmt_kept {s : State} (h : Kept a.full s) : Kept a.full (stirMgmt s) := by
  unfold stirMgmt
  (try simp only []) <;> (repeat' split) <;> simp +contextual (maxDischargeDepth := 40) [*]

@[simp] theorem stirUnits_kept {s : State} (h : Kept a.full s) : Kept a.full (stirUnits s) := by
  unfold stirUnits; simp +contextual (maxDischargeDepth := 40) [h]

@[simp] theorem stir_kept {s : State} (h : Kept a.full s) : Kept a.full (stir s) := by
  unfold stir; simp +contextual (maxDischargeDepth := 40) [h]

@[simp] theorem settleLoop_kept {n : Nat} {s : State} (h : Kept a.full s) : Kept a.full (settleLoop n s) := by
  induction n generalizing s with
  | zero => simpa [settleLoop] using h
  | succ n ih =>
    simp only [settleLoop]
    split
    · exact h
    · exact ih (by simp [h])

@[simp] theorem settle_kept {s : State} (h : Kept a.full s) : Kept a.full (settle s) := by simp [settle, h]

end Sys2Proof.Machine
end

