-- ==== Sys2Proof/Laws/KeptCommands.lean ====
section
/-! SUPPORT. What is kept (Laws/Kept) by the operations of each command and the tick: one lemma for each. -/

namespace Sys2Proof.Machine

variable {a : Keep}

set_option linter.all false
set_option exponentiation.threshold 1000

/-! ### CmdPower -/

@[simp] theorem settled_kept {o : Out} (h : KeptOut a.full o) : KeptOut a.full (settled o) := by
  unfold settled
  split
  · exact keptOut_next (settle_kept (h _ rfl))
  · exact h

@[simp] theorem execPorRelease_kept {s : State} (h : Kept a.full s) : KeptOut a.full (execPorRelease s) := by simp [execPorRelease, h]

@[simp] theorem execPorAssert_kept {s : State} (h : Kept a.full s) : KeptOut a.full (execPorAssert s) := by simp [execPorAssert, h]

@[simp] theorem execBlockRstAssert_kept {s : State} (h : Kept a.full s) : KeptOut a.full (execBlockRstAssert s) := by simp [execBlockRstAssert, h]

@[simp] theorem execBlockRstRelease_kept {s : State} (h : Kept a.full s) : KeptOut a.full (execBlockRstRelease s) := by simp [execBlockRstRelease, h]

@[simp] theorem execPartRstFall_kept {x0 : Nat} {s : State} (h : Kept a.full s) : KeptOut a.full (execPartRstFall x0 s) := by
  unfold execPartRstFall; simp +contextual (maxDischargeDepth := 40) [h]

@[simp] theorem execPartRstRise_kept {x0 : Nat} {s : State} (h : Kept a.full s) : KeptOut a.full (execPartRstRise x0 s) := by simp [execPartRstRise, h]

@[simp] theorem execDroopFall_kept {s : State} (h : Kept a.full s) : KeptOut a.full (execDroopFall s) := by simp [execDroopFall, h]

@[simp] theorem execDroopRise_kept {s : State} (h : Kept a.full s) : KeptOut a.full (execDroopRise s) := by simp [execDroopRise, h]

@[simp] theorem execPdAck_kept {x0 : Nat} {x1 : Bool} {s : State} (h : Kept a.full s) : KeptOut a.full (execPdAck x0 x1 s) := by
  unfold execPdAck; simp +contextual (maxDischargeDepth := 40) [h]

@[simp] theorem execPdAckLimitExpiry_kept {x0 : Nat} {s : State} (h : Kept a.full s) : KeptOut a.full (execPdAckLimitExpiry x0 s) := by
  unfold execPdAckLimitExpiry; simp +contextual (maxDischargeDepth := 40) [h]

@[simp] theorem execPowerTargetWrite_kept {x0 : Requester} {x1 : Nat} {s : State} (h : Kept a.full s) : KeptOut a.full (execPowerTargetWrite x0 x1 s) := by simp [execPowerTargetWrite, h]

@[simp] theorem execThermalSample_kept {x0 : Nat} {x1 : Nat} {s : State} (h : Kept a.full s) : KeptOut a.full (execThermalSample x0 x1 s) := by simp [execThermalSample, h]

@[simp] theorem execThermalAlarmClear_kept {x0 : Requester} {x1 : Nat} {s : State} (h : Kept a.full s) : KeptOut a.full (execThermalAlarmClear x0 x1 s) := by
  unfold execThermalAlarmClear; simp +contextual (maxDischargeDepth := 40) [h]

@[simp] theorem execThermalMaxClear_kept {x0 : Requester} {s : State} (h : Kept a.full s) : KeptOut a.full (execThermalMaxClear x0 s) := by
  unfold execThermalMaxClear; simp +contextual (maxDischargeDepth := 40) [h]

@[simp] theorem execPowerFaultClear_kept {x0 : Requester} {s : State} (h : Kept a.full s) : KeptOut a.full (execPowerFaultClear x0 s) := by
  unfold execPowerFaultClear; simp +contextual (maxDischargeDepth := 40) [h]

@[simp] theorem execFaultAttentionClear_kept {x0 : Requester} {x1 : Nat} {s : State} (h : Kept a.full s) : KeptOut a.full (execFaultAttentionClear x0 x1 s) := by
  unfold execFaultAttentionClear; simp +contextual (maxDischargeDepth := 40) [h]

@[simp] theorem execFirmwareLoad_kept {x0 : Requester} {x1 : Option (List Byte)} {s : State} (h : Kept a.full s) : KeptOut a.full (execFirmwareLoad x0 x1 s) := by
  unfold execFirmwareLoad; simp +contextual (maxDischargeDepth := 40) [h]

@[simp] theorem execFirmwareStart_kept {s : State} (h : Kept a.full s) : KeptOut a.full (execFirmwareStart s) := by
  unfold execFirmwareStart; simp +contextual (maxDischargeDepth := 40) [h]

@[simp] theorem execTenantChange_kept {x0 : Requester} {x1 : Nat} {s : State} (h : Kept a.full s) : KeptOut a.full (execTenantChange x0 x1 s) := by
  unfold execTenantChange; simp +contextual (maxDischargeDepth := 40) [h]

@[simp] theorem execTenantClearDone_kept {s : State} (h : Kept a.full s) : KeptOut a.full (execTenantClearDone s) := by
  unfold execTenantClearDone; simp +contextual (maxDischargeDepth := 40) [h]

/-! ### CmdCollator -/

@[simp] theorem execTileBurstDone_kept {x0 : Nat} {x1 : Nat} {s : State} (h : Kept a.full s) : KeptOut a.full (execTileBurstDone x0 x1 s) := by
  unfold execTileBurstDone; simp +contextual (maxDischargeDepth := 40) [h]

@[simp] theorem execTileSpill_kept {x0 : Nat} {x1 : Nat} {s : State} (h : Kept a.full s) : KeptOut a.full (execTileSpill x0 x1 s) := by
  unfold execTileSpill; simp +contextual (maxDischargeDepth := 40) [h]

@[simp] theorem execSpillWaitExpiry_kept {x0 : Nat} {s : State} (h : Kept a.full s) : KeptOut a.full (execSpillWaitExpiry x0 s) := by
  unfold execSpillWaitExpiry; simp +contextual (maxDischargeDepth := 40) [h]

@[simp] theorem execCollectiveOpen_kept {x0 : Requester} {x1 : Nat} {s : State} (h : Kept a.full s) : KeptOut a.full (execCollectiveOpen x0 x1 s) := by
  unfold execCollectiveOpen; simp +contextual (maxDischargeDepth := 40) [h]

@[simp] theorem execCollectiveStart_kept {x0 : Requester} {x1 : Nat} {s : State} (h : Kept a.full s) : KeptOut a.full (execCollectiveStart x0 x1 s) := by
  unfold execCollectiveStart; simp +contextual (maxDischargeDepth := 40) [h]

@[simp] theorem execProgramLoad_kept {x0 : Requester} {x1 : Option (List Byte)} {s : State} (h : Kept a.full s) : KeptOut a.full (execProgramLoad x0 x1 s) := by
  unfold execProgramLoad; simp +contextual (maxDischargeDepth := 40) [h]

@[simp] theorem execCollectiveAbort_kept {x0 : Requester} {x1 : Nat} {x2 : Nat} {s : State} (h : Kept a.full s) : KeptOut a.full (execCollectiveAbort x0 x1 x2 s) := by
  unfold execCollectiveAbort; simp +contextual (maxDischargeDepth := 40) [h]

@[simp] theorem execSliceSelfTest_kept {x0 : Requester} {s : State} (h : Kept a.full s) : KeptOut a.full (execSliceSelfTest x0 s) := by
  unfold execSliceSelfTest; simp +contextual (maxDischargeDepth := 40) [h]

@[simp] theorem execSliceSelfTestEnd_kept {x0 : Bool} {s : State} (h : Kept a.full s) : KeptOut a.full (execSliceSelfTestEnd x0 s) := by
  unfold execSliceSelfTestEnd; simp +contextual (maxDischargeDepth := 40) [h]

@[simp] theorem execSliceHardFailure_kept {x0 : Nat} {s : State} (h : Kept a.full s) : KeptOut a.full (execSliceHardFailure x0 s) := by
  unfold execSliceHardFailure; simp +contextual (maxDischargeDepth := 40) [h]

@[simp] theorem execSliceSubstitutionDone_kept {s : State} (h : Kept a.full s) : KeptOut a.full (execSliceSubstitutionDone s) := by
  unfold execSliceSubstitutionDone; simp +contextual (maxDischargeDepth := 40) [h]

@[simp] theorem execWaitConditionMet_kept {x0 : Nat} {s : State} (h : Kept a.full s) : KeptOut a.full (execWaitConditionMet x0 s) := by
  unfold execWaitConditionMet; simp +contextual (maxDischargeDepth := 40) [h]

@[simp] theorem execWaitLimitExpiry_kept {x0 : Nat} {s : State} (h : Kept a.full s) : KeptOut a.full (execWaitLimitExpiry x0 s) := by
  unfold execWaitLimitExpiry; simp +contextual (maxDischargeDepth := 40) [h]

@[simp] theorem execGuardWaitExpiry_kept {x0 : Nat} {s : State} (h : Kept a.full s) : KeptOut a.full (execGuardWaitExpiry x0 s) := by
  unfold execGuardWaitExpiry; simp +contextual (maxDischargeDepth := 40) [h]

@[simp] theorem execAbortFanoutInvocation_kept {x0 : Nat} {s : State} (h : Kept a.full s) : KeptOut a.full (execAbortFanoutInvocation x0 s) := by
  unfold execAbortFanoutInvocation; simp +contextual (maxDischargeDepth := 40) [h]

@[simp] theorem execCollectiveNotice_kept {x0 : Nat} {s : State} (h : Kept a.full s) : KeptOut a.full (execCollectiveNotice x0 s) := by
  unfold execCollectiveNotice; simp +contextual (maxDischargeDepth := 40) [h]

/-! ### CmdFaults -/

@[simp] theorem execWatchdogCheck_kept {x0 : List WatchdogFinding} {s : State} (h : Kept a.full s) : KeptOut a.full (execWatchdogCheck x0 s) := by
  unfold execWatchdogCheck; simp +contextual (maxDischargeDepth := 40) [h]

@[simp] theorem execMgmtWatchdogExpiry_kept {s : State} (h : Kept a.full s) : KeptOut a.full (execMgmtWatchdogExpiry s) := by
  unfold execMgmtWatchdogExpiry; simp +contextual (maxDischargeDepth := 40) [h]

@[simp] theorem coreRestarted_kept {s : State} (h : Kept a.full s) : Kept a.full (coreRestarted s) := by
  unfold coreRestarted; simp +contextual (maxDischargeDepth := 40) [h]

@[simp] theorem execMgmtRestartComplete_kept {s : State} (h : Kept a.full s) : KeptOut a.full (execMgmtRestartComplete s) := by
  unfold execMgmtRestartComplete; simp +contextual (maxDischargeDepth := 40) [h]

@[simp] theorem execUncorrectableWord_kept {x0 : MemSite} {s : State} (h : Kept a.full s) : KeptOut a.full (execUncorrectableWord x0 s) := by
  unfold execUncorrectableWord; simp +contextual (maxDischargeDepth := 40) [h]

@[simp] theorem execStuckBitTest_kept {x0 : MemSite} {x1 : Bool} {s : State} (h : Kept a.full s) : KeptOut a.full (execStuckBitTest x0 x1 s) := by
  unfold execStuckBitTest; simp +contextual (maxDischargeDepth := 40) [h]

@[simp] theorem execRowReplacementDone_kept {x0 : Nat} {x1 : Nat} {s : State} (h : Kept a.full s) : KeptOut a.full (execRowReplacementDone x0 x1 s) := by
  unfold execRowReplacementDone; simp +contextual (maxDischargeDepth := 40) [h]

@[simp] theorem execTrackerHardFailure_kept {x0 : Nat} {x1 : Bool} {s : State} (h : Kept a.full s) : KeptOut a.full (execTrackerHardFailure x0 x1 s) := by
  unfold execTrackerHardFailure; simp +contextual (maxDischargeDepth := 40) [h]

@[simp] theorem execPartitionReset_kept {x0 : Requester} {x1 : Nat} {s : State} (h : Kept a.full s) : KeptOut a.full (execPartitionReset x0 x1 s) := by
  unfold execPartitionReset; simp +contextual (maxDischargeDepth := 40) [h]

@[simp] theorem execDrainComplete_kept {x0 : Nat} {s : State} (h : Kept a.full s) : KeptOut a.full (execDrainComplete x0 s) := by
  unfold execDrainComplete; simp +contextual (maxDischargeDepth := 40) [h]

@[simp] theorem execDrainLimitExpiry_kept {x0 : Nat} {s : State} (h : Kept a.full s) : KeptOut a.full (execDrainLimitExpiry x0 s) := by
  unfold execDrainLimitExpiry; simp +contextual (maxDischargeDepth := 40) [h]

@[simp] theorem execPartitionReady_kept {x0 : Requester} {x1 : Nat} {s : State} (h : Kept a.full s) : KeptOut a.full (execPartitionReady x0 x1 s) := by
  unfold execPartitionReady; simp +contextual (maxDischargeDepth := 40) [h]

@[simp] theorem execPartitionQuietExpiry_kept {x0 : Nat} {s : State} (h : Kept a.full s) : KeptOut a.full (execPartitionQuietExpiry x0 s) := by
  unfold execPartitionQuietExpiry; simp +contextual (maxDischargeDepth := 40) [h]

@[simp] theorem execGateAdmit_kept {x0 : Requester} {x1 : Nat} {x2 : Nat} {s : State} (h : Kept a.full s) : KeptOut a.full (execGateAdmit x0 x1 x2 s) := by
  unfold execGateAdmit; simp +contextual (maxDischargeDepth := 40) [h]

@[simp] theorem execGateClear_kept {x0 : Requester} {x1 : Nat} {x2 : Nat} {s : State} (h : Kept a.full s) : KeptOut a.full (execGateClear x0 x1 x2 s) := by
  unfold execGateClear; simp +contextual (maxDischargeDepth := 40) [h]

@[simp] theorem execGateOpen_kept {x0 : Requester} {x1 : Nat} {s : State} (h : Kept a.full s) : KeptOut a.full (execGateOpen x0 x1 s) := by
  unfold execGateOpen; simp +contextual (maxDischargeDepth := 40) [h]

@[simp] theorem execContextListClear_kept {x0 : Requester} {s : State} (h : Kept a.full s) : KeptOut a.full (execContextListClear x0 s) := by
  unfold execContextListClear; simp +contextual (maxDischargeDepth := 40) [h]

@[simp] theorem execFaultResend_kept {s : State} (h : Kept a.full s) : KeptOut a.full (execFaultResend s) := by
  unfold execFaultResend; simp +contextual (maxDischargeDepth := 40) [h]

/-! ### CmdHost -/

@[simp] theorem acceptedHook_kept {s : State} {x1 : Nat} {x2 : Access} (h : Kept a.full s) : Kept a.full (acceptedHook s x1 x2) := by
  unfold acceptedHook
  (repeat' split) <;> simp +contextual (maxDischargeDepth := 40) [h]

@[simp] theorem acceptNext_kept {s : State} {x1 : Nat} (h : Kept a.full s) : Kept a.full (acceptNext s x1) := by
  unfold acceptNext
  (try simp only []) <;> (repeat' split) <;> simp +contextual (maxDischargeDepth := 40) [*]

@[simp] theorem execMspRequestAccept_kept {x0 : Nat} {s : State} (h : Kept a.full s) : KeptOut a.full (execMspRequestAccept x0 s) := by
  unfold execMspRequestAccept; simp +contextual (maxDischargeDepth := 40) [h]

@[simp] theorem execMspCompletion_kept {x0 : Nat} {x1 : Nat} {x2 : Nat} {x3 : List Byte} {s : State} (h : Kept a.full s) : KeptOut a.full (execMspCompletion x0 x1 x2 x3 s) := by
  unfold execMspCompletion
  (try simp only []) <;> (repeat' split) <;> simp +contextual (maxDischargeDepth := 40) [*]

@[simp] theorem execAtomicLockGrant_kept {x0 : Nat} {s : State} (h : Kept a.full s) : KeptOut a.full (execAtomicLockGrant x0 s) := by
  unfold execAtomicLockGrant; simp +contextual (maxDischargeDepth := 40) [h]

@[simp] theorem execMspAbandon_kept {x0 : Nat} {s : State} (h : Kept a.full s) : KeptOut a.full (execMspAbandon x0 s) := by
  unfold execMspAbandon; simp +contextual (maxDischargeDepth := 40) [h]

@[simp] theorem engineAccess_kept {s : State} {x1 : Nat} {x2 : EspReq} (h : Kept a.full s) : KeptOut a.full (engineAccess s x1 x2) := by
  unfold engineAccess
  (repeat' split) <;> simp +contextual (maxDischargeDepth := 40) [h]

@[simp] theorem execLoad_kept {x0 : EspReq} {s : State} (h : Kept a.full s) : KeptOut a.full (execLoad x0 s) := by simp [execLoad, h]

@[simp] theorem execStore_kept {x0 : EspReq} {s : State} (h : Kept a.full s) : KeptOut a.full (execStore x0 s) := by simp [execStore, h]

@[simp] theorem execStoreAck_kept {x0 : EspReq} {s : State} (h : Kept a.full s) : KeptOut a.full (execStoreAck x0 s) := by simp [execStoreAck, h]

@[simp] theorem execEspAtomic_kept {x0 : EspReq} {s : State} (h : Kept a.full s) : KeptOut a.full (execEspAtomic x0 s) := by simp [execEspAtomic, h]

@[simp] theorem execEspAtomicFetch_kept {x0 : EspReq} {s : State} (h : Kept a.full s) : KeptOut a.full (execEspAtomicFetch x0 s) := by simp [execEspAtomicFetch, h]

@[simp] theorem execEspLedgerAdd_kept {x0 : EspReq} {s : State} (h : Kept a.full s) : KeptOut a.full (execEspLedgerAdd x0 s) := by simp [execEspLedgerAdd, h]

@[simp] theorem execEspLedgerRead_kept {x0 : EspReq} {s : State} (h : Kept a.full s) : KeptOut a.full (execEspLedgerRead x0 s) := by simp [execEspLedgerRead, h]

@[simp] theorem execEspLedgerReadClear_kept {x0 : EspReq} {s : State} (h : Kept a.full s) : KeptOut a.full (execEspLedgerReadClear x0 s) := by simp [execEspLedgerReadClear, h]

@[simp] theorem execFenceCore_kept {x0 : EspReq} {s : State} (h : Kept a.full s) : KeptOut a.full (execFenceCore x0 s) := by simp [execFenceCore, h]

@[simp] theorem execFenceChip_kept {x0 : EspReq} {s : State} (h : Kept a.full s) : KeptOut a.full (execFenceChip x0 s) := by simp [execFenceChip, h]

@[simp] theorem execFenceSystem_kept {x0 : EspReq} {s : State} (h : Kept a.full s) : KeptOut a.full (execFenceSystem x0 s) := by simp [execFenceSystem, h]

@[simp] theorem execFenceComplete_kept {x0 : Nat} {s : State} (h : Kept a.full s) : KeptOut a.full (execFenceComplete x0 s) := by
  unfold execFenceComplete; simp +contextual (maxDischargeDepth := 40) [h]

@[simp] theorem execFenceTimeout_kept {x0 : Nat} {s : State} (h : Kept a.full s) : KeptOut a.full (execFenceTimeout x0 s) := by
  unfold execFenceTimeout; simp +contextual (maxDischargeDepth := 40) [h]

/-! ### CmdLink -/

@[simp] theorem portEvent_kept {x0 : Nat} {x1 : State → State} {s : State} (hf : ∀ t, Kept a.full t → Kept a.full (x1 t)) (h : Kept a.full s) : KeptOut a.full (portEvent x0 x1 s) := by
  unfold portEvent
  (try simp only []) <;> (repeat' split) <;> simp +contextual (maxDischargeDepth := 40) [*]

@[simp] theorem execFlitTransmit_kept {x0 : Nat} {s : State} (h : Kept a.full s) : KeptOut a.full (execFlitTransmit x0 s) := by
  unfold execFlitTransmit; simp +contextual (maxDischargeDepth := 40) [h]

@[simp] theorem execFlitReceive_kept {x0 : Nat} {x1 : Nat} {x2 : Nat} {x3 : Bool} {s : State} (h : Kept a.full s) : KeptOut a.full (execFlitReceive x0 x1 x2 x3 s) := by
  unfold execFlitReceive; simp +contextual (maxDischargeDepth := 40) [h]

@[simp] theorem execReplayTimeout_kept {x0 : Nat} {s : State} (h : Kept a.full s) : KeptOut a.full (execReplayTimeout x0 s) := by
  unfold execReplayTimeout; simp +contextual (maxDischargeDepth := 40) [h]

@[simp] theorem execLaneNull_kept {x0 : Nat} {x1 : Nat} {x2 : Nat} {s : State} (h : Kept a.full s) : KeptOut a.full (execLaneNull x0 x1 x2 s) := by simp [execLaneNull, h]

@[simp] theorem execLaneAdd_kept {x0 : Nat} {x1 : Nat} {x2 : Nat} {s : State} (h : Kept a.full s) : KeptOut a.full (execLaneAdd x0 x1 x2 s) := by
  unfold execLaneAdd; simp +contextual (maxDischargeDepth := 40) [h]

@[simp] theorem execLaneRemove_kept {x0 : Nat} {x1 : Nat} {x2 : Nat} {s : State} (h : Kept a.full s) : KeptOut a.full (execLaneRemove x0 x1 x2 s) := by
  unfold execLaneRemove; simp +contextual (maxDischargeDepth := 40) [h]

@[simp] theorem execLaneRequestAdd_kept {x0 : Nat} {x1 : Nat} {x2 : Nat} {s : State} (h : Kept a.full s) : KeptOut a.full (execLaneRequestAdd x0 x1 x2 s) := by
  unfold execLaneRequestAdd; simp +contextual (maxDischargeDepth := 40) [h]

@[simp] theorem execLaneRequestRemove_kept {x0 : Nat} {x1 : Nat} {x2 : Nat} {s : State} (h : Kept a.full s) : KeptOut a.full (execLaneRequestRemove x0 x1 x2 s) := by
  unfold execLaneRequestRemove; simp +contextual (maxDischargeDepth := 40) [h]

@[simp] theorem execLaneRefuse_kept {x0 : Nat} {x1 : Nat} {x2 : Nat} {s : State} (h : Kept a.full s) : KeptOut a.full (execLaneRefuse x0 x1 x2 s) := by
  unfold execLaneRefuse; simp +contextual (maxDischargeDepth := 40) [h]

@[simp] theorem execLaneHush_kept {x0 : Nat} {x1 : Nat} {x2 : Nat} {s : State} (h : Kept a.full s) : KeptOut a.full (execLaneHush x0 x1 x2 s) := by
  unfold execLaneHush; simp +contextual (maxDischargeDepth := 40) [h]

@[simp] theorem execLaneShelve_kept {x0 : Nat} {x1 : Nat} {x2 : Nat} {s : State} (h : Kept a.full s) : KeptOut a.full (execLaneShelve x0 x1 x2 s) := by
  unfold execLaneShelve; simp +contextual (maxDischargeDepth := 40) [h]

@[simp] theorem execLaneTestEnter_kept {x0 : Nat} {x1 : Nat} {x2 : Nat} {s : State} (h : Kept a.full s) : KeptOut a.full (execLaneTestEnter x0 x1 x2 s) := by
  unfold execLaneTestEnter; simp +contextual (maxDischargeDepth := 40) [h]

@[simp] theorem execLaneTestExit_kept {x0 : Nat} {x1 : Nat} {x2 : Nat} {s : State} (h : Kept a.full s) : KeptOut a.full (execLaneTestExit x0 x1 x2 s) := by
  unfold execLaneTestExit; simp +contextual (maxDischargeDepth := 40) [h]

@[simp] theorem execLaneChangeAdd_kept {x0 : Requester} {x1 : Nat} {x2 : Nat} {s : State} (h : Kept a.full s) : KeptOut a.full (execLaneChangeAdd x0 x1 x2 s) := by
  unfold execLaneChangeAdd; simp +contextual (maxDischargeDepth := 40) [h]

@[simp] theorem execLaneChangeRemove_kept {x0 : Requester} {x1 : Nat} {x2 : Nat} {s : State} (h : Kept a.full s) : KeptOut a.full (execLaneChangeRemove x0 x1 x2 s) := by
  unfold execLaneChangeRemove; simp +contextual (maxDischargeDepth := 40) [h]

@[simp] theorem execGracePeriodExpiry_kept {x0 : Nat} {s : State} (h : Kept a.full s) : KeptOut a.full (execGracePeriodExpiry x0 s) := by
  unfold execGracePeriodExpiry; simp +contextual (maxDischargeDepth := 40) [h]

@[simp] theorem execRetrainStart_kept {x0 : Nat} {s : State} (h : Kept a.full s) : KeptOut a.full (execRetrainStart x0 s) := by
  unfold execRetrainStart; simp +contextual (maxDischargeDepth := 40) [h]

@[simp] theorem execPortRetrain_kept {x0 : Requester} {x1 : Nat} {s : State} (h : Kept a.full s) : KeptOut a.full (execPortRetrain x0 x1 s) := by
  unfold execPortRetrain; simp +contextual (maxDischargeDepth := 40) [h]

@[simp] theorem execLosAssert_kept {x0 : Nat} {x1 : LaneMoment} {s : State} (h : Kept a.full s) : KeptOut a.full (execLosAssert x0 x1 s) := by
  unfold execLosAssert; simp +contextual (maxDischargeDepth := 40) [h]

@[simp] theorem execLolAssert_kept {x0 : Nat} {x1 : Nat} {s : State} (h : Kept a.full s) : KeptOut a.full (execLolAssert x0 x1 s) := by
  unfold execLolAssert; simp +contextual (maxDischargeDepth := 40) [h]

@[simp] theorem execUncorrectableCodeword_kept {x0 : Nat} {x1 : LaneCodeword} {s : State} (h : Kept a.full s) : KeptOut a.full (execUncorrectableCodeword x0 x1 s) := by
  unfold execUncorrectableCodeword; simp +contextual (maxDischargeDepth := 40) [h]

@[simp] theorem execTrainingBlock_kept {x0 : Nat} {x1 : Nat} {x2 : Nat} {s : State} (h : Kept a.full s) : KeptOut a.full (execTrainingBlock x0 x1 x2 s) := by
  unfold execTrainingBlock; simp +contextual (maxDischargeDepth := 40) [h]

@[simp] theorem execAlignmentAndFillerCodeword_kept {x0 : Nat} {x1 : LaneCodeword} {x2 : Nat} {s : State} (h : Kept a.full s) : KeptOut a.full (execAlignmentAndFillerCodeword x0 x1 x2 s) := by
  unfold execAlignmentAndFillerCodeword; simp +contextual (maxDischargeDepth := 40) [h]

@[simp] theorem execTrainingComplete_kept {x0 : Nat} {s : State} (h : Kept a.full s) : KeptOut a.full (execTrainingComplete x0 s) := by
  unfold execTrainingComplete; simp +contextual (maxDischargeDepth := 40) [h]

@[simp] theorem execTrainingLimitExpiry_kept {x0 : Nat} {s : State} (h : Kept a.full s) : KeptOut a.full (execTrainingLimitExpiry x0 s) := by
  unfold execTrainingLimitExpiry; simp +contextual (maxDischargeDepth := 40) [h]

@[simp] theorem execTrainingStageTimeout_kept {x0 : Nat} {x1 : Nat} {s : State} (h : Kept a.full s) : KeptOut a.full (execTrainingStageTimeout x0 x1 s) := by
  unfold execTrainingStageTimeout; simp +contextual (maxDischargeDepth := 40) [h]

@[simp] theorem execFastRetrainLimitExpiry_kept {x0 : Nat} {s : State} (h : Kept a.full s) : KeptOut a.full (execFastRetrainLimitExpiry x0 s) := by
  unfold execFastRetrainLimitExpiry; simp +contextual (maxDischargeDepth := 40) [h]

@[simp] theorem execLaneRetryIntervalExpiry_kept {x0 : Nat} {x1 : Nat} {s : State} (h : Kept a.full s) : KeptOut a.full (execLaneRetryIntervalExpiry x0 x1 s) := by
  unfold execLaneRetryIntervalExpiry; simp +contextual (maxDischargeDepth := 40) [h]

@[simp] theorem execLaneWakeComplete_kept {x0 : Nat} {x1 : Nat} {s : State} (h : Kept a.full s) : KeptOut a.full (execLaneWakeComplete x0 x1 s) := by
  unfold execLaneWakeComplete; simp +contextual (maxDischargeDepth := 40) [h]

@[simp] theorem execRxWidthTargetWrite_kept {x0 : Requester} {x1 : Nat} {x2 : Nat} {s : State} (h : Kept a.full s) : KeptOut a.full (execRxWidthTargetWrite x0 x1 x2 s) := by simp [execRxWidthTargetWrite, h]

@[simp] theorem execLaneTestStop_kept {x0 : Requester} {x1 : Nat} {x2 : Nat} {x3 : Nat} {s : State} (h : Kept a.full s) : KeptOut a.full (execLaneTestStop x0 x1 x2 x3 s) := by
  unfold execLaneTestStop; simp +contextual (maxDischargeDepth := 40) [h]

@[simp] theorem execLaneTestGenerate_kept {x0 : Requester} {x1 : Nat} {x2 : Nat} {x3 : Nat} {s : State} (h : Kept a.full s) : KeptOut a.full (execLaneTestGenerate x0 x1 x2 x3 s) := by
  unfold execLaneTestGenerate; simp +contextual (maxDischargeDepth := 40) [h]

@[simp] theorem execLaneTestCheck_kept {x0 : Requester} {x1 : Nat} {x2 : Nat} {x3 : Nat} {s : State} (h : Kept a.full s) : KeptOut a.full (execLaneTestCheck x0 x1 x2 x3 s) := by
  unfold execLaneTestCheck; simp +contextual (maxDischargeDepth := 40) [h]

@[simp] theorem execLaneTestNearSerial_kept {x0 : Requester} {x1 : Nat} {x2 : Nat} {x3 : Nat} {s : State} (h : Kept a.full s) : KeptOut a.full (execLaneTestNearSerial x0 x1 x2 x3 s) := by
  unfold execLaneTestNearSerial; simp +contextual (maxDischargeDepth := 40) [h]

@[simp] theorem execLaneTestNearParallel_kept {x0 : Requester} {x1 : Nat} {x2 : Nat} {x3 : Nat} {s : State} (h : Kept a.full s) : KeptOut a.full (execLaneTestNearParallel x0 x1 x2 x3 s) := by
  unfold execLaneTestNearParallel; simp +contextual (maxDischargeDepth := 40) [h]

@[simp] theorem execLaneTestFar_kept {x0 : Requester} {x1 : Nat} {x2 : Nat} {x3 : Nat} {s : State} (h : Kept a.full s) : KeptOut a.full (execLaneTestFar x0 x1 x2 x3 s) := by
  unfold execLaneTestFar; simp +contextual (maxDischargeDepth := 40) [h]

@[simp] theorem execLaneTestDurationExpiry_kept {x0 : Nat} {x1 : Nat} {s : State} (h : Kept a.full s) : KeptOut a.full (execLaneTestDurationExpiry x0 x1 s) := by
  unfold execLaneTestDurationExpiry; simp +contextual (maxDischargeDepth := 40) [h]

@[simp] theorem execErrorInjectWrite_kept {x0 : Requester} {x1 : Nat} {x2 : Nat} {x3 : Nat} {s : State} (h : Kept a.full s) : KeptOut a.full (execErrorInjectWrite x0 x1 x2 x3 s) := by simp [execErrorInjectWrite, h]

@[simp] theorem execErrorInjection_kept {x0 : Nat} {x1 : Nat} {s : State} (h : Kept a.full s) : KeptOut a.full (execErrorInjection x0 x1 s) := by
  unfold execErrorInjection; simp +contextual (maxDischargeDepth := 40) [h]

@[simp] theorem execCheckerLock_kept {x0 : Nat} {x1 : Nat} {s : State} (h : Kept a.full s) : KeptOut a.full (execCheckerLock x0 x1 s) := by
  unfold execCheckerLock; simp +contextual (maxDischargeDepth := 40) [h]

@[simp] theorem execCheckerSyncLoss_kept {x0 : Nat} {x1 : Nat} {x2 : Nat} {x3 : Nat} {s : State} (h : Kept a.full s) : KeptOut a.full (execCheckerSyncLoss x0 x1 x2 x3 s) := by
  unfold execCheckerSyncLoss; simp +contextual (maxDischargeDepth := 40) [h]

/-! ### CmdTime -/

@[simp] theorem unlessPor_kept {x0 : State → State} {s : State} (hf : ∀ t, Kept a.full t → Kept a.full (x0 t)) (h : Kept a.full s) : Kept a.full (unlessPor x0 s) := by
  unfold unlessPor
  (try simp only []) <;> (repeat' split) <;> simp +contextual (maxDischargeDepth := 40) [*]

@[simp] theorem execSyncIntervalExpiry_kept {x0 : Nat} {s : State} (h : Kept a.full s) : KeptOut a.full (execSyncIntervalExpiry x0 s) := by
  unfold execSyncIntervalExpiry; simp +contextual (maxDischargeDepth := 40) [h]

@[simp] theorem execSyncTimeout_kept {s : State} (h : Kept a.full s) : KeptOut a.full (execSyncTimeout s) := by
  unfold execSyncTimeout; simp +contextual (maxDischargeDepth := 40) [h]

@[simp] theorem execHoldoverEntry_kept {s : State} (h : Kept a.full s) : KeptOut a.full (execHoldoverEntry s) := by
  unfold execHoldoverEntry; simp +contextual (maxDischargeDepth := 40) [h]

@[simp] theorem execTimeSet_kept {x0 : Requester} {x1 : Nat} {s : State} (h : Kept a.full s) : KeptOut a.full (execTimeSet x0 x1 s) := by
  unfold execTimeSet; simp +contextual (maxDischargeDepth := 40) [h]

@[simp] theorem execMarkModeWrite_kept {x0 : Requester} {x1 : Nat} {s : State} (h : Kept a.full s) : KeptOut a.full (execMarkModeWrite x0 x1 s) := by simp [execMarkModeWrite, h]

@[simp] theorem execMarkPeriodBoundary_kept {s : State} (h : Kept a.full s) : KeptOut a.full (execMarkPeriodBoundary s) := by
  unfold execMarkPeriodBoundary; simp +contextual (maxDischargeDepth := 40) [h]

@[simp] theorem execMarkWidthExpiry_kept {s : State} (h : Kept a.full s) : KeptOut a.full (execMarkWidthExpiry s) := by
  unfold execMarkWidthExpiry; simp +contextual (maxDischargeDepth := 40) [h]

@[simp] theorem execMarkInEdge_kept {s : State} (h : Kept a.full s) : KeptOut a.full (execMarkInEdge s) := by
  unfold execMarkInEdge; simp +contextual (maxDischargeDepth := 40) [h]

@[simp] theorem execMarkInStop_kept {s : State} (h : Kept a.full s) : KeptOut a.full (execMarkInStop s) := by
  unfold execMarkInStop; simp +contextual (maxDischargeDepth := 40) [h]

/-! ### CmdMirror -/

@[simp] theorem mirrorOn_kept {x0 : State → State} {s : State} (hf : ∀ t, Kept a.full t → Kept a.full (x0 t)) (h : Kept a.full s) : Kept a.full (mirrorOn x0 s) := by
  unfold mirrorOn
  (try simp only []) <;> (repeat' split) <;> simp +contextual (maxDischargeDepth := 40) [*]

@[simp] theorem execMirrorResendExpiry_kept {s : State} (h : Kept a.full s) : KeptOut a.full (execMirrorResendExpiry s) := by
  unfold execMirrorResendExpiry; simp +contextual (maxDischargeDepth := 40) [h]

@[simp] theorem execMirrorLostLimitExpiry_kept {s : State} (h : Kept a.full s) : KeptOut a.full (execMirrorLostLimitExpiry s) := by
  unfold execMirrorLostLimitExpiry; simp +contextual (maxDischargeDepth := 40) [h]

@[simp] theorem execMirrorCommitWaitExpiry_kept {s : State} (h : Kept a.full s) : KeptOut a.full (execMirrorCommitWaitExpiry s) := by
  unfold execMirrorCommitWaitExpiry; simp +contextual (maxDischargeDepth := 40) [h]

@[simp] theorem execCounterpartRestore_kept {x0 : Requester} {x1 : Nat} {x2 : Nat} {x3 : Nat} {s : State} (h : Kept a.full s) : KeptOut a.full (execCounterpartRestore x0 x1 x2 x3 s) := by
  unfold execCounterpartRestore; simp +contextual (maxDischargeDepth := 40) [h]

@[simp] theorem execRestoreTimeout_kept {s : State} (h : Kept a.full s) : KeptOut a.full (execRestoreTimeout s) := by
  unfold execRestoreTimeout; simp +contextual (maxDischargeDepth := 40) [h]

@[simp] theorem execLogRecordForm_kept {s : State} (h : Kept a.full s) : KeptOut a.full (execLogRecordForm s) := by
  unfold execLogRecordForm; simp +contextual (maxDischargeDepth := 40) [h]

@[simp] theorem execLogDrainWrite_kept {s : State} (h : Kept a.full s) : KeptOut a.full (execLogDrainWrite s) := by
  unfold execLogDrainWrite; simp +contextual (maxDischargeDepth := 40) [h]

/-! ### CmdObserve -/

@[simp] theorem execOdcClear_kept {x0 : Requester} {x1 : Nat} {s : State} (h : Kept a.full s) : KeptOut a.full (execOdcClear x0 x1 s) := by
  unfold execOdcClear; simp +contextual (maxDischargeDepth := 40) [h]

@[simp] theorem execSnapshotTake_kept {x0 : Requester} {x1 : Nat} {x2 : Nat} {s : State} (h : Kept a.full s) : KeptOut a.full (execSnapshotTake x0 x1 x2 s) := by
  unfold execSnapshotTake; simp +contextual (maxDischargeDepth := 40) [h]

@[simp] theorem execSnapshotTimeReached_kept {s : State} (h : Kept a.full s) : KeptOut a.full (execSnapshotTimeReached s) := by
  unfold execSnapshotTimeReached; simp +contextual (maxDischargeDepth := 40) [h]

@[simp] theorem execTraceLineFlush_kept {s : State} (h : Kept a.full s) : KeptOut a.full (execTraceLineFlush s) := by
  unfold execTraceLineFlush; simp +contextual (maxDischargeDepth := 40) [h]

@[simp] theorem execTraceDrain_kept {s : State} (h : Kept a.full s) : KeptOut a.full (execTraceDrain s) := by
  unfold execTraceDrain; simp +contextual (maxDischargeDepth := 40) [h]

@[simp] theorem execGlobalStop_kept {x0 : Requester} {s : State} (h : Kept a.full s) : KeptOut a.full (execGlobalStop x0 s) := by
  unfold execGlobalStop; simp +contextual (maxDischargeDepth := 40) [h]

@[simp] theorem execScanRead_kept {x0 : Requester} {x1 : Nat} {x2 : Nat} {s : State} (h : Kept a.full s) : KeptOut a.full (execScanRead x0 x1 x2 s) := by
  unfold execScanRead; simp +contextual (maxDischargeDepth := 40) [h]

@[simp] theorem execExtest_kept {x0 : Nat} {s : State} (h : Kept a.full s) : KeptOut a.full (execExtest x0 s) := by
  unfold execExtest
  (repeat' split) <;> simp +contextual (maxDischargeDepth := 40) [h]

@[simp] theorem execIdcode_kept {s : State} (h : Kept a.full s) : KeptOut a.full (execIdcode s) := by
  unfold execIdcode; simp +contextual (maxDischargeDepth := 40) [h]

@[simp] theorem execSamplePreload_kept {x0 : Nat} {s : State} (h : Kept a.full s) : KeptOut a.full (execSamplePreload x0 s) := by
  unfold execSamplePreload; simp +contextual (maxDischargeDepth := 40) [h]

@[simp] theorem execScanSelect_kept {x0 : Nat} {s : State} (h : Kept a.full s) : KeptOut a.full (execScanSelect x0 s) := by
  unfold execScanSelect; simp +contextual (maxDischargeDepth := 40) [h]

@[simp] theorem execScanData_kept {x0 : Nat} {s : State} (h : Kept a.full s) : KeptOut a.full (execScanData x0 s) := by
  unfold execScanData; simp +contextual (maxDischargeDepth := 40) [h]

@[simp] theorem execBypass_kept {x0 : Bool} {s : State} (h : Kept a.full s) : KeptOut a.full (execBypass x0 s) := by
  unfold execBypass; simp +contextual (maxDischargeDepth := 40) [h]

@[simp] theorem execPrivateTestMode_kept {x0 : Nat} {s : State} (h : Kept a.full s) : KeptOut a.full (execPrivateTestMode x0 s) := by simp [execPrivateTestMode, h]

/-! ### CmdPackets -/

@[simp] theorem packetOut_kept {s : State} {x1 : Nat} {x2 : Packet} (h : Kept a.full s) : KeptOut a.full (packetOut s x1 x2) := by
  unfold packetOut; simp +contextual (maxDischargeDepth := 40) [h]

@[simp] theorem execRead_kept {x0 : Nat} {x1 : Packet} {s : State} (h : Kept a.full s) : KeptOut a.full (execRead x0 x1 s) := by simp [execRead, h]

@[simp] theorem execWrite_kept {x0 : Nat} {x1 : Packet} {s : State} (h : Kept a.full s) : KeptOut a.full (execWrite x0 x1 s) := by simp [execWrite, h]

@[simp] theorem execWriteAck_kept {x0 : Nat} {x1 : Packet} {s : State} (h : Kept a.full s) : KeptOut a.full (execWriteAck x0 x1 s) := by simp [execWriteAck, h]

@[simp] theorem execAtomic_kept {x0 : Nat} {x1 : Packet} {s : State} (h : Kept a.full s) : KeptOut a.full (execAtomic x0 x1 s) := by simp [execAtomic, h]

@[simp] theorem execAtomicFetch_kept {x0 : Nat} {x1 : Packet} {s : State} (h : Kept a.full s) : KeptOut a.full (execAtomicFetch x0 x1 s) := by simp [execAtomicFetch, h]

@[simp] theorem execLedgerAdd_kept {x0 : Nat} {x1 : Packet} {s : State} (h : Kept a.full s) : KeptOut a.full (execLedgerAdd x0 x1 s) := by simp [execLedgerAdd, h]

@[simp] theorem execLedgerRead_kept {x0 : Nat} {x1 : Packet} {s : State} (h : Kept a.full s) : KeptOut a.full (execLedgerRead x0 x1 s) := by simp [execLedgerRead, h]

@[simp] theorem execLedgerReadClear_kept {x0 : Nat} {x1 : Packet} {s : State} (h : Kept a.full s) : KeptOut a.full (execLedgerReadClear x0 x1 s) := by simp [execLedgerReadClear, h]

@[simp] theorem execProbe_kept {x0 : Nat} {x1 : Packet} {s : State} (h : Kept a.full s) : KeptOut a.full (execProbe x0 x1 s) := by simp [execProbe, h]

@[simp] theorem execHoldRelease_kept {x0 : Nat} {x1 : Packet} {s : State} (h : Kept a.full s) : KeptOut a.full (execHoldRelease x0 x1 s) := by simp [execHoldRelease, h]

@[simp] theorem execNoticePost_kept {x0 : Nat} {x1 : Packet} {s : State} (h : Kept a.full s) : KeptOut a.full (execNoticePost x0 x1 s) := by simp [execNoticePost, h]

@[simp] theorem execCommitPoll_kept {x0 : Nat} {x1 : Packet} {s : State} (h : Kept a.full s) : KeptOut a.full (execCommitPoll x0 x1 s) := by simp [execCommitPoll, h]

@[simp] theorem execContrib_kept {x0 : Nat} {x1 : Packet} {s : State} (h : Kept a.full s) : KeptOut a.full (execContrib x0 x1 s) := by simp [execContrib, h]

@[simp] theorem execContribLong_kept {x0 : Nat} {x1 : Packet} {s : State} (h : Kept a.full s) : KeptOut a.full (execContribLong x0 x1 s) := by simp [execContribLong, h]

@[simp] theorem execLoanData_kept {x0 : Nat} {x1 : Packet} {s : State} (h : Kept a.full s) : KeptOut a.full (execLoanData x0 x1 s) := by simp [execLoanData, h]

@[simp] theorem execReadRsp_kept {x0 : Nat} {x1 : Packet} {s : State} (h : Kept a.full s) : KeptOut a.full (execReadRsp x0 x1 s) := by simp [execReadRsp, h]

@[simp] theorem execStatusRsp_kept {x0 : Nat} {x1 : Packet} {s : State} (h : Kept a.full s) : KeptOut a.full (execStatusRsp x0 x1 s) := by simp [execStatusRsp, h]

@[simp] theorem execAtomicRsp_kept {x0 : Nat} {x1 : Packet} {s : State} (h : Kept a.full s) : KeptOut a.full (execAtomicRsp x0 x1 s) := by simp [execAtomicRsp, h]

@[simp] theorem execLedgerRsp_kept {x0 : Nat} {x1 : Packet} {s : State} (h : Kept a.full s) : KeptOut a.full (execLedgerRsp x0 x1 s) := by simp [execLedgerRsp, h]

@[simp] theorem execProbeRsp_kept {x0 : Nat} {x1 : Packet} {s : State} (h : Kept a.full s) : KeptOut a.full (execProbeRsp x0 x1 s) := by simp [execProbeRsp, h]

@[simp] theorem execCommitAck_kept {x0 : Nat} {x1 : Packet} {s : State} (h : Kept a.full s) : KeptOut a.full (execCommitAck x0 x1 s) := by simp [execCommitAck, h]

@[simp] theorem execMgmtReq_kept {x0 : Nat} {x1 : Packet} {s : State} (h : Kept a.full s) : KeptOut a.full (execMgmtReq x0 x1 s) := by simp [execMgmtReq, h]

@[simp] theorem execMgmtRsp_kept {x0 : Nat} {x1 : Packet} {s : State} (h : Kept a.full s) : KeptOut a.full (execMgmtRsp x0 x1 s) := by simp [execMgmtRsp, h]

@[simp] theorem execRetiredNotice_kept {x0 : Nat} {x1 : Packet} {s : State} (h : Kept a.full s) : KeptOut a.full (execRetiredNotice x0 x1 s) := by simp [execRetiredNotice, h]

@[simp] theorem execFaultReport_kept {x0 : Nat} {x1 : Packet} {s : State} (h : Kept a.full s) : KeptOut a.full (execFaultReport x0 x1 s) := by simp [execFaultReport, h]

@[simp] theorem execFaultAck_kept {x0 : Nat} {x1 : Packet} {s : State} (h : Kept a.full s) : KeptOut a.full (execFaultAck x0 x1 s) := by simp [execFaultAck, h]

@[simp] theorem execMirrorAck_kept {x0 : Nat} {x1 : Packet} {s : State} (h : Kept a.full s) : KeptOut a.full (execMirrorAck x0 x1 s) := by simp [execMirrorAck, h]

@[simp] theorem execMirrorValue_kept {x0 : Nat} {x1 : Packet} {s : State} (h : Kept a.full s) : KeptOut a.full (execMirrorValue x0 x1 s) := by simp [execMirrorValue, h]

@[simp] theorem execMirrorRows_kept {x0 : Nat} {x1 : Packet} {s : State} (h : Kept a.full s) : KeptOut a.full (execMirrorRows x0 x1 s) := by simp [execMirrorRows, h]

@[simp] theorem execMirrorLogRecords_kept {x0 : Nat} {x1 : Packet} {s : State} (h : Kept a.full s) : KeptOut a.full (execMirrorLogRecords x0 x1 s) := by simp [execMirrorLogRecords, h]

@[simp] theorem execSnapshotBegin_kept {x0 : Nat} {x1 : Packet} {s : State} (h : Kept a.full s) : KeptOut a.full (execSnapshotBegin x0 x1 s) := by simp [execSnapshotBegin, h]

@[simp] theorem execSnapshotEnd_kept {x0 : Nat} {x1 : Packet} {s : State} (h : Kept a.full s) : KeptOut a.full (execSnapshotEnd x0 x1 s) := by simp [execSnapshotEnd, h]

@[simp] theorem execRestoreRequest_kept {x0 : Nat} {x1 : Packet} {s : State} (h : Kept a.full s) : KeptOut a.full (execRestoreRequest x0 x1 s) := by simp [execRestoreRequest, h]

@[simp] theorem execRestoreBegin_kept {x0 : Nat} {x1 : Packet} {s : State} (h : Kept a.full s) : KeptOut a.full (execRestoreBegin x0 x1 s) := by simp [execRestoreBegin, h]

@[simp] theorem execTimeSyncReq_kept {x0 : Nat} {x1 : Packet} {x2 : Nat} {s : State} (h : Kept a.full s) : KeptOut a.full (execTimeSyncReq x0 x1 x2 s) := by
  unfold execTimeSyncReq; simp +contextual (maxDischargeDepth := 40) [h]

@[simp] theorem execTimeSyncRsp_kept {x0 : Nat} {x1 : Packet} {x2 : Nat} {s : State} (h : Kept a.full s) : KeptOut a.full (execTimeSyncRsp x0 x1 x2 s) := by
  unfold execTimeSyncRsp; simp +contextual (maxDischargeDepth := 40) [h]

@[simp] theorem execPassThrough_kept {x0 : Nat} {x1 : Packet} {s : State} (h : Kept a.full s) : KeptOut a.full (execPassThrough x0 x1 s) := by simp [execPassThrough, h]

@[simp] theorem execMalformedPacket_kept {x0 : Nat} {x1 : Packet} {s : State} (h : Kept a.full s) : KeptOut a.full (execMalformedPacket x0 x1 s) := by simp [execMalformedPacket, h]

/-! ### CmdRouting -/

@[simp] theorem execRouteRowWrite_kept {x0 : Requester} {x1 : Nat} {x2 : Nat} {x3 : Nat} {s : State} (h : Kept a.full s) : KeptOut a.full (execRouteRowWrite x0 x1 x2 x3 s) := by simp [execRouteRowWrite, h]

@[simp] theorem execLoanSet_kept {x0 : Requester} {s : State} (h : Kept a.full s) : KeptOut a.full (execLoanSet x0 s) := by
  unfold execLoanSet; simp +contextual (maxDischargeDepth := 40) [h]

@[simp] theorem execLoanClose_kept {x0 : Requester} {x1 : Nat} {s : State} (h : Kept a.full s) : KeptOut a.full (execLoanClose x0 x1 s) := by
  unfold execLoanClose; simp +contextual (maxDischargeDepth := 40) [h]

@[simp] theorem execLoanCloseDrainEnd_kept {x0 : Nat} {s : State} (h : Kept a.full s) : KeptOut a.full (execLoanCloseDrainEnd x0 s) := by
  unfold execLoanCloseDrainEnd; simp +contextual (maxDischargeDepth := 40) [h]

@[simp] theorem execLoanDrainLimitExpiry_kept {x0 : Nat} {s : State} (h : Kept a.full s) : KeptOut a.full (execLoanDrainLimitExpiry x0 s) := by
  unfold execLoanDrainLimitExpiry; simp +contextual (maxDischargeDepth := 40) [h]

@[simp] theorem execLoanOpen_kept {x0 : Requester} {s : State} (h : Kept a.full s) : KeptOut a.full (execLoanOpen x0 s) := by
  unfold execLoanOpen; simp +contextual (maxDischargeDepth := 40) [h]

@[simp] theorem execLoanHopOpen_kept {x0 : Requester} {x1 : LoanHopArg} {s : State} (h : Kept a.full s) : KeptOut a.full (execLoanHopOpen x0 x1 s) := by
  unfold execLoanHopOpen; simp +contextual (maxDischargeDepth := 40) [h]

@[simp] theorem execLoanHopClose_kept {x0 : Requester} {x1 : Nat} {s : State} (h : Kept a.full s) : KeptOut a.full (execLoanHopClose x0 x1 s) := by
  unfold execLoanHopClose; simp +contextual (maxDischargeDepth := 40) [h]

@[simp] theorem execLoanHopWaitExpiry_kept {x0 : Nat} {x1 : Nat} {x2 : Nat} {s : State} (h : Kept a.full s) : KeptOut a.full (execLoanHopWaitExpiry x0 x1 x2 s) := by
  unfold execLoanHopWaitExpiry; simp +contextual (maxDischargeDepth := 40) [h]

@[simp] theorem execLoanExpiry_kept {x0 : Nat} {x1 : Nat} {s : State} (h : Kept a.full s) : KeptOut a.full (execLoanExpiry x0 x1 s) := by
  unfold execLoanExpiry; simp +contextual (maxDischargeDepth := 40) [h]

/-! ### CmdSched -/

@[simp] theorem execSchedulerChoose_kept {x0 : Nat} {s : State} (h : Kept a.full s) : KeptOut a.full (execSchedulerChoose x0 s) := by
  unfold execSchedulerChoose; simp +contextual (maxDischargeDepth := 40) [h]

@[simp] theorem execShaperRefill_kept {s : State} (h : Kept a.full s) : KeptOut a.full (execShaperRefill s) := by
  unfold execShaperRefill; simp +contextual (maxDischargeDepth := 40) [h]

@[simp] theorem execPolicerRefill_kept {s : State} (h : Kept a.full s) : KeptOut a.full (execPolicerRefill s) := by simp [execPolicerRefill, h]

@[simp] theorem execQueueConfigWrite_kept {x0 : Requester} {x1 : Nat} {x2 : Nat} {x3 : Nat} {s : State} (h : Kept a.full s) : KeptOut a.full (execQueueConfigWrite x0 x1 x2 x3 s) := by simp [execQueueConfigWrite, h]

@[simp] theorem execPolicerWrite_kept {x0 : Requester} {x1 : Nat} {x2 : Nat} {s : State} (h : Kept a.full s) : KeptOut a.full (execPolicerWrite x0 x1 x2 s) := by simp [execPolicerWrite, h]

@[simp] theorem execDepthSample_kept {x0 : Nat} {s : State} (h : Kept a.full s) : KeptOut a.full (execDepthSample x0 s) := by simp [execDepthSample, h]

@[simp] theorem execSampleClear_kept {x0 : Requester} {x1 : Nat} {s : State} (h : Kept a.full s) : KeptOut a.full (execSampleClear x0 x1 s) := by
  unfold execSampleClear; simp +contextual (maxDischargeDepth := 40) [h]

/-! ### CmdSequencer -/

@[simp] theorem seqOut_kept {s : State} (h : Kept a.full s) : KeptOut a.full (seqOut s) := by simp [seqOut, h]

@[simp] theorem seqEnds_kept {s : State} {x1 : Nat} {x2 : Nat → Bool} (h : Kept a.full s) : Kept a.full (seqEnds s x1 x2) := by simp [seqEnds, h]

@[simp] theorem execSeqFault_kept {x0 : Nat} {s : State} (h : Kept a.full s) : KeptOut a.full (execSeqFault x0 s) := by simp [execSeqFault, h]

@[simp] theorem execSeqAdd_kept {x0 : Nat} {s : State} (h : Kept a.full s) : KeptOut a.full (execSeqAdd x0 s) := by simp [execSeqAdd, h]

@[simp] theorem execSeqSub_kept {x0 : Nat} {s : State} (h : Kept a.full s) : KeptOut a.full (execSeqSub x0 s) := by simp [execSeqSub, h]

@[simp] theorem execSeqAnd_kept {x0 : Nat} {s : State} (h : Kept a.full s) : KeptOut a.full (execSeqAnd x0 s) := by simp [execSeqAnd, h]

@[simp] theorem execSeqOr_kept {x0 : Nat} {s : State} (h : Kept a.full s) : KeptOut a.full (execSeqOr x0 s) := by simp [execSeqOr, h]

@[simp] theorem execSeqXor_kept {x0 : Nat} {s : State} (h : Kept a.full s) : KeptOut a.full (execSeqXor x0 s) := by simp [execSeqXor, h]

@[simp] theorem execSeqShl_kept {x0 : Nat} {s : State} (h : Kept a.full s) : KeptOut a.full (execSeqShl x0 s) := by simp [execSeqShl, h]

@[simp] theorem execSeqShr_kept {x0 : Nat} {s : State} (h : Kept a.full s) : KeptOut a.full (execSeqShr x0 s) := by simp [execSeqShr, h]

@[simp] theorem execSeqMul_kept {x0 : Nat} {s : State} (h : Kept a.full s) : KeptOut a.full (execSeqMul x0 s) := by simp [execSeqMul, h]

@[simp] theorem execSeqDivu_kept {x0 : Nat} {s : State} (h : Kept a.full s) : KeptOut a.full (execSeqDivu x0 s) := by simp [execSeqDivu, h]

@[simp] theorem execSeqMinu_kept {x0 : Nat} {s : State} (h : Kept a.full s) : KeptOut a.full (execSeqMinu x0 s) := by simp [execSeqMinu, h]

@[simp] theorem execSeqMaxu_kept {x0 : Nat} {s : State} (h : Kept a.full s) : KeptOut a.full (execSeqMaxu x0 s) := by simp [execSeqMaxu, h]

@[simp] theorem execSeqAddi_kept {x0 : Nat} {s : State} (h : Kept a.full s) : KeptOut a.full (execSeqAddi x0 s) := by simp [execSeqAddi, h]

@[simp] theorem execSeqLi_kept {x0 : Nat} {s : State} (h : Kept a.full s) : KeptOut a.full (execSeqLi x0 s) := by simp [execSeqLi, h]

@[simp] theorem execSeqSli_kept {x0 : Nat} {s : State} (h : Kept a.full s) : KeptOut a.full (execSeqSli x0 s) := by simp [execSeqSli, h]

@[simp] theorem execSeqBeq_kept {x0 : Nat} {s : State} (h : Kept a.full s) : KeptOut a.full (execSeqBeq x0 s) := by simp [execSeqBeq, h]

@[simp] theorem execSeqBne_kept {x0 : Nat} {s : State} (h : Kept a.full s) : KeptOut a.full (execSeqBne x0 s) := by simp [execSeqBne, h]

@[simp] theorem execSeqBltu_kept {x0 : Nat} {s : State} (h : Kept a.full s) : KeptOut a.full (execSeqBltu x0 s) := by simp [execSeqBltu, h]

@[simp] theorem execSeqBgeu_kept {x0 : Nat} {s : State} (h : Kept a.full s) : KeptOut a.full (execSeqBgeu x0 s) := by simp [execSeqBgeu, h]

@[simp] theorem execSeqJ_kept {x0 : Nat} {s : State} (h : Kept a.full s) : KeptOut a.full (execSeqJ x0 s) := by
  unfold execSeqJ; simp +contextual (maxDischargeDepth := 40) [h]

@[simp] theorem execSeqLdd_kept {x0 : Nat} {s : State} (h : Kept a.full s) : KeptOut a.full (execSeqLdd x0 s) := by simp [execSeqLdd, h]

@[simp] theorem execSeqStd_kept {x0 : Nat} {s : State} (h : Kept a.full s) : KeptOut a.full (execSeqStd x0 s) := by
  unfold execSeqStd; simp +contextual (maxDischargeDepth := 40) [h]

@[simp] theorem execSeqLdh_kept {x0 : Nat} {s : State} (h : Kept a.full s) : KeptOut a.full (execSeqLdh x0 s) := by
  unfold execSeqLdh; simp +contextual (maxDischargeDepth := 40) [h]

@[simp] theorem execSeqBld_kept {x0 : Nat} {s : State} (h : Kept a.full s) : KeptOut a.full (execSeqBld x0 s) := by
  unfold execSeqBld; simp +contextual (maxDischargeDepth := 40) [h]

@[simp] theorem execSeqRld_kept {x0 : Nat} {s : State} (h : Kept a.full s) : KeptOut a.full (execSeqRld x0 s) := by
  refine seqOut_kept (issueOp_kept h fun t w => ?_)
  extract_lets row rank
  split
  · exact putThread_kept h
  · exact threadReads_kept h

@[simp] theorem execSequencerHostReadDone_kept {x0 : Nat} {s : State} (h : Kept a.full s) : KeptOut a.full (execSequencerHostReadDone x0 s) := by
  unfold execSequencerHostReadDone; simp +contextual (maxDischargeDepth := 40) [h]

@[simp] theorem execSeqTime_kept {x0 : Nat} {s : State} (h : Kept a.full s) : KeptOut a.full (execSeqTime x0 s) := by simp [execSeqTime, h]

@[simp] theorem execSeqSend_kept {x0 : Nat} {s : State} (h : Kept a.full s) : KeptOut a.full (execSeqSend x0 s) := by
  unfold execSeqSend
  (repeat' split) <;> simp +contextual (maxDischargeDepth := 40) [h]

@[simp] theorem seqWaits_kept {s : State} {x1 : Nat} {x2 : Thread} {x3 : ThreadWait} (h : Kept a.full s) : Kept a.full (seqWaits s x1 x2 x3) := by simp [seqWaits, h]

@[simp] theorem execSeqWaits_kept {x0 : Nat} {s : State} (h : Kept a.full s) : KeptOut a.full (execSeqWaits x0 s) := by
  unfold execSeqWaits; simp +contextual (maxDischargeDepth := 40) [h]

@[simp] theorem execSeqWaitc_kept {x0 : Nat} {s : State} (h : Kept a.full s) : KeptOut a.full (execSeqWaitc x0 s) := by
  unfold execSeqWaitc; simp +contextual (maxDischargeDepth := 40) [h]

@[simp] theorem execSeqTokall_kept {x0 : Nat} {s : State} (h : Kept a.full s) : KeptOut a.full (execSeqTokall x0 s) := by
  unfold execSeqTokall; simp +contextual (maxDischargeDepth := 40) [h]

@[simp] theorem execSeqToken_kept {x0 : Nat} {s : State} (h : Kept a.full s) : KeptOut a.full (execSeqToken x0 s) := by
  unfold execSeqToken; simp +contextual (maxDischargeDepth := 40) [h]

@[simp] theorem execSeqWaitg_kept {x0 : Nat} {s : State} (h : Kept a.full s) : KeptOut a.full (execSeqWaitg x0 s) := by
  unfold execSeqWaitg; simp +contextual (maxDischargeDepth := 40) [h]

@[simp] theorem execSeqRdc_kept {x0 : Nat} {s : State} (h : Kept a.full s) : KeptOut a.full (execSeqRdc x0 s) := by simp [execSeqRdc, h]

@[simp] theorem execSeqRdg_kept {x0 : Nat} {s : State} (h : Kept a.full s) : KeptOut a.full (execSeqRdg x0 s) := by simp [execSeqRdg, h]

@[simp] theorem execSeqDone_kept {x0 : Nat} {s : State} (h : Kept a.full s) : KeptOut a.full (execSeqDone x0 s) := by
  unfold execSeqDone; simp +contextual (maxDischargeDepth := 40) [h]

@[simp] theorem execSeqAbort_kept {x0 : Nat} {s : State} (h : Kept a.full s) : KeptOut a.full (execSeqAbort x0 s) := by simp [execSeqAbort, h]

/-! ### CmdShelf -/

@[simp] theorem execNotifyAck_kept {x0 : Nat} {x1 : Nat} {x2 : Datagram} {s : State} (h : Kept a.full s) : KeptOut a.full (execNotifyAck x0 x1 x2 s) := by
  unfold execNotifyAck; simp +contextual (maxDischargeDepth := 40) [h]

@[simp] theorem execRequest_kept {x0 : Nat} {x1 : Nat} {x2 : Datagram} {s : State} (h : Kept a.full s) : KeptOut a.full (execRequest x0 x1 x2 s) := by
  unfold execRequest; simp +contextual (maxDischargeDepth := 40) [h]

@[simp] theorem execNextItem_kept {x0 : Nat} {x1 : Nat} {x2 : Datagram} {s : State} (h : Kept a.full s) : KeptOut a.full (execNextItem x0 x1 x2 s) := by
  unfold execNextItem; simp +contextual (maxDischargeDepth := 40) [h]

@[simp] theorem execDiscover_kept {x0 : Nat} {x1 : Nat} {x2 : Bool} {x3 : Datagram} {s : State} (h : Kept a.full s) : KeptOut a.full (execDiscover x0 x1 x2 x3 s) := by
  unfold execDiscover; simp +contextual (maxDischargeDepth := 40) [h]

@[simp] theorem execDiscoverDelayExpiry_kept {s : State} (h : Kept a.full s) : KeptOut a.full (execDiscoverDelayExpiry s) := by simp [execDiscoverDelayExpiry, h]

@[simp] theorem execNotify_kept {x0 : Datagram} {s : State} (h : Kept a.full s) : KeptOut a.full (execNotify x0 s) := by simp [execNotify, h]

@[simp] theorem execResponse_kept {x0 : Datagram} {s : State} (h : Kept a.full s) : KeptOut a.full (execResponse x0 s) := by simp [execResponse, h]

@[simp] theorem execDiscoverRsp_kept {x0 : Datagram} {s : State} (h : Kept a.full s) : KeptOut a.full (execDiscoverRsp x0 s) := by simp [execDiscoverRsp, h]

@[simp] theorem execNeighbourSolicitation_kept {x0 : Nat} {x1 : FramedTarget} {s : State} (h : Kept a.full s) : KeptOut a.full (execNeighbourSolicitation x0 x1 s) := by simp [execNeighbourSolicitation, h]

@[simp] theorem execNeighbourAdvertisement_kept {x0 : FramedTarget} {s : State} (h : Kept a.full s) : KeptOut a.full (execNeighbourAdvertisement x0 s) := by simp [execNeighbourAdvertisement, h]

@[simp] theorem execEchoRequest_kept {x0 : Nat} {x1 : Nat} {x2 : FramedEcho} {s : State} (h : Kept a.full s) : KeptOut a.full (execEchoRequest x0 x1 x2 s) := by simp [execEchoRequest, h]

@[simp] theorem execShelfEnableWrite_kept {x0 : Requester} {x1 : Nat} {s : State} (h : Kept a.full s) : KeptOut a.full (execShelfEnableWrite x0 x1 s) := by simp [execShelfEnableWrite, h]

@[simp] theorem execClientIdleExpiry_kept {x0 : Nat} {x1 : Nat} {s : State} (h : Kept a.full s) : KeptOut a.full (execClientIdleExpiry x0 x1 s) := by simp [execClientIdleExpiry, h]

@[simp] theorem execOwnerLeaseExpiry_kept {s : State} (h : Kept a.full s) : KeptOut a.full (execOwnerLeaseExpiry s) := by simp [execOwnerLeaseExpiry, h]

@[simp] theorem execCommissionEnter_kept {x0 : Requester} {s : State} (h : Kept a.full s) : KeptOut a.full (execCommissionEnter x0 s) := by simp [execCommissionEnter, h]

@[simp] theorem execCommissionCommit_kept {x0 : Requester} {s : State} (h : Kept a.full s) : KeptOut a.full (execCommissionCommit x0 s) := by simp [execCommissionCommit, h]

@[simp] theorem execCommissionRetire_kept {x0 : Requester} {s : State} (h : Kept a.full s) : KeptOut a.full (execCommissionRetire x0 s) := by simp [execCommissionRetire, h]

@[simp] theorem execHostSlotWrite_kept {x0 : Nat} {x1 : List Byte} {s : State} (h : Kept a.full s) : KeptOut a.full (execHostSlotWrite x0 x1 s) := by
  unfold execHostSlotWrite
  (repeat' split) <;> simp +contextual (maxDischargeDepth := 40) [h]

@[simp] theorem execHostSlotRead_kept {x0 : Nat} {x1 : Nat} {s : State} (h : Kept a.full s) : KeptOut a.full (execHostSlotRead x0 x1 s) := by
  unfold execHostSlotRead; simp +contextual (maxDischargeDepth := 40) [h]

@[simp] theorem execHostAccessStart_kept {x0 : Nat} {s : State} (h : Kept a.full s) : KeptOut a.full (execHostAccessStart x0 s) := by simp [execHostAccessStart, h]

@[simp] theorem execCatalogueWrite_kept {x0 : Requester} {x1 : Nat} {x2 : Nat} {x3 : Nat} {s : State} (h : Kept a.full s) : KeptOut a.full (execCatalogueWrite x0 x1 x2 x3 s) := by
  unfold execCatalogueWrite
  (repeat' split) <;> simp +contextual (maxDischargeDepth := 40) [h]

/-! ### CmdSlips -/

@[simp] theorem execTrayEnable_kept {x0 : Requester} {x1 : Nat} {s : State} (h : Kept a.full s) : KeptOut a.full (execTrayEnable x0 x1 s) := by
  unfold execTrayEnable; simp +contextual (maxDischargeDepth := 40) [h]

@[simp] theorem execTrayDisable_kept {x0 : Requester} {x1 : Nat} {s : State} (h : Kept a.full s) : KeptOut a.full (execTrayDisable x0 x1 s) := by
  unfold execTrayDisable; simp +contextual (maxDischargeDepth := 40) [h]

@[simp] theorem execTrayDrainEnd_kept {x0 : Nat} {s : State} (h : Kept a.full s) : KeptOut a.full (execTrayDrainEnd x0 s) := by
  unfold execTrayDrainEnd; simp +contextual (maxDischargeDepth := 40) [h]

@[simp] theorem execTrayDrainLimitExpiry_kept {x0 : Nat} {s : State} (h : Kept a.full s) : KeptOut a.full (execTrayDrainLimitExpiry x0 s) := by
  unfold execTrayDrainLimitExpiry; simp +contextual (maxDischargeDepth := 40) [h]

@[simp] theorem execTraySlotPoll_kept {x0 : Nat} {s : State} (h : Kept a.full s) : KeptOut a.full (execTraySlotPoll x0 s) := by
  unfold execTraySlotPoll; simp +contextual (maxDischargeDepth := 40) [h]

@[simp] theorem execSlotReadComplete_kept {x0 : Nat} {s : State} (h : Kept a.full s) : KeptOut a.full (execSlotReadComplete x0 s) := by
  unfold execSlotReadComplete; simp +contextual (maxDischargeDepth := 40) [h]

@[simp] theorem execSlipAdmissionDone_kept {x0 : Nat} {x1 : Nat} {s : State} (h : Kept a.full s) : KeptOut a.full (execSlipAdmissionDone x0 x1 s) := by
  unfold execSlipAdmissionDone; simp +contextual (maxDischargeDepth := 40) [h]

@[simp] theorem execSlipIssue_kept {x0 : Nat} {x1 : Nat} {s : State} (h : Kept a.full s) : KeptOut a.full (execSlipIssue x0 x1 s) := by
  unfold execSlipIssue; simp +contextual (maxDischargeDepth := 40) [h]

@[simp] theorem execSlipComplete_kept {x0 : Nat} {x1 : Nat} {s : State} (h : Kept a.full s) : KeptOut a.full (execSlipComplete x0 x1 s) := by
  unfold execSlipComplete; simp +contextual (maxDischargeDepth := 40) [h]

@[simp] theorem execRemoteNoticePostTimeout_kept {x0 : Nat} {x1 : Nat} {s : State} (h : Kept a.full s) : KeptOut a.full (execRemoteNoticePostTimeout x0 x1 s) := by
  unfold execRemoteNoticePostTimeout; simp +contextual (maxDischargeDepth := 40) [h]

@[simp] theorem execNoticeWrite_kept {x0 : Nat} {s : State} (h : Kept a.full s) : KeptOut a.full (execNoticeWrite x0 s) := by
  unfold execNoticeWrite; simp +contextual (maxDischargeDepth := 40) [h]

@[simp] theorem execConsumedCountPoll_kept {x0 : Nat} {s : State} (h : Kept a.full s) : KeptOut a.full (execConsumedCountPoll x0 s) := by
  unfold execConsumedCountPoll; simp +contextual (maxDischargeDepth := 40) [h]

@[simp] theorem execRingEnable_kept {x0 : Requester} {x1 : Nat} {s : State} (h : Kept a.full s) : KeptOut a.full (execRingEnable x0 x1 s) := by
  unfold execRingEnable; simp +contextual (maxDischargeDepth := 40) [h]

@[simp] theorem execRingDisable_kept {x0 : Requester} {x1 : Nat} {s : State} (h : Kept a.full s) : KeptOut a.full (execRingDisable x0 x1 s) := by
  unfold execRingDisable; simp +contextual (maxDischargeDepth := 40) [h]

@[simp] theorem execRingAttentionClear_kept {x0 : Requester} {x1 : Nat} {s : State} (h : Kept a.full s) : KeptOut a.full (execRingAttentionClear x0 x1 s) := by
  unfold execRingAttentionClear; simp +contextual (maxDischargeDepth := 40) [h]

@[simp] theorem execLedgerClear_kept {x0 : Requester} {x1 : Nat} {x2 : Nat} {s : State} (h : Kept a.full s) : KeptOut a.full (execLedgerClear x0 x1 x2 s) := by
  unfold execLedgerClear; simp +contextual (maxDischargeDepth := 40) [h]

/-! ### CmdTimers -/

@[simp] theorem execTrackerTimeout_kept {x0 : Nat} {s : State} (h : Kept a.full s) : KeptOut a.full (execTrackerTimeout x0 s) := by
  unfold execTrackerTimeout; simp +contextual (maxDischargeDepth := 40) [h]

@[simp] theorem execTrackerQuarantineExpiry_kept {x0 : Nat} {s : State} (h : Kept a.full s) : KeptOut a.full (execTrackerQuarantineExpiry x0 s) := by
  unfold execTrackerQuarantineExpiry; simp +contextual (maxDischargeDepth := 40) [h]

@[simp] theorem execCommitAckDelayExpiry_kept {x0 : Nat} {x1 : Nat} {s : State} (h : Kept a.full s) : KeptOut a.full (execCommitAckDelayExpiry x0 x1 s) := by
  unfold execCommitAckDelayExpiry; simp +contextual (maxDischargeDepth := 40) [h]

@[simp] theorem pollDue_kept {s : State} {x1 : Nat} {x2 : Nat} (h : Kept a.full s) : Kept a.full (pollDue s x1 x2) := by
  unfold pollDue
  (repeat' split) <;> simp +contextual (maxDischargeDepth := 40) [h]

@[simp] theorem execCommitPollIntervalExpiry_kept {x0 : Nat} {x1 : Nat} {s : State} (h : Kept a.full s) : KeptOut a.full (execCommitPollIntervalExpiry x0 x1 s) := by
  unfold execCommitPollIntervalExpiry; simp +contextual (maxDischargeDepth := 40) [h]

@[simp] theorem execPendingAckEntryFree_kept {x0 : Nat} {x1 : Nat} {s : State} (h : Kept a.full s) : KeptOut a.full (execPendingAckEntryFree x0 x1 s) := by
  unfold execPendingAckEntryFree; simp +contextual (maxDischargeDepth := 40) [h]

@[simp] theorem pairsFree_kept {s : State} {x1 : Nat} (h : Kept a.full s) : Kept a.full (pairsFree s x1) := by
  unfold pairsFree
  (repeat' split) <;> simp +contextual (maxDischargeDepth := 40) [h]

@[simp] theorem execPairEntryFree_kept {x0 : Nat} {s : State} (h : Kept a.full s) : KeptOut a.full (execPairEntryFree x0 s) := by
  unfold execPairEntryFree; simp +contextual (maxDischargeDepth := 40) [h]

@[simp] theorem execProbeRetry_kept {x0 : Nat} {x1 : Nat} {s : State} (h : Kept a.full s) : KeptOut a.full (execProbeRetry x0 x1 s) := by
  unfold execProbeRetry; simp +contextual (maxDischargeDepth := 40) [h]

@[simp] theorem execProbeRetryLimitExpiry_kept {x0 : Nat} {x1 : Nat} {s : State} (h : Kept a.full s) : KeptOut a.full (execProbeRetryLimitExpiry x0 x1 s) := by
  unfold execProbeRetryLimitExpiry; simp +contextual (maxDischargeDepth := 40) [h]

@[simp] theorem execHoldTimeout_kept {x0 : Nat} {s : State} (h : Kept a.full s) : KeptOut a.full (execHoldTimeout x0 s) := by
  unfold execHoldTimeout; simp +contextual (maxDischargeDepth := 40) [h]

/-! ### CmdWindows -/

@[simp] theorem execWindowOpen_kept {x0 : Requester} {x1 : Nat} {s : State} (h : Kept a.full s) : KeptOut a.full (execWindowOpen x0 x1 s) := by
  unfold execWindowOpen; simp +contextual (maxDischargeDepth := 40) [h]

@[simp] theorem execWindowModify_kept {x0 : Requester} {x1 : Nat} {s : State} (h : Kept a.full s) : KeptOut a.full (execWindowModify x0 x1 s) := by
  unfold execWindowModify; simp +contextual (maxDischargeDepth := 40) [h]

@[simp] theorem execWindowClose_kept {x0 : Requester} {x1 : Nat} {s : State} (h : Kept a.full s) : KeptOut a.full (execWindowClose x0 x1 s) := by
  unfold execWindowClose; simp +contextual (maxDischargeDepth := 40) [h]

@[simp] theorem execWindowDrainEnd_kept {x0 : Nat} {s : State} (h : Kept a.full s) : KeptOut a.full (execWindowDrainEnd x0 s) := by
  unfold execWindowDrainEnd; simp +contextual (maxDischargeDepth := 40) [h]

@[simp] theorem execWindowDrainLimitExpiry_kept {x0 : Nat} {s : State} (h : Kept a.full s) : KeptOut a.full (execWindowDrainLimitExpiry x0 s) := by
  unfold execWindowDrainLimitExpiry; simp +contextual (maxDischargeDepth := 40) [h]

@[simp] theorem execPartitionEditionRaise_kept {x0 : Requester} {x1 : Nat} {s : State} (h : Kept a.full s) : KeptOut a.full (execPartitionEditionRaise x0 x1 s) := by
  unfold execPartitionEditionRaise; simp +contextual (maxDischargeDepth := 40) [h]

@[simp] theorem execEditionExceptionSet_kept {x0 : Requester} {x1 : Nat} {x2 : Nat} {s : State} (h : Kept a.full s) : KeptOut a.full (execEditionExceptionSet x0 x1 x2 s) := by
  unfold execEditionExceptionSet; simp +contextual (maxDischargeDepth := 40) [h]

@[simp] theorem execEditionExceptionClear_kept {x0 : Requester} {x1 : Nat} {s : State} (h : Kept a.full s) : KeptOut a.full (execEditionExceptionClear x0 x1 s) := by
  unfold execEditionExceptionClear; simp +contextual (maxDischargeDepth := 40) [h]

@[simp] theorem execFenceLostMark_kept {x0 : Requester} {x1 : Nat} {s : State} (h : Kept a.full s) : KeptOut a.full (execFenceLostMark x0 x1 s) := by
  unfold execFenceLostMark; simp +contextual (maxDischargeDepth := 40) [h]

/-! ### Tick -/

@[simp] theorem tickTime_kept {s : State} (h : Kept a s) : Kept a (tickTime s) := by simp [tickTime, h]

@[simp] theorem tickTrace_kept {s : State} (h : Kept a s) : Kept a (tickTrace s) := by simp [tickTrace, h]

@[simp] theorem tickCore_kept {s : State} (h : Kept a s) : Kept a (tickCore s) := by simp [tickCore, h]

@[simp] theorem tickPort_kept {s : State} {x1 : Nat} (h : Kept a s) : Kept a (tickPort s x1) := by
  unfold tickPort; simp +contextual (maxDischargeDepth := 40) [h]

@[simp] theorem tickCounts_kept {s : State} (h : Kept a s) : Kept a (tickCounts s) := by
  unfold tickCounts; simp +contextual (maxDischargeDepth := 40) [h]

@[simp] theorem tickFrames_kept {s : State} (h : Kept a s) : Kept a (tickFrames s) := by
  unfold tickFrames; simp +contextual (maxDischargeDepth := 40) [h]

@[simp] theorem takeResponse_kept {s : State} {x1 : Nat} (h : Kept a s) : Kept a (takeResponse s x1) := by
  unfold takeResponse
  (repeat' split) <;> simp +contextual (maxDischargeDepth := 40) [h]

@[simp] theorem tickChannels_kept {s : State} (h : Kept a s) : Kept a (tickChannels s) := by
  unfold tickChannels; simp +contextual (maxDischargeDepth := 40) [h]

@[simp] theorem tick_kept {s : State} (h : Kept a s) : Kept a (tick s) := by
  unfold tick; simp +contextual (maxDischargeDepth := 40) [h]

end Sys2Proof.Machine
end

