-- ==== Sys2Proof/WellFormed.lean ====
section
/-! DEFINITION. Which commands are well formed: every operand fits the field or the pins that the spec
gives it. A command that is not well formed cannot be presented to the block. Values inside a field
that a rule refuses (an absent port, a reserved encoding) are well formed: the rule answers them. -/

namespace Sys2Proof

/-- A number that fits its field. -/
def below (n v : Nat) : Bool := v < n

/-- A port of the largest part (R3). -/
def portNumber (p : Nat) : Bool := below 8 p

/-- Where a packet comes from: a port, or 15 for the block's own switch (R27). -/
def arrivalPort (p : Nat) : Bool := below 8 p || p == 15

/-- A requester's identifier and port fit its class (R261). -/
def Requester.ok (r : Requester) : Bool :=
  match r.cls with
  | .shelf => below (2 ^ 128) r.ident && below (2 ^ 16) r.port
  | .host => r.ident == 0 && r.port == 0
  | .block => false
  | _ => below (2 ^ 22) r.ident && below 16 r.port

/-- Every header field fits its bits (Table 3.2), every data slot 128 bits. -/
def Packet.ok (k : Packet) : Bool :=
  below 16 k.partition && below 256 k.partitionEdition && below (2 ^ 16) k.tracker && below 16 k.turn &&
    below 1024 k.issuer && below (2 ^ 86) k.opspec && below (2 ^ 32) k.crc && below (2 ^ 22) k.dst &&
    below 256 k.dstEdition && below (2 ^ 22) k.src && below 256 k.srcEdition && below 256 k.opcode &&
    below 256 k.slotCount && below 16 k.lastByte && below 8 k.vc && below 4 k.colour && below 1024 k.reserved &&
    k.data.all (below (2 ^ 128)) && below 257 k.data.length

/-- Every field of an engine-side request fits its signals (Table 16.3). -/
def EspReq.ok (r : EspReq) : Bool :=
  portNumber r.port && below 1024 r.issuer && below 4096 r.context && below 4096 r.lengthM1 && below 32 r.sub &&
    below 65536 r.etag && below (2 ^ 64) r.address && below 4097 r.data.length

/-- The fields of loan_hop_open's argument fit (R189). -/
def LoanHopArg.ok (a : LoanHopArg) : Bool :=
  below (2 ^ 16) a.loan && below (2 ^ 32) a.source && below (2 ^ 32) a.destination && below 256 a.mode &&
    below (2 ^ 16) a.rate && below 256 a.burst && below (2 ^ 16) a.hopWait && below (2 ^ 32) a.firstPage &&
    below (2 ^ 32) a.pagesM1

/-- A finding names units that exist on the largest part (Table 14.4). -/
def WatchdogFinding.ok (f : WatchdogFinding) : Bool :=
  match f with
  | .msp m => below 12 m
  | .esp p => below 8 p
  | .egress p q => portNumber p && below 64 q

/-- A place of a memory word (Table 14.3). -/
def MemSite.ok (m : MemSite) : Bool :=
  match m with
  | .table t row _ => below 16 t && below 65536 row
  | .carrel bank row => below 64 bank && below 4128 row
  | .tracker i => below 33280 i
  | .slice n => below 5 n
  | .port p => portNumber p

/-- Every field of a frame fits its bits (Table 12.9, RFC 8200). -/
def MacFrame.ok (f : MacFrame) : Bool :=
  below (2 ^ 48) f.destMac && below (2 ^ 48) f.srcMac && below (2 ^ 16) f.etherType && below (2 ^ 32) f.ipWord &&
    below (2 ^ 16) f.payloadLength && below 256 f.nextHeader && below 256 f.hopLimit && below (2 ^ 128) f.src &&
    below (2 ^ 128) f.dst && below (2 ^ 16) f.checksum && below (2 ^ 32) f.fcs

def Datagram.ok (d : Datagram) : Bool :=
  d.frame.ok && below (2 ^ 16) d.sport && below (2 ^ 16) d.port && below (2 ^ 16) d.length

def FramedTarget.ok (t : FramedTarget) : Bool := t.frame.ok && below (2 ^ 32) t.flags && below (2 ^ 128) t.addr

def FramedEcho.ok (e : FramedEcho) : Bool := e.frame.ok

/-- The command is well formed. -/
def Instr.wf (i : Instr) : Bool :=
  match i with
  | .porRelease => true
  | .porAssert => true
  | .blockRstAssert => true
  | .blockRstRelease => true
  | .partRstFall n => below 16 n
  | .partRstRise n => below 16 n
  | .droopFall => true
  | .droopRise => true
  | .pdAck d _ => below 64 d
  | .pdAckLimitExpiry d => below 64 d
  | .powerTargetWrite rq v => rq.ok && below (2 ^ 64) v
  | .thermalSample p t => portNumber p && below (2 ^ 32) t
  | .thermalAlarmClear rq mask => rq.ok && below 256 mask
  | .thermalMaxClear rq => rq.ok
  | .powerFaultClear rq => rq.ok
  | .faultAttentionClear rq mask => rq.ok && below (2 ^ 16) mask
  | .firmwareLoad rq _ => rq.ok
  | .firmwareStart => true
  | .tenantChange rq t => rq.ok && below 256 t
  | .tenantClearDone => true
  | .mspRequestAccept m => below 12 m
  | .mspCompletion m tag status _ => below 12 m && below 1024 tag && below 4 status
  | .atomicLockGrant m => below 12 m
  | .mspAbandon m => below 12 m
  | .load r => r.ok
  | .store r => r.ok
  | .storeAck r => r.ok
  | .espAtomic r => r.ok
  | .espAtomicFetch r => r.ok
  | .espLedgerAdd r => r.ok
  | .espLedgerRead r => r.ok
  | .espLedgerReadClear r => r.ok
  | .fenceCore r => r.ok
  | .fenceChip r => r.ok
  | .fenceSystem r => r.ok
  | .fenceComplete issuer => below 1024 issuer
  | .fenceTimeout issuer => below 1024 issuer
  | .read port k => arrivalPort port && k.ok
  | .write port k => arrivalPort port && k.ok
  | .writeAck port k => arrivalPort port && k.ok
  | .atomic port k => arrivalPort port && k.ok
  | .atomicFetch port k => arrivalPort port && k.ok
  | .ledgerAdd port k => arrivalPort port && k.ok
  | .ledgerRead port k => arrivalPort port && k.ok
  | .ledgerReadClear port k => arrivalPort port && k.ok
  | .probe port k => arrivalPort port && k.ok
  | .holdRelease port k => arrivalPort port && k.ok
  | .noticePost port k => arrivalPort port && k.ok
  | .commitPoll port k => arrivalPort port && k.ok
  | .contrib port k => arrivalPort port && k.ok
  | .contribLong port k => arrivalPort port && k.ok
  | .loanData port k => arrivalPort port && k.ok
  | .readRsp port k => arrivalPort port && k.ok
  | .statusRsp port k => arrivalPort port && k.ok
  | .atomicRsp port k => arrivalPort port && k.ok
  | .ledgerRsp port k => arrivalPort port && k.ok
  | .probeRsp port k => arrivalPort port && k.ok
  | .commitAck port k => arrivalPort port && k.ok
  | .mgmtReq port k => arrivalPort port && k.ok
  | .mgmtRsp port k => arrivalPort port && k.ok
  | .retiredNotice port k => arrivalPort port && k.ok
  | .faultReport port k => arrivalPort port && k.ok
  | .faultAck port k => arrivalPort port && k.ok
  | .mirrorAck port k => arrivalPort port && k.ok
  | .mirrorValue port k => arrivalPort port && k.ok
  | .mirrorRows port k => arrivalPort port && k.ok
  | .mirrorLogRecords port k => arrivalPort port && k.ok
  | .snapshotBegin port k => arrivalPort port && k.ok
  | .snapshotEnd port k => arrivalPort port && k.ok
  | .restoreRequest port k => arrivalPort port && k.ok
  | .restoreBegin port k => arrivalPort port && k.ok
  | .timeSyncReq port k stamp => arrivalPort port && k.ok && below (2 ^ 64) stamp
  | .timeSyncRsp port k stamp => arrivalPort port && k.ok && below (2 ^ 64) stamp
  | .passThrough port k => arrivalPort port && k.ok
  | .trackerTimeout i => below 32768 i
  | .trackerQuarantineExpiry i => below 32768 i
  | .commitAckDelayExpiry src issuer => below (2 ^ 22) src && below 1024 issuer
  | .commitPollIntervalExpiry dst issuer => below (2 ^ 22) dst && below 1024 issuer
  | .pendingAckEntryFree port vc => arrivalPort port && below 8 vc
  | .pairEntryFree issuer => below 1024 issuer
  | .probeRetry tray k => below 64 tray && below (2 ^ 64) k
  | .probeRetryLimitExpiry tray k => below 64 tray && below (2 ^ 64) k
  | .holdTimeout hold => below 4096 hold
  | .windowOpen rq w => rq.ok && below (2 ^ 32) w
  | .windowModify rq w => rq.ok && below (2 ^ 32) w
  | .windowClose rq w => rq.ok && below (2 ^ 32) w
  | .windowDrainEnd w => below 1024 w
  | .windowDrainLimitExpiry w => below 1024 w
  | .partitionEditionRaise rq n => rq.ok && below 256 n
  | .editionExceptionSet rq ep ed => rq.ok && below (2 ^ 32) ep && below 256 ed
  | .editionExceptionClear rq ep => rq.ok && below (2 ^ 32) ep
  | .fenceLostMark rq dst => rq.ok && below (2 ^ 32) dst
  | .trayEnable rq t => rq.ok && below (2 ^ 32) t
  | .trayDisable rq t => rq.ok && below (2 ^ 32) t
  | .trayDrainEnd t => below 64 t
  | .trayDrainLimitExpiry t => below 64 t
  | .traySlotPoll t => below 64 t
  | .slotReadComplete t => below 64 t
  | .slipAdmissionDone t k => below 64 t && below (2 ^ 64) k
  | .slipIssue t k => below 64 t && below (2 ^ 64) k
  | .slipComplete t k => below 64 t && below (2 ^ 64) k
  | .noticeWrite ring => below 256 ring
  | .consumedCountPoll ring => below 256 ring
  | .ringEnable rq ring => rq.ok && below (2 ^ 32) ring
  | .ringDisable rq ring => rq.ok && below (2 ^ 32) ring
  | .ringAttentionClear rq ring => rq.ok && below (2 ^ 32) ring
  | .ledgerClear rq first count => rq.ok && below (2 ^ 32) first && below (2 ^ 32) count
  | .tileBurstDone collective tile => below (2 ^ 32) collective && below (2 ^ 32) tile
  | .tileSpill collective tile => below (2 ^ 32) collective && below (2 ^ 32) tile
  | .spillWaitExpiry slice => below 8 slice
  | .collectiveOpen rq e => rq.ok && below (2 ^ 32) e
  | .collectiveStart rq e => rq.ok && below (2 ^ 32) e
  | .programLoad rq _ => rq.ok
  | .collectiveAbort rq gate status => rq.ok && below (2 ^ 32) gate && below 256 status
  | .sliceSelfTest rq => rq.ok
  | .sliceSelfTestEnd _ => true
  | .sliceHardFailure phys => below 8 phys
  | .sliceSubstitutionDone => true
  | .seqFault e => below 256 e
  | .seqAdd e => below 256 e
  | .seqSub e => below 256 e
  | .seqAnd e => below 256 e
  | .seqOr e => below 256 e
  | .seqXor e => below 256 e
  | .seqShl e => below 256 e
  | .seqShr e => below 256 e
  | .seqMul e => below 256 e
  | .seqDivu e => below 256 e
  | .seqMinu e => below 256 e
  | .seqMaxu e => below 256 e
  | .seqAddi e => below 256 e
  | .seqLi e => below 256 e
  | .seqSli e => below 256 e
  | .seqBeq e => below 256 e
  | .seqBne e => below 256 e
  | .seqBltu e => below 256 e
  | .seqBgeu e => below 256 e
  | .seqJ e => below 256 e
  | .seqLdd e => below 256 e
  | .seqStd e => below 256 e
  | .seqLdh e => below 256 e
  | .seqBld e => below 256 e
  | .seqRld e => below 256 e
  | .sequencerHostReadDone e => below 256 e
  | .seqTime e => below 256 e
  | .seqSend e => below 256 e
  | .seqWaits e => below 256 e
  | .seqWaitc e => below 256 e
  | .seqTokall e => below 256 e
  | .seqToken e => below 256 e
  | .seqWaitg e => below 256 e
  | .seqRdc e => below 256 e
  | .seqRdg e => below 256 e
  | .seqDone e => below 256 e
  | .seqAbort e => below 256 e
  | .waitConditionMet e => below 256 e
  | .waitLimitExpiry e => below 256 e
  | .guardWaitExpiry e => below 256 e
  | .abortFanoutInvocation rank => below (2 ^ 22) rank
  | .collectiveNotice e => below 256 e
  | .routeRowWrite rq cn row v => rq.ok && below (2 ^ 24) cn && below (2 ^ 32) row && below (2 ^ 1024) v
  | .loanSet rq => rq.ok
  | .loanClose rq n => rq.ok && below (2 ^ 16) n
  | .loanCloseDrainEnd n => below 4096 n
  | .loanDrainLimitExpiry n => below 4096 n
  | .loanOpen rq => rq.ok
  | .loanHopOpen rq a => rq.ok && a.ok
  | .loanHopClose rq n => rq.ok && below (2 ^ 16) n
  | .loanHopWaitExpiry p q n => portNumber p && below 64 q && below 4096 n
  | .loanExpiry dst issuer => below (2 ^ 22) dst && below 1024 issuer
  | .schedulerChoose p => portNumber p
  | .shaperRefill => true
  | .policerRefill => true
  | .queueConfigWrite rq p q v => rq.ok && portNumber p && below 64 q && below (2 ^ 1024) v
  | .policerWrite rq n v => rq.ok && below (2 ^ 32) n && below (2 ^ 1024) v
  | .depthSample p => portNumber p
  | .sampleClear rq p => rq.ok && below 256 p
  | .flitTransmit p => portNumber p
  | .flitReceive p lane bits _ => portNumber p && below 10 lane && below (2 ^ 2048) bits
  | .replayTimeout p => portNumber p
  | .laneNull p on rec => portNumber p && below 10 on && below (2 ^ 128) rec
  | .laneAdd p on rec => portNumber p && below 10 on && below (2 ^ 128) rec
  | .laneRemove p on rec => portNumber p && below 10 on && below (2 ^ 128) rec
  | .laneRequestAdd p on rec => portNumber p && below 10 on && below (2 ^ 128) rec
  | .laneRequestRemove p on rec => portNumber p && below 10 on && below (2 ^ 128) rec
  | .laneRefuse p on rec => portNumber p && below 10 on && below (2 ^ 128) rec
  | .laneHush p on rec => portNumber p && below 10 on && below (2 ^ 128) rec
  | .laneShelve p on rec => portNumber p && below 10 on && below (2 ^ 128) rec
  | .laneTestEnter p on rec => portNumber p && below 10 on && below (2 ^ 128) rec
  | .laneTestExit p on rec => portNumber p && below 10 on && below (2 ^ 128) rec
  | .laneChangeAdd rq p lane => rq.ok && portNumber p && below 256 lane
  | .laneChangeRemove rq p lane => rq.ok && portNumber p && below 256 lane
  | .losAssert p moment => portNumber p && below 10 moment.lane
  | .lolAssert p lane => portNumber p && below 10 lane
  | .uncorrectableCodeword p cw => portNumber p && below 10 cw.lane && below (2 ^ 32) cw.place
  | .gracePeriodExpiry p => portNumber p
  | .retrainStart p => portNumber p
  | .portRetrain rq p => rq.ok && portNumber p
  | .trainingBlock p lane bits => portNumber p && below 10 lane && below (2 ^ 256) bits
  | .alignmentAndFillerCodeword p cw msg => portNumber p && below 10 cw.lane && below (2 ^ 5140) msg && below (2 ^ 32) cw.place
  | .trainingComplete p => portNumber p
  | .trainingLimitExpiry p => portNumber p
  | .trainingStageTimeout p lane => portNumber p && below 10 lane
  | .fastRetrainLimitExpiry p => portNumber p
  | .laneRetryIntervalExpiry p lane => portNumber p && below 10 lane
  | .laneWakeComplete p lane => portNumber p && below 10 lane
  | .rxWidthTargetWrite rq p v => rq.ok && portNumber p && below (2 ^ 64) v
  | .laneTestStop rq p lane duration => rq.ok && portNumber p && below 10 lane && below (2 ^ 64) duration
  | .laneTestGenerate rq p lane duration => rq.ok && portNumber p && below 10 lane && below (2 ^ 64) duration
  | .laneTestCheck rq p lane duration => rq.ok && portNumber p && below 10 lane && below (2 ^ 64) duration
  | .laneTestNearSerial rq p lane duration => rq.ok && portNumber p && below 10 lane && below (2 ^ 64) duration
  | .laneTestNearParallel rq p lane duration => rq.ok && portNumber p && below 10 lane && below (2 ^ 64) duration
  | .laneTestFar rq p lane duration => rq.ok && portNumber p && below 10 lane && below (2 ^ 64) duration
  | .laneTestDurationExpiry p lane => portNumber p && below 10 lane
  | .errorInjectWrite rq p lane v => rq.ok && portNumber p && below 10 lane && below (2 ^ 64) v
  | .errorInjection p lane => portNumber p && below 10 lane
  | .syncIntervalExpiry stamp => below (2 ^ 64) stamp
  | .syncTimeout => true
  | .holdoverEntry => true
  | .timeSet rq v => rq.ok && below (2 ^ 64) v
  | .markModeWrite rq v => rq.ok && below (2 ^ 64) v
  | .markPeriodBoundary => true
  | .markInEdge => true
  | .markInStop => true
  | .odcClear rq mask => rq.ok && below (2 ^ 16) mask
  | .snapshotTake rq mask t => rq.ok && below (2 ^ 32) mask && below (2 ^ 64) t
  | .snapshotTimeReached => true
  | .traceLineFlush => true
  | .traceDrain => true
  | .globalStop rq => rq.ok
  | .scanRead rq chain first => rq.ok && below 256 chain && below (2 ^ 32) first
  | .extest boundary => below (2 ^ 512) boundary
  | .idcode => true
  | .samplePreload shiftIn => below (2 ^ 512) shiftIn
  | .scanSelect chain => below 256 chain
  | .scanData bits => below (2 ^ 32) bits
  | .bypass _ => true
  | .watchdogCheck findings => findings.all WatchdogFinding.ok
  | .mgmtWatchdogExpiry => true
  | .mgmtRestartComplete => true
  | .uncorrectableWord site => site.ok
  | .stuckBitTest site _ => site.ok
  | .rowReplacementDone bank row => below 64 bank && below 4096 row
  | .trackerHardFailure i _ => below 32768 i
  | .partitionReset rq n => rq.ok && below 256 n
  | .drainComplete n => below 16 n
  | .drainLimitExpiry n => below 16 n
  | .partitionReady rq n => rq.ok && below 256 n
  | .partitionQuietExpiry n => below 16 n
  | .gateAdmit rq n ctx => rq.ok && below 256 n && below (2 ^ 16) ctx
  | .gateClear rq n ctx => rq.ok && below 256 n && below (2 ^ 16) ctx
  | .gateOpen rq n => rq.ok && below 256 n
  | .contextListClear rq => rq.ok
  | .faultResend => true
  | .notifyAck addr udp d => d.ok && below (2 ^ 128) addr && below (2 ^ 16) udp
  | .request addr udp d => d.ok && below (2 ^ 128) addr && below (2 ^ 16) udp
  | .nextItem addr udp d => d.ok && below (2 ^ 128) addr && below (2 ^ 16) udp
  | .discover addr udp _ d => d.ok && below (2 ^ 128) addr && below (2 ^ 16) udp
  | .discoverDelayExpiry => true
  | .neighbourSolicitation src target => below (2 ^ 128) src && target.ok
  | .echoRequest src dst payload => payload.ok && below (2 ^ 128) src && below (2 ^ 128) dst
  | .shelfEnableWrite rq v => rq.ok && below (2 ^ 64) v
  | .clientIdleExpiry ident port => below (2 ^ 128) ident && below (2 ^ 16) port
  | .ownerLeaseExpiry => true
  | .commissionEnter rq => rq.ok
  | .commissionCommit rq => rq.ok
  | .commissionRetire rq => rq.ok
  | .hostSlotWrite offset _ => below (2 ^ 28) offset
  | .hostSlotRead offset len => below (2 ^ 28) offset && below (2 ^ 28) len
  | .hostAccessStart header => below (2 ^ 128) header
  | .catalogueWrite rq cn row v => rq.ok && below (2 ^ 24) cn && below (2 ^ 32) row && below (2 ^ 1024) v
  | .mirrorResendExpiry => true
  | .mirrorLostLimitExpiry => true
  | .mirrorCommitWaitExpiry => true
  | .counterpartRestore rq ep port ed => rq.ok && below (2 ^ 32) ep && below 256 port && below 256 ed
  | .restoreTimeout => true
  | .logRecordForm => true
  | .logDrainWrite => true
  | .remoteNoticePostTimeout tray k => below 64 tray && below (2 ^ 64) k
  | .checkerLock p lane => portNumber p && below 10 lane
  | .checkerSyncLoss p lane bits errors => portNumber p && below 10 lane && below (2 ^ 64) bits && below (2 ^ 64) errors
  | .markWidthExpiry => true
  | .notify d => d.ok
  | .response d => d.ok
  | .discoverRsp d => d.ok
  | .neighbourAdvertisement target => target.ok
  | .malformedPacket port k => arrivalPort port && k.ok
  | .privateTestMode op => below (2 ^ 32) op

end Sys2Proof
end

