-- ==== Sys2Proof/Tests/Slice0.lean ====
section
/-! SUPPORT. The author's own tests: ill-formed commands that the check refuses, and for every statement with
hypotheses states and operands that meet them together. -/

namespace Sys2Proof.Tests
open Sys2Proof Sys2Proof.Machine

set_option Elab.async false

/-! ### Helpers -/

/-- Objects written into a state, as (call number, row, value). -/
def puts (s : State) (xs : List (Nat × Nat × Nat)) : State := xs.foldl (fun t e => setRow t e.1 e.2.1 e.2.2) s

/-- The block with its management image running. -/
def s0 : State := puts State.reset [(0x8010_03, 0, 2)]

/-- A client on Shelf net. -/
def shelf : Requester := { cls := .shelf, ident := 1, port := 30412 }

def grantedB (s : State) (rq : Requester) (cn : Nat) (xs : List Nat) : Bool :=
  serves s rq cn && s.mgmt.waiting.isEmpty && !hostRunning s rq cn &&
    passes (itemChecks (renewLease s rq) rq (invokeItem cn xs)) && !logFull s cn &&
    decide (invocations s < invocationLimit) && !commandHalted s cn

theorem granted {s : State} {rq : Requester} {cn : Nat} {xs : List Nat} (h : grantedB s rq cn xs = true) :
    Granted s rq cn xs := by
  simp only [grantedB, Bool.and_eq_true, Bool.not_eq_true', decide_eq_true_eq, List.isEmpty_iff] at h
  obtain ⟨⟨⟨⟨⟨⟨a, b⟩, c⟩, d⟩, e⟩, f⟩, g⟩ := h
  exact ⟨a, b, c, d, e, f, g⟩

def grantedWriteB (s : State) (rq : Requester) (cn row v : Nat) : Bool :=
  serves s rq cn && s.mgmt.waiting.isEmpty && passes (itemChecks (renewLease s rq) rq (writeItem s cn row v)) &&
    !logFull s cn && !(stopped s && haltedObject cn) && (homeRefusal (renewLease s rq) cn v).isNone &&
    (cn != 0x1100_00 && cn != 0xE000_01) && decide (v < 2 ^ (8 * valueWidth s cn))

theorem grantedWrite {s : State} {rq : Requester} {cn row v : Nat} (h : grantedWriteB s rq cn row v = true) :
    GrantedWrite s rq cn row v := by
  simp only [grantedWriteB, Bool.and_eq_true, Bool.not_eq_true', decide_eq_true_eq, List.isEmpty_iff,
    bne_iff_ne, Option.isNone_iff_eq_none] at h
  obtain ⟨⟨⟨⟨⟨⟨⟨a, b⟩, c⟩, d⟩, e⟩, f⟩, g⟩, i⟩ := h
  exact ⟨a, b, c, d, e, f, g, i⟩

def grantedCommissionB (s : State) (rq : Requester) (v : Nat) : Bool :=
  serves s rq 0x1100_00 && s.mgmt.waiting.isEmpty &&
    passes (itemChecks (renewLease s rq) rq (writeItem s 0x1100_00 0 v)) &&
    !logFull s 0x1100_00 && !(stopped s && haltedObject 0x1100_00)

theorem grantedCommission {s : State} {rq : Requester} {v : Nat} (h : grantedCommissionB s rq v = true) :
    GrantedCommission s rq v := by
  simp only [grantedCommissionB, Bool.and_eq_true, Bool.not_eq_true', List.isEmpty_iff] at h
  obtain ⟨⟨⟨⟨a, b⟩, c⟩, d⟩, e⟩ := h
  exact ⟨a, b, c, d, e⟩

def isGo (r : Verdict) : Bool :=
  match r with
  | .go _ => true
  | .stop _ => false

def goOf (r : Verdict) : State :=
  match r with
  | .go t => t
  | .stop t => t

theorem go_of {r : Verdict} (h : isGo r = true) : r = .go (goOf r) := by
  cases r with
  | go t => rfl
  | stop t => exact Bool.noConfusion h

/-- The state that the checks of R63 leave of a packet. -/
def after (s : State) (p : Nat) (k : Packet) : State := goOf (arrive s p k rulesOf)

def checkedB (s : State) (p : Nat) (k : Packet) : Bool :=
  switchOn s && (p == 15 || decide (p < portsOf s.part)) && !packetWaits s p k && !passesBy s k &&
    isGo (arrive s p k rulesOf)

theorem checked {s : State} {p : Nat} {k : Packet} (h : checkedB s p k = true) : Checked s p k (after s p k) := by
  simp only [checkedB, Bool.and_eq_true, Bool.or_eq_true, beq_iff_eq, Bool.not_eq_true', decide_eq_true_eq] at h
  obtain ⟨⟨⟨⟨a, b⟩, c⟩, d⟩, e⟩ := h
  exact ⟨a, b, c, d, go_of e⟩

theorem pair_of {α β : Type} {a : α × β} {y : β} (h : a.2 = y) : a = (a.1, y) := by rw [← h]

theorem no_locks {s : State} {m : Nat} (h : (s.host.locks.isEmpty && s.host.lockWaits.isEmpty) = true) :
    noLocksAt s m := by
  simp only [Bool.and_eq_true, List.isEmpty_iff] at h
  unfold noLocksAt
  rw [h.1, h.2]
  simp

theorem port_runs {s : State} {p : Nat}
    (h : (portPowered s p && (s.ports.length == 8 && (port s p).lanes.length == 10)) = true) : PortRuns s p := by
  simp only [Bool.and_eq_true, beq_iff_eq] at h
  exact ⟨h.1, h.2.1, h.2.2⟩

theorem un_mirrored {s : State} (h : pairing s = 0) : unmirrored s := by
  unfold unmirrored
  rw [h]
  exact ⟨by decide, by decide⟩

/-! ### States and packets of the tests -/

/-- A window row: OPEN, every right, every source, one page at offset 0. -/
def openWin (kind : Nat) : Nat := 2 ^ 254 + 0x1F * 2 ^ 240 + kind * 2 ^ 214 + (2 ^ 22 - 1) * 2 ^ 84

/-- The block as endpoint 5 with window 0 of a kind open. -/
def sWin (kind : Nat) : State := puts s0 [(0x1001_00, 0, 5), (windowCn, 0, openWin kind)]

/-- A packet of the block to itself. -/
def pk (op slots offset : Nat) (data : List Nat) : Packet :=
  sealed { blankPacket with opcode := op, dst := 5, src := 5, slotCount := slots, opspec := offset * 2 ^ 44, data := data }

/-- The packet waits in the block's own switch. -/
def looped (s : State) (k : Packet) : State := { s with switch.loop := [k] }

def kRead : Packet := pk opRead 1 0 []
def sAcc : State :=
  { s0 with host.queues := [(0, [{ op := 0, poison := false, context := 0, segment := 0, offset := 0, length := 16, data := [],
                                   enabled := true, access := 3, piece := 0, waited := false }])],
            host.accesses := [(3, { kind := .pktRead 0 blankPacket, pair := none, performed := false, toAccept := 1, toComplete := 1,
                                    status := 0, data := [], windows := [], partition := 0, context := 0, ignored := false,
                                    faultAt := none, written := 0 })] }

/-- The request of that access. -/
def rAcc : MspReq :=
  { op := 0, poison := false, context := 0, segment := 0, offset := 0, length := 16, data := [], enabled := true,
    access := 3, piece := 0, waited := false }

def xAcc : Access :=
  { kind := .pktRead 0 blankPacket, pair := none, performed := false, toAccept := 1, toComplete := 1, status := 0, data := [],
    windows := [], partition := 0, context := 0, ignored := false, faultAt := none, written := 0 }

/-- An engine's request of 16 bytes. -/
def esp : EspReq :=
  { port := 0, catalogue := false, issuer := 0, context := 0, lengthM1 := 15, sub := 0, size8 := false, etag := 1,
    address := 0, data := List.replicate 16 0 }

/-- An engine waits on a fence. -/
def fenced (scope : Nat) : State :=
  { s0 with switch.fences := [{ issuer := 1023, scope := scope, port := 0, etag := 9 }] }

/-- The same, with a packet of the issuer that no acknowledgement covers. -/
def fencedOpen : State := puts (fenced 2) [(issuerCn, 1023, 2 ^ 32)]

def kProbe : Packet :=
  sealed { blankPacket with opcode := opProbe, dst := 5, src := 5, slotCount := 2, data := [0, 16 * 2 ^ 32 + 2 ^ 8] }

/-- An image of 128 bytes: its header and a body of zeros. -/
def imageBytes : List Byte :=
  bytesLE 64 (0x4658_4B53 * 2 ^ 480 + 2 ^ 464 + 2 ^ 463 + 7 * 2 ^ 416 + 128 * 2 ^ 384 +
    crc32c (List.replicate 64 0) * 2 ^ 352) ++ List.replicate 64 0

def sRead : State := looped (sWin 0) kRead
def kAtomic : Packet := pk opAtomic 1 0 [0]
def sAtomic : State := looped (sWin 0) kAtomic
def sScratch : State := looped (sWin 1) kRead
def kPost : Packet := pk opNoticePost 2 0 [0, 0]
def sPost : State := looped (sWin 0) kPost
def sProbe : State := looped (sWin 0) kProbe
def vProbe : State := (admission (after sProbe 15 kProbe) (remoteExtent (nth 0 0 kProbe.data + nth 0 1 kProbe.data * 2 ^ 128)).spans
  { request := false, source := kProbe.src, mask := if subM kProbe = 0 then rightRead else rightWrite }).1

theorem hold_free {s : State} {n : Nat} (h : s.switch.holds.isEmpty = true) : pickHold s n = some (n % 4096) := by
  simp only [List.isEmpty_iff] at h
  simp [pickHold, h, lookupT, upFrom, holdCount]

def kRelease : Packet :=
  sealed { blankPacket with opcode := opHoldRelease, dst := 5, src := 5, slotCount := 0, opspec := 7 * 2 ^ 10 }
def sHold : State :=
  { looped (sWin 0) kRelease with switch.holds := [(7, { src := 5, windows := [0], right := rightRead, spans := [(0, 16)] })] }

/-- Packets from endpoint 6 on port 0. -/
def kWrite : Packet :=
  sealed { blankPacket with opcode := opWrite, dst := 5, src := 6, slotCount := 1, data := [0] }
def kRelease0 : Packet := sealed { blankPacket with opcode := opHoldRelease, dst := 5, src := 6, slotCount := 0 }
theorem no_hold {s : State} {n src : Nat} (h : (lookupT s.switch.holds n).isNone = true) :
    ∀ x, lookupT s.switch.holds n = some x → x.src ≠ src := by
  intro x e
  rw [e] at h
  exact absurd h (by simp)
def sPort : State := puts s0 [(0x1001_00, 0, 5)]
def sMiss : State := looped (puts s0 [(0x1001_00, 0, 5)]) kRead

/-- What admission of a packet's span answers. -/
def adm (s : State) (k : Packet) : State := (admission (after s 15 k) [spanOf k] (askOf k)).1

/-- A packet to itself whose operands are laid out as given. -/
def pkM (op slots spec : Nat) (data : List Nat) : Packet :=
  sealed { blankPacket with opcode := op, dst := 5, src := 5, slotCount := slots, opspec := spec, data := data }

def s5 : State := puts s0 [(0x1001_00, 0, 5)]

def pendAck (notDone : List Nat) : PendingAck :=
  { src := 5, issuer := 0, srcEdition := 0, via := 15, runFirst := 1, expected := 3, notDone := notDone, older := [], owed := 2, polls := [],
    partition := 0, partitionEdition := 0 }

def aPair : Pair :=
  { dst := 5, issuer := 0, lastSent := 4, lastAcked := 1, path := 0, via := 15, polls := 0, quarantined := false, since := 0, pollAt := 0 }

def kPoll : Packet := pkM opCommitPoll 0 (3 * 2 ^ 28) []
def sPoll : State := looped s5 kPoll
def sPoll2 : State := { sPoll with switch.acks := [pendAck [2]] }
def kAck : Packet := sealed { blankPacket with opcode := opCommitAck, dst := 5, src := 5, vc := 2, opspec := 2 * 2 ^ 70 + 3 * 2 ^ 28 }
def sAck : State := { looped s5 kAck with switch.pairs := [aPair] }

/-- A collective entry that is OPEN with gate number 9. -/
def entryRow : Nat := 2 ^ 254

def trackerOf (o : TrackerOwner) (op : Nat) : Tracker :=
  { turn := 0, partition := 0, edition := 0, dst := 5, issuer := 0, context := 0, via := 15, opcode := op, slotCount := 1,
    lastByte := 15, length := 16, owner := o, stuck := false }

def espOpen : EspAccess := { port := 0, etag := 1, op := 0, pieces := 1, status := 0, data := [], partition := 0 }

def sTracked : State :=
  { s5 with switch.trackers := [(32767, trackerOf (.engine 2 0) opRead)], host.esp := [(2, espOpen)] }

def kStatus : Packet :=
  sealed { blankPacket with opcode := opStatusRsp, dst := 5, src := 5, vc := 2, tracker := 32767, opspec := stMiss * 2 ^ 78 }

def sStatus : State := { sTracked with switch.loop := [kStatus] }

/-- The bits of a slip that pushes 16 bytes from offset 0 to offset 0 of endpoint 5. -/
def slipBits : Nat := 16 * 2 ^ 350 + 2 ^ 326 + 5 * 2 ^ 234 + 16 * 2 ^ 160 + 2 ^ 136

def slip (probe : ProbeState) (result : Option SlipResult) : SlipCtx :=
  { newCtx 63 1 0 0 slipBits with probe := probe, result := result }

def okResult : SlipResult := { status := stOk, offset := 0, bytes := 16, side := 0 }

/-- A tray that has accepted that slip. -/
def slipped (c : SlipCtx) : State := { s5 with slips.ctxs := [c] }

def kProbeRsp : Packet := sealed { blankPacket with opcode := opProbeRsp, dst := 5, src := 5, vc := 2, tracker := 9, opspec := 3 * 2 ^ 23 }

def sProbed : State :=
  { slipped (slip .pending none) with switch.trackers := [(9, trackerOf (.probe 63 1) opProbe)], switch.loop := [kProbeRsp] }

/-- Entry 255, OPEN for every source, with gate identifier 9; its stage 0 has identifier 10 and takes two FP32
contributions to each element of tile 0. -/
def sEntry : State :=
  puts s5 [(entryCn, 255, 2 ^ 254 + (2 ^ 22 - 1) * 2 ^ 139 + 9 * 2 ^ 5),
    (stageCn, 4 * 255, 10 * 2 ^ 224 + 2 ^ 160 + 1023 * 2 ^ 96)]

def aTile : Tile :=
  { entry := 255, stage := 0, tile := 0, phys := 0, long := false, phase := 0, elems := [], touched := 0, burstLeft := 0,
    slot := 0, again := false, lost := false, moved := false }

def kGate : Packet :=
  sealed { blankPacket with opcode := opContrib, dst := 5, src := 5, slotCount := 1, vc := 0, lastByte := 0,
                            opspec := 9 * 2 ^ 54 + 31 * 2 ^ 22 + 6 * 2 ^ 17, data := [0] }
def sGate : State := looped sEntry kGate
def kAdd : Packet :=
  sealed { blankPacket with opcode := opContrib, dst := 5, src := 5, slotCount := 1, vc := 0, lastByte := 15,
                            opspec := 10 * 2 ^ 54 + 4 * 2 ^ 22, data := [1] }
def sAdd : State := { looped sEntry kAdd with coll.tiles := [aTile] }

/-- Port 1 is UP and every endpoint of the lowest block is routed there. -/
def sRoute : State := puts s5 [(ofPort 1 0x2000_01, 0, 1), (0x4100_00, 0, 2 ^ 14 + 1)]

def kPass : Packet := sealed { blankPacket with opcode := opWrite, dst := 7, src := 6, slotCount := 1, data := [0] }

/-- The state after the checks that a packet passing through port 0 meets. -/
def passing (s : State) (k : Packet) : State := goOf (sourceChecks (odc (dropRx s 0 k) 0x01 (some 0) (some k) 1) 0 k)

/-- Loan 9 passes from endpoint 6 to endpoint 7, in at port 0 and out at port 1. -/
def sLoan : State := puts sRoute [(0x6400_00, 9, 2 ^ 255 + 2 ^ 252 + 2 ^ 244 + 6 * 2 ^ 206 + 7 * 2 ^ 184)]

def kLoan : Packet :=
  sealed { blankPacket with opcode := opLoanData, dst := 7, src := 6, slotCount := 1, vc := 4, opspec := 9 * 2 ^ 10, data := [0] }

def kBad : Packet := { blankPacket with opcode := 0x3F, dst := 5, src := 6 }

/-- Tray 63 is ENABLED at slot 0, turn 1. -/
def trayOn (state : Nat) : State := puts s5 [(trayCn, 63, state * 2 ^ 254 + 2 ^ 140)]

/-- Ring 255 is enabled at slot 0, turn 1. -/
def sRing : State := puts s5 [(ringCn, 255, 2 ^ 254 + 2 ^ 68)]

def aNotice : NoticePending := { bits := 0, slip := none, entry := none, post := none, access := none }

def ringAt (w c : Nat) (n : List NoticePending) : State :=
  { sRing with slips.rings := [(255, { written := w, consumed := c, overflowed := false, waiting := n })] }

def vPolice : Packet × State := policePassing (passing sRoute kPass) 0 kPass
theorem vPolice_eq : policePassing (passing sRoute kPass) 0 kPass = (vPolice.1, vPolice.2) := (Prod.mk.eta (p := vPolice)).symm

def vSlip : State :=
  (admission { slipped (slip .notSent none) with slips.lastTray := 63 } (slLocal (slip .notSent none).bits).spans
    { request := false, source := ownId (slipped (slip .notSent none)),
      mask := if slPull (slip .notSent none).bits then rightWrite else rightRead }).1
theorem vSlip_eq : admission { slipped (slip .notSent none) with slips.lastTray := 63 }
    (slLocal (slip .notSent none).bits).spans
    { request := false, source := ownId (slipped (slip .notSent none)),
      mask := if slPull (slip .notSent none).bits then rightWrite else rightRead } = (vSlip, .refuse stMiss 0) :=
  pair_of (by decide +kernel)

def pkV (op slots : Nat) (data : List Nat) : Packet :=
  sealed { blankPacket with opcode := op, dst := 5, src := 5, slotCount := slots, vc := 5, data := data }

/-- The same from another endpoint, on port 0. -/
def pk6 (op slots src : Nat) (data : List Nat) : Packet :=
  sealed { blankPacket with opcode := op, dst := 5, src := src, slotCount := slots, vc := 5, data := data }

def kReq0 : Packet := pkV opMgmtReq 1 [0]

/-- A message that reads object 1000.00. -/
def kReq : Packet := pkV opMgmtReq 2 [messageHeader 1 0 1 1 32, itemHeader 0x1000_00 0 0 0 0 0]

def theClient : Client :=
  { rq := requesterOf s5 15 kReq, records := [{ number := 1, running := true, items := [], skipped := [] }] }

def sClient : State := { looped s5 kReq with mgmt.clients := [theClient] }

def kRsp : Packet := sealed { pkV opMgmtRsp 1 [messageHeader 2 stMalformed 0 1 16] with tracker := 32767 }
def abortTracker : Tracker := trackerOf (.mgmt (.abort 3)) opMgmtReq
def sRsp : State := { looped s5 kRsp with switch.trackers := [(32767, abortTracker)] }

def kRetired : Packet := pk6 opRetiredNotice 1 6 [5 * 2 ^ 106 + 1 * 2 ^ 90]
def sPlaced : State := puts s5 [(0x1100_00, 0, 1)]
def kReport : Packet := pk6 opFaultReport 2 6 [0, 0]

/-- Report 7, class 10, about endpoint 6, is posted. -/
def kFaultAck : Packet := pk6 opFaultAck 1 0x3FFFEF [7 * 2 ^ 112 + 10 * 2 ^ 104 + 6 * 2 ^ 82]
def reportRow : Nat := 2 ^ 254 + 10 * 2 ^ 246 + 6 * 2 ^ 220 + 7 * 2 ^ 196
def sReported : State := puts s5 [(reportCn, 255, reportRow)]

theorem lookup_mem {α : Type} {m : Table α} {k : Nat} {v : α} (h : lookupT m k = some v) : (k, v) ∈ m := by
  induction m with
  | nil => exact absurd h (by simp [lookupT])
  | cons e m ih =>
    obtain ⟨j, w⟩ := e
    simp only [lookupT] at h
    split at h
    · next hk =>
      cases h
      rw [hk]
      exact .head _
    · exact .tail _ (ih h)

theorem report_default (p : Part) (m : Nat) : defaultOf p reportCn m = 0 := by
  unfold defaultOf
  rw [show lookupT (if reportCn < 0x7000_00 then lowDefaults else highDefaults) (normCn reportCn) = none by decide +kernel]
  simp [otherDefault, reportCn]

theorem one_report {s : State} {n f : Nat}
    (h : s.cat.all (fun e => e.1 == catKey reportCn n || fld e.2 255 254 == 0) = true) :
    ∀ m, m ≠ n → (fld (getRow s reportCn m) 255 254 = 0 ∨ fld (getRow s reportCn m) 211 196 ≠ f) := by
  intro m hm
  left
  unfold getRow
  cases e : lookupT s.cat (catKey reportCn m) with
  | none =>
    rw [Option.getD_none, report_default]
    decide
  | some v =>
    have hv := List.all_eq_true.1 h _ (lookup_mem e)
    simp only [Bool.or_eq_true, beq_iff_eq, catKey] at hv
    rw [Option.getD_some]
    rcases hv with h | h
    · omega
    · exact h

def pairedWith (e : Nat) (state : Nat) : State := puts s5 [(0x1100_00, 0, 2), (0xB000_01, 0, e), (0xB001_00, 0, state)]

def kMirrorAck : Packet := pk6 opMirrorAck 1 6 [3 * 2 ^ 96]
def sMirrorAck : State := puts (pairedWith 6 2) [(0xB001_01, 0, 3), (0xB001_02, 0, 2)]

def update (kind seq rest : Nat) (data : List Nat) : Packet :=
  pk6 opMirrorUpdate (1 + data.length) 6 ((seq * 2 ^ 96 + kind * 2 ^ 92 + rest) :: data)

def kValue : Packet := update 0 1 (0x1000_00 * 2 ^ 64 + 4 * 2 ^ 4) [0]
def kRestoreRequest : Packet := update 5 0 0 []
def sImage : State := puts (pairedWith 6 0) [(0xB002_00, 0, 2), (0xB002_01, 0, 6)]
def kRestoreBegin : Packet := update 6 9 0 []
def aRestore : Restore := { endpoint := 6, port := 0, edition := 1, lastSeq := none }
def sRestoring : State := { s5 with mirror.restore := some aRestore }

def anUpdate : MirrorUpdate := { seq := 0, kind := 0, index := 0x100000, sub := 0, row := 0, countM1 := 0, data := [], edition := none }

def withTile (y : Tile) : State := { sEntry with coll.tiles := [y] }
def collWait : CollWait := { phys := 7, port := 15, k := kAdd, tile := 0, slot := true, counted := true, serial := 1 }
def sSpare : State := puts s0 [(sliceCn 4, 0, 0x44)]

def sStaged : State := puts s0 [(0x7101_00, 0, 9 * 2 ^ 5)]

theorem lookup_of_keys {α : Type} {m : Table α} {ks : List Nat} {k : Nat} (h : m.map (·.1) = ks) (hk : k ∉ ks) :
    lookupT m k = none := by
  subst h
  induction m with
  | nil => rfl
  | cons e m ih =>
    simp only [List.map_cons, List.mem_cons, not_or] at hk
    simp only [lookupT]
    rw [if_neg hk.1]
    exact ih hk.2

theorem entry_default (p : Part) (x : Nat) : defaultOf p entryCn x = 0 := by
  unfold defaultOf
  rw [show lookupT (if entryCn < 0x7000_00 then lowDefaults else highDefaults) (normCn entryCn) = none by decide +kernel]
  simp [otherDefault, entryCn]

theorem no_entries {s : State} {ids : List Nat} (h : s.cat.all (fun e => e.1 / 2 ^ 32 != entryCn) = true) :
    ∀ x, x < 2 ^ 32 → ceState (ceRow s x) ≠ 0 → ∀ i ∈ entryIds s x, i ∉ ids := by
  intro x hx hc
  refine absurd ?_ hc
  have e : lookupT s.cat (catKey entryCn x) = none := by
    refine lookup_of_keys rfl (fun hm => ?_)
    obtain ⟨y, hy, hk⟩ := List.mem_map.1 hm
    have hz := List.all_eq_true.1 h y hy
    rw [hk] at hz
    simp only [catKey, bne_iff_ne, ne_eq] at hz
    omega
  unfold ceRow getRow
  rw [e, Option.getD_none, entry_default]
  rfl

def aFanout : Fanout :=
  { entry := 3, gate := 9, status := stAborted, next := 0, left := 1, members := 2, partition := 0,
    context := 0, segment := 0, offset := 0, asked := true, record := some (some 5) }
def sFan : State := { s5 with coll.fanouts := [aFanout] }
def vFan : State × Option Nat := sendInvoke sFan (fld 5 21 0) 0x7300_03 (abortArg aFanout.gate aFanout.status) (.abort aFanout.entry)
theorem vFan_eq : sendInvoke sFan (fld 5 21 0) 0x7300_03 (abortArg aFanout.gate aFanout.status) (.abort aFanout.entry) =
    (vFan.1, vFan.2) := (Prod.mk.eta (p := vFan)).symm
def endedRun : EntryRun := { EntryRun.reset with ended := some stOk }
def sEnded : State := { puts s5 [(entryCn, 255, 2 ^ 254 + 2 ^ 255)] with coll.entries := [(255, endedRun)] }

/-- A RUNNING entry whose thread is at address 0 of a program that is one word. -/
def seqWith (w : Nat) (t : Thread) : State :=
  { puts s5 [(entryCn, 255, 2 ^ 255)] with
    coll.entries := [(255, { EntryRun.reset with thread := some t })], coll.program := [(0, BitVec.ofNat 32 w)] }

def thr : Thread := newThread (2 ^ 255) 255 0
def wAdd : Nat := 0x01 * 2 ^ 26 + 3 * 2 ^ 22 + 1 * 2 ^ 18 + 2 * 2 ^ 14
def wBeq : Nat := 0x10 * 2 ^ 26 + 3 * 2 ^ 18 + 0 * 2 ^ 14 + 5
def wStd : Nat := 0x19 * 2 ^ 26 + 1 * 2 ^ 22 + 31
def wLdh : Nat := 0x1A * 2 ^ 26 + 3 * 2 ^ 22 + 1 * 2 ^ 18
def wRld : Nat := 0x1C * 2 ^ 26 + 3 * 2 ^ 22 + 1 * 2 ^ 18
def wSend (r : Nat) : Nat := 0x20 * 2 ^ 26 + r * 2 ^ 18
def thrSend : Thread := { thr with regs := List.replicate 12 0 ++ [0, 0, 2 ^ 32 - 1, 1] }
def wTokall : Nat := 0x23 * 2 ^ 26 + 1 * 2 ^ 18
def wWaits : Nat := 0x21 * 2 ^ 26
def wDone : Nat := 0x3E * 2 ^ 26
def ldhAt : Nat := ((reg thr (fld wLdh 21 18)).toNat + 8 * fld wLdh 13 0) % 2 ^ 64
def aRead (dest : HostRead) : ThreadRead := { id := 0, dest := dest, late := [], back := some (List.replicate 64 255) }
def thrRead (dest : HostRead) : Thread := { thr with reads := [aRead dest] }
def thrWait : Thread := { thr with wait := some .sends }

/-- Loan 4,095 has this entry. -/
def loanIs (row : Nat) : State := puts s5 [(loanCn, 4095, row)]

def openStage : Nat := 4095 * 2 ^ 228 + 7 * 2 ^ 184
def sOpen : State := puts sRoute [(0x6401_00, 0, openStage)]
def openRow : Nat := setFld (setFld (setFld openStage 253 252 0) 250 250 1) 246 244 1

def hopArg : LoanHopArg :=
  { loan := 4095, source := 6, destination := 5, mode := 1, rate := 32000, burst := 255, hopWait := 4095, firstPage := 0,
    pagesM1 := 0 }
def fromPort0 : Requester := { cls := .neighbour, ident := 6, port := 0 }
def sHop : State := puts (sWin 0) [(0x640A_00, 0, 1)]

def discardRow : Nat := 2 ^ 255 + 2 ^ 251
def onLoan : Desc :=
  { k := { blankPacket with vc := 4, opcode := opLoanData, opspec := 4095 * 2 ^ 10 }, origin := 0, entry := none, joined := none, rx := none }
def loanTx : TxPacket :=
  { slots := packetSlots onLoan.k, size := 3, rx := none, owed := 0, vc := 4, begun := false, pool := false, abort := false,
    entry := none, queue := 1, sample := none }
def loanPass : PassWait := { port := 1, vc := 4, k := onLoan.k, egress := 0, loan := some 4095, rx := none }
def loanPair : Pair := { aPair with path := 4096, via := 0 }

/-- Port 0 is UP and deals to lane 9. -/
def sUp : State := puts s5 [(0x2000_01, 0, 1), (0x2010_01, 0, 512), (0x2010_02, 0, 512)]

def inQueue (s : State) (q : Nat) (d : Desc) : State := setPort s 0 fun x => { x with queues := [(q, [d])] }
def mgmtDesc : Desc := { k := { blankPacket with vc := 5, opcode := opMgmtReq, slotCount := 1, data := [0] }, origin := 15, entry := none, joined := none, rx := none }
def aTx : TxPacket :=
  { slots := [0], size := 3, rx := none, owed := 0, vc := 0, begun := true, pool := false, abort := false, entry := none, queue := 0,
    sample := none }
def sTx : State := setPort sUp 0 fun x => { x with tx := [aTx] }

/-- Lane 9 of port 0 receives in training. -/
def sRx : State := setPort sUp 0 fun x => { x with lanes := x.lanes.map fun n => { n with rxTrained := true, peerTrained := true } }
def aFlit : Flit :=
  { type := 0, seq := 0, ack := 65535, nak := false, held := false, xoff := false, pool := false, abort := false, slotsUsed := 1,
    creditVc := 7, credit := 0, slots := [0] }
def sReplay : State := puts (setPort sUp 0 fun x => { x with replay := [aFlit] }) [(0x2000_07, 0, 8)]
def lane9 : Nat := 9 * 2 ^ 116
def sAsked : State := setPort sRx 0 fun x => { x with asked := some (9, 1) }
def sNarrow : State := puts sRx [(0x2010_01, 0, 1), (laneStateCn 0 9, 0, 3 * 2 ^ 4)]
def sWide : State := puts sUp [(0x2010_01, 0, 513), (0x2010_02, 0, 513)]

theorem put_obj {p : Part} {cn : Nat} (h : (findObj p cn).isSome = true) : findObj p cn = some ((findObj p cn).get h) :=
  (Option.some_get h).symm

/-- Every lane of port 0 is changed alike. -/
def withLanes (s : State) (f : Lane → Lane) : State := setPort s 0 fun x => { x with lanes := x.lanes.map f }

/-- Port 0 in a link state and a stage. -/
def sLink (state stage : Nat) : State := puts s5 [(0x2000_01, 0, state), (0x2050_01, 0, stage)]
def tBlock : Nat := 0x4B1D * 2 ^ 112 + tbCrc (0x4B1D * 2 ^ 112)
def badPlate : Nat := 0x4B1D_4B1D_4B1D_4B1D_4B1D_4B1D_4B1D_4B1D
def sLocked : State := withLanes (sLink 1 8) fun l => { l with rxTrained := true, lock := 2 }
def sReady : State := setPort (sLink 0 7) 0 fun x => { x with ready := true, peerReady := true }
def tested (m : Nat) : State := withLanes s5 fun l => { l with test := m, testEnds := true }

def sChild : State := puts sUp [(0x9001_01, 0, 0), (0x9001_02, 0, 0)]
def kSync (kind rest : Nat) : Packet :=
  sealed { blankPacket with opcode := opTimeSync, dst := 0x3FFFF0, src := 0x3FFFF0, slotCount := 1, vc := 5,
                            data := [kind * 2 ^ 126 + rest] }
def kSyncRsp : Packet := kSync 1 (7 * 2 ^ 110 + 2 ^ 109)
def sAsking : State := { sChild with time.req := some (7, 1) }
def sMaster : State := puts s0 [(0x9001_01, 0, 1)]
def marking (m : Nat) : State := puts s0 [(0x9100_01, 0, m)]

theorem no_edge : ∀ e, (marking 1).time.lastEdge = some e → 256000 ≤ subMod 64 (now (marking 1)) e := by
  intro e h
  rw [show (marking 1).time.lastEdge = none by decide +kernel] at h
  exact absurd h (by simp)

def sLine : State := { s0 with observe.line := [0] }
def sTrace : State := { puts s0 [(0xC000_02, 0, 2 ^ 126)] with observe.rings := [(0, [1])], observe.bucket := 16000 }
def sStop : State := puts s0 [(0xC200_02, 0, 1)]

/-- Memory port 11 belongs to partition 15 and a request waits there. -/
def sWatched : State :=
  { puts s0 [(0xA100_01, 0, 2 ^ 11 - 1), (0xA100_10, 0, 2 ^ 11), (0xA101_10, 0, 0)] with host.queues := [(11, [rAcc])] }
def sResend : State :=
  puts s5 [(reportCn, 255, 2 * 2 ^ 254 + 10 * 2 ^ 246), (0xA200_01, 0, 7), (0xA200_03, 0, 1)]
def part15 (state : Nat) : State := puts s0 [(0xA102_10, 0, state)]
def listRow : Nat := 2 ^ 127 + 15 * 2 ^ 121 + 4095 * 2 ^ 109
def sListed : State := puts s0 [(0xA110_00, 63, listRow)]

def msgBytes (type count : Nat) (body : List Byte) : List Byte :=
  bytesLE 16 (messageHeader type 0 count 1 (16 + body.length)) ++ body
def nextMsg : List Byte := msgBytes 1 1 (bytesLE 16 (itemHeader 0x1000_00 3 0 0 0 0))
def nextI : Item := { index := 0x1000, sub := 0, op := 3, row := 0, countM1 := 0, data := [] }
def ackBytes : List Byte := msgBytes 6 0 (bytesLE 16 (7 * 2 ^ 112 + 10 * 2 ^ 104 + 6 * 2 ^ 82))
def sShelf : State := puts s5 [(0x1200_01, 0, 1), (0x1200_02, 0, 2)]
/-- The frame of an IPv6 packet from address 9. -/
def macFrame (dst proto len : Nat) : MacFrame :=
  { destMac := 0, srcMac := 0, etherType := 0x86DD, ipWord := 6 * 2 ^ 28, payloadLength := len, nextHeader := proto,
    hopLimit := 255, src := 9, dst := dst, checksum := 0, padding := [], fcs := 0, rxEr := false }

/-- The frame with its checksum and frame check sequence right, around a payload given with its checksum. -/
def closed (f : MacFrame) (payload : Nat → List Byte) : MacFrame :=
  let sum := 65535 - onesSum f.src f.dst f.nextHeader (payload 0)
  { f with checksum := sum, fcs := frameCheck (frameBytes f f.src f.dst (payload sum)) }

def datagram (dst : Nat) (bs : List Byte) : Datagram :=
  let f := macFrame dst 17 (8 + bs.length)
  let d : Datagram := { frame := f, sport := 30412, port := 30412, length := 8 + bs.length, bytes := bs }
  { d with frame := closed f fun n => udpBytes { d with frame.checksum := n } 30412 }

def neighbourMsg (type dst target : Nat) : FramedTarget :=
  let f := macFrame dst 58 24
  let t : FramedTarget := { frame := f, flags := 0, addr := target, options := [] }
  { t with frame := closed f fun n => neighbourBytes { t with frame.checksum := n } type }

def echoMsg (dst : Nat) (bs : List Byte) : FramedEcho :=
  let f := macFrame dst 58 (4 + bs.length)
  let e : FramedEcho := { frame := f, bytes := bs }
  { e with frame := closed f fun n => echoBytes { e with frame.checksum := n } }

/-- A datagram for the block from address 9. -/
def toShelf (bs : List Byte) : Datagram := datagram (shelfAddress sShelf) bs
def fromListen : Datagram :=
  let a := numLE (bytesLE 16 (get s0 0x1200_0A)).reverse
  let f := { macFrame (shelfAddress sReported) 17 40 with src := a }
  let d : Datagram := { frame := f, sport := 0, port := 30412, length := 40, bytes := ackBytes }
  { d with frame := closed f fun n => udpBytes { d with frame.checksum := n } (fld (get s0 0x1200_0A) 143 128) }

def sHost : State := puts s0 [(0x1101_02, 0, 2 ^ 17 - 1)]
def hostSlot : Nat := 0xA200 * 4096 + 3 * 16
def hostNext : Nat := itemHeader 0x1000_00 3 0 0 0 0
/-- COMMISSIONING with the client as its owner. -/
def sOwned : State := { sPlaced with mgmt.owner := some shelf }
def sNotice : State := ringAt 15 0 [aNotice]

/-! ### Ill-formed commands are refused -/

/-- Operands that fit no field. -/
def badRq : Requester := { shelf with ident := 2 ^ 128 }
def badPacket : Packet := { blankPacket with vc := 8 }
def badEsp : EspReq := { esp with issuer := 1024 }
def badHop : LoanHopArg := { hopArg with rate := 2 ^ 16 }
def aFrame : MacFrame := macFrame 0 0 0
def aDatagram : Datagram := { frame := aFrame, sport := 0, port := 0, length := 0, bytes := [] }
def aTarget : FramedTarget := { frame := aFrame, flags := 0, addr := 0, options := [] }
def anEcho : FramedEcho := { frame := aFrame, bytes := [] }
def badDatagram : Datagram := { aDatagram with port := 2 ^ 16 }
def badTarget : FramedTarget := { aTarget with addr := 2 ^ 128 }
def badEcho : FramedEcho := { anEcho with frame := { aFrame with fcs := 2 ^ 32 } }

theorem test_wf_requester :
    [{ shelf with ident := 2 ^ 128 }, { shelf with port := 2 ^ 16 }, { cls := .host, ident := 1, port := 0 },
    { cls := .host, ident := 0, port := 1 }, { cls := .block, ident := 0, port := 0 },
    { cls := .fm, ident := 2 ^ 22, port := 0 },
    { cls := .neighbour, ident := 0, port := 16 }].all (fun r : Requester => !r.ok) = true := by decide +kernel

theorem test_wf_packet :
    [{ blankPacket with partition := 16 }, { blankPacket with partitionEdition := 256 },
    { blankPacket with tracker := 2 ^ 16 }, { blankPacket with turn := 16 }, { blankPacket with issuer := 1024 },
    { blankPacket with opspec := 2 ^ 86 }, { blankPacket with crc := 2 ^ 32 }, { blankPacket with dst := 2 ^ 22 },
    { blankPacket with dstEdition := 256 }, { blankPacket with src := 2 ^ 22 },
    { blankPacket with srcEdition := 256 }, { blankPacket with opcode := 256 },
    { blankPacket with slotCount := 256 }, { blankPacket with lastByte := 16 }, { blankPacket with vc := 8 },
    { blankPacket with colour := 4 }, { blankPacket with reserved := 1024 },
    { blankPacket with data := [2 ^ 128] }, { blankPacket with data := List.replicate 257 0 }].all (fun k : Packet => !k.ok) = true := by
  decide +kernel

theorem test_wf_engine_request :
    [{ esp with port := 8 }, { esp with issuer := 1024 }, { esp with context := 4096 },
    { esp with lengthM1 := 4096 }, { esp with sub := 32 }, { esp with etag := 65536 },
    { esp with address := 2 ^ 64 }, { esp with data := List.replicate 4097 0 }].all (fun r : EspReq => !r.ok) = true := by decide +kernel

theorem test_wf_hop_argument :
    [{ hopArg with loan := 2 ^ 16 }, { hopArg with source := 2 ^ 32 }, { hopArg with destination := 2 ^ 32 },
    { hopArg with mode := 256 }, { hopArg with rate := 2 ^ 16 }, { hopArg with burst := 256 },
    { hopArg with hopWait := 2 ^ 16 }, { hopArg with firstPage := 2 ^ 32 },
    { hopArg with pagesM1 := 2 ^ 32 }].all (fun a : LoanHopArg => !a.ok) = true := by decide +kernel

theorem test_wf_frame :
    [{ aFrame with destMac := 2 ^ 48 }, { aFrame with srcMac := 2 ^ 48 }, { aFrame with etherType := 2 ^ 16 },
    { aFrame with ipWord := 2 ^ 32 }, { aFrame with payloadLength := 2 ^ 16 }, { aFrame with nextHeader := 256 },
    { aFrame with hopLimit := 256 }, { aFrame with src := 2 ^ 128 }, { aFrame with dst := 2 ^ 128 },
    { aFrame with checksum := 2 ^ 16 }, { aFrame with fcs := 2 ^ 32 }].all (fun f : MacFrame => !f.ok) = true := by decide +kernel

theorem test_wf_datagram :
    ([{ aDatagram with sport := 2 ^ 16 }, { aDatagram with length := 2 ^ 16 },
      { aDatagram with frame.checksum := 2 ^ 16 }].all (fun d : Datagram => !d.ok) &&
      [{ aTarget with flags := 2 ^ 32 }, { aTarget with frame.hopLimit := 256 }].all fun t : FramedTarget => !t.ok) = true := by
  decide +kernel

theorem test_wf_places :
    ([.msp 12, .esp 8, .egress 8 0, .egress 0 64].all (fun f : WatchdogFinding => !f.ok) &&
      [.table 16 0 false, .table 0 65536 false, .carrel 64 0, .carrel 0 4128, .tracker 33280, .slice 5, .port 8].all
        fun m : MemSite => !m.ok) = true := by
  decide +kernel

theorem test_wf_refuses_1 :
    [.partRstFall 16, .partRstRise 16, .pdAck 64 false, .pdAckLimitExpiry 64, .powerTargetWrite badRq 0,
    .powerTargetWrite shelf (2 ^ 64), .thermalSample 8 0, .thermalSample 0 (2 ^ 32), .thermalAlarmClear badRq 0,
    .thermalAlarmClear shelf 256, .thermalMaxClear badRq, .powerFaultClear badRq, .faultAttentionClear badRq 0,
    .faultAttentionClear shelf (2 ^ 16), .firmwareLoad badRq none, .tenantChange badRq 0, .tenantChange shelf 256,
    .mspRequestAccept 12, .mspCompletion 12 0 0 [], .mspCompletion 0 1024 0 [], .mspCompletion 0 0 4 [],
    .atomicLockGrant 12, .mspAbandon 12, .load badEsp, .store badEsp, .storeAck badEsp, .espAtomic badEsp,
    .espAtomicFetch badEsp, .espLedgerAdd badEsp, .espLedgerRead badEsp, .espLedgerReadClear badEsp,
    .fenceCore badEsp, .fenceChip badEsp, .fenceSystem badEsp, .fenceComplete 1024, .fenceTimeout 1024,
    .read 9 blankPacket, .read 0 badPacket, .write 9 blankPacket, .write 0 badPacket, .writeAck 9 blankPacket,
    .writeAck 0 badPacket, .atomic 9 blankPacket, .atomic 0 badPacket, .atomicFetch 9 blankPacket,
    .atomicFetch 0 badPacket, .ledgerAdd 9 blankPacket, .ledgerAdd 0 badPacket, .ledgerRead 9 blankPacket,
    .ledgerRead 0 badPacket].all
      (fun i : Instr => !i.wf) = true := by
  decide +kernel

theorem test_wf_refuses_2 :
    [.ledgerReadClear 9 blankPacket, .ledgerReadClear 0 badPacket, .probe 9 blankPacket, .probe 0 badPacket,
    .holdRelease 9 blankPacket, .holdRelease 0 badPacket, .noticePost 9 blankPacket, .noticePost 0 badPacket,
    .commitPoll 9 blankPacket, .commitPoll 0 badPacket, .contrib 9 blankPacket, .contrib 0 badPacket,
    .contribLong 9 blankPacket, .contribLong 0 badPacket, .loanData 9 blankPacket, .loanData 0 badPacket,
    .readRsp 9 blankPacket, .readRsp 0 badPacket, .statusRsp 9 blankPacket, .statusRsp 0 badPacket,
    .atomicRsp 9 blankPacket, .atomicRsp 0 badPacket, .ledgerRsp 9 blankPacket, .ledgerRsp 0 badPacket,
    .probeRsp 9 blankPacket, .probeRsp 0 badPacket, .commitAck 9 blankPacket, .commitAck 0 badPacket,
    .mgmtReq 9 blankPacket, .mgmtReq 0 badPacket, .mgmtRsp 9 blankPacket, .mgmtRsp 0 badPacket,
    .retiredNotice 9 blankPacket, .retiredNotice 0 badPacket, .faultReport 9 blankPacket, .faultReport 0 badPacket,
    .faultAck 9 blankPacket, .faultAck 0 badPacket, .mirrorAck 9 blankPacket, .mirrorAck 0 badPacket,
    .mirrorValue 9 blankPacket, .mirrorValue 0 badPacket, .mirrorRows 9 blankPacket, .mirrorRows 0 badPacket,
    .mirrorLogRecords 9 blankPacket, .mirrorLogRecords 0 badPacket, .snapshotBegin 9 blankPacket,
    .snapshotBegin 0 badPacket, .snapshotEnd 9 blankPacket, .snapshotEnd 0 badPacket].all
      (fun i : Instr => !i.wf) = true := by
  decide +kernel

theorem test_wf_refuses_3 :
    [.restoreRequest 9 blankPacket, .restoreRequest 0 badPacket, .restoreBegin 9 blankPacket,
    .restoreBegin 0 badPacket, .timeSyncReq 9 blankPacket 0, .timeSyncReq 0 badPacket 0,
    .timeSyncReq 0 blankPacket (2 ^ 64), .timeSyncRsp 9 blankPacket 0, .timeSyncRsp 0 badPacket 0,
    .timeSyncRsp 0 blankPacket (2 ^ 64), .passThrough 9 blankPacket, .passThrough 0 badPacket,
    .trackerTimeout 32768, .trackerQuarantineExpiry 32768, .commitAckDelayExpiry (2 ^ 22) 0,
    .commitAckDelayExpiry 0 1024, .commitPollIntervalExpiry (2 ^ 22) 0, .commitPollIntervalExpiry 0 1024,
    .pendingAckEntryFree 9 0, .pendingAckEntryFree 0 8, .pairEntryFree 1024, .probeRetry 64 0,
    .probeRetry 0 (2 ^ 64), .probeRetryLimitExpiry 64 0, .probeRetryLimitExpiry 0 (2 ^ 64), .holdTimeout 4096,
    .windowOpen badRq 0, .windowOpen shelf (2 ^ 32), .windowModify badRq 0, .windowModify shelf (2 ^ 32),
    .windowClose badRq 0, .windowClose shelf (2 ^ 32), .windowDrainEnd 1024, .windowDrainLimitExpiry 1024,
    .partitionEditionRaise badRq 0, .partitionEditionRaise shelf 256, .editionExceptionSet badRq 0 0,
    .editionExceptionSet shelf (2 ^ 32) 0, .editionExceptionSet shelf 0 256, .editionExceptionClear badRq 0,
    .editionExceptionClear shelf (2 ^ 32), .fenceLostMark badRq 0, .fenceLostMark shelf (2 ^ 32),
    .trayEnable badRq 0, .trayEnable shelf (2 ^ 32), .trayDisable badRq 0, .trayDisable shelf (2 ^ 32),
    .trayDrainEnd 64, .trayDrainLimitExpiry 64, .traySlotPoll 64].all
      (fun i : Instr => !i.wf) = true := by
  decide +kernel

theorem test_wf_refuses_4 :
    [.slotReadComplete 64, .slipAdmissionDone 64 0, .slipAdmissionDone 0 (2 ^ 64), .slipIssue 64 0,
    .slipIssue 0 (2 ^ 64), .slipComplete 64 0, .slipComplete 0 (2 ^ 64), .noticeWrite 256, .consumedCountPoll 256,
    .ringEnable badRq 0, .ringEnable shelf (2 ^ 32), .ringDisable badRq 0, .ringDisable shelf (2 ^ 32),
    .ringAttentionClear badRq 0, .ringAttentionClear shelf (2 ^ 32), .ledgerClear badRq 0 0,
    .ledgerClear shelf (2 ^ 32) 0, .ledgerClear shelf 0 (2 ^ 32), .tileBurstDone (2 ^ 32) 0,
    .tileBurstDone 0 (2 ^ 32), .tileSpill (2 ^ 32) 0, .tileSpill 0 (2 ^ 32), .spillWaitExpiry 8,
    .collectiveOpen badRq 0, .collectiveOpen shelf (2 ^ 32), .collectiveStart badRq 0,
    .collectiveStart shelf (2 ^ 32), .programLoad badRq none, .collectiveAbort badRq 0 0,
    .collectiveAbort shelf (2 ^ 32) 0, .collectiveAbort shelf 0 256, .sliceSelfTest badRq, .sliceHardFailure 8,
    .seqFault 256, .seqAdd 256, .seqSub 256, .seqAnd 256, .seqOr 256, .seqXor 256, .seqShl 256, .seqShr 256,
    .seqMul 256, .seqDivu 256, .seqMinu 256, .seqMaxu 256, .seqAddi 256, .seqLi 256, .seqSli 256, .seqBeq 256,
    .seqBne 256].all
      (fun i : Instr => !i.wf) = true := by
  decide +kernel

theorem test_wf_refuses_5 :
    [.seqBltu 256, .seqBgeu 256, .seqJ 256, .seqLdd 256, .seqStd 256, .seqLdh 256, .seqBld 256, .seqRld 256,
    .sequencerHostReadDone 256, .seqTime 256, .seqSend 256, .seqWaits 256, .seqWaitc 256, .seqTokall 256,
    .seqToken 256, .seqWaitg 256, .seqRdc 256, .seqRdg 256, .seqDone 256, .seqAbort 256, .waitConditionMet 256,
    .waitLimitExpiry 256, .guardWaitExpiry 256, .abortFanoutInvocation (2 ^ 22), .collectiveNotice 256,
    .routeRowWrite badRq 0 0 0, .routeRowWrite shelf (2 ^ 24) 0 0, .routeRowWrite shelf 0 (2 ^ 32) 0,
    .routeRowWrite shelf 0 0 (2 ^ 1024), .loanSet badRq, .loanClose badRq 0, .loanClose shelf (2 ^ 16),
    .loanCloseDrainEnd 4096, .loanDrainLimitExpiry 4096, .loanOpen badRq, .loanHopOpen badRq hopArg,
    .loanHopOpen shelf badHop, .loanHopClose badRq 0, .loanHopClose shelf (2 ^ 16), .loanHopWaitExpiry 8 0 0,
    .loanHopWaitExpiry 0 64 0, .loanHopWaitExpiry 0 0 4096, .loanExpiry (2 ^ 22) 0, .loanExpiry 0 1024,
    .schedulerChoose 8, .queueConfigWrite badRq 0 0 0, .queueConfigWrite shelf 8 0 0,
    .queueConfigWrite shelf 0 64 0, .queueConfigWrite shelf 0 0 (2 ^ 1024), .policerWrite badRq 0 0].all
      (fun i : Instr => !i.wf) = true := by
  decide +kernel

theorem test_wf_refuses_6 :
    [.policerWrite shelf (2 ^ 32) 0, .policerWrite shelf 0 (2 ^ 1024), .depthSample 8, .sampleClear badRq 0,
    .sampleClear shelf 256, .flitTransmit 8, .flitReceive 8 0 0 false, .flitReceive 0 10 0 false,
    .flitReceive 0 0 (2 ^ 2048) false, .replayTimeout 8, .laneNull 8 0 0, .laneNull 0 10 0,
    .laneNull 0 0 (2 ^ 128), .laneAdd 8 0 0, .laneAdd 0 10 0, .laneAdd 0 0 (2 ^ 128), .laneRemove 8 0 0,
    .laneRemove 0 10 0, .laneRemove 0 0 (2 ^ 128), .laneRequestAdd 8 0 0, .laneRequestAdd 0 10 0,
    .laneRequestAdd 0 0 (2 ^ 128), .laneRequestRemove 8 0 0, .laneRequestRemove 0 10 0,
    .laneRequestRemove 0 0 (2 ^ 128), .laneRefuse 8 0 0, .laneRefuse 0 10 0, .laneRefuse 0 0 (2 ^ 128),
    .laneHush 8 0 0, .laneHush 0 10 0, .laneHush 0 0 (2 ^ 128), .laneShelve 8 0 0, .laneShelve 0 10 0,
    .laneShelve 0 0 (2 ^ 128), .laneTestEnter 8 0 0, .laneTestEnter 0 10 0, .laneTestEnter 0 0 (2 ^ 128),
    .laneTestExit 8 0 0, .laneTestExit 0 10 0, .laneTestExit 0 0 (2 ^ 128), .laneChangeAdd badRq 0 0,
    .laneChangeAdd shelf 8 0, .laneChangeAdd shelf 0 256, .laneChangeRemove badRq 0 0, .laneChangeRemove shelf 8 0,
    .laneChangeRemove shelf 0 256, .losAssert 8 ⟨0, false⟩, .losAssert 0 ⟨10, false⟩, .lolAssert 8 0,
    .lolAssert 0 10].all
      (fun i : Instr => !i.wf) = true := by
  decide +kernel

theorem test_wf_refuses_7 :
    [.uncorrectableCodeword 8 ⟨0, 0⟩, .uncorrectableCodeword 0 ⟨10, 0⟩, .uncorrectableCodeword 0 ⟨0, 2 ^ 32⟩,
    .gracePeriodExpiry 8, .retrainStart 8, .portRetrain badRq 0, .portRetrain shelf 8, .trainingBlock 8 0 0,
    .trainingBlock 0 10 0, .trainingBlock 0 0 (2 ^ 256), .alignmentAndFillerCodeword 8 ⟨0, 0⟩ 0,
    .alignmentAndFillerCodeword 0 ⟨10, 0⟩ 0, .alignmentAndFillerCodeword 0 ⟨0, 0⟩ (2 ^ 5140),
    .alignmentAndFillerCodeword 0 ⟨0, 2 ^ 32⟩ 0, .trainingComplete 8, .trainingLimitExpiry 8,
    .trainingStageTimeout 8 0, .trainingStageTimeout 0 10, .fastRetrainLimitExpiry 8, .laneRetryIntervalExpiry 8 0,
    .laneRetryIntervalExpiry 0 10, .laneWakeComplete 8 0, .laneWakeComplete 0 10, .rxWidthTargetWrite badRq 0 0,
    .rxWidthTargetWrite shelf 8 0, .rxWidthTargetWrite shelf 0 (2 ^ 64), .laneTestStop badRq 0 0 0,
    .laneTestStop shelf 8 0 0, .laneTestStop shelf 0 10 0, .laneTestStop shelf 0 0 (2 ^ 64),
    .laneTestGenerate badRq 0 0 0, .laneTestGenerate shelf 8 0 0, .laneTestGenerate shelf 0 10 0,
    .laneTestGenerate shelf 0 0 (2 ^ 64), .laneTestCheck badRq 0 0 0, .laneTestCheck shelf 8 0 0,
    .laneTestCheck shelf 0 10 0, .laneTestCheck shelf 0 0 (2 ^ 64), .laneTestNearSerial badRq 0 0 0,
    .laneTestNearSerial shelf 8 0 0, .laneTestNearSerial shelf 0 10 0, .laneTestNearSerial shelf 0 0 (2 ^ 64),
    .laneTestNearParallel badRq 0 0 0, .laneTestNearParallel shelf 8 0 0, .laneTestNearParallel shelf 0 10 0,
    .laneTestNearParallel shelf 0 0 (2 ^ 64), .laneTestFar badRq 0 0 0, .laneTestFar shelf 8 0 0,
    .laneTestFar shelf 0 10 0, .laneTestFar shelf 0 0 (2 ^ 64)].all
      (fun i : Instr => !i.wf) = true := by
  decide +kernel

theorem test_wf_refuses_8 :
    [.laneTestDurationExpiry 8 0, .laneTestDurationExpiry 0 10, .errorInjectWrite badRq 0 0 0,
    .errorInjectWrite shelf 8 0 0, .errorInjectWrite shelf 0 10 0, .errorInjectWrite shelf 0 0 (2 ^ 64),
    .errorInjection 8 0, .errorInjection 0 10, .syncIntervalExpiry (2 ^ 64), .timeSet badRq 0,
    .timeSet shelf (2 ^ 64), .markModeWrite badRq 0, .markModeWrite shelf (2 ^ 64), .odcClear badRq 0,
    .odcClear shelf (2 ^ 16), .snapshotTake badRq 0 0, .snapshotTake shelf (2 ^ 32) 0,
    .snapshotTake shelf 0 (2 ^ 64), .globalStop badRq, .scanRead badRq 0 0, .scanRead shelf 256 0,
    .scanRead shelf 0 (2 ^ 32), .extest (2 ^ 512), .samplePreload (2 ^ 512), .scanSelect 256, .scanData (2 ^ 32),
    .watchdogCheck [.msp 12], .uncorrectableWord (.tracker 33280), .stuckBitTest (.tracker 33280) false,
    .rowReplacementDone 64 0, .rowReplacementDone 0 4096, .trackerHardFailure 32768 false, .partitionReset badRq 0,
    .partitionReset shelf 256, .drainComplete 16, .drainLimitExpiry 16, .partitionReady badRq 0,
    .partitionReady shelf 256, .partitionQuietExpiry 16, .gateAdmit badRq 0 0, .gateAdmit shelf 256 0,
    .gateAdmit shelf 0 (2 ^ 16), .gateClear badRq 0 0, .gateClear shelf 256 0, .gateClear shelf 0 (2 ^ 16),
    .gateOpen badRq 0, .gateOpen shelf 256, .contextListClear badRq, .notifyAck 0 0 badDatagram,
    .notifyAck (2 ^ 128) 0 aDatagram].all
      (fun i : Instr => !i.wf) = true := by
  decide +kernel

theorem test_wf_refuses_9 :
    [.notifyAck 0 (2 ^ 16) aDatagram, .request 0 0 badDatagram, .request (2 ^ 128) 0 aDatagram,
    .request 0 (2 ^ 16) aDatagram, .nextItem 0 0 badDatagram, .nextItem (2 ^ 128) 0 aDatagram,
    .nextItem 0 (2 ^ 16) aDatagram, .discover 0 0 false badDatagram, .discover (2 ^ 128) 0 false aDatagram,
    .discover 0 (2 ^ 16) false aDatagram, .neighbourSolicitation (2 ^ 128) aTarget,
    .neighbourSolicitation 0 badTarget, .echoRequest 0 0 badEcho, .echoRequest (2 ^ 128) 0 anEcho,
    .echoRequest 0 (2 ^ 128) anEcho, .shelfEnableWrite badRq 0, .shelfEnableWrite shelf (2 ^ 64),
    .clientIdleExpiry (2 ^ 128) 0, .clientIdleExpiry 0 (2 ^ 16), .commissionEnter badRq, .commissionCommit badRq,
    .commissionRetire badRq, .hostSlotWrite (2 ^ 28) [], .hostSlotRead (2 ^ 28) 0, .hostSlotRead 0 (2 ^ 28),
    .hostAccessStart (2 ^ 128), .catalogueWrite badRq 0 0 0, .catalogueWrite shelf (2 ^ 24) 0 0,
    .catalogueWrite shelf 0 (2 ^ 32) 0, .catalogueWrite shelf 0 0 (2 ^ 1024), .counterpartRestore badRq 0 0 0,
    .counterpartRestore shelf (2 ^ 32) 0 0, .counterpartRestore shelf 0 256 0, .counterpartRestore shelf 0 0 256,
    .remoteNoticePostTimeout 64 0, .remoteNoticePostTimeout 0 (2 ^ 64), .checkerLock 8 0, .checkerLock 0 10,
    .checkerSyncLoss 8 0 0 0, .checkerSyncLoss 0 10 0 0, .checkerSyncLoss 0 0 (2 ^ 64) 0,
    .checkerSyncLoss 0 0 0 (2 ^ 64), .notify badDatagram, .response badDatagram, .discoverRsp badDatagram,
    .neighbourAdvertisement badTarget, .malformedPacket 9 blankPacket, .malformedPacket 0 badPacket,
    .privateTestMode (2 ^ 32)].all
      (fun i : Instr => !i.wf) = true := by
  decide +kernel

theorem test_wf_accepts :
    [.windowOpen shelf 1023, .read 15 blankPacket, .load esp, .loanHopOpen shelf hopArg, .watchdogCheck [.msp 11],
      .uncorrectableWord (.carrel 63 4127), .flitReceive 7 9 (2 ^ 2048 - 1) false].all (fun i : Instr => i.wf) = true := by
  decide +kernel

/-! ### The manual's own examples -/

/-- Table 3.5: bits [95:0] of slot 0 of the example READ. -/
theorem test_table_3_5 :
    nth 0 0 (packetSlots { blankPacket with
      opcode := opRead, dst := 0xA00, dstEdition := 5, src := 0x412, srcEdition := 0x11, slotCount := 7, lastByte := 9 }) %
      2 ^ 96 = 0x0028_0014_0041_2110_1079_0000 := by decide +kernel

/-- Window 12 of the example of 02, and window 13 that abuts it. -/
def exampleWin (first : Nat) : Nat := 2 ^ 254 + 3 * 2 ^ 240 + first * 2 ^ 162 + 0xFFFF * 2 ^ 130 + 0xA00 * 2 ^ 106 + 0xA5F * 2 ^ 84
def exampleWins : State := puts s0 [(windowCn, 12, exampleWin 0x4_0000), (windowCn, 13, exampleWin 0x5_0000)]
def exampleAsk : Asking := { request := false, source := 0xA01, mask := rightWrite }
def exampleSpans (start : Nat) : List (Nat × Nat) := (upFrom 0 8).map fun k => (start + k * 0x40_0000, 8192)
def spanError (r : Except (Nat × Nat) (List Nat)) : Option (Nat × Nat) :=
  match r with
  | .ok _ => none
  | .error e => some e
def spanWins (r : Except (Nat × Nat) (List Nat)) : List Nat :=
  match r with
  | .ok ws => ws
  | .error _ => []

/-- Table 2.6: span 3 straddles the window's end; 4 KiB lower every span passes, in two windows. -/
theorem test_table_2_6 :
    spanError (checkSpans exampleWins exampleAsk [] (exampleSpans 0x4F3F_F000)).2 = some (stStraddle, 0x5000_0000) ∧
    spanWins (checkSpans exampleWins exampleAsk [] (exampleSpans 0x4F3F_E000)).2 = [12, 13] := by decide +kernel

/-- Table 6.1: 1 + 2^-8 + 2^-8 in BF16, added exactly in units of 2^-133 and rounded once. -/
theorem test_table_6_1 :
    decodeFloat bf16 0x3F80 = (stFinite, 2 ^ 133) ∧ decodeFloat bf16 0x3B80 = (stFinite, 2 ^ 125) ∧
    roundToFloat bf16 0 0 false (2 ^ 133 + 2 ^ 125 + 2 ^ 125) 133 = (0x3F81, false) ∧
    roundToFloat bf16 0 0 false (2 ^ 133 + 2 ^ 125) 133 = (0x3F80, false) := by decide +kernel

/-- The stochastic rounding example after R131: d is 0xC000_0000. -/
theorem test_stochastic_example :
    roundToFloat bf16 4 0xBFFF_FFFF false (2 ^ 133 + 2 ^ 125 + 2 ^ 124) 133 = (0x3F81, false) ∧
    roundToFloat bf16 4 0xC000_0000 false (2 ^ 133 + 2 ^ 125 + 2 ^ 124) 133 = (0x3F80, false) := by decide +kernel

/-- The encodings after Table 7.3: SEND g12, g10 and ADDI g4, g4, -1. -/
theorem test_sequencer_words :
    (fld 0x8032_8000 31 26, fld 0x8032_8000 21 18, fld 0x8032_8000 17 14) = (0x20, 12, 10) ∧
    (fld 0x3110_3FFF 31 26, fld 0x3110_3FFF 25 22, fld 0x3110_3FFF 21 18, signed 14 (fld 0x3110_3FFF 13 0)) =
      (0x0C, 4, 4, -1) := by decide +kernel

/-- The slots of the host window in the example of 12 (R276). -/
theorem test_host_slots : slotCn 0x0110_0000 = 0x1100_00 ∧ slotCn 0x0230_0020 = 0x2300_02 := by decide +kernel

/-- The interleaved access after R345: partition 2 owns ports 4 and 5. -/
theorem test_interleave :
    mspPort (puts s0 [(0xA100_01, 0, 0xFCF), (0xA100_03, 0, 0x30)]) 2 0 0x3000 = some 5 := by decide +kernel

/-- The NEXT examples of 17. -/
theorem test_next :
    nextObj .skx8 0x4100_00 = some 0x4101_00 ∧ nextObj .skx8 0xA010_03 = some 0xA010_05 ∧
    nextObj .skx4 0x2380_04 = some 0x3000_01 ∧ nextObj .skx8 0x3711_0A = some 0x4000_01 ∧
    nextObj .skx8 0x3311_0A = some 0x3400_01 ∧ nextObj .skx8 0xF103_01 = none := by decide +kernel

/-- The bytes that NEXT from `4100.00` returns. -/
theorem test_next_bytes :
    (findObj .skx8 0x4101_00).map (fun o => nextBytes o 0x4101_00) =
      some [0x01, 0x41, 0x00, 0x0A, 0x01, 0x00, 0x08, 0x00, 0x00, 0x10, 0, 0, 0, 0, 0, 0] := by decide +kernel

/-! ### Every statement's hypotheses can be met -/

theorem test_IdleStepIsOneCycle_1 :
    ∃ (s : State),
      s.pending = [] :=
  ⟨State.reset, by decide +kernel⟩

theorem test_EveryStepKeepsSound_1 :
    ∃ (s _t : State),
      Sound s :=
  ⟨State.reset, State.reset, ⟨by decide +kernel, by decide +kernel, by decide +kernel, by decide +kernel⟩⟩

theorem test_PacketsSurviveTheWire_1 :
    ∃ (k : Packet),
      k.partition < 2 ^ 4 ∧
      k.partitionEdition < 2 ^ 8 ∧
      k.tracker < 2 ^ 16 ∧
      k.turn < 2 ^ 4 ∧
      k.issuer < 2 ^ 10 ∧
      k.opspec < 2 ^ 86 ∧
      k.crc < 2 ^ 32 ∧
      k.dst < 2 ^ 22 ∧
      k.dstEdition < 2 ^ 8 ∧
      k.src < 2 ^ 22 ∧
      k.srcEdition < 2 ^ 8 ∧
      k.opcode < 2 ^ 8 ∧
      k.slotCount < 2 ^ 8 ∧
      k.lastByte < 2 ^ 4 ∧
      k.vc < 2 ^ 3 ∧
      k.colour < 2 ^ 2 ∧
      k.reserved < 2 ^ 10 ∧
      (∀ x ∈ k.data, x < 2 ^ 128) :=
  ⟨{ blankPacket with data := [2 ^ 128 - 1] }, by decide +kernel⟩

theorem test_PinsAct_2 :
    ∃ (s : State),
      s.power.porLow = true ∧
      get s 0xE000_02 = 3 :=
  ⟨{ puts State.reset [(0xE000_02, 0, 3)] with power.porLow := true, log.queue := [] }, by decide +kernel⟩

theorem test_PinsAct_3 :
    ∃ (s : State),
      s.power.porLow = false :=
  ⟨State.reset, by decide +kernel⟩

theorem test_PinsAct_4 :
    ∃ (s : State),
      s.power.porLow = true :=
  ⟨{ puts State.reset [(0xE000_02, 0, 3)] with power.porLow := true, log.queue := [] }, by decide +kernel⟩

theorem test_PinsAct_5 :
    ∃ (s : State) (c : Instr) (rise : Bool),
      (c, rise) ∈ [(.blockRstAssert, false), (.blockRstRelease, true)] ∧
      s.power.porLow = false ∧
      (rise = true → s.power.blockLow = true ∧ ∀ d < 50, domainOn s d = true → bit (partDomains s.part) d = true) :=
  ⟨{ State.reset with power.blockLow := true }, .blockRstRelease, true, .tail _ (.head _), by decide +kernel⟩

theorem test_PinsAct_6 :
    ∃ (s : State),
      s.power.blockLow = false :=
  ⟨State.reset, by decide +kernel⟩

theorem test_PinsAct_10 :
    ∃ (s : State) (n : Nat),
      n < 16 ∧
      n ∉ s.power.partLow ∧
      held s = false ∧
      stopped s = false ∧
      partitionState s n < 2 :=
  ⟨State.reset, 15, by decide +kernel⟩

theorem test_PinsAct_11 :
    ∃ (s : State) (n : Nat),
      (held s = true ∨ stopped s = true ∨ 2 ≤ partitionState s n) ∧
      n < 16 ∧
      n ∉ s.power.partLow :=
  ⟨{ State.reset with power.blockLow := true }, 15, .inl (by decide +kernel), by decide +kernel⟩

theorem test_PinsAct_12 :
    ∃ (s : State) (n : Nat),
      n ∈ s.power.partLow :=
  ⟨{ State.reset with power.partLow := [15] }, 15, by decide +kernel⟩

theorem test_PowerSequencingActs_1 :
    ∃ (s : State) (d : Nat),
      2 ≤ d ∧
      d < 50 ∧
      s.power.switching = some (d, true) ∧
      s.power.porLow = false ∧
      wantedOn s d = true :=
  ⟨{ State.reset with power.switching := some (49, true) }, 49, by decide +kernel⟩

theorem test_PowerSequencingActs_2 :
    ∃ (s : State) (d : Nat),
      s.power.switching = some (d, false) ∧
      nextMove s = none ∧
      s.power.porLow = false :=
  ⟨{ State.reset with power.switching := some (49, false) }, 49, by decide +kernel⟩

theorem test_PowerSequencingActs_3 :
    ∃ (s : State) (d : Nat),
      2 ≤ d ∧
      d < 50 ∧
      s.power.switching = some (d, true) ∧
      domainOn s d = false :=
  ⟨{ puts State.reset [(0xE000_02, 0, 3)] with power.switching := some (2, true) }, 2, by decide +kernel⟩

theorem test_PowerSequencingActs_4 :
    ∃ (s : State) (rq : Requester) (v : Nat),
      serves s rq 0xE000_01 = true ∧
      s.mgmt.waiting = [] ∧
      v < 2 ^ 64 ∧
      passes (itemChecks (renewLease s rq) rq (writeItem s 0xE000_01 0 v)) = true ∧
      logFull s 0xE000_01 = false ∧
      targetAllowed s v = true :=
  ⟨s0, shelf, 2 ^ 49 - 1, by decide +kernel⟩

theorem test_PowerSequencingActs_5 :
    ∃ (s : State) (rq : Requester) (v : Nat),
      serves s rq 0xE000_01 = true ∧
      s.mgmt.waiting = [] ∧
      v < 2 ^ 64 ∧
      passes (itemChecks (renewLease s rq) rq (writeItem s 0xE000_01 0 v)) = true ∧
      logFull s 0xE000_01 = false ∧
      targetAllowed s v = false :=
  ⟨s0, shelf, 0, by decide +kernel⟩

theorem test_ThermalAndAttentionAct_1 :
    ∃ (s : State) (p v : Nat),
      p < portsOf s.part ∧
      s.power.porLow = false ∧
      v < 2 ^ 16 :=
  ⟨State.reset, 7, 2 ^ 16 - 1, by decide +kernel⟩

theorem test_ThermalAndAttentionAct_2 :
    ∃ (s : State) (rq : Requester) (mask : Nat),
      Granted s rq 0xE102_03 [mask] ∧
      mask < 2 ^ 8 :=
  ⟨s0, shelf, 255, granted (by decide +kernel), by decide +kernel⟩

theorem test_ThermalAndAttentionAct_3 :
    ∃ (s : State) (rq : Requester) (mask : Nat),
      Granted s rq 0xA203_02 [mask] ∧
      mask < 2 ^ 16 :=
  ⟨s0, shelf, 2 ^ 16 - 1, granted (by decide +kernel), by decide +kernel⟩

theorem test_ThermalAndAttentionAct_4 :
    ∃ (s : State) (rq : Requester) (_mask : Nat),
      Granted s rq 0xE000_06 [] :=
  ⟨s0, shelf, 0, granted (by decide +kernel)⟩

theorem test_ThermalAndAttentionAct_5 :
    ∃ (s : State) (rq : Requester) (_mask : Nat),
      Granted s rq 0xE102_04 [] :=
  ⟨s0, shelf, 0, granted (by decide +kernel)⟩

theorem test_FirmwareLoadsAndStarts_1 :
    ∃ (s : State) (rq : Requester) (bs : List Byte) (crc version length : Nat),
      Granted s rq 0x8010_02 [] ∧
      firmwareBusy s = false ∧
      imageOf s bs = some (crc, version, length) ∧
      length ≤ bs.length ∧
      crc32c ((bs.take length).drop 64) = crc :=
  ⟨State.reset, hostRq, imageBytes, crc32c (List.replicate 64 0), 7, 128, granted (by decide +kernel),
    by decide +kernel⟩

theorem test_FirmwareLoadsAndStarts_2 :
    ∃ (s : State) (rq : Requester) (bs : List Byte),
      Granted s rq 0x8010_02 [] ∧
      firmwareBusy s = false ∧
      imageOf s bs = none :=
  ⟨State.reset, hostRq, [], granted (by decide +kernel), by decide +kernel⟩

theorem test_FirmwareLoadsAndStarts_3 :
    ∃ (s : State) (crc version length : Nat),
      s.power.image = some (crc, version, length) ∧
      held s = false ∧
      get s 0x8010_03 = 1 :=
  ⟨{ puts State.reset [(0x8010_03, 0, 1)] with power.image := some (1, 2, 64) }, 1, 2, 64, by decide +kernel⟩

theorem test_MemoryRequestsGoOn_1 :
    ∃ (s : State) (m : Nat) (r : MspReq) (x : Access),
      unitsRun s (pairDomain m) = true ∧
      nextReq s m = some r ∧
      access? s r.access = some x ∧
      (pickTag s m (Config.freeTag s.freeCount)).isSome = true :=
  ⟨sAcc, 0, rAcc, xAcc, by decide +kernel⟩

theorem test_MemoryRequestsGoOn_2 :
    ∃ (s : State) (m : Nat) (e : Nat × MspReq),
      unitsRun s (pairDomain m) = true ∧
      grantable s m = some e :=
  ⟨{ s0 with host.lockWaits := [(0, rAcc)] }, 0, (0, rAcc), by decide +kernel⟩

theorem test_CompletionsAreTakenOrIgnored_1 :
    ∃ (s : State) (m tag status : Nat) (data : List Byte) (r : MspReq) (x : Access),
      unitsRun s (pairDomain m) = true ∧
      m * 1024 + tag ∉ s.host.dropped ∧
      lookupT s.host.outstanding (m * 1024 + tag) = some r ∧
      status < 3 ∧
      access? s r.access = some x ∧
      (r.op = 0 ∨ r.op = 2 → data.length = r.length) :=
  ⟨{ sAcc with host.outstanding := [(5, rAcc)] }, 0, 5, 2, List.replicate 16 0, rAcc, xAcc, by decide +kernel⟩

theorem test_CompletionsAreTakenOrIgnored_2 :
    ∃ (s : State) (m tag _status : Nat) (_data : List Byte),
      unitsRun s (pairDomain m) = true ∧
      m * 1024 + tag ∈ s.host.dropped :=
  ⟨{ s0 with host.dropped := [11 * 1024 + 1023] }, 11, 1023, 0, [], by decide +kernel⟩

theorem test_CompletionsAreTakenOrIgnored_3 :
    ∃ (s : State) (m tag _status : Nat) (_data : List Byte),
      unitsRun s (pairDomain m) = true ∧
      lookupT s.host.outstanding (m * 1024 + tag) = none :=
  ⟨{ s0 with host.dropped := [11 * 1024 + 1023] }, 11, 1023, 0, [], by decide +kernel⟩

theorem test_CompletionsAreTakenOrIgnored_4 :
    ∃ (s : State) (m tag status : Nat) (_data : List Byte),
      unitsRun s (pairDomain m) = true ∧
      m * 1024 + tag ∉ s.host.dropped ∧
      (lookupT s.host.outstanding (m * 1024 + tag)).isSome ∧
      3 ≤ status :=
  ⟨{ s0 with host.outstanding := [(11 * 1024, rAcc)] }, 11, 0, 3, [], by decide +kernel⟩

theorem test_CompletionsAreTakenOrIgnored_5 :
    ∃ (s : State) (m : Nat),
      unitsRun s (pairDomain m) = true ∧
      bit s.host.quiesce m = true :=
  ⟨{ s0 with host.quiesce := 2 ^ 11 }, 11, by decide +kernel⟩

theorem test_EngineRequestsTakeTheirTurn_1 :
    ∃ (s : State) (r : EspReq) (op : Nat) (c : Instr),
      (op, c) ∈ [(0, Instr.load r), (1, .store r), (2, .storeAck r), (3, .espAtomic r), (4, .espAtomicFetch r), (5, .espLedgerAdd r), (6, .espLedgerRead r), (7, .espLedgerReadClear r), (8, .fenceCore r), (9, .fenceChip r), (10, .fenceSystem r)] ∧
      unitsRun s 3 = true ∧
      espBlocked s r.port = false ∧
      r.catalogue = false ∧
      espReserved op r = false ∧
      gateShut s (issuerPartition s r.issuer) r.context = false ∧
      silent s = false ∧
      partitionDown s (issuerPartition s r.issuer) = false ∧
      espBeyond op r = false :=
  ⟨s0, esp, 2, .storeAck esp, .tail _ (.tail _ (.head _)), by decide +kernel⟩

theorem test_EngineRequestsTakeTheirTurn_2 :
    ∃ (s : State) (r : EspReq) (op : Nat) (c : Instr) (st : Nat),
      (op, c) ∈ [(0, Instr.load r), (1, .store r), (2, .storeAck r), (3, .espAtomic r), (4, .espAtomicFetch r), (5, .espLedgerAdd r), (6, .espLedgerRead r), (7, .espLedgerReadClear r)] ∧
      unitsRun s 3 = true ∧
      espBlocked s r.port = false ∧
      r.catalogue = false ∧
      espReserved op r = false ∧
      ((gateShut s (issuerPartition s r.issuer) r.context = true ∧ st = stBusy) ∨ (gateShut s (issuerPartition s r.issuer) r.context = false ∧ silent s = true ∧ st = stRetired) ∨ (gateShut s (issuerPartition s r.issuer) r.context = false ∧ silent s = false ∧ partitionDown s (issuerPartition s r.issuer) = true ∧ st = stStale) ∨ (gateShut s (issuerPartition s r.issuer) r.context = false ∧ silent s = false ∧ partitionDown s (issuerPartition s r.issuer) = false ∧ espBeyond op r = true ∧ st = stMiss)) :=
  ⟨puts s0 [(0x1100_00, 0, 3)], esp, 0, .load esp, stRetired, .head _, by decide +kernel⟩

theorem test_EngineRequestsTakeTheirTurn_3 :
    ∃ (s : State) (r : EspReq) (op : Nat) (c : Instr),
      (op, c) ∈ [(0, Instr.load r), (1, .store r), (2, .storeAck r), (3, .espAtomic r), (4, .espAtomicFetch r), (5, .espLedgerAdd r), (6, .espLedgerRead r), (7, .espLedgerReadClear r), (8, .fenceCore r), (9, .fenceChip r), (10, .fenceSystem r)] ∧
      (unitsRun s 3 = false ∨ espBlocked s r.port = true ∨ loadWaits s op r = true) ∧
      held s = false :=
  ⟨sStop, esp, 2, .storeAck esp, .tail _ (.tail _ (.head _)), .inl (by decide +kernel), by decide +kernel⟩

theorem test_LoadReadsTheHostWindow_1 :
    ∃ (s : State) (r : EspReq),
      unitsRun s 3 = true ∧
      espBlocked s r.port = false ∧
      s.mgmt.waiting = [] ∧
      r.catalogue = true ∧
      r.lengthM1 < 16 ∧
      r.address % 2 ^ 28 % 16 = 0 ∧
      s.recovery.restarting = false ∧
      serves s hostRq (slotCn (r.address % 2 ^ 28)) = true :=
  ⟨s0, { esp with catalogue := true, address := 0x1000_010 }, by decide +kernel⟩

theorem test_FencesEndWithTheirStatus_1 :
    ∃ (s : State) (i : Nat) (f : FenceWait),
      unitsRun s 2 = true ∧
      i < 1024 ∧
      f.issuer = i ∧
      (s.switch.fences.find? (fun f => f.issuer == i) = some f) ∧
      silent s = false ∧
      fenceMet s f = true :=
  ⟨fenced 0, 1023, { issuer := 1023, scope := 0, port := 0, etag := 9 }, by decide +kernel⟩

theorem test_FencesEndWithTheirStatus_2 :
    ∃ (s : State) (i : Nat) (f : FenceWait),
      unitsRun s 2 = true ∧
      i < 1024 ∧
      f.issuer = i ∧
      (s.switch.fences.find? (fun f => f.issuer == i) = some f) ∧
      f.scope = 2 ∧
      fenceMet s f = false :=
  ⟨fencedOpen, 1023, { issuer := 1023, scope := 2, port := 0, etag := 9 }, by decide +kernel⟩

theorem test_PassedChecksLeaveTheRest_1 :
    ∃ (s t : State) (p : Nat) (k : Packet),
      arrive s p k rulesOf = .go t :=
  ⟨sRead, after sRead 15 kRead, 15, kRead, go_of (by decide +kernel)⟩

theorem test_HostWindowRequestIsPresented_1 :
    ∃ (s t v : State) (p : Nat) (k : Packet) (uses : List Nat) (row off m : Nat) (c : Instr),
      (k.opcode, c) ∈ [(opRead, .read p k), (opWrite, .write p k), (opWriteAck, .writeAck p k)] ∧
      Checked s p k t ∧
      admission t [spanOf k] (askOf k) = (v, .pass uses) ∧
      noLocksAt v m ∧
      row = windowRow v (nth 0 0 uses / 2 ^ 32) ∧
      off = winTarget row + (offsetM k - winBase row) ∧
      winKind row = 0 ∧
      off % 4096 + extentLength k ≤ 4096 ∧
      mspPort v (winPartition row) (winSegment row) off = some m ∧
      quiesced v m = false :=
  ⟨sRead, after sRead 15 kRead, adm sRead kRead, 15, kRead, [0], openWin 0 + 1, 0, 0, .read 15 kRead, .head _,
    checked (by decide +kernel), pair_of (by decide +kernel), no_locks (by decide +kernel), by decide +kernel⟩

theorem test_AtomicLocksItsLine_1 :
    ∃ (s t v : State) (p : Nat) (k : Packet) (uses : List Nat) (row off m : Nat) (c : Instr),
      (k.opcode, c) ∈ [(opAtomic, .atomic p k), (opAtomicFetch, .atomicFetch p k)] ∧
      Checked s p k t ∧
      admission t [spanOf k] (askOf k) = (v, .pass uses) ∧
      noLocksAt v m ∧
      row = windowRow v (nth 0 0 uses / 2 ^ 32) ∧
      off = winTarget row + (offsetM k - winBase row) ∧
      winKind row = 0 ∧
      mspPort v (winPartition row) (winSegment row) (off / 64 * 64) = some m ∧
      quiesced v m = false :=
  ⟨sAtomic, after sAtomic 15 kAtomic, adm sAtomic kAtomic, 15, kAtomic, [0], openWin 0 + 1, 0, 0,
    .atomic 15 kAtomic, .head _, checked (by decide +kernel), pair_of (by decide +kernel),
    no_locks (by decide +kernel), by decide +kernel⟩

theorem test_CarrelRequestTakesItsTurn_1 :
    ∃ (s t v : State) (p : Nat) (k : Packet) (uses : List Nat) (row : Nat) (c : Instr),
      (k.opcode, c) ∈ [(opRead, .read p k), (opWrite, .write p k), (opWriteAck, .writeAck p k), (opLedgerAdd, .ledgerAdd p k), (opLedgerRead, .ledgerRead p k), (opLedgerReadClear, .ledgerReadClear p k)] ∧
      Checked s p k t ∧
      admission t [spanOf k] (askOf k) = (v, .pass uses) ∧
      row = windowRow v (nth 0 0 uses / 2 ^ 32) ∧
      winKind row ≠ 0 ∧
      domainOn v 18 = true :=
  ⟨sScratch, after sScratch 15 kRead, adm sScratch kRead, 15, kRead, [0], openWin 1 + 1, .read 15 kRead, .head _,
    checked (by decide +kernel), pair_of (by decide +kernel), by decide +kernel⟩

theorem test_CarrelRequestTakesItsTurn_2 :
    ∃ (s t : State) (p : Nat) (k : Packet),
      Checked s p k t ∧
      k.opcode = opNoticePost :=
  ⟨sPost, after sPost 15 kPost, 15, kPost, checked (by decide +kernel), by decide +kernel⟩

theorem test_RefusedRequestIsAnsweredOrDropped_1 :
    ∃ (s t v : State) (p : Nat) (k : Packet) (st off : Nat) (c : Instr),
      (k.opcode, c) ∈ [(opRead, .read p k), (opWrite, .write p k), (opWriteAck, .writeAck p k), (opAtomic, .atomic p k), (opAtomicFetch, .atomicFetch p k), (opLedgerAdd, .ledgerAdd p k), (opLedgerRead, .ledgerRead p k), (opLedgerReadClear, .ledgerReadClear p k)] ∧
      Checked s p k t ∧
      admission t [spanOf k] (askOf k) = (v, .refuse st off) ∧
      st < 256 ∧
      off < 2 ^ 43 :=
  ⟨sMiss, after sMiss 15 kRead, adm sMiss kRead, 15, kRead, stMiss, 0, .read 15 kRead, .head _,
    checked (by decide +kernel), pair_of (by decide +kernel), by decide +kernel⟩

theorem test_ProbesHoldAndRelease_1 :
    ∃ (s t v : State) (p : Nat) (k : Packet) (uses : List Nat) (spans : List (Nat × Nat)) (h : Nat),
      Checked s p k t ∧
      admission t spans { request := false, source := k.src, mask := if subM k = 0 then rightRead else rightWrite } = (v, .pass uses) ∧
      pickHold v (Config.freeChoice v.freeCount) = some h ∧
      k.opcode = opProbe ∧
      admissionTurn t = none ∧
      t.slips.probes = [] ∧
      spans = (remoteExtent (nth 0 0 k.data + nth 0 1 k.data * 2 ^ 128)).spans :=
  ⟨sProbe, after sProbe 15 kProbe, vProbe, 15, kProbe, [0],
    (remoteExtent (nth 0 0 kProbe.data + nth 0 1 kProbe.data * 2 ^ 128)).spans,
    Config.freeChoice vProbe.freeCount % 4096, checked (by decide +kernel), pair_of (by decide +kernel),
    hold_free (by decide +kernel), by decide +kernel⟩

theorem test_ProbesHoldAndRelease_2 :
    ∃ (s t : State) (p : Nat) (k : Packet),
      Checked s p k t ∧
      k.opcode = opProbe ∧
      admissionTurn t ≠ none :=
  ⟨{ sProbe with slips.ctxs := [slip .notSent none] },
    after { sProbe with slips.ctxs := [slip .notSent none] } 15 kProbe, 15, kProbe, checked (by decide +kernel),
    by decide +kernel⟩

theorem test_ProbesHoldAndRelease_3 :
    ∃ (s t : State) (p : Nat) (k : Packet) (x : Hold),
      Checked s p k t ∧
      k.opcode = opHoldRelease ∧
      lookupT t.switch.holds (handleM k) = some x ∧
      x.src = k.src ∧
      (∀ key ∈ x.windows, key / 2 ^ 32 < 1024) :=
  ⟨sHold, after sHold 15 kRelease, 15, kRelease,
    { src := 5, windows := [0], right := rightRead, spans := [(0, 16)] }, checked (by decide +kernel),
    by decide +kernel⟩

theorem test_ProbesHoldAndRelease_4 :
    ∃ (s t : State) (p : Nat) (k : Packet),
      Checked s p k t ∧
      (∀ x, lookupT t.switch.holds (handleM k) = some x → x.src ≠ k.src) ∧
      k.opcode = opHoldRelease ∧
      p < 8 :=
  ⟨sPort, after sPort 0 kRelease0, 0, kRelease0, checked (by decide +kernel), no_hold (by decide +kernel),
    by decide +kernel⟩

theorem test_PollsAndAcknowledgementsArrive_1 :
    ∃ (s t : State) (p : Nat) (k : Packet),
      Checked s p k t ∧
      k.opcode = opCommitPoll ∧
      ackOf t k.src k.issuer = none :=
  ⟨sPoll, after sPoll 15 kPoll, 15, kPoll, checked (by decide +kernel), by decide +kernel⟩

theorem test_PollsAndAcknowledgementsArrive_2 :
    ∃ (s t : State) (p : Nat) (k : Packet) (e : PendingAck),
      Checked s p k t ∧
      k.opcode = opCommitPoll ∧
      ackOf t k.src k.issuer = some e ∧
      (e.notDone ≠ [] ∨ e.older ≠ []) :=
  ⟨sPoll2, after sPoll2 15 kPoll, 15, kPoll, pendAck [2], checked (by decide +kernel), by decide +kernel⟩

theorem test_PollsAndAcknowledgementsArrive_3 :
    ∃ (s t : State) (p : Nat) (k : Packet) (e : Pair),
      Checked s p k t ∧
      k.opcode = opCommitAck ∧
      k.issuer < 1024 ∧
      pairOf t k.src k.issuer = some e ∧
      newer 16 (committedA k) e.lastAcked = true ∧
      newer 16 (committedA k) e.lastSent = false ∧
      subMod 16 (e.lastAcked + 1) (runFirstA k) < 32768 :=
  ⟨sAck, after sAck 15 kAck, 15, kAck, aPair, checked (by decide +kernel), by decide +kernel⟩

theorem test_ContributionsEnter_1 :
    ∃ (s t : State) (p : Nat) (k : Packet) (e : Nat),
      Checked s p k t ∧
      k.opcode = opContrib ∧
      contribRefused k = false ∧
      collAdmit t k = .gate e :=
  ⟨sGate, after sGate 15 kGate, 15, kGate, 255, checked (by decide +kernel), by decide +kernel⟩

theorem test_ContributionsEnter_2 :
    ∃ (s t : State) (p : Nat) (k : Packet) (e n i : Nat) (y : Tile) (c : Instr),
      (k.opcode, c) ∈ [(opContrib, .contrib p k), (opContribLong, .contribLong p k)] ∧
      Checked s p k t ∧
      contribRefused k = false ∧
      collAdmit t k = .stage e n ∧
      packetTiles k = [i] ∧
      tileOf t e n i = some y ∧
      y.phase = 0 ∧
      (∀ j, j < contribCount k → ((lookupT y.elems (elementC k + j)).getD Elem.fresh).count + 1 < stExpected (stRow t e n)) :=
  ⟨sAdd, after sAdd 15 kAdd, 15, kAdd, 255, 0, 0, aTile, .contrib 15 kAdd, .head _, checked (by decide +kernel),
    by decide +kernel⟩

theorem test_TrafficPassesThrough_1 :
    ∃ (s t v : State) (p q : Nat) (k k' : Packet),
      sourceChecks (odc (dropRx s p k) 0x01 (some p) (some k) 1) p k = .go t ∧
      policePassing t p k = (k', v) ∧
      switchOn s = true ∧
      p < portsOf s.part ∧
      packetWaits s p k = false ∧
      passesBy s k = true ∧
      cutOff k = false ∧
      forwards t = true ∧
      egressOf v k.src k.dst = some q ∧
      portTakes v q = true ∧
      queueFull v q (queueFor { k' with vc := (datelineVc v q k'.vc).1 } p) = false ∧
      v.ports.length = 8 :=
  ⟨sRoute, passing sRoute kPass, vPolice.2, 0, 1, kPass, vPolice.1, go_of (by decide +kernel), vPolice_eq,
    by decide +kernel⟩

theorem test_TrafficPassesThrough_2 :
    ∃ (s t : State) (p : Nat) (k : Packet) (n q : Nat),
      sourceChecks (odc (dropRx s p k) 0x01 (some p) (some k) 1) p k = .go t ∧
      k.opcode = opLoanData ∧
      switchOn s = true ∧
      p < portsOf s.part ∧
      packetWaits s p k = false ∧
      cutOff k = false ∧
      n = handleM k ∧
      q = loanEgress t n ∧
      loanMatches s p k 1 = true ∧
      forwards t = true ∧
      (k.postHold && loanDiscards t n) = false ∧
      portTakes t q = true ∧
      queueFull t q (queueFor k p) = false ∧
      q < 8 ∧
      t.ports.length = 8 :=
  ⟨sLoan, passing sLoan kLoan, 0, kLoan, 9, 1, go_of (by decide +kernel), by decide +kernel⟩

theorem test_MalformedPacketIsCounted_1 :
    ∃ (s : State) (p : Nat) (k : Packet),
      (5 < k.vc ∨ opcodes.contains k.opcode = false) ∧
      k.abort = false ∧
      k.opcode ≠ opLoanData ∧
      switchOn s = true ∧
      p < portsOf s.part ∧
      packetWaits s p k = false ∧
      (passesBy s k = true → cutOff k = false) :=
  ⟨s5, 7, kBad, by decide +kernel⟩

theorem test_ResponseCompletesItsTracker_1 :
    ∃ (s t : State) (p : Nat) (k : Packet) (w : Tracker) (a i : Nat) (e : EspAccess) (c : Instr),
      (k.opcode, c) ∈ [(opReadRsp, .readRsp p k), (opStatusRsp, .statusRsp p k), (opAtomicRsp, .atomicRsp p k), (opLedgerRsp, .ledgerRsp p k)] ∧
      Checked s p k t ∧
      tagMatches t p k = some w ∧
      w.owner = .engine a i ∧
      w.stuck = false ∧
      w.opcode ≠ opMgmtReq ∧
      w.issuer < 1024 ∧
      answerFits w k = true ∧
      espAccess? t a = some e :=
  ⟨sStatus, after sStatus 15 kStatus, 15, kStatus, trackerOf (.engine 2 0) opRead, 2, 0, espOpen,
    .statusRsp 15 kStatus, .tail _ (.head _), checked (by decide +kernel), by decide +kernel⟩

theorem test_RequestTimersAct_1 :
    ∃ (s : State) (i a j : Nat) (w : Tracker) (e : EspAccess),
      unitsRun s 2 = true ∧
      lookupT s.switch.trackers i = some w ∧
      w.owner = .engine a j ∧
      w.stuck = false ∧
      w.opcode ≠ opMgmtReq ∧
      w.issuer < 1024 ∧
      espAccess? s a = some e ∧
      e.pieces = 1 :=
  ⟨sTracked, 32767, 2, 0, trackerOf (.engine 2 0) opRead, espOpen, by decide +kernel⟩

theorem test_RequestTimersAct_2 :
    ∃ (s : State) (_i : Nat),
      unitsRun s 2 = true :=
  ⟨s0, 32767, by decide +kernel⟩

theorem test_RequestTimersAct_3 :
    ∃ (s : State) (src i c : Nat) (e : PendingAck),
      unitsRun s 2 = true ∧
      ackOf s src i = some e ∧
      e.owed ≠ 0 ∧
      ackReach e = some c :=
  ⟨{ s5 with switch.acks := [pendAck []] }, 5, 0, 2, pendAck [], by decide +kernel⟩

theorem test_RequestTimersAct_4 :
    ∃ (s : State) (dst i : Nat) (e : Pair),
      unitsRun s 2 = true ∧
      pairOf s dst i = some e ∧
      silent s = false ∧
      e.quarantined = false ∧
      e.path = 0 ∧
      unacked e ≠ 0 :=
  ⟨{ s5 with switch.pairs := [aPair] }, 5, 0, aPair, by decide +kernel⟩

theorem test_WaitsGoOnAndHoldsEnd_1 :
    ∃ (s : State) (p vc : Nat) (w : RxWait),
      switchOn s = true ∧
      firstWaiting s p vc = some w ∧
      channelHeld s p vc = false ∧
      mustHold s p w.k = false :=
  ⟨{ sPoll with switch.rxWaits := [{ port := 15, k := kPoll, stamp := 0 }] }, 15, kPoll.vc,
    { port := 15, k := kPoll, stamp := 0 }, by decide +kernel⟩

theorem test_WaitsGoOnAndHoldsEnd_2 :
    ∃ (s : State) (i at' : Nat) (e : Pair) (polls : Bool),
      (at', e, polls) ∈ pairTimeouts s i ∧
      unitsRun s 2 = true ∧
      i < 1024 ∧
      (∀ w ∈ pairTimeouts s i, w ≠ (at', e, polls) → at' < w.1) :=
  ⟨{ s5 with switch.pairs := [{ aPair with quarantined := true }] }, 0, 0, { aPair with quarantined := true },
    false, .head _, by decide +kernel⟩

theorem test_WaitsGoOnAndHoldsEnd_3 :
    ∃ (s : State) (t k : Nat) (c : SlipCtx),
      unitsRun s 2 = true ∧
      ctx? s t k = some c ∧
      c.probe = .busy ∧
      c.result = none :=
  ⟨slipped (slip .busy none), 63, 1, slip .busy none, by decide +kernel⟩

theorem test_WaitsGoOnAndHoldsEnd_4 :
    ∃ (s : State) (h : Nat) (x : Hold),
      unitsRun s 2 = true ∧
      lookupT s.switch.holds h = some x ∧
      (∀ key ∈ x.windows, key / 2 ^ 32 < 1024) :=
  ⟨{ s0 with switch.holds := [(4095, { src := 5, windows := [1023 * 2 ^ 32], right := 1, spans := [] })] }, 4095,
    { src := 5, windows := [1023 * 2 ^ 32], right := 1, spans := [] }, by decide +kernel⟩

theorem test_WindowCommandsComplete_1 :
    ∃ (s : State) (rq : Requester) (w : Nat),
      Granted s rq 0x5102_00 [w] ∧
      w < 1024 ∧
      winState (windowRow s w) = 0 ∧
      windowFits s (get s 0x5101_00) = true :=
  ⟨s0, shelf, 1023, granted (by decide +kernel), by decide +kernel⟩

theorem test_WindowCommandsComplete_2 :
    ∃ (s : State) (rq : Requester) (w new : Nat),
      Granted s rq 0x5103_00 [w] ∧
      w < 1024 ∧
      winState (windowRow s w) = 1 ∧
      new = setFld (setFld (setFld (setFld (getRow s windowCn w) 247 240 (winRights (get s 0x5101_00))) 127 106 (winLo (get s 0x5101_00))) 105 84 (winHi (get s 0x5101_00))) 159 130 (fld (get s 0x5101_00) 159 130) ∧
      windowFits s new = true :=
  ⟨puts s0 [(windowCn, 1023, openWin 0)], shelf, 1023, 2 ^ 254, granted (by decide +kernel), by decide +kernel⟩

theorem test_WindowCommandsComplete_3 :
    ∃ (s : State) (rq : Requester) (w : Nat),
      Granted s rq 0x5104_00 [w] ∧
      w < 1024 ∧
      winState (windowRow s w) ≠ 0 :=
  ⟨puts s0 [(windowCn, 1023, openWin 0)], shelf, 1023, granted (by decide +kernel), by decide +kernel⟩

theorem test_WindowCommandsComplete_4 :
    ∃ (s : State) (w : Nat),
      unitsRun s 2 = true ∧
      w < 1024 ∧
      winState (getRow s windowCn w) = 2 ∧
      winInFlight (getRow s windowCn w) = 0 :=
  ⟨puts s0 [(windowCn, 1023, 2 ^ 255)], 1023, by decide +kernel⟩

theorem test_WindowCommandsComplete_5 :
    ∃ (s : State) (w : Nat),
      held s = false ∧
      w < 1024 ∧
      ¬(winState (getRow s windowCn w) = 2 ∧ winInFlight (getRow s windowCn w) = 0) :=
  ⟨s0, 1023, by decide +kernel⟩

theorem test_EditionCommandsComplete_1 :
    ∃ (s : State) (rq : Requester) (n : Nat),
      Granted s rq 0x5201_00 [n] ∧
      n < 16 :=
  ⟨s0, shelf, 15, granted (by decide +kernel), by decide +kernel⟩

theorem test_EditionCommandsComplete_2 :
    ∃ (s : State) (rq : Requester) (ep ed r : Nat),
      Granted s rq 0x5301_00 [ep, ed] ∧
      ep < 2 ^ 22 ∧
      ed < 256 ∧
      ((exceptionOf s ep).map Prod.fst = some r ∨ exceptionOf s ep = none ∧ freeException s = some r) :=
  ⟨s0, shelf, 2 ^ 22 - 1, 255, 0, granted (by decide +kernel), by decide +kernel⟩

theorem test_EditionCommandsComplete_3 :
    ∃ (s : State) (rq : Requester) (ep : Nat) (e : Nat × Nat),
      Granted s rq 0x5302_00 [ep] ∧
      ep < 2 ^ 22 ∧
      exceptionOf s ep = some e :=
  ⟨puts s0 [(0x5300_00, 4095, exceptionBits 7 3)], shelf, 7, (4095, 3), granted (by decide +kernel),
    by decide +kernel⟩

theorem test_EditionCommandsComplete_4 :
    ∃ (s : State) (rq : Requester) (dst : Nat),
      Granted s rq 0x8073_00 [dst] ∧
      dst < 2 ^ 22 :=
  ⟨s0, shelf, 0x3FFFFF, granted (by decide +kernel), by decide +kernel⟩

theorem test_TrayCommandsComplete_1 :
    ∃ (s : State) (rq : Requester) (n : Nat),
      Granted s rq 0x8102_00 [n] ∧
      n < 64 ∧
      trState (trayRow s n) = 0 :=
  ⟨s0, shelf, 63, granted (by decide +kernel), by decide +kernel⟩

theorem test_TrayCommandsComplete_2 :
    ∃ (s : State) (rq : Requester) (n : Nat),
      Granted s rq 0x8103_00 [n] ∧
      n < 64 ∧
      trState (trayRow s n) ≠ 0 ∧
      (∀ c ∈ trayCtxs s n, c.reqs ≠ []) :=
  ⟨trayOn 1, shelf, 63, granted (by decide +kernel), by decide +kernel⟩

theorem test_TrayCommandsComplete_3 :
    ∃ (s : State) (n : Nat),
      unitsRun s 2 = true ∧
      n < 64 ∧
      trState (trayRow s n) = 2 ∧
      trayCtxs s n = [] :=
  ⟨trayOn 2, 63, by decide +kernel⟩

theorem test_TrayCommandsComplete_4 :
    ∃ (s : State) (_n : Nat),
      held s = false :=
  ⟨s0, 63, by decide +kernel⟩

theorem test_SlipsAreFetchedAndAdmitted_1 :
    ∃ (s : State) (n m : Nat),
      noLocksAt s m ∧
      unitsRun s 2 = true ∧
      n < 64 ∧
      trayServed s n = true ∧
      trState (trayRow s n) = 1 ∧
      (trayRun s n).reading = false ∧
      (trayRun s n).returned = none ∧
      (trayCtxs s n).length < trAhead (trayRow s n) ∧
      silent s = false ∧
      mspPort s (trayPartition s n) (trSegment (trayRow s n)) (trBase (trayRow s n) + trNext (trayRow s n) * 64) = some m ∧
      quiesced s m = false :=
  ⟨trayOn 1, 63, 0, no_locks (by decide +kernel), by decide +kernel⟩

theorem test_SlipsAreFetchedAndAdmitted_2 :
    ∃ (s : State) (n : Nat) (bs : List Byte),
      unitsRun s 2 = true ∧
      n < 64 ∧
      (trayRun s n).returned = some (0, bs) ∧
      trState (trayRow s n) = 1 ∧
      silent s = false ∧
      slTurn (numLE (bs.take 64)) = trTurn (trayRow s n) ∧
      partitionDown s (trayPartition s n) = true ∧
      ctx? s n (trayRun s n).serial = none :=
  ⟨{ puts (trayOn 1) [(0xA102_01, 0, 2)] with slips.trays := [(63, { reading := false, returned := some (0, bytesLE 64 (2 ^ 504)), serial := 1 })] },
    63, bytesLE 64 (2 ^ 504), by decide +kernel⟩

theorem test_SlipsAreFetchedAndAdmitted_3 :
    ∃ (s : State) (n : Nat) (bs : List Byte),
      unitsRun s 2 = true ∧
      n < 64 ∧
      (trayRun s n).returned = some (0, bs) ∧
      trState (trayRow s n) = 1 ∧
      silent s = false ∧
      slTurn (numLE (bs.take 64)) = trTurn (trayRow s n) ∧
      partitionDown s (trayPartition s n) = false :=
  ⟨{ trayOn 1 with slips.trays := [(63, { reading := false, returned := some (0, bytesLE 64 (2 ^ 504)), serial := 1 })] },
    63, bytesLE 64 (2 ^ 504), by decide +kernel⟩

theorem test_SlipsAreFetchedAndAdmitted_4 :
    ∃ (s v : State) (n k : Nat) (c : SlipCtx) (r : Admitted),
      admission { s with slips.lastTray := n } (slLocal c.bits).spans { request := false, source := ownId s, mask := if slPull c.bits then rightWrite else rightRead } = (v, r) ∧
      unitsRun s 2 = true ∧
      (trayCtxs s n).find? waitsAdmission = some c ∧
      ctx? s n k = some c ∧
      c.k = k ∧
      admissionTurn s = some n ∧
      slTag c.bits = 0 :=
  ⟨slipped (slip .notSent none), vSlip, 63, 1, slip .notSent none, .refuse stMiss 0, pair_of (by decide +kernel),
    by decide +kernel⟩

theorem test_SlipsIssueAndComplete_1 :
    ∃ (s t : State) (p n j : Nat) (k : Packet) (w : Tracker) (c : SlipCtx),
      Checked s p k t ∧
      k.opcode = opProbeRsp ∧
      tagMatches t p k = some w ∧
      w.opcode = opProbe ∧
      w.owner = .probe n j ∧
      w.stuck = false ∧
      ctx? t n j = some c ∧
      c.result = none ∧
      c.probe = .pending ∧
      slTag c.bits = 0 :=
  ⟨sProbed, after sProbed 15 kProbeRsp, 15, 63, 1, kProbeRsp, trackerOf (.probe 63 1) opProbe, slip .pending none,
    checked (by decide +kernel), by decide +kernel⟩

theorem test_SlipsIssueAndComplete_2 :
    ∃ (s : State) (n k : Nat) (c : SlipCtx) (i : Piece),
      unitsRun s 2 = true ∧
      ctx? s n k = some c ∧
      mayIssue s c = true ∧
      slipPiece c.bits c.nextPos = some i :=
  ⟨slipped { slip (.granted 0) none with localDone := true }, 63, 1,
    { slip (.granted 0) none with localDone := true }, { remote := 0, pos := 0, length := 16, next := 16 },
    by decide +kernel⟩

theorem test_SlipsIssueAndComplete_3 :
    ∃ (s : State) (n k : Nat) (c : SlipCtx) (r : SlipResult),
      unitsRun s 2 = true ∧
      ctx? s n k = some c ∧
      c.tray = n ∧
      c.k = k ∧
      c.result = none ∧
      slipOutcome c = some r :=
  ⟨slipped { slip (.granted 0) none with localDone := true, allIssued := true }, 63, 1,
    { slip (.granted 0) none with localDone := true, allIssued := true },
    { status := stOk, offset := 0, bytes := 0, side := 0 }, by decide +kernel⟩

theorem test_SlipsIssueAndComplete_4 :
    ∃ (s : State) (n k seq : Nat) (c : SlipCtx) (r : SlipResult),
      unitsRun s 2 = true ∧
      ctx? s n k = some c ∧
      c.tray = n ∧
      c.k = k ∧
      c.post = some seq ∧
      c.result = some r :=
  ⟨slipped { slip .notSent (some okResult) with post := some 3 }, 63, 1, 3,
    { slip .notSent (some okResult) with post := some 3 }, okResult, by decide +kernel⟩

theorem test_RingsWriteAndAnswer_1 :
    ∃ (s : State) (rq : Requester) (n : Nat),
      Granted s rq 0x8202_00 [n] ∧
      n < 256 ∧
      fld (ringRow s n) 255 254 = 0 :=
  ⟨s0, shelf, 255, granted (by decide +kernel), by decide +kernel⟩

theorem test_RingsWriteAndAnswer_2 :
    ∃ (s : State) (rq : Requester) (n : Nat),
      Granted s rq 0x8203_00 [n] ∧
      n < 256 :=
  ⟨s0, shelf, 255, granted (by decide +kernel), by decide +kernel⟩

theorem test_RingsWriteAndAnswer_3 :
    ∃ (s : State) (rq : Requester) (n : Nat),
      Granted s rq 0x8205_00 [n] ∧
      n < 256 :=
  ⟨s0, shelf, 255, granted (by decide +kernel), by decide +kernel⟩

theorem test_RingsWriteAndAnswer_4 :
    ∃ (s : State) (n m w bits : Nat) (x : NoticePending),
      noLocksAt s m ∧
      unitsRun s 2 = true ∧
      n < 256 ∧
      rgOn (ringRow s n) = true ∧
      ringFull s n = false ∧
      nextNotice s n = some x ∧
      w = (ringRun s n).written ∧
      bits = setFld (setBit (setFld x.bits 255 248 (ringTurn (rgSize (ringRow s n)) w)) 236 (ringRun s n).overflowed) 63 0 (now s) ∧
      mspPort s (rgPartition (ringRow s n)) (rgSegment (ringRow s n)) (rgBase (ringRow s n) + ringSlot (rgSize (ringRow s n)) w * 32) = some m ∧
      quiesced s m = false :=
  ⟨ringAt 15 0 [aNotice], 255, 0, 15, 2 ^ 248, aNotice, no_locks (by decide +kernel), by decide +kernel⟩

theorem test_RingsWriteAndAnswer_5 :
    ∃ (s : State) (n m : Nat),
      noLocksAt s m ∧
      unitsRun s 2 = true ∧
      rgOn (ringRow s n) = true ∧
      ringFull s n = true ∧
      (∀ e ∈ s.host.accesses, e.2.kind = .consumedRead n → e.2.ignored = true) ∧
      mspPort s (rgPartition (ringRow s n)) (rgSegment (ringRow s n)) (rgConsumed (ringRow s n)) = some m ∧
      quiesced s m = false :=
  ⟨ringAt 16 0 [aNotice], 255, 0, no_locks (by decide +kernel), by decide +kernel⟩

theorem test_CarrelIsCleared_1 :
    ∃ (s : State) (rq : Requester) (first n : Nat),
      Granted s rq 0x8311_00 [first, n] ∧
      (∀ c, first ≤ c → c < first + n → carrelRow (cellAddr s c) ∉ s.carrel.dead) ∧
      n ≠ 0 ∧
      first + n ≤ get s 0x8310_02 ∧
      first < 2 ^ 32 ∧
      n < 2 ^ 32 ∧
      (∀ c, first ≤ c → c < first + n → cellBusy s c = false) ∧
      cellsAwaited s first n = false :=
  ⟨s0, shelf, 196607, 1, granted (by decide +kernel), (fun _ _ _ h => nomatch h), by decide +kernel⟩

theorem test_CarrelIsCleared_2 :
    ∃ (s : State) (rq : Requester) (first n : Nat),
      Granted s rq 0x8311_00 [first, n] ∧
      ((∃ c, first ≤ c ∧ c < first + n ∧ cellBusy s c = true) ∨ cellsAwaited s first n = true) ∧
      n ≠ 0 ∧
      first + n ≤ get s 0x8310_02 ∧
      first < 2 ^ 32 ∧
      n < 2 ^ 32 :=
  ⟨{ s0 with carrel.replacing := [cellAddr s0 196607 / 256] }, shelf, 196607, 1, granted (by decide +kernel),
    .inl ⟨196607, by decide +kernel, by decide +kernel, by decide +kernel⟩, by decide +kernel⟩

theorem test_CarrelIsCleared_3 :
    ∃ (s : State) (rq : Requester) (n : Nat),
      Granted s rq 0x8302_00 [n] ∧
      n < 256 ∧
      tenantBusy s = false :=
  ⟨s0, shelf, 255, granted (by decide +kernel), by decide +kernel⟩

theorem test_CarrelIsCleared_4 :
    ∃ (s : State) (n : Nat),
      s.power.clearing = some n ∧
      unitsRun s 2 = true :=
  ⟨{ s0 with power.clearing := some 255 }, 255, by decide +kernel⟩

theorem test_ManagementPacketsAct_1 :
    ∃ (s t : State) (p : Nat) (k : Packet),
      Checked s p k t ∧
      k.opcode = opMgmtReq ∧
      servesFabric t = true ∧
      requestItems t 4096 (messageOf (dataBytes k)) (dataBytes k).length = none :=
  ⟨looped s5 kReq0, after (looped s5 kReq0) 15 kReq0, 15, kReq0, checked (by decide +kernel), by decide +kernel⟩

theorem test_ManagementPacketsAct_2 :
    ∃ (s t : State) (p : Nat) (k : Packet) (items : List Item) (c : Client) (r : ClientRecord),
      Checked s p k t ∧
      k.opcode = opMgmtReq ∧
      servesFabric t = true ∧
      requestItems t 4096 (messageOf (dataBytes k)) (dataBytes k).length = some items ∧
      strayCommission t (requesterOf t p k) items = false ∧
      clientOf t (requesterOf t p k) = some c ∧
      (c.records.find? (fun r => r.number == (messageOf (dataBytes k)).number) = some r) ∧
      r.running = true :=
  ⟨sClient, after sClient 15 kReq, 15, kReq,
    [{ index := 0x1000, sub := 0, op := 0, row := 0, countM1 := 0, data := [] }], theClient,
    { number := 1, running := true, items := [], skipped := [] }, checked (by decide +kernel), by decide +kernel⟩

theorem test_ManagementPacketsAct_3 :
    ∃ (s t v : State) (p : Nat) (k : Packet) (items : List Item),
      Checked s p k t ∧
      ((∃ c, v = t ∧ clientOf t (requesterOf t p k) = some c ∧ ∀ r ∈ c.records, r.number ≠ (messageOf (dataBytes k)).number) ∨ (clientOf t (requesterOf t p k) = none ∧ t.mgmt.clients.length < clientPlaces ∧ v = { t with mgmt.clients := t.mgmt.clients ++ [{ rq := requesterOf t p k, records := [] }] })) ∧
      k.opcode = opMgmtReq ∧
      servesFabric t = true ∧
      requestItems t 4096 (messageOf (dataBytes k)) (dataBytes k).length = some items ∧
      strayCommission t (requesterOf t p k) items = false :=
  ⟨looped s5 kReq, after (looped s5 kReq) 15 kReq,
    { after (looped s5 kReq) 15 kReq with mgmt.clients := [{ rq := requesterOf (after (looped s5 kReq) 15 kReq) 15 kReq, records := [] }] },
    15, kReq, [{ index := 0x1000, sub := 0, op := 0, row := 0, countM1 := 0, data := [] }],
    checked (by decide +kernel), .inr ⟨by decide +kernel, by decide +kernel, by decide +kernel⟩, by decide +kernel⟩

theorem test_ManagementPacketsAct_4 :
    ∃ (s t : State) (p _n : Nat) (k : Packet) (w : Tracker),
      Checked s p k t ∧
      k.opcode = opMgmtRsp ∧
      tagMatches t p k = some w ∧
      w.opcode = opMgmtReq ∧
      w.stuck = false ∧
      answerFits w k = true :=
  ⟨sRsp, after sRsp 15 kRsp, 15, 3, kRsp, abortTracker, checked (by decide +kernel), by decide +kernel⟩

theorem test_ManagementPacketsAct_5 :
    ∃ (s t : State) (p : Nat) (k : Packet),
      Checked s p k t ∧
      k.opcode = opRetiredNotice :=
  ⟨sPlaced, after sPlaced 0 kRetired, 0, kRetired, checked (by decide +kernel), by decide +kernel⟩

theorem test_ManagementPacketsAct_6 :
    ∃ (s t : State) (p : Nat) (k : Packet),
      Checked s p k t ∧
      k.opcode = opFaultReport :=
  ⟨s5, after s5 0 kReport, 0, kReport, checked (by decide +kernel), by decide +kernel⟩

theorem test_ManagementPacketsAct_7 :
    ∃ (s t : State) (p n : Nat) (k : Packet),
      Checked s p k t ∧
      (∀ m, m ≠ n → (fld (getRow t reportCn m) 255 254 = 0 ∨ fld (getRow t reportCn m) 211 196 ≠ fld (getRow t reportCn n) 211 196)) ∧
      k.opcode = opFaultAck ∧
      service k.src = true ∧
      sortedT t.cat = true ∧
      get t 0xA202_03 = 0 ∧
      n < 256 ∧
      fld (getRow t reportCn n) 255 254 ≠ 0 ∧
      fld (getRow t reportCn n) 211 196 = fld (nth 0 0 k.data) 127 112 ∧
      fld (getRow t reportCn n) 253 246 = fld (nth 0 0 k.data) 111 104 ∧
      fld (getRow t reportCn n) 241 220 = fld (nth 0 0 k.data) 103 82 ∧
      fld (getRow t reportCn n) 219 212 = fld (nth 0 0 k.data) 81 74 :=
  ⟨sReported, after sReported 0 kFaultAck, 0, 255, kFaultAck, checked (by decide +kernel),
    one_report (by decide +kernel), by decide +kernel⟩

theorem test_MirrorPacketsAct_1 :
    ∃ (s t : State) (p seq : Nat) (k : Packet),
      Checked s p k t ∧
      k.opcode = opMirrorAck ∧
      t.mirror.restore = none ∧
      mirroring t = true ∧
      k.src = counterpart t ∧
      pairing t = 2 ∧
      bit (mirrorSlot k) 91 = false ∧
      t.mirror.jobs = [] ∧
      t.mirror.commitWait = none ∧
      seq = fld (mirrorSlot k) 127 96 ∧
      subMod 32 seq (get t 0xB001_02) ≠ 0 ∧
      subMod 32 seq (get t 0xB001_02) ≤ subMod 32 (get t 0xB001_01) (get t 0xB001_02) :=
  ⟨sMirrorAck, after sMirrorAck 0 kMirrorAck, 0, 3, kMirrorAck, checked (by decide +kernel), by decide +kernel⟩

theorem test_MirrorPacketsAct_2 :
    ∃ (s t : State) (p : Nat) (k : Packet) (c : Instr),
      (muKind k, c) ∈ [(0, .mirrorValue p k), (1, .mirrorRows p k), (2, .mirrorLogRecords p k), (3, .snapshotBegin p k), (4, .snapshotEnd p k)] ∧
      Checked s p k t ∧
      k.opcode = opMirrorUpdate ∧
      domainOn t 25 = true ∧
      t.mirror.restore = none ∧
      mirroring t = true ∧
      k.src = counterpart t ∧
      updateFits t k = true ∧
      (muKind k = 3 ∨ muSeq k = (get t 0xB001_03 + 1) % 2 ^ 32) :=
  ⟨pairedWith 6 0, after (pairedWith 6 0) 0 kValue, 0, kValue, .mirrorValue 0 kValue, .head _,
    checked (by decide +kernel), by decide +kernel⟩

theorem test_MirrorPacketsAct_3 :
    ∃ (s t : State) (p : Nat) (k : Packet),
      Checked s p k t ∧
      k.opcode = opMirrorUpdate ∧
      muKind k = 5 ∧
      domainOn t 25 = true ∧
      mirroring t = true ∧
      k.src = counterpart t ∧
      k.src = get t 0xB002_01 ∧
      newer 8 (get t 0xB002_02) k.srcEdition = false ∧
      get t 0xB002_00 = 2 :=
  ⟨sImage, after sImage 0 kRestoreRequest, 0, kRestoreRequest, checked (by decide +kernel), by decide +kernel⟩

theorem test_MirrorPacketsAct_4 :
    ∃ (s t : State) (p : Nat) (k : Packet) (r : Restore),
      Checked s p k t ∧
      k.opcode = opMirrorUpdate ∧
      muKind k = 6 ∧
      domainOn t 25 = true ∧
      t.mirror.restore = some r ∧
      r.endpoint = k.src :=
  ⟨sRestoring, after sRestoring 0 kRestoreBegin, 0, kRestoreBegin, aRestore, checked (by decide +kernel),
    by decide +kernel⟩

theorem test_MirrorAndLogAct_1 :
    ∃ (s : State),
      switchOn s = true ∧
      domainOn s 25 = true ∧
      pairing s = 2 ∧
      mirrorUnacked s = true :=
  ⟨{ pairedWith 6 2 with mirror.buffer := [anUpdate] }, by decide +kernel⟩

theorem test_MirrorAndLogAct_2 :
    ∃ (s : State) (c : CommitWait),
      held s = false ∧
      s.mirror.commitWait = some c :=
  ⟨{ s0 with mirror.commitWait := some { msg := 0, record := none, seq := none } },
    { msg := 0, record := none, seq := none }, by decide +kernel⟩

theorem test_MirrorAndLogAct_3 :
    ∃ (s : State) (rq : Requester) (ep p ed : Nat),
      Granted s rq 0xB020_00 [ep, p, ed] ∧
      p < portsOf s.part ∧
      ordinary ep = true ∧
      ed < 256 ∧
      commission s = 1 ∧
      ordinary (ownId s) = true ∧
      s.mirror.restore = none :=
  ⟨sPlaced, shelf, 6, 7, 255, granted (by decide +kernel), by decide +kernel⟩

theorem test_MirrorAndLogAct_4 :
    ∃ (s : State) (r : Restore),
      held s = false ∧
      s.mirror.restore = some r :=
  ⟨sRestoring, aRestore, by decide +kernel⟩

theorem test_MirrorAndLogAct_5 :
    ∃ (s : State) (e : LogEvent) (es : List LogEvent),
      unmirrored s ∧
      s.power.porLow = false ∧
      s.log.dropped = 0 ∧
      s.log.queue = e :: es ∧
      get s 0xF000_00 < logSlots ∧
      s.mirror.commitWait = none :=
  ⟨puts State.reset [(0xF000_00, 0, logSlots - 1)], (State.reset.log.queue.headD { bits := 0 }),
    State.reset.log.queue.tail, un_mirrored (by decide +kernel), by decide +kernel⟩

theorem test_MirrorAndLogAct_6 :
    ∃ (s : State) (m k : Nat),
      noLocksAt s m ∧
      held s = false ∧
      stopped s = false ∧
      bit (drainCfg s) 127 = true ∧
      drainBusy s = false ∧
      k = s.log.drainNext ∧
      k < get s 0xF000_00 ∧
      drainFull s = false ∧
      s.log.drainGap = none ∧
      (fld (drainCfg s) 102 67 * 64 + k % drainSize s * 64) % 4096 + 64 ≤ 4096 ∧
      mspPort s 16 (fld (drainCfg s) 110 103) (fld (drainCfg s) 102 67 * 64 + k % drainSize s * 64) = some m ∧
      quiesced s m = false :=
  ⟨puts s0 [(0xF001_00, 0, 2 ^ 127), (0xF000_00, 0, 1)], 0, 0, no_locks (by decide +kernel), by decide +kernel⟩

theorem test_TilesAndSlicesAct_1 :
    ∃ (s : State) (id t : Nat) (y : Tile),
      unitsRun s 18 = true ∧
      burstTile s id t = some y ∧
      y.burstLeft = 0 :=
  ⟨withTile { aTile with phase := 1 }, 10, 0, { aTile with phase := 1 }, by decide +kernel⟩

theorem test_TilesAndSlicesAct_2 :
    ∃ (s : State) (id t : Nat) (y : Tile),
      unitsRun s 18 = true ∧
      (s.coll.tiles.find? (fun x => stId (stRow s x.entry x.stage) == id && x.tile == t && 3 ≤ x.phase) = some y) ∧
      tileOf s y.entry y.stage t = some y ∧
      slotBusy s y = true :=
  ⟨{ withTile { aTile with phase := 3 } with carrel.replacing := slotRows s0 0 }, 10, 0, { aTile with phase := 3 },
    by decide +kernel⟩

theorem test_TilesAndSlicesAct_3 :
    ∃ (s : State) (id t : Nat) (y : Tile),
      unitsRun s 18 = true ∧
      (s.coll.tiles.find? (fun x => stId (stRow s x.entry x.stage) == id && x.tile == t && 3 ≤ x.phase) = some y) ∧
      tileOf s y.entry y.stage t = some y ∧
      slotBusy s y = false ∧
      (∀ r ∈ slotRows s y.slot, r ∉ s.carrel.dead) :=
  ⟨withTile { aTile with phase := 3 }, 10, 0, { aTile with phase := 3 }, by decide +kernel⟩

theorem test_TilesAndSlicesAct_4 :
    ∃ (s : State) (phys e n : Nat) (w : CollWait),
      unitsRun s 18 = true ∧
      sortedT s.cat = true ∧
      (s.coll.waits.find? (fun x => x.phys == phys && x.slot) = some w) ∧
      collAdmit s w.k = .stage e n :=
  ⟨{ sEntry with coll.waits := [collWait] }, 7, 255, 0, collWait, by decide +kernel⟩

theorem test_TilesAndSlicesAct_5 :
    ∃ (s : State) (rq : Requester) (i : Nat),
      Granted s rq 0x7401_00 [] ∧
      spareSlice s = some i ∧
      sliceState s i = 1 :=
  ⟨sSpare, shelf, 4, granted (by decide +kernel), by decide +kernel⟩

theorem test_TilesAndSlicesAct_6 :
    ∃ (s : State) (_pass : Bool) (i : Nat),
      unitsRun s 18 = true ∧
      s.coll.testing = true ∧
      ((upFrom 0 (slicesOf s.part)).find? (fun i => sliceState s i == 2) = some i) :=
  ⟨{ puts s0 [(sliceCn 4, 0, 0x84)] with coll.testing := true }, true, 4, by decide +kernel⟩

theorem test_TilesAndSlicesAct_7 :
    ∃ (s : State) (phys spare : Nat),
      unitsRun s 18 = true ∧
      phys < slicesOf s.part ∧
      sliceState s phys = 0 ∧
      entriesOn s phys (sliceLogical s phys) = [] ∧
      spareSlice s = some spare ∧
      s.coll.testing = false :=
  ⟨sSpare, 0, 4, by decide +kernel⟩

theorem test_TilesAndSlicesAct_8 :
    ∃ (s : State) (phys k : Nat),
      unitsRun s 18 = true ∧
      s.coll.substituting = some (phys, k) ∧
      phys < 8 :=
  ⟨{ sSpare with coll.substituting := some (4, 0) }, 4, 0, by decide +kernel⟩

theorem test_CollectiveCommandsComplete_1 :
    ∃ (s : State) (rq : Requester) (e row : Nat) (ids : List Nat),
      Granted s rq 0x7104_00 [e] ∧
      (∀ x, x < 2 ^ 32 → ceState (ceRow s x) ≠ 0 → ∀ i ∈ entryIds s x, i ∉ ids) ∧
      e < 256 ∧
      sortedT s.cat = true ∧
      row = get s 0x7101_00 ∧
      (ceGuarded row = true → ceMembers row ≤ 4096) ∧
      domainOn s 18 = true ∧
      ceState (ceRow s e) = 0 ∧
      (ids = ceGate row :: (upFrom 0 (ceStages row)).map (fun k => stId (stagedRow s k))) ∧
      ids.Nodup :=
  ⟨sStaged, shelf, 255, 9 * 2 ^ 5, [9, 0], granted (by decide +kernel), no_entries (by decide +kernel),
    by decide +kernel⟩

theorem test_CollectiveCommandsComplete_2 :
    ∃ (s : State) (rq : Requester) (e : Nat),
      Granted s rq 0x7105_00 [e] ∧
      e < 256 ∧
      domainOn s 18 = true ∧
      ceState (ceRow s e) = 1 ∧
      gateShut s (cePartition (ceRow s e)) (ceContext (ceRow s e)) = false ∧
      threadsOn s (homeOf s (e % max 1 (activeSlices s))) < 64 :=
  ⟨sEntry, shelf, 255, granted (by decide +kernel), by decide +kernel⟩

theorem test_CollectiveCommandsComplete_3 :
    ∃ (s : State) (rq : Requester) (bs : List Byte) (stage : Nat),
      Granted s rq 0x7200_02 [] ∧
      programRefusal s = none ∧
      stage = get s 0x7200_01 ∧
      bs.length = 4 * loadWords stage :=
  ⟨s0, shelf, [0, 0, 0, 0], 0, granted (by decide +kernel), by decide +kernel⟩

theorem test_CollectiveCommandsComplete_4 :
    ∃ (s : State) (rq : Requester) (gate status e : Nat),
      Granted s rq 0x7300_03 [gate, status] ∧
      sortedT s.cat = true ∧
      gateOf s gate = some e ∧
      (rq.cls = .endpoint ∨ (rq.cls = .neighbour ∧ ordinary rq.ident = true) → ceGuarded (ceRow s e) = true ∧ ceLo (ceRow s e) ≤ rq.ident ∧ rq.ident ≤ ceHi (ceRow s e)) :=
  ⟨sEntry, shelf, 9, stAborted, 255, granted (by decide +kernel), by decide +kernel⟩

theorem test_CollectiveCommandsComplete_5 :
    ∃ (s t : State) (f : Fanout) (fs : List Fanout) (record : Nat) (r : Option Nat),
      sendInvoke s (fld record 21 0) 0x7300_03 (abortArg f.gate f.status) (.abort f.entry) = (t, r) ∧
      unitsRun s 18 = true ∧
      silent s = false ∧
      s.coll.fanouts = f :: fs ∧
      f.left ≠ 0 ∧
      f.record = some (some record) ∧
      badMember record = false :=
  ⟨sFan, vFan.1, aFanout, [], 5, vFan.2, vFan_eq, by decide +kernel⟩

theorem test_CollectiveCommandsComplete_6 :
    ∃ (s : State) (e st : Nat),
      unitsRun s 18 = true ∧
      ceState (ceRow s e) = 3 ∧
      (entryRun s e).ended = some st ∧
      (entryRun s e).noticed = false ∧
      entryBursting s e = false :=
  ⟨sEnded, 255, stOk, by decide +kernel⟩

theorem test_SequencerWritesItsRegister_1 :
    ∃ (s : State) (e w op : Nat) (t : Thread) (a b v : Word64) (c : Instr),
      (op, v, c) ∈ [(0x01, a + b, .seqAdd e), (0x02, a - b, .seqSub e), (0x03, a &&& b, .seqAnd e), (0x04, a ||| b, .seqOr e), (0x05, a ^^^ b, .seqXor e), (0x06, a <<< (fld w 13 0 % 64), .seqShl e), (0x07, a >>> (fld w 13 0 % 64), .seqShr e), (0x08, a * b, .seqMul e), (0x09, if b = 0 then BitVec.allOnes 64 else a / b, .seqDivu e), (0x0A, if a ≤ b then a else b, .seqMinu e), (0x0B, if a ≤ b then b else a, .seqMaxu e), (0x0C, a + BitVec.ofInt 64 (signed 14 (fld w 13 0)), .seqAddi e), (0x0D, BitVec.ofNat 64 (fld w 21 0), .seqLi e), (0x0E, (reg t (fld w 25 22) <<< 22) ||| BitVec.ofNat 64 (fld w 21 0), .seqSli e), (0x18, dataWord t (fld w 13 0), .seqLdd e), (0x1D, BitVec.ofNat 64 (now s), .seqTime e), (0x26, BitVec.ofNat 64 (nth 0 (a.toNat % 4) (entryRun s e).closed), .seqRdc e), (0x27, BitVec.ofNat 64 (gateCount s e (a.toNat % 32)), .seqRdg e)] ∧
      readyThread s e = some t ∧
      w = programWord s t.pc ∧
      (sourcesOf w).any (awaited t) = false ∧
      op = fld w 31 26 ∧
      t.regs.length = 16 ∧
      a = reg t (fld w 21 18) ∧
      b = reg t (fld w 17 14) :=
  ⟨seqWith wAdd thr, 255, wAdd, 1, thr, reg thr 1, reg thr 2, reg thr 1 + reg thr 2, .seqAdd 255, .head _,
    by decide +kernel⟩

theorem test_SequencerBranches_1 :
    ∃ (s : State) (e w op : Nat) (t : Thread) (a b : Word64) (taken : Bool) (c : Instr),
      (op, taken, c) ∈ [(0x10, decide (a = b), .seqBeq e), (0x11, decide (a ≠ b), .seqBne e), (0x12, decide (a < b), .seqBltu e), (0x13, decide (b ≤ a), .seqBgeu e), (0x14, true, .seqJ e)] ∧
      readyThread s e = some t ∧
      w = programWord s t.pc ∧
      (sourcesOf w).any (awaited t) = false ∧
      op = fld w 31 26 ∧
      a = reg t (fld w 21 18) ∧
      b = reg t (fld w 17 14) :=
  ⟨seqWith wBeq thr, 255, wBeq, 0x10, thr, reg thr 3, reg thr 0, decide (reg thr 3 = reg thr 0), .seqBeq 255,
    .head _, by decide +kernel⟩

theorem test_SequencerReadsAndSends_1 :
    ∃ (s : State) (e w : Nat) (t : Thread),
      readyThread s e = some t ∧
      w = programWord s t.pc ∧
      fld w 31 26 = 0x19 ∧
      (sourcesOf w).any (awaited t) = false ∧
      t.words.length = 32 :=
  ⟨seqWith wStd thr, 255, wStd, thr, by decide +kernel⟩

theorem test_SequencerReadsAndSends_2 :
    ∃ (s : State) (e w op ptr off seg n m : Nat) (t : Thread) (r : HostRead) (c : Instr),
      (op, ptr, n, r, c) ∈ [(0x1A, ((reg t (fld w 21 18)).toNat + 8 * fld w 13 0) % 2 ^ 64, 1, .toReg (fld w 25 22), .seqLdh e), (0x1B, (reg t (fld w 21 18)).toNat, fld w 9 5 + 1, .toData (fld w 13 0 % 32) (fld w 9 5 + 1), .seqBld e)] ∧
      noLocksAt s m ∧
      readyThread s e = some t ∧
      w = programWord s t.pc ∧
      (sourcesOf w).any (awaited t) = false ∧
      op = fld w 31 26 ∧
      seg = fld ptr 49 42 ∧
      off = fld ptr 41 0 / 8 * 8 ∧
      off % 4096 + 8 * n ≤ 4096 ∧
      mspPort s (cePartition (ceRow s e)) seg off = some m ∧
      quiesced s m = false :=
  ⟨seqWith wLdh thr, 255, wLdh, 0x1A, ldhAt, 0, 0, 1, 0, thr, .toReg (fld wLdh 25 22), .seqLdh 255, .head _,
    no_locks (by decide +kernel), by decide +kernel⟩

theorem test_SequencerReadsAndSends_3 :
    ∃ (s : State) (e w rank : Nat) (t : Thread) (bs : List Byte),
      readyThread s e = some t ∧
      w = programWord s t.pc ∧
      (sourcesOf w).any (awaited t) = false ∧
      fld w 31 26 = 0x1C ∧
      rank = (reg t (fld w 21 18)).toNat ∧
      t.line = some (rank / 16, bs) ∧
      t.regs.length = 16 :=
  ⟨seqWith wRld { thr with line := some (0, List.replicate 64 255) }, 255, wRld, 1,
    { thr with line := some (0, List.replicate 64 255) }, List.replicate 64 255, by decide +kernel⟩

theorem test_SequencerReadsAndSends_4 :
    ∃ (s : State) (e w rank off m : Nat) (t : Thread),
      (∀ bs, t.line ≠ some (rank / 16, bs)) ∧
      noLocksAt s m ∧
      readyThread s e = some t ∧
      w = programWord s t.pc ∧
      (sourcesOf w).any (awaited t) = false ∧
      fld w 31 26 = 0x1C ∧
      rank = (reg t (fld w 21 18)).toNat ∧
      off = (ceRosterOffset (ceRow s e) + 64 * (rank / 16)) % 2 ^ 42 ∧
      off % 4096 + 64 ≤ 4096 ∧
      mspPort s (cePartition (ceRow s e)) (ceRosterSegment (ceRow s e)) off = some m ∧
      quiesced s m = false :=
  ⟨seqWith wRld thr, 255, wRld, 1, 0, 0, thr, nofun, no_locks (by decide +kernel), by decide +kernel⟩

theorem test_SequencerReadsAndSends_5 :
    ∃ (s : State) (e d at0 : Nat) (t : Thread) (r : ThreadRead) (bs : List Byte),
      (at0 = 0 ∧ r.dest = .toReg d ∨ ∃ rank, at0 = 4 * (rank % 16) ∧ r.dest = .toRecord d rank) ∧
      unitsRun s 18 = true ∧
      thread? s e = some t ∧
      (t.reads.find? (fun r => r.back.isSome) = some r) ∧
      r.back = some bs ∧
      r.late = [] ∧
      t.regs.length = 16 ∧
      d < 16 :=
  ⟨seqWith 0 (thrRead (.toRecord 15 15)), 255, 15, 60, thrRead (.toRecord 15 15), aRead (.toRecord 15 15),
    List.replicate 64 255, .inr ⟨15, rfl, rfl⟩, by decide +kernel⟩

theorem test_SequencerReadsAndSends_6 :
    ∃ (s : State) (e word n : Nat) (t : Thread) (r : ThreadRead) (bs : List Byte),
      unitsRun s 18 = true ∧
      thread? s e = some t ∧
      (t.reads.find? (fun r => r.back.isSome) = some r) ∧
      r.back = some bs ∧
      r.late = [] ∧
      r.dest = .toData word n ∧
      word < 32 ∧
      n ≤ 32 ∧
      t.words.length = 32 :=
  ⟨seqWith 0 (thrRead (.toData 31 8)), 255, 31, 8, thrRead (.toData 31 8), aRead (.toData 31 8),
    List.replicate 64 255, by decide +kernel⟩

theorem test_SequencerReadsAndSends_7 :
    ∃ (s : State) (e w rank first n : Nat) (t : Thread),
      readyThread s e = some t ∧
      w = programWord s t.pc ∧
      (sourcesOf w).any (awaited t) = false ∧
      fld w 31 26 = 0x20 ∧
      fld w 21 18 ≤ 12 ∧
      rank = (reg t (fld w 21 18)).toNat ∧
      first = (reg t (fld w 21 18 + 2)).toNat ∧
      n = (reg t (fld w 21 18 + 3)).toNat ∧
      t.sends.length < 16 ∧
      rank < ceMembers (ceRow s e) ∧
      n ≠ 0 ∧
      first + n ≤ 2 ^ 32 :=
  ⟨seqWith (wSend 12) thrSend, 255, wSend 12, 0, 2 ^ 32 - 1, 1, thrSend, by decide +kernel⟩

theorem test_SequencerReadsAndSends_8 :
    ∃ (s : State) (e w : Nat) (t : Thread),
      readyThread s e = some t ∧
      w = programWord s t.pc ∧
      (sourcesOf w).any (awaited t) = false ∧
      fld w 31 26 = 0x20 ∧
      12 < fld w 21 18 ∧
      t.sends.length < 16 :=
  ⟨seqWith (wSend 13) thr, 255, wSend 13, thr, by decide +kernel⟩

theorem test_SequencerReadsAndSends_9 :
    ∃ (s : State) (e w op first n : Nat) (t : Thread) (c : Instr),
      (op, first, n, c) ∈ [(0x23, 0, ceMembers (ceRow s e), .seqTokall e), (0x24, (reg t (fld w 17 14)).toNat, 1, .seqToken e)] ∧
      (op = 0x24 → first < ceMembers (ceRow s e)) ∧
      readyThread s e = some t ∧
      w = programWord s t.pc ∧
      (sourcesOf w).any (awaited t) = false ∧
      op = fld w 31 26 :=
  ⟨seqWith wTokall thr, 255, wTokall, 0x23, 0, ceMembers (ceRow (seqWith wTokall thr) 255), thr, .seqTokall 255,
    .head _, (fun h => absurd h (by decide)), by decide +kernel⟩

theorem test_SequencerWaitsAndEnds_1 :
    ∃ (s : State) (e w op : Nat) (t : Thread) (holds : Bool) (x : ThreadWait) (c : Instr),
      (op, x, holds, c) ∈ [(0x21, .sends, t.sends.isEmpty && t.unsent == 0, .seqWaits e), (0x22, .closed ((reg t (fld w 21 18)).toNat % 4) (reg t (fld w 17 14)).toNat, decide ((reg t (fld w 17 14)).toNat ≤ nth 0 ((reg t (fld w 21 18)).toNat % 4) (entryRun s e).closed), .seqWaitc e), (0x25, .gate ((reg t (fld w 21 18)).toNat % 32) (reg t (fld w 17 14)).toNat, decide ((reg t (fld w 17 14)).toNat ≤ gateCount s e ((reg t (fld w 21 18)).toNat % 32)), .seqWaitg e)] ∧
      readyThread s e = some t ∧
      w = programWord s t.pc ∧
      (sourcesOf w).any (awaited t) = false ∧
      op = fld w 31 26 :=
  ⟨seqWith wWaits thr, 255, wWaits, 0x21, thr, thr.sends.isEmpty && thr.unsent == 0, .sends, .seqWaits 255,
    .head _, by decide +kernel⟩

theorem test_SequencerWaitsAndEnds_2 :
    ∃ (s : State) (e : Nat) (t : Thread) (x : ThreadWait),
      (∀ n, x ≠ .done n) ∧
      unitsRun s 18 = true ∧
      ceState (ceRow s e) = 2 ∧
      thread? s e = some t ∧
      t.wait = some x ∧
      waitHolds s e t = true :=
  ⟨seqWith 0 thrWait, 255, thrWait, .sends, (fun _ h => nomatch h), by decide +kernel⟩

theorem test_SequencerWaitsAndEnds_3 :
    ∃ (s : State) (e w : Nat) (t : Thread),
      readyThread s e = some t ∧
      w = programWord s t.pc ∧
      fld w 31 26 = 0x3E ∧
      (sourcesOf w).any (awaited t) = false :=
  ⟨seqWith wDone thr, 255, wDone, thr, by decide +kernel⟩

theorem test_SequencerWaitsAndEnds_4 :
    ∃ (s : State) (e : Nat) (t : Thread) (g : Bool) (c : Instr),
      (g, c) ∈ [(false, .waitLimitExpiry e), (true, .guardWaitExpiry e)] ∧
      unitsRun s 18 = true ∧
      ceState (ceRow s e) = 2 ∧
      ceGuarded (ceRow s e) = g ∧
      thread? s e = some t ∧
      t.wait.isSome = true :=
  ⟨seqWith 0 thrWait, 255, thrWait, false, .waitLimitExpiry 255, .head _, by decide +kernel⟩

theorem test_SequencerWaitsAndEnds_5 :
    ∃ (s : State) (e op : Nat) (t : Thread) (c : Instr),
      c ∈ [.seqFault e, .seqAbort e] ∧
      (c = .seqAbort e → op = 0x3F) ∧
      (c = .seqFault e → op = 0 ∨ listedOp op = false) ∧
      readyThread s e = some t ∧
      op = fld (programWord s t.pc) 31 26 :=
  ⟨seqWith 0 thr, 255, 0, thr, .seqFault 255, .head _, (fun h => nomatch h), (fun _ => .inl rfl), by decide +kernel⟩

theorem test_RoutesAndLoansAct_1 :
    ∃ (s : State) (rq : Requester) (cn row v : Nat) (o : Obj),
      cn ∈ [0x4100_00, 0x4101_00, 0x4102_00] ∧
      GrantedWrite s rq cn row v ∧
      row < 2 ^ 32 ∧
      findObj s.part cn = some o :=
  ⟨s5, shelf, 0x4100_00, 0, 2 ^ 14 + 1, (findObj .skx8 0x4100_00).get (by decide +kernel), .head _,
    grantedWrite (by decide +kernel), by decide +kernel⟩

theorem test_RoutesAndLoansAct_2 :
    ∃ (s : State) (rq : Requester) (row n : Nat),
      Granted s rq 0x6402_00 [] ∧
      row = get s 0x6401_00 ∧
      n = fld row 239 228 ∧
      loanRefusal s row = none :=
  ⟨puts s0 [(0x6401_00, 0, 4095 * 2 ^ 228)], shelf, 4095 * 2 ^ 228, 4095, granted (by decide +kernel),
    by decide +kernel⟩

theorem test_RoutesAndLoansAct_3 :
    ∃ (s : State) (rq : Requester) (n : Nat),
      Granted s rq 0x6403_00 [n] ∧
      n < 4096 ∧
      fld (loanRow s n) 255 254 ≠ 0 :=
  ⟨loanIs (2 ^ 255), shelf, 4095, granted (by decide +kernel), by decide +kernel⟩

theorem test_RoutesAndLoansAct_4 :
    ∃ (s : State) (n : Nat),
      switchOn s = true ∧
      n < 4096 ∧
      fld (loanRow s n) 255 254 = 3 ∧
      fld (loanRow s n) 253 252 = 0 ∧
      loanDrained s n = true ∧
      closingBelow s n = false ∧
      bit (loanRow s n) 250 = false :=
  ⟨loanIs (3 * 2 ^ 254), 4095, by decide +kernel⟩

theorem test_RoutesAndLoansAct_5 :
    ∃ (s : State) (n : Nat),
      held s = false ∧
      loanState s n = 3 :=
  ⟨loanIs (3 * 2 ^ 254), 4095, by decide +kernel⟩

theorem test_RoutesAndLoansAct_6 :
    ∃ (s : State) (rq : Requester) (stage row q n : Nat),
      Granted s rq 0x6407_00 [] ∧
      stage = get s 0x6401_00 ∧
      egressOf s (ownId s) (fld stage 205 184) = some q ∧
      q < 8 ∧
      row = setFld (setFld (setFld stage 253 252 0) 250 250 1) 246 244 q ∧
      n = fld stage 239 228 ∧
      loanRefusal s row = none ∧
      (sendInvoke (loanInstall (renewLease s rq) row 1) (portAddress q) 0x6408_00 (hopArgBytes (hopArgOfRow stage)) (.loanOpen n)).2 = none :=
  ⟨sOpen, shelf, openStage, openRow, 1, 4095, granted (by decide +kernel), by decide +kernel⟩

theorem test_RoutesAndLoansAct_7 :
    ∃ (s : State) (rq : Requester) (a : LoanHopArg) (w : Nat),
      Granted s rq 0x6408_00 [a.loan, a.source, a.destination, a.mode, a.rate, a.burst, a.hopWait, a.firstPage, a.pagesM1] ∧
      a.loan < 4096 ∧
      rq.port < portsOf s.part ∧
      get s 0x640A_00 = 1 ∧
      hopArgOk a = true ∧
      a.destination = ownId s ∧
      landingWindow s a = some w ∧
      w < 1024 ∧
      loanRefusal s (hopRow a 2 rq.port 0 w) = none :=
  ⟨sHop, fromPort0, hopArg, 0, granted (by decide +kernel), by decide +kernel⟩

theorem test_RoutesAndLoansAct_8 :
    ∃ (s : State) (rq : Requester) (n : Nat),
      Granted s rq 0x6409_00 [n] ∧
      n < 4096 ∧
      fld (loanRow s n) 255 254 ≠ 0 ∧
      bit (loanRow s n) 250 = true ∧
      fld (loanRow s n) 253 252 ≠ 1 :=
  ⟨loanIs (2 ^ 255 + 2 ^ 250), shelf, 4095, granted (by decide +kernel), by decide +kernel⟩

theorem test_RoutesAndLoansAct_9 :
    ∃ (s : State) (p q n : Nat) (d : Desc),
      switchOn s = true ∧
      s.ports.length = 8 ∧
      p < 8 ∧
      n < 4096 ∧
      loanDiscards s n = true ∧
      (∀ t ∈ (port s p).tx, t.begun = true ∨ t.queue ≠ q ∨ t.vc ≠ 4 ∨ handleOf t ≠ n) ∧
      ((queueOf s p q).find? (fun d => d.k.vc == 4 && handleM d.k == n) = some d) :=
  ⟨inQueue (loanIs discardRow) 1 onLoan, 0, 1, 4095, onLoan, by decide +kernel⟩

theorem test_RoutesAndLoansAct_10 :
    ∃ (s : State) (p q n : Nat) (x : TxPacket),
      switchOn s = true ∧
      s.ports.length = 8 ∧
      p < 8 ∧
      n < 4096 ∧
      loanDiscards s n = true ∧
      (port s p).tx = [x] ∧
      x.begun = false ∧
      x.queue = q ∧
      x.vc = 4 ∧
      handleOf x = n :=
  ⟨setPort (loanIs discardRow) 0 fun x => { x with tx := [loanTx] }, 0, 1, 4095, loanTx, by decide +kernel⟩

theorem test_RoutesAndLoansAct_11 :
    ∃ (s : State) (p q n : Nat) (w : PassWait),
      switchOn s = true ∧
      s.ports.length = 8 ∧
      p < 8 ∧
      n < 4096 ∧
      loanDiscards s n = true ∧
      (port s p).tx = [] ∧
      queueOf s p q = [] ∧
      (s.switch.passWaits.find? (fun w => w.egress == p && w.loan == some n && queueFor w.k w.port == q) = some w) :=
  ⟨{ loanIs discardRow with switch.passWaits := [loanPass] }, 0, queueFor onLoan.k 1, 4095, loanPass,
    by decide +kernel⟩

theorem test_RoutesAndLoansAct_12 :
    ∃ (s : State) (dst i : Nat) (e : Pair),
      unitsRun s 2 = true ∧
      i < 1024 ∧
      pairOf s dst i = some e ∧
      e.path ≠ 0 ∧
      unacked e ≠ 0 ∧
      loanDiscards s (e.path - 1) = true ∧
      linkState s e.via ≠ 2 :=
  ⟨{ loanIs discardRow with switch.pairs := [loanPair] }, 5, 0, loanPair, by decide +kernel⟩

theorem test_SchedulerAndPolicersAct_1 :
    ∃ (s : State) (p : Nat) (d : Desc) (ds : List Desc),
      s.ports.length = 8 ∧
      portPowered s p = true ∧
      isUp s p = true ∧
      (∀ t ∈ (port s p).tx, t.begun = true) ∧
      sendableQ s p 0 = true ∧
      queueOf s p 0 = d :: ds :=
  ⟨inQueue sUp 0 mgmtDesc, 0, mgmtDesc, [], by decide +kernel⟩

theorem test_SchedulerAndPolicersAct_2 :
    ∃ (s : State),
      (domainOn s 25 = false ∨ s.mirror.jobs = []) ∧
      switchOn s = true :=
  ⟨s0, .inr (by decide +kernel), by decide +kernel⟩

theorem test_SchedulerAndPolicersAct_3 :
    ∃ (s : State),
      switchOn s = true :=
  ⟨s0, by decide +kernel⟩

theorem test_SchedulerAndPolicersAct_4 :
    ∃ (s : State) (rq : Requester) (p q v : Nat) (o : Obj),
      GrantedWrite s rq (ofLow p 0x6100_00) q v ∧
      p < 8 ∧
      q < 64 ∧
      findObj s.part (ofLow p 0x6100_00) = some o :=
  ⟨s0, shelf, 7, 63, 258 * 2 ^ 40 + 30000 * 2 ^ 24 + 16 * 2 ^ 16,
    (findObj .skx8 (ofLow 7 0x6100_00)).get (by decide +kernel), grantedWrite (by decide +kernel),
    by decide +kernel⟩

theorem test_SchedulerAndPolicersAct_5 :
    ∃ (s : State) (rq : Requester) (n v : Nat) (o : Obj),
      GrantedWrite s rq 0x6200_00 n v ∧
      n < 2 ^ 32 ∧
      findObj s.part 0x6200_00 = some o :=
  ⟨s0, shelf, 255, 0, (findObj .skx8 0x6200_00).get (by decide +kernel), grantedWrite (by decide +kernel),
    by decide +kernel⟩

theorem test_SchedulerAndPolicersAct_6 :
    ∃ (s : State) (p : Nat),
      txPowered s p = true ∧
      p < 8 :=
  ⟨s0, 7, by decide +kernel⟩

theorem test_SchedulerAndPolicersAct_7 :
    ∃ (s : State) (rq : Requester) (p : Nat),
      Granted s rq 0x6330_00 [p] ∧
      p < portsOf s.part :=
  ⟨s0, shelf, 7, granted (by decide +kernel), by decide +kernel⟩

theorem test_FlitsLeaveAndArrive_1 :
    ∃ (s : State) (p n : Nat),
      PortRuns s p ∧
      isUp s p = true ∧
      (port s p).replayAt = none ∧
      (port s p).replayHeld = false ∧
      (port s p).replay.length < 8192 ∧
      (port s p).cmds = [] ∧
      (port s p).tx = [] ∧
      nextLane s p = some n :=
  ⟨sUp, 0, 9, port_runs (by decide +kernel), by decide +kernel⟩

theorem test_FlitsLeaveAndArrive_2 :
    ∃ (s : State) (p n : Nat) (t : TxPacket),
      PortRuns s p ∧
      isUp s p = true ∧
      (port s p).replayAt = none ∧
      (port s p).replayHeld = false ∧
      (port s p).replay.length < 8192 ∧
      (port s p).cmds = [] ∧
      (port s p).tx = [t] ∧
      t.begun = true ∧
      t.slots ≠ [] ∧
      t.slots.length ≤ 15 ∧
      t.owed = 0 ∧
      nextLane s p = some n :=
  ⟨sTx, 0, 9, aTx, port_runs (by decide +kernel), by decide +kernel⟩

theorem test_FlitsLeaveAndArrive_3 :
    ∃ (s : State) (p k bits : Nat) (bad : Bool),
      PortRuns s p ∧
      (bad = true ∨ placeOk bits = false) ∧
      isUp s p = true ∧
      k < 10 ∧
      takesFlits s p k = true ∧
      isSkip bits = false :=
  ⟨sRx, 0, 9, 0, true, port_runs (by decide +kernel), .inl rfl, by decide +kernel⟩

theorem test_FlitsLeaveAndArrive_4 :
    ∃ (s : State) (p k bits : Nat) (f : Flit),
      PortRuns s p ∧
      isUp s p = true ∧
      k < 10 ∧
      takesFlits s p k = true ∧
      isSkip bits = false ∧
      placeOk bits = true ∧
      f = flitOf bits ∧
      f.type = 0 ∧
      f.slotsUsed ≠ 0 ∧
      f.nak = false ∧
      6 ≤ f.creditVc ∧
      f.seq = (port s p).expect ∧
      (port s p).expect < 65536 ∧
      (port s p).replay = [] ∧
      (port s p).replayHeld = false ∧
      f.ack = ((port s p).txSeq + 65535) % 65536 ∧
      (port s p).heldFlits = [] ∧
      (port s p).behind = [] :=
  ⟨sRx, 0, 9, flitBits aFlit, flitOf (flitBits aFlit), port_runs (by decide +kernel), by decide +kernel⟩

theorem test_FlitsLeaveAndArrive_5 :
    ∃ (s : State) (p : Nat) (f : Flit) (fs : List Flit),
      PortRuns s p ∧
      isUp s p = true ∧
      (port s p).replay = f :: fs ∧
      (port s p).fruitless + 1 < get s (ofPort p 0x2000_07) :=
  ⟨sReplay, 0, aFlit, [], port_runs (by decide +kernel), by decide +kernel⟩

theorem test_LaneCommandsAct_2 :
    ∃ (s : State) (p _on r n k : Nat),
      PortRuns s p ∧
      isUp s p = true ∧
      n = fld r 119 116 ∧
      n < 10 ∧
      k = rxPhys s p n ∧
      bit (waitSet s p) n = false ∧
      (lane s p k).rxTrained = true ∧
      (lane s p k).lost = false ∧
      (port s p).asked = none :=
  ⟨puts sRx [(0x2010_02, 0, 0)], 0, 0, lane9, 9, 9, port_runs (by decide +kernel), by decide +kernel⟩

theorem test_LaneCommandsAct_3 :
    ∃ (s : State) (p _on r n : Nat),
      PortRuns s p ∧
      isUp s p = true ∧
      n = fld r 119 116 ∧
      n < 10 ∧
      bit (waitSet s p) n = true ∧
      setBit (waitSet s p) n false ≠ 0 ∧
      (lane s p (rxPhys s p n)).test = 0 :=
  ⟨sWide, 0, 0, lane9, 9, port_runs (by decide +kernel), by decide +kernel⟩

theorem test_LaneCommandsAct_4 :
    ∃ (s : State) (p _on r n : Nat),
      PortRuns s p ∧
      isUp s p = true ∧
      n = fld r 119 116 ∧
      n < 10 ∧
      bit (plannedDeal s p) n = false ∧
      popcount 10 (plannedDeal s p) < 8 ∧
      (lane s p n).peerFailed = false ∧
      (lane s p n).test = 0 ∧
      txState s p n = 3 ∧
      (lane s p n).peerTrained = true ∧
      (lane s p n).leaving = 0 ∧
      (lane s p n).announced = none ∧
      (lane s p n).waking = false ∧
      (∀ c ∈ (port s p).cmds, recLane c.record = n → recCode c.record ≠ 0x10 ∧ recCode c.record ≠ 0x11) :=
  ⟨sNarrow, 0, 0, lane9, 9, port_runs (by decide +kernel), by decide +kernel⟩

theorem test_LaneCommandsAct_5 :
    ∃ (s : State) (p _on r n : Nat),
      PortRuns s p ∧
      isUp s p = true ∧
      n = fld r 119 116 ∧
      n < 10 ∧
      bit (plannedDeal s p) n = true :=
  ⟨sUp, 0, 0, lane9, 9, port_runs (by decide +kernel), by decide +kernel⟩

theorem test_LaneCommandsAct_6 :
    ∃ (s : State) (p _on r n reason : Nat),
      PortRuns s p ∧
      isUp s p = true ∧
      n = fld r 119 116 ∧
      n < 10 ∧
      (port s p).asked = some (n, reason) :=
  ⟨sAsked, 0, 0, lane9, 9, 1, port_runs (by decide +kernel), by decide +kernel⟩

theorem test_LaneCommandsAct_7 :
    ∃ (s : State) (p on r n v : Nat) (c : Instr),
      PortRuns s p ∧
      (v, c) ∈ [(4, .laneHush p on r), (5, .laneShelve p on r), (6, .laneTestEnter p on r), (0, .laneTestExit p on r)] ∧
      isUp s p = true ∧
      n = fld r 119 116 ∧
      n < 10 :=
  ⟨sUp, 0, 0, lane9, 9, 4, .laneHush 0 0 lane9, port_runs (by decide +kernel), .head _, by decide +kernel⟩

theorem test_LaneCommandsAct_8 :
    ∃ (s : State) (rq : Requester) (p n : Nat),
      Granted s rq (ofPort p 0x2010_03) [n, 0] ∧
      p < portsOf s.part ∧
      s.ports.length = 8 ∧
      isUp s p = true ∧
      n < 10 ∧
      bit (waitSet s p) n = false :=
  ⟨puts sUp [(0x2010_02, 0, 0)], shelf, 0, 9, granted (by decide +kernel), by decide +kernel⟩

theorem test_LaneCommandsAct_9 :
    ∃ (s : State) (rq : Requester) (p n : Nat),
      Granted s rq (ofPort p 0x2010_03) [n, 1] ∧
      p < portsOf s.part ∧
      s.ports.length = 8 ∧
      isUp s p = true ∧
      n < 10 ∧
      bit (plannedDeal s p) n = true ∧
      popcount 10 (plannedDeal s p) ≠ 1 :=
  ⟨sWide, shelf, 0, 9, granted (by decide +kernel), by decide +kernel⟩

theorem test_LaneCommandsAct_10 :
    ∃ (s : State) (rq : Requester) (p v : Nat) (o : Obj),
      GrantedWrite s rq (ofPort p 0x2050_04) 0 v ∧
      findObj s.part (ofPort p 0x2050_04) = some o ∧
      p < 8 ∧
      isUp s p = false :=
  ⟨s0, shelf, 7, 3, (findObj .skx8 (ofPort 7 0x2050_04)).get (by decide +kernel), grantedWrite (by decide +kernel),
    by decide +kernel⟩

theorem test_HoldAndTrainingAct_1 :
    ∃ (s : State) (p : Nat),
      PortRuns s p ∧
      linkState s p = 2 :=
  ⟨sLink 2 8, 0, port_runs (by decide +kernel), by decide +kernel⟩

theorem test_HoldAndTrainingAct_2 :
    ∃ (s : State) (p : Nat),
      PortRuns s p ∧
      linkState s p = 2 ∧
      stageOfPort s p = 8 :=
  ⟨sLink 2 8, 0, port_runs (by decide +kernel), by decide +kernel⟩

theorem test_HoldAndTrainingAct_3 :
    ∃ (s : State) (rq : Requester) (p : Nat),
      Granted s rq (ofPort p 0x2000_04) [] ∧
      p < portsOf s.part ∧
      s.ports.length = 8 ∧
      isUp s p = true ∧
      get s (ofPort p 0x2000_02) ≠ 0 :=
  ⟨puts sUp [(0x2000_02, 0, 1)], shelf, 0, granted (by decide +kernel), by decide +kernel⟩

theorem test_HoldAndTrainingAct_4 :
    ∃ (s : State) (p k bits v : Nat) (inv : Bool),
      PortRuns s p ∧
      takesBlocks s p k = true ∧
      stageOfPort s p ≠ 0 ∧
      (linkState s p = 0 → stageOfPort s p ≠ 8) ∧
      trainingBlockOf bits = some (v, inv) ∧
      (lane s p k).stage = 1 :=
  ⟨withLanes (sLink 0 1) fun l => { l with stage := 1 }, 0, 9, tBlock, tBlock, false,
    port_runs (by decide +kernel), by decide +kernel⟩

theorem test_HoldAndTrainingAct_5 :
    ∃ (s : State) (p k msg : Nat),
      PortRuns s p ∧
      laneUsable s p k = true ∧
      (lane s p k).rxFailed = false ∧
      msg % 2 ^ 128 = 0x4B1D_4B1D_4B1D_4B1D_4B1D_4B1D_4B1D_4B1D ∧
      plateOk (fld msg 639 128) = false ∧
      stageOfPort s p = 8 ∧
      (lane s p k).rxTrained = true ∧
      (lane s p k).lock = 2 ∧
      (lane s p k).peerState ≠ 5 :=
  ⟨sLocked, 0, 9, badPlate, port_runs (by decide +kernel), by decide +kernel⟩

theorem test_HoldAndTrainingAct_6 :
    ∃ (s : State) (p k j msg : Nat),
      PortRuns s p ∧
      laneUsable s p k = true ∧
      (lane s p k).rxFailed = false ∧
      msg % 2 ^ 128 = 0x4B1D_4B1D_4B1D_4B1D_4B1D_4B1D_4B1D_4B1D ∧
      plateOk (fld msg 639 128) = false ∧
      stageOfPort s p = 5 ∧
      isUp s p = false ∧
      (lane s p k).lock = 2 ∧
      (lane s p k).peerState ≠ 5 ∧
      j < 10 ∧
      j ≠ k ∧
      (lane s p j).stage = 4 ∧
      (lane s p j).lock = 2 ∧
      (lane s p j).frameAt = none :=
  ⟨withLanes (sLink 0 5) fun l => { l with stage := 4, lock := 2 }, 0, 9, 0, badPlate,
    port_runs (by decide +kernel), by decide +kernel⟩

theorem test_HoldAndTrainingAct_7 :
    ∃ (s : State) (p : Nat),
      PortRuns s p ∧
      linkState s p = 0 ∧
      stageOfPort s p = 7 ∧
      (port s p).ready = true ∧
      (port s p).peerReady = true :=
  ⟨sReady, 0, port_runs (by decide +kernel), by decide +kernel⟩

theorem test_HoldAndTrainingAct_8 :
    ∃ (s : State) (p k : Nat),
      PortRuns s p ∧
      linkState s p = 0 ∧
      inLaneStages s p = true ∧
      lockedLanes s p = [] ∧
      (port s p).told = false ∧
      k < 10 ∧
      1 ≤ (lane s p k).stage ∧
      (lane s p k).lock ≠ 2 :=
  ⟨withLanes (sLink 0 1) fun l => { l with stage := 1 }, 0, 9, port_runs (by decide +kernel), by decide +kernel⟩

theorem test_HoldAndTrainingAct_9 :
    ∃ (s : State) (p k : Nat),
      PortRuns s p ∧
      isUp s p = false ∧
      k < 10 ∧
      (lane s p k).stage = 3 ∧
      (port s p).fast = false :=
  ⟨withLanes (sLink 0 1) fun l => { l with stage := 3 }, 0, 9, port_runs (by decide +kernel), by decide +kernel⟩

theorem test_HoldAndTrainingAct_10 :
    ∃ (s : State) (p n : Nat),
      PortRuns s p ∧
      isUp s p = true ∧
      n < 10 ∧
      (lane s p n).addAsked.isSome = true ∧
      (lane s p n).waking = false :=
  ⟨withLanes sUp fun l => { l with addAsked := some 5 }, 0, 9, port_runs (by decide +kernel), by decide +kernel⟩

theorem test_HoldAndTrainingAct_11 :
    ∃ (s : State) (p k : Nat),
      PortRuns s p ∧
      laneUsable s p k = true ∧
      linkState s p = 0 ∧
      (port s p).stalled = true :=
  ⟨setPort (sLink 0 0) 0 fun x => { x with stalled := true }, 0, 9, port_runs (by decide +kernel), by decide +kernel⟩

theorem test_HoldAndTrainingAct_12 :
    ∃ (s : State) (p k : Nat),
      PortRuns s p ∧
      laneUsable s p k = true ∧
      isUp s p = true ∧
      (lane s p k).rxTrained = false ∧
      (lane s p k).rxFailed = false ∧
      (lane s p k).barred ≠ 2 :=
  ⟨sUp, 0, 9, port_runs (by decide +kernel), by decide +kernel⟩

theorem test_HoldAndTrainingAct_13 :
    ∃ (s : State) (p n : Nat),
      PortRuns s p ∧
      n < 10 ∧
      (lane s p n).waking = true :=
  ⟨withLanes s5 fun l => { l with waking := true }, 0, 9, port_runs (by decide +kernel), by decide +kernel⟩

theorem test_LaneDetectorsAndTestsAct_1 :
    ∃ (s : State) (p k cn : Nat) (filler : Bool) (c : Instr),
      (cn, c) ∈ [(0x3007_01, .losAssert p ⟨k, filler⟩), (0x3008_01, .lolAssert p k)] ∧
      PortRuns s p ∧
      (cn = 0x3007_01 → (lane s p k).peerState ≠ 4 ∨ filler = true) ∧
      laneUsable s p k = true ∧
      masked s p k = false :=
  ⟨sUp, 0, 9, ofPort 0 0x3007_01, true, .losAssert 0 ⟨9, true⟩, .head _, port_runs (by decide +kernel),
    (fun _ => .inr rfl), by decide +kernel⟩

theorem test_LaneDetectorsAndTestsAct_2 :
    ∃ (s : State) (p k _place : Nat),
      PortRuns s p ∧
      laneUsable s p k = true :=
  ⟨sUp, 0, 9, 64, port_runs (by decide +kernel), by decide +kernel⟩

theorem test_LaneDetectorsAndTestsAct_3 :
    ∃ (s : State) (rq : Requester) (p n duration : Nat),
      Granted s rq (ofLane p n 0x3010_01) [0, duration] ∧
      p < portsOf s.part ∧
      s.ports.length = 8 ∧
      (port s p).lanes.length = 10 ∧
      n < 10 ∧
      (lane s p n).test ≠ 0 :=
  ⟨tested 1, shelf, 0, 9, 2 ^ 32 - 1, granted (by decide +kernel), by decide +kernel⟩

theorem test_LaneDetectorsAndTestsAct_4 :
    ∃ (s : State) (rq : Requester) (p n m duration : Nat) (c : Instr),
      (m, c) ∈ [(1, .laneTestGenerate rq p n duration), (2, .laneTestCheck rq p n duration), (3, .laneTestNearSerial rq p n duration), (4, .laneTestNearParallel rq p n duration), (5, .laneTestFar rq p n duration)] ∧
      Granted s rq (ofLane p n 0x3010_01) [m, duration] ∧
      (3 ≤ m → n = 0 ∨ n = 8 ∨ n = 9) ∧
      (m ≠ 2 → bit (dealSet s p) n = false) ∧
      (m ≠ 1 → bit (waitSet s p) (rxPhys s p n) = false) ∧
      p < portsOf s.part ∧
      s.ports.length = 8 ∧
      (port s p).lanes.length = 10 ∧
      n < 10 ∧
      (lane s p n).rxFailed = false ∧
      (lane s p n).peerFailed = false ∧
      (lane s p n).test = 0 :=
  ⟨s5, shelf, 0, 9, 1, 2 ^ 32 - 1, .laneTestGenerate shelf 0 9 (2 ^ 32 - 1), .head _, granted (by decide +kernel),
    (fun h => absurd h (by decide)), (fun _ => by decide +kernel), (fun h => absurd rfl h), by decide +kernel⟩

theorem test_LaneDetectorsAndTestsAct_5 :
    ∃ (s : State) (p n : Nat),
      PortRuns s p ∧
      n < 10 ∧
      (lane s p n).test ≠ 0 ∧
      (lane s p n).testEnds = true :=
  ⟨tested 1, 0, 9, port_runs (by decide +kernel), by decide +kernel⟩

theorem test_LaneDetectorsAndTestsAct_6 :
    ∃ (s : State) (rq : Requester) (p n v : Nat) (o : Obj),
      GrantedWrite s rq (ofLane p n 0x300F_01) 0 v ∧
      findObj s.part (ofLane p n 0x300F_01) = some o ∧
      p < 8 ∧
      n < 10 :=
  ⟨s0, shelf, 7, 9, 2 ^ 30 + 16 * 2 ^ 24, (findObj .skx8 (ofLane 7 9 0x300F_01)).get (by decide +kernel),
    grantedWrite (by decide +kernel), by decide +kernel⟩

theorem test_LaneDetectorsAndTestsAct_7 :
    ∃ (s : State) (p n : Nat),
      PortRuns s p ∧
      (fld (get s (ofLane p n 0x300F_01)) 31 30 = 1 ∨ fld (get s (ofLane p n 0x300F_01)) 31 30 = 2) ∧
      n < 10 :=
  ⟨puts s0 [(ofLane 0 9 0x300F_01, 0, 2 ^ 30)], 0, 9, port_runs (by decide +kernel), .inl (by decide +kernel),
    by decide +kernel⟩

theorem test_LaneDetectorsAndTestsAct_8 :
    ∃ (s : State) (p n : Nat),
      PortRuns s p ∧
      (lane s p n).test ∈ [2, 3, 4] ∧
      get s (ofLane p n 0x300E_01) = 1 :=
  ⟨puts (tested 4) [(ofLane 0 9 0x300E_01, 0, 1)], 0, 9, port_runs (by decide +kernel), by decide +kernel⟩

theorem test_LaneDetectorsAndTestsAct_9 :
    ∃ (s : State) (p n _bits _errors : Nat),
      PortRuns s p ∧
      get s (ofLane p n 0x300E_01) = 2 ∧
      n < 10 :=
  ⟨puts s0 [(ofLane 0 9 0x300E_01, 0, 2)], 0, 9, 2 ^ 63, 64, port_runs (by decide +kernel), by decide +kernel⟩

theorem test_TimeAndMarkAct_1 :
    ∃ (s : State) (p _stamp : Nat),
      switchOn s = true ∧
      parentPort s = some p :=
  ⟨sChild, 0, 5, by decide +kernel⟩

theorem test_TimeAndMarkAct_2 :
    ∃ (s : State),
      s.power.porLow = false ∧
      s.time.req.isSome = true :=
  ⟨sAsking, by decide +kernel⟩

theorem test_TimeAndMarkAct_3 :
    ∃ (s t : State) (p _stamp : Nat) (k : Packet),
      Checked s p k t ∧
      k.opcode = opTimeSync ∧
      p < portsOf s.part ∧
      syncKind k = 0 :=
  ⟨sUp, after sUp 0 (kSync 0 0), 0, 5, kSync 0 0, checked (by decide +kernel), by decide +kernel⟩

theorem test_TimeAndMarkAct_4 :
    ∃ (s t : State) (p _stamp q t1 : Nat) (k : Packet),
      Checked s p k t ∧
      k.opcode = opTimeSync ∧
      p < portsOf s.part ∧
      syncKind k = 1 ∧
      t.time.req = some (q, t1) ∧
      parentPort t = some p ∧
      fld (syncSlot k) 125 110 = q ∧
      bit (syncSlot k) 109 = true :=
  ⟨sAsking, after sAsking 0 kSyncRsp, 0, 5, 7, 1, kSyncRsp, checked (by decide +kernel), by decide +kernel⟩

theorem test_TimeAndMarkAct_5 :
    ∃ (s : State),
      s.power.porLow = false ∧
      timeState s = 2 ∧
      timeRole s ≠ 1 :=
  ⟨puts s0 [(0x9002_01, 0, 2)], by decide +kernel⟩

theorem test_TimeAndMarkAct_6 :
    ∃ (s : State) (rq : Requester) (v : Nat),
      Granted s rq 0x9001_06 [v] ∧
      timeRole s = 1 ∧
      v < 2 ^ 64 ∧
      newer 64 v (now s) = true :=
  ⟨sMaster, shelf, 2 ^ 63 - 1, granted (by decide +kernel), by decide +kernel⟩

theorem test_TimeAndMarkAct_7 :
    ∃ (s : State) (rq : Requester) (v : Nat) (o : Obj),
      GrantedWrite s rq 0x9100_01 0 v ∧
      findObj s.part 0x9100_01 = some o ∧
      storedValue s.part o 0x9100_01 v ≠ markMode s :=
  ⟨s0, shelf, 1, (findObj .skx8 0x9100_01).get (by decide +kernel), grantedWrite (by decide +kernel),
    by decide +kernel⟩

theorem test_TimeAndMarkAct_8 :
    ∃ (s : State),
      s.power.porLow = false ∧
      markMode s = 1 :=
  ⟨marking 1, by decide +kernel⟩

theorem test_TimeAndMarkAct_9 :
    ∃ (s : State),
      (∀ e, s.time.lastEdge = some e → 256000 ≤ subMod 64 (now s) e) ∧
      s.power.porLow = false ∧
      markMode s = 1 ∧
      timeRole s ≠ 2 :=
  ⟨marking 1, no_edge, by decide +kernel⟩

theorem test_TimeAndMarkAct_10 :
    ∃ (s : State),
      held s = false ∧
      stopped s = false ∧
      markMode s = 2 :=
  ⟨marking 2, by decide +kernel⟩

theorem test_ObservationActs_1 :
    ∃ (s : State) (rq : Requester) (mask : Nat),
      Granted s rq 0xD102_00 [mask] ∧
      mask < 2 ^ 16 :=
  ⟨s0, shelf, 2 ^ 16 - 1, granted (by decide +kernel), by decide +kernel⟩

theorem test_ObservationActs_2 :
    ∃ (s : State) (rq : Requester) (mask t at0 : Nat),
      Granted s rq 0xD200_00 [mask, t] ∧
      (t = 0 ∧ at0 = (now s + 512000) % 2 ^ 64 ∨ t ≠ 0 ∧ newer 64 t (now s) = true ∧ subMod 64 t (now s) ≤ 256_000_000_000 ∧ at0 = t) ∧
      domainOn s 24 = true :=
  ⟨s0, shelf, 2 ^ 16 - 1, 0, 512000, granted (by decide +kernel), .inl (by decide +kernel), by decide +kernel⟩

theorem test_ObservationActs_3 :
    ∃ (s : State) (mask t : Nat),
      unitsRun s 24 = true ∧
      s.observe.snapshot = some (mask, t) :=
  ⟨{ s0 with observe.snapshot := some (2 ^ 16 - 1, 512000) }, 2 ^ 16 - 1, 512000, by decide +kernel⟩

theorem test_ObservationActs_4 :
    ∃ (s : State) (m off : Nat),
      noLocksAt s m ∧
      unitsRun s 24 = true ∧
      s.observe.line ≠ [] ∧
      off = fld (traceCfg s) 99 64 * 64 + tracePlaced s % traceSize s * 16 ∧
      off % 4096 + 16 * s.observe.line.length ≤ 4096 ∧
      mspPort s 16 (fld (traceCfg s) 107 100) off = some m ∧
      quiesced s m = false :=
  ⟨sLine, 0, 0, no_locks (by decide +kernel), by decide +kernel⟩

theorem test_ObservationActs_5 :
    ∃ (s : State) (i r : Nat) (rs : List Nat),
      unitsRun s 24 = true ∧
      tracePath s = 1 ∧
      tracePlaces s = true ∧
      traceTurn s = some i ∧
      traceRing s i = r :: rs ∧
      lookupT s.observe.lost i = none ∧
      (tracePlaced s + s.observe.line.length + 1) % 4 ≠ 0 :=
  ⟨sTrace, 0, 1, [], by decide +kernel⟩

theorem test_ObservationActs_6 :
    ∃ (s : State) (rq : Requester),
      Granted s rq 0xC200_00 [] ∧
      stopped s = false :=
  ⟨s0, shelf, granted (by decide +kernel), by decide +kernel⟩

theorem test_ScanAndTestPortAct_1 :
    ∃ (s : State) (rq : Requester) (chain first n : Nat),
      Granted s rq 0xC210_00 [chain, first] ∧
      stopped s = true ∧
      chainBits s chain ≠ 0 ∧
      first % 8 = 0 ∧
      first < chainBits s chain ∧
      chainOff s chain = false ∧
      n = min 32768 (chainBits s chain - first) :=
  ⟨sStop, shelf, 0, 9437176, 8, granted (by decide +kernel), by decide +kernel⟩

theorem test_ScanAndTestPortAct_2 :
    ∃ (s : State) (_b : Nat),
      (stopped s = true ∨ s.power.blockLow = true) ∧
      s.power.porLow = false :=
  ⟨{ State.reset with power.blockLow := true }, 2 ^ 19 - 1, .inr (by decide +kernel), by decide +kernel⟩

theorem test_ScanAndTestPortAct_3 :
    ∃ (s : State) (_b : Nat),
      s.power.porLow = false ∧
      stopped s = false ∧
      s.power.blockLow = false :=
  ⟨s0, 0, by decide +kernel⟩

theorem test_ScanAndTestPortAct_4 :
    ∃ (s : State),
      s.power.porLow = false :=
  ⟨State.reset, by decide +kernel⟩

theorem test_ScanAndTestPortAct_5 :
    ∃ (s : State) (_v : Nat),
      s.power.porLow = false :=
  ⟨State.reset, 2 ^ 19 - 1, by decide +kernel⟩

theorem test_ScanAndTestPortAct_6 :
    ∃ (s : State) (_chain : Nat),
      s.power.porLow = false ∧
      stopped s = true :=
  ⟨sStop, 255, by decide +kernel⟩

theorem test_ScanAndTestPortAct_7 :
    ∃ (s : State) (_n size : Nat),
      s.power.porLow = false ∧
      stopped s = true ∧
      size = chainBits s s.observe.tapChain ∧
      size ≠ 0 :=
  ⟨sStop, 8, chainBits sStop 0, by decide +kernel⟩

theorem test_ScanAndTestPortAct_8 :
    ∃ (s : State) (_tdi : Bool),
      s.power.porLow = false :=
  ⟨State.reset, true, by decide +kernel⟩

theorem test_FailuresAreHandled_1 :
    ∃ (s : State) (m n : Nat),
      held s = false ∧
      stopped s = false ∧
      m < 12 ∧
      (outstandingAt s m ≠ [] ∨ (nextReq s m).isSome = true) ∧
      portOwner s m = some n ∧
      partitionState s n = 0 ∧
      get s (0xA101_01 + n) ≠ 1 :=
  ⟨sWatched, 11, 15, by decide +kernel⟩

theorem test_FailuresAreHandled_2 :
    ∃ (s : State) (p q : Nat),
      held s = false ∧
      p < 8 ∧
      isUp s p = true ∧
      queueOf s p q ≠ [] :=
  ⟨inQueue sUp 0 mgmtDesc, 0, 0, by decide +kernel⟩

theorem test_FailuresAreHandled_3 :
    ∃ (s : State),
      held s = false ∧
      firmwareRuns s = true ∧
      (∀ v ∈ s.mgmt.running, v.cn ≠ 0xA011_04) :=
  ⟨s0, by decide +kernel⟩

theorem test_FailuresAreHandled_4 :
    ∃ (s : State),
      held s = false :=
  ⟨s0, by decide +kernel⟩

theorem test_FailuresAreHandled_5 :
    ∃ (s : State) (bank row j : Nat) (stuck : Bool) (c : Instr),
      (stuck, c) ∈ [(false, .uncorrectableWord (.carrel bank row)), (true, .stuckBitTest (.carrel bank row) true)] ∧
      unitsRun s (10 + bank / 8) = true ∧
      bank < 64 ∧
      row < 4096 ∧
      bank * 4096 + row ∉ s.carrel.dead ∧
      getF s 0xF100_00 bank 31 26 < 32 ∧
      freeSpare s bank = some j :=
  ⟨s0, 63, 4095, 0, false, .uncorrectableWord (.carrel 63 4095), .head _, by decide +kernel⟩

theorem test_FailuresAreHandled_6 :
    ∃ (s : State) (site : MemSite),
      siteRuns s site = true :=
  ⟨s0, .tracker 32767, by decide +kernel⟩

theorem test_FailuresAreHandled_7 :
    ∃ (s : State) (bank _row : Nat),
      unitsRun s (10 + bank / 8) = true :=
  ⟨s0, 63, 4095, by decide +kernel⟩

theorem test_FailuresAreHandled_8 :
    ∃ (s : State) (i : Nat) (_w : Tracker),
      unitsRun s 2 = true ∧
      i < trackerCount ∧
      i ∉ s.switch.retired :=
  ⟨sTracked, 32767, trackerOf (.engine 2 0) opRead, by decide +kernel⟩

theorem test_FailuresAreHandled_9 :
    ∃ (s : State) (n : Nat),
      held s = false ∧
      sentReports s = [n] ∧
      reportInband s (fld (getRow s reportCn n) 253 246) = true ∧
      reportShelf s (fld (getRow s reportCn n) 253 246) = false :=
  ⟨sResend, 255, by decide +kernel⟩

theorem test_PartitionsResetAndGate_1 :
    ∃ (s : State) (rq : Requester) (n : Nat),
      Granted s rq 0xA103_00 [n] ∧
      n < 16 ∧
      partitionDown s n = false ∧
      stopped s = false :=
  ⟨s0, shelf, 15, granted (by decide +kernel), by decide +kernel⟩

theorem test_PartitionsResetAndGate_2 :
    ∃ (s : State) (n : Nat),
      held s = false ∧
      n < 16 ∧
      partitionState s n = 2 ∧
      partitionDrained s n = true ∧
      n ∉ s.recovery.undrained :=
  ⟨part15 2, 15, by decide +kernel⟩

theorem test_PartitionsResetAndGate_3 :
    ∃ (s : State) (n : Nat),
      held s = false ∧
      partitionState s n = 2 ∧
      n < 16 ∧
      n ∉ s.recovery.undrained :=
  ⟨part15 2, 15, by decide +kernel⟩

theorem test_PartitionsResetAndGate_4 :
    ∃ (s : State) (rq : Requester) (n : Nat),
      Granted s rq 0xA104_00 [n] ∧
      n < 16 ∧
      partitionState s n = 3 ∧
      s.power.partLow.contains n = false :=
  ⟨part15 3, shelf, 15, granted (by decide +kernel), by decide +kernel⟩

theorem test_PartitionsResetAndGate_5 :
    ∃ (s : State) (n : Nat),
      held s = false ∧
      n < 16 ∧
      partitionDown s n = true ∧
      n ∉ s.recovery.quiet :=
  ⟨part15 3, 15, by decide +kernel⟩

theorem test_PartitionsResetAndGate_6 :
    ∃ (s : State) (rq : Requester) (n ctx : Nat) (e : Nat × Nat),
      Granted s rq 0xA112_00 [n, ctx] ∧
      n < 16 ∧
      ctx < 2 ^ 16 ∧
      gateRow s n ctx = some e ∧
      fld e.2 126 125 = 0 ∧
      admittedRows s n = [] :=
  ⟨sListed, shelf, 15, 4095, (63, listRow), granted (by decide +kernel), by decide +kernel⟩

theorem test_PartitionsResetAndGate_7 :
    ∃ (s : State) (rq : Requester) (n ctx : Nat) (e : Nat × Nat),
      Granted s rq 0xA113_00 [n, ctx] ∧
      n < 16 ∧
      ctx < 2 ^ 16 ∧
      gateRow s n ctx = some e ∧
      fld e.2 126 125 ≤ 1 :=
  ⟨sListed, shelf, 15, 4095, (63, listRow), granted (by decide +kernel), by decide +kernel⟩

theorem test_PartitionsResetAndGate_8 :
    ∃ (s : State) (rq : Requester) (n : Nat),
      Granted s rq 0xA114_00 [n] ∧
      n < 16 ∧
      sortedT s.cat = true :=
  ⟨sListed, shelf, 15, granted (by decide +kernel), by decide +kernel⟩

theorem test_PartitionsResetAndGate_9 :
    ∃ (s : State) (rq : Requester),
      Granted s rq 0xA115_00 [] ∧
      sortedT s.cat = true ∧
      (∀ n, n < 16 → partitionState s n = 0) :=
  ⟨sListed, shelf, granted (by decide +kernel), by decide +kernel⟩

theorem test_ShelfNetAnswers_1 :
    ∃ (s : State) (addr udp c0 : Nat) (d : Datagram) (m : Message) (i : Item) (o : Obj) (c : Instr),
      c ∈ [.request addr udp d, .nextItem addr udp d] ∧
      servesFabric s = true ∧
      d.frame.rxEr = false ∧
      datagramFits s d addr udp d.frame.dst = true ∧
      16 ≤ d.bytes.length ∧
      m = messageOf d.bytes ∧
      m.type = 1 ∧
      requestItems s 1440 m d.bytes.length = some [i] ∧
      i.op = itemNext ∧
      nextBeyond s i = false ∧
      nextForm s i = false ∧
      clientOf s { cls := .shelf, ident := addr, port := udp } = none ∧
      s.mgmt.clients.length < 64 ∧
      s.mgmt.waiting = [] ∧
      nextObj s.part i.cn = some c0 ∧
      findObj s.part c0 = some o :=
  ⟨sShelf, 9, 30412, 0x1000_01, toShelf nextMsg, messageOf nextMsg, nextI,
    (findObj .skx8 0x1000_01).get (by decide +kernel), .request 9 30412 (toShelf nextMsg), .head _,
    by decide +kernel⟩

theorem test_ShelfNetAnswers_2 :
    ∃ (s : State) (addr udp : Nat) (d : Datagram) (m : Message),
      (m.type < 2 ∨ 6 < m.type) ∧
      servesFabric s = true ∧
      d.frame.rxEr = false ∧
      datagramFits s d addr udp d.frame.dst = true ∧
      16 ≤ d.bytes.length ∧
      m = messageOf d.bytes ∧
      requestItems s 1440 m d.bytes.length = none :=
  ⟨sShelf, 9, 30412, toShelf (msgBytes 7 0 []), messageOf (msgBytes 7 0 []), .inr (by decide +kernel),
    by decide +kernel⟩

theorem test_ShelfNetAnswers_3 :
    ∃ (s : State) (addr udp dst : Nat) (d : Datagram) (m : Message) (uni : Bool),
      (uni = true → dst = shelfAddress s) ∧
      servesFabric s = true ∧
      d.frame.rxEr = false ∧
      (uni = false → dst = d.frame.dst ∧ dst ≠ shelfAddress s) ∧
      datagramFits s d addr udp dst = true ∧
      d.bytes.length = 16 ∧
      m = messageOf d.bytes ∧
      m.version = 1 ∧
      m.type = 3 ∧
      m.count = 0 ∧
      m.length = 16 :=
  ⟨sShelf, 9, 30412, allNodes, datagram allNodes (msgBytes 3 0 []), messageOf (msgBytes 3 0 []), false, nofun,
    by decide +kernel⟩

theorem test_ShelfNetAnswers_4 :
    ∃ (s : State) (addr udp n : Nat) (ds : List (Nat × Nat × Nat)),
      s.mgmt.discovers = (addr, udp, n) :: ds :=
  ⟨{ sShelf with mgmt.discovers := [(9, 30412, 1)] }, 9, 30412, 1, [], by decide +kernel⟩

theorem test_ShelfNetAnswers_5 :
    ∃ (s : State) (d : Datagram) (type cn : Nat) (c : Instr),
      (type, cn, c) ∈ [(5, 0xA202_06, .notify d), (2, 0x1210_03, .response d), (4, 0x1210_03, .discoverRsp d)] ∧
      servesFabric s = true ∧
      d.frame.rxEr = false ∧
      datagramFits s d d.frame.src d.sport d.frame.dst = true ∧
      16 ≤ d.bytes.length ∧
      (messageOf d.bytes).type = type :=
  ⟨sShelf, toShelf (msgBytes 5 0 []), 5, 0xA202_06, .notify (toShelf (msgBytes 5 0 [])), .head _, by decide +kernel⟩

theorem test_ShelfNetAnswers_6 :
    ∃ (s : State) (addr udp n x : Nat) (d : Datagram),
      (∀ m, m ≠ n → (fld (getRow s reportCn m) 255 254 = 0 ∨ fld (getRow s reportCn m) 211 196 ≠ fld (getRow s reportCn n) 211 196)) ∧
      servesFabric s = true ∧
      d.frame.rxEr = false ∧
      datagramFits s d addr udp d.frame.dst = true ∧
      sortedT s.cat = true ∧
      d.bytes.length = 32 ∧
      (messageOf d.bytes).version = 1 ∧
      (messageOf d.bytes).type = 6 ∧
      (messageOf d.bytes).count = 0 ∧
      (messageOf d.bytes).length = 32 ∧
      x = numLE (d.bytes.drop 16) ∧
      get s 0xA202_03 = 0 ∧
      n < 256 ∧
      fld (getRow s reportCn n) 255 254 ≠ 0 ∧
      fld (getRow s reportCn n) 211 196 = fld x 127 112 ∧
      fld (getRow s reportCn n) 253 246 = fld x 111 104 ∧
      fld (getRow s reportCn n) 241 220 = fld x 103 82 ∧
      fld (getRow s reportCn n) 219 212 = fld x 81 74 ∧
      fromListener s addr udp = true :=
  ⟨sReported, numLE (bytesLE 16 (get s0 0x1200_0A)).reverse, fld (get s0 0x1200_0A) 143 128, 255,
    numLE (ackBytes.drop 16), fromListen, one_report (by decide +kernel), by decide +kernel⟩

theorem test_ShelfNetAnswers_7 :
    ∃ (s : State) (addr udp : Nat) (d : Datagram),
      servesFabric s = true ∧
      d.frame.rxEr = false ∧
      datagramFits s d addr udp d.frame.dst = true ∧
      d.bytes.length = 32 ∧
      (messageOf d.bytes).version = 1 ∧
      (messageOf d.bytes).type = 6 ∧
      (messageOf d.bytes).count = 0 ∧
      (messageOf d.bytes).length = 32 ∧
      fromListener s addr udp = false :=
  ⟨sReported, 9, 30412, datagram (shelfAddress sReported) ackBytes, by decide +kernel⟩

theorem test_ShelfNetAnswers_8 :
    ∃ (s : State) (src dst : Nat) (d : Datagram) (t : FramedTarget) (e : FramedEcho) (fits : Bool) (f : MacFrame)
    (c : Instr),
      (fits, f, c) ∈ [(datagramFits s d d.frame.src d.sport d.frame.dst, d.frame, Instr.notify d), (datagramFits s d d.frame.src d.sport d.frame.dst, d.frame, .response d), (datagramFits s d d.frame.src d.sport d.frame.dst, d.frame, .discoverRsp d), (neighbourFits s t 135 src t.frame.dst, t.frame, .neighbourSolicitation src t), (neighbourFits s t 136 t.frame.src t.frame.dst, t.frame, .neighbourAdvertisement t), (echoFits s e src dst, e.frame, .echoRequest src dst e)] ∧
      servesFabric s = true ∧
      d.bytes.length < 16 ∧
      f.rxEr = true :=
  ⟨sShelf, 9, allNodes, toShelf [], neighbourMsg 135 allNodes 0, { echoMsg allNodes [] with frame.rxEr := true },
    echoFits sShelf { echoMsg allNodes [] with frame.rxEr := true } 9 allNodes,
    { (echoMsg allNodes []).frame with rxEr := true },
    .echoRequest 9 allNodes { echoMsg allNodes [] with frame.rxEr := true },
    .tail _ (.tail _ (.tail _ (.tail _ (.tail _ (.head _))))), by decide +kernel⟩

theorem test_ShelfNetAnswers_9 :
    ∃ (s : State) (src dst : Nat) (d : Datagram) (t : FramedTarget) (e : FramedEcho) (fits : Bool) (f : MacFrame)
    (c : Instr),
      (fits, f, c) ∈ [(datagramFits s d d.frame.src d.sport d.frame.dst, d.frame, Instr.notify d), (datagramFits s d d.frame.src d.sport d.frame.dst, d.frame, .response d), (datagramFits s d d.frame.src d.sport d.frame.dst, d.frame, .discoverRsp d), (neighbourFits s t 135 src t.frame.dst, t.frame, .neighbourSolicitation src t), (neighbourFits s t 136 t.frame.src t.frame.dst, t.frame, .neighbourAdvertisement t), (echoFits s e src dst, e.frame, .echoRequest src dst e)] ∧
      servesFabric s = true ∧
      d.bytes.length < 16 ∧
      f.rxEr = false ∧
      fits = false :=
  ⟨sShelf, 9, allNodes, toShelf [], neighbourMsg 135 allNodes 0, echoMsg allNodes [],
    neighbourFits sShelf (neighbourMsg 135 allNodes 0) 135 9 allNodes, (neighbourMsg 135 allNodes 0).frame,
    .neighbourSolicitation 9 (neighbourMsg 135 allNodes 0), .tail _ (.tail _ (.tail _ (.head _))),
    by decide +kernel⟩

theorem test_ShelfNetAnswers_10 :
    ∃ (s : State) (src : Nat) (t : FramedTarget),
      servesFabric s = true ∧
      t.frame.rxEr = false ∧
      neighbourFits s t 135 src t.frame.dst = true ∧
      s.mgmt.dad = false ∧
      shelfOn s = true :=
  ⟨sShelf, 9, neighbourMsg 135 (solicitedNode sShelf) (shelfAddress sShelf), by decide +kernel⟩

theorem test_ShelfNetAnswers_11 :
    ∃ (s : State) (t : FramedTarget),
      servesFabric s = true ∧
      t.frame.rxEr = false ∧
      neighbourFits s t 136 t.frame.src t.frame.dst = true :=
  ⟨sShelf, neighbourMsg 136 allNodes (shelfAddress sShelf), by decide +kernel⟩

theorem test_ShelfNetAnswers_12 :
    ∃ (s : State) (src dst : Nat) (e : FramedEcho),
      servesFabric s = true ∧
      e.frame.rxEr = false ∧
      echoFits s e src dst = true ∧
      shelfOn s = true :=
  ⟨sShelf, 9, shelfAddress sShelf, echoMsg (shelfAddress sShelf) [0, 1, 2, 3], by decide +kernel⟩

theorem test_ShelfNetAnswers_14 :
    ∃ (s : State),
      s.mgmt.owner.isSome = true :=
  ⟨{ s0 with mgmt.owner := some shelf }, by decide +kernel⟩

theorem test_CatalogueAndHostWindowAct_1 :
    ∃ (s : State) (rq : Requester),
      GrantedCommission s rq 1 ∧
      commission s = 0 :=
  ⟨s0, shelf, grantedCommission (by decide +kernel), by decide +kernel⟩

theorem test_CatalogueAndHostWindowAct_2 :
    ∃ (s : State) (rq : Requester),
      GrantedCommission s rq 2 ∧
      commission s = 1 ∧
      ordinary (ownId s) = true ∧
      quotaSum s ≤ 64 ∧
      s.mgmt.fromRetired = false :=
  ⟨sOwned, shelf, grantedCommission (by decide +kernel), by decide +kernel⟩

theorem test_CatalogueAndHostWindowAct_3 :
    ∃ (s : State) (rq : Requester),
      GrantedCommission s rq 3 ∧
      (commission s = 1 ∨ commission s = 2) :=
  ⟨puts s5 [(0x1100_00, 0, 2)], shelf, grantedCommission (by decide +kernel), .inr (by decide +kernel)⟩

theorem test_CatalogueAndHostWindowAct_4 :
    ∃ (s : State) (rq : Requester) (cn row v : Nat) (o : Obj),
      GrantedWrite s rq cn row v ∧
      (rq.cls ≠ .host ∨ cn ≠ 0x11F0_00) ∧
      row < 2 ^ 32 ∧
      findObj s.part cn = some o :=
  ⟨s0, shelf, 0xA200_03, 0, 3, (findObj .skx8 0xA200_03).get (by decide +kernel), grantedWrite (by decide +kernel),
    .inl (by decide +kernel), by decide +kernel⟩

theorem test_CatalogueAndHostWindowAct_5 :
    ∃ (s : State) (rq : Requester) (v : Nat) (o : Obj),
      GrantedWrite s rq 0x1200_01 0 v ∧
      findObj s.part 0x1200_01 = some o :=
  ⟨s0, shelf, 1, (findObj .skx8 0x1200_01).get (by decide +kernel), grantedWrite (by decide +kernel),
    by decide +kernel⟩

theorem test_CatalogueAndHostWindowAct_6 :
    ∃ (s : State) (offset cn : Nat) (bs : List Byte) (o : Obj),
      GrantedWrite { s with mgmt.collect := eraseT s.mgmt.collect cn } hostRq cn 0 (numLE bs) ∧
      domainOn s 3 = true ∧
      offset % 16 = 0 ∧
      cn = slotCn offset ∧
      serves s hostRq cn = true ∧
      slotObject s cn = some o ∧
      o.type ≠ .cmd ∧
      cn ≠ 0x11F0_00 ∧
      bs.length = o.type.bytes ∧
      bs ≠ [] :=
  ⟨sHost, hostSlot, 0xA200_03, [3], (findObj .skx8 0xA200_03).get (by decide +kernel),
    grantedWrite (by decide +kernel), by decide +kernel⟩

theorem test_CatalogueAndHostWindowAct_7 :
    ∃ (s : State) (offset cn len : Nat),
      domainOn s 3 = true ∧
      offset % 16 = 0 ∧
      cn = slotCn offset ∧
      len ≠ 0 ∧
      len ≤ 16 ∧
      serves s hostRq cn = true ∧
      s.mgmt.waiting = [] ∧
      (stopped s && haltedObject cn) = false :=
  ⟨s0, hostSlot, 0xA200_03, 16, by decide +kernel⟩

theorem test_CatalogueAndHostWindowAct_8 :
    ∃ (s : State) (header c0 : Nat) (o : Obj) (i : Item),
      serves s hostRq 0x11F0_00 = true ∧
      s.mgmt.longMsg = 0 ∧
      s.mgmt.waiting = [] ∧
      fld header 101 96 = 0 ∧
      fld header 27 0 = 0 ∧
      fld header 47 36 ≤ 4080 ∧
      fld header 103 102 = itemNext ∧
      i = itemOf header [] ∧
      nextBeyond s i = false ∧
      nextForm s i = false ∧
      nextObj s.part i.cn = some c0 ∧
      findObj s.part c0 = some o :=
  ⟨s0, hostNext, 0x1000_01, (findObj .skx8 0x1000_01).get (by decide +kernel), itemOf hostNext [], by decide +kernel⟩

theorem test_NoticesGoToTheirSlots_1 :
    ∃ (s : State) (rq : Requester) (n : Nat),
      Granted s rq 0x8202_00 [n] ∧
      n < 256 ∧
      fld (ringRow s n) 255 254 = 0 :=
  ⟨s0, shelf, 255, granted (by decide +kernel), by decide +kernel⟩

theorem test_NoticesGoToTheirSlots_2 :
    ∃ (s : State) (n m w size : Nat) (x : NoticePending),
      noLocksAt s m ∧
      unitsRun s 2 = true ∧
      n < 256 ∧
      rgOn (ringRow s n) = true ∧
      ringFull s n = false ∧
      nextNotice s n = some x ∧
      w = (ringRun s n).written ∧
      size = rgSize (ringRow s n) ∧
      mspPort s (rgPartition (ringRow s n)) (rgSegment (ringRow s n)) (rgBase (ringRow s n) + w % size * 32) = some m ∧
      quiesced s m = false :=
  ⟨sNotice, 255, 0, 15, 16, aNotice, no_locks (by decide +kernel), by decide +kernel⟩

theorem test_AbsentInstancesAreUnsupported_1 :
    ∃ (s : State) (rq : Requester) (n x y lo hi cn : Nat) (xs : List Nat) (c : Instr),
      (lo, hi, cn, xs, c) ∈ [(1024, 2 ^ 32, 0x5102_00, [n], Instr.windowOpen rq n), (1024, 2 ^ 32, 0x5103_00, [n], .windowModify rq n), (1024, 2 ^ 32, 0x5104_00, [n], .windowClose rq n), (16, 2 ^ 8, 0x5201_00, [n], .partitionEditionRaise rq n), (64, 2 ^ 8, 0x8102_00, [n], .trayEnable rq n), (64, 2 ^ 8, 0x8103_00, [n], .trayDisable rq n), (4096, 2 ^ 16, 0x6403_00, [n], .loanClose rq n), (4096, 2 ^ 16, 0x6409_00, [n], .loanHopClose rq n), (16, 2 ^ 8, 0xA103_00, [n], .partitionReset rq n), (16, 2 ^ 8, 0xA104_00, [n], .partitionReady rq n), (portsOf s.part, 2 ^ 8, 0xB020_00, [x, n, y], .counterpartRestore rq x n y)] ∧
      Granted s rq cn xs ∧
      lo ≤ n ∧
      n < hi :=
  ⟨s0, shelf, 2 ^ 32 - 1, 0, 0, 1024, 2 ^ 32, 0x5102_00, [2 ^ 32 - 1], .windowOpen shelf (2 ^ 32 - 1), .head _,
    granted (by decide +kernel), by decide +kernel⟩

theorem test_AbsentInstancesAreUnsupported_2 :
    ∃ (s : State) (rq : Requester) (n x p lo hi cn : Nat) (xs : List Nat) (c : Instr),
      (lo, hi, cn, xs, c) ∈ [(16, 2 ^ 8, 0xA112_00, [n, x], Instr.gateAdmit rq n x), (16, 2 ^ 8, 0xA113_00, [n, x], .gateClear rq n x), (16, 2 ^ 8, 0xA114_00, [n], .gateOpen rq n), (portsOf s.part, 2 ^ 8, 0x6330_00, [n], .sampleClear rq n), (10, 2 ^ 8, ofPort p 0x2010_03, [n, 1], .laneChangeRemove rq p n), (10, 2 ^ 8, ofPort p 0x2010_03, [n, 0], .laneChangeAdd rq p n), (if chainBits s n = 0 then n else n + 1, 2 ^ 8, 0xC210_00, [n, x], .scanRead rq n x), (if get s 0x8310_02 < x + n ∧ n ≠ 0 then n else n + 1, 2 ^ 32, 0x8311_00, [x, n], .ledgerClear rq x n)] ∧
      Granted s rq cn xs ∧
      lo ≤ n ∧
      n < hi :=
  ⟨s0, shelf, 255, 4095, 0, 16, 2 ^ 8, 0xA112_00, [255, 4095], .gateAdmit shelf 255 4095, .head _,
    granted (by decide +kernel), by decide +kernel⟩

theorem test_RightsMasksGrant_1 :
    ∃ (_s : State) (rq : Requester) (cn g first last : Nat),
      (g, first, last) ∈ [(0, 0x1000, 0x10FF), (1, 0x1100, 0x11FF), (2, 0x1200, 0x12FF), (3, 0x2000, 0x27FF), (4, 0x3000, 0x37FF), (5, 0x4000, 0x41FF), (6, 0x5000, 0x54FF), (7, 0x6000, 0x64FF), (8, 0x7000, 0x74FF), (9, 0x8000, 0x84FF), (10, 0x9000, 0x91FF), (11, 0xA000, 0xA2FF), (12, 0xB000, 0xB0FF), (13, 0xC000, 0xC2FF), (14, 0xD000, 0xDFFF), (15, 0xE000, 0xE1FF), (16, 0xF000, 0xF1FF)] ∧
      first ≤ cn / 256 ∧
      cn / 256 ≤ last ∧
      rq.cls = .shelf :=
  ⟨s0, shelf, 0x10FF_FF, 0, 0x1000, 0x10FF, .head _, by decide +kernel⟩

theorem test_RightsMasksGrant_2 :
    ∃ (_s : State) (rq : Requester) (cn g first last : Nat),
      (g, first, last) ∈ [(0, 0x1000, 0x10FF), (1, 0x1100, 0x11FF), (2, 0x1200, 0x12FF), (3, 0x2000, 0x27FF), (4, 0x3000, 0x37FF), (5, 0x4000, 0x41FF), (6, 0x5000, 0x54FF), (7, 0x6000, 0x64FF), (8, 0x7000, 0x74FF), (9, 0x8000, 0x84FF), (10, 0x9000, 0x91FF), (11, 0xA000, 0xA2FF), (12, 0xB000, 0xB0FF), (13, 0xC000, 0xC2FF), (14, 0xD000, 0xDFFF), (15, 0xE000, 0xE1FF), (16, 0xF000, 0xF1FF)] ∧
      first ≤ cn / 256 ∧
      cn / 256 ≤ last ∧
      rq.cls = .fm :=
  ⟨s0, { shelf with cls := .fm }, 0x10FF_FF, 0, 0x1000, 0x10FF, .head _, by decide +kernel⟩

theorem test_RightsMasksGrant_3 :
    ∃ (s : State) (rq : Requester) (cn g first last : Nat),
      (g, first, last) ∈ [(0, 0x1000, 0x10FF), (1, 0x1100, 0x11FF), (2, 0x1200, 0x12FF), (3, 0x2000, 0x27FF), (4, 0x3000, 0x37FF), (5, 0x4000, 0x41FF), (6, 0x5000, 0x54FF), (7, 0x6000, 0x64FF), (8, 0x7000, 0x74FF), (9, 0x8000, 0x84FF), (10, 0x9000, 0x91FF), (11, 0xA000, 0xA2FF), (12, 0xB000, 0xB0FF), (13, 0xC000, 0xC2FF), (14, 0xD000, 0xDFFF), (15, 0xE000, 0xE1FF), (16, 0xF000, 0xF1FF)] ∧
      first ≤ cn / 256 ∧
      cn / 256 ≤ last ∧
      rq.cls = .host ∧
      fabricReserved cn = false ∧
      longAccessObject cn = false ∧
      hostException s cn = false :=
  ⟨s0, hostRq, 0x10FF_FF, 0, 0x1000, 0x10FF, .head _, by decide +kernel⟩

theorem test_RightsMasksGrant_4 :
    ∃ (_s : State) (rq : Requester) (cn g first last : Nat),
      (g, first, last) ∈ [(0, 0x1000, 0x10FF), (1, 0x1100, 0x11FF), (2, 0x1200, 0x12FF), (3, 0x2000, 0x27FF), (4, 0x3000, 0x37FF), (5, 0x4000, 0x41FF), (6, 0x5000, 0x54FF), (7, 0x6000, 0x64FF), (8, 0x7000, 0x74FF), (9, 0x8000, 0x84FF), (10, 0x9000, 0x91FF), (11, 0xA000, 0xA2FF), (12, 0xB000, 0xB0FF), (13, 0xC000, 0xC2FF), (14, 0xD000, 0xDFFF), (15, 0xE000, 0xE1FF), (16, 0xF000, 0xF1FF)] ∧
      first ≤ cn / 256 ∧
      cn / 256 ≤ last ∧
      rq.cls = .neighbour ∧
      cn ≠ 0x6408_00 ∧
      cn ≠ 0x6409_00 :=
  ⟨s0, fromPort0, 0x10FF_FF, 0, 0x1000, 0x10FF, .head _, by decide +kernel⟩

theorem test_RightsMasksGrant_5 :
    ∃ (s : State) (rq : Requester) (m v : Nat),
      GrantedWrite s rq (0x1101_00 + m) 0 v ∧
      1 ≤ m ∧
      m ≤ 4 :=
  ⟨sOwned, shelf, 1, 2 ^ 17 - 1, grantedWrite (by decide +kernel), by decide +kernel⟩

/-! ### Every row of the statements that name several commands -/

/-- For every operation of the sequencer a thread is ready whose next word holds it. -/
theorem test_sequencer_rows :
    (upFrom 0 64).all (fun op => decide (readyThread (seqWith (op * 2 ^ 26) thr) 255 = some thr) &&
      fld (programWord (seqWith (op * 2 ^ 26) thr) thr.pc) 31 26 == op) = true := by decide +kernel

end Sys2Proof.Tests
end

section
/-! Notice rings (R109 to R111): where a notice is written and with which turn. First what a bit field reads after
a write and through its bytes, then what one host access of a single piece leaves at its port, then the ring's own
operations. -/

namespace Sys2Proof.Machine

/-! ### Bit fields -/

theorem setFld_mod_lt (v hi lo x : Nat) (h : lo ≤ hi + 1) :
    x % 2 ^ (hi + 1 - lo) * 2 ^ lo + v % 2 ^ lo < 2 ^ (hi + 1) := by
  have hx : x % 2 ^ (hi + 1 - lo) + 1 ≤ 2 ^ (hi + 1 - lo) := Nat.mod_lt _ (by positivity)
  have hv : v % 2 ^ lo < 2 ^ lo := Nat.mod_lt _ (by positivity)
  calc x % 2 ^ (hi + 1 - lo) * 2 ^ lo + v % 2 ^ lo
      < (x % 2 ^ (hi + 1 - lo) + 1) * 2 ^ lo := by rw [Nat.add_mul, Nat.one_mul]; omega
    _ ≤ 2 ^ (hi + 1 - lo) * 2 ^ lo := Nat.mul_le_mul_right _ hx
    _ = 2 ^ (hi + 1) := by rw [← Nat.pow_add, Nat.sub_add_cancel h]

/-- The bits above the field stay. -/
theorem setFld_div (v hi lo x : Nat) (h : lo ≤ hi + 1) : setFld v hi lo x / 2 ^ (hi + 1) = v / 2 ^ (hi + 1) := by
  unfold setFld
  rw [Nat.add_assoc, Nat.mul_comm, Nat.mul_add_div (by positivity),
    Nat.div_eq_of_lt (setFld_mod_lt v hi lo x h), Nat.add_zero]

theorem fld_setFld_same (v hi lo x : Nat) (h : lo ≤ hi + 1) : fld (setFld v hi lo x) hi lo = x % 2 ^ (hi + 1 - lo) := by
  have hp : 2 ^ (hi + 1) = 2 ^ lo * 2 ^ (hi + 1 - lo) := by rw [← Nat.pow_add, Nat.add_sub_cancel' h]
  have hs : setFld v hi lo x =
      2 ^ lo * (2 ^ (hi + 1 - lo) * (v / 2 ^ (hi + 1)) + x % 2 ^ (hi + 1 - lo)) + v % 2 ^ lo := by
    unfold setFld; rw [hp]; ring
  unfold fld
  rw [hs, Nat.mul_add_div (by positivity), Nat.div_eq_of_lt (Nat.mod_lt v (by positivity)), Nat.add_zero,
    Nat.mul_add_mod, Nat.mod_mod]

/-- A field reads as before when one that lies below it is written. -/
theorem fld_setFld_below (v x : Nat) {hi lo hi' lo' : Nat} (h : hi' < lo) (h' : lo' ≤ hi' + 1) :
    fld (setFld v hi' lo' x) hi lo = fld v hi lo := by
  have hp : 2 ^ lo = 2 ^ (hi' + 1) * 2 ^ (lo - (hi' + 1)) := by rw [← Nat.pow_add, Nat.add_sub_cancel' h]
  unfold fld
  rw [hp, ← Nat.div_div_eq_div_mul, ← Nat.div_div_eq_div_mul, setFld_div v hi' lo' x h']

/-- A field that lies within the bytes that hold a value reads through them. -/
theorem fld_numLE_bytesLE (v : Nat) {n hi lo : Nat} (hn : hi < 8 * n) (h : lo ≤ hi + 1) :
    fld (numLE (bytesLE n v)) hi lo = fld v hi lo := by
  have hb : 256 ^ n = 2 ^ lo * 2 ^ (8 * n - lo) := by
    rw [← Nat.pow_add, Nat.add_sub_cancel' (by omega), Nat.pow_mul]
  unfold fld
  rw [numLE_bytesLE, hb, Nat.mod_mul_right_div_self, Nat.mod_mod_of_dvd _ (Nat.pow_dvd_pow 2 (by omega))]

/-! ### One host access of a single piece -/

theorem split4K_whole {off len : Nat} (fuel : Nat) (h0 : 0 < len) (hfit : off % 4096 + len ≤ 4096) :
    split4K (fuel + 1) off len = [(off, len)] := by
  have hrest : split4K fuel (off + len) 0 = [] := by cases fuel <;> simp [split4K]
  simp only [split4K, if_neg (show ¬ len = 0 by omega), Nat.min_eq_left (show len ≤ 4096 - off % 4096 by omega),
    Nat.sub_self, hrest]

theorem mspQueue_setMspQueue_append (s : State) (m : Nat) (q : List MspReq) (r : MspReq) :
    mspQueue (setMspQueue s m (q ++ [r])) m = q ++ [r] := by
  simp [mspQueue, setMspQueue, lookupT_insertT]

theorem mspQueue_markReady (s : State) (a m : Nat) : mspQueue (markReady s a) m = mspQueue s m := by
  unfold markReady; split
  · split <;> rfl
  · rfl

/-- At a port with no locks a request that takes none joins the queue's end. -/
theorem offerReq_unlocked {s : State} {m : Nat} {r : MspReq} (hl : noLocksAt s m) (hop : r.op ≠ 2) :
    offerReq s m r = setMspQueue s m (mspQueue s m ++ [r]) := by
  have hline : lineLocked s m r = false := by
    simp only [lineLocked, List.any_eq_false]
    intro l hmem
    simp [hl.1 l hmem]
  have hwait : mustWait s m r = false := by simp [mustWait, hline, hop]
  have htake : lockIfReached s m r = s := by simp [lockIfReached, takeLock, hop]
  unfold offerReq
  rw [if_neg (by simp [hwait, hop]), htake]

/-- A host access within one 4 KiB page that takes no lock is one request at the end of its port's queue. -/
theorem mspQueue_hostAccess_onePiece {s : State} {op segment offset len partition m : Nat} (kind : AccessKind)
    (pair : Option Nat) (context : Nat) (data : List Byte) (poison : Bool) (uses : List Nat) (hop : op ≠ 2)
    (h0 : 0 < len) (hfit : offset % 4096 + len ≤ 4096) (hm : mspPort s partition segment offset = some m)
    (hl : noLocksAt s m) :
    mspQueue (hostAccess s kind pair op context segment offset len data poison uses partition).2 m =
      mspQueue s m ++
        [{ op := op, poison := poison, context := context, segment := segment, offset := offset, length := len,
           data := data.take len, enabled := true, access := s.host.nextAccess, piece := 0, waited := false }] := by
  unfold hostAccess enterAccess
  simp only [split4K_whole _ h0 hfit]
  generalize ht : { s with host.accesses := _, host.nextAccess := _ } = t
  have hmt : mspPort t partition segment offset = some m := by rw [← hm, ← ht]; rfl
  have hlt : noLocksAt t m := by rw [← ht]; exact hl
  have hqt : mspQueue t m = mspQueue s m := by rw [← ht]; rfl
  simp only [presentPieces, hmt]
  rw [mspQueue_markReady, offerReq_unlocked hlt hop, mspQueue_setMspQueue_append, hqt]

/-! ### The ring's operations -/

@[simp] theorem ringRun_setRingRun_same (s : State) (n : Nat) (x : RingRun) : ringRun (setRingRun s n x) n = x := by
  simp [ringRun, setRingRun, lookupT_insertT]

@[simp] theorem ringRun_setRow (s : State) (cn row v n : Nat) : ringRun (setRow s cn row v) n = ringRun s n := rfl

theorem ringRun_congr {s t : State} (h : t.slips = s.slips) (n : Nat) : ringRun t n = ringRun s n := by
  unfold ringRun; rw [h]

@[simp] theorem mspQueue_setRingRun (s : State) (n : Nat) (x : RingRun) (m : Nat) :
    mspQueue (setRingRun s n x) m = mspQueue s m := rfl

@[simp] theorem mspQueue_setRow (s : State) (cn row v m : Nat) : mspQueue (setRow s cn row v) m = mspQueue s m := rfl

/-- An enabled ring begins with no notice written (R111). -/
theorem ringEnable_done {s : State} {n : Nat} (hn : n < 256) (hfree : fld (ringRow s n) 255 254 = 0) :
    ∃ t, ringEnable n s = (t, .done stOk 0) ∧ (ringRun t n).written = 0 := by
  unfold ringEnable
  rw [if_neg (by omega), if_neg (by simp [hfree])]
  exact ⟨_, rfl, by rw [ringRun_setRingRun_same]; rfl⟩

/-- Offset in the segment of the slot of the ring's next notice. -/
def noticeOffset (s : State) (n : Nat) : Nat :=
  rgBase (ringRow s n) + ringSlot (rgSize (ringRow s n)) (ringRun s n).written * 32

/-- The 256 bits of notice `x` as the ring's next one: its turn, overflow_before and time filled in (Table 5.6). -/
def noticeImage (s : State) (n : Nat) (x : NoticePending) : Nat :=
  setFld (setBit (setFld x.bits 255 248 (ringTurn (rgSize (ringRow s n)) (ringRun s n).written)) 236
    (ringRun s n).overflowed) 63 0 (now s)

theorem ringTurn_lt (size w : Nat) : ringTurn size w < 256 := by unfold ringTurn; omega

/-- A notice's turn stands in its top byte. -/
theorem fld_noticeImage_turn (s : State) (n : Nat) (x : NoticePending) :
    fld (noticeImage s n x) 255 248 = ringTurn (rgSize (ringRow s n)) (ringRun s n).written := by
  unfold noticeImage setBit
  rw [fld_setFld_below _ _ (by decide) (by decide), fld_setFld_below _ _ (by decide) (by decide),
    fld_setFld_same _ _ _ _ (by decide)]
  exact Nat.mod_eq_of_lt (ringTurn_lt _ _)

/-- Slots are 32 bytes from a base of a 64-byte multiple, so none crosses a 4 KiB page. -/
theorem noticeOffset_page (s : State) (n : Nat) : noticeOffset s n % 4096 + 32 ≤ 4096 := by
  unfold noticeOffset rgBase; omega

/-- A ring that may write its next notice presents it in one 32-byte write and counts it. -/
theorem writeNotice_next {s : State} {n m : Nat} {x : NoticePending} (hon : rgOn (ringRow s n) = true)
    (hfull : ringFull s n = false) (hx : nextNotice s n = some x)
    (hm : mspPort s (rgPartition (ringRow s n)) (rgSegment (ringRow s n)) (noticeOffset s n) = some m)
    (hl : noLocksAt s m) :
    (ringRun (writeNotice s n) n).written = (ringRun s n).written + 1 ∧
    mspQueue (writeNotice s n) m = mspQueue s m ++
      [{ op := 1, poison := false, context := rgContext (ringRow s n), segment := rgSegment (ringRow s n),
         offset := noticeOffset s n, length := 32, data := bytesLE 32 (noticeImage s n x), enabled := true,
         access := s.host.nextAccess, piece := 0, waited := false }] := by
  have hq := mspQueue_hostAccess_onePiece (.noticeWrite n) none (rgContext (ringRow s n)) (bytesLE 32 (noticeImage s n x))
    false [] (op := 1) (by decide) (by decide) (noticeOffset_page s n) hm hl
  rw [List.take_of_length_le (by simp)] at hq
  unfold writeNotice
  simp only [hon, hfull, hx, Bool.not_true, Bool.or_self, Bool.false_eq_true, if_false]
  constructor
  · rw [ringRun_setRow, ringRun_setRingRun_same]
  · rw [mspQueue_setRow, mspQueue_setRingRun]; exact hq

/-- Settles O58: an enable starts the count at 0, and a write goes to the slot that `noticeOffset` gives with the
turn in the top byte of its image. -/
theorem noticesGoToTheirSlots : Obligations.NoticesGoToTheirSlots := by
  unfold Obligations.NoticesGoToTheirSlots
  constructor
  · intro s rq n g hn hfree
    obtain ⟨t, ht, hw⟩ := ringEnable_done (s := renewLease s rq) hn (by simpa [ringRow] using hfree)
    refine ⟨doneState s t rq 0x8202_00 stOk 0 [n], ?_, ?_⟩
    · exact congrArg settled (commandAccess_done g ht (.inl rfl))
    · exact (congrArg RingRun.written (ringRun_congr doneState_slips n)).trans hw
  · rintro s n m w size x hrun - hon hfull hx rfl rfl hm - hl
    obtain ⟨hw, hq⟩ := writeNotice_next hon hfull hx hm hl
    refine ⟨writeNotice s n, ?_, hw, _, hq, rfl, rfl, rfl, length_bytesLE .., ?_⟩
    · exact congrArg (fun t => Host.Outcome.next (settle t)) (if_pos hrun)
    · rw [fld_numLE_bytesLE _ (by decide) (by decide), fld_noticeImage_turn]; rfl

end Sys2Proof.Machine
end

section
/-! Absent instances (R371): what a granted command whose own rule answers UNSUPPORTED leaves, and a `ledger_clear` of
absent cells after which the block goes on to other work that waited (log entry 4). -/

namespace Sys2Proof.Machine

variable {s t : State} {rq : Requester} {cn arg : Nat} {xs : List Nat} {op : Op}

/-- The state in which a granted invocation has returned UNSUPPORTED. It writes no CONFIG record (R339). -/
def unsupportedState (s : State) (rq : Requester) (cn : Nat) : State :=
  newInvocation (set (renewLease s rq) cn (cmdValue 2 stUnsupported 0)) cn

/-- Only a want of rights counts as a refused host access (R276). -/
theorem hostRefused_unsupported (s : State) (rq : Requester) (bs : List Byte) :
    hostRefused s rq (.done stUnsupported bs) = s := by
  simp [hostRefused, stUnsupported, stRights]

/-- A granted command whose own rule changes nothing and answers UNSUPPORTED. -/
theorem commandAccess_unsupported (g : Granted s rq cn xs)
    (e : op (renewLease s rq) = (renewLease s rq, .done stUnsupported 0)) :
    commandAccess s rq cn xs arg op = .next (unsupportedState s rq cn) := by
  have hroom : ¬ logFull (renewLease s rq) (invokeItem cn xs).cn = true := by
    rw [logFull_renewLease, invokeItem_cn, g.room]; decide
  rw [accessWith_granted g]
  unfold carryInvoke
  rw [if_neg hroom, invokeItem_cn, runCommand_done g e]
  exact congrArg Host.Outcome.next (hostRefused_unsupported (unsupportedState s rq cn) rq [])

/-- A span of cells that ends beyond those the block has. -/
theorem ledgerClearOp_absent {first n : Nat} (hend : get t 0x8310_02 < first + n) (hn : n ≠ 0) :
    ledgerClearOp first n t = (t, .done stUnsupported 0) :=
  if_pos (by simp [hend, hn])

/-- A granted `ledger_clear` of absent cells changes its slot alone; then the block settles. -/
theorem exec_ledgerClear_absent {first n : Nat} (g : Granted s rq 0x8311_00 [first, n])
    (hend : get s 0x8310_02 < first + n) (hn : n ≠ 0) :
    exec (.ledgerClear rq first n) s = .next (settle (unsupportedState s rq 0x8311_00)) := by
  have e := ledgerClearOp_absent (t := renewLease s rq) (by rwa [get_renewLease]) hn
  exact congrArg settled (commandAccess_unsupported g e)

/-! ### An invocation that returns while the block settles -/

/-- A client on Shelf net. -/
def ledgerClient : Requester := { cls := .shelf, ident := 1, port := 30412 }

/-- The management image runs, and the `window_close` of window 3, which is over, waits for a place in the log's queue,
where there is one by now (R340). -/
def closeOver : State :=
  { setRow State.reset 0x8010_03 0 2 with
    mgmt.ended :=
      [({ cn := 0x5104_00, arg := 3, rq := ledgerClient, msg := 0, digest := 0, latest := true }, stOk, 0)] }

theorem granted_closeOver : Granted closeOver ledgerClient 0x8311_00 [2 ^ 32 - 1, 1] where
  serves := by decide +kernel
  behind := rfl
  once := by decide +kernel
  checks := by decide +kernel
  room := by decide +kernel
  places := by decide +kernel
  moves := by decide +kernel

theorem get_closeOver_close : get closeOver 0x5104_00 = 0 := by decide +kernel

/-- While the block settles the `window_close` returns: its slot reads DONE. -/
theorem get_settle_closeOver_close :
    get (settle (unsupportedState closeOver ledgerClient 0x8311_00)) 0x5104_00 = cmdValue 2 stOk 0 := by
  decide +kernel

/-- Refutes O59: its second list has `ledger_clear`, whose answer is the settled state and not its own effect. A
`ledger_clear` of the absent cell 2^32 - 1 of the state `closeOver` answers a state in which the slot of `window_close`
has changed too. -/
theorem not_absentInstancesAreUnsupported : ¬ Obligations.AbsentInstancesAreUnsupported := by
  unfold Obligations.AbsentInstancesAreUnsupported
  rintro ⟨-, h⟩
  have hend : get closeOver 0x8310_02 < 2 ^ 32 - 1 + 1 := by decide +kernel
  have hrow := h closeOver ledgerClient 1 (2 ^ 32 - 1) 0 1 (2 ^ 32) 0x8311_00 [2 ^ 32 - 1, 1]
    (.ledgerClear ledgerClient (2 ^ 32 - 1) 1) (by simpa using hend) le_rfl (by decide) granted_closeOver
  obtain ⟨u, hu, -, hframe, -⟩ := hrow
  rw [exec_ledgerClear_absent granted_closeOver hend one_ne_zero] at hu
  obtain rfl := Host.Outcome.next.inj hu
  have hclose := hframe 0x5104_00 0 (by decide) (by decide)
  have hdone : cmdValue 2 stOk 0 = 0 :=
    get_settle_closeOver_close.symm.trans (hclose.trans get_closeOver_close)
  exact absurd hdone (by decide)

end Sys2Proof.Machine
end

section
/-! The rights masks (R262): the group of a call number and the bit that grants it, and what a WRITE of a mask leaves. -/

namespace Sys2Proof.Machine

/-! ### The group of an index (Table 12.4) -/

/-- Among ranges in rising order the one at place `k` is the first that holds a number it holds. -/
theorem findAt_of_rising {ranges : List (Nat × Nat)} (h : ranges.Pairwise fun a b => a.2 < b.1) {i k : Nat}
    {e : Nat × Nat} (hk : ranges[k]? = some e) (hlo : e.1 ≤ i) (hhi : i ≤ e.2) (n : Nat) :
    findAt (fun (e : Nat × Nat) => e.1 ≤ i && i ≤ e.2) ranges n = some (n + k, e) := by
  induction ranges generalizing k n with
  | nil => cases hk
  | cons a ranges ih =>
    obtain ⟨ha, hrest⟩ := List.pairwise_cons.1 h
    cases k with
    | zero =>
      obtain rfl : a = e := by simpa using hk
      simp [findAt, hlo, hhi]
    | succ k =>
      rw [List.getElem?_cons_succ] at hk
      have hbefore := ha e (List.mem_of_getElem? hk)
      rw [findAt, if_neg (by simp; omega), ih hrest hk]
      congr 2; omega

/-- The index ranges of the right groups, group 0 first (Table 12.4). -/
def groupRanges : List (Nat × Nat) :=
  [(0x1000, 0x10FF), (0x1100, 0x11FF), (0x1200, 0x12FF), (0x2000, 0x27FF), (0x3000, 0x37FF), (0x4000, 0x41FF),
   (0x5000, 0x54FF), (0x6000, 0x64FF), (0x7000, 0x74FF), (0x8000, 0x84FF), (0x9000, 0x91FF), (0xA000, 0xA2FF),
   (0xB000, 0xB0FF), (0xC000, 0xC2FF), (0xD000, 0xDFFF), (0xE000, 0xE1FF), (0xF000, 0xF1FF)]

theorem groupRanges_rising : groupRanges.Pairwise fun a b => a.2 < b.1 := by decide

theorem rightGroup_of_range {g first last i : Nat} (h : groupRanges[g]? = some (first, last)) (hlo : first ≤ i)
    (hhi : i ≤ last) : rightGroup i = some g := by
  have hfind := findAt_of_rising groupRanges_rising h hlo hhi 0
  rw [Nat.zero_add] at hfind
  exact congrArg (Option.map Prod.fst) hfind

/-! ### The bit of the group -/

theorem maskGrants_of_group {s : State} {cls : Path} {cn g : Nat} (h : rightGroup (cn / 256) = some g) :
    maskGrants s cls cn = bit (rightsMask s cls) g := by
  simp [maskGrants, h]

/-- The bits of Shelf net that a SHELF mask always has. -/
theorem bit_or_six (v i : Nat) : bit (v ||| 6) i = (bit v i || (i == 1 || i == 2)) := by
  have h6 : Nat.testBit 6 i = (i == 1 || i == 2) := by
    match i with
    | 0 | 1 | 2 => rfl
    | i + 3 =>
      have hlt : 6 < 2 ^ (i + 3) := by rw [Nat.pow_add]; have := Nat.two_pow_pos i; omega
      rw [Nat.testBit_lt_two_pow hlt]; simp
  unfold bit
  rw [Nat.testBit_or, h6]

/-- The bits of the 17 groups. -/
theorem bit_and_groups (v i : Nat) : bit (v &&& 0x1FFFF) i = (decide (i < 17) && bit v i) := by
  unfold bit
  rw [Nat.testBit_and, show 0x1FFFF = 2 ^ 17 - 1 from rfl, Nat.testBit_two_pow_sub_one, Bool.and_comm]

section
variable {s : State} {rq : Requester} {cn g : Nat}

theorem mayChange_shelf (hg : rightGroup (cn / 256) = some g) (hc : rq.cls = .shelf) :
    mayChange s rq cn = (bit (inForce s 0x1101_01) g || g == 1 || g == 2) := by
  have h : mayChange s rq cn = maskGrants s .shelf cn := by simp [mayChange, hc]
  rw [h, maskGrants_of_group hg, Bool.or_assoc]
  exact bit_or_six _ _

theorem mayChange_fm (hg : rightGroup (cn / 256) = some g) (hc : rq.cls = .fm) :
    mayChange s rq cn = bit (inForce s 0x1101_03) g := by
  have h : mayChange s rq cn = maskGrants s .fm cn := by simp [mayChange, hc]
  rw [h, maskGrants_of_group hg]; rfl

theorem mayChange_host (hg : rightGroup (cn / 256) = some g) (hc : rq.cls = .host) (hf : fabricReserved cn = false)
    (hl : longAccessObject cn = false) (he : hostException s cn = false) :
    mayChange s rq cn = bit (inForce s 0x1101_02) g := by
  have h : mayChange s rq cn = maskGrants s .host cn := by simp [mayChange, hc, hf, hl, he]
  rw [h, maskGrants_of_group hg]; rfl

theorem mayChange_neighbour (hg : rightGroup (cn / 256) = some g) (hc : rq.cls = .neighbour) (h8 : cn ≠ 0x6408_00)
    (h9 : cn ≠ 0x6409_00) : mayChange s rq cn = bit (inForce s 0x1101_04) g := by
  have h : mayChange s rq cn = maskGrants s .neighbour cn := by simp [mayChange, hc, h8, h9]
  rw [h, maskGrants_of_group hg]; rfl

end

/-! ### A WRITE of a mask -/

/-- A granted WRITE of a row after which nothing follows leaves its value in the row. -/
theorem getRow_writtenState {s : State} {rq : Requester} {o : Obj} {cn row v : Nat} (hn : cn ≠ 0x1110_03)
    (hr : row < 2 ^ 32) (hw : ∀ t old, rowWritten t cn row old = t) :
    getRow (writtenState s rq o cn row v) cn row = storedValue s.part o cn v := by
  have hrow : getRow (count64 (writeRows o cn row [v] (renewLease s rq)) 0x1110_03) cn row =
      storedValue s.part o cn v := by
    unfold count64 count
    rw [getRow_set_ne _ _ hr hn]
    simp only [writeRows, hw, getRow_setRow_same]
    unfold keepInForce holdInForce
    split_ifs <;> simp
  unfold writtenState
  split_ifs
  · exact hrow
  · exact (getRow_congr (logAccess_part ..) (logAccess_cat ..) cn row).trans hrow

/-- The object of mask `m`. -/
def maskObj (m : Nat) : Obj := ⟨0x1101, m, m, .one, .u32, .rwc, none, some 0x1FFFF⟩

section
variable {m : Nat} (h1 : 1 ≤ m) (h4 : m ≤ 4)
include h1 h4

theorem findObj_mask (p : Part) : findObj p (0x1101_00 + m) = some (maskObj m) := by
  interval_cases m <;> cases p <;> rfl

theorem rowWritten_mask (t : State) (row old : Nat) : rowWritten t (0x1101_00 + m) row old = t := by
  interval_cases m <;> rfl

theorem bit_storedValue_mask (p : Part) (v i : Nat) :
    bit (storedValue p (maskObj m) (0x1101_00 + m) v) i =
      ((decide (i < 17) && bit v i) || (m == 1 && (i == 1 || i == 2))) := by
  have hkeep : keepMask (maskObj m) (0x1101_00 + m) = 0x1FFFF := rfl
  unfold storedValue
  simp only [hkeep]
  by_cases hm : m = 1
  · rw [if_pos (by omega), bit_or_six, bit_and_groups]; simp [hm]
  · rw [if_neg (by omega), if_neg (by omega), bit_and_groups]; simp [hm]

end

/-- Settles O60: the group of an object is the place of its range in Table 12.4, and of a written mask the bits of the
17 groups are kept. -/
theorem rightsMasksGrant : Obligations.RightsMasksGrant := by
  unfold Obligations.RightsMasksGrant
  constructor
  · intro s rq cn g first last h hlo hhi
    change (g, first, last) ∈ groupRanges.zipIdx.map Prod.swap at h
    have hrange : groupRanges[g]? = some (first, last) := by simpa [List.mem_zipIdx_iff_getElem?] using h
    have hg := rightGroup_of_range hrange hlo hhi
    exact ⟨mayChange_shelf hg, mayChange_fm hg, mayChange_host hg, mayChange_neighbour hg⟩
  · intro s rq m v h1 h4 gw
    refine ⟨writtenState s rq (maskObj m) (0x1101_00 + m) 0 v, ?_, fun i => ?_⟩
    · have hexec : exec (.catalogueWrite rq (0x1101_00 + m) 0 v) s = settled (writeAccess s rq (0x1101_00 + m) 0 v) :=
        if_neg (by simp; omega)
      rw [hexec, writeAccess_done gw (findObj_mask h1 h4 s.part)]
      rfl
    · have hget : get (writtenState s rq (maskObj m) (0x1101_00 + m) 0 v) (0x1101_00 + m) =
          storedValue s.part (maskObj m) (0x1101_00 + m) v :=
        getRow_writtenState (by omega) (by decide) fun t old => rowWritten_mask h1 h4 t 0 old
      rw [hget, bit_storedValue_mask h1 h4]

end Sys2Proof.Machine
end

section
/-! The step itself, the state after reset, and the invariant of `Sound`, which every step keeps. -/

namespace Sys2Proof.Machine

/-- Settles O1: it is the definition of a step whose queue is not empty. -/
theorem stepRunsTheFrontCommand : Obligations.StepRunsTheFrontCommand := by
  unfold Obligations.StepRunsTheFrontCommand
  intro c cs s
  rfl

/-- Settles O3: the store is empty at reset, so each object reads its default. -/
theorem resetLeavesDefaults : Obligations.ResetLeavesDefaults := by
  unfold Obligations.ResetLeavesDefaults
  decide +kernel

/-- Settles O4: at reset there is nothing in the carrel, in the store and among the invocations. -/
theorem resetIsSound : Obligations.ResetIsSound where
  carrel := rfl
  store := rfl
  running := by decide
  ports := rfl

/-- A sound state keeps itself, with the bound of R260. -/
theorem Sound.kept {s : State} (h : Sound s) : Kept (Keep.full ⟨s.part, s.pending, 0⟩) s :=
  ⟨rfl, rfl, h.carrel, h.store, h.running, h.ports⟩

/-- Taking the front command from the queue leaves the rest of a sound state. -/
theorem Sound.kept_rest {s : State} (h : Sound s) (cs : List Instr) :
    Kept (Keep.full ⟨s.part, cs, 0⟩) { s with pending := cs } :=
  ⟨rfl, rfl, h.carrel, h.store, h.running, h.ports⟩

/-- Every command keeps the part, the rest of the queue and soundness: command by command this is the lemma on its
meaning. -/
theorem exec_kept {a : Keep} {s : State} (h : Kept a.full s) (c : Instr) : KeptOut a.full (exec c s) := by
  cases c <;> simp only [exec] <;> simp [h]

/-- Settles O5: `Kept` holds of every command and of the idle cycle. -/
theorem everyStepKeepsSound : Obligations.EveryStepKeepsSound := by
  unfold Obligations.EveryStepKeepsSound
  intro s t hs ht
  have hkept : Kept (Keep.full ⟨s.part, s.pending.tail, 0⟩) t := by
    unfold step at ht
    cases hp : s.pending with
    | nil =>
      rw [hp] at ht
      obtain rfl := Host.Outcome.next.inj ht
      have := tick_kept hs.kept
      rwa [hp] at this
    | cons c cs =>
      rw [hp] at ht
      exact exec_kept (hs.kept_rest cs) c t ht
  exact ⟨hkept.sound, hkept.part, hkept.pending⟩

end Sys2Proof.Machine
end

section
/-! Bits and fields of numbers: what a bit reads after a write of it, and the sum of single bits. -/

namespace Sys2Proof.Machine

theorem testBit_setFld (v hi lo x i : Nat) (h : lo ≤ hi + 1) :
    (setFld v hi lo x).testBit i =
      if i < lo then v.testBit i else if i ≤ hi then x.testBit (i - lo) else v.testBit i := by
  have hv : v % 2 ^ lo < 2 ^ lo := Nat.mod_lt _ (by positivity)
  have hlow : x % 2 ^ (hi + 1 - lo) * 2 ^ lo + v % 2 ^ lo < 2 ^ (hi + 1) := setFld_mod_lt v hi lo x h
  unfold setFld
  rw [Nat.add_assoc, Nat.mul_comm, Nat.testBit_two_pow_mul_add _ hlow]
  by_cases hi' : i < hi + 1
  · rw [if_pos hi', Nat.mul_comm, Nat.testBit_two_pow_mul_add _ hv]
    by_cases hl : i < lo
    · simp [hl, Nat.testBit_mod_two_pow]
    · rw [if_neg hl, if_neg hl, if_pos (by omega), Nat.testBit_mod_two_pow]; simp; omega
  · rw [if_neg hi', if_neg (by omega), if_neg (by omega), Nat.testBit_div_two_pow]; congr 1; omega

theorem bit_setBit (v n : Nat) (b : Bool) (i : Nat) : bit (setBit v n b) i = if i = n then b else bit v i := by
  unfold bit setBit
  rw [testBit_setFld _ _ _ _ _ (by omega)]
  rcases Nat.lt_trichotomy i n with h | rfl | h
  · rw [if_pos h, if_neg h.ne]
  · cases b <;> simp
  · rw [if_neg (by omega), if_neg (by omega), if_neg h.ne']

theorem testBit_fld (v hi lo i : Nat) : (fld v hi lo).testBit i = (decide (i < hi + 1 - lo) && v.testBit (i + lo)) := by
  rw [fld, Nat.testBit_mod_two_pow, Nat.testBit_div_two_pow]

/-- A field reads as before when one that lies above it is written. -/
theorem fld_setFld_above (v x : Nat) {hi lo hi' lo' : Nat} (h : hi < lo') (h' : lo' ≤ hi' + 1) :
    fld (setFld v hi' lo' x) hi lo = fld v hi lo := by
  apply Nat.eq_of_testBit_eq
  intro i
  rw [testBit_fld, testBit_fld, testBit_setFld _ _ _ _ _ h']
  by_cases hi1 : i < hi + 1 - lo
  · rw [if_pos (by omega)]
  · simp [hi1]

theorem bit_setFld_other (v x : Nat) {i hi lo : Nat} (h : lo ≤ hi + 1) (ho : i < lo ∨ hi < i) :
    bit (setFld v hi lo x) i = bit v i := by
  unfold bit
  rw [testBit_setFld _ _ _ _ _ h]
  rcases ho with h | h
  · rw [if_pos h]
  · rw [if_neg (by omega), if_neg (by omega)]

theorem bit_setFld_single (v i : Nat) (b : Bool) : bit (setFld v i i (b2n b)) i = b := by
  unfold bit
  rw [testBit_setFld _ _ _ _ _ (by omega)]
  cases b <;> simp [b2n]

theorem sum_bits_eq (f : Nat → Bool) (a n : Nat) :
    ∃ q, ((upFrom a n).map fun j => b2n (f j) * 2 ^ j).sum = 2 ^ a * q ∧
      ∀ k, q.testBit k = (decide (k < n) && f (a + k)) := by
  induction n generalizing a with
  | zero => exact ⟨0, by simp [upFrom]⟩
  | succ n ih =>
    obtain ⟨q, hq, hbits⟩ := ih (a + 1)
    refine ⟨2 * q + b2n (f a), ?_, fun k => ?_⟩
    · simp only [upFrom, List.map_cons, List.sum_cons, hq]; ring
    · cases k with
      | zero => cases hf : f a <;> simp [b2n, Nat.testBit_zero, Nat.add_mod]
      | succ k =>
        have hhalf : (2 * q + b2n (f a)) / 2 = q := by cases f a <;> simp [b2n]; omega
        rw [Nat.testBit_add_one, hhalf, hbits, Nat.add_right_comm a 1 k, Nat.add_assoc]
        simp

/-- Bit `i` of a number given by its bits. -/
theorem bit_sum_bits (f : Nat → Bool) (n i : Nat) :
    bit (((upFrom 0 n).map fun j => b2n (f j) * 2 ^ j).sum) i = (decide (i < n) && f i) := by
  obtain ⟨q, hq, hbits⟩ := sum_bits_eq f 0 n
  rw [hq]
  simp [bit, hbits]

end Sys2Proof.Machine
end

section
/-! What a granted command that returns leaves of the state as a whole, for every statement about one; what the renewal
of the owner's lease leaves alone. -/

namespace Sys2Proof.Machine

/-! ### A granted command -/

@[simp] theorem renewLease_pending (s : State) (rq : Requester) : (renewLease s rq).pending = s.pending := by
  rw [renewLease_eq]

@[simp] theorem renewLease_carrel (s : State) (rq : Requester) : (renewLease s rq).carrel = s.carrel := by
  rw [renewLease_eq]

@[simp] theorem renewLease_switch (s : State) (rq : Requester) : (renewLease s rq).switch = s.switch := by
  rw [renewLease_eq]

@[simp] theorem renewLease_host (s : State) (rq : Requester) : (renewLease s rq).host = s.host := by
  rw [renewLease_eq]

@[simp] theorem renewLease_slips (s : State) (rq : Requester) : (renewLease s rq).slips = s.slips := by
  rw [renewLease_eq]

@[simp] theorem renewLease_coll (s : State) (rq : Requester) : (renewLease s rq).coll = s.coll := by
  rw [renewLease_eq]

@[simp] theorem renewLease_ports (s : State) (rq : Requester) : (renewLease s rq).ports = s.ports := by
  rw [renewLease_eq]

@[simp] theorem renewLease_policers (s : State) (rq : Requester) : (renewLease s rq).policers = s.policers := by
  rw [renewLease_eq]

@[simp] theorem renewLease_time (s : State) (rq : Requester) : (renewLease s rq).time = s.time := by
  rw [renewLease_eq]

@[simp] theorem renewLease_observe (s : State) (rq : Requester) : (renewLease s rq).observe = s.observe := by
  rw [renewLease_eq]

@[simp] theorem renewLease_recovery (s : State) (rq : Requester) : (renewLease s rq).recovery = s.recovery := by
  rw [renewLease_eq]

@[simp] theorem renewLease_mirror (s : State) (rq : Requester) : (renewLease s rq).mirror = s.mirror := by
  rw [renewLease_eq]

@[simp] theorem renewLease_freeCount (s : State) (rq : Requester) : (renewLease s rq).freeCount = s.freeCount := by
  rw [renewLease_eq]

section
variable {s t : State} {rq : Requester} {cn arg st r : Nat} {xs : List Nat} {op : Op}

/-- What follows a rule that has returned reaches the store, the log and the core alone. -/
theorem doneState_eq : doneState s t rq cn st r xs =
    { t with cat := (doneState s t rq cn st r xs).cat, log := (doneState s t rq cn st r xs).log,
             mgmt := (doneState s t rq cn st r xs).mgmt } := by
  apply State.eq_of <;> simp

theorem get_doneState_other {c : Nat} (h : c ≠ cn) (h' : c ≠ 0x1110_03) : get (doneState s t rq cn st r xs) c = get t c :=
  getRow_doneState (by decide) h h'

/-- A granted command whose rule returns OK answers the state in which it has returned. -/
theorem leaves_commandAccess (g : Granted s rq cn xs) (e : op (renewLease s rq) = (t, .done stOk r)) {P : State → Prop}
    (h : P (doneState s t rq cn stOk r xs)) : Leaves (commandAccess s rq cn xs arg op) P :=
  ⟨_, commandAccess_done g e (.inl rfl), h⟩

/-- The same where the block then goes on. -/
theorem does_commandAccess (g : Granted s rq cn xs) (e : op (renewLease s rq) = (t, .done stOk r)) {P : State → Prop}
    (h : P (doneState s t rq cn stOk r xs)) : Does (settled (commandAccess s rq cn xs arg op)) P :=
  ⟨_, congrArg settled (commandAccess_done g e (.inl rfl)), h⟩

end

/-- A rule that changes the store alone. -/
theorem completed_of_cat {s t : State} {rq : Requester} {cn r : Nat} {xs touched : List Nat} (hn : cn ≠ 0x1110_03)
    (ht : t = { renewLease s rq with cat := t.cat }) (hf : StoreFrame s t touched) :
    Completed s (doneState s t rq cn stOk r xs) rq cn r touched ∧
      doneState s t rq cn stOk r xs =
        { s with cat := (doneState s t rq cn stOk r xs).cat, log := (doneState s t rq cn stOk r xs).log,
                 mgmt := (doneState s t rq cn stOk r xs).mgmt } := by
  have hm : t.mgmt = { s.mgmt with leaseOver := t.mgmt.leaseOver } := by rw [ht, renewLease_eq]
  have hs : t = { s with cat := t.cat, mgmt := t.mgmt } := by rw [ht, renewLease_eq]
  refine ⟨doneState_completed hn (by rw [hs]) (by rw [hs]) hm hf, ?_⟩
  rw [doneState_eq]
  generalize doneState s t rq cn stOk r xs = u
  rw [hs]

theorem Leaves.mono {o : Out} {P Q : State → Prop} (h : Leaves o P) (hi : ∀ t, P t → Q t) : Leaves o Q :=
  let ⟨t, ht, hp⟩ := h
  ⟨t, ht, hi t hp⟩

theorem Does.mono {o : Out} {P Q : State → Prop} (h : Does o P) (hi : ∀ u, P u → Q u) : Does o Q :=
  let ⟨u, hu, hp⟩ := h
  ⟨u, hu, hi u hp⟩

/-! ### One write, and writes in turn -/

theorem set_eq (s : State) (cn v : Nat) : set s cn v = { s with cat := (set s cn v).cat } := rfl

theorem get_count64_same (s : State) (cn : Nat) : get (count64 s cn) cn = (get s cn + 1) % 2 ^ 64 := get_set_same ..

theorem get_count64_ne (s : State) {c d : Nat} (h : d ≠ c) : get (count64 s c) d = get s d := get_set_ne _ _ h

theorem forEach_cons {α : Type} (x : α) (xs : List α) (f : State → α → State) (s : State) :
    forEach (x :: xs) f s = forEach xs f (f s x) := rfl

theorem mem_upFrom {a n x : Nat} : x ∈ upFrom a n ↔ a ≤ x ∧ x < a + n := by
  induction n generalizing a with
  | zero => simp [upFrom]
  | succ n ih => simp only [upFrom, List.mem_cons, ih]; omega

end Sys2Proof.Machine
end

section
/-! Temperature samples and the clears of attention (R352, R357, R364). -/

namespace Sys2Proof.Machine

/-! ### Samples -/

/-- The state with which a sample of port `p` leaves its own object and the maximum. -/
def sampleStored (s : State) (p v : Nat) : State :=
  set (set s (0xE100_01 + p) v) (0xE101_01 + p) (max v (get s (0xE101_01 + p)))

theorem thermalSampled_eq {s : State} {p v : Nat} (hp : p < portsOf s.part) (hl : s.power.porLow = false)
    (hv : v < 2 ^ 16) :
    thermalSampled s p v =
      if get s 0xE102_01 ≤ v then
        set (sampleStored s p v) 0xE102_02 (setBit (get s 0xE102_02) p true)
      else sampleStored s p v := by
  have hp8 : p < 8 := lt_of_lt_of_le hp (by cases s.part <;> decide)
  unfold thermalSampled sampleStored
  simp only [Nat.mod_eq_of_lt hv]
  rw [if_neg (by simp [hl, hp]), get_set_ne s v (show 0xE101_01 + p ≠ 0xE100_01 + p by omega)]
  have hkeep : ∀ c ∈ [0xE102_01, 0xE102_02], ∀ x, get (set (set s (0xE100_01 + p) v) (0xE101_01 + p) x) c = get s c := by
    intro c hc x
    have hc' : 0xE102_01 ≤ c := by simp at hc; omega
    rw [get_set_ne _ _ (by omega), get_set_ne _ _ (by omega)]
  rw [hkeep _ (by simp), hkeep _ (by simp)]

theorem sampleStored_frame (s : State) {p : Nat} (v : Nat) :
    StoreFrame s (sampleStored s p v) [0xE100_01 + p, 0xE101_01 + p, 0xE102_02] :=
  ((StoreFrame.refl _).set _ (by simp)).set _ (by simp)

/-! ### Clears -/

theorem bit_clearBits (s : State) (cn width mask i : Nat) (h : i < width) :
    bit (get (clearBits s cn width mask) cn) i = (bit (get s cn) i && !bit mask i) := by
  unfold clearBits
  rw [get_set_same, bit_sum_bits (fun i => bit (get s cn) i && !bit mask i)]
  simp [h]

/-- A command that clears the bits of an object that its argument names. -/
theorem leaves_clearBits {s : State} {rq : Requester} {cn width mask target : Nat} (g : Granted s rq cn [mask])
    (hn : cn ≠ 0x1110_03) (ht : target ≠ cn) (ht' : target ≠ 0x1110_03) :
    Leaves (commandAccess s rq cn [mask] 0 fun s => (clearBits s target width mask, .done stOk 0)) fun t =>
      (∀ i < width, bit (get t target) i = (bit (get s target) i && !bit mask i)) ∧
        Completed s t rq cn 0 [target] ∧ t = { s with cat := t.cat, log := t.log, mgmt := t.mgmt } := by
  refine leaves_commandAccess g rfl ⟨fun i hi => ?_, completed_of_cat hn rfl ?_⟩
  · rw [get_doneState_other ht ht', bit_clearBits _ _ _ _ _ hi, get_renewLease]
  · exact StoreFrame.set (.of_cat (by simp) (by simp)) _ (by simp)

/-- The maxima of ports `a` to `a + n - 1` become their samples, and nothing else changes. -/
theorem thermalMaxima_cleared (s : State) (a n : Nat) (h : a + n ≤ 8) :
    let t := forEach (upFrom a n) (fun s p => set s (0xE101_01 + p) (get s (0xE100_01 + p))) s
    t = { s with cat := t.cat } ∧ StoreFrame s t ((upFrom a n).map (0xE101_01 + ·)) ∧
      ∀ p, a ≤ p → p < a + n → get t (0xE101_01 + p) = get s (0xE100_01 + p) := by
  induction n generalizing s a with
  | zero => exact ⟨rfl, .refl _, fun p _ _ => by omega⟩
  | succ n ih =>
    simp only [upFrom, forEach_cons]
    generalize hs : set s (0xE101_01 + a) (get s (0xE100_01 + a)) = u
    obtain ⟨he, hf, hg⟩ := ih u (a + 1) (by omega)
    have hu : u = { s with cat := u.cat } := by rw [← hs]; rfl
    refine ⟨by rw [he, hu], ?_, fun p hp hlt => ?_⟩
    · refine StoreFrame.trans (t := u) ?_ (hf.mono (by simp))
      rw [← hs]; exact (StoreFrame.refl _).set _ (by simp)
    · rcases Nat.eq_or_lt_of_le hp with rfl | hp'
      · rw [show get _ _ = _ from hf (0xE101_01 + a) 0 (by decide) (by simp [mem_upFrom]), ← hs]
        exact get_set_same ..
      · rw [hg p (by omega) (by omega), ← hs, get_set_ne _ _ (by omega)]

/-- Settles O9: a sample writes at most the three objects, and each clear's rule writes the one it names. -/
theorem thermalAndAttentionAct : Obligations.ThermalAndAttentionAct := by
  unfold Obligations.ThermalAndAttentionAct
  refine ⟨fun s p v hp hl hv => ⟨_, rfl, ?_⟩, fun s rq mask => ⟨fun g hm => ?_, fun g hm => ?_, fun g => ?_, fun g => ?_⟩⟩
  · have hp8 : p < 8 := lt_of_lt_of_le hp (by cases s.part <;> decide)
    rw [thermalSampled_eq hp hl hv]
    have hv0 : get (sampleStored s p v) (0xE100_01 + p) = v := by
      unfold sampleStored; rw [get_set_ne _ _ (by omega), get_set_same]
    have hm0 : get (sampleStored s p v) (0xE101_01 + p) = max v (get s (0xE101_01 + p)) := get_set_same ..
    have ha0 : get (sampleStored s p v) 0xE102_02 = get s 0xE102_02 := by
      unfold sampleStored; rw [get_set_ne _ _ (by omega), get_set_ne _ _ (by omega)]
    have hf0 := sampleStored_frame s (p := p) v
    split
    · rename_i h
      refine ⟨?_, ?_, fun n _ => ?_, hf0.set _ (by simp), rfl⟩
      · rw [get_set_ne _ _ (by omega), hv0]
      · rw [get_set_ne _ _ (by omega), hm0]
      · rw [get_set_same, bit_setBit]
        by_cases hn : n = p <;> simp [hn, h]
    · rename_i h
      exact ⟨hv0, hm0, fun n _ => by simp [ha0, h], hf0, rfl⟩
  · show Leaves (commandAccess s rq 0xE102_03 [mask] 0 (thermalAlarmClearOp (mask % 256))) _
    rw [Nat.mod_eq_of_lt (show mask < 256 from hm)]
    exact leaves_clearBits g (by decide) (by decide) (by decide)
  · show Leaves (commandAccess s rq 0xA203_02 [mask] 0 (faultAttentionClearOp (mask % 2 ^ 16))) _
    rw [Nat.mod_eq_of_lt hm]
    exact leaves_clearBits g (by decide) (by decide) (by decide)
  · refine leaves_commandAccess (op := powerFaultClearOp) g rfl ⟨?_, doneState_completed (by decide) ?_ ?_ ?_ ?_, ?_⟩
    · simp
    · exact renewLease_time ..
    · simp
    · rw [renewLease_eq]
    · exact .of_cat (by simp) (by simp)
    · rw [doneState_eq]
      generalize doneState _ _ _ _ _ _ _ = u
      rw [renewLease_eq]
  · obtain ⟨he, hf, hg⟩ := thermalMaxima_cleared (renewLease s rq) 0 (portsOf s.part) (by cases s.part <;> decide)
    refine leaves_commandAccess (op := thermalMaxClearOp) g (by unfold thermalMaxClearOp; rw [renewLease_part]) ⟨fun p hp => ?_, completed_of_cat (by decide) he ?_⟩
    · have hp8 : p < 8 := lt_of_lt_of_le hp (by cases s.part <;> decide)
      rw [get_doneState_other (by omega) (by omega), hg p (by omega) (by omega), get_renewLease]
    · exact StoreFrame.trans (t := renewLease s rq) (.of_cat (by simp) (by simp)) hf

end Sys2Proof.Machine
end

section
/-! The sequencer's instructions: the thread at its instruction, what an issue leaves of the entry runs, and the operations
that write a register or branch (R157, Table 7.5). -/

namespace Sys2Proof.Machine

/-! ### Elements of a list -/

theorem nth_modifyNth {α : Type} (f : α → α) (d : α) (n j : Nat) (v : List α) :
    nth d j (modifyNth f n v) = if j = n ∧ n < v.length then f (nth d j v) else nth d j v := by
  induction v generalizing n j with
  | nil => simp [modifyNth, nth]
  | cons x v ih =>
    cases n with
    | zero => cases j <;> simp [modifyNth, nth]
    | succ n => cases j <;> simp [modifyNth, nth, ih]

/-! ### Entry runs and threads -/

section
variable {s : State} {e : Nat}

@[simp] theorem entryRun_setEntryRun_same (s : State) (e : Nat) (x : EntryRun) : entryRun (setEntryRun s e x) e = x := by
  simp [entryRun, setEntryRun, lookupT_insertT]

theorem entryRun_setEntryRun_ne (s : State) {e j : Nat} (x : EntryRun) (h : j ≠ e) :
    entryRun (setEntryRun s e x) j = entryRun s j := by
  simp [entryRun, setEntryRun, lookupT_insertT, h]

@[simp] theorem thread?_putThread (s : State) (e : Nat) (t : Thread) : thread? (putThread s e t) e = some t := by
  simp [thread?, putThread, updEntry]

theorem entryRun_putThread_ne (s : State) {e j : Nat} (t : Thread) (h : j ≠ e) :
    entryRun (putThread s e t) j = entryRun s j := entryRun_setEntryRun_ne s _ h

theorem putThread_eq (s : State) (e : Nat) (t : Thread) : putThread s e t = { s with coll := (putThread s e t).coll } := rfl

/-! ### An issue -/

/-- An instruction issues where the thread is ready, stands at it, and has what it reads. -/
theorem issueOp_issues {is : Nat → Bool} {f : Thread → Nat → State} {t : Thread} {w : Nat} (hr : readyThread s e = some t)
    (hw : w = programWord s t.pc) (ha : (sourcesOf w).any (awaited t) = false) (hop : is (fld w 31 26) = true) :
    issueOp s e is f = f t w := by
  subst hw
  simp only [issueOp, hr, inOp, hop, ha, Bool.not_false, Bool.and_self, if_true]

/-! ### Registers -/

@[simp] theorem reg_goOn (t : Thread) (j : Nat) : reg (goOn t) j = reg t j := rfl

theorem reg_writeReg (t : Thread) (d j : Nat) (v : Word64) (hd : d < t.regs.length) :
    reg (writeReg t d v) j = if j = d then v else reg t j := by
  show nth 0 j (modifyNth (fun _ => v) d t.regs) = _
  rw [nth_modifyNth]
  by_cases hj : j = d <;> simp [hj, hd, reg]

/-- No read on its way brings a register or data word that a later instruction has written. -/
theorem awaited_overtake (t : Thread) (d : Nat) : awaited (overtake t d) d = false := by
  simp only [awaited, overtake, List.any_map, List.any_eq_false, Function.comp]
  intro r _
  split <;> simp_all

@[simp] theorem awaited_goOn (t : Thread) (n : Nat) : awaited (goOn t) n = awaited t n := rfl

theorem inD_lt (w : Nat) : inD w < 16 := Nat.mod_lt _ (by decide)

/-- Register d of the instruction `w` holds `v`, the thread's other registers and its data words are as they were, and it
goes on at the next word. -/
def RegisterWritten (s : State) (e w : Nat) (t : Thread) (v : Word64) (u : State) : Prop :=
  (∃ x, thread? u e = some x ∧ reg x (fld w 25 22) = v ∧ (∀ j, j ≠ fld w 25 22 → reg x j = reg t j) ∧
    x.pc = (t.pc + 1) % 16384 ∧ awaited x (fld w 25 22) = false ∧
    x = { t with regs := x.regs, pc := x.pc, sinceTrace := x.sinceTrace, reads := x.reads }) ∧
  (∀ j, j ≠ e → entryRun u j = entryRun s j) ∧ u = { s with coll := u.coll }

theorem registerWritten_putThread (t : Thread) (w : Nat) (v : Word64) (hregs : t.regs.length = 16) :
    RegisterWritten s e w t v (putThread s e (goOn (writeReg t (inD w) v))) := by
  have hd : inD w < t.regs.length := hregs ▸ inD_lt w
  refine ⟨⟨_, thread?_putThread .., ?_, fun j hj => ?_, rfl, ?_, rfl⟩, fun j hj => entryRun_putThread_ne s _ hj, rfl⟩
  · exact (reg_writeReg t _ _ _ hd).trans (if_pos rfl)
  · exact (reg_writeReg t _ _ _ hd).trans (if_neg hj)
  · exact awaited_overtake t (inD w)

theorem does_seqSet {c : Instr} {op : Nat} {f : Thread → Nat → Word64} {t : Thread} {w : Nat} {v : Word64}
    (hr : readyThread s e = some t) (hw : w = programWord s t.pc) (ha : (sourcesOf w).any (awaited t) = false)
    (hop : op = fld w 31 26) (hregs : t.regs.length = 16) (hexec : exec c s = seqOut (seqSet s e op f)) (hv : f t w = v) :
    Does (exec c s) (RegisterWritten s e w t v) := by
  have hu : seqSet s e op f = putThread s e (goOn (writeReg t (inD w) (f t w))) :=
    issueOp_issues hr hw ha (by simp [hop])
  exact ⟨_, hexec, by rw [hu, hv]; exact registerWritten_putThread t w v hregs⟩

end

theorem ite_lt_min (a b : Word64) : (if b < a then b else a) = if a ≤ b then a else b := by
  by_cases h : a ≤ b
  · rw [if_neg (by simpa using h), if_pos h]
  · rw [if_pos (by simpa using h), if_neg h]

theorem ite_lt_max (a b : Word64) : (if a < b then b else a) = if a ≤ b then b else a := by
  rcases BitVec.lt_trichotomy a b with h | rfl | h
  · rw [if_pos h, if_pos (BitVec.le_of_lt h)]
  · rw [ite_self, ite_self]
  · rw [if_neg (BitVec.lt_asymm h), if_neg (by simpa using h)]

/-- Settles O41: each listed operation is `seqSet` with the value of its row in Table 7.5. -/
theorem sequencerWritesItsRegister : Obligations.SequencerWritesItsRegister := by
  unfold Obligations.SequencerWritesItsRegister
  intro s e w op t a b v c hr hw haw hop hregs ha hb hmem
  show Does (exec c s) (RegisterWritten s e w t v)
  have row {f : Thread → Nat → Word64} := does_seqSet (c := c) (f := f) (v := v) hr hw haw hop hregs
  subst ha hb
  simp only [List.mem_cons, List.not_mem_nil, or_false, Prod.mk.injEq] at hmem
  rcases hmem with
    ⟨rfl, rfl, rfl⟩ | ⟨rfl, rfl, rfl⟩ | ⟨rfl, rfl, rfl⟩ | ⟨rfl, rfl, rfl⟩ | ⟨rfl, rfl, rfl⟩ | ⟨rfl, rfl, rfl⟩ |
    ⟨rfl, rfl, rfl⟩ | ⟨rfl, rfl, rfl⟩ | ⟨rfl, rfl, rfl⟩ | ⟨rfl, rfl, rfl⟩ | ⟨rfl, rfl, rfl⟩ | ⟨rfl, rfl, rfl⟩ |
    ⟨rfl, rfl, rfl⟩ | ⟨rfl, rfl, rfl⟩ | ⟨rfl, rfl, rfl⟩ | ⟨rfl, rfl, rfl⟩ | ⟨rfl, rfl, rfl⟩ | ⟨rfl, rfl, rfl⟩
  · exact row rfl rfl
  · exact row rfl rfl
  · exact row rfl rfl
  · exact row rfl rfl
  · exact row rfl rfl
  · exact row rfl rfl
  · exact row rfl rfl
  · exact row rfl rfl
  · exact row rfl rfl
  · exact row rfl (ite_lt_min ..)
  · exact row rfl (ite_lt_max ..)
  · exact row rfl rfl
  · exact row rfl rfl
  · exact row rfl rfl
  · exact row rfl (by simp only [dataWord, Nat.mod_mod]; rfl)
  · exact row rfl rfl
  · exact row rfl rfl
  · exact row rfl rfl

end Sys2Proof.Machine
end

section
/-! The sequencer's branches and jumps (R157). -/

namespace Sys2Proof.Machine

section
variable {s : State} {e : Nat}

/-- The thread stands at the word `target` (modulo the program memory), its registers, data words, wait and SENDs as they
were; a thread that is not traced leaves the rest of the state. -/
def ThreadMoved (s : State) (e : Nat) (t : Thread) (target : Nat) (u : State) : Prop :=
  (∃ x, thread? u e = some x ∧ x.regs = t.regs ∧ x.words = t.words ∧ x.wait = t.wait ∧ x.sends = t.sends ∧
    x.pc = target % 16384) ∧
  (tracing s (threadSource t) e = false → u = { s with coll := u.coll })

theorem threadMoved_goOn (t : Thread) : ThreadMoved s e t (t.pc + 1) (putThread s e (goOn t)) :=
  ⟨⟨_, thread?_putThread .., rfl, rfl, rfl, rfl, rfl⟩, fun _ => rfl⟩

theorem threadMoved_takeBranch (t : Thread) (target : Nat) : ThreadMoved s e t target (takeBranch s e t target) := by
  unfold takeBranch
  dsimp only
  split
  · rename_i htr
    exact ⟨⟨_, thread?_putThread .., rfl, rfl, rfl, rfl, rfl⟩, fun h => by simp [h] at htr⟩
  · exact ⟨⟨_, thread?_putThread .., rfl, rfl, rfl, rfl, Nat.mod_mod ..⟩, fun _ => rfl⟩

/-- The target of a branch as a number of the program memory. -/
theorem unsigned_mod (v : Int) : ((unsigned 14 v % 16384 : Nat) : Int) = v % 16384 := by
  unfold unsigned; omega

theorem seqBranch_taken {op : Nat} {rel : Word64 → Word64 → Bool} {t : Thread} {w : Nat} (hr : readyThread s e = some t)
    (hw : w = programWord s t.pc) (ha : (sourcesOf w).any (awaited t) = false) (hop : op = fld w 31 26) :
    seqBranch s e op rel =
      if rel (reg t (fld w 21 18)) (reg t (fld w 17 14)) then takeBranch s e t (unsigned 14 (t.pc + signed 14 (fld w 13 0)))
      else putThread s e (goOn t) :=
  issueOp_issues hr hw ha (by simp [hop])

end

/-- Settles O42: a branch is taken exactly where its relation holds, and J always. -/
theorem sequencerBranches : Obligations.SequencerBranches := by
  unfold Obligations.SequencerBranches
  intro s e w op t a b taken c hr hw haw hop ha hb hmem
  subst ha hb
  suffices h : ∃ target, Does (exec c s) (ThreadMoved s e t target) ∧ (taken = false → target = t.pc + 1) ∧
      (taken = true → op ≠ 0x14 → target = unsigned 14 (t.pc + signed 14 (fld w 13 0))) ∧
      (op = 0x14 → target = fld w 21 0 % 2 ^ 14) by
    obtain ⟨target, hdoes, hno, hyes, hj⟩ := h
    refine hdoes.mono fun u ⟨⟨x, hx, hregs, hwords, hwait, hsends, hpc⟩, hrest⟩ =>
      ⟨⟨x, hx, hregs, hwords, hwait, hsends, fun h => by rw [hpc, hno h], fun h h' => ?_, fun h => ?_⟩, hrest⟩
    · rw [hpc, hyes h h']; exact unsigned_mod _
    · rw [hpc, hj h]; exact Nat.mod_mod ..
  have branch : ∀ rel : Word64 → Word64 → Bool, rel (reg t (fld w 21 18)) (reg t (fld w 17 14)) = taken → op ≠ 0x14 →
      exec c s = seqOut (seqBranch s e op rel) → ∃ target, Does (exec c s) (ThreadMoved s e t target) ∧
      (taken = false → target = t.pc + 1) ∧
      (taken = true → op ≠ 0x14 → target = unsigned 14 (t.pc + signed 14 (fld w 13 0))) ∧
      (op = 0x14 → target = fld w 21 0 % 2 ^ 14) := by
    intro rel hrel hne hexec
    have hu := seqBranch_taken (rel := rel) hr hw haw hop
    rw [hrel] at hu
    cases taken with
    | true => exact ⟨_, ⟨_, hexec, hu ▸ threadMoved_takeBranch t _⟩, by simp, fun _ _ => rfl, fun h => absurd h hne⟩
    | false => exact ⟨_, ⟨_, hexec, hu ▸ threadMoved_goOn t⟩, fun _ => rfl, by simp, fun h => absurd h hne⟩
  simp only [List.mem_cons, List.not_mem_nil, or_false, Prod.mk.injEq] at hmem
  rcases hmem with ⟨rfl, rfl, rfl⟩ | ⟨rfl, rfl, rfl⟩ | ⟨rfl, rfl, rfl⟩ | ⟨rfl, rfl, rfl⟩ | ⟨rfl, rfl, rfl⟩
  · exact branch (fun a b => a == b) rfl (by decide) rfl
  · exact branch (fun a b => a != b) (by simp [bne, BEq.beq]) (by decide) rfl
  · exact branch (fun a b => decide (a < b)) rfl (by decide) rfl
  · exact branch (fun a b => decide (b ≤ a)) rfl (by decide) rfl
  · have hu : issueOp s e (· == 0x14) (fun t w => takeBranch s e t (inImm22 w % 2 ^ 14)) =
        takeBranch s e t (inImm22 w % 2 ^ 14) := issueOp_issues hr hw haw (by simp [← hop])
    exact ⟨_, ⟨_, rfl, hu ▸ threadMoved_takeBranch t _⟩, by simp, fun _ h => absurd rfl h, fun _ => rfl⟩

end Sys2Proof.Machine
end

section
/-! Rows beyond 32 bits. A row number that a statement leaves unbounded can name a cell of the store that belongs to
another object (`catKey`); then the statement asks two things of one cell. -/

namespace Sys2Proof.Machine

/-- Two rows with one key read the same value, or the first its default. -/
theorem getRow_alias (u : State) {c q d r : Nat} (hk : catKey c q = catKey d r) :
    getRow u c q = getRow u d r ∨ getRow u c q = defaultOf u.part c q := by
  unfold getRow
  rw [hk]
  cases lookupT u.cat (catKey d r) with
  | some v => exact .inl rfl
  | none => exact .inr rfl

/-! ### A wait that expires -/

/-- The row of the collective entries whose cell is that of `7110.05`. -/
def aliasEntry : Nat := (0x7110_05 - entryCn) * 2 ^ 32

/-- The thread of the entry at that row stands in a wait. -/
def aliasWaits : State :=
  { setRow State.reset entryCn aliasEntry (2 ^ 255) with
    coll.entries := [(aliasEntry, { EntryRun.reset with thread := some { newThread 0 0 0 with wait := some .sends } })] }

/-- Refutes O44: the entry of an expired wait is not bounded. For entry 0x1005 × 2^32 the row that is to read ENDED in its
two top bits is the cell of the counter `7110.05`, which is to read below 2^64. -/
theorem not_sequencerWaitsAndEnds : ¬ Obligations.SequencerWaitsAndEnds := by
  unfold Obligations.SequencerWaitsAndEnds
  rintro ⟨-, -, -, hexpiry, -⟩
  obtain ⟨u, hu, hended, -, hcount⟩ := hexpiry aliasWaits aliasEntry _ false (.waitLimitExpiry aliasEntry) (.head _)
    (by decide +kernel) (by decide +kernel) (by decide +kernel) (by rfl) (by rfl)
  have hdef : defaultOf u.part entryCn aliasEntry = 0 := by cases u.part <;> decide
  have hlow : ceRow u aliasEntry < 2 ^ 64 := by
    rcases getRow_alias u (c := entryCn) (q := aliasEntry) (d := 0x7110_05) (r := 0) (by decide) with h | h
    · exact (h.trans hcount).trans_lt (Nat.mod_lt _ (by decide))
    · exact (h.trans hdef).trans_lt (by decide)
  rw [ceState, fld, Nat.div_eq_of_lt (hlow.trans (by decide))] at hended
  exact absurd hended (by decide)

/-! ### A notice post that times out -/

/-- A slip whose remote notice post waits for its acknowledgement; its issuer is no number of 10 bits. -/
def aliasSlip : SlipCtx :=
  { tray := 0, k := 0, slot := 0, issuer := 2 ^ 32, bits := 0, localDone := false, localRefusal := none,
    localWindows := [], probe := .notSent, retried := false, nextReq := 0, nextPos := 0, allIssued := false,
    stopped := false, staleAt := none, reqs := [], result := some { status := 0, offset := 0, bytes := 0, side := 0 },
    post := some 0, flagged := false, retired := false }

def aliasPosts : State := { State.reset with slips.ctxs := [aliasSlip] }

/-- Refutes O33: the issuer of a slip whose notice post times out is not bounded. For issuer 2^32 the row whose lost flag
is to be set is the cell of `8072.01`, an object that is to read as before. -/
theorem not_slipsIssueAndComplete : ¬ Obligations.SlipsIssueAndComplete := by
  unfold Obligations.SlipsIssueAndComplete
  rintro ⟨-, -, -, htimeout⟩
  obtain ⟨u, hu, -, hlost, hframe, hrest⟩ := htimeout aliasPosts 0 0 0 aliasSlip _ (by decide +kernel) (by decide +kernel)
    rfl rfl rfl rfl
  have hdef : defaultOf u.part issuerCn (2 ^ 32) = 0 := by cases u.part <;> decide
  have hzero : getRow u issuerCn (2 ^ 32) = 0 := by
    rcases getRow_alias u (c := issuerCn) (q := 2 ^ 32) (d := 0x8072_01) (r := 0) (by decide) with h | h
    · exact h.trans (hframe 0x8072_01 0 (by decide) (by decide))
    · exact h.trans hdef
  have hbit : bit (getRow u issuerCn (2 ^ 32)) 63 = true := hlost
  rw [hzero] at hbit
  exact absurd hbit (by decide)

end Sys2Proof.Machine
end

section
/-! Engine requests: what is taken for its turn, what completes at once, and a LOAD of the host window (R54, R74, R315,
R319, R340, R347, R348). -/

namespace Sys2Proof.Machine

section
variable {s : State} {op : Nat} {r : EspReq}

/-- The engine operations are one function of their number. -/
theorem exec_engine {c : Instr}
    (h : (op, c) ∈ [(0, Instr.load r), (1, .store r), (2, .storeAck r), (3, .espAtomic r),
        (4, .espAtomicFetch r), (5, .espLedgerAdd r), (6, .espLedgerRead r), (7, .espLedgerReadClear r),
        (8, .fenceCore r), (9, .fenceChip r), (10, .fenceSystem r)]) : exec c s = engineAccess s op r := by
  simp only [List.mem_cons, List.not_mem_nil, or_false, Prod.mk.injEq] at h
  obtain ⟨rfl, rfl⟩ | ⟨rfl, rfl⟩ | ⟨rfl, rfl⟩ | ⟨rfl, rfl⟩ | ⟨rfl, rfl⟩ | ⟨rfl, rfl⟩ | ⟨rfl, rfl⟩ | ⟨rfl, rfl⟩ |
    ⟨rfl, rfl⟩ | ⟨rfl, rfl⟩ | ⟨rfl, rfl⟩ := h <;> rfl

theorem held_of_unitsRun {d : Nat} (h : unitsRun s d = true) : held s = false := by
  simp only [unitsRun, Bool.and_eq_true, Bool.not_eq_true'] at h
  exact h.1.1.1

/-- An access of FABRIC space that the port takes, and that no rule leaves unpredictable. -/
theorem engineAccess_presents (hu : unitsRun s 3 = true) (hb : espBlocked s r.port = false) (hc : r.catalogue = false)
    (hr : espReserved op r = false) : engineAccess s op r = .next (settle (espPresent s op r)) := by
  simp [engineAccess, held_of_unitsRun hu, hu, hb, hc, loadWaits, espTakes, hr]

/-- A LOAD of CATALOGUE space that no earlier access keeps waiting. -/
theorem engineAccess_window (hu : unitsRun s 3 = true) (hb : espBlocked s r.port = false) (hc : r.catalogue = true)
    (hw : loadWaits s op r = false) : engineAccess s op r = settled (windowAccess s op r) := by
  simp [engineAccess, held_of_unitsRun hu, hu, hb, hc, hw]

theorem engineAccess_waits (hh : held s = false)
    (hw : unitsRun s 3 = false ∨ espBlocked s r.port = true ∨ loadWaits s op r = true) :
    engineAccess s op r = .next { s with host.espHeld := s.host.espHeld ++ [(op, r)] } := by
  have h : (!unitsRun s 3 || espBlocked s r.port || loadWaits s op r) = true := by
    rcases hw with h | h | h <;> simp [h]
  simp [engineAccess, hh, h]

/-! ### What completes at once -/

/-- What a request that completes at once leaves: its answer, where it draws one, and the count of R54. -/
def CompletedAtOnce (s : State) (op : Nat) (r : EspReq) (st : Nat) (u : State) : Prop :=
  u.host.responses = s.host.responses ++
      (if espPosted op then []
       else [{ port := r.port, etag := r.etag, status := st, data := [], partition := issuerPartition s r.issuer }]) ∧
    u.switch = s.switch ∧ u.host.accesses = s.host.accesses ∧ StoreFrame s u [0x5000_06] ∧
    u = { s with host := u.host, cat := u.cat }

theorem completedAtOnce_espRefused (n ctx st : Nat) (h : op < 8) :
    CompletedAtOnce s op r st (espRefused (noteActivity s n ctx) op r st) := by
  unfold espRefused
  cases hp : espPosted op with
  | true => exact ⟨by simp [hp, noteActivity], rfl, rfl, .refl _, rfl⟩
  | false =>
    simp only [Bool.false_eq_true, if_false, if_neg (Nat.not_le.mpr h)]
    exact ⟨by simp [hp, offerRsp, noteActivity]; rfl, rfl, rfl, .refl _, rfl⟩

theorem completedAtOnce_beyond (n ctx : Nat) (h : op < 8) :
    CompletedAtOnce s op r stMiss (if espPosted op then count64 (noteActivity s n ctx) 0x5000_06
      else espRefused (noteActivity s n ctx) op r stMiss) := by
  split
  · rename_i hp
    exact ⟨by simp [hp, noteActivity], rfl, rfl, (StoreFrame.refl _).set _ (by simp), rfl⟩
  · exact completedAtOnce_espRefused n ctx _ h

/-- Settles O13: the branches of `espPresent`, and the port that takes no request. -/
theorem engineRequestsTakeTheirTurn : Obligations.EngineRequestsTakeTheirTurn := by
  unfold Obligations.EngineRequestsTakeTheirTurn
  refine ⟨fun s r op c hm hu hb hc hr hg hs hd hbe => ?_, fun s r op c hm hu hb hc hr st hst => ?_,
    fun s r op c hm hh hw => exec_engine hm ▸ engineAccess_waits hh hw⟩
  · refine ⟨_, (exec_engine hm).trans (engineAccess_presents hu hb hc hr), ?_⟩
    have hg' : gateShut (noteActivity s (issuerPartition s r.issuer) r.context) (issuerPartition s r.issuer) r.context
        = false := hg
    have hs' : silent (noteActivity s (issuerPartition s r.issuer) r.context) = false := hs
    have hd' : partitionDown (noteActivity s (issuerPartition s r.issuer) r.context) (issuerPartition s r.issuer)
        = false := hd
    simp only [espPresent, hg', hs', hd', hbe, Bool.and_false, Bool.false_eq_true, if_false]
    split
    · refine ⟨⟨rfl, (lookupT_insertT _ _ _ _).trans (if_pos rfl), rfl⟩, ?_, rfl, rfl, rfl⟩
      simp [espBegin, noteActivity]
    · exact ⟨⟨rfl, rfl⟩, by simp [noteActivity], rfl, rfl, rfl⟩
  · have h8 : op < 8 := by
      simp only [List.mem_cons, List.not_mem_nil, or_false, Prod.mk.injEq] at hm
      omega
    have hmem : (op, c) ∈ [(0, Instr.load r), (1, .store r), (2, .storeAck r), (3, .espAtomic r),
        (4, .espAtomicFetch r), (5, .espLedgerAdd r), (6, .espLedgerRead r), (7, .espLedgerReadClear r),
        (8, .fenceCore r), (9, .fenceChip r), (10, .fenceSystem r)] :=
      List.mem_append_left [(8, Instr.fenceCore r), (9, .fenceChip r), (10, .fenceSystem r)] hm
    refine ⟨_, (exec_engine hmem).trans (engineAccess_presents hu hb hc hr), ?_⟩
    have key : ∀ t, t = noteActivity s (issuerPartition s r.issuer) r.context →
        gateShut t (issuerPartition s r.issuer) r.context = gateShut s (issuerPartition s r.issuer) r.context ∧
        silent t = silent s ∧
        partitionDown t (issuerPartition s r.issuer) = partitionDown s (issuerPartition s r.issuer) := by
      rintro t rfl; exact ⟨rfl, rfl, rfl⟩
    obtain ⟨hg', hs', hd'⟩ := key _ rfl
    have h8' : op ≠ 8 := by omega
    have h9' : op ≠ 9 := by omega
    simp only [espPresent, hg', hs', hd', h8, h8', h9', decide_true, Bool.true_and, ne_eq, not_false_eq_true]
    rcases hst with ⟨hg, rfl⟩ | ⟨hg, hs, rfl⟩ | ⟨hg, hs, hd, rfl⟩ | ⟨hg, hs, hd, hbe, rfl⟩
    · simp only [hg, if_true]; exact completedAtOnce_espRefused _ _ _ h8
    · simp only [hg, hs, if_true]; exact completedAtOnce_espRefused _ _ _ h8
    · simp only [hg, hs, hd, if_true]; exact completedAtOnce_espRefused _ _ _ h8
    · simp only [hg, hs, hd, hbe, if_true, Bool.false_eq_true, if_false]; exact completedAtOnce_beyond _ _ h8

end

/-! ### A LOAD of the host window -/

theorem slotPieces_nil (fuel offset : Nat) : slotPieces fuel offset [] = [] := by
  cases fuel <;> rfl

/-- Bytes within one slot, from its start, are one access. -/
theorem slotPieces_start {n offset : Nat} {bs : List Byte} (ho : offset % 16 = 0) (hl : bs.length ≤ 16)
    (h0 : bs ≠ []) : slotPieces (n + 1) offset bs = [(offset, bs)] := by
  rw [slotPieces, if_neg (by simpa using h0), ho]
  simp only [Nat.sub_zero, List.take_of_length_le hl, List.drop_eq_nil_of_le hl, slotPieces_nil]

/-- A read of a slot from its start that is served gives the slot's bytes. -/
theorem slotRead_start {s : State} {offset len : Nat} (hh : held s = false) (hs : stopped s = false)
    (hr : s.recovery.restarting = false) (hv : serves s hostRq (slotCn offset) = true) (ho : offset % 16 = 0) :
    slotRead s offset len =
      { s with mgmt.snaps := insertT s.mgmt.snaps (slotCn offset) (numLE (slotBytes s (slotCn offset)))
               mgmt.slotReads := s.mgmt.slotReads ++
                 [{ offset := offset, bytes := (slotBytes s (slotCn offset)).take len }] } := by
  simp [slotRead, hh, hs, hr, hv, ho]

/-- Settles O14: the access is one read of a slot. -/
theorem loadReadsTheHostWindow : Obligations.LoadReadsTheHostWindow := by
  unfold Obligations.LoadReadsTheHostWindow
  intro s r hu hb hw hc hl ho hr hv
  have hh := held_of_unitsRun hu
  have hs : stopped s = false := by
    simp only [unitsRun, Bool.and_eq_true, Bool.not_eq_true'] at hu
    exact hu.1.1.2
  have hread : hostReads s (r.address % 2 ^ 28) (r.lengthM1 + 1) = slotRead s (r.address % 2 ^ 28) (r.lengthM1 + 1) := by
    unfold hostReads
    rw [slotPieces_start ho (by simp; omega) (by simp)]
    simp [forEach, slotAccess, hw]
  have hwin : windowAccess s 0 r = .next (offerRsp
      { slotRead s (r.address % 2 ^ 28) (r.lengthM1 + 1) with
        mgmt := { (slotRead s (r.address % 2 ^ 28) (r.lengthM1 + 1)).mgmt with slotReads := s.mgmt.slotReads } }
      r stOk ((slotBytes s (slotCn (r.address % 2 ^ 28))).take (r.lengthM1 + 1))) := by
    simp only [windowAccess, ho]
    rw [if_neg (by simp; omega), if_pos trivial, hread, slotRead_start hh hs hr hv ho]
    simp only [List.drop_left]
  refine ⟨_, (engineAccess_window hu hb hc (by simp [loadWaits, hw])).trans (congrArg settled hwin), ?_⟩
  rw [slotRead_start hh hs hr hv ho]
  exact ⟨rfl, rfl, rfl, rfl⟩

end Sys2Proof.Machine
end

section
/-! How a fence ends (R79, R80, Table 4.1). -/

namespace Sys2Proof.Machine

theorem whenRuns_of {s : State} {d : Nat} (f : State → State) (h : unitsRun s d = true) : whenRuns d f s = f s := by
  rw [whenRuns, if_pos h]

section
variable {s : State} {f : FenceWait} {i st : Nat}

/-- The counter of Table 4.1 that the end of a fence raises, beside that of all fences. -/
def endCounter (st : Nat) : List Nat :=
  if st = stFenceLost then [0x8070_03] else if st = stTimeout then [0x8070_04] else []

/-- The store at the end of a fence of issuer `i`. -/
def fenceEndStore (s : State) (i st : Nat) : State :=
  forEach (0x8070_02 :: endCounter st) count64 (setF s issuerCn i 62 61 0)

theorem endCounter_cases (st : Nat) : endCounter st = [0x8070_03] ∨ endCounter st = [0x8070_04] ∨ endCounter st = [] := by
  unfold endCounter; split
  · exact .inl rfl
  · split
    · exact .inr (.inl rfl)
    · exact .inr (.inr rfl)

/-- Counters raised in turn change the store alone. -/
theorem forEach_count64_eq (cns : List Nat) (s : State) :
    forEach cns count64 s = { s with cat := (forEach cns count64 s).cat } := by
  induction cns generalizing s with
  | nil => rfl
  | cons c cns ih => exact ih (count64 s c)

/-- A field written changes the store alone. -/
theorem setF_rest {t : State} {cn row hi lo x : Nat} (h : t = { setF s cn row hi lo x with cat := t.cat }) :
    t = { s with cat := t.cat } := h

theorem fenceEndStore_eq : fenceEndStore s i st = { s with cat := (fenceEndStore s i st).cat } := by
  have h := forEach_count64_eq (0x8070_02 :: endCounter st) (setF s issuerCn i 62 61 0)
  unfold fenceEndStore
  generalize forEach _ _ _ = t at h ⊢
  exact setF_rest h

/-- The response of a fence. -/
def fenceAnswer (s : State) (f : FenceWait) (i st : Nat) : EspRsp :=
  { port := f.port, etag := f.etag, status := st, data := [], partition := issuerPartition s i }

theorem fenceEndStore_frame (hi : i < 1024) :
    StoreFrame s (fenceEndStore s i st) ([issuerCn, 0x8070_02] ++ endCounter st) := by
  have h0 : ∀ l, StoreFrame s (count64 (setF s issuerCn i 62 61 0) 0x8070_02) ([issuerCn, 0x8070_02] ++ l) :=
    fun l => (((StoreFrame.refl _).setRow _ (by omega) (by simp))).set _ (by simp)
  unfold fenceEndStore
  obtain h | h | h := endCounter_cases st <;> rw [h]
  · exact (h0 _).set _ (by simp)
  · exact (h0 _).set _ (by simp)
  · exact h0 _

theorem getRow_fenceEndStore {j : Nat} (hi : i < 1024) (hj : j < 1024) :
    getRow (fenceEndStore s i st) issuerCn j =
      if j = i then setFld (getRow s issuerCn i) 62 61 0 else getRow s issuerCn j := by
  have h0 : ∀ (t : State) c, c ≠ issuerCn → getRow (count64 t c) issuerCn j = getRow t issuerCn j :=
    fun t c h => getRow_set_ne t _ (by omega) h.symm
  have h1 : getRow (setF s issuerCn i 62 61 0) issuerCn j =
      if j = i then setFld (getRow s issuerCn i) 62 61 0 else getRow s issuerCn j := by
    split
    · rename_i h; subst h; exact getRow_setRow_same ..
    · rename_i h; exact getRow_setRow_ne _ _ (by unfold catKey; omega)
  unfold fenceEndStore
  obtain h | h | h := endCounter_cases st <;> rw [h]
  · exact (h0 _ _ (by decide)).trans ((h0 _ _ (by decide)).trans h1)
  · exact (h0 _ _ (by decide)).trans ((h0 _ _ (by decide)).trans h1)
  · exact (h0 _ _ (by decide)).trans h1

theorem get_fenceEndStore_count (hi : i < 1024) :
    get (fenceEndStore s i st) 0x8070_02 = (get s 0x8070_02 + 1) % 2 ^ 64 := by
  have h0 : get (count64 (setF s issuerCn i 62 61 0) 0x8070_02) 0x8070_02 = (get s 0x8070_02 + 1) % 2 ^ 64 := by
    unfold count64 count
    rw [get_set_same, show get (setF s issuerCn i 62 61 0) 0x8070_02 = get s 0x8070_02 from
      getRow_setRow_ne _ _ (by unfold catKey issuerCn; omega)]
  unfold fenceEndStore
  obtain h | h | h := endCounter_cases st <;> rw [h]
  · exact (get_set_ne _ _ (by decide)).trans h0
  · exact (get_set_ne _ _ (by decide)).trans h0
  · exact h0

theorem get_fenceEndStore_timeout (hi : i < 1024) :
    get (fenceEndStore s i stTimeout) 0x8070_04 = (get s 0x8070_04 + 1) % 2 ^ 64 := by
  show get (count64 (count64 (setF s issuerCn i 62 61 0) 0x8070_02) 0x8070_04) 0x8070_04 = _
  unfold count64 count
  rw [get_set_same, get_set_ne _ _ (by decide), show get (setF s issuerCn i 62 61 0) 0x8070_04 = get s 0x8070_04 from
    getRow_setRow_ne _ _ (by unfold catKey issuerCn; omega)]

theorem issuerPartition_fenceEndStore (hi : i < 1024) : issuerPartition (fenceEndStore s i st) i = issuerPartition s i := by
  unfold issuerPartition
  rw [fenceEndStore_frame hi 0x8071_00 i (by omega)]
  obtain h | h | h := endCounter_cases st <;> rw [h] <;> decide

/-- The fence waits no more. -/
def withoutFence (s : State) (f : FenceWait) : State := { s with switch.fences := s.switch.fences.erase f }

theorem getRow_withoutFence (c j : Nat) : getRow (withoutFence s f) c j = getRow s c j := getRow_congr rfl rfl c j

/-- The end of a fence is one fence fewer, the store of `fenceEndStore`, and its response. -/
theorem fenceRsp_eq : fenceRsp s f st =
    (let t := fenceEndStore (withoutFence s f) f.issuer st
     { t with host.responses := t.host.responses ++ [fenceAnswer t f f.issuer st] }) := by
  unfold fenceRsp fenceEndStore endCounter
  by_cases h : st = stFenceLost
  · subst h; rfl
  · by_cases h' : st = stTimeout
    · subst h'; rfl
    · simp only [if_neg h, if_neg h']; rfl

theorem getRow_fenceRsp (c j : Nat) :
    getRow (fenceRsp s f st) c j = getRow (fenceEndStore (withoutFence s f) f.issuer st) c j := by
  rw [fenceRsp_eq]; exact getRow_congr rfl rfl c j

/-- What the end of a fence of issuer `i` leaves: its response, the fence gone, the issuer's fence bits 0 with its lost
flag and its count as they were, and the counts. -/
structure FenceEnded (s : State) (i : Nat) (f : FenceWait) (st : Nat) (u : State) : Prop where
  answered : u.host.responses = s.host.responses ++ [fenceAnswer s f i st]
  gone : u.switch = { s.switch with fences := s.switch.fences.erase f }
  own : getRow u issuerCn i = setFld (getRow s issuerCn i) 62 61 0
  others : ∀ j, j < 1024 → j ≠ i → getRow u issuerCn j = getRow s issuerCn j
  counted : get u 0x8070_02 = (get s 0x8070_02 + 1) % 2 ^ 64
  frame : StoreFrame s u ([issuerCn, 0x8070_02] ++ endCounter st)
  rest : u = { s with host := u.host, switch := u.switch, cat := u.cat }

theorem fenceEnded_fenceRsp (hf : f.issuer = i) (hi : i < 1024) : FenceEnded s i f st (fenceRsp s f st) := by
  subst hf
  have he := fenceEndStore_eq (s := withoutFence s f) (i := f.issuer) (st := st)
  have hrow := getRow_fenceRsp (s := s) (f := f) (st := st)
  have hpart : issuerPartition (fenceEndStore (withoutFence s f) f.issuer st) f.issuer = issuerPartition s f.issuer :=
    (issuerPartition_fenceEndStore hi).trans (congrArg (· % 16) (getRow_withoutFence ..))
  have ha : fenceAnswer (fenceEndStore (withoutFence s f) f.issuer st) f f.issuer st = fenceAnswer s f f.issuer st := by
    unfold fenceAnswer; rw [hpart]
  refine ⟨?_, ?_, ?_, fun j hj hne => ?_, ?_, fun c j hj hc => ?_, ?_⟩
  · rw [fenceRsp_eq]; dsimp only; rw [ha, he]; rfl
  · rw [fenceRsp_eq, he]; rfl
  · rw [hrow, getRow_fenceEndStore hi hi, if_pos rfl, getRow_withoutFence]
  · rw [hrow, getRow_fenceEndStore hi hj, if_neg hne, getRow_withoutFence]
  · rw [get, hrow]; exact (get_fenceEndStore_count hi).trans (by rw [get, getRow_withoutFence]; rfl)
  · rw [hrow, fenceEndStore_frame hi c j hj hc, getRow_withoutFence]
  · rw [fenceRsp_eq, he]; rfl

theorem FenceEnded.issuerFence {u : State} (h : FenceEnded s i f st u) : issuerFence u i = 0 := by
  rw [Machine.issuerFence, getF, h.own, fld_setFld_same _ _ _ _ (by decide), Nat.zero_mod]

theorem FenceEnded.issuerLost {u : State} (h : FenceEnded s i f st u) : issuerLost u i = issuerLost s i := by
  rw [Machine.issuerLost, h.own, bit_setFld_other _ _ (by decide) (by decide)]; rfl

theorem FenceEnded.outstanding {u : State} (h : FenceEnded s i f st u) : outstanding u i = outstanding s i := by
  rw [Machine.outstanding, getF, h.own, fld_setFld_above _ _ (by decide) (by decide)]; rfl

theorem get_fenceRsp_timeout (hi : f.issuer < 1024) :
    get (fenceRsp s f stTimeout) 0x8070_04 = (get s 0x8070_04 + 1) % 2 ^ 64 := by
  have h : get (fenceRsp s f stTimeout) 0x8070_04 = _ := (getRow_fenceRsp 0x8070_04 0).trans (get_fenceEndStore_timeout hi)
  rw [h, get, getRow_withoutFence]; rfl

theorem setLost_host {b : Bool} : (setLost s i b).host = s.host := setF_host

theorem setLost_switch {b : Bool} : (setLost s i b).switch = s.switch := setF_switch

/-- The lost flag, cleared: the other fields of the issuer's row, and every other row, stay. -/
theorem getRow_setLost {b : Bool} {j : Nat} (hi : i < 1024) :
    getRow (setLost s i b) issuerCn j =
      if j = i then setFld (getRow s issuerCn i) 63 63 (b2n b) else getRow s issuerCn j := by
  split
  · rename_i h; subst h; exact getRow_setRow_same ..
  · exact getRow_setRow_ne _ _ (by unfold catKey; omega)

theorem setLost_frame (b : Bool) (hi : i < 1024) : StoreFrame s (setLost s i b) [issuerCn] :=
  (StoreFrame.refl _).setRow _ (by omega) (by simp)

theorem setF_rest_switch {s t : State} {cn row hi lo x : Nat}
    (h : t = { setF s cn row hi lo x with host := t.host, switch := t.switch, cat := t.cat }) :
    t = { s with host := t.host, switch := t.switch, cat := t.cat } := h

/-- How the obligation reads the end of a fence that answers `st` and leaves the lost flag `lost`. -/
structure FenceLeft (s : State) (i : Nat) (f : FenceWait) (st : Nat) (lost : Bool) (u : State) : Prop where
  answered : u.host.responses = s.host.responses ++ [fenceAnswer s f i st]
  gone : u.switch = { s.switch with fences := s.switch.fences.erase f }
  fence : Machine.issuerFence u i = 0
  lost : Machine.issuerLost u i = lost
  count : Machine.outstanding u i = Machine.outstanding s i
  others : ∀ j, j < 1024 → j ≠ i → getRow u issuerCn j = getRow s issuerCn j
  counted : get u 0x8070_02 = (get s 0x8070_02 + 1) % 2 ^ 64
  frame : StoreFrame s u ([issuerCn, 0x8070_02] ++ endCounter st)
  rest : u = { s with host := u.host, switch := u.switch, cat := u.cat }

theorem FenceEnded.left {u : State} (e : FenceEnded s i f st u) : FenceLeft s i f st (Machine.issuerLost s i) u :=
  ⟨e.answered, e.gone, e.issuerFence, e.issuerLost, e.outstanding, e.others, e.counted, e.frame, e.rest⟩

/-- The same of a fence that ends after its issuer's lost flag is cleared. -/
theorem FenceEnded.left_of_setLost {u : State} (e : FenceEnded (setLost s i false) i f st u) (hi : i < 1024) :
    FenceLeft s i f st false u := by
  have hframe := setLost_frame (s := s) false hi
  have hanswer : fenceAnswer (setLost s i false) f i st = fenceAnswer s f i st := by
    unfold fenceAnswer issuerPartition; rw [hframe _ _ (by omega) (by decide)]
  have hcount : get (setLost s i false) 0x8070_02 = get s 0x8070_02 := hframe _ _ (by decide) (by decide)
  refine ⟨by rw [e.answered, hanswer, setLost_host], by rw [e.gone, setLost_switch], e.issuerFence, ?_, ?_, fun j hj hne => ?_, ?_,
    (hframe.mono (by simp)).trans e.frame, setF_rest_switch e.rest⟩
  · rw [e.issuerLost, Machine.issuerLost, getRow_setLost hi, if_pos rfl, bit_setFld_single]
  · rw [e.outstanding, Machine.outstanding, getF, getRow_setLost hi, if_pos rfl,
      fld_setFld_above _ _ (by decide) (by decide)]; rfl
  · rw [e.others j hj hne, getRow_setLost hi, if_neg hne]
  · rw [e.counted, hcount]

end

/-- Settles O15: the fence at the head of its issuer's ends as `FenceLeft` says. -/
theorem fencesEndWithTheirStatus : Obligations.FencesEndWithTheirStatus := by
  unfold Obligations.FencesEndWithTheirStatus
  intro s i f hu hi hf hfind
  refine ⟨fun hs hm => ?_, fun h2 hm => ?_⟩
  · have hc : fenceCompletes s i = if f.scope = 2 && issuerLost s i then fenceRsp (setLost s i false) f stFenceLost
        else fenceRsp s f stOk := by
      simp [fenceCompletes, hfind, hs, hm]
    refine ⟨_, congrArg (fun t => Host.Outcome.next (settle t)) ((whenRuns_of _ hu).trans hc), ?_⟩
    split
    · rename_i h
      simp only [Bool.and_eq_true, decide_eq_true_eq] at h
      obtain ⟨h2, hl⟩ := h
      have e := (fenceEnded_fenceRsp (s := setLost s i false) (st := stFenceLost) hf hi).left_of_setLost hi
      exact ⟨e.answered, e.gone, e.fence, by rw [e.lost, h2]; simp, e.count, e.others, e.counted,
        e.frame.mono (by decide), e.rest⟩
    · rename_i h
      have e := (fenceEnded_fenceRsp (s := s) (st := stOk) hf hi).left
      refine ⟨e.answered, e.gone, e.fence, ?_, e.count, e.others, e.counted, e.frame.mono (by decide), e.rest⟩
      rw [e.lost]
      cases hl : issuerLost s i with
      | false => rfl
      | true => simpa [hl] using h
  · have hc : fenceTimesOut s i = fenceRsp s f stTimeout := by
      simp [fenceTimesOut, hfind, h2, hm]
    refine ⟨_, congrArg (fun t => Host.Outcome.next (settle t)) ((whenRuns_of _ hu).trans hc), ?_⟩
    have e := (fenceEnded_fenceRsp (s := s) (st := stTimeout) hf hi).left
    exact ⟨e.answered, e.gone, e.fence, e.lost, e.count, e.others, e.counted,
      get_fenceRsp_timeout (hf ▸ hi), e.frame.mono (by decide), e.rest⟩

end Sys2Proof.Machine
end

section
/-! What sending leaves alone: a packet, a report or an acknowledgement on its way out reaches the ports, the policers, the
switch's own loop, the marks of R177 and R322 and a few objects of the store, and no more. -/

namespace Sys2Proof.Machine

/-- A port without its queues. -/
def unqueued (x : Port) : Port := { x with queues := [], active := [] }

/-- The state without what sending may write. -/
def unsent (s : State) : State :=
  { s with
    cat := [], ports := s.ports.map unqueued, policers := []
    switch := { s.switch with loop := [], unreachable := [] }
    recovery := { s.recovery with nextReport := 0, firstSuppressed := none, firstLate := false }
    mgmt := { s.mgmt with shelfOut := [] } }

/-- The objects that sending may write: the counters of Table 8.4 and of flushed packets, a policer's counts, the report
table with its counters, and the count of acknowledgements. -/
def sendCns : List Nat :=
  [0x4000_01, 0x4000_03, 0x6202_00, 0x8040_03, reportCn, 0xA202_01, 0xA202_03, 0xA202_04] ++
    (upFrom 0 8).map (ofPort · 0x2020_0C)

/-- Nothing waits to leave by the port. -/
def Drained (x : Port) : Prop := x.queues = [] ∧ x.tx = []

/-- What a port that takes nothing has drained stays drained. -/
def StaysDrained (s t : State) : Prop :=
  ∀ p, p < 8 → portTakes s p = false → Drained (port s p) → Drained (port t p)

/-- `t` is `s` after the block has sent something. -/
structure Sends (s t : State) : Prop where
  rest : unsent t = unsent s
  store : StoreFrame s t sendCns
  drained : StaysDrained s t

section
variable {s t u : State}

theorem StaysDrained.refl (s : State) : StaysDrained s s := fun _ _ _ h => h

theorem StaysDrained.trans (h : StaysDrained s t) (g : StaysDrained t u) (hl : ∀ p, p < 8 → portTakes t p = portTakes s p) :
    StaysDrained s u := fun p hp ht hd => g p hp ((hl p hp).trans ht) (h p hp ht hd)

theorem StaysDrained.of_ports (h : t.ports = s.ports) : StaysDrained s t := fun p _ _ hd => by
  unfold port
  rw [h]
  exact hd

theorem portTakes_congr {p : Nat} (h : get t (ofPort p 0x2000_01) = get s (ofPort p 0x2000_01)) : portTakes t p = portTakes s p := by
  unfold portTakes linkState
  rw [h]

/-- What the ports and lanes hold below code 4000_00 is not among what sending writes, the counts of flushed packets apart. -/
theorem notMem_sendCns {c : Nat} (h : c < 0x4000_00) (hc : c % 0x1_0000 ≠ 0x200C) : c ∉ sendCns := by
  have hall : ∀ x ∈ sendCns, 0x4000_00 ≤ x ∨ x % 0x1_0000 = 0x200C := by decide
  intro hm
  have := hall c hm
  omega

theorem Sends.refl (s : State) : Sends s s := ⟨rfl, .refl _, .refl s⟩

theorem Sends.portTakes (h : Sends s t) (p : Nat) (hp : p < 8) : Machine.portTakes t p = Machine.portTakes s p := by
  refine portTakes_congr (h.store _ 0 (by decide) (notMem_sendCns ?_ ?_)) <;> unfold ofPort <;> omega

theorem Sends.trans (h : Sends s t) (g : Sends t u) : Sends s u :=
  ⟨g.rest.trans h.rest, h.store.trans g.store, h.drained.trans g.drained h.portTakes⟩

theorem Sends.part (h : Sends s t) : t.part = s.part := congrArg (·.part) h.rest

theorem Sends.host (h : Sends s t) : t.host = s.host := congrArg (·.host) h.rest

theorem Sends.carrel (h : Sends s t) : t.carrel = s.carrel := congrArg (·.carrel) h.rest

theorem Sends.coll (h : Sends s t) : t.coll = s.coll := congrArg (·.coll) h.rest

theorem Sends.slips (h : Sends s t) : t.slips = s.slips := congrArg (·.slips) h.rest

theorem Sends.trackers (h : Sends s t) : t.switch.trackers = s.switch.trackers := congrArg (·.switch.trackers) h.rest

theorem Sends.acks (h : Sends s t) : t.switch.acks = s.switch.acks := congrArg (·.switch.acks) h.rest

theorem Sends.pairs (h : Sends s t) : t.switch.pairs = s.switch.pairs := congrArg (·.switch.pairs) h.rest

theorem nth_map {α β : Type} (g : α → β) (d : α) (n : Nat) (xs : List α) : nth (g d) n (xs.map g) = g (nth d n xs) := by
  induction xs generalizing n with
  | nil => cases n <;> rfl
  | cons x xs ih =>
    cases n with
    | zero => rfl
    | succ n => exact ih n

/-- What is sent reaches no more of a port than its queues. -/
theorem Sends.port (h : Sends s t) (p : Nat) : unqueued (port t p) = unqueued (port s p) := by
  have hp : t.ports.map unqueued = s.ports.map unqueued := congrArg (·.ports) h.rest
  unfold Machine.port
  rw [← nth_map unqueued, ← nth_map unqueued, hp]

/-! ### Steps of a sending -/

theorem sends_setRow {cn row : Nat} (v : Nat) (hr : row < 2 ^ 32) (hc : cn ∈ sendCns) : Sends s (setRow s cn row v) :=
  ⟨rfl, (StoreFrame.refl _).setRow v hr hc, .of_ports rfl⟩

theorem sends_set {cn : Nat} (v : Nat) (hc : cn ∈ sendCns) : Sends s (set s cn v) := sends_setRow v (by decide) hc

theorem sends_setF {cn row : Nat} (hi lo x : Nat) (hr : row < 2 ^ 32) (hc : cn ∈ sendCns) :
    Sends s (setF s cn row hi lo x) := sends_setRow _ hr hc

theorem sends_count64 {cn : Nat} (hc : cn ∈ sendCns) : Sends s (count64 s cn) := sends_set _ hc

theorem sends_count32 {cn : Nat} (hc : cn ∈ sendCns) : Sends s (count32 s cn) := sends_set _ hc

theorem sends_sendShelf (addr udp : Nat) (bs : List Byte) : Sends s (sendShelf s addr udp bs) :=
  ⟨rfl, .of_cat rfl rfl, .of_ports rfl⟩

theorem map_modifyNth {α β : Type} {f : α → α} {g : α → β} (h : ∀ x, g (f x) = g x) (n : Nat) (xs : List α) :
    (modifyNth f n xs).map g = xs.map g := by
  induction xs generalizing n with
  | nil => cases n <;> rfl
  | cons x xs ih =>
    cases n with
    | zero => simp only [modifyNth, List.map_cons, h]
    | succ n => simp only [modifyNth, List.map_cons, ih]

/-- A change to a port's queues alone, which leaves them empty or takes place at a port that takes traffic. -/
theorem sends_setPort {f : Port → Port} (h : ∀ x, unqueued (f x) = unqueued x) (p : Nat)
    (hd : p < 8 → portTakes s p = false → ∀ x, Drained x → Drained (f x)) : Sends s (setPort s p f) := by
  refine ⟨?_, .of_cat rfl rfl, fun q hq ht hq' => ?_⟩
  rotate_left
  · have hread : port (setPort s p f) q = if q = p ∧ p < s.ports.length then f (port s q) else port s q := by
      unfold port setPort
      rw [nth_modifyNth]
    rw [hread]
    split
    · next e =>
      obtain ⟨rfl, -⟩ := e
      exact hd hq ht _ hq'
    · exact hq'
  have hp : (setPort s p f).ports.map unqueued = s.ports.map unqueued := map_modifyNth h p s.ports
  unfold unsent
  rw [hp]
  rfl

theorem sends_setQueue (p q : Nat) (ds : List Desc) (ht : p < 8 → portTakes s p = true) : Sends s (setQueue s p q ds) := by
  unfold setQueue
  refine sends_setPort ?_ p fun hp hf => absurd (ht hp) (by rw [hf]; decide)
  exact fun _ => rfl

theorem sends_joinQueue (p : Nat) (k : Packet) (o : Nat) (e : Option Nat) (rx : Option RxPlace)
    (ht : p < 8 → portTakes s p = true) : Sends s (joinQueue s p k o e rx) := by
  unfold joinQueue
  refine Sends.trans (sends_setQueue p (queueFor k o) _ ht) (sends_setPort ?_ p fun _ _ x hx => hx)
  exact fun _ => rfl

theorem sends_unreachableAt (x : Table Nat) : Sends s { s with switch.unreachable := x } :=
  ⟨rfl, .of_cat rfl rfl, .of_ports rfl⟩

theorem sends_nextReport (n : Nat) : Sends s { s with recovery.nextReport := n } :=
  ⟨rfl, .of_cat rfl rfl, .of_ports rfl⟩

theorem sends_suppressed (f : Option Nat) (l : Bool) :
    Sends s { s with recovery.firstSuppressed := f, recovery.firstLate := l } := ⟨rfl, .of_cat rfl rfl, .of_ports rfl⟩

theorem sends_loop (l : List Packet) : Sends s { s with switch.loop := l } :=
  ⟨rfl, .of_cat rfl rfl, .of_ports rfl⟩

theorem sends_ite {c : Prop} [Decidable c] (ht : c → Sends s t) (hu : ¬c → Sends s u) :
    Sends s (if c then t else u) := by
  split
  · exact ht ‹_›
  · exact hu ‹_›

/-! ### Packets -/

theorem sends_police {n : Nat} (hn : n < 2 ^ 32) (k : Packet) : Sends s (police s n k).2 := by
  unfold police
  dsimp only
  split
  · exact .refl s
  · exact ⟨rfl, StoreFrame.setRow (.of_cat rfl rfl) _ hn (by decide), .of_ports rfl⟩

theorem sends_policeOrigin (k : Packet) : Sends s (policeOrigin s k).2 := by
  unfold policeOrigin
  split
  · split
    · exact sends_police (lt_of_lt_of_le (Nat.mod_lt _ (by decide)) (by decide)) k
    · exact .refl s
  · exact .refl s

theorem flushed_mem_sendCns {q : Nat} (hq : q < 8) : ofPort q 0x2020_0C ∈ sendCns :=
  List.mem_append_right _ (List.mem_map_of_mem (mem_upFrom.mpr ⟨Nat.zero_le _, by omega⟩))

theorem sends_sendAt {q : Nat} (hq : q < 8) (k : Packet) (e : Option Nat) : Sends s (sendAt s q k e).state := by
  unfold sendAt
  dsimp only
  split
  · generalize (if portLocal (namedAt s q k).dst then ((namedAt s q k).vc, false)
      else datelineVc s q (namedAt s q k).vc) = d
    obtain ⟨vc, moved⟩ := d
    have hmoved : Sends s (if moved = true then count64 s 0x4000_03 else s) :=
      sends_ite (fun _ => sends_count64 (by decide)) fun _ => .refl s
    exact hmoved.trans (sends_joinQueue _ _ _ _ _ fun hp => (hmoved.portTakes q hp).trans ‹_›)
  · exact sends_count64 (flushed_mem_sendCns hq)

theorem portsOf_le (p : Part) : portsOf p ≤ 8 := by cases p <;> decide

/-- An egress is a port of the block. -/
theorem egressOf_lt {src dst q : Nat} (h : egressOf s src dst = some q) : q < 8 := by
  have hle := portsOf_le s.part
  unfold egressOf at h
  split at h
  · split at h
    · have hq := Option.some.inj h
      omega
    · cases h
  · unfold routePort at h
    dsimp only at h
    split at h
    · split at h
      · injection h with h; omega
      · cases h
    · cases h

theorem sends_sendPacket (k : Packet) (e : Option Nat) : Sends s (sendPacket s k e).state := by
  have h := sends_policeOrigin (s := s) k
  unfold sendPacket
  generalize policeOrigin s k = x at h
  obtain ⟨k', t⟩ := x
  dsimp only at h ⊢
  split
  · exact h.trans (sends_loop _)
  · split
    · exact h.trans (sends_sendAt (egressOf_lt ‹_›) _ _)
    · exact h.trans (sends_count64 (by decide))

/-! ### Reports -/

theorem rowsOf_lt {cn : Nat} {e : Nat × Nat} (h : e ∈ rowsOf s cn) : e.1 < 2 ^ 32 := by
  unfold rowsOf at h
  rw [List.mem_filterMap] at h
  obtain ⟨x, -, hx⟩ := h
  split at hx
  · injection hx with hx; rw [← hx]; exact Nat.mod_lt _ (by decide)
  · cases hx

theorem reportFind_lt {c p e n : Nat} (h : reportFind s c p e = some n) : n < 2 ^ 32 := by
  unfold reportFind at h
  split at h
  · injection h with h; rw [← h]; exact rowsOf_lt (List.mem_of_find?_eq_some ‹_›)
  · cases h

theorem reportFree_lt {n : Nat} (h : reportFree s = some n) : n < 2 ^ 32 := by
  have hm := mem_upFrom.mp (List.mem_of_find?_eq_some h)
  omega

theorem sends_sendReport {n : Nat} (hn : n < 2 ^ 32) : Sends s (sendReport s n).1 := by
  have h := sends_sendPacket (s := s) (reportPacket s (getRow s reportCn n)) none
  have counted : ∀ v, Sends s v → Sends s (count64 v 0xA202_01) := fun v hv => hv.trans (sends_count64 (by decide))
  have marked : ∀ v, Sends s v → Sends s (setF v reportCn n 255 254 2) :=
    fun v hv => hv.trans (sends_setF _ _ _ hn (by decide))
  have shelved : ∀ v a b c, Sends s v → Sends s (sendShelf v a b c) := fun v a b c hv => hv.trans (sends_sendShelf ..)
  unfold sendReport
  dsimp only
  generalize sendPacket s _ none = r at h
  generalize reportInband s _ = inband
  generalize reportShelf s _ = shelf
  cases inband with
  | false =>
    cases shelf with
    | false => exact .refl s
    | true => exact marked _ (counted _ (shelved _ _ _ _ (.refl s)))
  | true =>
    have hv : Sends s r.state := h
    cases r <;> cases shelf
    case queued.false | unreachable.false | flushed.false => exact marked _ (counted _ hv)
    case queued.true | unreachable.true | flushed.true => exact marked _ (counted _ (shelved _ _ _ _ (counted _ hv)))

theorem sends_reportInstall {n : Nat} (hn : n < 2 ^ 32) (cause port peer pe c d first : Nat) :
    Sends s (reportInstall s n cause port peer pe c d first).1 :=
  ((sends_setRow _ hn (by decide)).trans (sends_nextReport _)).trans (sends_sendReport hn)

theorem sends_reportRepeats {n : Nat} (hn : n < 2 ^ 32) : Sends s (reportRepeats s n) :=
  (sends_setF _ _ _ hn (by decide)).trans (sends_setF _ _ _ hn (by decide))

theorem sends_suppressReport : Sends s (suppressReport s) := by
  have h := sends_count32 (s := s) (cn := 0xA202_03) (by decide)
  unfold suppressReport
  generalize count32 s _ = t at h ⊢
  exact h.trans (sends_suppressed ..)

theorem sends_reportOnce (cause port peer pe d : Nat) : Sends s (reportOnce s cause port peer pe d).1 := by
  unfold reportOnce
  split
  · exact sends_reportRepeats (reportFind_lt ‹_›)
  · split
    · exact sends_reportInstall (reportFree_lt ‹_›) ..
    · dsimp only
      refine Sends.trans ?_ (sends_set 1 (by decide))
      split
      · exact sends_reportRepeats (reportFind_lt ‹_›)
      · exact sends_suppressReport

theorem sends_report (cause port peer pe d : Nat) : Sends s (report s cause port peer pe d) := by
  have h := sends_reportOnce (s := s) cause port peer pe d
  unfold report
  generalize reportOnce s cause port peer pe d = x at h
  obtain ⟨t, lost⟩ := x
  dsimp only at h ⊢
  split
  · exact (h.trans (sends_unreachableAt _)).trans (sends_reportOnce ..)
  · exact h

theorem sends_unreachable (dst : Nat) : Sends s (unreachable s dst) := by
  unfold unreachable
  exact sends_ite (fun _ => (sends_unreachableAt _).trans (sends_report ..)) fun _ => .refl s

/-! ### What the units send -/

theorem sends_send (k : Packet) (e : Option Nat) : Sends s (send s k e).state := by
  have h := sends_sendPacket (s := s) k e
  unfold send
  generalize sendPacket s k e = r at h
  cases r with
  | unreachable t => exact h.trans (sends_unreachable _)
  | queued t => exact h
  | flushed t => exact h

theorem sends_sendLoose (k : Packet) : Sends s (sendLoose s k) := sends_send ..

theorem sends_sendBack (p : Nat) (k : Packet) : Sends s (sendBack s p k) := by
  unfold sendBack
  exact sends_ite (fun h => sends_sendAt h ..) fun _ => sends_loop _

theorem sends_sendResponse (p : Nat) (k : Packet) : Sends s (sendResponse s p k) := by
  unfold sendResponse
  exact sends_ite (fun _ => sends_sendBack ..) fun _ => sends_sendLoose _

end

/-! ### Acknowledgements -/

/-- `t` is `s` after the block has sent something, its pending-ack table apart. -/
structure Acknowledges (s t : State) : Prop where
  rest : { unsent t with switch := { (unsent t).switch with acks := [] } } =
    { unsent s with switch := { (unsent s).switch with acks := [] } }
  store : StoreFrame s t sendCns

section
variable {s t u : State}

theorem Acknowledges.refl (s : State) : Acknowledges s s := ⟨rfl, .refl _⟩

theorem Acknowledges.trans (h : Acknowledges s t) (g : Acknowledges t u) : Acknowledges s u :=
  ⟨g.rest.trans h.rest, h.store.trans g.store⟩

theorem Acknowledges.host (h : Acknowledges s t) : t.host = s.host := congrArg (·.host) h.rest

theorem Acknowledges.carrel (h : Acknowledges s t) : t.carrel = s.carrel := congrArg (·.carrel) h.rest

theorem Acknowledges.coll (h : Acknowledges s t) : t.coll = s.coll := congrArg (·.coll) h.rest

theorem Sends.acknowledges (h : Sends s t) : Acknowledges s t := ⟨by rw [h.rest], h.store⟩

theorem acknowledges_putAck (e : PendingAck) : Acknowledges s (putAck s e) := ⟨rfl, .of_cat rfl rfl⟩

theorem acknowledges_dropAck (e : PendingAck) : Acknowledges s (dropAck s e) := ⟨rfl, .of_cat rfl rfl⟩

theorem sends_sendAck (e : PendingAck) (r c : Nat) (poll : Bool) : Sends s (sendAck s e r c poll) :=
  (sends_count64 (by decide)).trans (sends_sendLoose _)

theorem acknowledges_ackNow (e : PendingAck) (poll : Bool) : Acknowledges s (ackNow s e poll) := by
  unfold ackNow
  split
  · split
    · exact (sends_sendAck ..).acknowledges.trans (acknowledges_putAck _)
    · exact acknowledges_putAck _
  · dsimp only
    split
    · exact (sends_sendAck ..).acknowledges.trans (acknowledges_dropAck _)
    · exact (sends_sendAck ..).acknowledges.trans (acknowledges_putAck _)

/-- Steps that each stand in a preorder stand in it together. -/
theorem foldl_through {α : Type} {R : State → State → Prop} (hr : ∀ s, R s s) (ht : ∀ {s t u}, R s t → R t u → R s u)
    {g : State → α → State} {xs : List α} (hg : ∀ t, ∀ x ∈ xs, R t (g t x)) (s : State) : R s (xs.foldl g s) := by
  induction xs generalizing s with
  | nil => exact hr s
  | cons x xs ih => exact ht (hg s x (by simp)) (ih (fun t y hy => hg t y (by simp [hy])) _)

/-- Steps that each keep what `f` names keep it together. -/
theorem foldl_keeps {α β : Type} (f : State → β) {g : State → α → State} (hg : ∀ t x, f (g t x) = f t) (xs : List α)
    (s : State) : f (xs.foldl g s) = f s :=
  foldl_through (R := fun s t => f t = f s) (fun _ => rfl) (fun h h' => h'.trans h) (fun t x _ => hg t x) s

theorem acknowledges_answerPolls (e : PendingAck) : Acknowledges s (answerPolls s e) := by
  unfold answerPolls
  refine (acknowledges_putAck _).trans (foldl_through .refl .trans (fun t x _ => ?_) _)
  dsimp only
  split <;> exact acknowledges_ackNow ..

theorem acknowledges_ackDone (src i q : Nat) : Acknowledges s (ackDone s src i q) := by
  unfold ackDone
  split
  · exact .refl s
  · dsimp only
    split
    · split
      · exact (acknowledges_answerPolls _).trans (acknowledges_ackNow ..)
      · exact acknowledges_answerPolls _
    · exact acknowledges_answerPolls _

theorem acknowledges_donePacket (k : Packet) : Acknowledges s (donePacket s k) := by
  unfold donePacket
  split
  · exact acknowledges_ackDone ..
  · exact .refl s

end

end Sys2Proof.Machine
end

section
/-! Memory-side requests: their acceptance, and the locks of their lines (R68, R72, R342 to R344). -/

namespace Sys2Proof.Machine

section
variable {s t : State} {m a : Nat} {r : MspReq} {x : Access}

/-! ### What the acceptance of an access's last request moves -/

theorem donePacket_host (k : Packet) : (donePacket s k).host = s.host :=
  (acknowledges_donePacket k).host

theorem endUse_host (k : Nat) : (endUse s k).host = s.host := by
  unfold endUse
  split
  · rfl
  · exact setF_host

theorem endUses_host (ks : List Nat) : (endUses s ks).host = s.host :=
  foldl_keeps (·.host) (fun _ k => endUse_host k) ks s

theorem countLanded_host (k : Packet) : (countLanded s k).host = s.host := by
  unfold countLanded
  dsimp only
  split
  · exact setF_host
  · rfl

/-- The host side but for the accesses under way. -/
def memorySide (s : State) : HostSide := { s.host with accesses := [], inner := [] }

theorem memorySide_endPost (n : NoticePending) : memorySide (endPost s n) = memorySide s := by
  have close : ∀ b x k, memorySide (donePacket (closeAccess s b x) k) = memorySide s := fun b x k => by
    unfold memorySide closeAccess
    rw [donePacket_host, endUses_host]
  unfold endPost
  split
  · rfl
  · split
    · rfl
    · split
      · exact close ..
      · rfl

theorem memorySide_performedAt : memorySide (performedAt s a) = memorySide s := by
  unfold performedAt memorySide
  split
  · split
    · split
      · rw [donePacket_host, countLanded_host]
      · rw [donePacket_host]
      · rfl
    · rfl
  · rfl

theorem memorySide_acceptedHook : memorySide (acceptedHook s a x) = memorySide s := by
  unfold acceptedHook
  split
  · rfl
  · split
    · unfold noticePerformed
      split
      · exact memorySide_endPost _
      · rfl
    · unfold burstPerformed
      split <;> rfl
    · exact memorySide_performedAt

theorem outstanding_acceptedHook : (acceptedHook s a x).host.outstanding = s.host.outstanding :=
  congrArg (·.outstanding) (memorySide_acceptedHook (s := s) (a := a) (x := x))

theorem beats_acceptedHook : (acceptedHook s a x).host.beats = s.host.beats :=
  congrArg (·.beats) (memorySide_acceptedHook (s := s) (a := a) (x := x))

/-- A READ is over with its response: its acceptance moves nothing more. -/
theorem acceptedHook_pktRead {p : Nat} {k : Packet} (h : x.kind = .pktRead p k) (hx : access? s a = some x) :
    acceptedHook s a x = s := by
  simp only [acceptedHook, performedAt, h, hx, ite_self]

/-! ### Tags -/

theorem lookupT_eq_none_of_notMem {α : Type} {t : Table α} {k : Nat} (h : k ∉ keysT t) : lookupT t k = none := by
  induction t with
  | nil => rfl
  | cons e t ih =>
    simp only [keysT, List.map_cons, List.mem_cons, not_or] at h
    obtain ⟨hne, ht⟩ := h
    rw [lookupT, if_neg hne]
    exact ih ht

theorem pickTag_free {start n : Nat} (h : pickTag s m start = some n) :
    n < 1024 ∧ lookupT s.host.outstanding (m * 1024 + n) = none := by
  unfold pickTag at h
  have hmem := List.mem_of_find?_eq_some h
  have hfree := List.find?_some h
  simp only [List.mem_map] at hmem
  obtain ⟨i, -, rfl⟩ := hmem
  have hlt : (start + i) % 1024 < 1024 := Nat.mod_lt _ (by decide)
  refine ⟨hlt, lookupT_eq_none_of_notMem fun hin => ?_⟩
  have hat : m * 1024 + (start + i) % 1024 ∈ outstandingAt s m :=
    List.mem_filter.mpr ⟨hin, by simp only [beq_iff_eq]; omega⟩
  simp [hat] at hfree

/-! ### The acceptance -/

theorem mspQueue_erase (q : List MspReq) : mspQueue (setMspQueue s m q) m = q := by
  unfold mspQueue setMspQueue
  cases q <;> simp [lookupT_eraseT, lookupT_insertT]

/-- The access of an accepted request waits for one acceptance fewer. -/
def acceptedAccess (r : MspReq) (x : Access) : Access :=
  { x with toAccept := x.toAccept - 1, performed := x.performed || (x.toAccept ≤ 1 && r.op != 2) }

/-- What the acceptance of request `r` of port `m` at tag `n` leaves of the host side. -/
structure Accepted (s : State) (m : Nat) (r : MspReq) (n : Nat) (t : State) : Prop where
  outstanding : lookupT t.host.outstanding (m * 1024 + n) = some r
  beats : r.op = 1 → (lookupT t.host.beats m).getD [] = (lookupT s.host.beats m).getD [] ++ writeBeats r
  access : access? t r.access = (access? s r.access).map (acceptedAccess r)
  read : r.op = 0 → mspQueue t m = (mspQueue s m).erase r ∧ t.host.locks = s.host.locks ∧
    lookupT t.host.valid m = none ∧ t = { s with host := t.host, freeCount := s.freeCount + 1 }

theorem access?_updAccess (f : Access → Access) : access? (updAccess s a f) a = (access? s a).map f := by
  unfold updAccess
  cases h : access? s a with
  | none => exact h
  | some y => exact (lookupT_insertT ..).trans (if_pos rfl)

theorem updAccess_eq (f : Access → Access) :
    updAccess s a f = { s with host.accesses := (updAccess s a f).host.accesses } := by
  unfold updAccess; split <;> rfl

theorem takeLock_eq : takeLock s m r = { s with host.locks := (takeLock s m r).host.locks } := by
  unfold takeLock; split <;> rfl

/-- The request has left its queue and its channel, and waits under its tag. -/
def tagged (s : State) (m : Nat) (r : MspReq) (n : Nat) : State :=
  { setMspQueue s m ((mspQueue s m).erase r) with
    host := { (setMspQueue s m ((mspQueue s m).erase r)).host with
      outstanding := insertT s.host.outstanding (m * 1024 + n) r, valid := eraseT s.host.valid m } }

theorem acceptReq_eq {n : Nat} (h : pickTag s m (Config.freeTag s.freeCount) = some n) :
    acceptReq s m r =
      (let t := updAccess (queueBeats (tagged (takeLock { s with freeCount := s.freeCount + 1 } m r) m r n) m r) r.access
        (acceptedAccess r)
       if r.op = 3 then dropLocks t r.access m else t) := by
  have h' : pickTag { s with freeCount := s.freeCount + 1 } m (Config.freeTag s.freeCount) = some n := h
  simp only [acceptReq, draw, h']
  rfl

theorem queueBeats_eq : queueBeats s m r = { s with host.beats := (queueBeats s m r).host.beats } := by
  unfold queueBeats; split <;> rfl

theorem beats_queueBeats (h : r.op = 1) : (lookupT (queueBeats s m r).host.beats m).getD [] =
    (lookupT s.host.beats m).getD [] ++ writeBeats r := by
  simp [queueBeats, h, lookupT_insertT]

theorem accepted_acceptReq {n : Nat} (h : pickTag s m (Config.freeTag s.freeCount) = some n) :
    Accepted s m r n (acceptReq s m r) := by
  rw [acceptReq_eq h]
  have hdrop : ∀ t : State, (if r.op = 3 then dropLocks t r.access m else t) =
      { t with host.locks := (if r.op = 3 then dropLocks t r.access m else t).host.locks } := by
    intro t; split <;> rfl
  refine ⟨?_, fun hop => ?_, ?_, fun hop => ?_⟩
  · dsimp only; rw [hdrop, updAccess_eq, queueBeats_eq]
    exact (lookupT_insertT ..).trans (if_pos rfl)
  · dsimp only; rw [hdrop, updAccess_eq, beats_queueBeats hop, takeLock_eq]; rfl
  · dsimp only; rw [hdrop]
    refine (access?_updAccess _).trans ?_
    rw [queueBeats_eq, takeLock_eq]; rfl
  · have h0 : r.op ≠ 3 := by omega
    have h1 : takeLock { s with freeCount := s.freeCount + 1 } m r = { s with freeCount := s.freeCount + 1 } := by
      simp [takeLock, hop]
    have h2 : ∀ t, queueBeats t m r = t := fun t => by simp [queueBeats, hop]
    dsimp only
    rw [if_neg h0, h1, h2, updAccess_eq]
    exact ⟨mspQueue_erase _, rfl, (lookupT_eraseT ..).trans (if_pos rfl), rfl⟩

/-! ### Locks granted -/

theorem lockIfReached_eq : lockIfReached s m r = { s with host.locks := (lockIfReached s m r).host.locks } := by
  unfold lockIfReached
  split
  · exact takeLock_eq
  · rfl

/-- The lock that a READ_LOCK takes. -/
def lineLock (m : Nat) (r : MspReq) : Lock :=
  { access := r.access, port := m, context := r.context, segment := r.segment, line := r.offset / 64 }

theorem locks_lockIfReached : (lockIfReached s m r).host.locks =
    s.host.locks ++ (if reaches s r.access m && (r.op == 2) && !lockHeld s m r then [lineLock m r] else []) := by
  unfold lockIfReached takeLock
  cases reaches s r.access m <;> cases hop : (r.op == 2) <;> cases lockHeld s m r <;> simp_all [lineLock]

theorem reaches_of_earlier_performed (h : ∀ x ∈ s.host.accesses, a ≤ x.1 ∨ x.2.performed = true) : reaches s a m = true := by
  unfold reaches
  split
  · rfl
  · rw [Bool.or_eq_true, List.all_eq_true]
    refine .inr fun e he => ?_
    rcases h e he with h | h <;> simp [h]

theorem grantLock_eq {e : Nat × MspReq} (h : grantable s m = some e) :
    grantLock s m =
      (let t := lockIfReached { s with host.lockWaits := s.host.lockWaits.erase e } m e.2
       setMspQueue t m (mspQueue s m ++ [e.2])) := by
  simp only [grantLock, h]
  rfl

/-- Settles O11: the parts of `acceptReq` and `grantLock`. -/
theorem memoryRequestsGoOn : Obligations.MemoryRequestsGoOn := by
  unfold Obligations.MemoryRequestsGoOn
  refine ⟨fun s m r x hu hr hx hp => ?_, fun s m e hu hg => ?_⟩
  · obtain ⟨n, hn⟩ := Option.isSome_iff_exists.mp hp
    obtain ⟨hlt, hfree⟩ := pickTag_free hn
    have ha := accepted_acceptReq (r := r) hn
    have hx' : access? (acceptReq s m r) r.access = some (acceptedAccess r x) := by rw [ha.access, hx]; rfl
    have hnext : acceptNext s m = acceptedHook (acceptReq s m r) r.access (acceptedAccess r x) := by
      simp only [acceptNext, hr, hx']
    refine ⟨_, congrArg Host.Outcome.next ((if_pos hu).trans (congrArg settle hnext)),
      ⟨n, hlt, hfree, ?_⟩, fun p k hk hop => ?_, fun p k _ hop => ?_⟩
    · rw [outstanding_acceptedHook]; exact ha.outstanding
    · obtain ⟨hq, hl, hv, hrest⟩ := ha.read hop
      rw [acceptedHook_pktRead (x := acceptedAccess r x) hk hx']
      refine ⟨hq, ?_, hl, hv, hrest⟩
      rw [hx', acceptedAccess, hop]; simp
    · rw [beats_acceptedHook]; exact ha.beats hop
  · refine ⟨_, congrArg (fun t => Host.Outcome.next (settle t)) ((whenRuns_of _ hu).trans (grantLock_eq hg)), ?_⟩
    dsimp only
    refine ⟨mspQueue_setMspQueue_append .., ?_, ⟨_, locks_lockIfReached, ?_, fun hop => ?_, fun hop hall hno => ?_⟩, ?_⟩
    · rw [lockIfReached_eq]; rfl
    · split <;> simp [lineLock]
    · simp [hop]
    · have h1 : reaches { s with host.lockWaits := s.host.lockWaits.erase e } e.2.access m = true :=
        reaches_of_earlier_performed hall
      have h2 : lockHeld { s with host.lockWaits := s.host.lockWaits.erase e } m e.2 = false := hno
      simp [h1, h2, hop]
    · rw [lockIfReached_eq]; exact ⟨rfl, rfl, rfl⟩

end

end Sys2Proof.Machine
end

section
/-! What the checks of R63 leave when they let a packet through (R61 to R64). -/

namespace Sys2Proof.Machine

/-! ### What each check leaves -/

/-- The objects that the checks write: a policer's counts and the on-demand counters. -/
def checkCns : List Nat := 0x6202_00 :: (upFrom 0 16).map (0xD101_01 + ·)

/-- The checks reach the ports, the policers, the switch's loop and pending-ack table, and `checkCns`. -/
structure CheckedThrough (s t : State) : Prop where
  rest : t = { s with switch := { s.switch with acks := t.switch.acks, loop := t.switch.loop },
                      ports := t.ports, cat := t.cat, policers := t.policers }
  store : StoreFrame s t checkCns

section
variable {s t u : State} {p : Nat} {k : Packet}

theorem CheckedThrough.refl (s : State) : CheckedThrough s s := ⟨rfl, .refl _⟩

theorem CheckedThrough.trans (h : CheckedThrough s t) (g : CheckedThrough t u) : CheckedThrough s u :=
  ⟨by rw [g.rest, h.rest], h.store.trans g.store⟩

/-- A step that reaches the ports alone. -/
theorem checkedThrough_of_ports (h : t = { s with ports := t.ports }) : CheckedThrough s t :=
  ⟨by rw [h], by rw [h]; exact .of_cat rfl rfl⟩

/-- A step that reaches the store alone. -/
theorem checkedThrough_of_store (h : t = { s with cat := t.cat }) (hf : StoreFrame s t checkCns) : CheckedThrough s t :=
  ⟨by rw [h], hf⟩

theorem dropRx_eq : dropRx s p k = { s with ports := (dropRx s p k).ports } := by
  unfold dropRx
  split
  · split <;> rfl
  · rfl

theorem freeRx_eq (r : Option RxPlace) : freeRx s r = { s with ports := (freeRx s r).ports } := by
  unfold freeRx
  split
  · split <;> rfl
  · rfl

theorem takeRx_eq : takeRx s p k = { s with ports := (takeRx s p k).ports } := by
  unfold takeRx
  rw [freeRx_eq, dropRx_eq]

/-- An event reaches the on-demand counters that count it. -/
theorem checkedThrough_odc (event n : Nat) (q : Option Nat) (j : Option Packet) : CheckedThrough s (odc s event q j n) := by
  unfold odc
  split
  · refine foldl_through .refl .trans (fun t i hi => ?_) s
    split
    · refine checkedThrough_of_store rfl ((StoreFrame.refl _).set _ ?_)
      exact List.mem_cons_of_mem _ (List.mem_map_of_mem hi)
    · exact .refl _
  · exact .refl _

theorem get_odc {cn : Nat} (event n : Nat) (q : Option Nat) (j : Option Packet) (h : cn ∉ checkCns) :
    get (odc s event q j n) cn = get s cn :=
  (checkedThrough_odc event n q j).store cn 0 (by decide) h

theorem sourceChecks_go (h : sourceChecks s p k = .go t) :
    t = s ∧ k.abort = false ∧ wellFramed k = true ∧ badIdentifiers k = false := by
  unfold sourceChecks at h
  split at h
  · cases h
  split at h
  · cases h
  split at h
  · cases h
  rename_i h1 h2 h3
  refine ⟨?_, by simpa using h1, by simpa using h2, by simpa using h3⟩
  split at h
  · cases h; rfl
  split at h
  · split at h <;> cases h
  split at h
  · split at h
    · cases h; rfl
    · cases h
  · cases h; rfl

theorem ackArrive_eq : ackArrive s p k = { s with switch.acks := (ackArrive s p k).switch.acks } := by
  unfold ackArrive
  dsimp only
  split
  · rfl
  · split <;> rfl

theorem destinationChecks_go (h : destinationChecks s p k = .go t) :
    t = (if fenceCounted k.opcode then ackArrive s p k else s) ∧ crcOk k = true := by
  unfold destinationChecks at h
  split at h
  · cases h
  rename_i hcrc
  split at h
  · cases h
  refine ⟨?_, by simpa using hcrc⟩
  dsimp only at h
  generalize (if fenceCounted k.opcode then ackArrive s p k else s) = v at h ⊢
  split at h
  · cases h
  split at h
  · cases h
  · cases h; rfl

theorem police_through (n : Nat) (hn : n < 2 ^ 32) (j : Packet) : CheckedThrough s (police s n j).2 := by
  unfold police
  dsimp only
  split
  · exact .refl _
  · exact ⟨rfl, StoreFrame.setRow (.of_cat rfl rfl) _ hn (by simp [checkCns])⟩

theorem police_switch (n : Nat) (j : Packet) : (police s n j).2.switch = s.switch := by
  unfold police
  dsimp only
  split
  · rfl
  · exact setF_switch

theorem policeHere_go (h : policeHere s p k = .go t) : CheckedThrough s t ∧ t.switch = s.switch := by
  unfold policeHere at h
  split at h
  · split at h
    · cases h; exact ⟨.refl _, rfl⟩
    · rename_i b _
      have hn : fld b 95 88 < 2 ^ 32 := lt_of_lt_of_le (Nat.mod_lt _ (by decide)) (by decide)
      have hp := police_through (s := s) _ hn k
      have hw := police_switch (s := s) (fld b 95 88) k
      dsimp only at h
      generalize police s (fld b 95 88) k = x at h hp hw
      obtain ⟨k', v⟩ := x
      dsimp only at h
      split at h
      · cases h
      · cases h; exact ⟨hp, hw⟩
  · cases h; exact ⟨.refl _, rfl⟩

/-! ### The checks together -/

theorem odc_switch (event n : Nat) (q : Option Nat) (j : Option Packet) : (odc s event q j n).switch = s.switch := by
  unfold odc
  split
  · refine foldl_keeps (·.switch) (fun t i => ?_) _ s
    split <;> rfl
  · rfl

/-- What the checks of a packet off the wire begin with: its place in the receive buffers and the counters. -/
def arrivalCounted (s : State) (p : Nat) (k : Packet) : State :=
  let s := odc (takeRx s p k) 0x01 (some p) (some k) 1
  if k.opcode = opCommitAck && addressedHere s k then odc s 0x0A (some p) (some k) 1 else s

theorem arrivalCounted_through : CheckedThrough s (arrivalCounted s p k) := by
  have h : CheckedThrough s (odc (takeRx s p k) 0x01 (some p) (some k) 1) :=
    (checkedThrough_of_ports takeRx_eq).trans (checkedThrough_odc ..)
  unfold arrivalCounted
  dsimp only
  split
  · exact h.trans (checkedThrough_odc ..)
  · exact h

theorem arrivalCounted_switch : (arrivalCounted s p k).switch = s.switch := by
  have h : (odc (takeRx s p k) 0x01 (some p) (some k) 1).switch = s.switch := by
    rw [odc_switch, takeRx_eq]
  unfold arrivalCounted
  dsimp only
  split
  · rw [odc_switch, h]
  · exact h

/-- The checks write no object that an address rests on. -/
theorem addressedHere_through (h : CheckedThrough s t) : addressedHere t k = addressedHere s k := by
  have h1 : get t 0x1001_00 = get s 0x1001_00 := h.store _ _ (by decide) (by decide)
  have h2 : t.mgmt = s.mgmt := by rw [h.rest]
  have h3 : t.mirror = s.mirror := by rw [h.rest]
  unfold addressedHere ownId inForce
  rw [h1, h2, h3]

theorem arrive_wire (hp : p ≠ 15) (h : arrive s p k rulesOf = .go t) :
    ∃ u v, sourceChecks (arrivalCounted s p k) p k = .go u ∧ addressedHere u k = true ∧
      destinationChecks u p k = .go v ∧ (opcodeRules k && rulesOf k) = true ∧ policeHere v p k = .go t := by
  unfold arrive at h
  rw [if_neg hp] at h
  dsimp only at h
  change (match sourceChecks (arrivalCounted s p k) p k with
    | .stop s => _
    | .go s => _) = _ at h
  split at h
  · cases h
  rename_i u hu
  split at h
  · split at h <;> cases h
  rename_i hhere
  split at h
  · cases h
  rename_i v hv
  split at h
  · cases h
  rename_i hrules
  exact ⟨u, v, hu, by simpa using hhere, hv, by simpa using hrules, h⟩

/-- What the checks of a packet that they let through leave, and what the packet meets. -/
theorem arrive_go (h : arrive s p k rulesOf = .go t) :
    CheckedThrough s t ∧ (fenceCounted k.opcode = false → t.switch.acks = s.switch.acks) ∧
      opcodeRules k = true ∧ rulesOf k = true ∧
      (p ≠ 15 → k.abort = false ∧ wellFramed k = true ∧ badIdentifiers k = false ∧ crcOk k = true ∧
        addressedHere s k = true) := by
  by_cases hp : p = 15
  · unfold arrive at h
    rw [if_pos hp] at h
    split at h
    · cases h
    dsimp only at h
    split at h
    · rename_i hrules
      cases h
      simp only [Bool.and_eq_true] at hrules
      exact ⟨⟨rfl, .of_cat rfl rfl⟩, fun _ => rfl, hrules.1, hrules.2, fun hne => absurd hp hne⟩
    · cases h
  · obtain ⟨u, v, hu, hhere, hv, hrules, ht⟩ := arrive_wire hp h
    obtain ⟨rfl, habort, hframed, hbad⟩ := sourceChecks_go hu
    obtain ⟨rfl, hcrc⟩ := destinationChecks_go hv
    obtain ⟨hpolice, hswitch⟩ := policeHere_go ht
    have hstart : CheckedThrough s (arrivalCounted s p k) := arrivalCounted_through
    have hack : CheckedThrough (arrivalCounted s p k)
        (if fenceCounted k.opcode then ackArrive (arrivalCounted s p k) p k else arrivalCounted s p k) := by
      split
      · rw [ackArrive_eq]; exact ⟨rfl, .of_cat rfl rfl⟩
      · exact .refl _
    simp only [Bool.and_eq_true] at hrules
    refine ⟨(hstart.trans hack).trans hpolice, fun hf => ?_, hrules.1, hrules.2,
      fun _ => ⟨habort, hframed, hbad, hcrc, addressedHere_through hstart ▸ hhere⟩⟩
    rw [hswitch, hf, if_neg (by decide), arrivalCounted_switch]

end

/-- Settles O16: `arrive_go`. -/
theorem passedChecksLeaveTheRest : Obligations.PassedChecksLeaveTheRest := by
  unfold Obligations.PassedChecksLeaveTheRest
  intro s t p k h
  obtain ⟨hthrough, hacks, hop, hrules, hwire⟩ := arrive_go h
  exact ⟨hop, hrules, hwire, hacks, hthrough.store, hthrough.rest⟩

/-! ### A checked request -/

section
variable {s t : State} {p stamp : Nat} {k : Packet}

/-- A checked packet that is no response and no loan's acts as its opcode says. -/
theorem packetArrives_checked (h : Checked s p k t) (hr : isResponse k.opcode = false ∨ k.opcode = opCommitAck)
    (hl : k.opcode ≠ opLoanData) (hc : (requestActs t p k stamp).coll.waits = t.coll.waits) :
    packetArrives s p k stamp = requestActs t p k stamp := by
  have hport : ¬(!switchOn s || (p ≠ 15 && portsOf s.part ≤ p)) = true := by
    have := h.port
    simp [h.works]; omega
  have hheld : collHeld (requestActs t p k stamp) p k.vc = false := by
    have hfirst := h.first
    simp only [packetWaits, channelHeld, Bool.or_eq_false_iff] at hfirst
    obtain ⟨⟨⟨hcoll, -⟩, -⟩, -⟩ := hfirst
    have hthrough := (arrive_go h.checks).1.rest
    unfold collHeld at hcoll ⊢
    rw [hc, hthrough]; exact hcoll
  have hresp : (isResponse k.opcode && k.opcode != opCommitAck) = false := by
    rcases hr with hr | hr <;> simp [hr]
  unfold packetArrives
  rw [if_neg hport, h.first, if_neg (by decide)]
  unfold packetTaken
  rw [h.here, if_neg (by decide), if_neg hl, hresp, if_neg (by decide), h.checks]
  dsimp only
  rw [hheld, if_neg (by decide)]

/-- The command of a checked packet, which names the packet's own opcode, answers what its opcode does. -/
theorem packetOut_checked {u : State} {j : Packet} (h : Checked s p k t)
    (hr : isResponse k.opcode = false ∨ k.opcode = opCommitAck) (hl : k.opcode ≠ opLoanData)
    (hu : requestActs t p k 0 = u) (hc : u.coll.waits = t.coll.waits) (hj : j = k) :
    packetOut s p j = .next (settle u) := by
  subst hj hu
  exact congrArg (fun t => Host.Outcome.next (settle t)) (packetArrives_checked h hr hl hc)

end

end Sys2Proof.Machine
end

section
/-! Requests that admission lets in: the access that each becomes and its place in source order (R36, R53, R63, R67, R68,
R72, R113, R143, R144). -/

namespace Sys2Proof.Machine

/-! ### Admission -/

/-- Admission reaches the free draws, the use counts and the store. -/
def Admitting (s t : State) : Prop :=
  t = { s with freeCount := t.freeCount, switch := { s.switch with uses := t.switch.uses }, cat := t.cat }

section
variable {s t u : State}

theorem Admitting.refl (s : State) : Admitting s s := rfl

theorem Admitting.trans (h : Admitting s t) (g : Admitting t u) : Admitting s u := by
  unfold Admitting at *; rw [g, h]

theorem Admitting.coll (h : Admitting s t) : t.coll = s.coll := by rw [h]

theorem admitting_setF (cn row hi lo x : Nat) : Admitting s (setF s cn row hi lo x) := rfl

theorem admitting_count64 (cn : Nat) : Admitting s (count64 s cn) := rfl

theorem admitting_windowAt (q : Asking) (first len : Nat) : Admitting s (windowAt s q first len).2 := by
  unfold windowAt
  split <;> rfl

theorem admitting_checkSpans (q : Asking) (spans : List (Nat × Nat)) (touched : List Nat) :
    Admitting s (checkSpans s q touched spans).1 := by
  induction spans generalizing s touched with
  | nil => exact .refl s
  | cons e spans ih =>
    obtain ⟨first, len⟩ := e
    have h := admitting_windowAt (s := s) q first len
    unfold checkSpans
    generalize windowAt s q first len = x at h ⊢
    obtain ⟨w, t⟩ := x
    cases w with
    | none => exact h
    | some w =>
      dsimp only at h ⊢
      split
      · exact h
      · exact h.trans (ih _)

theorem admitting_beginUse (w : Nat) : Admitting s (beginUse s w).2 :=
  Admitting.trans (t := setUseCount s (useKey w (epochOf s w)) (useCount s (useKey w (epochOf s w)) + 1)) rfl
    (admitting_setF ..)

theorem admitting_beginUses (ws : List Nat) : Admitting s (beginUses s ws).2 := by
  induction ws generalizing s with
  | nil => exact .refl s
  | cons w ws ih => exact (admitting_beginUse w).trans ih

theorem admitting_odc (event n : Nat) (q : Option Nat) (j : Option Packet) : Admitting s (odc s event q j n) := by
  unfold odc
  split
  · refine foldl_through .refl .trans (fun t i _ => ?_) s
    split <;> rfl
  · rfl

theorem admitting_admission (spans : List (Nat × Nat)) (q : Asking) : Admitting s (admission s spans q).1 := by
  have h := admitting_checkSpans (s := s) q spans []
  unfold admission
  generalize checkSpans s q [] spans = x at h ⊢
  obtain ⟨t, r⟩ := x
  cases r with
  | ok ws => exact h.trans (admitting_beginUses ws)
  | error e => exact h.trans ((admitting_count64 _).trans (admitting_odc ..))

end

/-! ### The access that a request becomes -/

section
variable {s t v : State} {p : Nat} {k : Packet} {uses : List Nat}

theorem pairKey_of_ne (h : k.opcode ≠ opLoanData) : pairKey k = k.src := if_neg h

theorem innerAccess_coll (kind : AccessKind) (pair : Option Nat) (n : Nat) :
    (innerAccess s kind pair uses n).2.coll = s.coll := rfl

theorem offerReq_coll (m : Nat) (r : MspReq) : (offerReq s m r).coll = s.coll := by
  unfold offerReq
  split
  · dsimp only
    split
    · exact ((admitting_count64 _).trans (admitting_odc ..)).coll
    · rfl
  · rw [lockIfReached_eq]; rfl

theorem presentPieces_coll (a op context segment : Nat) (poison : Bool) (n : Nat) (ps : List (Nat × Nat))
    (data : List Byte) (i : Nat) : (presentPieces a op context segment poison n ps data i s).coll = s.coll := by
  induction ps generalizing s data i with
  | nil => rfl
  | cons e ps ih =>
    obtain ⟨off, len⟩ := e
    unfold presentPieces
    dsimp only
    rw [ih]
    split
    · exact offerReq_coll ..
    · rw [updAccess_eq]

theorem markReady_coll (a : Nat) : (markReady s a).coll = s.coll := by
  unfold markReady
  split
  · split <;> rfl
  · rfl

theorem hostAccess_coll (kind : AccessKind) (pair : Option Nat) (op context segment offset len : Nat)
    (data : List Byte) (poison : Bool) (n : Nat) :
    (hostAccess s kind pair op context segment offset len data poison uses n).2.coll = s.coll := by
  unfold hostAccess enterAccess
  dsimp only
  rw [markReady_coll, presentPieces_coll]

theorem startAccess_coll (row : Nat) : (startAccess s p k uses row).coll = s.coll := by
  unfold startAccess
  dsimp only
  split
  · rfl
  · split <;> exact hostAccess_coll ..

/-- The opcodes of the requests that admission checks. -/
def servedOpcodes : List Nat :=
  [opRead, opWrite, opWriteAck, opAtomic, opAtomicFetch, opLedgerAdd, opLedgerRead, opLedgerReadClear]

theorem requestActs_serve (h : k.opcode ∈ servedOpcodes) : requestActs t p k 0 = serve t p k := by
  simp only [servedOpcodes, List.mem_cons, List.not_mem_nil, or_false] at h
  unfold requestActs
  rcases h with h | h | h | h | h | h | h | h <;> rw [h] <;> rfl

theorem served_plain (h : k.opcode ∈ servedOpcodes) : isResponse k.opcode = false ∧ k.opcode ≠ opLoanData := by
  simp only [servedOpcodes, List.mem_cons, List.not_mem_nil, or_false] at h
  rcases h with h | h | h | h | h | h | h | h <;> rw [h] <;> decide

/-- A request that admission lets in at a window that its opcode may use becomes an access. -/
theorem serve_pass {row : Nat} (ha : admission t [spanOf k] (askOf k) = (v, .pass uses))
    (hr : row = windowRow v (nth 0 0 uses / 2 ^ 32))
    (hk : (k.opcode = opAtomic ∨ k.opcode = opAtomicFetch) → winKind row = 0)
    (hd : (k.opcode = opLedgerAdd ∨ k.opcode = opLedgerRead ∨ k.opcode = opLedgerReadClear) → domainOn v 18 = true) :
    serve t p k = startAccess v p k uses row := by
  unfold serve
  rw [ha]
  dsimp only
  rw [if_neg, ← hr]
  rw [← hr]
  simp only [Bool.or_eq_true, Bool.and_eq_true, decide_eq_true_eq, Bool.not_eq_true', not_or, not_and]
  exact ⟨fun h hne => absurd (hk h) hne, fun h => by simp [hd (by tauto)]⟩

/-- A checked request that admission lets in is carried out as its access. -/
theorem packetArrives_pass {row : Nat} (h : Checked s p k t) (hop : k.opcode ∈ servedOpcodes)
    (ha : admission t [spanOf k] (askOf k) = (v, .pass uses)) (hr : row = windowRow v (nth 0 0 uses / 2 ^ 32))
    (hk : (k.opcode = opAtomic ∨ k.opcode = opAtomicFetch) → winKind row = 0)
    (hd : (k.opcode = opLedgerAdd ∨ k.opcode = opLedgerRead ∨ k.opcode = opLedgerReadClear) → domainOn v 18 = true) :
    packetArrives s p k 0 = startAccess v p k uses row := by
  obtain ⟨hresp, hloan⟩ := served_plain hop
  have hacts : requestActs t p k 0 = startAccess v p k uses row := (requestActs_serve hop).trans (serve_pass ha hr hk hd)
  have hcoll : v.coll = t.coll := by
    have hadm := admitting_admission (s := t) [spanOf k] (askOf k)
    rw [ha] at hadm
    exact hadm.coll
  rw [packetArrives_checked h (.inl hresp) hloan (by rw [hacts, startAccess_coll, hcoll]), hacts]

/-! ### An atomic's READ_LOCK -/

/-- A READ_LOCK at a port with no locks joins the queue's end, and takes its line where its turn has come. -/
theorem offerReq_readLock {m : Nat} {r : MspReq} (hl : noLocksAt s m) :
    offerReq s m r = setMspQueue (lockIfReached s m r) m (mspQueue s m ++ [r]) := by
  obtain ⟨hlocks, hwaits⟩ := hl
  have hline : lineLocked s m r = false := by
    simp only [lineLocked, List.any_eq_false]
    intro l hmem
    simp [hlocks l hmem]
  have hplaces : (s.host.locks.filter fun l => l.port == m) = [] := by
    rw [List.filter_eq_nil_iff]
    intro l hmem
    simp [hlocks l hmem]
  have hahead : atomicAhead s m r = false := by
    simp only [atomicAhead, List.any_eq_false]
    intro e hmem
    simp [hwaits e hmem]
  unfold offerReq
  rw [if_neg (by simp [mustWait, hline, hplaces, hahead, lockPlaces])]

/-- The host side with one access more. -/
def entered (s : State) (x : Access) : State :=
  { s with host.accesses := insertT s.host.accesses s.host.nextAccess x, host.nextAccess := s.host.nextAccess + 1 }

/-- The access of a request of one piece. -/
def onePiece (kind : AccessKind) (pair : Option Nat) (windows : List Nat) (partition context : Nat) : Access :=
  { kind := kind, pair := pair, performed := false, toAccept := 1, toComplete := 1, status := 0, data := [],
    windows := windows, partition := partition, context := context, ignored := false, faultAt := none, written := 0 }

theorem access?_entered (x : Access) : access? (entered s x) s.host.nextAccess = some x :=
  (lookupT_insertT ..).trans (if_pos rfl)

/-- An access that still has a request to accept is not over. -/
theorem markReady_waits {a : Nat} {x : Access} (h : access? s a = some x) (hx : x.toAccept ≠ 0) : markReady s a = s := by
  unfold markReady
  rw [h]
  exact if_neg (by simp [hx])

theorem offerReq_accesses (m : Nat) (r : MspReq) : (offerReq s m r).host.accesses = s.host.accesses := by
  unfold offerReq
  split
  · dsimp only
    split
    · have h : Admitting s (odc (count64 s (0x8062_01 + m)) 0x09 none none 1) :=
        (admitting_count64 _).trans (admitting_odc ..)
      rw [h]
    · rfl
  · rw [lockIfReached_eq]; rfl

/-- A host access within one 4 KiB page presents its one request. -/
theorem hostAccess_eq {kind : AccessKind} {pair : Option Nat} {op context segment offset len n m : Nat}
    {data : List Byte} {poison : Bool} (h0 : 0 < len) (hfit : offset % 4096 + len ≤ 4096)
    (hm : mspPort s n segment offset = some m) :
    (hostAccess s kind pair op context segment offset len data poison uses n).2 =
      offerReq (entered s (onePiece kind pair uses n context)) m
        { op := op, poison := poison, context := context, segment := segment, offset := offset, length := len,
          data := data.take len, enabled := true, access := s.host.nextAccess, piece := 0, waited := false } := by
  have hm' : mspPort (entered s (onePiece kind pair uses n context)) n segment offset = some m := hm
  unfold hostAccess enterAccess
  simp only [split4K_whole _ h0 hfit, presentPieces]
  change markReady (match mspPort (entered s (onePiece kind pair uses n context)) n segment offset with
    | some m => _
    | none => _) _ = _
  rw [hm']
  refine markReady_waits (x := onePiece kind pair uses n context) ?_ Nat.one_ne_zero
  unfold access?
  rw [offerReq_accesses]
  exact access?_entered _

/-- What an atomic's READ_LOCK at port `m` with no locks leaves. -/
theorem readLock_offered {m row line : Nat} (hl : noLocksAt v m) (hpair : pairKey k = k.src)
    (hm : mspPort v (winPartition row) (winSegment row) (line * 64) = some m) :
    let u := (hostAccess v (.atomicLock p k) (some (pairKey k)) 2 (winContext row) (winSegment row) (line * 64) 64 []
      false uses (winPartition row)).2
    access? u v.host.nextAccess = some (onePiece (.atomicLock p k) (some k.src) uses (winPartition row) (winContext row)) ∧
      mspQueue u m = mspQueue v m ++ [packetReq 2 v.host.nextAccess row (line * 64) 64 [] false] ∧
      (∃ ls, u.host.locks = v.host.locks ++ ls ∧
        ls.all (fun l => l == { access := v.host.nextAccess, port := m, context := winContext row,
                                segment := winSegment row, line := line }) = true ∧ ls.length ≤ 1 ∧
        ((∀ e ∈ v.host.accesses, e.2.performed = true ∨ e.2.pair ≠ some k.src) → ls.length = 1)) ∧
      u.host.outstanding = v.host.outstanding ∧ u = { v with host := u.host } := by
  dsimp only
  rw [hostAccess_eq (by decide) (by omega) hm, hpair]
  generalize hx : onePiece (.atomicLock p k) (some k.src) uses (winPartition row) (winContext row) = x
  have hline : line * 64 / 64 = line := by omega
  have hq : packetReq 2 v.host.nextAccess row (line * 64) 64 [] false =
      { op := 2, poison := false, context := winContext row, segment := winSegment row, offset := line * 64,
        length := 64, data := List.take 64 [], enabled := true, access := v.host.nextAccess, piece := 0,
        waited := false } := rfl
  rw [← hq]
  generalize hr : packetReq 2 v.host.nextAccess row (line * 64) 64 [] false = r
  have hacc : r.access = v.host.nextAccess := by rw [← hr]; rfl
  have hl' : noLocksAt (entered v x) m := hl
  refine ⟨?_, ?_, ?_, ?_, ?_⟩
  · unfold access?; rw [offerReq_accesses]; exact access?_entered x
  · rw [offerReq_readLock hl', mspQueue_setMspQueue_append]; rfl
  · rw [offerReq_readLock hl']
    refine ⟨_, locks_lockIfReached, ?_, ?_, fun hall => ?_⟩
    · split
      · simp [lineLock, ← hr, packetReq, hline]
      · rfl
    · split <;> simp
    · have hheld : lockHeld (entered v x) m r = false := by
        simp only [lockHeld, List.any_eq_false]
        intro l hmem
        simp [hl.1 l hmem]
      have hreach : reaches (entered v x) r.access m = true := by
        unfold reaches
        rw [hacc, access?_entered]
        have hpx : x.pair = some k.src := by rw [← hx]; rfl
        simp only [hpx, Option.isNone_some, Bool.false_or, List.all_eq_true]
        intro e he
        rcases mem_insertT he with rfl | he
        · simp
        · rcases hall e he with h | h <;> simp [h]
      have hop : (r.op == 2) = true := by rw [← hr]; rfl
      simp [hreach, hheld, hop]
  · rw [offerReq_readLock hl', lockIfReached_eq]; rfl
  · rw [offerReq_readLock hl', lockIfReached_eq]; rfl

end

/-- Settles O18: an atomic's access is its READ_LOCK, `readLock_offered`. -/
theorem atomicLocksItsLine : Obligations.AtomicLocksItsLine := by
  unfold Obligations.AtomicLocksItsLine
  rintro s t v p k uses row off m c hmem h ha hrow rfl hkind hm hquiet hl
  simp only [List.mem_cons, List.not_mem_nil, or_false, Prod.mk.injEq] at hmem
  have hcase : k.opcode = opAtomic ∨ k.opcode = opAtomicFetch := by tauto
  have hexec : exec c s = packetOut s p k := by
    rcases hmem with ⟨hop, rfl⟩ | ⟨hop, rfl⟩
    · show packetOut s p { k with opcode := opAtomic } = _; rw [← hop]
    · show packetOut s p { k with opcode := opAtomicFetch } = _; rw [← hop]
  have hserved : k.opcode ∈ servedOpcodes := by rcases hcase with h | h <;> rw [h] <;> decide
  have hacts := packetArrives_pass h hserved ha hrow (fun _ => hkind) (by
    rcases hcase with h | h <;> rw [h] <;> exact fun h => absurd h (by decide))
  have hstart : startAccess v p k uses row = (hostAccess v (.atomicLock p k) (some (pairKey k)) 2 (winContext row)
      (winSegment row) ((winTarget row + (offsetM k - winBase row)) / 64 * 64) 64 [] false uses (winPartition row)).2 := by
    have hk : accessKind p k = .atomicLock p k := by
      unfold accessKind
      rcases hcase with h | h <;> rw [h] <;> rfl
    unfold startAccess
    simp only [hkind, hk, ne_eq, not_true_eq_false, if_false]
  refine ⟨_, hexec.trans (congrArg (fun t => Host.Outcome.next (settle t)) (hacts.trans hstart)), ?_⟩
  obtain ⟨hacc, hq, hlocks, hout, hrest⟩ :=
    readLock_offered (p := p) (uses := uses) hl (pairKey_of_ne (served_plain hserved).2) hm
  exact ⟨⟨_, hacc, rfl, rfl, rfl, rfl, rfl⟩, hq, hlocks, hout, hrest⟩

/-! ### Requests for the carrel, the ledger and a ring -/

/-- Settles O19: such a request's access joins the inner ones of its source. -/
theorem carrelRequestTakesItsTurn : Obligations.CarrelRequestTakesItsTurn := by
  unfold Obligations.CarrelRequestTakesItsTurn
  refine ⟨fun s t v p k uses row c hmem h ha hrow hkind hdom => ?_, fun s t p k hop h => ?_⟩
  · have hserved : k.opcode ∈ servedOpcodes := by
      simp only [List.mem_cons, List.not_mem_nil, or_false, Prod.mk.injEq] at hmem
      rcases hmem with ⟨h, -⟩ | ⟨h, -⟩ | ⟨h, -⟩ | ⟨h, -⟩ | ⟨h, -⟩ | ⟨h, -⟩ <;> rw [h] <;> decide
    have hplain : ¬(k.opcode = opAtomic ∨ k.opcode = opAtomicFetch) := by
      simp only [List.mem_cons, List.not_mem_nil, or_false, Prod.mk.injEq] at hmem
      rcases hmem with ⟨h, -⟩ | ⟨h, -⟩ | ⟨h, -⟩ | ⟨h, -⟩ | ⟨h, -⟩ | ⟨h, -⟩ <;> rw [h] <;> decide
    have hexec : exec c s = packetOut s p k := by
      simp only [List.mem_cons, List.not_mem_nil, or_false, Prod.mk.injEq] at hmem
      rcases hmem with ⟨hop, rfl⟩ | ⟨hop, rfl⟩ | ⟨hop, rfl⟩ | ⟨hop, rfl⟩ | ⟨hop, rfl⟩ | ⟨hop, rfl⟩ <;>
        exact congrArg (packetOut s p) (by rw [← hop])
    have hacts := packetArrives_pass h hserved ha hrow (fun h => absurd h hplain) (fun _ => hdom)
    have hstart : startAccess v p k uses row =
        (innerAccess v (accessKind p k) (some k.src) uses (winPartition row)).2 := by
      unfold startAccess
      rw [pairKey_of_ne (served_plain hserved).2, if_pos hkind]
    refine ⟨_, hexec.trans (congrArg (fun t => Host.Outcome.next (settle t)) (hacts.trans hstart)), ?_⟩
    exact ⟨rfl, rfl, access?_entered _, rfl⟩
  · have hacts : requestActs t p k 0 = noticePostArrives t p k := by unfold requestActs; rw [hop]; rfl
    have hpair : pairKey k = k.src := pairKey_of_ne (by rw [hop]; decide)
    have hexec : exec (.noticePost p k) s = packetOut s p k := congrArg (packetOut s p) (by rw [← hop])
    have harr := packetArrives_checked h (.inl (by rw [hop]; decide)) (by rw [hop]; decide) (by rw [hacts]; rfl)
    refine ⟨_, hexec.trans (congrArg (fun t => Host.Outcome.next (settle t)) (harr.trans hacts)), ?_⟩
    exact ⟨rfl, rfl, ⟨_, access?_entered _, rfl, congrArg some hpair, rfl⟩, rfl⟩

end Sys2Proof.Machine
end

section
/-! A block whose units stand still goes on to nothing by itself, whatever its host side holds. So in a stopped block the
state that a command's own effect leaves is the state answered, and a claim about it can be refuted. -/

namespace Sys2Proof.Machine

/-! ### Where nothing goes on -/

/-- The units stand still, and nothing waits in a channel, for the management core or for a report's path. -/
structure Frozen (s : State) : Prop where
  units : unitsRun s 2 = false
  pieces : s.coll.waits = []
  passing : s.switch.passWaits = []
  arriving : s.switch.rxWaits = []
  ended : s.mgmt.ended = []
  finished : s.mgmt.finished = []
  waiting : s.mgmt.waiting = []
  reports : reportsWait s = false

section
variable {s : State}

/-- The host side has no part in what keeps a block frozen. -/
theorem Frozen.withHost (h : Frozen s) (x : HostSide) : Frozen { s with host := x } :=
  ⟨h.units, h.pieces, h.passing, h.arriving, h.ended, h.finished, h.waiting, h.reports⟩

theorem dropHalted_noPieces (h : s.coll.waits = []) : dropHalted s = s := by
  unfold dropHalted
  split
  · rfl
  · rw [h]; rfl

theorem pumpPass_nonePassing (h : s.switch.passWaits = []) : pumpPass s = s := by
  have hready : passReady s = none := by simp [passReady, h]
  simp [pumpPass, hready]

theorem pumpRx_noneArriving (h : s.switch.rxWaits = []) : pumpRx s = s := by
  simp [pumpRx, h]

theorem stirMgmt_idle (he : s.mgmt.ended = []) (hf : s.mgmt.finished = []) (hw : s.mgmt.waiting = []) :
    stirMgmt s = s := by
  simp [stirMgmt, returnEnded, releaseWaiting, he, hf, hw]

theorem Frozen.stir (h : Frozen s) : stir s = s := by
  unfold Machine.stir
  simp only [h.units, dropHalted_noPieces h.pieces, pumpPass_nonePassing h.passing, pumpRx_noneArriving h.arriving,
    stirMgmt_idle h.ended h.finished h.waiting, h.reports, ite_self, Bool.false_eq_true, if_false]

theorem settleLoop_fixed (h : Machine.stir s = s) (n : Nat) : settleLoop n s = s := by
  cases n with
  | zero => rfl
  | succ n => simp [settleLoop, h]

theorem Frozen.settle (h : Frozen s) : settle s = s := by
  unfold Machine.settle
  split
  · rfl
  · exact settleLoop_fixed h.stir _

end

/-! ### A READ whose last byte is no number of 4 bits -/

/-- A block that global stop holds, as endpoint 5 with a HOST window open over all offsets. -/
def stoppedHost : State :=
  [(0x1001_00, 0, 5), (windowCn, 0, 2 ^ 254 + 0x1F * 2 ^ 240 + (2 ^ 22 - 1) * 2 ^ 84), (0xC200_02, 0, 1)].foldl
    (fun s e => setRow s e.1 e.2.1 e.2.2) State.reset

/-- A READ of one slot from its byte 1 to a byte 16: the length of R53 is 0. -/
def emptyRead : Packet :=
  { blankPacket with opcode := opRead, dst := 5, src := 5, slotCount := 1, lastByte := 16, vc := 5, opspec := 2 ^ 44 }

/-- The packet waits in the block's own switch. -/
def emptyReadWaits : State := { stoppedHost with switch.loop := [emptyRead] }

/-- The state in which admission has let it in. -/
def emptyReadAdmitted : State := (admission stoppedHost [spanOf emptyRead] (askOf emptyRead)).1

theorem emptyRead_checked : Checked emptyReadWaits 15 emptyRead stoppedHost := by
  refine ⟨by decide +kernel, .inl rfl, by decide +kernel, by decide +kernel, ?_⟩
  have hrules : (opcodeRules emptyRead && rulesOf emptyRead) = true := by decide +kernel
  have hfind : ¬(emptyReadWaits.switch.loop.find? (fun x => x.vc == emptyRead.vc) ≠ some emptyRead ||
      (stopped emptyReadWaits && emptyRead.vc != 5)) = true := by decide +kernel
  unfold arrive
  rw [if_pos rfl, if_neg hfind]
  dsimp only
  rw [if_pos hrules]
  rfl

theorem emptyRead_admitted : admission stoppedHost [spanOf emptyRead] (askOf emptyRead) =
    (emptyReadAdmitted, .pass [0]) := by
  have h : (admission stoppedHost [spanOf emptyRead] (askOf emptyRead)).2 = .pass [0] := by decide +kernel
  rw [← h]; rfl

theorem emptyReadAdmitted_frozen : Frozen emptyReadAdmitted :=
  ⟨by decide +kernel, by decide +kernel, by decide +kernel, by decide +kernel, by decide +kernel, by decide +kernel,
    by decide +kernel, by decide +kernel⟩

theorem markReady_eq (s : State) (a : Nat) : markReady s a = { s with host.ready := (markReady s a).host.ready } := by
  unfold markReady
  split
  · split <;> rfl
  · rfl

/-- A host access of no bytes presents no request: it is over as it begins. -/
theorem hostAccess_empty (s : State) (kind : AccessKind) (pair : Option Nat) (op context segment offset : Nat)
    (data : List Byte) (poison : Bool) (uses : List Nat) (n : Nat) :
    let u := (hostAccess s kind pair op context segment offset 0 data poison uses n).2
    u = { s with host := u.host } ∧ ∃ x, access? u s.host.nextAccess = some x ∧ x.toAccept = 0 := by
  dsimp only
  have hpieces : split4K (0 / 4096 + 2) offset 0 = [] := rfl
  unfold hostAccess enterAccess
  simp only [hpieces, presentPieces, List.length_nil]
  generalize hx : Access.mk kind pair false 0 0 0 [] uses n context false none 0 = x
  change markReady (entered s x) s.host.nextAccess = { s with host := (markReady (entered s x) s.host.nextAccess).host } ∧
    ∃ y, access? (markReady (entered s x) s.host.nextAccess) s.host.nextAccess = some y ∧ y.toAccept = 0
  have he := markReady_eq (entered s x) s.host.nextAccess
  generalize markReady (entered s x) s.host.nextAccess = u at he ⊢
  rw [he]
  exact ⟨rfl, x, access?_entered x, by rw [← hx]⟩

theorem startAccess_read {v : State} {p : Nat} {k : Packet} {uses : List Nat} {row : Nat} (hop : k.opcode = opRead)
    (hk : winKind row = 0) :
    startAccess v p k uses row = (hostAccess v (.pktRead p k) (some (pairKey k)) 0 (winContext row) (winSegment row)
      (winTarget row + (offsetM k - winBase row)) (extentLength k) [] false uses (winPartition row)).2 := by
  have hkind : accessKind p k = .pktRead p k := by unfold accessKind; rw [hop]; rfl
  unfold startAccess
  simp only [hk, hkind, ne_eq, not_true_eq_false, if_false]

/-- Refutes O17: the last byte of a packet is not bounded. A READ of one slot from byte 1 to a byte 16 has length 0, so it
becomes an access with no request at all. In a stopped block that access stays as it is. -/
theorem not_hostWindowRequestIsPresented : ¬ Obligations.HostWindowRequestIsPresented := by
  unfold Obligations.HostWindowRequestIsPresented
  intro h
  obtain ⟨u, hu, hacc, -, -, -, hrest⟩ := h emptyReadWaits stoppedHost emptyReadAdmitted 15 emptyRead [0]
    (windowRow emptyReadAdmitted 0) _ 0 (.read 15 emptyRead) (.head _) emptyRead_checked emptyRead_admitted rfl rfl
    (by decide +kernel) (by decide +kernel) (by decide +kernel) (by decide +kernel)
    ⟨by decide +kernel, by decide +kernel⟩
  have hkind : winKind (windowRow emptyReadAdmitted 0) = 0 := by decide +kernel
  have hlen : extentLength emptyRead = 0 := by decide
  have hstart : packetArrives emptyReadWaits 15 emptyRead 0 =
      startAccess emptyReadAdmitted 15 emptyRead [0] (windowRow emptyReadAdmitted 0) :=
    packetArrives_pass emptyRead_checked (by decide) emptyRead_admitted rfl (fun _ => hkind) (by decide)
  have hread := startAccess_read (v := emptyReadAdmitted) (p := 15) (k := emptyRead) (uses := [0]) rfl hkind
  rw [hlen] at hread
  obtain ⟨hown, x, hx, hnone⟩ := hostAccess_empty emptyReadAdmitted (.pktRead 15 emptyRead) (some (pairKey emptyRead)) 0
    (winContext (windowRow emptyReadAdmitted 0)) (winSegment (windowRow emptyReadAdmitted 0))
    (winTarget (windowRow emptyReadAdmitted 0) + (offsetM emptyRead - winBase (windowRow emptyReadAdmitted 0))) [] false [0]
    (winPartition (windowRow emptyReadAdmitted 0))
  rw [← hread] at hown hx
  have hexec : exec (.read 15 emptyRead) emptyReadWaits = .next (settle (packetArrives emptyReadWaits 15 emptyRead 0)) := rfl
  rw [hexec, hstart] at hu
  injection hu with hu
  rw [hown, hrest, (emptyReadAdmitted_frozen.withHost _).settle, (emptyReadAdmitted_frozen.withHost _).settle, ← hown,
    ← hrest] at hu
  rw [hu, hacc] at hx
  injection hx with hx
  rw [← hx] at hnone
  exact absurd hnone Nat.one_ne_zero

end Sys2Proof.Machine
end

section
/-! Requests that admission refuses (R36, R57, R59). -/

namespace Sys2Proof.Machine

section
variable {s t v : State} {p : Nat} {k : Packet}

/-! ### The answer -/

theorem respond_opcode (op spec slots last : Nat) (poison : Bool) (data : List Nat) :
    (respond s p k op spec slots last poison data).opcode = op := rfl

theorem respond_tracker (op spec slots last : Nat) (poison : Bool) (data : List Nat) :
    (respond s p k op spec slots last poison data).tracker = k.tracker := rfl

theorem respond_turn (op spec slots last : Nat) (poison : Bool) (data : List Nat) :
    (respond s p k op spec slots last poison data).turn = k.turn := rfl

theorem respond_issuer (op spec slots last : Nat) (poison : Bool) (data : List Nat) :
    (respond s p k op spec slots last poison data).issuer = k.issuer := rfl

theorem statusS_statusRspFor {st off : Nat} (h : st < 256) : statusS (statusRspFor s p k st off) = st := by
  show fld (layoutS st off 0) 85 78 = st
  unfold fld layoutS; omega

theorem offendingS_statusRspFor {st off : Nat} (h : off < 2 ^ 43) : offendingS (statusRspFor s p k st off) = off := by
  show fld (layoutS st off 0) 77 35 = off
  unfold fld layoutS; omega

/-- A posted request that is refused is counted at its port; its acknowledgement changes no count of refusals. -/
theorem get_refusedCount (hp : p < 8) :
    get (donePacket (postedRefusal v p) k) (ofPort p 0x2080_04) = (get v (ofPort p 0x2080_04) + 1) % 2 ^ 64 := by
  have hnot : ofPort p 0x2080_04 ∉ sendCns := by
    interval_cases p <;> decide
  have hkeep : get (donePacket (postedRefusal v p) k) (ofPort p 0x2080_04) = get (postedRefusal v p) (ofPort p 0x2080_04) :=
    (acknowledges_donePacket k).store _ 0 (by decide) hnot
  rw [hkeep, postedRefusal, if_pos hp]
  exact get_set_same ..

theorem refuseAdmission_acknowledges (st off : Nat) :
    ∃ w, Acknowledges w (refuseAdmission v p k st off) ∧ w.host = v.host ∧ w.carrel = v.carrel ∧ w.coll = v.coll := by
  unfold refuseAdmission postedRefusal
  split
  · exact ⟨v, (sends_sendResponse ..).acknowledges, rfl, rfl, rfl⟩
  · exact ⟨_, acknowledges_donePacket k, by split <;> simp, by split <;> simp, by split <;> simp⟩

/-! ### Admission that refuses -/

theorem get_windowAt (q : Asking) (first len cn : Nat) : get (windowAt s q first len).2 cn = get s cn := by
  unfold windowAt
  split <;> rfl

theorem get_checkSpans (q : Asking) (spans : List (Nat × Nat)) (touched : List Nat) (cn : Nat) :
    get (checkSpans s q touched spans).1 cn = get s cn := by
  induction spans generalizing s touched with
  | nil => rfl
  | cons e spans ih =>
    obtain ⟨first, len⟩ := e
    have h := get_windowAt (s := s) q first len cn
    unfold checkSpans
    generalize windowAt s q first len = x at h ⊢
    obtain ⟨w, t⟩ := x
    cases w with
    | none => exact h
    | some w =>
      dsimp only at h ⊢
      split
      · exact h
      · exact (ih _).trans h

/-- Admission that refuses counts at the end of its checks. -/
theorem admission_refused {spans : List (Nat × Nat)} {q : Asking} {st off : Nat}
    (h : admission t spans q = (v, .refuse st off)) :
    v = odc (count64 (checkSpans t q [] spans).1 0x5000_06) 0x04 none none 1 := by
  unfold admission at h
  generalize checkSpans t q [] spans = x at h ⊢
  obtain ⟨w, r⟩ := x
  cases r with
  | ok ws => exact absurd (congrArg Prod.snd h) (by simp)
  | error e => exact (congrArg Prod.fst h).symm

/-- A counter raised before an event that leaves it alone. -/
theorem get_odc_count64 {w : State} {cn : Nat} (event n : Nat) (q : Option Nat) (j : Option Packet) (h : cn ∉ checkCns)
    (hv : v = odc (count64 w cn) event q j n) : get v cn = (get w cn + 1) % 2 ^ 64 := by
  rw [hv, get_odc _ _ _ _ h, get_count64_same]

theorem get_admission_refused {spans : List (Nat × Nat)} {q : Asking} {st off : Nat}
    (h : admission t spans q = (v, .refuse st off)) : get v 0x5000_06 = (get t 0x5000_06 + 1) % 2 ^ 64 := by
  rw [get_odc_count64 _ _ _ _ (by decide) (admission_refused h), get_checkSpans]

end

/-- Settles O20: the refusal is its answer, or its count with the acknowledgement that may follow. -/
theorem refusedRequestIsAnsweredOrDropped : Obligations.RefusedRequestIsAnsweredOrDropped := by
  unfold Obligations.RefusedRequestIsAnsweredOrDropped
  intro s t v p k st off c hmem h ha hst hoff
  have hserved : k.opcode ∈ servedOpcodes := by
    simp only [List.mem_cons, List.not_mem_nil, or_false, Prod.mk.injEq] at hmem
    simp only [servedOpcodes, List.mem_cons, List.not_mem_nil, or_false]
    tauto
  have hexec : exec c s = packetOut s p k := by
    simp only [List.mem_cons, List.not_mem_nil, or_false, Prod.mk.injEq] at hmem
    rcases hmem with ⟨hop, rfl⟩ | ⟨hop, rfl⟩ | ⟨hop, rfl⟩ | ⟨hop, rfl⟩ | ⟨hop, rfl⟩ | ⟨hop, rfl⟩ | ⟨hop, rfl⟩ | ⟨hop, rfl⟩ <;>
      exact congrArg (packetOut s p) (by rw [← hop])
  have hserve : serve t p k = refuseAdmission v p k st off := by unfold serve; rw [ha]
  have hadm : Admitting t v := by
    have := admitting_admission (s := t) [spanOf k] (askOf k)
    rwa [ha] at this
  obtain ⟨w, hack, hhost, hcarrel, hcoll⟩ := refuseAdmission_acknowledges (v := v) (p := p) (k := k) st off
  have hacts : requestActs t p k 0 = refuseAdmission v p k st off := (requestActs_serve hserved).trans hserve
  obtain ⟨hresp, hloan⟩ := served_plain hserved
  have harr := packetArrives_checked h (.inl hresp) hloan (by rw [hacts, hack.coll, hcoll, hadm.coll])
  refine ⟨_, hexec.trans (congrArg (fun t => Host.Outcome.next (settle t)) (harr.trans hacts)), ?_, ?_,
    get_admission_refused ha, fun hn => ?_, fun hn hp => ?_⟩
  · rw [hack.host, hhost, hadm]
  · rw [hack.carrel, hcarrel, hadm]
  · refine ⟨statusRspFor v p k st off, statusS_statusRspFor hst, offendingS_statusRspFor hoff, respond_opcode ..,
      respond_tracker .., respond_turn .., respond_issuer .., ?_⟩
    rw [refuseAdmission, if_pos hn]
  · rw [refuseAdmission, hn, if_neg (by decide)]
    exact get_refusedCount hp

end Sys2Proof.Machine
end

section
/-! Holds: a PROBE's grant, its release and its end (R38, R39). -/

namespace Sys2Proof.Machine

/-! ### The end of uses -/

/-- Uses end: they reach the use counts and the rows of their windows. -/
structure UsesEnd (s : State) (keys : List Nat) (t : State) : Prop where
  rest : t = { s with switch := { s.switch with uses := t.switch.uses }, cat := t.cat }
  store : StoreFrame s t [windowCn]
  others : ∀ w, w < 2 ^ 32 → (∀ k ∈ keys, k / 2 ^ 32 ≠ w) → getRow t windowCn w = getRow s windowCn w

section
variable {s t u : State}

theorem usesEnd_endUse {k : Nat} (hk : k / 2 ^ 32 < 2 ^ 32) : UsesEnd s [k] (endUse s k) := by
  unfold endUse
  split
  · exact ⟨rfl, .refl _, fun _ _ _ => rfl⟩
  · refine ⟨rfl, StoreFrame.setRow (.of_cat rfl rfl) _ hk (by simp), fun w hw hne => ?_⟩
    exact (getRow_setRow_ne _ _ (by have := hne k (by simp); unfold catKey; omega)).trans (getRow_congr rfl rfl ..)

theorem usesEnd_endUses {keys : List Nat} (h : ∀ k ∈ keys, k / 2 ^ 32 < 2 ^ 32) : UsesEnd s keys (endUses s keys) := by
  induction keys generalizing s with
  | nil => exact ⟨rfl, .refl _, fun _ _ _ => rfl⟩
  | cons k ks ih =>
    have h1 : UsesEnd s [k] (endUse s k) := usesEnd_endUse (h k (by simp))
    have h2 : UsesEnd (endUse s k) ks (endUses (endUse s k) ks) := ih fun x hx => h x (by simp [hx])
    show UsesEnd s (k :: ks) (endUses (endUse s k) ks)
    refine ⟨by rw [h2.rest, h1.rest], h1.store.trans h2.store, fun w hw hne => ?_⟩
    rw [h2.others w hw fun x hx => hne x (by simp [hx]), h1.others w hw fun x hx => hne x (by simp_all)]

theorem endUses_coll (keys : List Nat) : (endUses s keys).coll = s.coll :=
  foldl_keeps (·.coll) (fun t k => by unfold endUse; split; exacts [rfl, setF_coll]) keys s

/-! ### The end of a hold -/

/-- What the end of hold `h` leaves. -/
structure HoldEnded (s : State) (h : Nat) (x : Hold) (t : State) : Prop where
  gone : lookupT t.switch.holds h = none
  kept : ∀ j, j ≠ h → lookupT t.switch.holds j = lookupT s.switch.holds j
  store : StoreFrame s t [windowCn]
  others : ∀ w, w < 1024 → (∀ k ∈ x.windows, k / 2 ^ 32 ≠ w) → getRow t windowCn w = getRow s windowCn w
  rest : t = { s with switch := { s.switch with holds := t.switch.holds, uses := t.switch.uses }, cat := t.cat }

theorem holdEnded_endHold {h : Nat} {x : Hold} (hx : lookupT s.switch.holds h = some x)
    (hw : ∀ k ∈ x.windows, k / 2 ^ 32 < 1024) : HoldEnded s h x (endHold s h) := by
  have e : UsesEnd { s with switch.holds := eraseT s.switch.holds h } x.windows (endHold s h) := by
    unfold endHold
    rw [hx]
    exact usesEnd_endUses fun k hk => (hw k hk).trans (by decide)
  have hrest := e.rest
  have hholds : (endHold s h).switch.holds = eraseT s.switch.holds h := by rw [hrest]
  refine ⟨by rw [hholds, lookupT_eraseT, if_pos rfl], fun j hj => by rw [hholds, lookupT_eraseT, if_neg hj],
    (StoreFrame.of_cat rfl rfl).trans e.store, fun w hw hne => ?_, ?_⟩
  · exact (e.others w (hw.trans (by decide)) hne).trans (getRow_congr rfl rfl ..)
  · rw [hholds]; exact hrest

theorem endHold_coll (h : Nat) : (endHold s h).coll = s.coll := by
  unfold endHold
  split
  · exact endUses_coll _
  · rfl

/-! ### A probe -/

/-- The state with the probes `l` waiting. -/
def withProbes (s : State) (l : List (Nat × Packet)) : State := { s with slips.probes := l }

theorem withProbes_none (h : s.slips.probes = []) : withProbes s [] = s := by
  unfold withProbes; rw [← h]

theorem serveProbes_one {p : Nat} {k : Packet} (h : s.slips.probes = [(p, k)]) :
    serveProbes s = probeAdmitted (withProbes s []) p k := by
  unfold serveProbes
  rw [h, List.foldl_cons, List.foldl_nil]
  rfl

theorem withProbes_twice (l m : List (Nat × Packet)) : withProbes (withProbes s l) m = withProbes s m := rfl

/-- A PROBE that arrives while no slip waits for the checker is admitted at once. -/
theorem probeArrives_served {p : Nat} {k : Packet} (hturn : admissionTurn s = none) (hnone : s.slips.probes = []) :
    probeArrives s p k = probeAdmitted s p k := by
  have hin : probeArrives s p k = pumpProbes (withProbes s [(p, k)]) := by
    unfold probeArrives withProbes; rw [hnone]; exact rfl
  have hturn' : admissionTurn (withProbes s [(p, k)]) = none := hturn
  rw [hin, pumpProbes, hturn', Option.isNone_none, if_pos rfl, serveProbes_one rfl, withProbes_twice, withProbes_none hnone]

/-- One that arrives while one waits takes its place behind it. -/
theorem probeArrives_waits {p : Nat} {k : Packet} (hturn : admissionTurn s ≠ none) :
    probeArrives s p k = { s with slips.probes := s.slips.probes ++ [(p, k)] } := by
  have hturn' : admissionTurn { s with slips.probes := s.slips.probes ++ [(p, k)] } ≠ none := hturn
  unfold probeArrives pumpProbes
  rw [if_neg (by simpa using hturn')]

theorem requestActs_probe {p : Nat} {k : Packet} (h : k.opcode = opProbe) : requestActs s p k 0 = probeArrives s p k := by
  unfold requestActs; rw [h]; rfl

theorem requestActs_holdRelease {p : Nat} {k : Packet} (h : k.opcode = opHoldRelease) :
    requestActs s p k 0 = holdReleased s p k := by
  unfold requestActs; rw [h]; rfl

theorem pickHold_free {start h : Nat} (hh : pickHold s start = some h) :
    lookupT s.switch.holds h = none ∧ h < 4096 := by
  unfold pickHold at hh
  have hmem := List.mem_of_find?_eq_some hh
  have hfree := List.find?_some hh
  simp only [List.mem_map] at hmem
  obtain ⟨i, -, rfl⟩ := hmem
  exact ⟨by simpa using hfree, Nat.mod_lt _ (by decide)⟩

end

section
variable {v : State} {p : Nat} {k : Packet} {uses : List Nat} {spans : List (Nat × Nat)} {h : Nat}

/-- The state with the new hold `h`. -/
def holdTaken (v : State) (k : Packet) (spans : List (Nat × Nat)) (uses : List Nat) (h : Nat) : State :=
  { v with freeCount := v.freeCount + 1, switch := { v.switch with
      holds := insertT v.switch.holds h { src := k.src, windows := uses, right := probeRight k, spans := spans } } }

/-- A probe that is let in while a hold is free takes it, and PROBE_RSP names it. -/
theorem holdGiven_free (hpick : pickHold v (Config.freeChoice v.freeCount) = some h) :
    holdGiven v p k spans uses = sendResponse (holdTaken v k spans uses h) p
      (respond (holdTaken v k spans uses h) p k opProbeRsp (layoutS stOk 0 h) 0 15 false []) := by
  have hpick' : pickHold { v with freeCount := v.freeCount + 1 } (Config.freeChoice v.freeCount) = some h := hpick
  simp only [holdGiven, draw, hpick']
  rfl

theorem statusS_respond_ok {w : State} : statusS (respond w p k opProbeRsp (layoutS stOk 0 h) 0 15 false []) = stOk := by
  show fld (layoutS stOk 0 h) 85 78 = stOk
  unfold fld layoutS stOk; omega

theorem holdS_respond {w : State} (hh : h < 4096) :
    holdS (respond w p k opProbeRsp (layoutS stOk 0 h) 0 15 false []) = h := by
  show fld (layoutS stOk 0 h) 34 23 = h
  unfold fld layoutS; omega

end

/-- Settles O21: the parts of `probeArrives` and `holdReleased`. -/
theorem probesHoldAndRelease : Obligations.ProbesHoldAndRelease := by
  unfold Obligations.ProbesHoldAndRelease
  have arrives : ∀ {s t : State} {p : Nat} {k : Packet}, Checked s p k t →
      k.opcode = opProbe ∨ k.opcode = opHoldRelease → (requestActs t p k 0).coll = t.coll →
      packetArrives s p k 0 = requestActs t p k 0 := fun h hop hc =>
    packetArrives_checked h (.inl (by rcases hop with e | e <;> rw [e] <;> rfl))
      (by rcases hop with e | e <;> rw [e] <;> decide) (by rw [hc])
  have probe : ∀ {s t : State} {p : Nat} {k : Packet}, Checked s p k t → k.opcode = opProbe →
      (requestActs t p k 0).coll = t.coll → exec (.probe p k) s = .next (settle (requestActs t p k 0)) := fun h hop hc =>
    (congrArg (packetOut _ _) (by rw [← hop])).trans
      (congrArg (fun t => Host.Outcome.next (settle t)) (arrives h (.inl hop) hc))
  have release : ∀ {s t : State} {p : Nat} {k : Packet}, Checked s p k t → k.opcode = opHoldRelease →
      (requestActs t p k 0).coll = t.coll → exec (.holdRelease p k) s = .next (settle (requestActs t p k 0)) :=
    fun h hop hc => (congrArg (packetOut _ _) (by rw [← hop])).trans
      (congrArg (fun t => Host.Outcome.next (settle t)) (arrives h (.inr hop) hc))
  refine ⟨?_, ?_, ?_, ?_⟩
  · rintro s t v p k uses spans h hop hck hturn hnone rfl ha hpick
    obtain ⟨hfree, hlt⟩ := pickHold_free hpick
    have hadm : Admitting t v := by
      have := admitting_admission (s := t)
        (remoteExtent (nth 0 0 k.data + nth 0 1 k.data * 2 ^ 128)).spans
        { request := false, source := k.src, mask := if subM k = 0 then rightRead else rightWrite }
      rwa [ha] at this
    have hserve : probeAdmitted t p k = holdGiven v p k _ uses := congrArg (probeDecided p k _) ha
    have hacts := (requestActs_probe (p := p) hop).trans ((probeArrives_served hturn hnone).trans
      (hserve.trans (holdGiven_free hpick)))
    refine ⟨_, probe hck hop (by rw [hacts, (sends_sendResponse ..).coll]; exact hadm.coll), hfree, hlt,
      holdTaken v k _ uses h, _, rfl, (lookupT_insertT ..).trans (if_pos rfl),
      fun j hj => (lookupT_insertT ..).trans (if_neg hj), respond_opcode .., statusS_respond_ok, holdS_respond hlt,
      respond_tracker .., hacts⟩
  · intro s t p k hop hck hturn
    have hacts := (requestActs_probe (p := p) hop).trans (probeArrives_waits hturn)
    exact ⟨_, probe hck hop (by rw [hacts]), hacts⟩
  · intro s t p k x hop hck hx hsrc hw
    have hacts : requestActs t p k 0 = endHold t (handleM k) := by
      rw [requestActs_holdRelease hop, holdReleased, hx]
      exact if_pos hsrc
    have e := holdEnded_endHold hx hw
    rw [← hacts] at e
    exact ⟨_, release hck hop (by rw [hacts, endHold_coll]), e.gone, e.kept, e.store, e.others, e.rest⟩
  · intro s t p k hop hck hp hx
    have hacts : requestActs t p k 0 = count64 t (ofPort p 0x2080_04) := by
      rw [requestActs_holdRelease hop]
      unfold holdReleased
      split
      · rw [if_neg (hx _ ‹_›), postedRefusal, if_pos hp]
      · rw [postedRefusal, if_pos hp]
    refine ⟨_, release hck hop (by rw [hacts]; rfl), ?_⟩
    rw [hacts]
    exact ⟨get_count64_same .., (StoreFrame.refl _).set _ (by simp), rfl⟩

end Sys2Proof.Machine
end

section
/-! The issuer rows and the pair table (Table 4.2, R83), and what a poll and an acknowledgement do to them (R58, R60). -/

namespace Sys2Proof.Machine

section
variable {s t : State}

/-! ### A field of an issuer's row -/

theorem getRow_setF_same (cn i hi lo x : Nat) : getRow (setF s cn i hi lo x) cn i = setFld (getRow s cn i) hi lo x :=
  getRow_setRow_same ..

theorem getRow_setF_ne (cn hi lo x : Nat) {i j : Nat} (h : j ≠ i) : getRow (setF s cn i hi lo x) cn j = getRow s cn j :=
  getRow_setRow_ne _ _ (by unfold catKey; omega)

theorem storeFrame_setF (cn hi lo x : Nat) {i : Nat} (hi' : i < 2 ^ 32) : StoreFrame s (setF s cn i hi lo x) [cn] :=
  (StoreFrame.refl _).setRow _ hi' (by simp)

theorem getF_setF_same (cn i x : Nat) {hi lo : Nat} (h : lo ≤ hi + 1) :
    getF (setF s cn i hi lo x) cn i hi lo = x % 2 ^ (hi + 1 - lo) := by
  rw [getF, getRow_setF_same, fld_setFld_same _ _ _ _ h]

/-! ### The pair table -/

/-- The pairs but that of one destination and issuer. -/
def otherPairs (s : State) (dst i : Nat) : List Pair := s.switch.pairs.filter fun x => !(x.dst == dst && x.issuer == i)

/-- `t` is `s` with another pair table and other counts of the issuer `i`. -/
structure PairsMoved (s : State) (i : Nat) (t : State) : Prop where
  rest : t = { s with switch := { s.switch with pairs := t.switch.pairs }, cat := t.cat }
  store : StoreFrame s t [issuerCn]
  others : ∀ j, j ≠ i → getRow t issuerCn j = getRow s issuerCn j
  outstanding : Machine.outstanding t i = Machine.outstanding s i
  lost : issuerLost t i = issuerLost s i

theorem pairsMoved_countPairs {i : Nat} (hi : i < 1024) (l : List Pair) :
    PairsMoved s i (countPairs { s with switch.pairs := l } i) := by
  have hrow : ∀ j, getRow { s with switch.pairs := l } issuerCn j = getRow s issuerCn j := getRow_congr rfl rfl _
  unfold countPairs
  refine ⟨rfl, (StoreFrame.of_cat rfl rfl).trans (storeFrame_setF _ _ _ _ (by omega)), fun j hj => ?_, ?_, ?_⟩
  · rw [getRow_setF_ne _ _ _ _ hj, hrow]
  · rw [outstanding, getF, getRow_setF_same, fld_setFld_below _ _ (by decide) (by decide), hrow]; rfl
  · rw [issuerLost, getRow_setF_same, bit_setFld_other _ _ (by decide) (by decide), hrow]; rfl

theorem pairOf_countPairs (i j dst : Nat) : pairOf (countPairs s i) dst j = pairOf s dst j := by
  unfold pairOf countPairs
  rw [setF_switch]

theorem find?_otherPairs (dst i d j : Nat) :
    (otherPairs s dst i).find? (fun e => e.dst == d && e.issuer == j) =
      if d = dst ∧ j = i then none else pairOf s d j := by
  unfold otherPairs
  rw [List.find?_filter]
  split
  · rename_i h
    obtain ⟨rfl, rfl⟩ := h
    rw [List.find?_eq_none]
    intro x _
    cases h : (x.dst == d && x.issuer == j) <;> simp
  · rename_i h
    unfold pairOf
    congr 1
    funext x
    by_cases hx : x.dst = d ∧ x.issuer = j
    · obtain ⟨rfl, rfl⟩ := hx
      have hno : ¬(x.dst = dst ∧ x.issuer = i) := fun h' => h ⟨h'.1, h'.2⟩
      simp only [beq_self_eq_true, Bool.and_self]
      by_cases h1 : x.dst = dst <;> simp_all
    · have hfalse : (x.dst == d && x.issuer == j) = false := by simpa using hx
      simp [hfalse]

theorem pairOf_dropPair (e : Pair) (d j : Nat) :
    pairOf (dropPair s e) d j = if d = e.dst ∧ j = e.issuer then none else pairOf s d j := by
  unfold dropPair
  rw [pairOf_countPairs]
  exact find?_otherPairs ..

theorem pairOf_putPair (e : Pair) (d j : Nat) :
    pairOf (putPair s e) d j = if d = e.dst ∧ j = e.issuer then some e else pairOf s d j := by
  unfold putPair
  rw [pairOf_countPairs]
  show (otherPairs s e.dst e.issuer ++ [e]).find? (fun e => e.dst == d && e.issuer == j) = _
  rw [List.find?_append, find?_otherPairs]
  split
  · rename_i h
    obtain ⟨rfl, rfl⟩ := h
    simp
  · rename_i h
    have hfalse : (e.dst == d && e.issuer == j) = false := by
      simp only [Bool.and_eq_false_iff, beq_eq_false_iff_ne]
      by_contra hc
      push Not at hc
      exact h ⟨hc.1.symm, hc.2.symm⟩
    simp [hfalse]

theorem pairOf_key {d j : Nat} {e : Pair} (h : pairOf s d j = some e) : e.dst = d ∧ e.issuer = j := by
  have := List.find?_some h
  simpa using this

/-- The entry of a pair, settled. -/
def settled? (e : Pair) : Option Pair := if unacked e = 0 && e.polls = 0 && !e.quarantined then none else some e

theorem pairOf_settlePair (e : Pair) (d j : Nat) :
    pairOf (settlePair s e) d j = if d = e.dst ∧ j = e.issuer then settled? e else pairOf s d j := by
  unfold settlePair settled?
  split
  · exact pairOf_dropPair ..
  · exact pairOf_putPair ..

theorem pairsMoved_settlePair {e : Pair} (hi : e.issuer < 1024) : PairsMoved s e.issuer (settlePair s e) := by
  unfold settlePair
  split
  · exact pairsMoved_countPairs hi _
  · exact pairsMoved_countPairs hi _

/-! ### The pending-ack table -/

theorem ackOf_key {src i : Nat} {e : PendingAck} (h : ackOf s src i = some e) : e.src = src ∧ e.issuer = i := by
  have := List.find?_some h
  simpa using this

theorem find?_otherAcks (l : List PendingAck) (src i : Nat) :
    (l.filter fun x => !(x.src == src && x.issuer == i)).find? (fun e => e.src == src && e.issuer == i) = none := by
  rw [List.find?_filter, List.find?_eq_none]
  intro x _
  cases h : (x.src == src && x.issuer == i) <;> simp

theorem ackOf_putAck (e : PendingAck) : ackOf (putAck s e) e.src e.issuer = some e := by
  show (List.filter _ s.switch.acks ++ [e]).find? _ = _
  rw [List.find?_append, find?_otherAcks]
  simp

theorem ackOf_dropAck (e : PendingAck) : ackOf (dropAck s e) e.src e.issuer = none := find?_otherAcks ..

/-! ### The acknowledgement packet -/

/-- The COMMIT_ACK of a pending-ack entry. -/
def commitAck (s : State) (e : PendingAck) (runFirst committed : Nat) (poll : Bool) : Packet :=
  sealed
    { blankPacket with
      partition := e.partition, partitionEdition := e.partitionEdition, issuer := e.issuer,
      opspec := layoutA runFirst committed poll, dst := e.src, dstEdition := e.srcEdition,
      src := ownId s, srcEdition := ownEdition s, opcode := opCommitAck, slotCount := 0, vc := 2 }

theorem sendAck_eq (e : PendingAck) (r c : Nat) (poll : Bool) :
    sendAck s e r c poll = sendLoose (count64 s 0x8040_03) (commitAck s e r c poll) := rfl

theorem commitAck_opspec (e : PendingAck) (r c : Nat) (poll : Bool) :
    (commitAck s e r c poll).opspec = layoutA r c poll := rfl

theorem commitAck_opcode (e : PendingAck) (r c : Nat) (poll : Bool) : (commitAck s e r c poll).opcode = opCommitAck := rfl

theorem runFirstA_commitAck (e : PendingAck) (r c : Nat) (poll : Bool) :
    runFirstA (commitAck s e r c poll) = r % 2 ^ 16 := by
  rw [runFirstA, commitAck_opspec]
  cases poll <;> unfold fld layoutA b2n <;> simp <;> omega

theorem committedA_commitAck (e : PendingAck) (r c : Nat) (poll : Bool) :
    committedA (commitAck s e r c poll) = c % 2 ^ 16 := by
  rw [committedA, commitAck_opspec]
  cases poll <;> unfold fld layoutA b2n <;> simp <;> omega

theorem pollAnswerA_commitAck (e : PendingAck) (r c : Nat) (poll : Bool) :
    pollAnswerA (commitAck s e r c poll) = poll := by
  rw [pollAnswerA, commitAck_opspec]
  cases poll <;> unfold layoutA b2n bit <;> simp [Nat.testBit_eq_decide_div_mod_eq] <;> omega

theorem seqM_lt (k : Packet) : seqM k < 2 ^ 16 := Nat.mod_lt _ (by decide)

end

section
variable {t : State} {p : Nat} {k : Packet}

theorem requestActs_commitPoll (h : k.opcode = opCommitPoll) : requestActs t p k 0 = pollArrives t p k := by
  unfold requestActs; rw [h]; rfl

theorem requestActs_commitAck (h : k.opcode = opCommitAck) : requestActs t p k 0 = takeAck t k := by
  unfold requestActs; rw [h]; rfl

/-- A poll of a pair with nothing pending is answered at once for all it names. -/
theorem pollArrives_none (h : ackOf t k.src k.issuer = none) :
    ∃ e : PendingAck, e.src = k.src ∧ e.issuer = k.issuer ∧
      pollArrives t p k = sendLoose (count64 t 0x8040_03) (commitAck t e ((seqM k + 1) % 2 ^ 16) (seqM k) true) := by
  unfold pollArrives
  rw [h]
  exact ⟨_, rfl, rfl, sendAck_eq ..⟩

/-- A COMMIT_ACK newer than what its pair holds acknowledged, and not beyond what was sent. -/
theorem takeAck_newer {e : Pair} (hpair : pairOf t k.src k.issuer = some e)
    (hnew : newer 16 (committedA k) e.lastAcked = true) (hsent : newer 16 (committedA k) e.lastSent = false)
    (hrun : subMod 16 (e.lastAcked + 1) (runFirstA k) < 32768) :
    takeAck t k =
      settlePair (setOutstanding t e.issuer (outstanding t e.issuer - subMod 16 (committedA k) e.lastAcked))
        { e with polls := if pollAnswerA k then e.polls - 1 else e.polls, lastAcked := committedA k } := by
  unfold takeAck
  rw [hpair]
  cases pollAnswerA k <;> simp [hnew, hsent, hrun]

theorem outstanding_setOutstanding (i n : Nat) : outstanding (setOutstanding t i n) i = n % 2 ^ 20 :=
  getF_setF_same _ _ _ (by decide)

theorem outstanding_lt (i : Nat) : outstanding t i < 2 ^ 20 := Nat.mod_lt _ (by decide)

end

/-- Settles O22: the branches of `pollArrives`, and `takeAck` as a count and a settled pair. -/
theorem pollsAndAcknowledgementsArrive : Obligations.PollsAndAcknowledgementsArrive := by
  unfold Obligations.PollsAndAcknowledgementsArrive
  refine ⟨fun s t p k hop hck hnone => ?_, fun s t p k e hop hck hsome hopen => ?_,
    fun s t p k e hop hck hi hpair hnew hsent hrun => ?_⟩
  · obtain ⟨e, hsrc, hiss, hacts⟩ := pollArrives_none (p := p) hnone
    rw [← requestActs_commitPoll hop] at hacts
    have hcoll : ∀ a, (sendLoose (count64 t 0x8040_03) a).coll = t.coll := fun a =>
      ((sends_count64 (by decide)).trans (sends_sendLoose a)).coll
    refine ⟨_, packetOut_checked hck (.inl (by rw [hop]; rfl)) (by rw [hop]; decide) hacts (by rw [hcoll])
      (by rw [← hop]), commitAck t e ((seqM k + 1) % 2 ^ 16) (seqM k) true, commitAck_opcode .., hsrc, hiss, ?_, ?_,
      pollAnswerA_commitAck .., rfl⟩
    · rw [runFirstA_commitAck, Nat.mod_mod]
    · rw [committedA_commitAck, Nat.mod_eq_of_lt (seqM_lt k)]
  · have hbusy : (e.notDone.isEmpty && e.older.isEmpty) = false := by
      rcases hopen with h | h <;> simp [h]
    have hacts : requestActs t p k 0 = putAck t { e with polls := e.polls ++ [e.older ++ e.notDone] } := by
      rw [requestActs_commitPoll hop, pollArrives, hsome]
      simp only [hbusy, Bool.false_eq_true, if_false]
    obtain ⟨hsrc, hiss⟩ := ackOf_key hsome
    refine ⟨_, packetOut_checked hck (.inl (by rw [hop]; rfl)) (by rw [hop]; decide) hacts rfl (by rw [← hop]), ?_, rfl⟩
    have := ackOf_putAck (s := t) { e with polls := e.polls ++ [e.older ++ e.notDone] }
    rwa [← hsrc, ← hiss]
  · obtain ⟨hdst, hiss⟩ := pairOf_key hpair
    have hacts := (requestActs_commitAck (p := p) hop).trans (takeAck_newer hpair hnew hsent hrun)
    generalize he : ({ e with polls := if pollAnswerA k then e.polls - 1 else e.polls, lastAcked := committedA k } : Pair)
      = e' at hacts ⊢
    have hdst' : e'.dst = k.src := by rw [← he]; exact hdst
    have hiss' : e'.issuer = k.issuer := by rw [← he]; exact hiss
    have hq : e'.quarantined = e.quarantined := by rw [← he]
    rw [hiss] at hacts
    generalize hv : setOutstanding t k.issuer (outstanding t k.issuer - subMod 16 (committedA k) e.lastAcked) = v at hacts
    have hm : PairsMoved v k.issuer (settlePair v e') := hiss' ▸ pairsMoved_settlePair (hiss'.symm ▸ hi)
    have hrest : v = { t with cat := v.cat } := by rw [← hv]; rfl
    have hstore : StoreFrame t v [issuerCn] := by rw [← hv]; exact storeFrame_setF _ _ _ _ (by omega)
    have hpairs : pairOf (settlePair v e') k.src k.issuer = settled? e' :=
      (pairOf_settlePair ..).trans (if_pos ⟨hdst'.symm, hiss'.symm⟩)
    refine ⟨_, packetOut_checked hck (.inr hop) (by rw [hop]; decide) hacts (by rw [hm.rest, hrest]) (by rw [← hop]), ?_,
      by rw [hpairs, settled?, hq], fun j _ hne => ?_, hstore.trans hm.store, by rw [hm.rest, hrest]⟩
    · have hlt := outstanding_lt (t := t) k.issuer
      rw [hm.outstanding, ← hv, outstanding_setOutstanding]
      exact Nat.mod_eq_of_lt (by omega)
    · rw [hm.others j hne, ← hv]
      exact getRow_setF_ne _ _ _ _ hne

end Sys2Proof.Machine
end

section
/-! A packet with no class or no listed opcode (R62 to R64): what counts it, and what it leaves. -/

namespace Sys2Proof.Machine

/-- What packets act on: the host side, the carrel, collation, the slips and the switch's tables. -/
def work (s : State) : HostSide × CarrelState × CollatorState × SlipState × Table Tracker × List PendingAck × List Pair :=
  (s.host, s.carrel, s.coll, s.slips, s.switch.trackers, s.switch.acks, s.switch.pairs)

section
variable {s t : State} {p : Nat} {k : Packet}

theorem Sends.work (h : Sends s t) : work t = work s := by
  unfold Machine.work
  rw [h.host, h.carrel, h.coll, h.slips, h.trackers, h.acks, h.pairs]

/-- The counters of malformed packets and of CRC failures at a port stand apart from what sending and checks write. -/
theorem portCounters_apart (hp : p < 8) : ∀ cn ∈ [ofPort p 0x2080_01, ofPort p 0x2080_02],
    cn ∉ sendCns ∧ cn ∉ checkCns ∧ cn ∉ [0xA000_00, 0xA000_01, 0xF004_00] ∧ cn ≠ 0xB001_06 := by
  interval_cases p <;> decide

theorem logEvent_store (i kind st d : Nat) : StoreFrame s (logEvent s i kind st d) [0xF004_00] := by
  unfold logEvent
  split
  · exact .of_cat rfl rfl
  · exact StoreFrame.set (.of_cat rfl rfl) _ (by simp)

theorem logEvent_work (i kind st d : Nat) : work (logEvent s i kind st d) = work s := by
  unfold logEvent
  split <;> rfl

theorem writeError_store (i code : Nat) : StoreFrame s (writeError s i code) [0xA000_00, 0xA000_01, 0xF004_00] :=
  have h : StoreFrame s (set (set s 0xA000_00 code) 0xA000_01 (stamp (set s 0xA000_00 code) i))
      [0xA000_00, 0xA000_01, 0xF004_00] := ((StoreFrame.refl _).set _ (by simp)).set _ (by simp)
  h.trans (StoreFrame.mono (logEvent_store i 0x20 0 (code * 2 ^ 288)) (by simp))

theorem work_set (cn v : Nat) : work (set s cn v) = work s := rfl

theorem writeError_work (i code : Nat) : work (writeError s i code) = work s :=
  (logEvent_work ..).trans ((work_set ..).trans (work_set ..))

/-- A CRC failure counts at its port and leaves what packets act on. -/
theorem crcFailure_counts (hp : p < 8) :
    work (crcFailure s p) = work s ∧
      get (crcFailure s p) (ofPort p 0x2080_02) = (get s (ofPort p 0x2080_02) + 1) % 2 ^ 64 ∧
      get (crcFailure s p) (ofPort p 0x2080_01) = get s (ofPort p 0x2080_01) := by
  have hapart := portCounters_apart hp
  have hreport : ∀ v, Sends v (reportPartner v 0x09 p 0) := fun v => sends_report ..
  have hkeep : ∀ v, ∀ cn ∈ [ofPort p 0x2080_01, ofPort p 0x2080_02],
      get (reportPartner (writeError v (p + 1) (0x3300 + p)) 0x09 p 0) cn = get v cn := fun v cn hcn =>
    ((hreport _).store cn 0 (by decide) (hapart cn hcn).1).trans
      (writeError_store _ _ cn 0 (by decide) (hapart cn hcn).2.2.1)
  unfold crcFailure
  rw [if_pos hp]
  refine ⟨(hreport _).work.trans (writeError_work ..), ?_, ?_⟩
  · rw [hkeep _ _ (by simp), get_count64_same]
  · rw [hkeep _ _ (by simp), get_count64_ne _ (by unfold ofPort; omega)]

/-- A malformed packet of step 1 with a good CRC-32C likewise. -/
theorem malformed_counts (hp : p < 8) (hcrc : crcOk k = true) :
    work (malformed s p k false) = work s ∧
      get (malformed s p k false) (ofPort p 0x2080_01) = (get s (ofPort p 0x2080_01) + 1) % 2 ^ 64 ∧
      get (malformed s p k false) (ofPort p 0x2080_02) = get s (ofPort p 0x2080_02) := by
  have hapart := portCounters_apart hp
  have hsends : Sends (count64 s (ofPort p 0x2080_01)) (malformed s p k false) := by
    unfold malformed countPort
    rw [if_pos hp, if_neg (by simp [hcrc])]
    dsimp only
    rw [if_neg Bool.false_ne_true]
    refine Sends.trans (t := if nonPosted k.opcode then sendBack (count64 s (ofPort p 0x2080_01)) p
      (statusRspFor (count64 s (ofPort p 0x2080_01)) p k stMalformed 0) else count64 s (ofPort p 0x2080_01))
      (sends_ite (fun _ => sends_sendBack ..) fun _ => .refl _) ?_
    exact sends_ite (fun _ => sends_report ..) fun _ => .refl _
  refine ⟨hsends.work, ?_, ?_⟩
  · exact (hsends.store _ 0 (by decide) (hapart _ (by simp)).1).trans (get_count64_same ..)
  · exact (hsends.store _ 0 (by decide) (hapart _ (by simp)).1).trans (get_count64_ne _ (by unfold ofPort; omega))

/-- How a packet of step 1 is counted. -/
structure CountedMalformed (s : State) (p : Nat) (k : Packet) (u : State) : Prop where
  work : Machine.work u = Machine.work s
  good : crcOk k = true → get u (ofPort p 0x2080_01) = (get s (ofPort p 0x2080_01) + 1) % 2 ^ 64 ∧
    get u (ofPort p 0x2080_02) = get s (ofPort p 0x2080_02)
  bad : crcOk k = false → get u (ofPort p 0x2080_02) = (get s (ofPort p 0x2080_02) + 1) % 2 ^ 64 ∧
    get u (ofPort p 0x2080_01) = get s (ofPort p 0x2080_01)

theorem countedMalformed_malformed (hp : p < 8) : CountedMalformed s p k (malformed s p k false) := by
  by_cases hcrc : crcOk k = true
  · obtain ⟨hw, h1, h2⟩ := malformed_counts (s := s) hp hcrc
    exact ⟨hw, fun _ => ⟨h1, h2⟩, fun h => absurd (h.symm.trans hcrc) (by decide)⟩
  · have he : malformed s p k false = crcFailure s p := if_pos (by simpa using hcrc)
    obtain ⟨hw, h1, h2⟩ := crcFailure_counts (s := s) hp
    rw [he]
    exact ⟨hw, fun h => absurd h hcrc, fun _ => ⟨h1, h2⟩⟩

/-- Steps before and after that leave the work and the two counters alone. -/
theorem CountedMalformed.between {u v w : State} (h : CountedMalformed u p k v)
    (hb : Machine.work u = Machine.work s) (ha : Machine.work w = Machine.work v)
    (hgb : ∀ cn ∈ [ofPort p 0x2080_01, ofPort p 0x2080_02], get u cn = get s cn)
    (hga : ∀ cn ∈ [ofPort p 0x2080_01, ofPort p 0x2080_02], get w cn = get v cn) : CountedMalformed s p k w := by
  have b1 := hgb _ (List.mem_cons_self ..)
  have b2 := hgb (ofPort p 0x2080_02) (by simp)
  have a1 := hga _ (List.mem_cons_self ..)
  have a2 := hga (ofPort p 0x2080_02) (by simp)
  refine ⟨ha.trans (h.work.trans hb), fun hc => ?_, fun hc => ?_⟩
  · rw [a1, a2, ← b1, ← b2]; exact h.good hc
  · rw [a1, a2, ← b1, ← b2]; exact h.bad hc

/-- A packet with no class or no listed opcode. -/
def noClassOrOpcode (k : Packet) : Prop := 5 < k.vc ∨ opcodes.contains k.opcode = false

theorem sourceChecks_noClass (hk : noClassOrOpcode k) (ha : k.abort = false) :
    sourceChecks s p k = .stop (malformed s p k false) := by
  have hf : wellFramed k = false := by
    unfold wellFramed
    rcases hk with h | h
    · simp [show ¬ k.vc ≤ 5 by omega]
    · rw [h]; simp
  unfold sourceChecks
  rw [ha, if_neg Bool.false_ne_true, hf]
  exact if_pos rfl

/-- Its arrival at a port stops at step 1, whatever rules its opcode has. -/
theorem arrive_noClass {rules : Packet → Bool} (hk : noClassOrOpcode k) (ha : k.abort = false) (hp : p < 8) :
    arrive s p k rules = .stop (malformed (arrivalCounted s p k) p k false) := by
  have hs := sourceChecks_noClass (s := arrivalCounted s p k) (p := p) hk ha
  unfold arrive
  rw [if_neg (by omega)]
  dsimp only
  change (match sourceChecks (arrivalCounted s p k) p k with
    | .stop s => _
    | .go s => _) = _
  rw [hs]

theorem CheckedThrough.work (h : CheckedThrough s t) (hs : t.switch = s.switch) : work t = work s := by
  unfold Machine.work
  rw [h.rest, hs]

theorem countedMalformed_arrival (hp : p < 8) :
    CountedMalformed s p k (malformed (arrivalCounted s p k) p k false) :=
  (countedMalformed_malformed hp).between (arrivalCounted_through.work arrivalCounted_switch) rfl
    (fun cn hcn => arrivalCounted_through.store cn 0 (by decide) (portCounters_apart hp cn hcn).2.1) fun _ _ => rfl

/-! ### The packet on its way -/

theorem get_freeRx (r : Option RxPlace) (cn : Nat) : get (freeRx s r) cn = get s cn := by
  rw [freeRx_eq]; exact getRow_congr rfl rfl ..

theorem freeRx_work (r : Option RxPlace) : work (freeRx s r) = work s := by
  rw [freeRx_eq]; rfl

theorem updateRefused_work : work (updateRefused s k) = work s := by
  unfold updateRefused
  split <;> rfl

theorem get_updateRefused {cn : Nat} (h : cn ≠ 0xB001_06) : get (updateRefused s k) cn = get s cn := by
  unfold updateRefused
  split
  · exact get_count64_ne _ h
  · rfl

/-- One for another endpoint stops at step 1 too. -/
theorem countedMalformed_pass (hk : noClassOrOpcode k) (ha : k.abort = false) (hp : p < 8) (hon : switchOn s = true)
    (hby : passesBy s k = true) (hcut : cutOff k = false) : CountedMalformed s p k (passArrives s p k) := by
  have hcopy : hopCopy s p k = k := by
    unfold hopCopy completed
    rw [hcut, if_neg Bool.false_ne_true, ite_self]
  have hreceived : beingReceived s p k = false := by simp [beingReceived, hcut]
  have hleave : leaveChannel s p k = (rxPlace s p k, dropRx s p k) := by
    unfold leaveChannel; rw [hreceived, if_neg Bool.false_ne_true]
  have hpass : passArrives s p k =
      freeRx (malformed (odc (dropRx s p k) 0x01 (some p) (some k) 1) p k false) (rxPlace s p k) := by
    unfold passArrives
    dsimp only
    rw [hcopy, hon, hby, hleave]
    simp only [mustBeWhole, hreceived, sourceChecks_noClass hk ha, Bool.not_true, Bool.or_self, Bool.false_and,
      Bool.false_eq_true, if_false]
  have hthrough : CheckedThrough s (odc (dropRx s p k) 0x01 (some p) (some k) 1) :=
    (checkedThrough_of_ports dropRx_eq).trans (checkedThrough_odc ..)
  rw [hpass]
  refine (countedMalformed_malformed hp).between (hthrough.work ?_) (freeRx_work _)
    (fun cn hcn => hthrough.store cn 0 (by decide) (portCounters_apart hp cn hcn).2.1) fun _ _ => get_freeRx ..
  rw [odc_switch, dropRx_eq]

/-- One that is addressed here. -/
theorem countedMalformed_here (hk : noClassOrOpcode k) (ha : k.abort = false) (hp : p < 8)
    (hby : passesBy s k = false) (hl : k.opcode ≠ opLoanData) : CountedMalformed s p k (packetTaken s p k 0) := by
  unfold packetTaken
  rw [hby, if_neg Bool.false_ne_true, if_neg hl]
  split
  · unfold responseArrives
    rw [arrive_noClass hk ha hp]
    exact countedMalformed_arrival hp
  · rw [arrive_noClass hk ha hp]
    exact (countedMalformed_arrival hp).between rfl updateRefused_work (fun _ _ => rfl) fun cn hcn =>
      get_updateRefused (portCounters_apart hp cn hcn).2.2.2

end

/-- Settles O25: the packet stops at step 1 whether it is for this block or another. -/
theorem malformedPacketIsCounted : Obligations.MalformedPacketIsCounted := by
  unfold Obligations.MalformedPacketIsCounted
  intro s p k hk ha hl hon hport hfirst hcut
  have hp : p < 8 := lt_of_lt_of_le hport (portsOf_le _)
  have hexec : packetArrives s p k 0 = packetTaken s p k 0 := by
    unfold packetArrives
    rw [if_neg (by simp [hon, hport]), hfirst, if_neg Bool.false_ne_true]
  have h : CountedMalformed s p k (packetTaken s p k 0) := by
    by_cases hby : passesBy s k = true
    · have he : packetTaken s p k 0 = passArrives s p k := if_pos hby
      rw [he]
      exact countedMalformed_pass hk ha hp hon hby (hcut hby)
    · exact countedMalformed_here hk ha hp (by simpa using hby) hl
  refine ⟨_, congrArg (fun t => Host.Outcome.next (settle t)) hexec, h.good, h.bad, ?_⟩
  have hw := h.work
  unfold work at hw
  simp only [Prod.mk.injEq] at hw
  obtain ⟨hhost, hcarrel, hcoll, hslips, htrackers, hacks, hpairs⟩ := hw
  exact ⟨hhost, hcarrel, hcoll, hslips, htrackers, hacks, hpairs⟩

end Sys2Proof.Machine
end

section
/-! How a tracker's request completes, by its response or its timeout, and the timers of acknowledgements and polls (R54
to R60). -/

namespace Sys2Proof.Machine

section
variable {s t : State} {w : Tracker} {i st : Nat}

/-! ### The tracker's own part -/

/-- What the release of tracker `i` of issuer `w.issuer` with status `st` leaves. -/
structure Released (s : State) (i : Nat) (w : Tracker) (st : Nat) (again : Bool) (t : State) : Prop where
  trackers : t.switch.trackers = eraseT s.switch.trackers i
  quarantine : t.switch.quarantine = if again then s.switch.quarantine ++ [i] else s.switch.quarantine
  nonposted : nonpostedOpen t w.issuer = nonpostedOpen s w.issuer - 1
  lost : issuerLost t w.issuer = (issuerLost s w.issuer || (writeKind w.opcode && (st = stLinkLost || st = stTimeout)))
  others : ∀ j, j ≠ w.issuer → getRow t issuerCn j = getRow s issuerCn j
  store : StoreFrame s t [issuerCn]
  rest : t = { s with cat := t.cat, switch := { s.switch with trackers := t.switch.trackers,
                                                              quarantine := t.switch.quarantine } }

theorem nonpostedOpen_lt (j : Nat) : nonpostedOpen s j < 2 ^ 16 := Nat.mod_lt _ (by decide)

theorem released_releaseTracker {again : Bool} (hop : w.opcode ≠ opMgmtReq) (hi : w.issuer < 1024) :
    Released s i w st again (releaseTracker s i w st again) := by
  generalize hu : { s with switch.trackers := eraseT s.switch.trackers i,
                           switch.quarantine := if again then s.switch.quarantine ++ [i] else s.switch.quarantine } = u
  have hrow : ∀ c j, getRow u c j = getRow s c j := fun c j => by rw [← hu]; exact getRow_congr rfl rfl ..
  have hlt := nonpostedOpen_lt (s := s) w.issuer
  have hnp : nonpostedOpen u w.issuer = nonpostedOpen s w.issuer := congrArg (fld · 15 0) (hrow ..)
  generalize hv : setNonposted u w.issuer (nonpostedOpen u w.issuer - 1) = v
  have hvrow : getRow v issuerCn w.issuer = setFld (getRow s issuerCn w.issuer) 15 0 (nonpostedOpen s w.issuer - 1) := by
    rw [← hv, setNonposted, getRow_setF_same, hrow, hnp]
  have hvother : ∀ j, j ≠ w.issuer → getRow v issuerCn j = getRow s issuerCn j := fun j hj => by
    rw [← hv, setNonposted, getRow_setF_ne _ _ _ _ hj, hrow]
  have hvstore : StoreFrame s v [issuerCn] := by
    rw [← hv]
    refine StoreFrame.trans (t := u) (fun c j _ _ => hrow c j) (storeFrame_setF _ _ _ _ (by omega))
  have hvrest : v = { u with cat := v.cat } := by rw [← hv]; rfl
  have he : releaseTracker s i w st again =
      if writeKind w.opcode && (st = stLinkLost || st = stTimeout) then setLost v w.issuer true else v := by
    rw [← hv, ← hu]
    simp only [releaseTracker, if_neg hop]
  rw [he]
  have hnpv : nonpostedOpen v w.issuer = nonpostedOpen s w.issuer - 1 := by
    rw [nonpostedOpen, getF, hvrow, fld_setFld_same _ _ _ _ (by decide)]
    exact Nat.mod_eq_of_lt (by omega)
  have hlostv : issuerLost v w.issuer = issuerLost s w.issuer := by
    rw [issuerLost, hvrow, bit_setFld_other _ _ (by decide) (by decide)]; rfl
  split
  · rename_i h
    have hrest : setLost v w.issuer true = { v with cat := (setLost v w.issuer true).cat } := rfl
    have hsw : (setLost v w.issuer true).switch = u.switch := by rw [setLost_switch, hvrest]
    refine ⟨by rw [hsw, ← hu], by rw [hsw, ← hu], ?_, ?_, fun j hj => ?_, hvstore.trans (setLost_frame true hi), ?_⟩
    · rw [← hnpv, nonpostedOpen, getF, getRow_setLost hi, if_pos rfl, fld_setFld_above _ _ (by decide) (by decide)]; rfl
    · rw [issuerLost, getRow_setLost hi, if_pos rfl, bit_setFld_single, h, Bool.or_true]
    · rw [getRow_setLost hi, if_neg hj, hvother j hj]
    · rw [hsw, hrest, hvrest, ← hu]
  · rename_i h
    refine ⟨by rw [hvrest, ← hu], by rw [hvrest, ← hu], hnpv, ?_, hvother, hvstore, by rw [hvrest, ← hu]⟩
    rw [hlostv, Bool.eq_false_iff.mpr h, Bool.or_false]

/-! ### The engine's part -/

/-- The answer of an engine access whose last piece has come. -/
def espAnswer (e : EspAccess) (st : Nat) (data : Table (List Byte)) : EspRsp :=
  { port := e.port, etag := e.etag, status := st, data := if st = stOk then (data.map Prod.snd).flatten else [],
    partition := e.partition }

/-- An engine access with one more piece. -/
def EspAccess.with (e : EspAccess) (n st : Nat) (bs : List Byte) : EspAccess :=
  { e with pieces := e.pieces - 1, status := if e.status = stOk then st else e.status, data := insertT e.data n bs }

/-- The host side where an engine access has been answered. -/
def HostSide.answered (h : HostSide) (a : Nat) (r : EspRsp) : HostSide :=
  { h with esp := eraseT h.esp a, responses := h.responses ++ [r] }

theorem espPieceDone_last {a n : Nat} {e : EspAccess} {bs : List Byte} (he : espAccess? s a = some e) (h : e.pieces ≤ 1) :
    espPieceDone s a n st bs =
      { s with host := s.host.answered a (espAnswer e (if e.status = stOk then st else e.status) (insertT e.data n bs)) } := by
  unfold espPieceDone
  rw [he]
  exact if_pos (by show e.pieces - 1 = 0; omega)

theorem espPieceDone_more {a n : Nat} {e : EspAccess} {bs : List Byte} (he : espAccess? s a = some e) (h : ¬ e.pieces ≤ 1) :
    espPieceDone s a n st bs = { s with host.esp := insertT s.host.esp a (e.with n st bs) } := by
  unfold espPieceDone
  rw [he]
  exact if_neg (by show ¬ e.pieces - 1 = 0; omega)

theorem espPieceDone_eq {a n : Nat} {bs : List Byte} :
    espPieceDone s a n st bs = { s with host := (espPieceDone s a n st bs).host } := by
  unfold espPieceDone
  split
  · rfl
  · dsimp only
    split <;> rfl

/-- A tracker that does its work and completes for an engine. -/
theorem completeTracker_engine {again : Bool} {off hold a n : Nat} {bs rd : List Byte} (hs : w.stuck = false)
    (ho : w.owner = .engine a n) :
    completeTracker s i w st again off hold bs rd = espPieceDone (releaseTracker s i w st again) a n st bs := by
  unfold completeTracker ownerDone
  simp only [hs, Bool.false_eq_true, if_false, ho]

/-! ### The response -/

theorem arrive_responseRules {p : Nat} {k : Packet} (h : ∀ j, rulesOf k = j → j = true) :
    arrive s p k (fun _ => true) = arrive s p k rulesOf := by
  unfold arrive
  rw [h _ rfl]

/-- The opcodes of the responses that complete an engine's request. -/
def responseOpcodes : List Nat := [opReadRsp, opStatusRsp, opAtomicRsp, opLedgerRsp]

theorem response_plain {k : Packet} (h : k.opcode ∈ responseOpcodes) :
    (isResponse k.opcode && k.opcode != opCommitAck) = true ∧ k.opcode ≠ opLoanData ∧ k.opcode ≠ opMgmtRsp ∧
      rulesOf k = true := by
  simp only [responseOpcodes, List.mem_cons, List.not_mem_nil, or_false] at h
  unfold rulesOf
  rcases h with h | h | h | h <;> rw [h] <;> exact ⟨rfl, by decide, by decide, rfl⟩

/-- A response that matches its tracker completes it. -/
theorem packetArrives_response {p : Nat} {k : Packet} (hop : k.opcode ∈ responseOpcodes) (hck : Checked s p k t)
    (hw : tagMatches t p k = some w) (hfit : answerFits w k = true) :
    packetArrives s p k 0 = completeTracker t k.tracker w (statusS k) false (offendingS k) (holdS k) (espRspData w k)
      (espRspData.extentBytesOf k w) := by
  obtain ⟨hresp, hloan, hmgmt, hrules⟩ := response_plain hop
  have hport : ¬(!switchOn s || (p ≠ 15 && portsOf s.part ≤ p)) = true := by
    have := hck.port
    simp [hck.works]; omega
  unfold packetArrives
  rw [if_neg hport, hck.first, if_neg (by decide)]
  unfold packetTaken
  rw [hck.here, if_neg (by decide), if_neg hloan, hresp, if_pos rfl]
  unfold responseArrives
  rw [arrive_responseRules (fun _ hj => hj.symm.trans hrules), hck.checks]
  dsimp only
  rw [hw]
  dsimp only
  rw [hfit, if_neg (by decide), responseStatus, if_neg hmgmt]

end

/-- Settles O26: the release of the tracker, then the piece of the engine's access. -/
theorem responseCompletesItsTracker : Obligations.ResponseCompletesItsTracker := by
  unfold Obligations.ResponseCompletesItsTracker
  intro s t p k w a i e c hc hck hw ho hstuck hmgmt hi hfit he
  have hop : k.opcode ∈ responseOpcodes := by
    simp only [List.mem_cons, Prod.mk.injEq, List.not_mem_nil, or_false] at hc
    simp only [responseOpcodes, List.mem_cons, List.not_mem_nil, or_false]
    tauto
  have hexec : exec c s = .next (settle (packetArrives s p k 0)) := by
    simp only [List.mem_cons, Prod.mk.injEq, List.not_mem_nil, or_false] at hc
    rcases hc with ⟨h, rfl⟩ | ⟨h, rfl⟩ | ⟨h, rfl⟩ | ⟨h, rfl⟩ <;>
      exact congrArg (fun j => Host.Outcome.next (settle (packetArrives s p j 0))) (by rw [← h])
  have hacts := (packetArrives_response hop hck hw hfit).trans (completeTracker_engine hstuck ho)
  have hr : Released t k.tracker w (statusS k) false (releaseTracker t k.tracker w (statusS k) false) :=
    released_releaseTracker hmgmt hi
  generalize hv : releaseTracker t k.tracker w (statusS k) false = v at hr hacts
  have hhost : v.host = t.host := by rw [hr.rest]
  have hev : espAccess? v a = some e := by rw [← he]; exact congrArg (lookupT ·.esp a) hhost
  refine ⟨_, hexec, ?_⟩
  rw [hacts]
  have hp := espPieceDone_eq (s := v) (a := a) (n := i) (st := statusS k) (bs := espRspData w k)
  have hpart : (if e.pieces ≤ 1 then
      espAccess? (espPieceDone v a i (statusS k) (espRspData w k)) a = none ∧
      (espPieceDone v a i (statusS k) (espRspData w k)).host.responses = t.host.responses ++
        [espAnswer e (if e.status = stOk then statusS k else e.status) (insertT e.data i (espRspData w k))]
    else
      espAccess? (espPieceDone v a i (statusS k) (espRspData w k)) a = some (e.with i (statusS k) (espRspData w k)) ∧
      (espPieceDone v a i (statusS k) (espRspData w k)).host.responses = t.host.responses) := by
    split
    · rename_i h
      rw [espPieceDone_last hev h, ← hhost]
      exact ⟨(lookupT_eraseT ..).trans (if_pos rfl), rfl⟩
    · rename_i h
      rw [espPieceDone_more hev h, ← hhost]
      exact ⟨(lookupT_insertT ..).trans (if_pos rfl), rfl⟩
  generalize espPieceDone v a i (statusS k) (espRspData w k) = u at hp hpart ⊢
  have hcat : u.cat = v.cat ∧ u.part = v.part ∧ u.switch = v.switch := by rw [hp]; exact ⟨rfl, rfl, rfl⟩
  have hrow : ∀ cn j, getRow u cn j = getRow v cn j := getRow_congr hcat.2.1 hcat.1
  refine ⟨?_, fun j hj => ?_, ?_, hpart, fun j _ hj => ?_, hr.store.trans (.of_cat hcat.2.1 hcat.1), ?_⟩
  · rw [hcat.2.2, hr.trackers, lookupT_eraseT, if_pos rfl]
  · rw [hcat.2.2, hr.trackers, lookupT_eraseT, if_neg hj]
  · rw [← hr.nonposted]; exact congrArg (fld · 15 0) (hrow ..)
  · rw [hrow, hr.others j hj]
  · rw [hp, hr.rest, hr.quarantine]; rfl

/-! ### The timers -/

section
variable {s : State}

theorem trackerTimesOut_engine {i a j : Nat} {w : Tracker} (hw : lookupT s.switch.trackers i = some w)
    (ho : w.owner = .engine a j) (hs : w.stuck = false) :
    trackerTimesOut s i =
      espPieceDone (releaseTracker (count64 s 0x8050_03) i w stTimeout true) a j stTimeout [] := by
  unfold trackerTimesOut
  rw [hw]
  dsimp only
  unfold endTracker
  have hw' : lookupT (count64 s 0x8050_03).switch.trackers i = some w := hw
  rw [hw']
  exact completeTracker_engine hs ho

theorem ackReach_lt {e : PendingAck} {c : Nat} (h : ackReach e = some c) : c < 2 ^ 16 := by
  unfold ackReach at h
  dsimp only at h
  split at h
  · cases h
  · rw [← Option.some.inj h]; exact Nat.mod_lt _ (by decide)

theorem seqM_pollPacket (e : Pair) : seqM (pollPacket s e) = e.lastSent % 2 ^ 16 := by
  show fld (layoutM 0 e.lastSent 0 false 0) 43 28 = _
  unfold fld layoutM b2n
  simp

/-- A command that the units' running lets act. -/
theorem does_whenRuns {d : Nat} {f : State → State} {u : State} {P : State → Prop} (h : unitsRun s d = true)
    (hf : f s = u) (hu : P u) : Does (.next (settle (whenRuns d f s))) P :=
  ⟨u, congrArg (fun t => Host.Outcome.next (settle t)) ((whenRuns_of f h).trans hf), hu⟩

end

/-- Settles O27: each timer by the function that its expiry runs. -/
theorem requestTimersAct : Obligations.RequestTimersAct := by
  unfold Obligations.RequestTimersAct
  refine ⟨fun s i a j w e hrun hw ho hs hmgmt hi he hone => ?_, fun s i hrun => ?_,
    fun s src i c e hrun he howed hc => ?_, fun s dst i e hrun he hsil hq hpath hun => ?_⟩
  · have hacts := trackerTimesOut_engine hw ho hs
    generalize hb : count64 s 0x8050_03 = b at hacts
    have hbrest : b = { s with cat := b.cat } := by rw [← hb]; rfl
    have hbstore : StoreFrame s b [0x8050_03] := by rw [← hb]; exact (StoreFrame.refl _).set _ (by simp)
    have hbcount : get b 0x8050_03 = (get s 0x8050_03 + 1) % 2 ^ 64 := by rw [← hb]; exact get_count64_same ..
    have hr : Released b i w stTimeout true (releaseTracker b i w stTimeout true) := released_releaseTracker hmgmt hi
    generalize releaseTracker b i w stTimeout true = v at hr hacts
    have hbissuer : getRow b issuerCn w.issuer = getRow s issuerCn w.issuer := by
      rw [← hb, count64]; exact getRow_set_ne _ _ (by omega) (by decide)
    have hhost : v.host = s.host := by rw [hr.rest, hbrest]
    have hev : espAccess? v a = some e := by rw [← he]; exact congrArg (fun h => lookupT h.esp a) hhost
    rw [espPieceDone_last hev (by omega), hhost] at hacts
    have hlost : issuerLost v w.issuer = (issuerLost s w.issuer || writeKind w.opcode) := by
      rw [hr.lost, issuerLost, hbissuer]; simp [issuerLost]
    have hnon : nonpostedOpen v w.issuer = nonpostedOpen s w.issuer - 1 := by
      rw [hr.nonposted, nonpostedOpen, nonpostedOpen, getF, getF, hbissuer]
    refine does_whenRuns hrun hacts ⟨?_, ?_, hnon, hlost, ?_, ⟨_, rfl, rfl, rfl, fun h => ?_⟩, ?_, ?_⟩
    · show lookupT v.switch.trackers i = none
      rw [hr.trackers, lookupT_eraseT, if_pos rfl]
    · show v.switch.quarantine = _
      rw [hr.quarantine, hbrest]; rfl
    · show get v 0x8050_03 = _
      rw [← hbcount]
      exact hr.store _ 0 (by decide) (by decide)
    · rw [if_pos h]; exact ⟨rfl, rfl⟩
    · exact ((hbstore.mono (by simp)).trans (hr.store.mono (by simp))).trans (.of_cat rfl rfl)
    · rw [hr.rest, hbrest]
  · refine does_whenRuns hrun rfl ⟨fun j => ?_, rfl⟩
    simp [trackerRested]
  · obtain ⟨hsrc, hiss⟩ := ackOf_key he
    have hacts : ackDelay s src i =
        if ackSettled e then dropAck (sendAck s e e.runFirst c false) e
        else putAck (sendAck s e e.runFirst c false)
          { e with owed := subMod 16 e.expected (c + 1) - e.notDone.length } := by
      unfold ackDelay ackNow
      rw [he]
      dsimp only
      rw [if_neg howed, hc]
    refine does_whenRuns hrun hacts ⟨?_, _, commitAck s e e.runFirst c false, commitAck_opcode .., hsrc, hiss, ?_, runFirstA_commitAck ..,
      pollAnswerA_commitAck .., rfl, ?_⟩
    · subst hsrc hiss
      split
      · exact ackOf_dropAck e
      · exact ackOf_putAck { e with owed := subMod 16 e.expected (c + 1) - e.notDone.length }
    · rw [committedA_commitAck, Nat.mod_eq_of_lt (ackReach_lt hc)]
    · rw [← sendAck_eq]
      split <;> rfl
  · obtain ⟨hdst, hiss⟩ := pairOf_key he
    have hacts : pollDue s dst i = pollPair s e := by
      unfold pollDue
      rw [he]
      dsimp only
      rw [if_neg (by simp [hsil, hq, hpath, hun])]
    generalize hq' : ({ e with polls := e.polls + 1, pollAt := now s } : Pair) = e' at *
    refine does_whenRuns hrun hacts ⟨putPair s e', pollPacket (putPair s e') e, ?_, rfl, rfl, hdst, hiss, ?_, ?_⟩
    · rw [pairOf_putPair, if_pos (by rw [← hq']; exact ⟨hdst.symm, hiss.symm⟩)]
    · exact seqM_pollPacket e
    · rw [pollPair, hq']

end Sys2Proof.Machine
end

section
/-! What waits goes on, and what was held ends (R38, R39, R83, R88). -/

namespace Sys2Proof.Machine

section
variable {s : State}

/-! ### A context of a slip -/

theorem ctx?_updCtx {t k : Nat} {c : SlipCtx} {f : SlipCtx → SlipCtx} (h : ctx? s t k = some c)
    (hf : ∀ c, (f c).tray = c.tray ∧ (f c).k = c.k) : ctx? (updCtx s t k f) t k = some (f c) := by
  unfold ctx? at h
  show (s.slips.ctxs.map fun c => if c.tray = t && c.k = k then f c else c).find? (fun c => c.tray == t && c.k == k) = _
  rw [List.find?_map]
  have hkey : ∀ e : SlipCtx, ((if e.tray = t && e.k = k then f e else e).tray == t &&
      (if e.tray = t && e.k = k then f e else e).k == k) = (e.tray == t && e.k == k) := fun e => by
    split
    · rw [(hf e).1, (hf e).2]
    · rfl
  have hcomp : ((fun c : SlipCtx => c.tray == t && c.k == k) ∘ fun c => if c.tray = t && c.k = k then f c else c) =
      fun c => c.tray == t && c.k == k := funext hkey
  rw [hcomp, h]
  have := List.find?_some h
  simp only [Bool.and_eq_true, beq_iff_eq] at this
  simp [this]

/-! ### The wait of an issuer's pairs that has lasted longest -/

/-- The earlier of two waits, the first where neither is. -/
def sooner (a b : Nat × Pair × Bool) : Nat × Pair × Bool := if b.1 < a.1 then b else a

theorem foldl_sooner (l : List (Nat × Pair × Bool)) (a : Nat × Pair × Bool) :
    l.foldl sooner a ∈ a :: l ∧ ∀ w ∈ a :: l, (l.foldl sooner a).1 ≤ w.1 := by
  induction l generalizing a with
  | nil => simp
  | cons b l ih =>
    obtain ⟨hmem, hmin⟩ := ih (sooner a b)
    have he : sooner a b = a ∧ a.1 ≤ b.1 ∨ sooner a b = b ∧ b.1 < a.1 := by
      unfold sooner; split <;> simp_all
    rw [List.foldl_cons]
    refine ⟨?_, fun w hw => ?_⟩
    · rcases he with ⟨he, -⟩ | ⟨he, -⟩ <;> rw [he] at hmem ⊢ <;> simp only [List.mem_cons] at hmem ⊢ <;> tauto
    · have hle := hmin (sooner a b) (by simp)
      simp only [List.mem_cons] at hw
      rcases hw with rfl | rfl | hw
      · rcases he with ⟨he, h⟩ | ⟨he, h⟩ <;> rw [he] at hle ⊢ <;> omega
      · rcases he with ⟨he, h⟩ | ⟨he, h⟩ <;> rw [he] at hle ⊢ <;> omega
      · exact hmin w (by simp [hw])

/-- The pair after its wait is over. -/
def waitOver (e : Pair) (polls : Bool) : Pair := if polls then { e with polls := 0 } else { e with quarantined := false }

theorem pairsFree_first {i at' : Nat} {e : Pair} {polls : Bool} (h : (at', e, polls) ∈ pairTimeouts s i)
    (hfirst : ∀ w ∈ pairTimeouts s i, w ≠ (at', e, polls) → at' < w.1) :
    pairsFree s i = settlePair s (waitOver e polls) := by
  unfold pairsFree
  cases hl : pairTimeouts s i with
  | nil => rw [hl] at h; cases h
  | cons w ws =>
    rw [hl] at h hfirst
    have hfold : ws.foldl sooner w = (at', e, polls) := by
      obtain ⟨hmem, hmin⟩ := foldl_sooner ws w
      by_contra hne
      exact absurd (hfirst _ hmem hne) (by have := hmin _ h; omega)
    show (match ws.foldl sooner w with
      | (_, e, polls) => settlePair s (waitOver e polls)) = _
    rw [hfold]

theorem issuer_of_mem_pairTimeouts {i : Nat} {w : Nat × Pair × Bool} (h : w ∈ pairTimeouts s i) : w.2.1.issuer = i := by
  unfold pairTimeouts at h
  simp only [List.mem_flatMap, List.mem_filter, beq_iff_eq, List.mem_append] at h
  obtain ⟨e, ⟨-, he⟩, hw | hw⟩ := h
  all_goals
    split at hw
    · rw [List.mem_singleton] at hw; rw [hw]; exact he
    · cases hw

end

/-- Settles O28: each wait and hold by the function that ends it. -/
theorem waitsGoOnAndHoldsEnd : Obligations.WaitsGoOnAndHoldsEnd := by
  unfold Obligations.WaitsGoOnAndHoldsEnd
  refine ⟨fun s p vc w hon hfirst hheld hmust => ?_, fun s i at' e polls hrun hi hmem hleast => ?_,
    fun s t k c hrun hc hbusy hres => ⟨?_, fun hretried => ?_⟩, fun s h x hrun hx hw => ?_⟩
  · have hacts : whenOn (fun s => releaseChannel s p vc) s =
        packetTaken { s with switch.rxWaits := s.switch.rxWaits.erase w } p w.k w.stamp := by
      rw [whenOn, if_pos hon, releaseChannel, hfirst]
      dsimp only
      rw [hheld, hmust, if_neg (by decide)]
    exact ⟨_, congrArg (fun t => Host.Outcome.next (settle t)) hacts, rfl⟩
  · have hiss : (waitOver e polls).issuer = i := by
      rw [← issuer_of_mem_pairTimeouts hmem]; cases polls <;> rfl
    have hdst : (waitOver e polls).dst = e.dst := by cases polls <;> rfl
    have hm : PairsMoved s i (settlePair s (waitOver e polls)) := hiss ▸ pairsMoved_settlePair (hiss.symm ▸ hi)
    refine does_whenRuns hrun (pairsFree_first hmem hleast) ⟨?_, fun dst j hne => ?_, fun j _ hne => hm.others j hne,
      hm.store, hm.rest⟩
    · exact (pairOf_settlePair ..).trans (if_pos ⟨hdst.symm, hiss.symm⟩)
    · refine (pairOf_settlePair ..).trans (if_neg ?_)
      rw [hdst, hiss]; tauto
  · have hacts : probeRetry s t k = updCtx s t k fun c => { c with probe := .notSent } := by
      rw [probeRetry, hc]
      exact if_pos (by simp [hbusy, hres])
    exact does_whenRuns hrun hacts ⟨ctx?_updCtx hc fun _ => ⟨rfl, rfl⟩, rfl⟩
  · have hacts : probeLimit s t k = updCtx s t k fun c => { c with probe := .refused stTimeout 0 } := by
      rw [probeLimit, hc]
      exact if_pos (by simp [hretried, hbusy, hres])
    exact does_whenRuns hrun hacts ⟨ctx?_updCtx hc fun _ => ⟨rfl, rfl⟩, rfl⟩
  · have e := holdEnded_endHold hx hw
    exact does_whenRuns hrun rfl ⟨e.gone, e.kept, e.others, e.store, e.rest⟩

end Sys2Proof.Machine
end

section
/-! Notice rings: their commands, the write of the next notice and the poll of the consumed count (R109 to R112, R114). -/

namespace Sys2Proof.Machine

/-! ### One host access at a port with no locks -/

section
variable {s : State}

/-- A host access within one 4 KiB page at a port with no locks presents its request at the queue's end, and no more. -/
theorem hostAccess_presented {kind : AccessKind} {pair : Option Nat} {op context segment offset len n m : Nat}
    {data : List Byte} {poison : Bool} {uses : List Nat} (hop : op ≠ 2) (h0 : 0 < len)
    (hfit : offset % 4096 + len ≤ 4096) (hm : mspPort s n segment offset = some m) (hl : noLocksAt s m) :
    hostAccess s kind pair op context segment offset len data poison uses n =
      (s.host.nextAccess, setMspQueue (entered s (onePiece kind pair uses n context)) m (mspQueue s m ++
        [{ op := op, poison := poison, context := context, segment := segment, offset := offset, length := len,
           data := data.take len, enabled := true, access := s.host.nextAccess, piece := 0, waited := false }])) := by
  have h := (hostAccess_eq (kind := kind) (pair := pair) (op := op) (context := context) (data := data)
    (poison := poison) (uses := uses) h0 hfit hm).trans (offerReq_unlocked (show noLocksAt (entered s _) m from hl) hop)
  exact Prod.ext rfl h

theorem setMspQueue_host (m : Nat) (q : List MspReq) :
    setMspQueue s m q = { s with host := (setMspQueue s m q).host } := rfl

/-- What one presented access leaves. -/
structure Presented (s : State) (kind : AccessKind) (m : Nat) (r : MspReq) (u : State) : Prop where
  queue : mspQueue u m = mspQueue s m ++ [r]
  access : ∃ x, access? u s.host.nextAccess = some x ∧ x.kind = kind
  rest : u = { s with host := u.host }

theorem presented_hostAccess {kind : AccessKind} {pair : Option Nat} {op context segment offset len n m : Nat}
    {data : List Byte} {poison : Bool} {uses : List Nat} (hop : op ≠ 2) (h0 : 0 < len)
    (hfit : offset % 4096 + len ≤ 4096) (hm : mspPort s n segment offset = some m) (hl : noLocksAt s m) :
    Presented s kind m
      { op := op, poison := poison, context := context, segment := segment, offset := offset, length := len,
        data := data.take len, enabled := true, access := s.host.nextAccess, piece := 0, waited := false }
      (hostAccess s kind pair op context segment offset len data poison uses n).2 := by
  rw [hostAccess_presented hop h0 hfit hm hl]
  exact ⟨mspQueue_setMspQueue_append .., ⟨_, access?_entered _, rfl⟩, rfl⟩

end

/-! ### The commands -/

section
variable {s : State} {n : Nat}

/-- The row of a ring that begins. -/
def ringBegun (stage : Nat) : Nat :=
  setFld (setFld (setFld (setFld (setFld (setFld stage 255 254 1) 91 76 0) 75 68 1) 67 64 0) 63 32 0) 31 0 0

theorem fld_ringBegun (v : Nat) : rgOn (ringBegun v) = true ∧ fld (ringBegun v) 91 76 = 0 ∧ fld (ringBegun v) 75 68 = 1 ∧
    fld (ringBegun v) 63 0 = 0 ∧ fld (ringBegun v) 253 92 = fld v 253 92 := by
  unfold ringBegun rgOn
  refine ⟨?_, ?_, ?_, ?_, ?_⟩
  · rw [beq_iff_eq]
    iterate 5 rw [fld_setFld_below _ _ (by decide) (by decide)]
    exact fld_setFld_same _ _ _ _ (by decide)
  · iterate 4 rw [fld_setFld_below _ _ (by decide) (by decide)]
    exact fld_setFld_same _ _ _ _ (by decide)
  · iterate 3 rw [fld_setFld_below _ _ (by decide) (by decide)]
    exact fld_setFld_same _ _ _ _ (by decide)
  · refine Nat.eq_of_testBit_eq fun i => ?_
    rw [testBit_fld, testBit_setFld _ _ _ _ _ (by decide), testBit_setFld _ _ _ _ _ (by decide)]
    by_cases h : i < 64
    · by_cases h' : i < 32 <;> simp [h, h'] <;> omega
    · simp [h]
  · iterate 5 rw [fld_setFld_below _ _ (by decide) (by decide)]
    exact fld_setFld_above _ _ (by decide) (by decide)

/-- The host accesses where the reads of ring `n`'s consumed count are of an earlier enable. -/
def oldReads (s : State) (n : Nat) : Table Access :=
  s.host.accesses.map fun e => if e.2.kind = .consumedRead n then (e.1, { e.2 with kind := .oldConsumedRead n }) else e

/-- What remains of the waiting notices of a ring that begins. -/
def ringRunBegun (s : State) (n : Nat) : RingRun :=
  { RingRun.reset with waiting := (ringRun s n).waiting.filter fun x => x.access.isSome }

/-- The state in which ring `n` has begun with row `v`. -/
def ringBegins (s : State) (n v : Nat) : State :=
  setRingRun { setRow s ringCn n v with host.accesses := oldReads s n } n (ringRunBegun s n)

theorem ringEnable_begins {v : Nat} (hn : n < 256) (hfree : fld (ringRow s n) 255 254 = 0)
    (hv : ringBegun (get s 0x8201_00) = v) : ringEnable n s = (ringBegins s n v, .done stOk 0) := by
  unfold ringBegun at hv
  unfold ringEnable
  rw [if_neg (by omega), if_neg (by simp [hfree])]
  dsimp only
  rw [hv]
  rfl

theorem ringRow_ringBegins (v j : Nat) : ringRow (ringBegins s n v) j = if j = n then v else ringRow s j := by
  show getRow (setRow s ringCn n v) ringCn j = _
  split
  · rename_i h; rw [h]; exact getRow_setRow_same ..
  · rename_i h; exact getRow_setRow_ne _ _ (by unfold catKey; omega)

theorem storeFrame_setRow {cn row : Nat} (v : Nat) (h : row < 2 ^ 32) : StoreFrame s (setRow s cn row v) [cn] :=
  (StoreFrame.refl _).setRow _ h (by simp)

end

/-- The renewal of a lease, seen from the store. -/
theorem storeFrame_renewLease (s : State) (rq : Requester) : StoreFrame s (renewLease s rq) [] :=
  .of_cat (by simp) (by simp)

theorem ringRow_doneState {s t : State} {rq : Requester} {cn st r j : Nat} {xs : List Nat} (hj : j < 256) (h : ringCn ≠ cn) :
    ringRow (doneState s t rq cn st r xs) j = ringRow t j :=
  getRow_doneState (by omega) h (by decide)

theorem does_ringEnable {s : State} {rq : Requester} {n : Nat} (g : Granted s rq 0x8202_00 [n]) (hn : n < 256)
    (hfree : fld (ringRow s n) 255 254 = 0) : Does (exec (.ringEnable rq n) s) fun u =>
      rgOn (ringRow u n) = true ∧ fld (ringRow u n) 91 76 = 0 ∧ fld (ringRow u n) 75 68 = 1 ∧
      fld (ringRow u n) 63 0 = 0 ∧ fld (ringRow u n) 253 92 = fld (get s 0x8201_00) 253 92 ∧
      (ringRun u n).written = 0 ∧ (ringRun u n).consumed = 0 ∧
      (∀ j, j < 256 → j ≠ n → ringRow u j = ringRow s j) ∧ Completed s u rq 0x8202_00 0 [ringCn] ∧
      u = { s with slips.rings := u.slips.rings, host.accesses := u.host.accesses, cat := u.cat, log := u.log,
                   mgmt := u.mgmt } := by
  obtain ⟨v, hv⟩ : ∃ v, ringBegun (get s 0x8201_00) = v := ⟨_, rfl⟩
  obtain ⟨h1, h2, h3, h4, h5⟩ := hv ▸ fld_ringBegun (get s 0x8201_00)
  have hv' : ringBegun (get (renewLease s rq) 0x8201_00) = v := by rw [get_renewLease]; exact hv
  have e := ringEnable_begins (s := renewLease s rq) hn (by simpa [ringRow] using hfree) hv'
  have hrow := ringRow_ringBegins (s := renewLease s rq) (n := n) v
  have hrun : ringRun (ringBegins (renewLease s rq) n v) n = ringRunBegun (renewLease s rq) n := ringRun_setRingRun_same ..
  have hstore : StoreFrame s (ringBegins (renewLease s rq) n v) [ringCn] :=
    (storeFrame_renewLease s rq).mono (by simp) |>.trans
      ((storeFrame_setRow _ (by omega)).trans (.of_cat rfl rfl))
  have hrest : ringBegins (renewLease s rq) n v =
      { renewLease s rq with
        slips := { s.slips with rings := (ringBegins (renewLease s rq) n v).slips.rings }
        host := { s.host with accesses := (ringBegins (renewLease s rq) n v).host.accesses }
        cat := (ringBegins (renewLease s rq) n v).cat } := by
    rw [← renewLease_slips s rq, ← renewLease_host s rq]; rfl
  generalize ringBegins (renewLease s rq) n v = t at e hrow hrun hstore hrest
  have hu : ringRow (doneState s t rq 0x8202_00 stOk 0 [n]) n = v := by
    rw [ringRow_doneState hn (by decide), hrow n, if_pos rfl]
  have hr : ringRun (doneState s t rq 0x8202_00 stOk 0 [n]) n = ringRunBegun (renewLease s rq) n :=
    (ringRun_congr doneState_slips n).trans hrun
  have hm : t.mgmt = { s.mgmt with leaseOver := t.mgmt.leaseOver } := by rw [hrest, renewLease_eq]
  refine does_commandAccess g e ⟨?_, ?_, ?_, ?_, ?_, ?_, ?_, fun j hj hne => ?_, ?_, ?_⟩
  · rw [hu]; exact h1
  · rw [hu]; exact h2
  · rw [hu]; exact h3
  · rw [hu]; exact h4
  · rw [hu]; exact h5
  · rw [hr]; rfl
  · rw [hr]; rfl
  · rw [ringRow_doneState hj (by decide), hrow j, if_neg hne]
    exact getRow_congr (renewLease_part ..) (renewLease_cat ..) ..
  · exact doneState_completed (by decide) (by rw [hrest]; exact renewLease_time ..) (by rw [hrest]; simp) hm hstore
  · rw [doneState_eq]
    generalize doneState _ _ _ _ _ _ _ = u
    rw [hrest, renewLease_eq]

theorem does_ringDisable {s : State} {rq : Requester} {n : Nat} (g : Granted s rq 0x8203_00 [n]) (hn : n < 256) :
    Does (exec (.ringDisable rq n) s) fun u =>
      rgOn (ringRow u n) = false ∧ (∀ j, j < 256 → j ≠ n → ringRow u j = ringRow s j) ∧
      Completed s u rq 0x8203_00 0 [ringCn] ∧ u = { s with cat := u.cat, log := u.log, mgmt := u.mgmt } := by
  have e : ringDisable n (renewLease s rq) = (disableRing (renewLease s rq) n, .done stOk 0) := if_neg (by omega)
  have hrow : ∀ j, j ≠ n → ringRow (disableRing (renewLease s rq) n) j = ringRow s j := fun j hne =>
    (getRow_setF_ne _ _ _ _ hne).trans (getRow_congr (renewLease_part ..) (renewLease_cat ..) ..)
  have hoff : rgOn (ringRow (disableRing (renewLease s rq) n) n) = false := by
    rw [rgOn, ringRow, disableRing, getRow_setF_same, fld_setFld_same _ _ _ _ (by decide)]; rfl
  refine does_commandAccess g e ⟨?_, fun j hj hne => ?_, completed_of_cat (by decide) rfl ?_⟩
  · rw [ringRow_doneState hn (by decide)]; exact hoff
  · rw [ringRow_doneState hj (by decide), hrow j hne]
  · exact ((storeFrame_renewLease s rq).mono (by simp)).trans (storeFrame_setF _ _ _ _ (by omega))

theorem leaves_ringAttentionClear {s : State} {rq : Requester} {n : Nat} (g : Granted s rq 0x8205_00 [n]) (hn : n < 256) :
    Leaves (exec (.ringAttentionClear rq n) s) fun t =>
      (∀ i, bit (get t 0x8204_00) i = (bit (get s 0x8204_00) i && i != n)) ∧
      Completed s t rq 0x8205_00 0 [0x8204_00] ∧ t = { s with cat := t.cat, log := t.log, mgmt := t.mgmt } := by
  have e : ringAttentionClear n (renewLease s rq) =
      (set (renewLease s rq) 0x8204_00 (setBit (get (renewLease s rq) 0x8204_00) n false), .done stOk 0) :=
    if_neg (by omega)
  refine leaves_commandAccess g e ⟨fun i => ?_, completed_of_cat (by decide) rfl ?_⟩
  · rw [get_doneState_other (by decide) (by decide), get_set_same, bit_setBit, get_renewLease]
    by_cases h : i = n <;> simp [h]
  · exact ((storeFrame_renewLease s rq).mono (by simp)).trans ((StoreFrame.refl _).set _ (by simp))

/-! ### The notice written and the count polled -/

section
variable {s : State} {n m : Nat} {x : NoticePending}

/-- A ring with one more notice written, by access `a`. -/
def RingRun.wrote (r : RingRun) (x : NoticePending) (a : Nat) : RingRun :=
  { r with written := r.written + 1, overflowed := false,
           waiting := r.waiting.map fun y => if y = x && y.access.isNone then { y with access := some a } else y }

/-- The row of a ring that has `w` notices written. -/
def ringMoved (row w : Nat) : Nat := setFld (setFld row 91 76 (ringSlot (rgSize row) w)) 75 68 (ringTurn (rgSize row) w)

/-- The next notice's write, the count and the row are all that `writeNotice` leaves. -/
theorem writeNotice_eq (hon : rgOn (ringRow s n) = true) (hfull : ringFull s n = false) (hx : nextNotice s n = some x) :
    writeNotice s n =
      let h := hostAccess s (.noticeWrite n) none 1 (rgContext (ringRow s n)) (rgSegment (ringRow s n)) (noticeOffset s n)
        32 (bytesLE 32 (noticeImage s n x)) false [] (rgPartition (ringRow s n))
      let t := setRingRun h.2 n ((ringRun s n).wrote x h.1)
      setRow t ringCn n (setFld (setFld (ringRow t n) 91 76 (ringSlot (rgSize (ringRow s n)) ((ringRun s n).written + 1)))
        75 68 (ringTurn (rgSize (ringRow s n)) ((ringRun s n).written + 1))) := by
  unfold writeNotice
  simp only [hon, hfull, hx, Bool.not_true, Bool.or_self, Bool.false_eq_true, if_false]
  rfl

end

theorem does_noticeWrite {s : State} {n m : Nat} {x : NoticePending} (hrun : unitsRun s 2 = true) (hn : n < 256)
    (hon : rgOn (ringRow s n) = true) (hfull : ringFull s n = false) (hx : nextNotice s n = some x)
    (hm : mspPort s (rgPartition (ringRow s n)) (rgSegment (ringRow s n)) (noticeOffset s n) = some m)
    (hl : noLocksAt s m) : Does (exec (.noticeWrite n) s) fun u =>
      (ringRun u n).written = (ringRun s n).written + 1 ∧ (ringRun u n).overflowed = false ∧
      fld (ringRow u n) 91 76 = ringSlot (rgSize (ringRow s n)) ((ringRun s n).written + 1) % 2 ^ 16 ∧
      fld (ringRow u n) 75 68 = ringTurn (rgSize (ringRow s n)) ((ringRun s n).written + 1) ∧
      mspQueue u m = mspQueue s m ++
        [{ op := 1, poison := false, context := rgContext (ringRow s n), segment := rgSegment (ringRow s n),
           offset := noticeOffset s n, length := 32, data := bytesLE 32 (noticeImage s n x), enabled := true,
           access := s.host.nextAccess, piece := 0, waited := false }] ∧
      StoreFrame s u [ringCn] ∧ u = { s with host := u.host, slips.rings := u.slips.rings, cat := u.cat } := by
  have hacts := writeNotice_eq hon hfull hx
  have hp := presented_hostAccess (kind := .noticeWrite n) (pair := none) (op := 1) (context := rgContext (ringRow s n))
    (data := bytesLE 32 (noticeImage s n x)) (poison := false) (uses := []) (by decide) (by decide)
    (noticeOffset_page s n) hm hl
  rw [List.take_of_length_le (by simp)] at hp
  dsimp only at hacts
  generalize hostAccess s (.noticeWrite n) none 1 (rgContext (ringRow s n)) (rgSegment (ringRow s n)) (noticeOffset s n)
    32 (bytesLE 32 (noticeImage s n x)) false [] (rgPartition (ringRow s n)) = h at hacts hp
  refine does_whenRuns hrun hacts ⟨?_, ?_, ?_, ?_, ?_, ?_, ?_⟩
  · rw [ringRun_setRow, ringRun_setRingRun_same]; rfl
  · rw [ringRun_setRow, ringRun_setRingRun_same]; rfl
  · rw [ringRow, getRow_setRow_same, fld_setFld_below _ _ (by decide) (by decide), fld_setFld_same _ _ _ _ (by decide)]
  · rw [ringRow, getRow_setRow_same, fld_setFld_same _ _ _ _ (by decide)]
    exact Nat.mod_eq_of_lt (ringTurn_lt ..)
  · rw [mspQueue_setRow, mspQueue_setRingRun]; exact hp.queue
  · refine StoreFrame.trans (t := setRingRun h.2 n ((ringRun s n).wrote x h.1)) ?_ (storeFrame_setRow _ (by omega))
    rw [hp.rest]; exact .of_cat rfl rfl
  · rw [hp.rest]; rfl

theorem pollConsumed_full {s : State} {n : Nat} (hon : rgOn (ringRow s n) = true) (hfull : ringFull s n = true)
    (hasked : ∀ e ∈ s.host.accesses, e.2.kind = .consumedRead n → e.2.ignored = true) :
    pollConsumed s n =
      (hostAccess s (.consumedRead n) none 0 (rgContext (ringRow s n)) (rgSegment (ringRow s n)) (rgConsumed (ringRow s n))
        8 [] false [] (rgPartition (ringRow s n))).2 := by
  have hask : (s.host.accesses.any fun e => e.2.kind == .consumedRead n && !e.2.ignored) = false := by
    rw [List.any_eq_false]
    intro e he
    by_cases hk : e.2.kind = .consumedRead n
    · simp [hasked e he hk]
    · simp [hk]
  unfold pollConsumed
  dsimp only
  rw [hon, hfull, hask]
  rfl

/-- Settles O34: the commands by the state that each leaves, the write and the poll by their one host access. -/
theorem ringsWriteAndAnswer : Obligations.RingsWriteAndAnswer := by
  unfold Obligations.RingsWriteAndAnswer
  refine ⟨fun s rq n g hn hfree => does_ringEnable g hn hfree, fun s rq n g hn => does_ringDisable g hn,
    fun s rq n g hn => leaves_ringAttentionClear g hn, ?_, fun s n m hrun hon hfull hasked hm _ hl => ?_⟩
  · rintro s n m w bits x hrun hn hon hfull hx rfl rfl hm - hl
    exact does_noticeWrite hrun hn hon hfull hx hm hl
  · have hp := presented_hostAccess (kind := .consumedRead n) (pair := none) (op := 0) (context := rgContext (ringRow s n))
      (len := 8) (data := []) (poison := false) (uses := []) (by decide) (by decide) (by unfold rgConsumed; omega) hm hl
    exact does_whenRuns hrun (pollConsumed_full hon hfull hasked) ⟨hp.queue, hp.access, hp.rest⟩

end Sys2Proof.Machine
end

section
/-! Invocations that wait: how a command comes to wait, and what the end of those that an event finds leaves (R259, R260,
R340). -/

namespace Sys2Proof.Machine

/-! ### A command that waits -/

/-- The state in which a granted invocation waits. -/
def runsState (s t : State) (rq : Requester) (cn arg : Nat) (xs : List Nat) : State :=
  count64 (cmdRuns t cn arg (invokeDigest s rq cn xs) rq) 0x1110_03

section
variable {s t : State} {rq : Requester} {cn arg st r : Nat} {xs : List Nat} {op : Op}

theorem runsState_eq : runsState s t rq cn arg xs =
    { t with cat := (runsState s t rq cn arg xs).cat, mgmt := (runsState s t rq cn arg xs).mgmt } := rfl

theorem getRow_runsState {c q : Nat} (hq : q < 2 ^ 32) (h : c ≠ cn) (h' : c ≠ 0x1110_03) :
    getRow (runsState s t rq cn arg xs) c q = getRow t c q := by
  unfold runsState count64 count
  rw [getRow_set_ne _ _ hq h']
  unfold cmdRuns
  exact (getRow_congr rfl rfl ..).trans (getRow_set_ne t _ hq h)

theorem get_runsState (h : cn ≠ 0x1110_03) : get (runsState s t rq cn arg xs) cn = cmdValue 1 0 0 := by
  unfold runsState
  rw [get_count64_ne _ h]
  unfold cmdRuns
  exact (getRow_congr rfl rfl ..).trans (get_set_same ..)

/-- The invocation that waits. -/
theorem mem_runsState : ∃ v ∈ (runsState s t rq cn arg xs).mgmt.running, v.cn = cn ∧ v.arg = arg ∧ v.latest = true :=
  ⟨{ cn := cn, arg := arg, rq := rq, msg := 0, digest := invokeDigest s rq cn xs, latest := true },
    List.mem_append_right _ (List.mem_singleton.mpr rfl), rfl, rfl, rfl⟩

theorem storeFrame_runsState : StoreFrame t (runsState s t rq cn arg xs) [cn, 0x1110_03] := fun c q hq hc => by
  simp only [List.mem_cons, List.not_mem_nil, or_false, not_or] at hc
  exact getRow_runsState hq hc.1 hc.2

/-- A granted command whose rule waits answers the state in which it waits. -/
theorem leaves_commandAccess_waits (g : Granted s rq cn xs) (e : op (renewLease s rq) = (t, .waits)) {P : State → Prop}
    (h : P (runsState s t rq cn arg xs)) : Leaves (commandAccess s rq cn xs arg op) P :=
  ⟨_, commandAccess_waits g e, h⟩

theorem does_commandAccess_waits (g : Granted s rq cn xs) (e : op (renewLease s rq) = (t, .waits)) {P : State → Prop}
    (h : P (runsState s t rq cn arg xs)) : Does (settled (commandAccess s rq cn xs arg op)) P :=
  ⟨_, congrArg settled (commandAccess_waits g e), h⟩

end

/-! ### The end of one invocation -/

/-- Ends of invocations of `cn` reach its object, the core's lists of invocations and the log's queue. -/
structure EndsAt (s : State) (cn : Nat) (t : State) : Prop where
  rest : t = { s with cat := t.cat, log := { s.log with queue := t.log.queue },
                      mgmt := { s.mgmt with running := t.mgmt.running, ended := t.mgmt.ended,
                                            finished := t.mgmt.finished } }
  store : StoreFrame s t [cn]

/-- An invocation of `cn` that ends with status `st` returns at once. -/
def returnsAtOnce (s : State) (cn st : Nat) : Prop := invokeRecorded cn st = false ∨ recordsFit s

section
variable {s t u : State} {cn a st r : Nat} {v : Invocation}

theorem EndsAt.refl (s : State) : EndsAt s cn s := ⟨rfl, .refl _⟩

theorem EndsAt.trans (h : EndsAt s cn t) (g : EndsAt t cn u) : EndsAt s cn u :=
  ⟨by rw [g.rest, h.rest], h.store.trans g.store⟩

theorem runningInvocation_some (h : runningInvocation s cn a = some v) :
    v ∈ s.mgmt.running ∧ v.cn = cn ∧ v.arg = a := by
  have hp := List.find?_some h
  simp only [Bool.and_eq_true, beq_iff_eq] at hp
  exact ⟨List.mem_of_find?_eq_some h, hp.1, hp.2⟩

/-- The state in which the object of a latest invocation shows its end. -/
def shown (s : State) (v : Invocation) (st r : Nat) : State := if v.latest then set s v.cn (cmdValue 2 st r) else s

theorem shown_eq : shown s v st r = { s with cat := (shown s v st r).cat } := by unfold shown; split <;> rfl

theorem storeFrame_shown : StoreFrame s (shown s v st r) [v.cn] := by
  unfold shown
  split
  · exact (StoreFrame.refl _).set _ (by simp)
  · exact .refl _

theorem get_shown : get (shown s v st r) v.cn = if v.latest then cmdValue 2 st r else get s v.cn := by
  unfold shown
  split
  · exact get_set_same ..
  · rfl

/-- A state with another queue of records and another list of finished messages. -/
def withRecords (s : State) (q : List LogEvent) (f : List (Nat × Nat × Nat)) : State :=
  { s with log := { s.log with queue := q }, mgmt := { s.mgmt with finished := f } }

theorem recordInvoke_withRecords (d : Nat) (rq : Requester) : ∃ q, q.length ≤ s.log.queue.length + 1 ∧
    recordInvoke s cn st d rq = withRecords s q s.mgmt.finished := by
  unfold recordInvoke
  split
  · exact ⟨_, by rw [List.length_append]; exact Nat.le_refl _, rfl⟩
  · exact ⟨s.log.queue, by omega, rfl⟩

/-- An invocation that returns shows its end and writes its record. -/
theorem returnInvocation_withRecords : ∃ q f, q.length ≤ s.log.queue.length + 1 ∧
    returnInvocation s v st r = withRecords (shown s v st r) q f := by
  have hq : (shown s v st r).log.queue = s.log.queue := by rw [shown_eq]
  obtain ⟨q, hlen, he⟩ := recordInvoke_withRecords (s := shown s v st r) (cn := v.cn) (st := st) v.digest v.rq
  rw [hq] at hlen
  have hret : returnInvocation s v st r = if v.msg = 0 then withRecords (shown s v st r) q (shown s v st r).mgmt.finished
      else withRecords (shown s v st r) q ((shown s v st r).mgmt.finished ++ [(v.msg, st, r)]) := by
    show (if v.msg = 0 then recordInvoke (shown s v st r) v.cn st v.digest v.rq
      else { recordInvoke (shown s v st r) v.cn st v.digest v.rq with
        mgmt.finished := (recordInvoke (shown s v st r) v.cn st v.digest v.rq).mgmt.finished ++ [(v.msg, st, r)] }) = _
    rw [he]
    rfl
  rw [hret]
  split
  · exact ⟨q, _, hlen, rfl⟩
  · exact ⟨q, _, hlen, rfl⟩

theorem endsAt_withRecords (q : List LogEvent) (f : List (Nat × Nat × Nat)) :
    EndsAt s v.cn (withRecords (shown s v st r) q f) := by
  refine ⟨?_, storeFrame_shown.trans (.of_cat rfl rfl)⟩
  unfold withRecords
  rw [shown_eq]

theorem endsAt_returnInvocation : EndsAt s v.cn (returnInvocation s v st r) := by
  obtain ⟨q, f, -, he⟩ := returnInvocation_withRecords (s := s) (v := v) (st := st) (r := r)
  rw [he]
  exact endsAt_withRecords q f

theorem returnInvocation_running : (returnInvocation s v st r).mgmt.running = s.mgmt.running := by
  obtain ⟨q, f, -, he⟩ := returnInvocation_withRecords (s := s) (v := v) (st := st) (r := r)
  rw [he, withRecords, shown_eq]

theorem returnInvocation_queue : (returnInvocation s v st r).log.queue.length ≤ s.log.queue.length + 1 := by
  obtain ⟨q, f, hlen, he⟩ := returnInvocation_withRecords (s := s) (v := v) (st := st) (r := r)
  rw [he]
  exact hlen

theorem get_returnInvocation : get (returnInvocation s v st r) v.cn =
    if v.latest then cmdValue 2 st r else get s v.cn := by
  obtain ⟨q, f, -, he⟩ := returnInvocation_withRecords (s := s) (v := v) (st := st) (r := r)
  rw [he, ← get_shown]
  exact getRow_congr rfl rfl ..

/-- The state without the running invocation `v`. -/
def withoutRunning (s : State) (v : Invocation) : State := { s with mgmt.running := s.mgmt.running.erase v }

/-- An invocation that an event finds is over, and returns where its record has a place. -/
theorem endInvocation_some (h : runningInvocation s cn a = some v) :
    endInvocation s cn a st r = returnInvocation (withoutRunning s v) v st r ∨
      endInvocation s cn a st r =
        { withoutRunning s v with mgmt.ended := s.mgmt.ended ++ [(v, st, r)] } ∧ ¬ returnsAtOnce s cn st := by
  unfold endInvocation
  rw [h]
  dsimp only
  split
  · rename_i hw
    simp only [Bool.and_eq_true, decide_eq_true_eq] at hw
    obtain ⟨hrec, hfull⟩ := hw
    refine .inr ⟨rfl, ?_⟩
    have hpos : 0 < s.mgmt.running.length := List.length_pos_of_mem (runningInvocation_some h).1
    rintro (hno | hfit)
    · rw [hrec] at hno; cases hno
    · unfold recordsFit at hfit; omega
  · exact .inl rfl

theorem endInvocation_none (h : runningInvocation s cn a = none) : endInvocation s cn a st r = s := by
  unfold endInvocation; rw [h]

theorem endsAt_endInvocation : EndsAt s cn (endInvocation s cn a st r) := by
  cases h : runningInvocation s cn a with
  | none => rw [endInvocation_none h]; exact .refl s
  | some v =>
    obtain ⟨-, hcn, -⟩ := runningInvocation_some h
    have hw : EndsAt s cn (withoutRunning s v) := ⟨rfl, .of_cat rfl rfl⟩
    rcases endInvocation_some (st := st) (r := r) h with e | ⟨e, -⟩
    · rw [e, ← hcn]; exact (hcn ▸ hw).trans endsAt_returnInvocation
    · rw [e]; exact ⟨rfl, .of_cat rfl rfl⟩

theorem endInvocation_running (h : runningInvocation s cn a = some v) :
    (endInvocation s cn a st r).mgmt.running = s.mgmt.running.erase v := by
  rcases endInvocation_some (st := st) (r := r) h with e | ⟨e, -⟩ <;> rw [e]
  · exact returnInvocation_running
  · rfl

/-- Where records fit, they fit after one invocation has ended. -/
theorem recordsFit_endInvocation (h : recordsFit s) : recordsFit (endInvocation s cn a st r) := by
  cases hv : runningInvocation s cn a with
  | none => rw [endInvocation_none hv]; exact h
  | some v =>
    have hmem := (runningInvocation_some hv).1
    have hlen := List.length_erase_of_mem hmem
    have hpos := List.length_pos_of_mem hmem
    unfold recordsFit at h ⊢
    rcases endInvocation_some (st := st) (r := r) hv with e | ⟨-, e⟩
    · have hq := returnInvocation_queue (s := withoutRunning s v) (v := v) (st := st) (r := r)
      rw [endInvocation_running hv, hlen, e]
      have : (withoutRunning s v).log.queue.length = s.log.queue.length := rfl
      omega
    · exact absurd (.inr h) e

theorem returnsAtOnce_endInvocation (h : returnsAtOnce s cn st) : returnsAtOnce (endInvocation s cn a st r) cn st :=
  h.imp_right recordsFit_endInvocation

theorem get_endInvocation (hv : runningInvocation s cn a = some v) (h : returnsAtOnce s cn st) :
    get (endInvocation s cn a st r) cn = if v.latest then cmdValue 2 st r else get s cn := by
  obtain ⟨-, hcn, -⟩ := runningInvocation_some hv
  rcases endInvocation_some (st := st) (r := r) hv with e | ⟨-, e⟩
  · rw [e]
    subst hcn
    exact get_returnInvocation
  · exact absurd h e

/-- One that is not the latest of its command leaves the command's object. -/
theorem get_endInvocation_old (hv : runningInvocation s cn a = some v) (h : v.latest = false) :
    get (endInvocation s cn a st r) cn = get s cn := by
  obtain ⟨-, hcn, -⟩ := runningInvocation_some hv
  rcases endInvocation_some (st := st) (r := r) hv with e | ⟨e, -⟩
  · rw [e]
    subst hcn
    rw [get_returnInvocation, if_neg (by simp [h])]
    exact getRow_congr rfl rfl ..
  · rw [e]; exact getRow_congr rfl rfl ..

end

/-! ### The end of all that an event finds -/

/-- End the running invocations of `cn` with these arguments, in turn. -/
def endAll (s : State) (cn st : Nat) (as : List Nat) : State := forEach as (fun t a => endInvocation t cn a st 0) s

/-- The arguments of the running invocations of `cn` that `p` picks. -/
def runningArgs (s : State) (cn : Nat) (p : Nat → Bool) : List Nat :=
  (s.mgmt.running.filter fun v => v.cn == cn && p v.arg).map (·.arg)

theorem endInvocations_eq (s : State) (cn : Nat) (p : Nat → Bool) (st : Nat) :
    endInvocations s cn p st = endAll s cn st (runningArgs s cn p) := rfl

section
variable {s : State} {cn st : Nat} {p : Nat → Bool} {as : List Nat} {v : Invocation}

theorem endAll_cons (a : Nat) : endAll s cn st (a :: as) = endAll (endInvocation s cn a st 0) cn st as := rfl

theorem endsAt_endAll : EndsAt s cn (endAll s cn st as) := by
  induction as generalizing s with
  | nil => exact .refl s
  | cons a as ih => exact endsAt_endInvocation.trans ih

theorem endsAt_endInvocations : EndsAt s cn (endInvocations s cn p st) := endsAt_endAll

/-- The running invocations of `cn` with argument `a`. -/
def countRunning (s : State) (cn a : Nat) : Nat := s.mgmt.running.countP fun v => v.cn == cn && v.arg == a

theorem countRunning_endInvocation (a b : Nat) :
    countRunning (endInvocation s cn a st 0) cn b = countRunning s cn b - if b = a then 1 else 0 := by
  cases hv : runningInvocation s cn a with
  | none =>
    rw [endInvocation_none hv]
    split
    · rename_i h
      subst h
      have : countRunning s cn b = 0 := by
        rw [countRunning, List.countP_eq_zero]
        simpa [runningInvocation, List.find?_eq_none] using hv
      omega
    · rfl
  | some v =>
    obtain ⟨hmem, hcn, harg⟩ := runningInvocation_some hv
    unfold countRunning
    rw [endInvocation_running hv, List.countP_erase]
    congr 1
    have : (v.cn == cn && v.arg == b) = decide (b = a) := by
      rw [hcn, harg, beq_self_eq_true, Bool.true_and, Bool.eq_iff_iff, beq_iff_eq, decide_eq_true_iff]; exact eq_comm
    simp [hmem, this]

theorem countRunning_endAll (b : Nat) (h : countRunning s cn b ≤ as.count b) : countRunning (endAll s cn st as) cn b = 0 := by
  induction as generalizing s with
  | nil => simpa [endAll, forEach] using h
  | cons a as ih =>
    refine ih ?_
    rw [countRunning_endInvocation]
    rw [List.count_cons] at h
    by_cases hb : b = a
    · subst hb
      rw [if_pos rfl]; simp at h; omega
    · have : (a == b) = false := by simpa using fun e => hb e.symm
      rw [if_neg hb]; simpa [this] using h

/-- None that the event finds runs any more. -/
theorem none_endInvocations (h : v ∈ (endInvocations s cn p st).mgmt.running) (hcn : v.cn = cn) : p v.arg = false := by
  by_contra hp
  have hcount : countRunning s cn v.arg ≤ (runningArgs s cn p).count v.arg := by
    unfold countRunning runningArgs
    rw [List.count, List.countP_map, List.countP_filter]
    refine List.countP_mono_left fun x _ hx => ?_
    simp only [Bool.and_eq_true, beq_iff_eq] at hx
    simpa [hx.1, hx.2] using hp
  have hzero := countRunning_endAll (st := st) v.arg hcount
  rw [countRunning, List.countP_eq_zero] at hzero
  exact hzero v h (by simp [hcn])

theorem noneRuns_endInvocations {a : Nat} (hp : p a = true) : noneRuns (endInvocations s cn p st) cn a := by
  rintro v hv ⟨hcn, harg⟩
  have := none_endInvocations hv hcn
  rw [harg, hp] at this
  cases this

/-- Those that run afterwards ran before. -/
theorem sublist_endAll : (endAll s cn st as).mgmt.running.Sublist s.mgmt.running := by
  induction as generalizing s with
  | nil => exact .refl _
  | cons a as ih =>
    rw [endAll_cons]
    refine ih.trans ?_
    cases hv : runningInvocation s cn a with
    | none => rw [endInvocation_none hv]
    | some v => rw [endInvocation_running hv]; exact List.erase_sublist

theorem sublist_endInvocations : (endInvocations s cn p st).mgmt.running.Sublist s.mgmt.running := sublist_endAll

theorem recordsFit_endAll (h : recordsFit s) : recordsFit (endAll s cn st as) := by
  induction as generalizing s with
  | nil => exact h
  | cons a as ih => exact ih (recordsFit_endInvocation h)

theorem recordsFit_endInvocations (h : recordsFit s) : recordsFit (endInvocations s cn p st) := recordsFit_endAll h

/-- Whether the latest invocation of `cn` runs, with an argument that `p` picks. -/
def latestIn (s : State) (cn : Nat) (p : Nat → Bool) : Prop :=
  ∃ v ∈ s.mgmt.running, v.cn = cn ∧ p v.arg = true ∧ v.latest = true

theorem latestIn_endInvocation {a : Nat} (h : latestIn s cn p) (hr : returnsAtOnce s cn st) :
    latestIn (endInvocation s cn a st 0) cn p ∨ get (endInvocation s cn a st 0) cn = cmdValue 2 st 0 := by
  obtain ⟨v, hmem, hcn, hp, hl⟩ := h
  cases hw : runningInvocation s cn a with
  | none => rw [endInvocation_none hw]; exact .inl ⟨v, hmem, hcn, hp, hl⟩
  | some w =>
    by_cases hlw : w.latest = true
    · exact .inr ((get_endInvocation hw hr).trans (if_pos hlw))
    · refine .inl ⟨v, ?_, hcn, hp, hl⟩
      rw [endInvocation_running hw]
      exact (List.mem_erase_of_ne (fun e => hlw (by rw [← e]; exact hl))).mpr hmem

theorem get_endInvocation_stays {a : Nat} (hr : returnsAtOnce s cn st) (h : get s cn = cmdValue 2 st 0) :
    get (endInvocation s cn a st 0) cn = cmdValue 2 st 0 := by
  cases hw : runningInvocation s cn a with
  | none => rw [endInvocation_none hw]; exact h
  | some w => rw [get_endInvocation hw hr, h, ite_self]

theorem latestIn_endAll (h : latestIn s cn p ∨ get s cn = cmdValue 2 st 0) (hr : returnsAtOnce s cn st) :
    latestIn (endAll s cn st as) cn p ∨ get (endAll s cn st as) cn = cmdValue 2 st 0 := by
  induction as generalizing s with
  | nil => exact h
  | cons a as ih =>
    refine ih ?_ (returnsAtOnce_endInvocation hr)
    rcases h with h | h
    · exact latestIn_endInvocation h hr
    · exact .inr (get_endInvocation_stays hr h)

/-- The latest invocation returns, and its object shows it. -/
theorem get_endInvocations (h : latestIn s cn p) (hr : returnsAtOnce s cn st) :
    get (endInvocations s cn p st) cn = cmdValue 2 st 0 := by
  rcases latestIn_endAll (as := runningArgs s cn p) (.inl h) hr with ⟨v, hmem, hcn, hp, -⟩ | h
  · have := none_endInvocations (s := s) (p := p) (st := st) hmem hcn
    rw [hp] at this
    cases this
  · exact h

theorem latestIn_of_latestRuns {a : Nat} (h : latestRuns s cn a) (hp : p a = true) : latestIn s cn p := by
  obtain ⟨v, hv, hl⟩ := h
  obtain ⟨hmem, hcn, harg⟩ := runningInvocation_some hv
  exact ⟨v, hmem, hcn, harg ▸ hp, hl⟩

/-- An event that finds only earlier invocations of the command leaves its object. -/
theorem get_endAll_old (h : ∀ v ∈ s.mgmt.running, v.cn = cn → v.arg ∈ as → v.latest = false) :
    get (endAll s cn st as) cn = get s cn := by
  induction as generalizing s with
  | nil => rfl
  | cons a as ih =>
    rw [endAll_cons]
    cases hw : runningInvocation s cn a with
    | none =>
      refine (ih fun v hv hcn harg => ?_).trans ?_
      · rw [endInvocation_none hw] at hv; exact h v hv hcn (List.mem_cons_of_mem _ harg)
      · rw [endInvocation_none hw]
    | some w =>
      obtain ⟨hmem, hcn, harg⟩ := runningInvocation_some hw
      refine (ih fun v hv hcn harg => ?_).trans
        (get_endInvocation_old hw (h w hmem hcn (by rw [harg]; exact List.mem_cons_self ..)))
      rw [endInvocation_running hw] at hv
      exact h v (List.mem_of_mem_erase hv) hcn (List.mem_cons_of_mem _ harg)

theorem get_endInvocations_old (h : ∀ v ∈ s.mgmt.running, v.cn = cn → p v.arg = true → v.latest = false) :
    get (endInvocations s cn p st) cn = get s cn := by
  refine get_endAll_old fun v hv hcn harg => h v hv hcn ?_
  simp only [List.mem_map, List.mem_filter, Bool.and_eq_true] at harg
  obtain ⟨x, ⟨-, -, hp⟩, hx⟩ := harg
  rwa [← hx]

/-- An invocation that the event does not find goes on. -/
theorem mem_endAll (h : v ∈ s.mgmt.running) (hv : v.cn = cn → v.arg ∉ as) : v ∈ (endAll s cn st as).mgmt.running := by
  induction as generalizing s with
  | nil => exact h
  | cons a as ih =>
    rw [endAll_cons]
    refine ih ?_ fun hcn harg => hv hcn (List.mem_cons_of_mem _ harg)
    cases hw : runningInvocation s cn a with
    | none => rw [endInvocation_none hw]; exact h
    | some w =>
      obtain ⟨-, hcn, harg⟩ := runningInvocation_some hw
      rw [endInvocation_running hw]
      refine (List.mem_erase_of_ne fun e => ?_).mpr h
      exact hv (e ▸ hcn) (by rw [e, harg]; exact List.mem_cons_self ..)

theorem mem_endInvocations (h : v ∈ s.mgmt.running) (hv : v.cn = cn → p v.arg = false) :
    v ∈ (endInvocations s cn p st).mgmt.running := by
  refine mem_endAll h fun hcn harg => ?_
  simp only [List.mem_map, List.mem_filter, Bool.and_eq_true] at harg
  obtain ⟨x, ⟨-, -, hp⟩, hx⟩ := harg
  rw [hx, hv hcn] at hp
  cases hp

/-! ### What the terms rest on -/

variable {t : State}

theorem latestRuns_congr (h : t.mgmt = s.mgmt) (cn a : Nat) : latestRuns t cn a ↔ latestRuns s cn a := by
  unfold latestRuns runningInvocation
  rw [h]

theorem recordsFit_congr (h : t.mgmt = s.mgmt) (hl : t.log = s.log) : recordsFit t ↔ recordsFit s := by
  unfold recordsFit
  rw [h, hl]

end

end Sys2Proof.Machine
end

section
/-! The clears of the carrel: ledger_clear and tenant_change (R22, R148, R324, R362). -/

namespace Sys2Proof.Machine

/-- A renewed lease reaches the core alone. -/
theorem renewLease_withMgmt (s : State) (rq : Requester) : ∃ l, renewLease s rq = { s with mgmt.leaseOver := l } :=
  ⟨_, renewLease_eq s rq⟩

/-! ### Zeros in memory -/

section
variable {m : List Host.Cell} {a n b : Nat}

theorem bytesLE_zero (n : Nat) : bytesLE n 0 = List.replicate n 0 := by
  induction n with
  | zero => rfl
  | succ n ih => rw [bytesLE, Nat.zero_div, ih]; rfl

theorem readByte_write_zeros : Memory.readByte (Memory.write m a (List.replicate n 0)) b =
    if a ≤ b ∧ b < a + n then 0 else Memory.readByte m b := by
  induction n generalizing m a with
  | zero => rw [if_neg (by omega)]; rfl
  | succ n ih =>
    rw [List.replicate_succ, Memory.write, ih, readByte_writeByte]
    by_cases h : b = a
    · rw [if_neg (by omega), if_pos h, if_pos (by omega)]
    · by_cases h' : a + 1 ≤ b ∧ b < a + 1 + n
      · rw [if_pos h', if_pos (by omega)]
      · rw [if_neg h', if_neg h, if_neg (by omega)]

theorem numLE_read_zero (h : ∀ b, a ≤ b → b < a + n → Memory.readByte m b = 0) : numLE (Memory.read m a n) = 0 := by
  induction n generalizing a with
  | zero => rfl
  | succ n ih =>
    rw [Memory.read, numLE, h a (by omega) (by omega), ih fun b hb hlt => h b (by omega) (by omega)]
    rfl

end

/-! ### Cells -/

section
variable {s : State} {c : Nat}

/-- The state with another content of the carrel. -/
def withMem (s : State) (m : List Host.Cell) : State := { s with carrel := { s.carrel with mem := m } }

theorem withMem_self : withMem s s.carrel.mem = s := rfl

/-- A cell lies within one row. -/
theorem cellAddr_row : cellAddr s c % 256 + 40 ≤ 256 := by
  unfold cellAddr bankBytes
  dsimp only
  have hr : c / quota s 1 % 6 < 6 := Nat.mod_lt _ (by decide)
  generalize c / quota s 1 / 6 = d
  generalize c / quota s 1 % 6 = r at hr
  generalize quotaFirst s 1 + c % quota s 1 = b
  have hsum : b * 2 ^ 20 + d * 256 + r * 40 = 256 * (b * 2 ^ 12 + d) + r * 40 := by ring
  rw [hsum, Nat.mul_add_mod, Nat.mod_eq_of_lt (by omega)]
  omega

/-- A cell of a living row is zeroed, and nothing else. -/
theorem writeCell_zero (hlive : carrelRow (cellAddr s c) ∉ s.carrel.dead) :
    writeCell s c 0 = withMem s (Memory.write s.carrel.mem (cellAddr s c) (List.replicate 40 0)) := by
  have hrow := cellAddr_row (s := s) (c := c)
  have hpieces : ∀ a, a % 256 + 40 ≤ 256 →
      rowPieces 41 a (List.replicate 40 0) = [(a, List.replicate 40 (0 : Byte))] := fun a ha => by
    have htake : (List.replicate 40 (0 : Byte)).take (256 - a % 256) = List.replicate 40 0 :=
      List.take_of_length_le (by rw [List.length_replicate]; omega)
    have hdrop : (List.replicate 40 (0 : Byte)).drop (256 - a % 256) = [] :=
      List.drop_eq_nil_of_le (by rw [List.length_replicate]; omega)
    rw [rowPieces, if_neg (by decide)]
    dsimp only
    rw [htake, hdrop, rowPieces]
    rfl
  unfold writeCell carrelWrite
  rw [bytesLE_zero, List.length_replicate, hpieces _ hrow, List.foldl_cons, List.foldl_nil]
  unfold carrelWriteRow
  dsimp only
  rw [if_neg (by simpa using hlive), if_neg (by decide)]
  rfl

/-- Cells in turn are zeroed, and no byte outside them. -/
theorem clearCells_zero (cs : List Nat) (hlive : ∀ c ∈ cs, carrelRow (cellAddr s c) ∉ s.carrel.dead) :
    ∃ m, forEach cs (fun s c => writeCell s c 0) s = withMem s m ∧
      (∀ a, Memory.readByte s.carrel.mem a = 0 → Memory.readByte m a = 0) ∧
      (∀ c ∈ cs, ∀ a, cellAddr s c ≤ a → a < cellAddr s c + 40 → Memory.readByte m a = 0) ∧
      ∀ a, (∀ c ∈ cs, a < cellAddr s c ∨ cellAddr s c + 40 ≤ a) → Memory.readByte m a = Memory.readByte s.carrel.mem a := by
  induction cs generalizing s with
  | nil => exact ⟨s.carrel.mem, rfl, fun _ h => h, fun c hc => absurd hc (List.not_mem_nil), fun _ _ => rfl⟩
  | cons c cs ih =>
    rw [forEach_cons, writeCell_zero (hlive c (List.mem_cons_self ..))]
    generalize hm0 : Memory.write s.carrel.mem (cellAddr s c) (List.replicate 40 0) = m0
    have hread : ∀ a, Memory.readByte m0 a =
        if cellAddr s c ≤ a ∧ a < cellAddr s c + 40 then 0 else Memory.readByte s.carrel.mem a := fun a => by
      rw [← hm0]; exact readByte_write_zeros
    obtain ⟨m, he, hkeep, hzero, hout⟩ := ih (s := withMem s m0) fun d hd => hlive d (List.mem_cons_of_mem _ hd)
    refine ⟨m, he, fun a ha => hkeep a ?_, fun d hd a hle hlt => ?_, fun a ha => ?_⟩
    · exact (hread a).trans (by rw [ha, ite_self])
    · rcases List.mem_cons.mp hd with rfl | hd
      · exact hkeep a ((hread a).trans (if_pos ⟨hle, hlt⟩))
      · exact hzero d hd a hle hlt
    · refine (hout a fun d hd => ha d (List.mem_cons_of_mem _ hd)).trans ((hread a).trans (if_neg ?_))
      have := ha c (List.mem_cons_self ..)
      omega

end

/-! ### The commands -/

section
variable {s : State} {rq : Requester} {first n : Nat}

theorem ledgerClearOp_now (hn : n ≠ 0) (hfit : first + n ≤ get s 0x8310_02)
    (hbusy : ∀ c, first ≤ c → c < first + n → cellBusy s c = false) (hwait : cellsAwaited s first n = false) :
    ledgerClearOp first n s = (clearCells s first n, .done stOk 0) := by
  have hany : (upFrom first n).any (cellBusy s) = false := by
    rw [List.any_eq_false]
    intro c hc
    rw [mem_upFrom] at hc
    simp [hbusy c hc.1 hc.2]
  unfold ledgerClearOp
  rw [if_neg (by simp [hn]; omega), if_neg hn, if_neg (by simp [hany, hwait])]

theorem ledgerClearOp_waits (hn : n ≠ 0) (hfit : first + n ≤ get s 0x8310_02)
    (h : (∃ c, first ≤ c ∧ c < first + n ∧ cellBusy s c = true) ∨ cellsAwaited s first n = true) :
    ledgerClearOp first n s = ((innerAccess s (.ledgerClear first n) none [] 16).2, .waits) := by
  have hany : ((upFrom first n).any (cellBusy s) || cellsAwaited s first n) = true := by
    rcases h with ⟨c, hle, hlt, hc⟩ | h
    · rw [List.any_eq_true.mpr ⟨c, mem_upFrom.mpr ⟨hle, hlt⟩, hc⟩]; rfl
    · rw [h, Bool.or_true]
  unfold ledgerClearOp
  rw [if_neg (by simp [hn]; omega), if_neg hn, if_pos hany]

theorem does_ledgerClear (g : Granted s rq 0x8311_00 [first, n]) (hn : n ≠ 0) (hfit : first + n ≤ get s 0x8310_02)
    (hbusy : ∀ c, first ≤ c → c < first + n → cellBusy s c = false) (hwait : cellsAwaited s first n = false)
    (hlive : ∀ c, first ≤ c → c < first + n → carrelRow (cellAddr s c) ∉ s.carrel.dead) :
    Does (exec (.ledgerClear rq first n) s) fun t =>
      (∀ c, first ≤ c → c < first + n → readCell t c = 0) ∧
      (∀ a, (∀ c, first ≤ c → c < first + n → a < cellAddr s c ∨ cellAddr s c + 40 ≤ a) →
        Memory.readByte t.carrel.mem a = Memory.readByte s.carrel.mem a) ∧
      t.carrel = { s.carrel with mem := t.carrel.mem } ∧ Completed s t rq 0x8311_00 0 [] ∧
      t = { s with carrel := t.carrel, cat := t.cat, log := t.log, mgmt := t.mgmt } := by
  obtain ⟨l, hl⟩ := renewLease_withMgmt s rq
  obtain ⟨m, hm, -, hzero, hout⟩ := clearCells_zero (s := { s with mgmt.leaseOver := l }) (upFrom first n)
    fun c hc => hlive c (mem_upFrom.mp hc).1 (mem_upFrom.mp hc).2
  have e : ledgerClearOp first n (renewLease s rq) = (withMem { s with mgmt.leaseOver := l } m, .done stOk 0) := by
    rw [hl, ← hm]
    exact ledgerClearOp_now hn (le_of_le_of_eq hfit (getRow_congr rfl rfl ..)) hbusy hwait
  generalize ht : withMem { s with mgmt.leaseOver := l } m = t at e
  have hmem : t.carrel = { s.carrel with mem := m } := by rw [← ht]; rfl
  have hrest : t = { s with carrel := t.carrel, mgmt := t.mgmt } := by rw [← ht]; rfl
  have haddr : ∀ u : State, u.carrel = t.carrel → ∀ c, cellAddr u c = cellAddr s c := fun u hu c => by
    have hlayout : u.carrel.layout = s.carrel.layout := by rw [hu, hmem]
    simp only [cellAddr, quota, quotaFirst, hlayout]
  have hdone : (doneState s t rq 0x8311_00 stOk 0 [first, n]).carrel = t.carrel := doneState_carrel
  refine does_commandAccess g e ⟨fun c hle hlt => ?_, fun a ha => ?_, ?_, doneState_completed (by decide) ?_ ?_ ?_ ?_, ?_⟩
  · unfold readCell carrelRead
    rw [haddr _ hdone, hdone, hmem]
    exact numLE_read_zero (hzero c (mem_upFrom.mpr ⟨hle, hlt⟩))
  · rw [hdone, hmem]
    exact hout a fun c hc => ha c (mem_upFrom.mp hc).1 (mem_upFrom.mp hc).2
  · rw [hdone, hmem]
  · rw [hrest]
  · rw [hrest]
  · rw [← ht]; rfl
  · exact .of_cat (by rw [hrest]) (by rw [hrest])
  · rw [doneState_eq]
    generalize doneState _ _ _ _ _ _ _ = u
    rw [hrest]

theorem does_ledgerClear_waits (g : Granted s rq 0x8311_00 [first, n]) (hn : n ≠ 0) (hfit : first + n ≤ get s 0x8310_02)
    (h : (∃ c, first ≤ c ∧ c < first + n ∧ cellBusy s c = true) ∨ cellsAwaited s first n = true) :
    Does (exec (.ledgerClear rq first n) s) fun u =>
      u.host.inner = s.host.inner ++ [s.host.nextAccess] ∧
      (∃ x, access? u s.host.nextAccess = some x ∧ x.kind = .ledgerClear first n) ∧
      (∃ v ∈ u.mgmt.running, v.cn = 0x8311_00 ∧ v.arg = clearArg first n ∧ v.latest = true) ∧
      get u 0x8311_00 = cmdValue 1 0 0 ∧ StoreFrame s u [0x8311_00, 0x1110_03] ∧
      u = { s with host := u.host, cat := u.cat, mgmt := u.mgmt } := by
  obtain ⟨l, hl⟩ := renewLease_withMgmt s rq
  generalize ht : (innerAccess { s with mgmt.leaseOver := l } (.ledgerClear first n) none [] 16).2 = t
  have e : ledgerClearOp first n (renewLease s rq) = (t, .waits) := by
    rw [hl, ← ht]
    exact ledgerClearOp_waits hn (le_of_le_of_eq hfit (getRow_congr rfl rfl ..)) h
  have hrest : t = { s with host := t.host, mgmt := t.mgmt } := by rw [← ht]; rfl
  have hinner : t.host.inner = s.host.inner ++ [s.host.nextAccess] := by rw [← ht]; rfl
  have hacc : ∃ x, access? t s.host.nextAccess = some x ∧ x.kind = .ledgerClear first n := by
    rw [← ht]; exact ⟨_, access?_entered _, rfl⟩
  have hframe : StoreFrame s t [] := .of_cat (by rw [hrest]) (by rw [hrest])
  refine does_commandAccess_waits g e ⟨hinner, hacc, mem_runsState, get_runsState (by decide),
    (hframe.mono (by simp)).trans storeFrame_runsState, ?_⟩
  rw [runsState_eq]
  generalize runsState _ _ _ _ _ _ = u
  rw [hrest]

theorem leaves_tenantChange (g : Granted s rq 0x8302_00 [n]) (hn : n < 256) (hb : tenantBusy s = false) :
    Leaves (exec (.tenantChange rq n) s) fun t =>
      t.power = { s.power with clearing := some n } ∧ get t 0x8302_00 = cmdValue 1 0 0 ∧
      (runningInvocation t 0x8302_00 0).isSome = true ∧ StoreFrame s t [0x8302_00, 0x1110_03] ∧
      t = { s with cat := t.cat, mgmt := t.mgmt, power := t.power } := by
  obtain ⟨l, hl⟩ := renewLease_withMgmt s rq
  generalize ht : ({ s with mgmt.leaseOver := l, power.clearing := some n } : State) = t
  have hbusy : tenantBusy { s with mgmt.leaseOver := l } = false := hb
  have e : tenantChangeOp (n % 256) (renewLease s rq) = (t, .waits) := by
    rw [Nat.mod_eq_of_lt hn, hl, ← ht]
    unfold tenantChangeOp
    rw [hbusy]
    rfl
  have hrest : t = { s with power := { s.power with clearing := some n }, mgmt := t.mgmt } := by rw [← ht]
  have hframe : StoreFrame s t [] := .of_cat (by rw [hrest]) (by rw [hrest])
  have hpower : t.power = { s.power with clearing := some n } := by rw [hrest]
  refine leaves_commandAccess_waits g e ⟨hpower, get_runsState (by decide), ?_,
    (hframe.mono (by simp)).trans storeFrame_runsState, ?_⟩
  · obtain ⟨v, hv, hcn, harg, -⟩ := mem_runsState (s := s) (t := t) (rq := rq) (cn := 0x8302_00) (arg := 0) (xs := [n])
    exact List.find?_isSome.mpr ⟨v, hv, by rw [hcn, harg]; rfl⟩
  · rw [runsState_eq]
    generalize runsState _ _ _ _ _ _ = u
    rw [hrest]

/-! ### The end of the tenant's clear -/

/-- The state in which the banks are cleared. -/
def banksCleared (s : State) : State :=
  { s with power.clearing := none, carrel.mem := [], carrel.poison := [], carrel.foreign := [] }

theorem tenantCleared_eq (h : s.power.clearing = some n) :
    tenantCleared s = endInvocation (count32 (set (banksCleared s) 0x8301_00 n) 0x8303_00) 0x8302_00 0 stOk 0 := by
  unfold tenantCleared
  rw [h]
  rfl

theorem does_tenantClearDone (h : s.power.clearing = some n) (hrun : unitsRun s 2 = true) :
    Does (exec .tenantClearDone s) fun u =>
      (∀ a, Memory.readByte u.carrel.mem a = 0) ∧ u.carrel.poison = [] ∧ get u 0x8301_00 = n ∧
      get u 0x8303_00 = (get s 0x8303_00 + 1) % 2 ^ 32 ∧ u.power = { s.power with clearing := none } ∧
      StoreFrame s u [0x8301_00, 0x8303_00, 0x8302_00] ∧
      u = { s with carrel := { s.carrel with mem := [], poison := [], foreign := [] }, cat := u.cat, mgmt := u.mgmt,
                   log := u.log, power := u.power } := by
  have hacts := tenantCleared_eq h
  generalize ht : count32 (set (banksCleared s) 0x8301_00 n) 0x8303_00 = t at hacts
  have hrest : t = { banksCleared s with cat := t.cat } := by rw [← ht]; rfl
  have hcarrel : t.carrel = { s.carrel with mem := [], poison := [], foreign := [] } := by rw [hrest]; rfl
  have hpower : t.power = { s.power with clearing := none } := by rw [hrest]; rfl
  have hget : get (banksCleared s) 0x8303_00 = get s 0x8303_00 := getRow_congr rfl rfl ..
  have htenant : get t 0x8301_00 = n := by
    rw [← ht]; exact (get_set_ne _ _ (by decide)).trans (get_set_same ..)
  have hcount : get t 0x8303_00 = (get s 0x8303_00 + 1) % 2 ^ 32 := by
    rw [← ht, ← hget]
    exact (get_set_same ..).trans (by rw [get_set_ne _ _ (by decide)])
  have hstore : StoreFrame s t [0x8301_00, 0x8303_00] := by
    rw [← ht]
    exact ((StoreFrame.of_cat (t := banksCleared s) rfl rfl).set _ (by simp)).set _ (by simp)
  have hend : EndsAt t 0x8302_00 (endInvocation t 0x8302_00 0 stOk 0) := endsAt_endInvocation
  generalize endInvocation t 0x8302_00 0 stOk 0 = u at hacts hend
  have hu : u.carrel = t.carrel ∧ u.power = t.power := by rw [hend.rest]; exact ⟨rfl, rfl⟩
  refine does_whenRuns hrun hacts ⟨fun a => ?_, ?_, ?_, ?_, ?_, ?_, ?_⟩
  · rw [hu.1, hcarrel]; rfl
  · rw [hu.1, hcarrel]
  · exact (hend.store _ 0 (by decide) (by decide)).trans htenant
  · exact (hend.store _ 0 (by decide) (by decide)).trans hcount
  · rw [hu.2, hpower]
  · exact (hstore.mono (by simp)).trans (hend.store.mono (by simp))
  · rw [hend.rest, hrest]; rfl

end

/-- Settles O35: `does_ledgerClear`, its wait, and the two ends of a tenant's change. -/
theorem carrelIsCleared : Obligations.CarrelIsCleared := by
  unfold Obligations.CarrelIsCleared
  exact ⟨fun s rq first n g hn hfit _ _ hbusy hwait hlive => does_ledgerClear g hn hfit hbusy hwait hlive,
    fun s rq first n g hn hfit _ _ h => does_ledgerClear_waits g hn hfit h,
    fun s rq n g hn hb => leaves_tenantChange g hn hb, fun s n h hrun => does_tenantClearDone h hrun⟩

end Sys2Proof.Machine
end

section
/-! Trays: tray_enable, tray_disable and the end of a drain (R95). -/

namespace Sys2Proof.Machine

section
variable {s : State} {cn st a r : Nat} {p : Nat → Bool} {as : List Nat}

/-! ### Invocations that end without a record -/

theorem returnInvocation_log {v : Invocation} (h : invokeRecorded v.cn st = false) :
    (returnInvocation s v st r).log = s.log := by
  have hshown : (shown s v st r).log = s.log := by rw [shown_eq]
  have he : recordInvoke (shown s v st r) v.cn st v.digest v.rq = shown s v st r := by
    unfold recordInvoke; rw [h]; rfl
  show (if v.msg = 0 then recordInvoke (shown s v st r) v.cn st v.digest v.rq
    else { recordInvoke (shown s v st r) v.cn st v.digest v.rq with
      mgmt.finished := (recordInvoke (shown s v st r) v.cn st v.digest v.rq).mgmt.finished ++ [(v.msg, st, r)] }).log = _
  rw [he]
  split <;> exact hshown

theorem endInvocation_log (h : invokeRecorded cn st = false) : (endInvocation s cn a st r).log = s.log := by
  cases hv : runningInvocation s cn a with
  | none => rw [endInvocation_none hv]
  | some v =>
    obtain ⟨-, hcn, -⟩ := runningInvocation_some hv
    rcases endInvocation_some (st := st) (r := r) hv with e | ⟨e, -⟩
    · rw [e]; exact returnInvocation_log (hcn ▸ h)
    · rw [e]; rfl

theorem endInvocations_log (h : invokeRecorded cn st = false) : (endInvocations s cn p st).log = s.log := by
  rw [endInvocations_eq]
  generalize runningArgs s cn p = as
  induction as generalizing s with
  | nil => rfl
  | cons a as ih => exact ih.trans (endInvocation_log h)

end

/-- A write of a field reaches the store alone. -/
theorem setF_eq (s : State) (cn row hi lo x : Nat) : setF s cn row hi lo x = { s with cat := (setF s cn row hi lo x).cat } :=
  rfl

theorem setF_setF_eq (s : State) (cn row hi lo x y : Nat) : setF (setF s cn row hi lo x) cn row hi lo y =
    { s with cat := (setF (setF s cn row hi lo x) cn row hi lo y).cat } :=
  rfl

/-! ### A tray that begins -/

section
variable {s t : State} {rq : Requester} {n : Nat}

/-- The row of a tray that begins. -/
def trayBegun (stage : Nat) : Nat :=
  setFld (setFld (setFld (setFld (setFld (setFld stage 255 254 1) 163 148 0) 147 140 1) 139 128 0) 127 64 0) 63 0 0

theorem fld_trayBegun (v : Nat) : trState (trayBegun v) = 1 ∧ trNext (trayBegun v) = 0 ∧ trTurn (trayBegun v) = 1 ∧
    fld (trayBegun v) 127 0 = 0 ∧ fld (trayBegun v) 253 164 = fld v 253 164 := by
  unfold trayBegun trState trNext trTurn
  refine ⟨?_, ?_, ?_, ?_, ?_⟩
  · iterate 5 rw [fld_setFld_below _ _ (by decide) (by decide)]
    exact fld_setFld_same _ _ _ _ (by decide)
  · iterate 4 rw [fld_setFld_below _ _ (by decide) (by decide)]
    exact fld_setFld_same _ _ _ _ (by decide)
  · iterate 3 rw [fld_setFld_below _ _ (by decide) (by decide)]
    exact fld_setFld_same _ _ _ _ (by decide)
  · refine Nat.eq_of_testBit_eq fun i => ?_
    rw [testBit_fld, testBit_setFld _ _ _ _ _ (by decide), testBit_setFld _ _ _ _ _ (by decide)]
    by_cases h : i < 128
    · by_cases h' : i < 64 <;> simp [h, h'] <;> omega
    · simp [h]
  · iterate 5 rw [fld_setFld_below _ _ (by decide) (by decide)]
    exact fld_setFld_above _ _ (by decide) (by decide)

/-- The host accesses where the reads of tray `n`'s slots are of an earlier enable. -/
def oldSlotReads (s : State) (n : Nat) : Table Access :=
  s.host.accesses.map fun e => if e.2.kind = .slotRead n then (e.1, { e.2 with kind := .oldSlotRead n }) else e

/-- The state in which tray `n` has begun with row `v`. -/
def trayBegins (s : State) (n v : Nat) : State :=
  setTrayRun (setRow { s with host.accesses := oldSlotReads s n } trayCn n v) n
    { reading := false, returned := none, serial := (trayRun s n).serial }

theorem trayEnable_begins {v : Nat} (hn : n < 64) (hoff : trState (trayRow s n) = 0)
    (hv : trayBegun (get s 0x8101_00) = v) : trayEnable n s = (trayBegins s n v, .done stOk 0) := by
  unfold trayBegun at hv
  unfold trayEnable
  rw [if_neg (by omega), if_neg (by simp [hoff])]
  dsimp only
  rw [hv]
  rfl

theorem trayRow_doneState {cn st r j : Nat} {xs : List Nat} (hj : j < 64) (h : trayCn ≠ cn) :
    trayRow (doneState s t rq cn st r xs) j = trayRow t j :=
  getRow_doneState (by omega) h (by decide)

theorem trayRun_congr (h : t.slips = s.slips) (n : Nat) : trayRun t n = trayRun s n := by
  unfold trayRun; rw [h]

theorem trayRow_renewLease (j : Nat) : trayRow (renewLease s rq) j = trayRow s j :=
  getRow_congr (renewLease_part ..) (renewLease_cat ..) ..

theorem does_trayEnable (g : Granted s rq 0x8102_00 [n]) (hn : n < 64) (hoff : trState (trayRow s n) = 0) :
    Does (exec (.trayEnable rq n) s) fun u =>
      trState (trayRow u n) = 1 ∧ trNext (trayRow u n) = 0 ∧ trTurn (trayRow u n) = 1 ∧
      fld (trayRow u n) 127 0 = 0 ∧ fld (trayRow u n) 253 164 = fld (get s 0x8101_00) 253 164 ∧
      trayRun u n = { reading := false, returned := none, serial := (trayRun s n).serial } ∧
      (∀ j, j < 64 → j ≠ n → trayRow u j = trayRow s j) ∧
      Completed s u rq 0x8102_00 0 [trayCn] ∧
      u = { s with slips.trays := u.slips.trays, host.accesses := u.host.accesses, cat := u.cat, log := u.log,
                   mgmt := u.mgmt } := by
  obtain ⟨v, hv⟩ : ∃ v, trayBegun (get s 0x8101_00) = v := ⟨_, rfl⟩
  obtain ⟨h1, h2, h3, h4, h5⟩ := hv ▸ fld_trayBegun (get s 0x8101_00)
  have hv' : trayBegun (get (renewLease s rq) 0x8101_00) = v := by rw [get_renewLease]; exact hv
  have e := trayEnable_begins (s := renewLease s rq) hn (by rw [trayRow_renewLease]; exact hoff) hv'
  have hrun : trayRun (trayBegins (renewLease s rq) n v) n =
      { reading := false, returned := none, serial := (trayRun s n).serial } := by
    have hserial : (trayRun (renewLease s rq) n).serial = (trayRun s n).serial := by
      rw [trayRun_congr (renewLease_slips s rq)]
    rw [← hserial]
    simp [trayRun, trayBegins, setTrayRun, lookupT_insertT]
  have hrow : ∀ j, trayRow (trayBegins (renewLease s rq) n v) j = if j = n then v else trayRow s j := fun j => by
    rw [← trayRow_renewLease (s := s) (rq := rq)]
    show getRow (setRow { renewLease s rq with host.accesses := oldSlotReads (renewLease s rq) n } trayCn n v) trayCn j = _
    split
    · rename_i h; rw [h]; exact getRow_setRow_same ..
    · rename_i h; exact (getRow_setRow_ne _ _ (by unfold catKey; omega)).trans (getRow_congr rfl rfl ..)
  have hstore : StoreFrame s (trayBegins (renewLease s rq) n v) [trayCn] :=
    (StoreFrame.of_cat (renewLease_part s rq) (renewLease_cat s rq)).trans
      ((StoreFrame.of_cat (t := { renewLease s rq with host.accesses := oldSlotReads (renewLease s rq) n }) rfl rfl).trans
        ((storeFrame_setRow _ (by omega)).trans (.of_cat rfl rfl)))
  have hrest : trayBegins (renewLease s rq) n v =
      { renewLease s rq with
        slips := { s.slips with trays := (trayBegins (renewLease s rq) n v).slips.trays }
        host := { s.host with accesses := (trayBegins (renewLease s rq) n v).host.accesses }
        cat := (trayBegins (renewLease s rq) n v).cat } := by
    rw [← renewLease_slips s rq, ← renewLease_host s rq]; rfl
  generalize trayBegins (renewLease s rq) n v = t at e hrow hrun hstore hrest
  have hm : t.mgmt = { s.mgmt with leaseOver := t.mgmt.leaseOver } := by rw [hrest, renewLease_eq]
  refine does_commandAccess g e ⟨?_, ?_, ?_, ?_, ?_, ?_, fun j hj hne => ?_, ?_, ?_⟩
  · rw [trayRow_doneState hn (by decide), hrow, if_pos rfl]; exact h1
  · rw [trayRow_doneState hn (by decide), hrow, if_pos rfl]; exact h2
  · rw [trayRow_doneState hn (by decide), hrow, if_pos rfl]; exact h3
  · rw [trayRow_doneState hn (by decide), hrow, if_pos rfl]; exact h4
  · rw [trayRow_doneState hn (by decide), hrow, if_pos rfl]; exact h5
  · rw [trayRun_congr doneState_slips]; exact hrun
  · rw [trayRow_doneState hj (by decide), hrow, if_neg hne]
  · exact doneState_completed (by decide) (by rw [hrest]; exact renewLease_time ..) (by rw [hrest]; simp) hm hstore
  · rw [doneState_eq]
    generalize doneState _ _ _ _ _ _ _ = u
    rw [hrest, renewLease_eq]

/-! ### A tray that stops -/

/-- A tray whose slips have all begun aborts none. -/
theorem trayDisable_begun (hn : n < 64) (hon : trState (trayRow s n) ≠ 0) (hbegun : ∀ c ∈ trayCtxs s n, c.reqs ≠ []) :
    trayDisable n s = if trayCtxs s n = [] then (setF (setF s trayCn n 255 254 2) trayCn n 255 254 0, .done stOk 0)
      else (setF s trayCn n 255 254 2, .waits) := by
  have hctxs : trayCtxs (setF s trayCn n 255 254 2) n = trayCtxs s n := by unfold trayCtxs; rw [setF_slips]
  have hnone : (trayCtxs s n).filter (fun c => c.reqs.isEmpty) = [] := by
    rw [List.filter_eq_nil_iff]
    intro c hc
    simpa using hbegun c hc
  unfold trayDisable
  rw [if_neg (by omega), if_neg hon]
  dsimp only
  rw [hctxs, hnone, List.foldl_nil, hctxs]
  simp only [List.isEmpty_iff]

theorem trState_setF (x : Nat) : trState (trayRow (setF s trayCn n 255 254 x) n) = x % 4 := by
  rw [trState, trayRow, getRow_setF_same]; exact fld_setFld_same _ _ _ _ (by decide)

theorem does_trayDisable (g : Granted s rq 0x8103_00 [n]) (hn : n < 64) (hon : trState (trayRow s n) ≠ 0)
    (hbegun : ∀ c ∈ trayCtxs s n, c.reqs ≠ []) :
    Does (exec (.trayDisable rq n) s) fun u =>
      (∀ j, j < 64 → j ≠ n → trayRow u j = trayRow s j) ∧
      (trayCtxs s n = [] → trState (trayRow u n) = 0 ∧ Completed s u rq 0x8103_00 0 [trayCn]) ∧
      (trayCtxs s n ≠ [] → trState (trayRow u n) = 2 ∧ get u 0x8103_00 = cmdValue 1 0 0 ∧
        ∃ v ∈ u.mgmt.running, v.cn = 0x8103_00 ∧ v.arg = n) ∧
      u = { s with cat := u.cat, log := u.log, mgmt := u.mgmt } := by
  have hctxs : trayCtxs (renewLease s rq) n = trayCtxs s n := by unfold trayCtxs; rw [renewLease_slips]
  have hd := trayDisable_begun (s := renewLease s rq) hn (by rw [trayRow_renewLease]; exact hon) (by rwa [hctxs])
  rw [hctxs] at hd
  have hframe : StoreFrame s (renewLease s rq) [trayCn] := (storeFrame_renewLease s rq).mono (by simp)
  have hstop : ∀ t : State, StoreFrame s t [trayCn] → ∀ x, StoreFrame s (setF t trayCn n 255 254 x) [trayCn] := fun t h x =>
    h.trans (storeFrame_setF _ _ _ _ (by omega))
  have hother : ∀ (t : State) x j, j ≠ n → trayRow (setF t trayCn n 255 254 x) j = trayRow t j := fun t x j hj =>
    getRow_setF_ne _ _ _ _ hj
  by_cases hc : trayCtxs s n = []
  · rw [if_pos hc] at hd
    obtain ⟨hcompleted, hrest⟩ := completed_of_cat (s := s) (rq := rq) (cn := 0x8103_00) (r := 0) (xs := [n])
      (t := setF (setF (renewLease s rq) trayCn n 255 254 2) trayCn n 255 254 0) (by decide) (setF_setF_eq ..)
      (hstop _ (hstop _ hframe 2) 0)
    refine does_commandAccess g hd ⟨fun j hj hne => ?_, fun _ => ⟨?_, hcompleted⟩, fun h => absurd hc h, hrest⟩
    · rw [trayRow_doneState hj (by decide), hother _ _ _ hne, hother _ _ _ hne, trayRow_renewLease]
    · rw [trayRow_doneState hn (by decide), trState_setF]
  · rw [if_neg hc] at hd
    refine does_commandAccess_waits g hd ⟨fun j hj hne => ?_, fun h => absurd h hc, fun _ => ⟨?_, get_runsState (by decide), ?_⟩, ?_⟩
    · rw [trayRow, getRow_runsState (by omega) (by decide) (by decide)]
      exact (hother _ _ _ hne).trans (trayRow_renewLease j)
    · rw [trayRow, getRow_runsState (by omega) (by decide) (by decide)]
      exact trState_setF 2
    · obtain ⟨v, hv, hcn, harg, -⟩ := mem_runsState (s := s) (t := setF (renewLease s rq) trayCn n 255 254 2) (rq := rq)
        (cn := 0x8103_00) (arg := n) (xs := [n])
      exact ⟨v, hv, hcn, harg⟩
    · rw [runsState_eq]
      generalize runsState _ _ _ _ _ _ = u
      have hset : setF (renewLease s rq) trayCn n 255 254 2 =
        { renewLease s rq with cat := (setF (renewLease s rq) trayCn n 255 254 2).cat } := setF_eq ..
      rw [hset, renewLease_eq]

theorem does_trayDrainEnd (hrun : unitsRun s 2 = true) (hn : n < 64) (hstop : trState (trayRow s n) = 2)
    (hnone : trayCtxs s n = []) : Does (exec (.trayDrainEnd n) s) fun u =>
      trState (trayRow u n) = 0 ∧ noneRuns u 0x8103_00 n ∧
      (latestRuns s 0x8103_00 n → recordsFit s → get u 0x8103_00 = cmdValue 2 stOk 0) ∧
      StoreFrame s u [trayCn, 0x8103_00] ∧ u = { s with cat := u.cat, mgmt := u.mgmt, log := u.log } := by
  have hacts : trayDrained s n = endInvocations (setF s trayCn n 255 254 0) 0x8103_00 (fun a => a == n) stOk :=
    if_pos (by simp [hstop, hnone])
  have hoff : trState (trayRow (setF s trayCn n 255 254 0) n) = 0 := trState_setF 0
  have hset : StoreFrame s (setF s trayCn n 255 254 0) [trayCn] := storeFrame_setF _ _ _ _ (by omega)
  have hrest : setF s trayCn n 255 254 0 = { s with cat := (setF s trayCn n 255 254 0).cat } := setF_eq ..
  generalize setF s trayCn n 255 254 0 = t at hacts hoff hset hrest
  have hend : EndsAt t 0x8103_00 (endInvocations t 0x8103_00 (fun a => a == n) stOk) := endsAt_endInvocations
  refine does_whenRuns hrun hacts ⟨?_, noneRuns_endInvocations (by simp), fun hl hfit => ?_, ?_, ?_⟩
  · rw [trayRow, hend.store trayCn n (by omega) (by decide)]; exact hoff
  · have hmgmt : t.mgmt = s.mgmt := by rw [hrest]
    have hlog : t.log = s.log := by rw [hrest]
    exact get_endInvocations (latestIn_of_latestRuns ((latestRuns_congr hmgmt _ _).mpr hl) (by simp))
      (.inr ((recordsFit_congr hmgmt hlog).mpr hfit))
  · exact (hset.mono (by simp)).trans (hend.store.mono (by simp))
  · rw [hend.rest, hrest]

theorem does_trayDrainLimit (hheld : held s = false) : Does (exec (.trayDrainLimitExpiry n) s) fun u =>
      noneRuns u 0x8103_00 n ∧
      (latestRuns s 0x8103_00 n → get u 0x8103_00 = cmdValue 2 stTimeout 0) ∧
      StoreFrame s u [0x8103_00] ∧ u = { s with cat := u.cat, mgmt := u.mgmt } := by
  have hend : EndsAt s 0x8103_00 (trayDrainLimit s n) := endsAt_endInvocations
  have hlog : (trayDrainLimit s n).log = s.log := endInvocations_log (by decide)
  have hacts : unlessHeld (fun s => trayDrainLimit s n) s = trayDrainLimit s n := by
    unfold unlessHeld; rw [hheld]; rfl
  refine ⟨_, congrArg (fun t => Host.Outcome.next (settle t)) hacts, noneRuns_endInvocations (by simp), fun hl => ?_,
    hend.store, ?_⟩
  · exact get_endInvocations (latestIn_of_latestRuns hl (by simp)) (.inl (by decide))
  · rw [hend.rest, hlog]

end

/-- Settles O31: each command and each end of a drain. -/
theorem trayCommandsComplete : Obligations.TrayCommandsComplete := by
  unfold Obligations.TrayCommandsComplete
  exact ⟨fun s rq n g hn hoff => does_trayEnable g hn hoff, fun s rq n g hn hon hbegun => does_trayDisable g hn hon hbegun,
    fun s n hrun hn hstop hnone => does_trayDrainEnd hrun hn hstop hnone, fun s n hheld => does_trayDrainLimit hheld⟩

end Sys2Proof.Machine
end

section
/-! Scan-out and the test access port (R304, R305). -/

namespace Sys2Proof.Machine

/-! ### The bits of a chain -/

section
variable {s t : State} {chain : Nat}

/-- `t` has the chains of `s`: it is `s` but for objects of the store that no chain shows. -/
structure SameChains (s t : State) : Prop where
  rest : t = { s with cat := t.cat }
  store : ∀ cn row, 0xC220_00 + 256 ≤ cn → getRow t cn row = getRow s cn row

theorem SameChains.refl (s : State) : SameChains s s := ⟨rfl, fun _ _ _ => rfl⟩

theorem SameChains.trans {u : State} (h : SameChains s t) (g : SameChains t u) : SameChains s u :=
  ⟨by rw [g.rest, h.rest], fun cn row hcn => (g.store cn row hcn).trans (h.store cn row hcn)⟩

theorem chainBit_congr (ho : t.observe = s.observe) (hc : t.carrel = s.carrel) (hl : t.coll = s.coll)
    (hrow : ∀ cn row, 0xC220_00 + 256 ≤ cn → getRow t cn row = getRow s cn row) (i : Nat) :
    chainBit t chain i = chainBit s chain i := by
  have hsnap : ∀ r, getRow t 0xD202_00 r = getRow s 0xD202_00 r := fun r => hrow _ _ (by decide)
  have hstops : get t 0xD000_03 = get s 0xD000_03 := hrow _ _ (by decide)
  have hbyte : ∀ r j, rowByte t r j = rowByte s r j := fun r j => by
    unfold rowByte stagingRow foreignRow quotaFirst quota
    rw [hc]
  have hbank : ∀ b j, bankByte t b j = bankByte s b j := fun b j => by
    unfold bankByte
    simp only [hbyte, hc]
  have hring : ∀ src j, ringByte t src j = ringByte s src j := fun src j => by
    unfold ringByte traceRing
    rw [ho]
  have hchain : ∀ j, chainByte t chain j = chainByte s chain j := fun j => by
    unfold chainByte
    rw [hring, hsnap, hbank, hl]
  unfold chainBit
  rw [hchain, hstops]

theorem chainRead_congr (h : ∀ i, chainBit t chain i = chainBit s chain i) (first n : Nat) :
    chainRead t chain first n = chainRead s chain first n := by
  induction n with
  | zero => rfl
  | succ n ih => rw [chainRead, chainRead, ih, h]

theorem SameChains.bit (h : SameChains s t) (i : Nat) : chainBit t chain i = chainBit s chain i :=
  chainBit_congr (by rw [h.rest]) (by rw [h.rest]) (by rw [h.rest]) h.store i

theorem chainBit_lt (i : Nat) : chainBit s chain i < 2 := by
  unfold chainBit
  split <;> exact Nat.mod_lt _ (by decide)

theorem chainRead_lt (first n : Nat) : chainRead s chain first n < 2 ^ n := by
  induction n with
  | zero => exact Nat.one_pos
  | succ n ih =>
    have hb := chainBit_lt (s := s) (chain := chain) (first + n)
    rw [chainRead, Nat.pow_succ]
    have : chainBit s chain (first + n) * 2 ^ n ≤ 1 * 2 ^ n := Nat.mul_le_mul_right _ (by omega)
    omega

/-! ### scan_read -/

/-- A subindex of scan_data that holds bits of the chain. -/
theorem sameChains_putBits {sub hi lo x : Nat} (h : sub < 256) : SameChains s (setF s (0xC220_00 + sub) 0 hi lo x) :=
  ⟨setF_eq .., fun cn row hcn => getRow_setRow_ne _ _ (by unfold catKey; omega)⟩

theorem getRow_putBits {sub cn hi lo x : Nat} (h : cn < 0xC220_00 + sub) :
    getRow (setF s (0xC220_00 + sub) 0 hi lo x) cn 0 = getRow s cn 0 :=
  getRow_setRow_ne _ _ (by unfold catKey; omega)

/-- The bits that a scan_read leaves in scan_data. -/
theorem putScan_reads (fuel : Nat) {s : State} {first left sub : Nat} (hsub : sub + fuel ≤ 256) :
    SameChains s (putScan s chain first left fuel sub) ∧
      (∀ cn, cn < 0xC220_00 + sub → get (putScan s chain first left fuel sub) cn = get s cn) ∧
      ∀ k, k < fuel → 128 * k < left →
        fld (get (putScan s chain first left fuel sub) (0xC220_00 + (sub + k))) (min (left - 128 * k) 128 - 1) 0 =
          chainRead s chain (first + 128 * k) (min (left - 128 * k) 128) := by
  induction fuel generalizing s first left sub with
  | zero => exact ⟨.refl s, fun _ _ => rfl, fun k hk => absurd hk (Nat.not_lt_zero k)⟩
  | succ fuel ih =>
    unfold putScan
    split
    · rename_i h
      exact ⟨.refl s, fun _ _ => rfl, fun k _ hk => absurd hk (by omega)⟩
    · rename_i hleft
      dsimp only
      generalize hn : min left 128 = n
      have hput : SameChains s (setF s (0xC220_00 + sub) 0 (n - 1) 0 (chainRead s chain first n)) :=
        sameChains_putBits (by omega)
      have hbits : fld (get (setF s (0xC220_00 + sub) 0 (n - 1) 0 (chainRead s chain first n)) (0xC220_00 + sub)) (n - 1) 0 =
          chainRead s chain first n := by
        have hlt := chainRead_lt (s := s) (chain := chain) first n
        rw [show get _ _ = _ from getRow_setF_same .., fld_setFld_same _ _ _ _ (by omega),
          show n - 1 + 1 - 0 = n by omega, Nat.mod_eq_of_lt hlt]
      have hbelow : ∀ cn, cn < 0xC220_00 + sub →
          get (setF s (0xC220_00 + sub) 0 (n - 1) 0 (chainRead s chain first n)) cn = get s cn := fun cn h =>
        getRow_putBits h
      generalize setF s (0xC220_00 + sub) 0 (n - 1) 0 (chainRead s chain first n) = t at hput hbits hbelow
      obtain ⟨hsame, hlow, hread⟩ := ih (s := t) (first := first + n) (left := left - n) (sub := sub + 1) (by omega)
      refine ⟨hput.trans hsame, fun cn h => (hlow cn (by omega)).trans (hbelow cn h), fun k hk hlt => ?_⟩
      cases k with
      | zero =>
        rw [hlow _ (by omega), Nat.mul_zero, Nat.sub_zero, Nat.add_zero, Nat.add_zero, hn]
        exact hbits
      | succ k =>
        have h128 : n = 128 := by omega
        have hr := hread k (by omega) (by omega)
        rw [chainRead_congr hput.bit] at hr
        rw [show sub + (k + 1) = sub + 1 + k by omega, show left - 128 * (k + 1) = left - n - 128 * k by omega,
          show first + 128 * (k + 1) = first + n + 128 * k by omega]
        exact hr

theorem scanReadOp_reads {first : Nat} (hstop : stopped s = true) (hbits : chainBits s chain ≠ 0) (hfirst : first % 8 = 0)
    (hlt : first < chainBits s chain) (hon : chainOff s chain = false) :
    scanReadOp chain first s = (putScan s chain first (min 32768 (chainBits s chain - first)) 256 0,
      .done stOk (min 32768 (chainBits s chain - first))) := by
  unfold scanReadOp
  dsimp only
  rw [if_neg hbits, if_neg (by simp [hstop]), if_neg (by simp [hfirst]; omega), if_neg (by simp [hon])]

end

theorem leaves_scanRead {s : State} {rq : Requester} {chain first n : Nat} (g : Granted s rq 0xC210_00 [chain, first])
    (hstop : stopped s = true) (hbits : chainBits s chain ≠ 0) (hfirst : first % 8 = 0) (hlt : first < chainBits s chain)
    (hon : chainOff s chain = false) (hn : n = min 32768 (chainBits s chain - first)) :
    Leaves (exec (.scanRead rq chain first) s) fun u =>
      get u 0xC210_00 = cmdValue 2 stOk n ∧
      (∀ k, 128 * k < n → fld (get u (0xC220_00 + k)) (min (n - 128 * k) 128 - 1) 0 =
        chainRead s chain (first + 128 * k) (min (n - 128 * k) 128)) := by
  have hpart := renewLease_part s rq
  have hsize : chainBits (renewLease s rq) chain = chainBits s chain := by
    unfold chainBits; rw [getRow_renewLease]
  have hdomain : ∀ d, domainOn (renewLease s rq) d = domainOn s d := fun d => by
    obtain ⟨l, hl⟩ := renewLease_withMgmt s rq
    rw [hl]; rfl
  have hoff : chainOff (renewLease s rq) chain = chainOff s chain := by
    unfold chainOff
    simp only [hdomain]
  have e := scanReadOp_reads (s := renewLease s rq) (chain := chain) (first := first) (by rw [stopped_renewLease]; exact hstop)
    (by rw [hsize]; exact hbits) hfirst (by rw [hsize]; exact hlt) (by rw [hoff]; exact hon)
  rw [hsize, ← hn] at e
  obtain ⟨-, -, hread⟩ := putScan_reads (chain := chain) 256 (s := renewLease s rq) (first := first) (left := n) (sub := 0)
    (by omega)
  have hchain : ∀ i, chainBit (renewLease s rq) chain i = chainBit s chain i :=
    chainBit_congr (renewLease_observe s rq) (renewLease_carrel s rq) (renewLease_coll s rq)
      fun cn row _ => getRow_renewLease s rq cn row
  generalize putScan (renewLease s rq) chain first n 256 0 = t at e hread
  refine leaves_commandAccess g e ⟨get_doneState (by decide), fun k hk => ?_⟩
  rw [get_doneState_other (by omega) (by omega), ← chainRead_congr hchain]
  have := hread k (by omega) hk
  rwa [Nat.zero_add] at this

/-! ### The test access port -/

section
variable {s : State}

theorem nth_map_upFrom {α : Type} (d : α) (f : Nat → α) (n a i : Nat) (h : i < n) :
    nth d i ((upFrom a n).map f) = f (a + i) := by
  induction n generalizing a i with
  | zero => omega
  | succ n ih =>
    cases i with
    | zero => rfl
    | succ i =>
      show nth d i ((upFrom (a + 1) n).map f) = _
      rw [ih (a + 1) i (by omega), show a + 1 + i = a + (i + 1) by omega]

theorem length_upFrom (a n : Nat) : (upFrom a n).length = n := by
  induction n generalizing a with
  | zero => rfl
  | succ n ih => rw [upFrom, List.length_cons, ih]

theorem unlessPor_of (f : State → State) (h : s.power.porLow = false) : unlessPor f s = f s := by
  unfold unlessPor; rw [h]; rfl

/-- The command of a test-port instruction, with power-on reset released. -/
theorem leaves_unlessPor {f : State → State} {P : State → Prop} (h : s.power.porLow = false) (hp : P (f s)) :
    Leaves (.next (unlessPor f s)) P :=
  ⟨_, congrArg Host.Outcome.next (unlessPor_of f h), hp⟩

/-- The state after a pass through the boundary register. -/
theorem boundaryScan_eq (ir b : Nat) : boundaryScan s ir b =
    { s with freeCount := s.freeCount + 1
             observe := { s.observe with
               tapIr := ir, tapBoundary := b % 2 ^ 19
               tapOut := (upFrom 0 19).map (pinLevel { s with freeCount := s.freeCount + 1 } s.freeCount) } } := rfl

/-- In EXTEST an output pin shows its boundary cell where the control cell enables the outputs. -/
theorem outputPin_extest (h : extest s = true) (i : Nat) (own : Bool) : outputPin s i own =
    if s.observe.tapBoundary.testBit 18 then some (s.observe.tapBoundary.testBit i) else none := by
  unfold outputPin
  rw [h]
  rfl

theorem testBit_boundary {b i : Nat} (h : i < 19) : (b % 2 ^ 19).testBit i = b.testBit i := by
  rw [Nat.testBit_mod_two_pow]; simp [h]

end

theorem leaves_extest {s : State} {b : Nat} (hpor : s.power.porLow = false)
    (h : stopped s = true ∨ s.power.blockLow = true) :
    Leaves (exec (.extest b) s) fun u => u.observe.tapIr = 0x00 ∧ u.observe.tapBoundary = b % 2 ^ 19 ∧
      u.observe.tapOut.length = 19 ∧
      markOutPin u = (if b.testBit 18 then some (b.testBit 1) else none) ∧
      txEnPin u = (if b.testBit 18 then some (b.testBit 7) else none) ∧
      txErPin u = (if b.testBit 18 then some (b.testBit 8) else none) ∧
      (∀ i, i < 4 → txdPin u i = if b.testBit 18 then some (b.testBit (3 + i)) else none) ∧
      u = { s with observe := u.observe, freeCount := s.freeCount + 1 } := by
  have hexec : exec (.extest b) s = .next (boundaryScan s 0x00 b) := by
    show (if s.power.porLow then Host.Outcome.next s
      else if stopped s || s.power.blockLow then .next (tapExtest s b) else .fault Fault.extestOutsideStop) = _
    rw [hpor, if_neg Bool.false_ne_true, if_pos (by simpa using h)]
    rfl
  rw [boundaryScan_eq] at hexec
  refine ⟨_, hexec, rfl, rfl, by simp [length_upFrom], ?_, ?_, ?_, fun i hi => ?_, rfl⟩
  all_goals
    refine (outputPin_extest ?_ _ _).trans ?_
    · have : (stopped s || s.power.blockLow) = true := by simpa using h
      exact this
    · show (if (b % 2 ^ 19).testBit 18 then some ((b % 2 ^ 19).testBit _) else none) = _
      rw [testBit_boundary (by decide), testBit_boundary (by omega)]

theorem leaves_samplePreload {s : State} {v : Nat} (hpor : s.power.porLow = false) :
    Leaves (exec (.samplePreload v) s) fun u => u.observe.tapIr = 0x02 ∧ u.observe.tapBoundary = v % 2 ^ 19 ∧
      u.observe.tapOut.length = 19 ∧ (extest s = false → nth 0 1 u.observe.tapOut = b2n s.time.markOut) ∧
      (∀ i, i < 4 → nth 0 (10 + i) u.observe.tapOut = s.mgmt.mii.rxd / 2 ^ i % 2) ∧
      u = { s with observe := u.observe, freeCount := s.freeCount + 1 } := by
  refine leaves_unlessPor hpor ?_
  unfold tapSample
  rw [boundaryScan_eq]
  refine ⟨rfl, rfl, by simp [length_upFrom], fun h => ?_, fun i hi => ?_, rfl⟩
  · refine (nth_map_upFrom 0 _ 19 0 1 (by decide)).trans ?_
    have hpin : markOutPin { s with freeCount := s.freeCount + 1 } = some s.time.markOut := by
      have h' : extest { s with freeCount := s.freeCount + 1 } = false := h
      unfold markOutPin outputPin
      rw [h']
      rfl
    show ((markOutPin { s with freeCount := s.freeCount + 1 }).map b2n).getD _ = _
    rw [hpin]
    rfl
  · refine (nth_map_upFrom 0 _ 19 0 (10 + i) (by omega)).trans ?_
    unfold pinLevel
    dsimp only
    rw [if_neg (by omega), if_neg (by omega), if_neg (by simp; omega), if_neg (by omega), if_neg (by omega),
      if_neg (by omega), if_pos (by simp; omega), show 0 + (10 + i) - 10 = i by omega]

/-- Settles O53: `leaves_scanRead`, and each test-port instruction by the state that it leaves. -/
theorem scanAndTestPortAct : Obligations.ScanAndTestPortAct := by
  unfold Obligations.ScanAndTestPortAct
  refine ⟨fun s rq chain first n g hstop hbits hfirst hlt hon hn => leaves_scanRead g hstop hbits hfirst hlt hon hn,
    fun s b hpor h => leaves_extest hpor h, fun s b hpor hstop hblock => ?_, fun s hpor => ?_,
    fun s v hpor => leaves_samplePreload hpor, fun s chain hpor hstop => ?_, fun s n size hpor hstop hsize hne => ?_,
    fun s tdi hpor => ?_, fun s op => rfl⟩
  · show (if s.power.porLow then Host.Outcome.next s
      else if stopped s || s.power.blockLow then .next (tapExtest s b) else .fault Fault.extestOutsideStop) = _
    rw [hpor, hstop, hblock]
    rfl
  · refine leaves_unlessPor hpor ⟨rfl, by simp [tapIdcode, bitsOf, length_upFrom], fun i hi => ?_, rfl⟩
    refine (nth_map_upFrom 0 (fun i => (2 ^ 28 + partCode s.part * 2 ^ 12 + 0x7AB) / 2 ^ i % 2) 32 0 i hi).trans ?_
    rw [Nat.zero_add]
  · refine leaves_unlessPor hpor ?_
    unfold tapSelect
    rw [hstop]
    rfl
  · subst hsize
    have hscan : tapScan s n = { s with observe := { s.observe with
        tapIr := 0x11
        tapOut := (upFrom 0 n).map
          (fun i => chainBit s s.observe.tapChain ((s.observe.tapPos + i) % chainBits s s.observe.tapChain))
        tapPos := (s.observe.tapPos + n) % chainBits s s.observe.tapChain } } := by
      unfold tapScan
      dsimp only
      rw [if_neg (by simp [hstop, hne])]
    refine leaves_unlessPor hpor ?_
    rw [hscan]
    refine ⟨rfl, rfl, by simp [length_upFrom], fun i hi => ?_, rfl⟩
    refine (nth_map_upFrom 0 _ n 0 i hi).trans ?_
    rw [Nat.zero_add]
  · exact leaves_unlessPor hpor (by unfold tapBypass; cases tdi <;> rfl)

end Sys2Proof.Machine
end

section
/-! On-demand counters, snapshots, the trace and the global stop (R292 to R301). -/

namespace Sys2Proof.Machine

section
variable {s t : State} {rq : Requester}

/-! ### Counters cleared -/

theorem mem_setBits {n lo v i : Nat} : i ∈ setBits n lo v ↔ lo ≤ i ∧ i < lo + n ∧ bit v i = true := by
  induction n generalizing lo with
  | zero => simp only [setBits, List.not_mem_nil, false_iff]; omega
  | succ n ih =>
    rw [setBits, List.mem_append, ih]
    constructor
    · rintro (h | h)
      · split at h
        · rw [List.mem_singleton] at h
          subst h
          exact ⟨by omega, by omega, ‹_›⟩
        · cases h
      · exact ⟨by omega, by omega, h.2.2⟩
    · rintro ⟨h1, h2, h3⟩
      by_cases h : i = lo
      · subst h; rw [h3]; simp
      · exact .inr ⟨by omega, by omega, h3⟩

/-- Objects cleared in turn, at `base` and above. -/
theorem forEach_clear (base : Nat) (is : List Nat) {s : State} (hb : ∀ i ∈ is, i < 16) :
    forEach is (fun s i => set s (base + i) 0) s = { s with cat := (forEach is (fun s i => set s (base + i) 0) s).cat } ∧
      (∀ i, get (forEach is (fun s i => set s (base + i) 0) s) (base + i) = if i ∈ is then 0 else get s (base + i)) ∧
      StoreFrame s (forEach is (fun s i => set s (base + i) 0) s) ((upFrom 0 16).map (base + ·)) := by
  induction is generalizing s with
  | nil => exact ⟨rfl, fun i => by simp [forEach], .refl _⟩
  | cons j is ih =>
    rw [forEach_cons]
    have hset : set s (base + j) 0 = { s with cat := (set s (base + j) 0).cat } := set_eq ..
    have hget : ∀ i, get (set s (base + j) 0) (base + i) = if i = j then 0 else get s (base + i) := fun i => by
      split
      · rename_i h; rw [h]; exact get_set_same ..
      · rename_i h; exact get_set_ne _ _ (by omega)
    have hframe : StoreFrame s (set s (base + j) 0) ((upFrom 0 16).map (base + ·)) := (StoreFrame.refl _).set _
      (List.mem_map_of_mem (mem_upFrom.mpr ⟨by omega, by have := hb j (List.mem_cons_self ..); omega⟩))
    generalize set s (base + j) 0 = t at hset hget hframe
    obtain ⟨he, hg, hf⟩ := ih (s := t) fun i hi => hb i (List.mem_cons_of_mem _ hi)
    refine ⟨by rw [he, hset], fun i => ?_, hframe.trans hf⟩
    rw [hg, hget]
    by_cases h1 : i ∈ is <;> by_cases h2 : i = j <;> simp [h1, h2]

theorem leaves_odcClear {mask : Nat} (g : Granted s rq 0xD102_00 [mask]) (hm : mask < 2 ^ 16) :
    Leaves (exec (.odcClear rq mask) s) fun u =>
      (∀ i, i < 16 → get u (0xD101_01 + i) = if bit mask i then 0 else get s (0xD101_01 + i)) ∧
      Completed s u rq 0xD102_00 0 ((upFrom 0 16).map (0xD101_01 + ·)) ∧
      u = { s with cat := u.cat, log := u.log, mgmt := u.mgmt } := by
  obtain ⟨he, hg, hf⟩ := forEach_clear 0xD101_01 (setBits 16 0 mask) (s := renewLease s rq) fun i hi => by
    have := mem_setBits.mp hi; omega
  have e : odcClearOp (mask % 2 ^ 16) (renewLease s rq) =
      (forEach (setBits 16 0 mask) (fun s i => set s (0xD101_01 + i) 0) (renewLease s rq), .done stOk 0) := by
    rw [Nat.mod_eq_of_lt hm]; rfl
  generalize forEach (setBits 16 0 mask) (fun s i => set s (0xD101_01 + i) 0) (renewLease s rq) = t at he hg hf e
  obtain ⟨hcompleted, hrest⟩ := completed_of_cat (r := 0) (xs := [mask]) (cn := 0xD102_00) (by decide) he
    ((StoreFrame.of_cat (renewLease_part s rq) (renewLease_cat s rq)).trans hf)
  refine leaves_commandAccess g e ⟨fun i hi => ?_, hcompleted, hrest⟩
  rw [get_doneState_other (by omega) (by omega), hg, get_renewLease]
  have hiff : i ∈ setBits 16 0 mask ↔ bit mask i = true := by
    rw [mem_setBits]
    exact ⟨fun h => h.2.2, fun h => ⟨Nat.zero_le _, by omega, h⟩⟩
  by_cases hb : bit mask i = true
  · rw [if_pos (hiff.mpr hb), if_pos hb]
  · rw [if_neg fun h => hb (hiff.mp h), if_neg hb]

/-! ### Snapshots -/

theorem domainOn_renewLease (d : Nat) : domainOn (renewLease s rq) d = domainOn s d := by
  obtain ⟨l, hl⟩ := renewLease_withMgmt s rq
  rw [hl]; rfl

theorem now_renewLease : now (renewLease s rq) = now s := by
  obtain ⟨l, hl⟩ := renewLease_withMgmt s rq
  rw [hl]; rfl

/-- The time at which a snapshot of time `t` is taken. -/
theorem snapshotTakeOp_waits {mask n at0 : Nat} (hon : domainOn s 24 = true)
    (ht : n = 0 ∧ at0 = (now s + 512000) % 2 ^ 64 ∨
      n ≠ 0 ∧ newer 64 n (now s) = true ∧ subMod 64 n (now s) ≤ 256_000_000_000 ∧ at0 = n) :
    snapshotTakeOp mask n s =
      (set { s with observe.snapshot := some (mask, at0) } 0xD201_00 (snapshotInfo at0 0 1), .waits) := by
  unfold snapshotTakeOp
  rw [if_neg (by simp [hon])]
  rcases ht with ⟨h0, hat⟩ | ⟨hne, hnew, hle, hat⟩
  · rw [if_neg (by simp [h0])]
    dsimp only
    rw [if_pos (by simp [h0]), hat]
  · rw [if_neg (by simp [hnew, hne]; omega)]
    dsimp only
    rw [if_neg (by simp [hne, hnew]), hat]

theorem does_snapshotTake {mask n at0 : Nat} (g : Granted s rq 0xD200_00 [mask, n]) (hon : domainOn s 24 = true)
    (ht : n = 0 ∧ at0 = (now s + 512000) % 2 ^ 64 ∨
      n ≠ 0 ∧ newer 64 n (now s) = true ∧ subMod 64 n (now s) ≤ 256_000_000_000 ∧ at0 = n) :
    Does (exec (.snapshotTake rq mask n) s) fun u =>
      u.observe.snapshot = some (mask, at0) ∧ get u 0xD201_00 = snapshotInfo at0 0 1 ∧
      get u 0xD200_00 = cmdValue 1 0 0 ∧ ∃ v ∈ u.mgmt.running, v.cn = 0xD200_00 := by
  have e := snapshotTakeOp_waits (s := renewLease s rq) (mask := mask) (n := n) (at0 := at0)
    (by rw [domainOn_renewLease]; exact hon) (by rw [now_renewLease]; exact ht)
  generalize hv : set { renewLease s rq with observe.snapshot := some (mask, at0) } 0xD201_00 (snapshotInfo at0 0 1) = t at e
  have hsnap : t.observe.snapshot = some (mask, at0) := by rw [← hv]; rfl
  have hget : get t 0xD201_00 = snapshotInfo at0 0 1 := by rw [← hv]; exact get_set_same ..
  refine does_commandAccess_waits g e ⟨hsnap, ?_, get_runsState (by decide), ?_⟩
  · exact (getRow_runsState (by decide) (by decide) (by decide)).trans hget
  · obtain ⟨v, hv, hcn, -⟩ := mem_runsState (s := s) (t := t) (rq := rq) (cn := 0xD200_00) (arg := 0) (xs := [mask, n])
    exact ⟨v, hv, hcn⟩

/-- Rows filled from row `r` up. -/
theorem fillRows_rows (cn : Nat) (vs : List Nat) {s : State} {r : Nat} (h : r + vs.length ≤ 2 ^ 32) :
    fillRows s cn r vs = { s with cat := (fillRows s cn r vs).cat } ∧
      (∀ j, j < vs.length → getRow (fillRows s cn r vs) cn (r + j) = nth 0 j vs) ∧
      (∀ j, j < 2 ^ 32 → (j < r ∨ r + vs.length ≤ j) → getRow (fillRows s cn r vs) cn j = getRow s cn j) := by
  induction vs generalizing s r with
  | nil => exact ⟨rfl, fun j hj => absurd hj (Nat.not_lt_zero j), fun _ _ _ => rfl⟩
  | cons v vs ih =>
    rw [List.length_cons] at h
    rw [fillRows]
    have hset : setRow s cn r v = { s with cat := (setRow s cn r v).cat } := rfl
    have hsame : getRow (setRow s cn r v) cn r = v := getRow_setRow_same ..
    have hother : ∀ j, j ≠ r → getRow (setRow s cn r v) cn j = getRow s cn j := fun j hj =>
      getRow_setRow_ne _ _ (by unfold catKey; omega)
    generalize setRow s cn r v = t at hset hsame hother
    obtain ⟨he, hin, hout⟩ := ih (s := t) (r := r + 1) (by omega)
    refine ⟨by rw [he, hset], fun j hj => ?_, fun j hlt hj => ?_⟩
    · cases j with
      | zero => exact (hout r (by omega) (by omega)).trans hsame
      | succ j =>
        rw [List.length_cons] at hj
        rw [show r + (j + 1) = r + 1 + j by omega, hin j (by omega)]
        rfl
    · rw [List.length_cons] at hj
      rw [hout j hlt (by omega), hother j (by omega)]

/-- The state without a snapshot and without the rows of one. -/
def snapshotGone (s : State) (cn : Nat) : State :=
  { s with observe.snapshot := none, cat := s.cat.filter (fun e => e.1 / 2 ^ 32 != cn) }

theorem getRow_snapshotGone (cn r : Nat) (hr : r < 2 ^ 32) : getRow (snapshotGone s cn) cn r = defaultOf s.part cn r := by
  have hnone : lookupT (s.cat.filter fun e => e.1 / 2 ^ 32 != cn) (catKey cn r) = none := by
    refine lookupT_eq_none_of_notMem fun h => ?_
    unfold keysT at h
    rw [List.mem_map] at h
    obtain ⟨e, he, hk⟩ := h
    rw [List.mem_filter] at he
    have : e.1 / 2 ^ 32 = cn := by rw [hk]; unfold catKey; omega
    exact absurd he.2 (by rw [this]; simp)
  unfold getRow snapshotGone
  rw [hnone]
  rfl

theorem snapshotTaken_eq {mask n : Nat} (h : s.observe.snapshot = some (mask, n)) :
    snapshotTaken s = endInvocations
      (set (fillRows (snapshotGone s 0xD202_00) 0xD202_00 0 (snapshotRows s mask)) 0xD201_00
        (snapshotInfo n (snapshotRows s mask).length 2)) 0xD200_00 (fun _ => true) stOk := by
  unfold snapshotTaken
  rw [h]
  rfl

theorem does_snapshotTimeReached {mask n : Nat} (hrun : unitsRun s 24 = true) (h : s.observe.snapshot = some (mask, n)) :
    Does (exec .snapshotTimeReached s) fun u =>
      u.observe.snapshot = none ∧ get u 0xD201_00 = snapshotInfo n (snapshotRows s mask).length 2 ∧
      (∀ r, r < (snapshotRows s mask).length → getRow u 0xD202_00 r = nth 0 r (snapshotRows s mask)) ∧
      (∀ r, (snapshotRows s mask).length ≤ r → r < 2 ^ 32 → getRow u 0xD202_00 r = defaultOf s.part 0xD202_00 r) ∧
      (∀ v ∈ u.mgmt.running, v.cn ≠ 0xD200_00) ∧
      ((∃ v ∈ s.mgmt.running, v.cn = 0xD200_00 ∧ v.latest = true) → recordsFit s → get u 0xD200_00 = cmdValue 2 stOk 0) := by
  have hacts := snapshotTaken_eq h
  have hlen : (snapshotRows s mask).length ≤ 32768 := List.length_take_le ..
  generalize snapshotRows s mask = vs at hacts hlen ⊢
  have hgone : (snapshotGone s 0xD202_00).observe.snapshot = none := rfl
  have hdefault : ∀ r, r < 2 ^ 32 → getRow (snapshotGone s 0xD202_00) 0xD202_00 r = defaultOf s.part 0xD202_00 r :=
    fun r hr => getRow_snapshotGone 0xD202_00 r hr
  have hmgmt : (snapshotGone s 0xD202_00).mgmt = s.mgmt ∧ (snapshotGone s 0xD202_00).log = s.log := ⟨rfl, rfl⟩
  generalize snapshotGone s 0xD202_00 = a at hacts hgone hdefault hmgmt
  obtain ⟨hrest, hin, hout⟩ := fillRows_rows 0xD202_00 vs (s := a) (r := 0) (by omega)
  generalize fillRows a 0xD202_00 0 vs = b at hacts hrest hin hout
  generalize hc : set b 0xD201_00 (snapshotInfo n vs.length 2) = c at hacts
  have hcrest : c = { b with cat := c.cat } := by rw [← hc]; exact set_eq ..
  have hinfo : get c 0xD201_00 = snapshotInfo n vs.length 2 := by rw [← hc]; exact get_set_same ..
  have hrow : ∀ r, r < 2 ^ 32 → getRow c 0xD202_00 r = getRow b 0xD202_00 r := fun r hr => by
    rw [← hc]; exact getRow_set_ne _ _ hr (by decide)
  have hend : EndsAt c 0xD200_00 (endInvocations c 0xD200_00 (fun _ => true) stOk) := endsAt_endInvocations
  have hrow' : ∀ r, r < 2 ^ 32 →
      getRow (endInvocations c 0xD200_00 (fun _ => true) stOk) 0xD202_00 r = getRow b 0xD202_00 r := fun r hr =>
    (hend.store _ r hr (by decide)).trans (hrow r hr)
  refine does_whenRuns hrun hacts ⟨?_, ?_, fun r hr => ?_, fun r hle hr => ?_, fun v hv hcn => ?_, fun hl _ => ?_⟩
  · rw [hend.rest, hcrest, hrest]; exact hgone
  · exact (hend.store _ 0 (by decide) (by decide)).trans hinfo
  · rw [hrow' r (by omega)]
    have := hin r hr
    rwa [Nat.zero_add] at this
  · rw [hrow' r hr, hout r hr (by omega)]
    exact hdefault r hr
  · exact absurd (none_endInvocations hv hcn) (by decide)
  · obtain ⟨v, hv, hcn, hlate⟩ := hl
    have hcm : c.mgmt = s.mgmt := by rw [hcrest, hrest]; exact hmgmt.1
    exact get_endInvocations ⟨v, by rw [hcm]; exact hv, hcn, rfl, hlate⟩ (.inl (by decide))

/-! ### The trace -/

/-- The state in which the trace's line has been emptied and counted. -/
def lineCounted (s : State) (cn : Nat) : State := count { s with observe.line := [] } cn 64 s.observe.line.length

theorem get_lineCounted {c cn : Nat} (h : c ≠ cn) : get (lineCounted s cn) c = get s c :=
  (get_set_ne _ _ h).trans (getRow_congr rfl rfl ..)

/-- Where a memory-side port is found: the segment's row, the ports that a partition may use, and the domains. -/
theorem mspPort_congr {n segment : Nat} (hrow : getRow t 0x8001_00 segment = getRow s 0x8001_00 segment)
    (hmask : n < 16 → get t (0xA100_01 + n) = get s (0xA100_01 + n)) (hdom : get t 0xE000_02 = get s 0xE000_02) (off : Nat) :
    mspPort t n segment off = mspPort s n segment off := by
  have hon : ∀ d, domainOn t d = domainOn s d := fun d => by unfold domainOn; rw [hdom]
  have hpowered : poweredPorts t = poweredPorts s := by unfold poweredPorts; simp only [hon]
  have hports : (if n < 16 then get t (0xA100_01 + n) else poweredPorts t) =
      if n < 16 then get s (0xA100_01 + n) else poweredPorts s := by
    split
    · exact hmask ‹_›
    · exact hpowered
  unfold mspPort
  simp only [hrow, hports, hon]

theorem traceWriteLine_eq (h : s.observe.line ≠ []) :
    traceWriteLine s = (hostAccess (lineCounted s 0xC000_04) .trace none 1 (fld (traceCfg s) 119 108)
      (fld (traceCfg s) 107 100) (fld (traceCfg s) 99 64 * 64 + tracePlaced s % traceSize s * 16)
      (16 * s.observe.line.length) (s.observe.line.flatMap (bytesLE 16)) false [] 16).2 := by
  have hsize : traceSize (lineCounted s 0xC000_04) = traceSize s := by
    have : traceCfg (lineCounted s 0xC000_04) = traceCfg s := get_lineCounted (by decide)
    unfold traceSize
    rw [this]
  unfold traceWriteLine
  rw [if_neg (by simpa using h)]
  dsimp only
  change (hostAccess (lineCounted s 0xC000_04) .trace none 1 _ _
    (fld (traceCfg s) 99 64 * 64 + tracePlaced s % traceSize (lineCounted s 0xC000_04) * 16) _ _ _ _ _).2 = _
  rw [hsize]

theorem length_flatMap_bytesLE (n : Nat) (xs : List Nat) : (xs.flatMap (bytesLE n)).length = n * xs.length := by
  induction xs with
  | nil => rfl
  | cons x xs ih => rw [List.flatMap_cons, List.length_append, length_bytesLE, ih, List.length_cons, Nat.mul_succ, Nat.add_comm]

theorem does_traceLineFlush {m off : Nat} (hrun : unitsRun s 24 = true) (hline : s.observe.line ≠ [])
    (hoff : off = fld (traceCfg s) 99 64 * 64 + tracePlaced s % traceSize s * 16)
    (hfit : off % 4096 + 16 * s.observe.line.length ≤ 4096) (hm : mspPort s 16 (fld (traceCfg s) 107 100) off = some m)
    (hl : noLocksAt s m) : Does (exec .traceLineFlush s) fun u =>
      u.observe.line = [] ∧ get u 0xC000_04 = (get s 0xC000_04 + s.observe.line.length) % 2 ^ 64 ∧
      mspQueue u m = mspQueue s m ++
        [{ op := 1, poison := false, context := fld (traceCfg s) 119 108, segment := fld (traceCfg s) 107 100,
           offset := off, length := 16 * s.observe.line.length, data := s.observe.line.flatMap (bytesLE 16),
           enabled := true, access := s.host.nextAccess, piece := 0, waited := false }] ∧
      StoreFrame s u [0xC000_04] ∧ u = { s with cat := u.cat, host := u.host, observe.line := [] } := by
  have hacts := traceWriteLine_eq hline
  rw [← hoff] at hacts
  generalize ht : lineCounted s 0xC000_04 = t at hacts
  have hhost : t.host = s.host := by rw [← ht]; rfl
  have hrest : t = { s with cat := t.cat, observe.line := [] } := by rw [← ht]; rfl
  have hget : get t 0xC000_04 = (get s 0xC000_04 + s.observe.line.length) % 2 ^ 64 := by
    rw [← ht]; exact get_set_same ..
  have hstore : StoreFrame s t [0xC000_04] := by
    rw [← ht]
    exact (StoreFrame.of_cat (t := { s with observe.line := [] }) rfl rfl).set _ (by simp)
  have hport : mspPort t 16 (fld (traceCfg s) 107 100) off = some m := by
    rw [← hm]
    have hseg : fld (traceCfg s) 107 100 < 2 ^ 32 := lt_of_lt_of_le (Nat.mod_lt _ (by decide)) (by decide)
    exact mspPort_congr (hstore _ _ hseg (by decide)) (fun h => absurd h (by decide)) (hstore _ 0 (by decide) (by decide)) _
  have hlocks : noLocksAt t m := by unfold noLocksAt; rw [hhost]; exact hl
  have hpos : 0 < 16 * s.observe.line.length := by
    have := List.length_pos_of_ne_nil hline; omega
  have hp := presented_hostAccess (kind := .trace) (pair := none) (op := 1) (context := fld (traceCfg s) 119 108)
    (data := s.observe.line.flatMap (bytesLE 16)) (poison := false) (uses := []) (by decide) hpos hfit hport hlocks
  rw [List.take_of_length_le (by rw [length_flatMap_bytesLE]), hhost] at hp
  generalize (hostAccess t .trace none 1 (fld (traceCfg s) 119 108) (fld (traceCfg s) 107 100) off
    (16 * s.observe.line.length) (s.observe.line.flatMap (bytesLE 16)) false [] 16).2 = u at hacts hp
  have hcat : u.cat = t.cat ∧ u.part = t.part := by rw [hp.rest]; exact ⟨rfl, rfl⟩
  have hqueue : mspQueue t m = mspQueue s m := by unfold mspQueue; rw [hhost]
  refine does_whenRuns hrun hacts ⟨?_, ?_, ?_, ?_, ?_⟩
  · rw [hp.rest, hrest]
  · rw [← hget]; exact getRow_congr hcat.2 hcat.1 ..
  · rw [hp.queue, hqueue]
  · exact hstore.trans (.of_cat hcat.2 hcat.1)
  · rw [hp.rest, hrest]

/-- A record that does not fill the line joins it. -/
theorem tracePlace_more {r : Nat} (h : (tracePlaced t + t.observe.line.length + 1) % 4 ≠ 0) : tracePlace t r =
    { t with observe.line := t.observe.line ++ [r], observe.bucket := t.observe.bucket - traceCost } := by
  unfold tracePlace
  dsimp only
  refine if_neg ?_
  rw [List.length_append, ← Nat.add_assoc]
  exact h

theorem traceLoss_none {i : Nat} (h : lookupT t.observe.lost i = none) : traceLoss t i = t := by
  unfold traceLoss; rw [h]

/-- The state in which the first record of ring `i` has been taken, `rs` left. -/
def ringTaken (s : State) (i : Nat) (rs : List Nat) : State :=
  setTraceRing { s with
    observe.lastSource := i
    observe.drained := insertT s.observe.drained i ((lookupT s.observe.drained i).getD 0 + 1) } i rs

/-- The trace takes a record from a ring whose losses are told. -/
theorem traceDrainOne_takes {i r : Nat} {rs : List Nat} (hrun : unitsRun s 24 = true) (hpath : tracePath s = 1)
    (hplaces : tracePlaces s = true) (hturn : traceTurn s = some i) (hring : traceRing s i = r :: rs)
    (hlost : lookupT s.observe.lost i = none) (hmod : (tracePlaced s + s.observe.line.length + 1) % 4 ≠ 0) :
    traceDrainOne s = { ringTaken s i rs with
      observe.line := s.observe.line ++ [r], observe.bucket := s.observe.bucket - traceCost } := by
  have hc : (tracePath s = 1 && !stopped s && domainOn s 24 && tracePlaces s) = true := by
    unfold unitsRun at hrun
    simp only [Bool.and_eq_true] at hrun
    obtain ⟨⟨⟨-, hstop⟩, -⟩, hdom⟩ := hrun
    simp [hpath, hplaces, hdom]
    simpa using hstop
  unfold traceDrainOne
  rw [if_pos hc, hturn]
  dsimp only
  rw [hring]
  dsimp only
  have hplace : tracePlace (ringTaken s i rs) r = { ringTaken s i rs with
      observe.line := s.observe.line ++ [r], observe.bucket := s.observe.bucket - traceCost } := by
    refine tracePlace_more ?_
    have hplaced : tracePlaced (ringTaken s i rs) = tracePlaced s := getRow_congr rfl rfl ..
    have hline : (ringTaken s i rs).observe.line = s.observe.line := rfl
    rw [hplaced, hline]
    exact hmod
  exact (congrArg (traceLoss · i) hplace).trans (traceLoss_none hlost)

/-! ### The global stop -/

/-- What a stop does beyond its own object and the light of its class. -/
def stopTold (a : State) (mark : Bool) (cause island : Nat) : State :=
  reportOwn (dropFormed (writeError { a with time.markOut := mark } island (0x7000 + cause))) 0x26 15 cause

theorem get_reportOwn {cn : Nat} (h : cn ∉ sendCns) (cause port detail : Nat) :
    get (reportOwn s cause port detail) cn = get s cn :=
  (sends_report _ _ _ _ _).store cn 0 (by decide) h

theorem get_dropFormed (cn : Nat) : get (dropFormed s) cn = get s cn := getRow_congr rfl rfl ..

theorem get_writeError {cn : Nat} (h : cn ∉ [0xA000_00, 0xA000_01, 0xF004_00]) (island code : Nat) :
    get (writeError s island code) cn = get s cn :=
  writeError_store island code cn 0 (by decide) h

theorem get_markOut (m : Bool) (cn : Nat) : get { s with time.markOut := m } cn = get s cn := getRow_congr rfl rfl ..

theorem get_light_ne {c cn n : Nat} (h : c ≠ cn) : get (light s cn n) c = get s c := get_set_ne _ _ h

theorem get_stopTold {mark : Bool} {cause island cn : Nat} (h : cn ∉ sendCns)
    (h' : cn ∉ [0xA000_00, 0xA000_01, 0xF004_00]) : get (stopTold s mark cause island) cn = get s cn := by
  unfold stopTold
  rw [get_reportOwn h, get_dropFormed, get_writeError h', get_markOut]

theorem triggerStop_eq {cause island v : Nat} (h : stopped s = false) (hv : 1 + cause * 256 + stamp s island * 2 ^ 128 = v) :
    ∃ mark, triggerStop s cause island = stopTold (light (set s 0xC200_02 v) 0xD000_03 32) mark cause island := by
  unfold triggerStop
  rw [h, if_neg Bool.false_ne_true, hv]
  exact ⟨_, rfl⟩

/-- What a stop leaves of its own object. -/
theorem get_triggerStop {cause island : Nat} (h : stopped s = false) :
    get (triggerStop s cause island) 0xC200_02 = 1 + cause * 256 + stamp s island * 2 ^ 128 := by
  obtain ⟨mark, e⟩ := triggerStop_eq (cause := cause) (island := island) h rfl
  rw [e, get_stopTold (by decide) (by decide), get_light_ne (by decide), get_set_same]

theorem does_globalStop (g : Granted s rq 0xC200_00 []) (h : stopped s = false) :
    Does (exec (.globalStop rq) s) fun u =>
      stopped u = true ∧ fld (get u 0xC200_02) 15 8 = 1 ∧ get u 0xC200_00 = cmdValue 2 stOk 0 := by
  have e : globalStopOp (renewLease s rq) = (triggerStop (renewLease s rq) 1 9, .done stOk 0) := by
    unfold globalStopOp
    rw [stopped_renewLease, h]
    rfl
  have hget := get_triggerStop (s := renewLease s rq) (cause := 1) (island := 9) (by rw [stopped_renewLease]; exact h)
  generalize triggerStop (renewLease s rq) 1 9 = t at e hget
  have hu : get (doneState s t rq 0xC200_00 stOk 0 []) 0xC200_02 = 1 + 1 * 256 + stamp (renewLease s rq) 9 * 2 ^ 128 :=
    (get_doneState_other (by decide) (by decide)).trans hget
  generalize stamp (renewLease s rq) 9 = x at hu
  refine does_commandAccess g e ⟨?_, ?_, get_doneState (by decide)⟩
  · unfold stopped
    rw [hu]
    unfold fld
    have : (1 + 1 * 256 + x * 2 ^ 128) / 2 ^ 0 % 2 ^ (7 + 1 - 0) = 1 := by omega
    rw [this]
    rfl
  · rw [hu]
    unfold fld
    omega

end

/-- Settles O52: each command and event by the state that it leaves. -/
theorem observationActs : Obligations.ObservationActs := by
  unfold Obligations.ObservationActs
  refine ⟨fun s rq mask g hm => leaves_odcClear g hm, fun s rq mask n at0 g hon ht => does_snapshotTake g hon ht,
    fun s mask n hrun h => does_snapshotTimeReached hrun h,
    fun s m off hrun hline hoff hfit hm _ hl => does_traceLineFlush hrun hline hoff hfit hm hl,
    fun s i r rs hrun hpath hplaces hturn hring hlost hmod => ?_, fun s rq g h => does_globalStop g h⟩
  have hacts := traceDrainOne_takes hrun hpath hplaces hturn hring hlost hmod
  refine does_whenRuns hrun hacts ⟨rfl, ?_, rfl, fun j hj => ?_, rfl⟩
  · unfold traceRing ringTaken setTraceRing
    dsimp only
    cases rs with
    | nil => simp [lookupT_eraseT]
    | cons x xs => simp [lookupT_insertT]
  · unfold traceRing ringTaken setTraceRing
    dsimp only
    split
    · rw [lookupT_eraseT, if_neg hj]
    · rw [lookupT_insertT, if_neg hj]

end Sys2Proof.Machine
end

section
/-! What a granted WRITE of one row leaves: the row, and what its object's home chapter has follow (R264). -/

namespace Sys2Proof.Machine

/-- `b` is `s` with row `row` of `cn` at `x`, and what the core notes of a WRITE. -/
structure Written (s : State) (cn row x : Nat) (b : State) : Prop where
  rest : b = { s with cat := b.cat, mgmt := b.mgmt }
  written : getRow b cn row = x
  others : ∀ c q, catKey c q ≠ catKey cn row → getRow b c q = getRow s c q

/-- `u` is `w` with one more access carried out and its record. -/
structure Recorded (w u : State) : Prop where
  rest : u = { w with cat := u.cat, log := u.log }
  reads : ∀ c q, q < 2 ^ 32 → c ≠ 0x1110_03 → getRow u c q = getRow w c q

section
variable {s w : State} {rq : Requester} {o : Obj} {cn row v : Nat}

theorem holdInForce_rest (s : State) (cn : Nat) : holdInForce s cn = { s with mgmt := (holdInForce s cn).mgmt } := by
  unfold holdInForce
  split <;> rfl

theorem keepInForce_rest (s : State) (o : Obj) (cn : Nat) : keepInForce s o cn = { s with mgmt := (keepInForce s o cn).mgmt } := by
  unfold keepInForce
  split
  · exact holdInForce_rest s cn
  · rfl

/-- The state in which the row has been written, before what follows. -/
def rowSet (s : State) (rq : Requester) (o : Obj) (cn row v : Nat) : State :=
  setRow (keepInForce (renewLease s rq) o cn) cn row (storedValue s.part o cn v)

theorem written_rowSet : Written s cn row (storedValue s.part o cn v) (rowSet s rq o cn row v) := by
  have hk := keepInForce_rest (renewLease s rq) o cn
  have hr := renewLease_eq s rq
  unfold rowSet
  generalize keepInForce (renewLease s rq) o cn = a at hk
  have ha : a = { s with mgmt := a.mgmt } := by rw [hk, hr]
  have hrow : ∀ c q, getRow a c q = getRow s c q := getRow_congr (by rw [ha]) (by rw [ha])
  refine ⟨?_, getRow_setRow_same .., fun c q h => ?_⟩
  · show { a with cat := _ } = _
    rw [ha]
    rfl
  · rw [getRow_setRow_ne _ _ h, hrow]

theorem keepInForce_part : (keepInForce s o cn).part = s.part := by rw [keepInForce_rest]

theorem recorded_writtenState :
    Recorded (rowWritten (rowSet s rq o cn row v) cn row (getRow s cn row)) (writtenState s rq o cn row v) := by
  have hw : writeRows o cn row [v] (renewLease s rq) = rowWritten (rowSet s rq o cn row v) cn row (getRow s cn row) := by
    have hp : (keepInForce (renewLease s rq) o cn).part = s.part := keepInForce_part.trans (renewLease_part ..)
    unfold rowSet
    rw [← hp, ← getRow_renewLease s rq]
    rfl
  unfold writtenState
  rw [hw]
  generalize rowWritten (rowSet s rq o cn row v) cn row (getRow s cn row) = w
  have hc : ∀ c q, q < 2 ^ 32 → c ≠ 0x1110_03 → getRow (count64 w 0x1110_03) c q = getRow w c q := fun c q hq hc =>
    getRow_set_ne _ _ hq hc
  have hset : count64 w 0x1110_03 = { w with cat := (count64 w 0x1110_03).cat } := set_eq ..
  generalize count64 w 0x1110_03 = u at hc hset
  dsimp only
  split
  · exact ⟨by rw [hset], hc⟩
  · refine ⟨?_, fun c q hq hne => (getRow_congr (logAccess_part ..) (logAccess_cat ..) ..).trans (hc c q hq hne)⟩
    show { u with log := _ } = _
    rw [hset]
    rfl

/-- A granted WRITE answers the row's new value, what follows it, and its record. -/
theorem leaves_writeAccess (g : GrantedWrite s rq cn row v) (ho : findObj s.part cn = some o)
    {P : State → Prop}
    (h : ∀ b u, Written s cn row (storedValue s.part o cn v) b → Recorded (rowWritten b cn row (getRow s cn row)) u → P u) :
    Leaves (writeAccess s rq cn row v) P :=
  ⟨_, writeAccess_done g ho, h _ _ written_rowSet recorded_writtenState⟩

theorem does_writeAccess (g : GrantedWrite s rq cn row v) (ho : findObj s.part cn = some o)
    {P : State → Prop}
    (h : ∀ b u, Written s cn row (storedValue s.part o cn v) b → Recorded (rowWritten b cn row (getRow s cn row)) u → P u) :
    Does (settled (writeAccess s rq cn row v)) P :=
  ⟨_, congrArg settled (writeAccess_done g ho), h _ _ written_rowSet recorded_writtenState⟩

/-- A row written leaves every other object. -/
theorem Written.store {b : State} {x : Nat} (h : Written s cn row x b) (hr : row < 2 ^ 32) : StoreFrame s b [cn] :=
  fun c q hq hc => h.others c q fun e => hc (by rw [((catKey_inj hq hr).mp e).1]; simp)

theorem Recorded.store {u : State} (h : Recorded w u) : StoreFrame w u [0x1110_03] :=
  fun c q hq hc => h.reads c q hq (by simpa using hc)

end

end Sys2Proof.Machine
end

section
/-! The scheduler's choice, refills, configuration rows and samples (R195 to R205). -/

namespace Sys2Proof.Machine

/-! ### Steps that each reach one place -/

/-- Steps over distinct places, each of which reaches its own place alone: what a place shows at the end is what its own
step leaves of it, from a state that shows it as the first did. -/
theorem forEach_view {α β : Type} {step : State → α → State} {view : α → State → β} {keep : State → State → Prop}
    (hrefl : ∀ s, keep s s) (htrans : ∀ {s t u}, keep s t → keep t u → keep s u) {qs : List α} (hnd : qs.Nodup)
    (hkeep : ∀ t, ∀ q ∈ qs, keep t (step t q))
    (hview : ∀ t, ∀ q ∈ qs, ∀ j ∈ qs, j ≠ q → view j (step t q) = view j t) (s : State) :
    keep s (forEach qs step s) ∧
      ∀ q ∈ qs, ∃ t, keep s t ∧ view q t = view q s ∧ view q (forEach qs step s) = view q (step t q) := by
  induction qs generalizing s with
  | nil => exact ⟨hrefl s, fun q hq => absurd hq List.not_mem_nil⟩
  | cons q qs ih =>
    obtain ⟨hq, hnd⟩ := List.nodup_cons.mp hnd
    have hin : ∀ {j}, j ∈ qs → j ∈ q :: qs := fun hj => List.mem_cons_of_mem _ hj
    have hkeep' : ∀ t, ∀ x ∈ qs, keep t (step t x) := fun t x hx => hkeep t x (hin hx)
    have hview' : ∀ t, ∀ x ∈ qs, ∀ j ∈ qs, j ≠ x → view j (step t x) = view j t :=
      fun t x hx j hj => hview t x (hin hx) j (hin hj)
    obtain ⟨hk, hv⟩ := ih hnd hkeep' hview' (step s q)
    have hfirst := hkeep s q (List.mem_cons_self ..)
    have hstays : ∀ (l : List α) (u : State), (∀ x ∈ l, x ∈ qs) → view q (forEach l step u) = view q u := fun l => by
      induction l with
      | nil => exact fun u _ => rfl
      | cons x l ihl =>
        intro u hl
        refine (ihl (step u x) fun y hy => hl y (List.mem_cons_of_mem _ hy)).trans ?_
        have hx := hl x (List.mem_cons_self ..)
        exact hview u x (hin hx) q (List.mem_cons_self ..) fun e => hq (e ▸ hx)
    refine ⟨htrans hfirst hk, fun j hj => ?_⟩
    rcases List.mem_cons.mp hj with rfl | hj
    · exact ⟨s, hrefl s, rfl, hstays qs (step s j) fun x hx => hx⟩
    · obtain ⟨t, ht, hvt, he⟩ := hv j hj
      refine ⟨t, htrans hfirst ht, hvt.trans ?_, he⟩
      exact hview s q (List.mem_cons_self ..) j (hin hj) fun e => hq (e ▸ hj)

theorem nodup_upFrom (a n : Nat) : (upFrom a n).Nodup := by
  induction n generalizing a with
  | zero => exact List.nodup_nil
  | succ n ih =>
    refine List.nodup_cons.mpr ⟨fun h => ?_, ih (a + 1)⟩
    have := mem_upFrom.mp h
    omega

section
variable {s t u : State} {p q : Nat}

theorem port_setPort (f : Port → Port) (j : Nat) :
    port (setPort s p f) j = if j = p ∧ p < s.ports.length then f (port s j) else port s j :=
  nth_modifyNth ..

theorem port_setPort_same (f : Port → Port) (h : p < s.ports.length) : port (setPort s p f) p = f (port s p) := by
  rw [port_setPort, if_pos ⟨rfl, h⟩]

/-- `t` is `s` but for its ports and its store. -/
def PortsMove (s t : State) : Prop := t = { s with ports := t.ports, cat := t.cat }

theorem PortsMove.refl (s : State) : PortsMove s s := rfl

theorem PortsMove.trans (h : PortsMove s t) (g : PortsMove t u) : PortsMove s u := by
  unfold PortsMove at *; rw [g, h]

theorem portsMove_setPort (f : Port → Port) : PortsMove s (setPort s p f) := rfl

theorem portsMove_setF (cn row hi lo x : Nat) : PortsMove s (setF s cn row hi lo x) := rfl

theorem portsMove_set (cn x : Nat) : PortsMove s (set s cn x) := rfl

/-! ### The head of queue 0 -/

/-- What the scheduler gives the link layer of the head `d` of queue 0. -/
def chosenHead (s : State) (p : Nat) (d : Desc) : TxPacket :=
  { slots := packetSlots d.k, size := Machine.sizeOf d.k, rx := d.rx,
    owed := Machine.sizeOf d.k - (packetSlots d.k).length, vc := d.k.vc, begun := false, pool := false,
    abort := d.k.abort, entry := d.entry, queue := 0,
    sample := sampledDesc s ((lookupT (port s p).sentCount 0).getD 0 + 1) d }

/-- The port from which the head of queue 0 has been chosen. -/
def headChosen (s : State) (p : Nat) (d : Desc) (ds : List Desc) : State :=
  setQueue (setPort s p fun x =>
    { x with sentCount := insertT x.sentCount 0 ((lookupT (port s p).sentCount 0).getD 0 + 1)
             tx := x.tx ++ [chosenHead s p d] }) p 0 ds

theorem odc_ports (event n : Nat) (o : Option Nat) (k : Option Packet) : (odc s event o k n).ports = s.ports := by
  rw [(checkedThrough_odc event n o k).rest]
  unfold odc
  split
  · exact foldl_keeps (·.ports) (fun t i => by split <;> rfl) _ s
  · rfl

theorem portsMove_odc (event n : Nat) (o : Option Nat) (k : Option Packet) : PortsMove s (odc s event o k n) := by
  unfold odc
  split
  · refine foldl_through PortsMove.refl PortsMove.trans (fun t i _ => ?_) s
    split
    · exact portsMove_set ..
    · exact .refl _
  · exact .refl _

/-- The head's slots are taken from the queue's bucket where its shaper is on. -/
def headCharged (s : State) (p : Nat) (d : Desc) (ds : List Desc) : State :=
  let t := headChosen s p d ds
  if bit (shaperCfg t p 0) 63 then setQueueTokens t p 0 (queueTokens t p 0 - Machine.sizeOf d.k) else t

theorem headCharged_eq (d : Desc) (ds : List Desc) :
    headCharged s p d ds = { headChosen s p d ds with cat := (headCharged s p d ds).cat } := by
  unfold headCharged
  dsimp only
  split <;> rfl

theorem sendHead_zero_eq {d : Desc} {ds : List Desc} (h : queueOf s p 0 = d :: ds) :
    sendHead s p 0 = odc (odc (headCharged s p d ds) 0x02 (some p) (some d.k) 1) 0x03 (some p) (some d.k)
      (Machine.sizeOf d.k) := by
  unfold sendHead
  rw [h]
  rfl

theorem sendHead_zero {d : Desc} {ds : List Desc} (h : queueOf s p 0 = d :: ds) :
    PortsMove (headChosen s p d ds) (sendHead s p 0) ∧ (sendHead s p 0).ports = (headChosen s p d ds).ports := by
  have hv := headCharged_eq (s := s) (p := p) d ds
  have hmove : PortsMove (headChosen s p d ds) (headCharged s p d ds) := by
    unfold PortsMove
    rw [hv]
  rw [sendHead_zero_eq h]
  exact ⟨(hmove.trans (portsMove_odc ..)).trans (portsMove_odc ..), by rw [odc_ports, odc_ports, hv]⟩

theorem port_headChosen {d : Desc} {ds : List Desc} (hp : p < s.ports.length) :
    (port (headChosen s p d ds) p).tx = (port s p).tx ++ [chosenHead s p d] ∧
      queueOf (headChosen s p d ds) p 0 = settledQueue (placesOf (port (headChosen s p d ds) p) 0) s.time.cycles ds ∧
      ∀ q, q ≠ 0 → queueOf (headChosen s p d ds) p q = queueOf s p q := by
  unfold headChosen setQueue queueOf
  rw [port_setPort_same _ (by rw [setPort, length_modifyNth]; exact hp), port_setPort_same _ hp]
  dsimp only
  refine ⟨rfl, ?_, fun q hq => ?_⟩
  · cases ds with
    | nil => simp [lookupT_eraseT, settledQueue]
    | cons e ds =>
      simp only [List.isEmpty_cons, Bool.false_eq_true, if_false, lookupT_insertT, if_true, Option.getD_some]
      rfl
  · cases ds with
    | nil => simp [lookupT_eraseT, hq]
    | cons e ds => simp [lookupT_insertT, hq]

theorem schedule_head (hpow : portPowered s p = true) (hup : isUp s p = true)
    (hbegun : ∀ x ∈ (port s p).tx, x.begun = true) (hsend : sendableQ s p 0 = true) : schedule s p = sendHead s p 0 := by
  have hnone : ((port s p).tx.any fun x => !x.begun) = false := by
    rw [List.any_eq_false]
    intro x hx
    simp [hbegun x hx]
  unfold schedule
  rw [hpow, hup, hnone, if_neg (by decide), if_pos hsend]

theorem portPowered_lt (h : portPowered s p = true) : p < 8 := by
  unfold portPowered at h
  simp only [Bool.and_eq_true, decide_eq_true_eq] at h
  exact lt_of_lt_of_le h.1.1.1 (portsOf_le _)

theorem does_schedulerChoose {d : Desc} {ds : List Desc} (hlen : s.ports.length = 8) (hpow : portPowered s p = true)
    (hup : isUp s p = true) (hbegun : ∀ x ∈ (port s p).tx, x.begun = true) (hsend : sendableQ s p 0 = true)
    (hq : queueOf s p 0 = d :: ds) : Does (exec (.schedulerChoose p) s) fun u =>
      queueOf u p 0 = settledQueue (placesOf (port u p) 0) s.time.cycles ds ∧ (∀ q, q ≠ 0 → queueOf u p q = queueOf s p q) ∧
      (port u p).tx = (port s p).tx ++ [chosenHead s p d] ∧ u = { s with ports := u.ports, cat := u.cat } := by
  obtain ⟨hmove, hports⟩ := sendHead_zero hq
  have hp : p < s.ports.length := by rw [hlen]; exact portPowered_lt hpow
  obtain ⟨htx, hzero, hother⟩ := port_headChosen (s := s) (d := d) (ds := ds) hp
  have hmoved : PortsMove s (headChosen s p d ds) := portsMove_setPort _
  have hport : ∀ j, port (sendHead s p 0) j = port (headChosen s p d ds) j := fun j => by unfold port; rw [hports]
  have hqueue : ∀ j, queueOf (sendHead s p 0) p j = queueOf (headChosen s p d ds) p j := fun j => by
    unfold queueOf; rw [hport]
  refine ⟨_, congrArg (fun t => Host.Outcome.next (settle t)) (schedule_head hpow hup hbegun hsend), ?_, fun j hj => ?_, ?_,
    hmoved.trans hmove⟩
  · rw [hqueue, hport]; exact hzero
  · rw [hqueue]; exact hother j hj
  · rw [hport]; exact htx

/-! ### Refills -/

theorem signed_unsigned {v : Int} (h1 : -2 ^ 31 ≤ v) (h2 : v < 2 ^ 31) : signed 32 (unsigned 32 v % 2 ^ 32) = v := by
  unfold signed unsigned
  dsimp only
  split <;> omega

theorem signed_lt (v : Nat) : -2 ^ 31 ≤ signed 32 v ∧ signed 32 v < 2 ^ 31 := by
  unfold signed
  dsimp only
  split <;> omega

/-- What a refill of a bucket reads and writes. -/
def bucketView (p q : Nat) (s : State) : Int × Option Nat × Nat :=
  (queueTokens s p q, lookupT (port s p).oldCfg q, queueCfg s p q)

theorem queueTokens_setQueueTokens {v : Int} (h1 : -2 ^ 31 ≤ v) (h2 : v < 2 ^ 31) :
    queueTokens (setQueueTokens s p q v) p q = v := by
  unfold queueTokens setQueueTokens
  rw [getF_setF_same _ _ _ (by decide)]
  exact signed_unsigned h1 h2

/-- The tokens of a bucket after a refill. -/
def refilled (tokens : Int) (cfg : Nat) : Int := min (tokens + fld cfg 39 24) (256 * (fld cfg 23 16 : Int))

theorem refilled_range {v : Int} (cfg : Nat) (h1 : -2 ^ 31 ≤ v) : -2 ^ 31 ≤ refilled v cfg ∧ refilled v cfg < 2 ^ 31 := by
  have hr : fld cfg 39 24 < 2 ^ 16 := Nat.mod_lt _ (by decide)
  have hd : fld cfg 23 16 < 2 ^ 8 := Nat.mod_lt _ (by decide)
  unfold refilled
  omega

theorem getRow_ofLow {a b p' q' hi lo x : Nat} (h : ofLow p a ≠ ofLow p' b ∨ q ≠ q') (hq : q < 2 ^ 32) (hq' : q' < 2 ^ 32) :
    getRow (setF s (ofLow p' b) q' hi lo x) (ofLow p a) q = getRow s (ofLow p a) q :=
  getRow_setRow_ne _ _ fun e => by
    have := (catKey_inj hq hq').mp e
    tauto

/-- What a refill leaves of `s`: all but ports and store, and the power of every domain. -/
structure Refills (s t : State) : Prop where
  rest : PortsMove s t
  power : get t 0xE000_02 = get s 0xE000_02

theorem Refills.refl (s : State) : Refills s s := ⟨.refl s, rfl⟩

theorem Refills.trans (h : Refills s t) (g : Refills t u) : Refills s u := ⟨h.rest.trans g.rest, g.power.trans h.power⟩

theorem refills_setPort (f : Port → Port) : Refills s (setPort s p f) := ⟨portsMove_setPort f, rfl⟩

theorem refills_setRow {cn row : Nat} (x : Nat) (hr : row < 2 ^ 32) (h : cn ≠ 0xE000_02) : Refills s (setRow s cn row x) :=
  ⟨rfl, getRow_setRow_ne _ _ fun e => h.symm ((catKey_inj (by decide) hr).mp e).1⟩

/-- A bucket reads the same after a change to another port, or one to this port's loan buckets. -/
theorem bucketView_setPort {f : Port → Port} (h : p ≠ q ∨ ∀ x, (f x).oldCfg = x.oldCfg) (i : Nat) :
    bucketView p i (setPort s q f) = bucketView p i s := by
  have hold : (port (setPort s q f) p).oldCfg = (port s p).oldCfg := by
    rw [port_setPort]
    split
    · next he => exact (h.resolve_left fun hne => hne he.1) _
    · rfl
  have hrow : ∀ c r, getRow (setPort s q f) c r = getRow s c r := getRow_congr rfl rfl
  unfold bucketView queueTokens queueCfg getF
  rw [hold, hrow, hrow]

/-- A bucket reads the same after a write of a row that is neither its configuration nor its tokens. -/
theorem bucketView_setRow {cn row i : Nat} (x : Nat) (hr : row < 2 ^ 32) (hi : i < 2 ^ 32)
    (htok : ofLow p 0x6110_00 ≠ cn ∨ i ≠ row) (hcfg : ofLow p 0x6100_00 ≠ cn) :
    bucketView p i (setRow s cn row x) = bucketView p i s := by
  have h : ∀ c, c ≠ cn ∨ i ≠ row → getRow (setRow s cn row x) c i = getRow s c i := fun c hc =>
    getRow_setRow_ne _ _ fun e => by
      have := (catKey_inj hi hr).mp e
      tauto
  have hport : port (setRow s cn row x) p = port s p := rfl
  unfold bucketView queueTokens queueCfg getF
  rw [h _ htok, h _ (.inl hcfg), hport]

theorem refillQueue_set (p : Nat) (s : State) (q : Nat) : ∃ v, refillQueue p s q =
    setQueueTokens (setPort s p fun x => { x with oldCfg := eraseT x.oldCfg q }) p q v := ⟨_, rfl⟩

theorem refills_refillQueue (hq : q < 64) : Refills s (refillQueue p s q) := by
  obtain ⟨v, hv⟩ := refillQueue_set p s q
  rw [hv]
  exact (refills_setPort _).trans (refills_setRow _ (by omega) (by unfold ofLow; omega))

theorem bucketView_refillQueue_ne {j i : Nat} (hj : j < 8) (hp : p < 8) (hq : q < 64) (hi : i < 64) (h : j ≠ p ∨ i ≠ q) :
    bucketView j i (refillQueue p s q) = bucketView j i s := by
  obtain ⟨v, hv⟩ := refillQueue_set p s q
  rw [hv]
  unfold setQueueTokens setF
  rw [bucketView_setRow _ (by omega) (by omega) (by unfold ofLow; omega) (by unfold ofLow; omega)]
  have hrow : ∀ c r, getRow (setPort s p fun x => { x with oldCfg := eraseT x.oldCfg q }) c r = getRow s c r :=
    getRow_congr rfl rfl
  unfold bucketView queueTokens queueCfg getF
  rw [hrow, hrow, port_setPort]
  split
  · next he =>
    have hne : i ≠ q := h.resolve_left fun hne => hne he.1
    dsimp only
    rw [lookupT_eraseT, if_neg hne]
  · rfl

/-- A refill of one queue's bucket with no write that waits. -/
theorem queueTokens_refillQueue (hold : lookupT (port s p).oldCfg q = none) :
    queueTokens (refillQueue p s q) p q = refilled (queueTokens s p q) (queueCfg s p q) := by
  unfold refillQueue
  rw [hold]
  dsimp only
  rw [Option.isSome_none, if_neg Bool.false_ne_true]
  have hcfg : queueCfg (setPort s p fun x => { x with oldCfg := eraseT x.oldCfg q }) p q = queueCfg s p q := getRow_congr rfl rfl ..
  have htok : queueTokens (setPort s p fun x => { x with oldCfg := eraseT x.oldCfg q }) p q = queueTokens s p q :=
    congrArg (fun r => signed 32 (fld r 127 96)) (getRow_congr rfl rfl ..)
  rw [hcfg, htok]
  obtain ⟨h1, h2⟩ := refilled_range (queueCfg s p q) (signed_lt (getF s (ofLow p 0x6110_00) q 127 96)).1
  exact queueTokens_setQueueTokens h1 h2

/-- The rest of a port's refill, after its queues: its rates and its loans' buckets. -/
def refillLoans (s : State) (p : Nat) : State :=
  let scale := loanScale s p
  let s := set (set s (0x6001_01 + p) (capW s p)) (0x6002_01 + p) scale
  forEach (keysT (port s p).buckets) (refillLoan p scale) s

theorem refillPort_eq (s : State) (p : Nat) : refillPort s p = refillLoans (forEach (upFrom 0 64) (refillQueue p) s) p := rfl

theorem refillLoans_through {R : State → State → Prop} (hrefl : ∀ s, R s s)
    (htrans : ∀ {s t u}, R s t → R t u → R s u) (hset : ∀ s x i, i < 8 → R s (set s (0x6001_01 + i) x) ∧ R s (set s (0x6002_01 + i) x))
    (hloan : ∀ s f, (∀ x : Port, (f x).oldCfg = x.oldCfg) → R s (setPort s p f)) (hp : p < 8) (s : State) :
    R s (refillLoans s p) := by
  unfold refillLoans
  dsimp only
  exact htrans (htrans (hset _ _ p hp).1 (hset _ _ p hp).2)
    (foldl_through (g := refillLoan p (loanScale s p)) hrefl htrans (fun t n _ => hloan t _ fun _ => rfl) _)

theorem refills_refillLoans (hp : p < 8) : Refills s (refillLoans s p) :=
  refillLoans_through .refl .trans
    (fun _ x i hi => ⟨refills_setRow x (by decide) (by omega), refills_setRow x (by decide) (by omega)⟩)
    (fun _ f _ => refills_setPort f) hp s

theorem bucketView_refillLoans {j i : Nat} (hi : i < 64) (hp : p < 8) :
    bucketView j i (refillLoans s p) = bucketView j i s :=
  refillLoans_through (R := fun s t => bucketView j i t = bucketView j i s) (fun _ => rfl) (fun h g => g.trans h)
    (fun _ x i hi => ⟨bucketView_setRow x (by decide) (by omega) (.inl (by unfold ofLow; omega)) (by unfold ofLow; omega),
      bucketView_setRow x (by decide) (by omega) (.inl (by unfold ofLow; omega)) (by unfold ofLow; omega)⟩)
    (fun _ f hf => bucketView_setPort (.inr hf) i) hp s

/-- The refill of a port's queues, seen at one bucket. -/
theorem refills_queues {qs : List Nat} (hqs : ∀ q ∈ qs, q < 64) (s : State) : Refills s (forEach qs (refillQueue p) s) :=
  foldl_through (R := Refills) .refl .trans (fun _ q hq => refills_refillQueue (hqs q hq)) s

theorem bucketView_queues {qs : List Nat} {j i : Nat} (hqs : ∀ q ∈ qs, q < 64) (hj : j < 8) (hi : i < 64) (hp : p < 8)
    (h : j ≠ p) (s : State) : bucketView j i (forEach qs (refillQueue p) s) = bucketView j i s :=
  foldl_through (R := fun s t => bucketView j i t = bucketView j i s) (fun _ => rfl) (fun h g => g.trans h)
    (fun _ q hq => bucketView_refillQueue_ne hj hp (hqs q hq) hi (.inl h)) s

theorem lt_of_mem_upFrom {n x : Nat} (h : x ∈ upFrom 0 n) : x < n := by
  have := mem_upFrom.mp h
  omega

theorem refills_refillPort (hp : p < 8) : Refills s (refillPort s p) :=
  (refills_queues (fun _ => lt_of_mem_upFrom) s).trans (refills_refillLoans hp)

theorem bucketView_refillPort_ne {j i : Nat} (hj : j < 8) (hi : i < 64) (hp : p < 8) (h : j ≠ p) :
    bucketView j i (refillPort s p) = bucketView j i s := by
  rw [refillPort_eq, bucketView_refillLoans hi hp]
  exact bucketView_queues (fun _ => lt_of_mem_upFrom) hj hi hp h s

theorem queueTokens_refillPort (hp : p < 8) (hq : q < 64) (hold : lookupT (port s p).oldCfg q = none) :
    queueTokens (refillPort s p) p q = refilled (queueTokens s p q) (queueCfg s p q) := by
  obtain ⟨-, hv⟩ := forEach_view (step := refillQueue p) (view := bucketView p) (keep := fun _ _ => True)
    (fun _ => trivial) (fun _ _ => trivial) (nodup_upFrom 0 64) (fun _ _ _ => trivial)
    (fun t x hx i hi h => bucketView_refillQueue_ne hp hp (lt_of_mem_upFrom hx) (lt_of_mem_upFrom hi) (.inr h)) s
  obtain ⟨t, -, ht, he⟩ := hv q (mem_upFrom.mpr ⟨by omega, by omega⟩)
  obtain ⟨htok, hold', hcfg⟩ := Prod.mk.inj (ht.trans rfl : bucketView p q t = (_, _, _)) |>.imp id Prod.mk.inj
  have hfin : queueTokens (refillPort s p) p q = queueTokens (refillQueue p t q) p q := by
    exact congrArg Prod.fst ((bucketView_refillLoans hq hp).trans he)
  rw [hfin, queueTokens_refillQueue (hold'.trans hold), ← htok, ← hcfg]

theorem mirrorRefill_idle (h : s.mirror.jobs = []) : ∃ b, mirrorRefill s = { s with mirror.bucket := b } := by
  unfold mirrorRefill
  refine ⟨{ s.mirror.bucket with tokens := min (s.mirror.bucket.tokens + get s 0xB000_03) 4096 }, ?_⟩
  show mirrorPump (4095 + 1) _ = _
  rw [mirrorPump]
  dsimp only
  rw [h]

theorem txPowered_lt (h : txPowered s p = true) : p < portsOf s.part := by
  unfold txPowered at h
  simp only [Bool.and_eq_true, decide_eq_true_eq] at h
  exact h.1.1

theorem does_shaperRefill (hon : switchOn s = true) (hidle : domainOn s 25 = false ∨ s.mirror.jobs = []) :
    Does (exec .shaperRefill s) fun u => ∀ p q, txPowered s p = true → q < 64 → lookupT (port s p).oldCfg q = none →
      queueTokens u p q = refilled (queueTokens s p q) (queueCfg s p q) := by
  let ps := (upFrom 0 (portsOf s.part)).filter (txPowered s)
  have hps : ∀ {x}, x ∈ ps → x < 8 := fun hx => by
    have := mem_upFrom.mp (List.mem_of_mem_filter hx)
    have := portsOf_le s.part
    omega
  have hall : ∀ q, q < 64 → _ := fun q hq =>
    forEach_view (step := refillPort) (view := fun p s => bucketView p q s) (keep := Refills) .refl .trans
      ((nodup_upFrom 0 _).filter _ : ps.Nodup) (fun _ p hp => refills_refillPort (hps hp))
      (fun _ p hp j hj h => bucketView_refillPort_ne (hps hj) hq (hps hp) h) s
  have hmove := (hall 0 (by decide)).1
  have hstep : ∃ u, shaperRefills s = u ∧ ∀ p q, queueTokens u p q = queueTokens (forEach ps refillPort s) p q := by
    unfold shaperRefills
    rw [hon, if_neg (by decide)]
    dsimp only
    have hdom : domainOn (forEach ps refillPort s) 25 = domainOn s 25 := congrArg (bit · 25) hmove.power
    rw [hdom]
    rcases hidle with h | h
    · rw [h, if_neg (by decide)]
      exact ⟨_, rfl, fun _ _ => rfl⟩
    · split
      · obtain ⟨b, hb⟩ := mirrorRefill_idle (s := forEach ps refillPort s) (by rw [hmove.rest]; exact h)
        rw [hb]
        exact ⟨_, rfl, fun p q => congrArg (fun r => signed 32 (fld r 127 96)) (getRow_congr rfl rfl ..)⟩
      · exact ⟨_, rfl, fun _ _ => rfl⟩
  obtain ⟨u, hu, htok⟩ := hstep
  refine ⟨u, congrArg (fun t => Host.Outcome.next (settle t)) hu, fun p q hp hq hold => ?_⟩
  obtain ⟨t, -, ht, he⟩ := (hall q hq).2 p (List.mem_filter.mpr ⟨mem_upFrom.mpr ⟨by omega, by have := txPowered_lt hp; omega⟩, hp⟩)
  obtain ⟨htk, hold', hcfg⟩ := Prod.mk.inj (ht.trans rfl : bucketView p q t = (_, _, _)) |>.imp id Prod.mk.inj
  have hp8 : p < 8 := lt_of_lt_of_le (txPowered_lt hp) (portsOf_le _)
  rw [htok, show queueTokens (forEach ps refillPort s) p q = _ from congrArg Prod.fst he,
    show (bucketView p q (refillPort t p)).1 = queueTokens (refillPort t p) p q from rfl,
    queueTokens_refillPort hp8 hq (hold'.trans hold), ← htk, ← hcfg]

end

end Sys2Proof.Machine
end

section
/-! Configuration rows of queues and policers, and depth samples (R198, R201, R203, R205). -/

namespace Sys2Proof.Machine

section
variable {s t u : State} {p q n : Nat}

/-! ### Policers -/

theorem lookupT_mapped {α β : Type} (f : Nat → α → β) (xs : Table α) (k : Nat) :
    lookupT (xs.map fun e => (e.1, f e.1 e.2)) k = (lookupT xs k).map (f k) := by
  induction xs with
  | nil => rfl
  | cons e xs ih =>
    simp only [List.map_cons, lookupT] at ih ⊢
    by_cases h : k = e.1
    · rw [if_pos h, if_pos h, h]
      rfl
    · rw [if_neg h, if_neg h, ih]

/-- What a policer's counts are after their refill. -/
def policerRefilled (s : State) (n : Nat) (r : PolicerRun) : PolicerRun :=
  { tc := min (r.tc + fld (getRow s 0x6200_00 n) 47 32) (256 * fld (getRow s 0x6200_00 n) 15 8)
    tp := min (r.tp + fld (getRow s 0x6200_00 n) 31 16) (256 * fld (getRow s 0x6200_00 n) 7 0) }

theorem policerRefills_eq (h : switchOn s = true) :
    policerRefills s = { s with policers := s.policers.map fun e => (e.1, policerRefilled s e.1 e.2) } := by
  unfold policerRefills
  rw [h]
  rfl

theorem leaves_policerRefill (h : switchOn s = true) : Leaves (exec .policerRefill s) fun u =>
    (∀ n r, lookupT s.policers n = some r → lookupT u.policers n = some (policerRefilled s n r)) ∧
      (∀ n, lookupT s.policers n = none → lookupT u.policers n = none) ∧ u = { s with policers := u.policers } := by
  refine ⟨_, congrArg Host.Outcome.next (policerRefills_eq h), fun n r hn => ?_, fun n hn => ?_, rfl⟩
  · dsimp only
    rw [lookupT_mapped, hn]
    rfl
  · dsimp only
    rw [lookupT_mapped, hn]
    rfl

theorem leaves_policerWrite {rq : Requester} {v : Nat} {o : Obj} (hn : n < 2 ^ 32) (ho : findObj s.part 0x6200_00 = some o)
    (g : GrantedWrite s rq 0x6200_00 n v) : Leaves (exec (.policerWrite rq n v) s) fun u =>
      getRow u 0x6200_00 n = storedValue s.part o 0x6200_00 v ∧ lookupT u.policers n = none ∧
      (∀ j, j ≠ n → lookupT u.policers j = lookupT s.policers j) ∧ StoreFrame s u [0x6200_00, 0x1110_03] ∧
      u = { s with policers := u.policers, cat := u.cat, log := u.log, mgmt := u.mgmt } := by
  refine leaves_writeAccess g ho fun b u hb hu => ?_
  have hw : rowWritten b 0x6200_00 n (getRow s 0x6200_00 n) = policerWritten b n := rfl
  rw [hw] at hu
  have hpol : u.policers = eraseT s.policers n := by rw [hu.rest, policerWritten, hb.rest]
  have hrow : ∀ c r, getRow (policerWritten b n) c r = getRow b c r := getRow_congr rfl rfl
  refine ⟨?_, ?_, fun j hj => ?_, ?_, ?_⟩
  · rw [hu.reads _ _ hn (by decide), hrow, hb.written]
  · rw [hpol, lookupT_eraseT, if_pos rfl]
  · rw [hpol, lookupT_eraseT, if_neg hj]
  · exact ((hb.store hn).mono (by simp)).trans
      ((StoreFrame.of_cat (t := policerWritten b n) (cns := []) rfl rfl |>.mono (by simp)).trans (hu.store.mono (by simp)))
  · rw [hu.rest, policerWritten, hb.rest]

/-! ### Queue configuration rows -/

/-- What a written configuration row has its queue's bucket follow reaches the ports and the tokens alone. -/
structure QueueConfigured (b : State) (p : Nat) (w : State) : Prop where
  rest : PortsMove b w
  store : StoreFrame b w [ofLow p 0x6110_00]

theorem queueConfigured_of (old : Nat) (hq : q < 64) : QueueConfigured s p (queueConfigured s p q old) := by
  unfold queueConfigured
  dsimp only
  split
  · exact ⟨.refl _, .refl _⟩
  · split
    · exact ⟨portsMove_setF .., storeFrame_setF _ _ _ _ (by omega)⟩
    · split
      · exact ⟨.refl _, .refl _⟩
      · exact ⟨portsMove_setPort _, .of_cat rfl rfl⟩

theorem rowWritten_queue (hp : p < 8) (s : State) (q old : Nat) :
    rowWritten s (ofLow p 0x6100_00) q old = queueConfigured s p q old := by
  have hi : ofLow p 0x6100_00 / 256 = 0x6100 + p := by unfold ofLow; omega
  unfold rowWritten
  dsimp only
  rw [hi, if_pos (by simp; omega), Nat.add_sub_cancel_left]

theorem leaves_queueConfigWrite {rq : Requester} {v : Nat} {o : Obj} (hp : p < 8) (hq : q < 64)
    (ho : findObj s.part (ofLow p 0x6100_00) = some o) (g : GrantedWrite s rq (ofLow p 0x6100_00) q v) :
    Leaves (exec (.queueConfigWrite rq p q v) s) fun u =>
      getRow u (ofLow p 0x6100_00) q = storedValue s.part o (ofLow p 0x6100_00) v ∧
      (∀ j, j < 64 → j ≠ q → getRow u (ofLow p 0x6100_00) j = getRow s (ofLow p 0x6100_00) j) ∧
      StoreFrame s u [ofLow p 0x6100_00, ofLow p 0x6110_00, 0x1110_03] ∧
      u = { s with ports := u.ports, cat := u.cat, log := u.log, mgmt := u.mgmt } := by
  refine leaves_writeAccess g ho fun b u hb hu => ?_
  rw [rowWritten_queue hp] at hu
  have hw := queueConfigured_of (s := b) (p := p) (getRow s (ofLow p 0x6100_00) q) hq
  have hcfg : ∀ j, j < 64 → getRow u (ofLow p 0x6100_00) j = getRow b (ofLow p 0x6100_00) j := fun j hj =>
    (hu.reads _ _ (by omega) (by unfold ofLow; omega)).trans (hw.store _ _ (by omega) (by unfold ofLow; simp))
  refine ⟨(hcfg q hq).trans hb.written, fun j hj hne => (hcfg j hj).trans (hb.others _ _ fun e => hne ?_), ?_, ?_⟩
  · exact ((catKey_inj (by omega) (by omega)).mp e).2
  · exact ((hb.store (by omega)).mono (by simp)).trans ((hw.store.mono (by simp)).trans (hu.store.mono (by simp)))
  · rw [hu.rest, hw.rest, hb.rest]

/-! ### Depth samples -/

/-- One queue's depth sample. -/
def sampleQueue (p : Nat) (s : State) (q : Nat) : State :=
  let n := queueDepth s p q
  let s := histogram s (ofLow p 0x6310_00) q (depthBin n)
  setF s (ofLow p 0x6110_00) q 51 35 (max (getF s (ofLow p 0x6110_00) q 51 35) n)

theorem depthSamples_eq (h : txPowered s p = true) : depthSamples s p = forEach (upFrom 0 64) (sampleQueue p) s := by
  unfold depthSamples
  rw [h]
  rfl

/-- The depth and the two rows that a depth sample of queue `q` reads and writes. -/
def sampleView (p q : Nat) (s : State) : Nat × Nat × Nat :=
  (getRow s (ofLow p 0x6110_00) q, getRow s (ofLow p 0x6310_00) q, queueDepth s p q)

/-- `t` is `s` but for the rows of the objects `cns`. -/
structure RowsMove (cns : List Nat) (s t : State) : Prop where
  rest : t = { s with cat := t.cat }
  store : StoreFrame s t cns

theorem RowsMove.refl {cns : List Nat} (s : State) : RowsMove cns s s := ⟨rfl, .refl _⟩

theorem RowsMove.trans {cns : List Nat} (h : RowsMove cns s t) (g : RowsMove cns t u) : RowsMove cns s u :=
  ⟨by rw [g.rest, h.rest], h.store.trans g.store⟩

theorem rowsMove_setRow {cns : List Nat} {cn row : Nat} (x : Nat) (hr : row < 2 ^ 32) (h : cn ∈ cns) :
    RowsMove cns s (setRow s cn row x) := ⟨rfl, (StoreFrame.refl _).setRow x hr h⟩

theorem getRow_setF_other {c r cn i : Nat} (hi lo x : Nat) (h : catKey c r ≠ catKey cn i) :
    getRow (setF s cn i hi lo x) c r = getRow s c r := getRow_setRow_ne _ _ h

/-- What a bin's increment leaves. -/
structure BinTaken (s : State) (cn q bin : Nat) (t : State) : Prop where
  moves : RowsMove [cn] s t
  others : ∀ c r, catKey c r ≠ catKey cn q → getRow t c r = getRow s c r
  taken : getF t cn q (32 * bin + 31) (32 * bin) = min (getF s cn q (32 * bin + 31) (32 * bin) + 1) (2 ^ 32 - 1)

theorem binTaken_histogram (s : State) (cn q bin : Nat) (hq : q < 2 ^ 32) : BinTaken s cn q bin (histogram s cn q bin) := by
  have hlt : getF s cn q (32 * bin + 31) (32 * bin) < 2 ^ 32 := by
    unfold getF fld
    rw [show 32 * bin + 31 + 1 - 32 * bin = 32 by omega]
    exact Nat.mod_lt _ (by decide)
  unfold histogram
  dsimp only
  split
  · refine ⟨rowsMove_setRow _ hq (by simp), fun c r h => getRow_setRow_ne _ _ h, ?_⟩
    rw [getF_setF_same _ _ _ (by omega), show 32 * bin + 31 + 1 - 32 * bin = 32 by omega]
    omega
  · exact ⟨.refl _, fun _ _ _ => rfl, by omega⟩

theorem catKey_depth_ne (p q : Nat) : catKey (ofLow p 0x6110_00) q ≠ catKey (ofLow p 0x6310_00) q := by
  unfold catKey ofLow; omega

theorem rowsMove_sampleQueue (hq : q < 64) : RowsMove [ofLow p 0x6110_00, ofLow p 0x6310_00] s (sampleQueue p s q) := by
  have h := (binTaken_histogram s (ofLow p 0x6310_00) q (depthBin (queueDepth s p q)) (by omega)).moves
  exact RowsMove.trans ⟨h.rest, h.store.mono (by simp)⟩ (rowsMove_setRow _ (by omega) (by simp))

theorem sampleQueue_depth (h : queueDepth s p q < 2 ^ 17) (hq : q < 64) :
    getF (sampleQueue p s q) (ofLow p 0x6110_00) q 51 35 = max (getF s (ofLow p 0x6110_00) q 51 35) (queueDepth s p q) := by
  have ht := (binTaken_histogram s (ofLow p 0x6310_00) q (depthBin (queueDepth s p q)) (by omega)).others _ _ (catKey_depth_ne p q)
  have hlt : getF s (ofLow p 0x6110_00) q 51 35 < 2 ^ 17 := Nat.mod_lt _ (by decide)
  unfold sampleQueue
  dsimp only
  rw [getF_setF_same _ _ _ (by decide), getF, ht]
  exact Nat.mod_eq_of_lt (by unfold getF at hlt; omega)

theorem sampleQueue_bin (hq : q < 64) :
    getF (sampleQueue p s q) (ofLow p 0x6310_00) q (32 * depthBin (queueDepth s p q) + 31) (32 * depthBin (queueDepth s p q)) =
      min (getF s (ofLow p 0x6310_00) q (32 * depthBin (queueDepth s p q) + 31) (32 * depthBin (queueDepth s p q)) + 1)
        (2 ^ 32 - 1) := by
  rw [← (binTaken_histogram s (ofLow p 0x6310_00) q (depthBin (queueDepth s p q)) (by omega)).taken]
  unfold sampleQueue getF
  dsimp only
  rw [getRow_setF_other _ _ _ (catKey_depth_ne p q).symm]

theorem queueDepth_congr (h : t.ports = s.ports) : queueDepth t p q = queueDepth s p q := by
  unfold queueDepth queueSizes queueOf port
  rw [h]

theorem sampleView_sampleQueue_ne {j : Nat} (hq : q < 64) (hj : j < 64) (h : j ≠ q) :
    sampleView p j (sampleQueue p s q) = sampleView p j s := by
  have hb := binTaken_histogram s (ofLow p 0x6310_00) q (depthBin (queueDepth s p q)) (by omega)
  have hrow : ∀ c, getRow (sampleQueue p s q) c j = getRow s c j := fun c => by
    have hne : ∀ d, catKey c j ≠ catKey d q := fun d e => h ((catKey_inj (by omega) (by omega)).mp e).2
    unfold sampleQueue
    dsimp only
    rw [getRow_setF_other _ _ _ (hne _), hb.others _ _ (hne _)]
  have hdepth : queueDepth (sampleQueue p s q) p j = queueDepth s p j :=
    queueDepth_congr (by rw [(rowsMove_sampleQueue hq).rest])
  unfold sampleView
  rw [hrow, hrow, hdepth]

theorem leaves_depthSample (h : txPowered s p = true) : Leaves (exec (.depthSample p) s) fun u =>
    (∀ q, q < 64 → queueDepth s p q < 2 ^ 17 →
      getF u (ofLow p 0x6110_00) q 51 35 = max (getF s (ofLow p 0x6110_00) q 51 35) (queueDepth s p q)) ∧
    (∀ q b, q < 64 → b = depthBin (queueDepth s p q) →
      getF u (ofLow p 0x6310_00) q (32 * b + 31) (32 * b) =
        min (getF s (ofLow p 0x6310_00) q (32 * b + 31) (32 * b) + 1) (2 ^ 32 - 1)) ∧
    StoreFrame s u [ofLow p 0x6110_00, ofLow p 0x6310_00] ∧ u = { s with cat := u.cat } := by
  obtain ⟨hmove, hview⟩ := forEach_view (step := sampleQueue p) (view := sampleView p)
    (keep := RowsMove [ofLow p 0x6110_00, ofLow p 0x6310_00]) .refl .trans (nodup_upFrom 0 64)
    (fun _ _ hq => rowsMove_sampleQueue (lt_of_mem_upFrom hq))
    (fun _ _ hq _ hj h => sampleView_sampleQueue_ne (lt_of_mem_upFrom hq) (lt_of_mem_upFrom hj) h) s
  refine ⟨_, congrArg Host.Outcome.next (depthSamples_eq h), fun q hq hlt => ?_, fun q b hq hb => ?_, hmove.store, hmove.rest⟩
  · obtain ⟨t, -, ht, he⟩ := hview q (mem_upFrom.mpr ⟨by omega, by omega⟩)
    obtain ⟨hdeep, -, hdepth⟩ := Prod.mk.inj ht |>.imp id Prod.mk.inj
    have hfin := sampleQueue_depth (s := t) (p := p) (q := q) (by rw [hdepth]; exact hlt) hq
    rw [hdepth, getF, getF, hdeep] at hfin
    rw [getF, getF, ← hfin]
    exact congrArg (fld · 51 35) (congrArg Prod.fst he)
  · obtain ⟨t, -, ht, he⟩ := hview q (mem_upFrom.mpr ⟨by omega, by omega⟩)
    obtain ⟨-, hbins, hdepth⟩ := Prod.mk.inj ht |>.imp id Prod.mk.inj
    have hfin := sampleQueue_bin (s := t) (p := p) hq
    rw [hdepth, ← hb, getF, getF, hbins] at hfin
    rw [getF, getF, ← hfin]
    exact congrArg (fun v : Nat × Nat × Nat => fld v.2.1 (32 * b + 31) (32 * b)) he

/-! ### sample_clear -/

/-- One queue's samples are zeroed. -/
def clearQueue (p : Nat) (s : State) (q : Nat) : State :=
  let s := setRow (setRow s (ofLow p 0x6310_00) q 0) (ofLow p 0x6320_00) q 0
  setF s (ofLow p 0x6110_00) q 51 15 0

/-- The three rows of queue `q` that a clear of samples writes. -/
def clearView (p q : Nat) (s : State) : Nat × Nat × Nat :=
  (getRow s (ofLow p 0x6310_00) q, getRow s (ofLow p 0x6320_00) q, getRow s (ofLow p 0x6110_00) q)

/-- The objects that a clear of samples writes. -/
def clearCns (p : Nat) : List Nat := [ofLow p 0x6310_00, ofLow p 0x6320_00, ofLow p 0x6110_00]

theorem rowsMove_clearQueue (hq : q < 64) : RowsMove (clearCns p) s (clearQueue p s q) := by
  have h : q < 2 ^ 32 := by omega
  exact ((rowsMove_setRow 0 h (by simp [clearCns])).trans (rowsMove_setRow 0 h (by simp [clearCns]))).trans
    (rowsMove_setRow _ h (by simp [clearCns]))

theorem clearView_clearQueue (s : State) (p q : Nat) : clearView p q (clearQueue p s q) =
    (0, 0, setFld (getRow s (ofLow p 0x6110_00) q) 51 15 0) := by
  have h1 : catKey (ofLow p 0x6310_00) q ≠ catKey (ofLow p 0x6110_00) q := (catKey_depth_ne p q).symm
  have h2 : catKey (ofLow p 0x6320_00) q ≠ catKey (ofLow p 0x6110_00) q := by unfold catKey ofLow; omega
  have h3 : catKey (ofLow p 0x6310_00) q ≠ catKey (ofLow p 0x6320_00) q := by unfold catKey ofLow; omega
  unfold clearView clearQueue
  dsimp only
  rw [getRow_setF_other _ _ _ h1, getRow_setRow_ne _ _ h3, getRow_setRow_same, getRow_setF_other _ _ _ h2, getRow_setRow_same,
    getRow_setF_same, getRow_setRow_ne _ _ h2.symm, getRow_setRow_ne _ _ h1.symm]

theorem clearView_clearQueue_ne {j : Nat} (hq : q < 64) (hj : j < 64) (h : j ≠ q) :
    clearView p j (clearQueue p s q) = clearView p j s := by
  have hne : ∀ c d, catKey c j ≠ catKey d q := fun c d e => h ((catKey_inj (by omega) (by omega)).mp e).2
  have hrow : ∀ c, getRow (clearQueue p s q) c j = getRow s c j := fun c => by
    unfold clearQueue
    dsimp only
    rw [getRow_setF_other _ _ _ (hne _ _), getRow_setRow_ne _ _ (hne _ _), getRow_setRow_ne _ _ (hne _ _)]
  unfold clearView
  rw [hrow, hrow, hrow]

theorem fld_cleared (v : Nat) : fld (setFld v 51 15 0) 51 15 = 0 ∧ fld (setFld v 51 15 0) 127 52 = fld v 127 52 :=
  ⟨fld_setFld_same _ _ _ _ (by decide), fld_setFld_below _ _ (by decide) (by decide)⟩

theorem leaves_sampleClear {rq : Requester} (g : Granted s rq 0x6330_00 [p]) (hp : p < portsOf s.part) :
    Leaves (exec (.sampleClear rq p) s) fun u =>
      (∀ q, q < 64 → getRow u (ofLow p 0x6310_00) q = 0 ∧ getRow u (ofLow p 0x6320_00) q = 0 ∧
        getF u (ofLow p 0x6110_00) q 51 15 = 0 ∧
        getF u (ofLow p 0x6110_00) q 127 52 = getF s (ofLow p 0x6110_00) q 127 52) ∧
      Completed s u rq 0x6330_00 0 [ofLow p 0x6310_00, ofLow p 0x6320_00, ofLow p 0x6110_00] ∧
      u = { s with cat := u.cat, log := u.log, mgmt := u.mgmt } := by
  have hp8 : p < 8 := lt_of_lt_of_le hp (portsOf_le _)
  have hop : sampleClearOp p (renewLease s rq) =
      (forEach (upFrom 0 64) (clearQueue p) (renewLease s rq), .done stOk 0) := by
    unfold sampleClearOp
    rw [renewLease_part, if_neg (by omega)]
    rfl
  obtain ⟨hmove, hview⟩ := forEach_view (step := clearQueue p) (view := clearView p)
    (keep := RowsMove (clearCns p)) .refl .trans (nodup_upFrom 0 64)
    (fun _ _ hq => rowsMove_clearQueue (lt_of_mem_upFrom hq))
    (fun _ _ hq _ hj h => clearView_clearQueue_ne (lt_of_mem_upFrom hq) (lt_of_mem_upFrom hj) h) (renewLease s rq)
  refine leaves_commandAccess g hop ⟨fun q hq => ?_, completed_of_cat (by decide) hmove.rest ?_⟩
  · obtain ⟨t, -, ht, he⟩ := hview q (mem_upFrom.mpr ⟨by omega, by omega⟩)
    rw [clearView_clearQueue] at he
    obtain ⟨hbins, hagg, hrow⟩ := Prod.mk.inj he |>.imp id Prod.mk.inj
    have hold : getRow t (ofLow p 0x6110_00) q = getRow s (ofLow p 0x6110_00) q :=
      (congrArg (fun v : Nat × Nat × Nat => v.2.2) ht).trans (getRow_renewLease ..)
    obtain ⟨hlow, hhigh⟩ := fld_cleared (getRow s (ofLow p 0x6110_00) q)
    have hdone : ∀ c, c ≠ 0x6330_00 → c ≠ 0x1110_03 →
        getRow (doneState s (forEach (upFrom 0 64) (clearQueue p) (renewLease s rq)) rq 0x6330_00 stOk 0 [p]) c q =
          getRow (forEach (upFrom 0 64) (clearQueue p) (renewLease s rq)) c q := fun c h h' => getRow_doneState (by omega) h h'
    unfold getF
    rw [hdone _ (by unfold ofLow; omega) (by unfold ofLow; omega), hdone _ (by unfold ofLow; omega) (by unfold ofLow; omega),
      hdone _ (by unfold ofLow; omega) (by unfold ofLow; omega), hbins, hagg, hrow, hold]
    exact ⟨rfl, rfl, hlow, hhigh⟩
  · exact fun c r hr hc => (hmove.store c r hr hc).trans (getRow_renewLease ..)

end

/-- Settles O46: each clause by the lemma about its step; the refill and the samples fold over distinct buckets and rows
(`forEach_view`), of which each step reaches its own. -/
theorem schedulerAndPolicersAct : Obligations.SchedulerAndPolicersAct := by
  unfold Obligations.SchedulerAndPolicersAct
  exact ⟨fun _ _ _ _ hlen hpow hup hbegun hsend hq => does_schedulerChoose hlen hpow hup hbegun hsend hq,
    fun _ hon hidle => does_shaperRefill hon hidle, fun _ hon => leaves_policerRefill hon,
    fun _ _ _ _ _ _ hp hq ho g => leaves_queueConfigWrite hp hq ho g, fun _ _ _ _ _ hn ho g => leaves_policerWrite hn ho g,
    fun _ _ hp _ => leaves_depthSample hp, fun _ _ _ g hp => leaves_sampleClear g hp⟩

end Sys2Proof.Machine
end

section
/-! Fabric time, its exchanges and the MARK pins (R282 to R290). -/

namespace Sys2Proof.Machine

section
variable {s t u : State} {p : Nat}

/-! ### What the synchroniser's arithmetic leaves -/

/-- The objects that the servo writes. -/
def servoCns : List Nat := [0x9002_01, 0x9002_02, 0x9002_03, 0x9002_04, 0x9002_06]

/-- `t` is `s` but for fabric time, what the servo writes and free values drawn. -/
structure ClockMoves (s t : State) : Prop where
  rest : t = { s with cat := t.cat, time := t.time, freeCount := t.freeCount }
  req : t.time.req = s.time.req
  store : StoreFrame s t servoCns

theorem ClockMoves.refl (s : State) : ClockMoves s s := ⟨rfl, rfl, .refl _⟩

theorem ClockMoves.trans (h : ClockMoves s t) (g : ClockMoves t u) : ClockMoves s u :=
  ⟨by rw [g.rest, h.rest], g.req.trans h.req, h.store.trans g.store⟩

theorem clockMoves_set {cn : Nat} (x : Nat) (h : cn ∈ servoCns) : ClockMoves s (set s cn x) := ⟨rfl, rfl, (StoreFrame.refl _).set x h⟩

theorem clockMoves_time (v : TimeState) (h : v.req = s.time.req) : ClockMoves s { s with time := v } := ⟨rfl, h, .of_cat rfl rfl⟩

theorem clockMoves_ite {c : Prop} [Decidable c] (ht : ClockMoves s t) (hu : ClockMoves s u) :
    ClockMoves s (if c then t else u) := by split <;> assumption

theorem roundFree_eq (s : State) (num : Int) (den : Nat) :
    ∃ n, (roundFree s num den).2 = { s with freeCount := n } := by
  unfold roundFree
  split
  · exact ⟨s.freeCount, rfl⟩
  · exact ⟨s.freeCount + 1, rfl⟩

theorem clockMoves_roundFree (num : Int) (den : Nat) : ClockMoves s (roundFree s num den).2 := by
  obtain ⟨n, h⟩ := roundFree_eq s num den
  rw [h]
  exact ⟨rfl, rfl, .of_cat rfl rfl⟩

theorem steer_eq (s : State) : ∃ n v, steer s = set { s with freeCount := n } 0x9002_04 v := by
  obtain ⟨n, h⟩ := roundFree_eq s (nominalRate * (2 ^ 40 + s.time.freq + s.time.slew)) (2 ^ 40)
  refine ⟨n, clampRate (roundFree s (nominalRate * (2 ^ 40 + s.time.freq + s.time.slew)) (2 ^ 40)).1, ?_⟩
  rw [← h]
  rfl

theorem clockMoves_steer : ClockMoves s (steer s) := by
  obtain ⟨n, v, h⟩ := steer_eq s
  rw [h]
  exact ClockMoves.trans (t := { s with freeCount := n }) ⟨rfl, rfl, .of_cat rfl rfl⟩ (clockMoves_set v (by decide))

theorem clockMoves_stepTime (d : Nat) : ClockMoves s (stepTime s d) := by
  have h : ClockMoves s { s with time.acc := (s.time.acc + d * 2 ^ 32) % 2 ^ 96 } := clockMoves_time _ rfl
  exact h.trans (clockMoves_set (cn := 0x9002_06) _ (by decide))

/-- The eighth small offset in a row locks. -/
def servoLocks (s : State) : State := if s.time.inLock = 8 then set s 0x9002_01 2 else s

/-- A large offset ends the lock. -/
def servoUnlocks (s : State) (theta : Int) (lock : Nat) : State :=
  if timeState s = 2 && 64 * lock < theta.natAbs then set s 0x9002_01 1 else s

/-- How the servo ends. -/
def servoJudged (s : State) (theta : Int) (lock : Nat) : State :=
  servoUnlocks (servoLocks { s with time.inLock := if theta.natAbs ≤ lock then min (s.time.inLock + 1) 8 else 0 }) theta lock

/-- The servo's correction of the rate. -/
def servoSteered (s : State) (theta : Int) (interval : Nat) : State :=
  let f := roundFree s (theta * 2 ^ 40) (16 * interval)
  let l := roundFree f.2 (theta * 2 ^ 40) (4 * interval)
  steer { l.2 with time.freq := l.2.time.freq - f.1, time.slew := -l.1 }

/-- The servo has begun to acquire. -/
def servoAcquires (s : State) : State := if timeState s = 0 then set s 0x9002_01 1 else s

theorem servo_eq (s : State) (theta : Int) (interval : Nat) : servo s theta interval =
    let t := set s 0x9002_02 (unsigned 64 theta)
    if timeState t ≤ 1 && theta < -(get t 0x9001_04 : Int) then
      set (stepTime { t with time.freq := 0, time.inLock := 0 } (-theta).toNat) 0x9002_01 1
    else servoJudged (servoSteered (servoAcquires t) theta interval) theta (get s 0x9001_05) := rfl

theorem clockMoves_servoJudged (theta : Int) (lock : Nat) : ClockMoves s (servoJudged s theta lock) := by
  have hset : ∀ {t : State} (x : Nat), ClockMoves t (set t 0x9002_01 x) := fun x => clockMoves_set x (by decide)
  have hlocks : ∀ t, ClockMoves t (servoLocks t) := fun t => clockMoves_ite (hset 2) (.refl t)
  have hunlocks : ∀ t, ClockMoves t (servoUnlocks t theta lock) := fun t => clockMoves_ite (hset 1) (.refl t)
  have hn : ∀ n, ClockMoves s { s with time.inLock := n } := fun n => clockMoves_time _ rfl
  exact ((hn _).trans (hlocks _)).trans (hunlocks _)

theorem clockMoves_servoSteered (theta : Int) (interval : Nat) : ClockMoves s (servoSteered s theta interval) := by
  have hrate : ∀ (t : State) (x y : Int), ClockMoves t { t with time.freq := x, time.slew := y } := fun t x y =>
    clockMoves_time _ rfl
  exact (((clockMoves_roundFree _ _).trans (clockMoves_roundFree _ _)).trans (hrate _ _ _)).trans clockMoves_steer

theorem clockMoves_servo (theta : Int) (interval : Nat) : ClockMoves s (servo s theta interval) := by
  rw [servo_eq]
  dsimp only
  refine (clockMoves_set (cn := 0x9002_02) (unsigned 64 theta) (by decide)).trans ?_
  generalize set s 0x9002_02 (unsigned 64 theta) = a
  refine clockMoves_ite ?_ ?_
  · have h : ClockMoves a { a with time.freq := 0, time.inLock := 0 } := clockMoves_time _ rfl
    exact (h.trans (clockMoves_stepTime _)).trans (clockMoves_set (cn := 0x9002_01) _ (by decide))
  · refine (ClockMoves.trans (t := servoAcquires a) ?_ (clockMoves_servoSteered ..)).trans (clockMoves_servoJudged ..)
    exact clockMoves_ite (clockMoves_set (cn := 0x9002_01) _ (by decide)) (.refl _)

theorem clockMoves_exchanged (p t1 t2 t3 t4 : Nat) : ClockMoves s (exchanged s p t1 t2 t3 t4) := by
  unfold exchanged
  dsimp only
  refine ClockMoves.trans ?_ (clockMoves_servo _ _)
  exact ((clockMoves_roundFree _ _).trans (clockMoves_roundFree _ _)).trans (clockMoves_set (cn := 0x9002_03) _ (by decide))

/-! ### TIME_SYNC -/

theorem syncSlot_syncPacket (s : State) (p slot : Nat) : syncSlot (syncPacket s p slot) = slot := rfl

/-- A REQ is outstanding from here on. -/
def syncAsked (s : State) (stamp : Nat) : State :=
  { s with time.req := some (s.time.nextReqSeq, stamp % 2 ^ 64), time.nextReqSeq := (s.time.nextReqSeq + 1) % 65536 }

theorem leaves_syncIntervalExpiry {stamp : Nat} (hon : switchOn s = true) (hp : parentPort s = some p) :
    Leaves (exec (.syncIntervalExpiry stamp) s) fun u => ∃ v a,
      v = { s with time.req := some (s.time.nextReqSeq, stamp % 2 ^ 64),
                   time.nextReqSeq := (s.time.nextReqSeq + 1) % 65536 } ∧
      a.opcode = opTimeSync ∧ syncSlot a = s.time.nextReqSeq * 2 ^ 110 ∧ a.vc = 5 ∧ u = (sendAt v p a none).state := by
  have he : whenOn (fun s => syncRequest s stamp) s = syncRequest s stamp := by
    unfold whenOn
    rw [hon, if_pos rfl]
  have hreq : syncRequest s stamp = (sendAt (syncAsked s stamp) p
      (syncPacket (syncAsked s stamp) p (s.time.nextReqSeq * 2 ^ 110)) none).state := by
    unfold syncRequest
    rw [hp]
    rfl
  exact ⟨_, congrArg Host.Outcome.next (he.trans hreq), syncAsked s stamp, _, rfl, rfl, rfl, rfl, rfl⟩

theorem leaves_syncTimeout (h : s.power.porLow = false) (hr : s.time.req.isSome = true) :
    Leaves (exec .syncTimeout s) fun u =>
      get u 0x9002_08 = (get s 0x9002_08 + 1) % 2 ^ 32 ∧ StoreFrame s u [0x9002_08] ∧
      u = { s with cat := u.cat, time.req := none } := by
  have he : syncTimesOut s = count32 { s with time.req := none } 0x9002_08 := by
    unfold syncTimesOut
    rw [hr, if_pos rfl]
  refine ⟨_, congrArg Host.Outcome.next ((unlessPor_of _ h).trans he), ?_, ?_, rfl⟩
  · exact (get_set_same ..).trans (congrArg (fun v => (v + 1) % 2 ^ 32) (getRow_congr rfl rfl ..))
  · exact StoreFrame.set (.of_cat rfl rfl) _ (by simp)

/-- A checked TIME_SYNC acts by its kind. -/
theorem packetArrives_sync {stamp : Nat} {k : Packet} (hop : k.opcode = opTimeSync) (h : Checked s p k t)
    (hu : syncActs t p k stamp = u) (hc : u.coll = t.coll) :
    (.next (settle (packetArrives s p { k with opcode := opTimeSync } stamp)) : Out) = .next (settle u) := by
  have hk : { k with opcode := opTimeSync } = k := by rw [← hop]
  have hacts : requestActs t p k stamp = u := by
    unfold requestActs
    rw [if_pos hop, hu]
  rw [hk, packetArrives_checked h (.inl (by rw [hop]; rfl)) (by rw [hop]; decide) (by rw [hacts, hc]), hacts]

/-- What the answer to a REQ carries. -/
def syncAnswerSlot (s : State) (k : Packet) (stamp : Nat) : Nat :=
  2 ^ 126 + fld (syncSlot k) 125 110 * 2 ^ 110 + b2n (timeState s = 2) * 2 ^ 109 +
    get s 0x9002_05 % 32 * 2 ^ 104 + stamp % 2 ^ 64

theorem syncAnswerSlot_fields (s : State) (k : Packet) (stamp : Nat) :
    fld (syncAnswerSlot s k stamp) 127 126 = 1 ∧ fld (syncAnswerSlot s k stamp) 125 110 = fld (syncSlot k) 125 110 ∧
      bit (syncAnswerSlot s k stamp) 109 = (timeState s == 2) ∧ fld (syncAnswerSlot s k stamp) 63 0 = stamp % 2 ^ 64 := by
  have hseq : fld (syncSlot k) 125 110 < 2 ^ 16 := Nat.mod_lt _ (by decide)
  unfold syncAnswerSlot
  generalize fld (syncSlot k) 125 110 = q at hseq
  generalize get s 0x9002_05 = n
  have hb : ∀ b : Bool, b2n b < 2 := fun b => by cases b <;> decide
  refine ⟨?_, ?_, ?_, ?_⟩
  · have := hb (timeState s = 2)
    unfold fld
    omega
  · have := hb (timeState s = 2)
    unfold fld
    omega
  · unfold bit
    by_cases hs : timeState s = 2
    · simp only [hs, b2n, decide_true, beq_self_eq_true, Nat.testBit_eq_decide_div_mod_eq, if_true]
      simp only [decide_eq_true_eq]
      omega
    · have hs' : (timeState s == 2) = false := by simpa using hs
      simp only [hs, hs', b2n, decide_false, Nat.testBit_eq_decide_div_mod_eq]
      simp only [decide_eq_false_iff_not, Bool.false_eq_true, if_false]
      omega
  · have := hb (timeState s = 2)
    unfold fld
    omega

theorem does_timeSyncReq {stamp : Nat} {k : Packet} (hop : k.opcode = opTimeSync) (hp : p < portsOf s.part)
    (h : Checked s p k t) (hk : syncKind k = 0) :
    Does (exec (.timeSyncReq p k stamp) s) fun u => ∃ a : Packet, a.opcode = opTimeSync ∧ syncKind a = 1 ∧
      fld (syncSlot a) 125 110 = fld (syncSlot k) 125 110 ∧ bit (syncSlot a) 109 = (timeState t == 2) ∧
      fld (syncSlot a) 63 0 = stamp % 2 ^ 64 ∧ u = (sendAt t p a none).state := by
  obtain ⟨a, hopa, hslot, hacts⟩ : ∃ a : Packet, a.opcode = opTimeSync ∧ syncSlot a = syncAnswerSlot t k stamp ∧
      syncActs t p k stamp = (sendAt t p a none).state := by
    refine ⟨syncPacket t p (syncAnswerSlot t k stamp), rfl, syncSlot_syncPacket .., ?_⟩
    unfold syncActs syncAnswer syncAnswerSlot
    rw [if_pos hk]
  have hp8 : p < 8 := lt_of_lt_of_le hp (portsOf_le _)
  obtain ⟨hkind, hseq, hlocked, htime⟩ := syncAnswerSlot_fields t k stamp
  rw [← hslot] at hkind hseq hlocked htime
  exact ⟨_, packetArrives_sync hop h hacts (sends_sendAt hp8 _ _).coll, a, hopa, hkind, hseq, hlocked, htime, rfl⟩

/-- A completed exchange, before it is measured. -/
def exchangeTaken (t : State) (k : Packet) : State :=
  set (count64 { t with time.req := none } 0x9002_07) 0x9002_05 (min 31 (fld (syncSlot k) 108 104 + 1))

theorem exchangeTaken_eq (t : State) (k : Packet) :
    exchangeTaken t k = { t with cat := (exchangeTaken t k).cat, time.req := none } := rfl

theorem get_exchangeTaken (t : State) (k : Packet) :
    get (exchangeTaken t k) 0x9002_07 = (get t 0x9002_07 + 1) % 2 ^ 64 ∧
      get (exchangeTaken t k) 0x9002_05 = min 31 (fld (syncSlot k) 108 104 + 1) := by
  have hreq : ∀ c, get { t with time.req := none } c = get t c := fun _ => getRow_congr rfl rfl ..
  unfold exchangeTaken
  rw [get_set_ne _ _ (by decide), get_count64_same, get_set_same, hreq]
  exact ⟨rfl, rfl⟩

theorem syncResponse_eq {stamp q t1 : Nat} {k : Packet} (hreq : s.time.req = some (q, t1)) (hp : parentPort s = some p)
    (hq : fld (syncSlot k) 125 110 = q) (hl : bit (syncSlot k) 109 = true) :
    ∃ t2 t3, syncResponse s p k stamp = exchanged (exchangeTaken s k) p t1 t2 t3 stamp := by
  unfold syncResponse
  rw [hreq]
  dsimp only
  rw [hp, hq, hl]
  simp only [ne_eq, not_true_eq_false, decide_false, Bool.not_true, Bool.or_self, Bool.false_eq_true, if_false]
  exact ⟨_, _, rfl⟩

/-- An exchange that runs the servo from `a` leaves what `a` holds and the servo does not reach. -/
theorem exchange_leaves {a : State} {n n' : Nat} (hmove : ClockMoves a u) (hrest : a = { t with cat := a.cat, time.req := none })
    (h7 : get a 0x9002_07 = n) (h5 : get a 0x9002_05 = n') : u.coll = t.coll ∧ u.time.req = none ∧ get u 0x9002_07 = n ∧
      get u 0x9002_05 = n' ∧ u = { t with cat := u.cat, time := u.time, freeCount := u.freeCount } := by
  refine ⟨by rw [hmove.rest, hrest], by rw [hmove.req, hrest], ?_, ?_, by rw [hmove.rest, hrest]⟩
  · exact (hmove.store _ _ (by decide) (by decide)).trans h7
  · exact (hmove.store _ _ (by decide) (by decide)).trans h5

theorem does_timeSyncRsp {stamp q t1 : Nat} {k : Packet} (hop : k.opcode = opTimeSync) (h : Checked s p k t)
    (hk : syncKind k = 1) (hreq : t.time.req = some (q, t1)) (hp : parentPort t = some p)
    (hq : fld (syncSlot k) 125 110 = q) (hl : bit (syncSlot k) 109 = true) :
    Does (exec (.timeSyncRsp p k stamp) s) fun u =>
      u.time.req = none ∧ get u 0x9002_07 = (get t 0x9002_07 + 1) % 2 ^ 64 ∧
      get u 0x9002_05 = min 31 (fld (syncSlot k) 108 104 + 1) ∧
      u = { t with cat := u.cat, time := u.time, freeCount := u.freeCount } := by
  obtain ⟨t2, t3, he⟩ := syncResponse_eq (stamp := stamp) hreq hp hq hl
  have hacts : syncActs t p k stamp = exchanged (exchangeTaken t k) p t1 t2 t3 stamp := by
    unfold syncActs
    rw [if_neg (by omega), he]
  obtain ⟨h7, h5⟩ := get_exchangeTaken t k
  obtain ⟨hcoll, hu⟩ := exchange_leaves (clockMoves_exchanged p t1 t2 t3 stamp) (exchangeTaken_eq t k) h7 h5
  exact ⟨_, packetArrives_sync hop h hacts hcoll, hu⟩

/-! ### The servo's states, time_set and the MARK pins -/

theorem leaves_holdoverEntry (h : s.power.porLow = false) (hs : timeState s = 2) (hr : timeRole s ≠ 1) :
    Leaves (exec .holdoverEntry s) fun u => timeState u = 3 ∧ u.time.slew = 0 ∧ u.time.freq = s.time.freq := by
  have he : entersHoldover s = steer (set { s with time.slew := 0 } 0x9002_01 3) := by
    unfold entersHoldover
    simp [hs, hr]
  obtain ⟨n, v, hst⟩ := steer_eq (set { s with time.slew := 0 } 0x9002_01 3)
  refine ⟨_, congrArg Host.Outcome.next (((unlessPor_of _ h).trans he).trans hst), ?_, rfl, rfl⟩
  unfold timeState
  have hfree : ∀ (a : State) n c, get { a with freeCount := n } c = get a c := fun _ _ _ => getRow_congr rfl rfl ..
  rw [get_set_ne _ _ (by decide), hfree, get_set_same]

/-- Fabric time set forward to `v`. -/
def timeStepped (s : State) (v : Nat) : State :=
  stepTime { s with time.acc := s.time.acc / 2 ^ 32 * 2 ^ 32 } (subMod 64 v (now s))

theorem timeStepped_eq (s : State) (v : Nat) :
    stepTime { s with time.acc := s.time.acc / 2 ^ 32 * 2 ^ 32 } (subMod 64 v (now s)) = timeStepped s v := rfl

theorem now_timeStepped {v : Nat} (s : State) (hv : v < 2 ^ 64) : now (timeStepped s v) = v := by
  show (s.time.acc / 2 ^ 32 * 2 ^ 32 + subMod 64 v (now s) * 2 ^ 32) % 2 ^ 96 / 2 ^ 32 % 2 ^ 64 = v
  unfold subMod now
  generalize s.time.acc / 2 ^ 32 = x
  omega

theorem get_timeStepped (s : State) (v : Nat) : get (timeStepped s v) 0x9002_06 = (get s 0x9002_06 + 1) % 2 ^ 32 := by
  have hacc : ∀ n c, get { s with time.acc := n } c = get s c := fun _ _ => getRow_congr rfl rfl ..
  unfold timeStepped stepTime count32 count
  rw [get_set_same]
  dsimp only
  rw [hacc]

theorem leaves_timeSet {rq : Requester} {v : Nat} (g : Granted s rq 0x9001_06 [v]) (hr : timeRole s = 1) (hv : v < 2 ^ 64)
    (hn : newer 64 v (now s) = true) : Leaves (exec (.timeSet rq v) s) fun u =>
      now u = v ∧ get u 0x9002_06 = (get s 0x9002_06 + 1) % 2 ^ 32 ∧ get u 0x9001_06 = cmdValue 2 stOk 0 := by
  have hnow : now (renewLease s rq) = now s := now_renewLease ..
  have hop : timeSetOp v (renewLease s rq) =
      (stepTime { renewLease s rq with time.acc := (renewLease s rq).time.acc / 2 ^ 32 * 2 ^ 32 }
        (subMod 64 v (now (renewLease s rq))), .done stOk 0) := by
    have hrole : timeRole (renewLease s rq) = 1 := (getRow_renewLease ..).trans hr
    unfold timeSetOp
    rw [if_neg (not_not.mpr hrole), hnow, hn, if_neg (by decide)]
  rw [timeStepped_eq] at hop
  have hsteps : get (timeStepped (renewLease s rq) v) 0x9002_06 = (get s 0x9002_06 + 1) % 2 ^ 32 :=
    (get_timeStepped _ v).trans (congrArg (fun v => (v + 1) % 2 ^ 32) (getRow_renewLease ..))
  have htime := now_timeStepped (renewLease s rq) hv
  generalize timeStepped (renewLease s rq) v = t at hop hsteps htime
  refine leaves_commandAccess g hop ⟨?_, ?_, get_doneState (by decide)⟩
  · unfold now at htime ⊢
    rw [doneState_eq]
    exact htime
  · exact (get_doneState_other (by decide) (by decide)).trans hsteps

/-- A role that begins reaches its own state alone. -/
theorem roleBegins_keeps (s : State) : (roleBegins s).time.markOut = s.time.markOut ∧
    StoreFrame s (roleBegins s) [0x9002_01, 0x9002_04, 0x9002_05] := by
  have hnom : ∀ t, StoreFrame t (nominal t) [0x9002_04] := fun t => StoreFrame.set (.of_cat rfl rfl) _ (by simp)
  have hset : ∀ t x, StoreFrame t (set t 0x9002_01 x) [0x9002_01, 0x9002_04, 0x9002_05] := fun t x => (StoreFrame.refl _).set x (by simp)
  have hset5 : ∀ t x, StoreFrame t (set t 0x9002_05 x) [0x9002_01, 0x9002_04, 0x9002_05] := fun t x => (StoreFrame.refl _).set x (by simp)
  have hreq : StoreFrame s { s with time.req := none, time.inLock := 0 } [0x9002_01, 0x9002_04, 0x9002_05] := .of_cat rfl rfl
  unfold roleBegins
  dsimp only
  split
  · exact ⟨rfl, ((hreq.trans ((hnom _).mono (by simp))).trans (hset _ _)).trans (hset5 _ _)⟩
  · split
    · exact ⟨rfl, (hreq.trans (hset _ _)).trans (hset5 _ _)⟩
    · exact ⟨rfl, ((hreq.trans (hset _ _)).trans (hset5 _ _)).trans ((hnom _).mono (by simp))⟩
  · exact ⟨rfl, hreq.trans (hset _ _)⟩

theorem markModeChanged_keeps (s : State) : (markModeChanged s).time.markOut = false ∧
    StoreFrame s (markModeChanged s) [0x9002_01, 0x9002_04, 0x9002_05] := by
  unfold markModeChanged
  dsimp only
  split
  · obtain ⟨hmark, hstore⟩ := roleBegins_keeps { s with time.markOut := false }
    exact ⟨hmark, StoreFrame.trans (.of_cat rfl rfl) hstore⟩
  · exact ⟨rfl, .of_cat rfl rfl⟩

theorem rowWritten_markMode {old : Nat} (h : getRow s 0x9100_01 0 ≠ old) :
    rowWritten s 0x9100_01 0 old = markModeChanged s := by
  have hb : (getRow s 0x9100_01 0 != old) = true := by simpa using h
  unfold rowWritten
  rw [hb]
  rfl

theorem leaves_markModeWrite {rq : Requester} {v : Nat} {o : Obj} (ho : findObj s.part 0x9100_01 = some o)
    (g : GrantedWrite s rq 0x9100_01 0 v) (hne : storedValue s.part o 0x9100_01 v ≠ markMode s) :
    Leaves (exec (.markModeWrite rq v) s) fun u =>
      markMode u = storedValue s.part o 0x9100_01 v ∧ u.time.markOut = false := by
  refine leaves_writeAccess g ho fun b u hb hu => ?_
  rw [rowWritten_markMode (by rw [hb.written]; exact hne)] at hu
  obtain ⟨hmark, hstore⟩ := markModeChanged_keeps b
  refine ⟨?_, by rw [hu.rest]; exact hmark⟩
  exact (hu.reads _ _ (by decide) (by decide)).trans ((hstore _ _ (by decide) (by decide)).trans hb.written)

theorem leaves_markPins (h : s.power.porLow = false) (hm : markMode s = 1) :
    Leaves (exec .markPeriodBoundary s) (fun u => u = { s with time.markOut := true }) ∧
      Leaves (exec .markWidthExpiry s) (fun u => u = { s with time.markOut := false }) := by
  have hb : markBoundary s = { s with time.markOut := true } := by unfold markBoundary; rw [if_pos hm]
  have hw : markWidthOver s = { s with time.markOut := false } := by unfold markWidthOver; rw [if_pos hm]
  exact ⟨⟨_, congrArg Host.Outcome.next ((unlessPor_of _ h).trans hb), rfl⟩,
    ⟨_, congrArg Host.Outcome.next ((unlessPor_of _ h).trans hw), rfl⟩⟩

/-- What an accepted edge on MARK_IN leaves. -/
def edgeTaken (s : State) (stampValue error : Nat) : State :=
  set (count64 (set { s with time.lastEdge := some (now s) } 0x9100_04 stampValue) 0x9100_05) 0x9100_06 error

theorem get_edgeTaken {c : Nat} (h : c ∉ [0x9100_04, 0x9100_05, 0x9100_06]) (x y : Nat) :
    get (edgeTaken s x y) c = get s c := by
  simp only [List.mem_cons, not_or] at h
  obtain ⟨h4, h5, h6, -⟩ := h
  have hedge : get { s with time.lastEdge := some (now s) } c = get s c := getRow_congr rfl rfl ..
  unfold edgeTaken
  rw [get_set_ne _ _ h6, get_count64_ne _ h5, get_set_ne _ _ h4, hedge]

theorem edgeTaken_values (s : State) (x y : Nat) :
    get (edgeTaken s x y) 0x9100_04 = x ∧ get (edgeTaken s x y) 0x9100_05 = (get s 0x9100_05 + 1) % 2 ^ 64 ∧
      get (edgeTaken s x y) 0x9100_06 = y := by
  have hedge : get { s with time.lastEdge := some (now s) } 0x9100_05 = get s 0x9100_05 := getRow_congr rfl rfl ..
  unfold edgeTaken
  rw [get_set_ne _ _ (by decide), get_count64_ne _ (by decide), get_set_same, get_set_ne _ _ (by decide), get_count64_same,
    get_set_ne _ _ (by decide), hedge, get_set_same]
  exact ⟨rfl, rfl, rfl⟩

theorem edgeTaken_frame (s : State) (x y : Nat) : StoreFrame s (edgeTaken s x y) [0x9100_04, 0x9100_05, 0x9100_06] ∧
    edgeTaken s x y = { s with cat := (edgeTaken s x y).cat, time.lastEdge := some (now s) } := by
  refine ⟨?_, rfl⟩
  have h : StoreFrame s { s with time.lastEdge := some (now s) } [0x9100_04, 0x9100_05, 0x9100_06] := .of_cat rfl rfl
  exact StoreFrame.set (StoreFrame.set (h.set _ (by simp)) _ (by simp)) _ (by simp)

theorem markEdge_cases (s : State) (h : markMode s = 1)
    (hsoon : (s.time.lastEdge.any fun t => decide (subMod 64 (now s) t < 256000)) = false) : ∃ x y w,
      stamp s 10 = x ∧ unsigned 64 (nearestError (now s) (get s 0x9100_02)) = y ∧
      markEdge s = if timeRole (edgeTaken s x y) = 2 then w else edgeTaken s x y := by
  unfold markEdge
  rw [h, hsoon]
  exact ⟨_, _, _, rfl, rfl, rfl⟩

theorem timeRole_edgeTaken (x y : Nat) : timeRole (edgeTaken s x y) = timeRole s := by
  unfold timeRole
  rw [get_edgeTaken (by decide)]

theorem edge_notSoon (he : ∀ e, s.time.lastEdge = some e → 256000 ≤ subMod 64 (now s) e) :
    (s.time.lastEdge.any fun t => decide (subMod 64 (now s) t < 256000)) = false := by
  cases hl : s.time.lastEdge with
  | none => rfl
  | some e =>
    rw [Option.any_some]
    exact decide_eq_false (Nat.not_lt.mpr (he e hl))

theorem markEdge_eq (hm : markMode s = 1) (hr : timeRole s ≠ 2)
    (he : ∀ e, s.time.lastEdge = some e → 256000 ≤ subMod 64 (now s) e) :
    ∃ x y, stamp s 10 = x ∧ unsigned 64 (nearestError (now s) (get s 0x9100_02)) = y ∧ markEdge s = edgeTaken s x y := by
  obtain ⟨x, y, w, hx, hy, h⟩ := markEdge_cases s hm (edge_notSoon he)
  exact ⟨x, y, hx, hy, by rw [h, timeRole_edgeTaken, if_neg hr]⟩

theorem leaves_markInEdge (h : s.power.porLow = false) (hm : markMode s = 1) (hr : timeRole s ≠ 2)
    (he : ∀ e, s.time.lastEdge = some e → 256000 ≤ subMod 64 (now s) e) : Leaves (exec .markInEdge s) fun u =>
      get u 0x9100_04 = stamp s 10 ∧ get u 0x9100_05 = (get s 0x9100_05 + 1) % 2 ^ 64 ∧
      get u 0x9100_06 = unsigned 64 (nearestError (now s) (get s 0x9100_02)) ∧
      StoreFrame s u [0x9100_04, 0x9100_05, 0x9100_06] ∧
      u = { s with cat := u.cat, time.lastEdge := some (now s) } := by
  obtain ⟨x, y, hx, hy, hedge⟩ := markEdge_eq hm hr he
  obtain ⟨h4, h5, h6⟩ := edgeTaken_values s x y
  obtain ⟨hstore, hrest⟩ := edgeTaken_frame s x y
  rw [hx, hy]
  exact ⟨_, congrArg Host.Outcome.next ((unlessPor_of _ h).trans hedge), h4, h5, h6, hstore, hrest⟩

theorem fld_stopValue (cause x : Nat) (h : cause < 256) :
    fld (1 + cause * 256 + x * 2 ^ 128) 7 0 = 1 ∧ fld (1 + cause * 256 + x * 2 ^ 128) 15 8 = cause := by
  unfold fld
  omega

theorem logEvent_time (t : State) (island kind status detail : Nat) : (logEvent t island kind status detail).time = t.time := by
  unfold logEvent
  split
  · rfl
  · exact set_time ..

theorem writeError_time (t : State) (island code : Nat) : (writeError t island code).time = t.time := by
  unfold writeError
  dsimp only
  rw [logEvent_time, set_time, set_time]

/-- Under STOP a stop raises MARK_OUT. -/
theorem markOut_triggerStop {cause island : Nat} (h : stopped s = false) (hm : markMode s = 2) :
    (triggerStop s cause island).time.markOut = true := by
  have hmode : ∀ v, get (light (set s 0xC200_02 v) 0xD000_03 32) 0x9100_01 = 2 := fun v => by
    rw [get_light_ne (by decide), get_set_ne _ _ (by decide)]
    exact hm
  have he : ∀ v, 1 + cause * 256 + stamp s island * 2 ^ 128 = v → triggerStop s cause island =
      stopTold (light (set s 0xC200_02 v) 0xD000_03 32)
        ((light (set s 0xC200_02 v) 0xD000_03 32).time.markOut ||
          get (light (set s 0xC200_02 v) 0xD000_03 32) 0x9100_01 == 2) cause island := fun v hv => by
    unfold triggerStop
    rw [h, if_neg Bool.false_ne_true, hv]
    rfl
  have hsend : ∀ t : State, (reportOwn t 0x26 15 cause).time = t.time := fun t =>
    congrArg (·.time) (sends_report _ _ _ _ _).rest
  have herr : ∀ t : State, (writeError t island (0x7000 + cause)).time = t.time := fun t =>
    writeError_time ..
  rw [he _ rfl, hmode]
  unfold stopTold
  rw [hsend, dropFormed, herr]
  simp

theorem does_markInStop (hheld : held s = false) (h : stopped s = false) (hm : markMode s = 2) :
    Does (exec .markInStop s) fun u => stopped u = true ∧ u.time.markOut = true ∧ fld (get u 0xC200_02) 15 8 = 2 := by
  have hstops : unlessHeld markStops s = triggerStop s 2 10 := by
    unfold unlessHeld markStops
    rw [hheld, if_neg Bool.false_ne_true, if_pos hm]
  have hget := get_triggerStop (cause := 2) (island := 10) h
  refine ⟨_, congrArg (fun t => Host.Outcome.next (settle t)) hstops, ?_, markOut_triggerStop h hm, ?_⟩
  · unfold stopped
    rw [hget]
    exact congrArg (· == 1) (fld_stopValue 2 _ (by decide)).1
  · rw [hget]
    exact (fld_stopValue 2 _ (by decide)).2

end

/-- Settles O51: each exchange, edge and command by the state that it leaves; of the servo only what it cannot reach is
needed (`ClockMoves`). -/
theorem timeAndMarkAct : Obligations.TimeAndMarkAct := by
  unfold Obligations.TimeAndMarkAct
  exact ⟨fun _ _ _ hon hp => leaves_syncIntervalExpiry hon hp, fun _ h hr => leaves_syncTimeout h hr,
    fun _ _ _ _ _ hop hp h hk => does_timeSyncReq hop hp h hk,
    fun _ _ _ _ _ _ _ hop _ h hk hreq hp hq hl => does_timeSyncRsp hop h hk hreq hp hq hl,
    fun _ h hs hr => leaves_holdoverEntry h hs hr, fun _ _ _ g hr hv hn => leaves_timeSet g hr hv hn,
    fun _ _ _ _ ho g hne => leaves_markModeWrite ho g hne, fun _ h hm => leaves_markPins h hm,
    fun _ h hm hr he => leaves_markInEdge h hm hr he, fun _ hheld h hm => does_markInStop hheld h hm⟩

end Sys2Proof.Machine
end

section
/-! Shelf net: frames that arrive, requests, discovery, the address protocol and acknowledged reports (R268 to R274,
R322). -/

namespace Sys2Proof.Machine

section
variable {s t u : State}

/-! ### A frame that arrives -/

/-- A frame in the subset has been taken. -/
def frameTaken (s : State) : State := count64 { s with mgmt.mii.rxEr := false } 0x1210_01

theorem frameTaken_rest (s : State) : frameTaken s = { s with cat := (frameTaken s).cat, mgmt.mii.rxEr := false } := rfl

theorem getRow_rxEr (s : State) (b : Bool) (c r : Nat) : getRow { s with mgmt.mii.rxEr := b } c r = getRow s c r :=
  getRow_congr rfl rfl ..

theorem get_frameTaken (s : State) : get (frameTaken s) 0x1210_01 = (get s 0x1210_01 + 1) % 2 ^ 64 := by
  unfold frameTaken
  rw [get_count64_same, get, getRow_rxEr]
  rfl

theorem store_frameTaken (s : State) : StoreFrame s (frameTaken s) [0x1210_01] :=
  StoreFrame.set (.of_cat rfl rfl) _ (by simp)

theorem get_frameTaken_ne {c : Nat} (h : c ≠ 0x1210_01) : get (frameTaken s) c = get s c :=
  store_frameTaken s c 0 (by decide) (by simpa using h)

theorem frameTaken_part (s : State) : (frameTaken s).part = s.part := rfl

theorem shelfAddress_congr (h : get t 0x1200_02 = get s 0x1200_02) : shelfAddress t = shelfAddress s := by
  unfold shelfAddress
  rw [h]

theorem shelfAddress_frameTaken (s : State) : shelfAddress (frameTaken s) = shelfAddress s :=
  shelfAddress_congr (get_frameTaken_ne (by decide))

/-- The MAC may transmit, as far as state and store decide it. -/
theorem shelfOn_congr (hstore : ∀ c ∈ [0x8010_03, 0x1200_01, 0x1200_02], get t c = get s c)
    (hres : t.recovery.restarting = s.recovery.restarting) (hpow : t.power = s.power) (hdad : t.mgmt.dad = s.mgmt.dad)
    (hfail : t.mgmt.dadFailed = s.mgmt.dadFailed) : shelfOn t = shelfOn s := by
  unfold shelfOn firmwareRuns held
  rw [hstore 0x8010_03 (by simp), hstore 0x1200_01 (by simp), hstore 0x1200_02 (by simp), hres, hpow, hdad, hfail]

theorem shelfOn_frameTaken (s : State) : shelfOn (frameTaken s) = shelfOn s :=
  shelfOn_congr (fun c hc => get_frameTaken_ne fun e => by rw [e] at hc; revert hc; decide) rfl rfl rfl rfl

section
variable {f : MacFrame} {ok : Bool} {act : State → State}

theorem servesFabric_rxEr (b : Bool) : servesFabric { s with mgmt.mii.rxEr := b } = servesFabric s := by
  unfold servesFabric firmwareRuns held
  rw [show get { s with mgmt.mii.rxEr := b } 0x8010_03 = get s 0x8010_03 from getRow_rxEr ..]

theorem shelfFrame_taken (hs : servesFabric s = true) (hr : f.rxEr = false) (hok : ok = true) :
    shelfFrame s f ok act = act (frameTaken s) := by
  unfold shelfFrame
  dsimp only
  rw [servesFabric_rxEr, hs, hr, hok]
  rfl

theorem shelfFrame_discards (hr : f.rxEr = true) : shelfFrame s f ok act = { s with mgmt.mii.rxEr := true } := by
  unfold shelfFrame
  simp only [hr, Bool.or_true, if_true]

theorem shelfFrame_drops (hs : servesFabric s = true) (hr : f.rxEr = false) (hok : ok = false) :
    shelfFrame s f ok act = count64 { s with mgmt.mii.rxEr := false } 0x1210_02 := by
  unfold shelfFrame
  dsimp only
  rw [servesFabric_rxEr, hs, hr, hok]
  rfl

/-- What a frame leaves that is not in the subset. -/
theorem frameLost (hs : servesFabric s = true) :
    (f.rxEr = true → shelfFrame s f ok act = { s with mgmt.mii.rxEr := true }) ∧
      (f.rxEr = false → ok = false → get (shelfFrame s f ok act) 0x1210_02 = (get s 0x1210_02 + 1) % 2 ^ 64 ∧
        StoreFrame s (shelfFrame s f ok act) [0x1210_02] ∧
        shelfFrame s f ok act = { s with cat := (shelfFrame s f ok act).cat, mgmt.mii.rxEr := false }) := by
  refine ⟨shelfFrame_discards, fun hr hok => ?_⟩
  rw [shelfFrame_drops hs hr hok]
  refine ⟨?_, StoreFrame.set (.of_cat rfl rfl) _ (by simp), rfl⟩
  rw [get_count64_same, get, getRow_rxEr]
  rfl

end

/-! ### Datagrams -/

section
variable {d : Datagram} {addr udp dst type : Nat}

theorem shelfTyped_eq (h : d.bytes.length < 16 ∨ commandType (messageOf d.bytes).type = type) :
    shelfTyped s d type addr udp dst = shelfFrame s d.frame (datagramFits s d addr udp dst) fun s =>
      shelfMessage s addr udp (dst == shelfAddress s) d.bytes := by
  unfold shelfTyped
  rw [if_pos (by simpa using h)]

theorem shelfTyped_taken (hs : servesFabric s = true) (hr : d.frame.rxEr = false)
    (hf : datagramFits s d addr udp dst = true) (ht : commandType (messageOf d.bytes).type = type) :
    shelfTyped s d type addr udp dst = shelfMessage (frameTaken s) addr udp (dst == shelfAddress s) d.bytes := by
  rw [shelfTyped_eq (.inr ht), shelfFrame_taken hs hr hf, shelfAddress_frameTaken]

theorem commandType_of (h : 2 ≤ type) (h' : type ≤ 6) : commandType type = type := by
  unfold commandType
  simp [h, h']

/-- A message that the block never answers is counted. -/
theorem shelfMessage_counts {a b cn : Nat} {uni : Bool} {bs : List Byte} (hlen : 16 ≤ bs.length)
    (h : (type, cn) ∈ [(5, 0xA202_06), (2, 0x1210_03), (4, 0x1210_03)]) (ht : (messageOf bs).type = type) :
    shelfMessage s a b uni bs = count64 s cn := by
  unfold shelfMessage
  rw [if_neg (by omega)]
  dsimp only
  rw [ht]
  simp only [List.mem_cons, Prod.mk.injEq, List.not_mem_nil, or_false] at h
  rcases h with ⟨rfl, rfl⟩ | ⟨rfl, rfl⟩ | ⟨rfl, rfl⟩ <;> rfl

theorem leaves_counted {cn : Nat} {c : Instr} (hc : (type, cn, c) ∈
      [(5, 0xA202_06, Instr.notify d), (2, 0x1210_03, .response d), (4, 0x1210_03, .discoverRsp d)])
    (hs : servesFabric s = true) (hr : d.frame.rxEr = false)
    (hf : datagramFits s d d.frame.src d.sport d.frame.dst = true) (hlen : 16 ≤ d.bytes.length)
    (ht : (messageOf d.bytes).type = type) : Leaves (exec c s) fun u =>
      get u 0x1210_01 = (get s 0x1210_01 + 1) % 2 ^ 64 ∧ get u cn = (get s cn + 1) % 2 ^ 64 ∧
      StoreFrame s u [0x1210_01, cn] ∧ u = { s with cat := u.cat, mgmt.mii.rxEr := false } := by
  have htype : 2 ≤ type ∧ type ≤ 6 ∧ cn ≠ 0x1210_01 ∧ (type, cn) ∈ [(5, 0xA202_06), (2, 0x1210_03), (4, 0x1210_03)] ∧
      exec c s = .next (shelfFrom s d type) := by
    simp only [List.mem_cons, Prod.mk.injEq, List.not_mem_nil, or_false] at hc
    rcases hc with ⟨rfl, rfl, rfl⟩ | ⟨rfl, rfl, rfl⟩ | ⟨rfl, rfl, rfl⟩ <;> exact ⟨by decide, by decide, by decide, by simp, rfl⟩
  obtain ⟨h2, h6, hcn, hmem, hexec⟩ := htype
  have he : shelfFrom s d type = count64 (frameTaken s) cn :=
    (shelfTyped_taken hs hr hf (by rw [ht]; exact commandType_of h2 h6)).trans (shelfMessage_counts hlen hmem ht)
  rw [he] at hexec
  refine ⟨_, hexec, ?_, ?_, ?_, rfl⟩
  · rw [get_count64_ne _ hcn.symm, get_frameTaken]
  · rw [get_count64_same, get_frameTaken_ne hcn]
  · exact StoreFrame.set ((store_frameTaken s).mono (by simp)) _ (by simp)

/-- A command whose frame is lost. -/
theorem leaves_lost {f : MacFrame} {ok : Bool} {act : State → State} {c : Instr} (hs : servesFabric s = true)
    (hexec : exec c s = .next (shelfFrame s f ok act)) :
    (f.rxEr = true → Leaves (exec c s) fun u => u = { s with mgmt.mii.rxEr := true }) ∧
    (f.rxEr = false → ok = false → Leaves (exec c s) fun u =>
      get u 0x1210_02 = (get s 0x1210_02 + 1) % 2 ^ 64 ∧ StoreFrame s u [0x1210_02] ∧
      u = { s with cat := u.cat, mgmt.mii.rxEr := false }) := by
  obtain ⟨herr, hlost⟩ := frameLost (f := f) (ok := ok) (act := act) hs
  exact ⟨fun hr => ⟨_, hexec, herr hr⟩, fun hr hok => ⟨_, hexec, hlost hr hok⟩⟩

theorem leaves_frameLost {src : Nat} {n : FramedTarget} {e : FramedEcho} {fits : Bool} {f : MacFrame} {c : Instr}
    (hs : servesFabric s = true) (hlen : d.bytes.length < 16) (hc : (fits, f, c) ∈
      [(datagramFits s d d.frame.src d.sport d.frame.dst, d.frame, Instr.notify d),
       (datagramFits s d d.frame.src d.sport d.frame.dst, d.frame, .response d),
       (datagramFits s d d.frame.src d.sport d.frame.dst, d.frame, .discoverRsp d),
       (neighbourFits s n 135 src n.frame.dst, n.frame, .neighbourSolicitation src n),
       (neighbourFits s n 136 n.frame.src n.frame.dst, n.frame, .neighbourAdvertisement n),
       (echoFits s e src dst, e.frame, .echoRequest src dst e)]) :
    (f.rxEr = true → Leaves (exec c s) fun u => u = { s with mgmt.mii.rxEr := true }) ∧
    (f.rxEr = false → fits = false → Leaves (exec c s) fun u =>
      get u 0x1210_02 = (get s 0x1210_02 + 1) % 2 ^ 64 ∧ StoreFrame s u [0x1210_02] ∧
      u = { s with cat := u.cat, mgmt.mii.rxEr := false }) := by
  have hshort : ∀ ty, shelfFrom s d ty = _ := fun _ => shelfTyped_eq (.inl hlen)
  simp only [List.mem_cons, Prod.mk.injEq, List.not_mem_nil, or_false] at hc
  rcases hc with ⟨rfl, rfl, rfl⟩ | ⟨rfl, rfl, rfl⟩ | ⟨rfl, rfl, rfl⟩ | ⟨rfl, rfl, rfl⟩ | ⟨rfl, rfl, rfl⟩ | ⟨rfl, rfl, rfl⟩
  · exact leaves_lost hs (congrArg Host.Outcome.next (hshort 5))
  · exact leaves_lost hs (congrArg Host.Outcome.next (hshort 2))
  · exact leaves_lost hs (congrArg Host.Outcome.next (hshort 4))
  · exact leaves_lost hs rfl
  · exact leaves_lost hs rfl
  · exact leaves_lost hs rfl

end

/-! ### The address protocol -/

theorem leaves_solicitation {src : Nat} {n : FramedTarget} (hs : servesFabric s = true) (hr : n.frame.rxEr = false)
    (hf : neighbourFits s n 135 src n.frame.dst = true) (hd : s.mgmt.dad = false) (hon : shelfOn s = true) :
    Leaves (exec (.neighbourSolicitation src n) s) fun u =>
      u.mgmt.shelfOut = s.mgmt.shelfOut ++
        [{ addr := if src = 0 then allNodes else src, udp := 0,
           bytes := advertisement s (if src = 0 then allNodes else src) }] ∧
      get u 0x1210_01 = (get s 0x1210_01 + 1) % 2 ^ 64 ∧ StoreFrame s u [0x1210_01] ∧
      u = { s with cat := u.cat, mgmt := u.mgmt } := by
  have hadv : ∀ x, advertisement (frameTaken s) x = advertisement s x := fun x => by
    unfold advertisement
    rw [shelfAddress_frameTaken, get_frameTaken_ne (by decide)]
  have he : solicited s src n = sendShelf (frameTaken s) (if src = 0 then allNodes else src) 0
      (advertisement s (if src = 0 then allNodes else src)) := by
    unfold solicited
    rw [shelfFrame_taken hs hr hf]
    dsimp only
    rw [show (frameTaken s).mgmt.dad = false from hd, shelfOn_frameTaken, hon, hadv]
    rfl
  exact ⟨_, congrArg Host.Outcome.next he, rfl, get_frameTaken s, store_frameTaken s, rfl⟩

theorem leaves_echo {src dst : Nat} {e : FramedEcho} (hs : servesFabric s = true) (hr : e.frame.rxEr = false)
    (hf : echoFits s e src dst = true) (hon : shelfOn s = true) : Leaves (exec (.echoRequest src dst e) s) fun u =>
      u.mgmt.shelfOut = s.mgmt.shelfOut ++
        [{ addr := src, udp := 0, bytes := icmpMessage (shelfAddress s) src 129 e.bytes }] ∧
      get u 0x1210_01 = (get s 0x1210_01 + 1) % 2 ^ 64 ∧ StoreFrame s u [0x1210_01] ∧
      u = { s with cat := u.cat, mgmt := u.mgmt } := by
  have he : echoed s src dst e = sendShelf (frameTaken s) src 0 (icmpMessage (shelfAddress s) src 129 e.bytes) := by
    unfold echoed
    rw [shelfFrame_taken hs hr hf, shelfOn_frameTaken, hon, shelfAddress_frameTaken]
    rfl
  exact ⟨_, congrArg Host.Outcome.next he, rfl, get_frameTaken s, store_frameTaken s, rfl⟩

/-- An address in conflict silences Shelf net. -/
theorem addressConflict_leaves (s : State) : (addressConflict s).mgmt.dad = false ∧
    (addressConflict s).mgmt.dadFailed = true ∧ get (addressConflict s) 0x1210_06 = (get s 0x1210_06 + 1) % 2 ^ 32 := by
  have hs := sends_report (s := count32 { s with mgmt.dad := false, mgmt.dadFailed := true } 0x1210_06) 0x11 15
    (ownId (count32 { s with mgmt.dad := false, mgmt.dadFailed := true } 0x1210_06))
    (ownEdition (count32 { s with mgmt.dad := false, mgmt.dadFailed := true } 0x1210_06)) 0
  have hdad : ∀ c, get { s with mgmt.dad := false, mgmt.dadFailed := true } c = get s c := fun _ => getRow_congr rfl rfl ..
  refine ⟨congrArg (·.mgmt.dad) hs.rest, congrArg (·.mgmt.dadFailed) hs.rest, ?_⟩
  refine (hs.store 0x1210_06 0 (by decide) (by decide)).trans ?_
  exact (get_set_same ..).trans (congrArg (fun v => (v + 1) % 2 ^ 32) (hdad _))

theorem leaves_advertisement {n : FramedTarget} (hs : servesFabric s = true) (hr : n.frame.rxEr = false)
    (hf : neighbourFits s n 136 n.frame.src n.frame.dst = true) : Leaves (exec (.neighbourAdvertisement n) s) fun u =>
      (s.mgmt.dad = false → get u 0x1210_01 = (get s 0x1210_01 + 1) % 2 ^ 64 ∧ StoreFrame s u [0x1210_01] ∧
        u = { s with cat := u.cat, mgmt.mii.rxEr := false }) ∧
      (s.mgmt.dad = true → u.mgmt.dad = false ∧ u.mgmt.dadFailed = true ∧
        get u 0x1210_06 = (get s 0x1210_06 + 1) % 2 ^ 32) := by
  have he : advertised s n = if s.mgmt.dad then addressConflict (frameTaken s) else frameTaken s := by
    unfold advertised
    rw [shelfFrame_taken hs hr hf]
    rfl
  refine ⟨_, congrArg Host.Outcome.next he, fun hd => ?_, fun hd => ?_⟩
  · rw [hd, if_neg (by decide)]
    exact ⟨get_frameTaken s, store_frameTaken s, rfl⟩
  · rw [hd, if_pos rfl]
    obtain ⟨hdad, hfail, hcount⟩ := addressConflict_leaves (frameTaken s)
    exact ⟨hdad, hfail, hcount.trans (by rw [get_frameTaken_ne (by decide)])⟩

/-! ### Discovery -/

/-- The items of a DISCOVER_RSP. -/
def discoverCns : List Nat := [0x1000_01, 0x1000_02, 0x1000_03, 0x1001_00, 0x1002_00, 0x1100_00]

theorem readRow_discover {cn : Nat} (h : cn ∈ discoverCns) : readRow s cn 0 = get s cn := by
  simp only [discoverCns, List.mem_cons, List.not_mem_nil, or_false] at h
  rcases h with rfl | rfl | rfl | rfl | rfl | rfl <;> rfl

theorem discoverBytes_congr (hp : t.part = s.part) (h : ∀ cn ∈ discoverCns, get t cn = get s cn) (n : Nat) :
    discoverBytes t n = discoverBytes s n := by
  unfold discoverBytes
  refine congrArg (messageBytes 4 stOk n) (List.map_congr_left fun cn hcn => ?_)
  have hd : cn ∈ discoverCns := hcn
  rw [hp, readRow_discover hd, readRow_discover hd, h cn hd]

/-- The answer to a DISCOVER goes where the MAC may transmit. -/
theorem shelfAnswer_out (s : State) (addr udp : Nat) (bs : List Byte) :
    (shelfOn s = true → (shelfAnswer s addr udp bs).mgmt.shelfOut =
      s.mgmt.shelfOut ++ [{ addr := addr, udp := udp, bytes := bs }]) ∧
    (shelfOn s = false → (shelfAnswer s addr udp bs).mgmt.shelfOut = s.mgmt.shelfOut) ∧
    shelfAnswer s addr udp bs = { s with mgmt.shelfOut := (shelfAnswer s addr udp bs).mgmt.shelfOut } := by
  unfold shelfAnswer
  split
  · next h => exact ⟨fun _ => rfl, fun h' => absurd (h.symm.trans h') (by decide), rfl⟩
  · next h => exact ⟨fun h' => absurd h' h, fun _ => rfl, rfl⟩

theorem leaves_discoverDelayExpiry {addr udp n : Nat} {ds : List (Nat × Nat × Nat)}
    (h : s.mgmt.discovers = (addr, udp, n) :: ds) : Leaves (exec .discoverDelayExpiry s) fun u =>
      u.mgmt.discovers = ds ∧ (shelfOn s = true → u.mgmt.shelfOut = s.mgmt.shelfOut ++
        [{ addr := addr, udp := udp, bytes := discoverBytes s n }]) ∧ u = { s with mgmt := u.mgmt } := by
  have he : discoverAnswers s = shelfAnswer { s with mgmt.discovers := ds } addr udp (discoverBytes s n) := by
    unfold discoverAnswers
    rw [h]
  have hget : ∀ c, get { s with mgmt.discovers := ds } c = get s c := fun _ => getRow_congr rfl rfl ..
  have hon : shelfOn { s with mgmt.discovers := ds } = shelfOn s := shelfOn_congr (fun c _ => hget c) rfl rfl rfl rfl
  obtain ⟨hout, -, hrest⟩ := shelfAnswer_out { s with mgmt.discovers := ds } addr udp (discoverBytes s n)
  rw [hon] at hout
  refine ⟨_, congrArg Host.Outcome.next he, ?_, hout, ?_⟩
  · rw [hrest]
  · rw [hrest]

theorem does_discover {addr udp dst : Nat} {d : Datagram} {m : Message} {uni : Bool} (hs : servesFabric s = true)
    (hr : d.frame.rxEr = false) (huni : uni = true → dst = shelfAddress s)
    (hmulti : uni = false → dst = d.frame.dst ∧ dst ≠ shelfAddress s) (hf : datagramFits s d addr udp dst = true)
    (hlen : d.bytes.length = 16) (hm : m = messageOf d.bytes) (hv : m.version = 1) (ht : m.type = 3) (hc : m.count = 0)
    (hl : m.length = 16) : Does (exec (.discover addr udp uni d) s) fun u =>
      get u 0x1210_01 = (get s 0x1210_01 + 1) % 2 ^ 64 ∧ StoreFrame s u [0x1210_01] ∧
      (uni = true → u.mgmt.discovers = s.mgmt.discovers ∧ (shelfOn s = true → u.mgmt.shelfOut = s.mgmt.shelfOut ++
        [{ addr := addr, udp := udp, bytes := discoverBytes s m.number }])) ∧
      (uni = false → u.mgmt.discovers = s.mgmt.discovers ++ [(addr, udp, m.number)] ∧
        u.mgmt.shelfOut = s.mgmt.shelfOut) ∧ u = { s with cat := u.cat, mgmt := u.mgmt } := by
  have hto : (if uni then shelfAddress s else d.frame.dst) = dst ∧ (dst == shelfAddress s) = uni := by
    cases uni with
    | true => exact ⟨(huni rfl).symm, by rw [huni rfl]; exact beq_self_eq_true _⟩
    | false => exact ⟨(hmulti rfl).1.symm, beq_false_of_ne (hmulti rfl).2⟩
  obtain ⟨hto, hown⟩ := hto
  have hmsg : shelfMessage (frameTaken s) addr udp uni d.bytes = discovered (frameTaken s) addr udp uni m.number := by
    unfold shelfMessage
    rw [if_neg (by omega)]
    dsimp only
    rw [← hm, ht, hv, hc, hl, hlen]
    rfl
  have he : shelfTyped s d 3 addr udp (if uni then shelfAddress s else d.frame.dst) =
      discovered (frameTaken s) addr udp uni m.number := by
    rw [hto, shelfTyped_taken hs hr hf (by rw [← hm, ht]; rfl), hown, hmsg]
  refine ⟨_, congrArg (fun t => Host.Outcome.next (settle t)) he, ?_⟩
  cases uni with
  | false =>
    exact ⟨get_frameTaken s, store_frameTaken s, fun h => absurd h (by decide), fun _ => ⟨rfl, rfl⟩, rfl⟩
  | true =>
    have hbytes : discoverBytes (frameTaken s) m.number = discoverBytes s m.number :=
      discoverBytes_congr (frameTaken_part s) (fun cn hcn => get_frameTaken_ne fun e =>
        absurd (show 0x1210_01 ∈ discoverCns from e ▸ hcn) (by decide)) _
    obtain ⟨hout, -, hrest⟩ := shelfAnswer_out (frameTaken s) addr udp (discoverBytes s m.number)
    rw [shelfOn_frameTaken] at hout
    have hd : discovered (frameTaken s) addr udp true m.number = shelfAnswer (frameTaken s) addr udp (discoverBytes s m.number) := by
      rw [← hbytes]
      rfl
    rw [hd]
    generalize shelfAnswer (frameTaken s) addr udp (discoverBytes s m.number) = u at hout hrest
    have hget : ∀ c r, getRow u c r = getRow (frameTaken s) c r := getRow_congr (by rw [hrest]) (by rw [hrest])
    refine ⟨(hget ..).trans (get_frameTaken s), fun c r hr hc => (hget c r).trans (store_frameTaken s c r hr hc),
      fun _ => ⟨?_, hout⟩, fun h => absurd h (by decide), ?_⟩
    · rw [hrest]; rfl
    · rw [hrest]; rfl

end

end Sys2Proof.Machine
end

section
/-! Requests over Shelf net, acknowledged reports, clients and leases (R268 to R271, R322). -/

namespace Sys2Proof.Machine

section
variable {s t u : State} {d : Datagram} {addr udp n : Nat}

/-! ### Rows of the store -/

theorem lookupT_of_mem {α : Type} {m : Table α} {k : Nat} {v : α} (hs : sortedT m = true) (h : (k, v) ∈ m) :
    lookupT m k = some v := by
  induction m with
  | nil => exact absurd h List.not_mem_nil
  | cons e m ih =>
    obtain ⟨j, w⟩ := e
    obtain ⟨habove, hsorted⟩ := (sortedT_cons j w m).mp hs
    rcases List.mem_cons.mp h with h | h
    · obtain ⟨rfl, rfl⟩ := Prod.mk.inj h
      exact if_pos rfl
    · have hlt : j < k := habove _ h
      rw [lookupT, if_neg (by omega), ih hsorted h]

/-- In a sorted store the rows of an object read as listed, and every row that differs from its default is listed. -/
theorem mem_rowsOf {cn r v : Nat} (hs : sortedT s.cat = true) (h : (r, v) ∈ rowsOf s cn) : r < 2 ^ 32 ∧ getRow s cn r = v := by
  refine ⟨rowsOf_lt h, ?_⟩
  unfold rowsOf at h
  obtain ⟨e, he, hx⟩ := List.mem_filterMap.mp h
  split at hx
  · next hcn =>
    obtain ⟨hr, hv⟩ := Prod.mk.inj (Option.some.inj hx)
    have hkey : e.1 = catKey cn r := by unfold catKey; omega
    have hlook := lookupT_of_mem hs (show (catKey cn r, v) ∈ s.cat by rw [← hkey, ← hv]; exact he)
    unfold getRow
    rw [hlook]
    rfl
  · cases hx

theorem mem_of_lookupT {α : Type} {m : Table α} {k : Nat} {v : α} (h : lookupT m k = some v) : (k, v) ∈ m := by
  induction m with
  | nil => exact absurd h (by simp [lookupT])
  | cons e m ih =>
    rw [lookupT] at h
    split at h
    · next hk => rw [hk, ← Option.some.inj h]; exact List.mem_cons_self ..
    · exact List.mem_cons_of_mem _ (ih h)

theorem rowsOf_mem {cn r : Nat} (hr : r < 2 ^ 32) (h : getRow s cn r ≠ defaultOf s.part cn r) :
    (r, getRow s cn r) ∈ rowsOf s cn := by
  unfold getRow at h ⊢
  cases hl : lookupT s.cat (catKey cn r) with
  | none => exact absurd (by rw [hl]; rfl) h
  | some v =>
    refine List.mem_filterMap.mpr ⟨(catKey cn r, v), mem_of_lookupT hl, ?_⟩
    have h1 : catKey cn r / 2 ^ 32 = cn := by unfold catKey; omega
    have h2 : catKey cn r % 2 ^ 32 = r := by unfold catKey; omega
    rw [h1, h2, if_pos rfl]
    rfl

/-! ### Acknowledged reports -/

/-- A report row is the one that an acknowledgement names. -/
def acked (slot : Nat) (v : Nat) : Bool :=
  fld v 255 254 != 0 && fld v 211 196 == fld slot 127 112 && fld v 253 246 == fld slot 111 104 &&
    fld v 241 220 == fld slot 103 82 && fld v 219 212 == fld slot 81 74

/-- What an acknowledgement of row `n` leaves. -/
structure ReportAcked (s : State) (n : Nat) (u : State) : Prop where
  freed : getRow u reportCn n = 0
  counted : get u 0xA202_02 = (get s 0xA202_02 + 1) % 2 ^ 64
  others : ∀ m, m < 256 → m ≠ n → getRow u reportCn m = getRow s reportCn m
  store : StoreFrame s u [reportCn, 0xA202_02, 0xA202_04]
  rest : u = { s with cat := u.cat }

theorem reportAck_finds {slot v : Nat} (hf : (rowsOf s reportCn).find? (fun e => acked slot e.2) = some (n, v))
    (h3 : get s 0xA202_03 = 0) :
    reportAck s slot = setRow (count64 s 0xA202_02) reportCn n 0 ∨
      reportAck s slot = set (setRow (count64 s 0xA202_02) reportCn n 0) 0xA202_04 0 := by
  have hlost : get (setRow (count64 s 0xA202_02) reportCn n 0) 0xA202_03 = 0 := by
    have hlt : n < 2 ^ 32 := rowsOf_lt (List.mem_of_find?_eq_some hf)
    rw [get, getRow_setRow_ne _ _ (fun e => absurd ((catKey_inj (by decide) hlt).mp e).1 (by decide))]
    exact (get_count64_ne _ (by decide)).trans h3
  have hfree : reportFreeRow (count64 s 0xA202_02) n = setRow (count64 s 0xA202_02) reportCn n 0 := by
    unfold reportFreeRow
    dsimp only
    rw [hlost, if_pos rfl]
  have hfind : (rowsOf s reportCn).find? (fun e =>
      fld e.2 255 254 != 0 && fld e.2 211 196 == fld slot 127 112 &&
        fld e.2 253 246 == fld slot 111 104 && fld e.2 241 220 == fld slot 103 82 &&
        fld e.2 219 212 == fld slot 81 74) = some (n, v) := hf
  unfold reportAck
  rw [hfind]
  dsimp only
  rw [hfree]
  split
  · exact .inr rfl
  · exact .inl rfl

theorem reportAcked_setRow (hn : n < 256) : ReportAcked s n (setRow (count64 s 0xA202_02) reportCn n 0) := by
  have hcn : ∀ {c r : Nat}, r < 2 ^ 32 → (c ≠ reportCn ∨ r ≠ n) → catKey c r ≠ catKey reportCn n := fun hr h e => by
    have := (catKey_inj hr (by omega)).mp e
    tauto
  refine ⟨getRow_setRow_same .., ?_, fun m hm hne => ?_, ?_, rfl⟩
  · rw [get, getRow_setRow_ne _ _ (hcn (by decide) (.inl (by decide)))]
    exact get_count64_same ..
  · rw [getRow_setRow_ne _ _ (hcn (by omega) (.inr hne))]
    exact getRow_set_ne _ _ (by omega) (by decide)
  · exact StoreFrame.setRow ((StoreFrame.refl _).set _ (by simp)) _ (by omega) (by simp)

theorem ReportAcked.cleared (h : ReportAcked s n u) (hn : n < 256) : ReportAcked s n (set u 0xA202_04 0) := by
  refine ⟨?_, ?_, fun m hm hne => ?_, h.store.set _ (by simp), ?_⟩
  · rw [getRow_set_ne _ _ (by omega) (by decide), h.freed]
  · rw [get_set_ne _ _ (by decide), h.counted]
  · rw [getRow_set_ne _ _ (by omega) (by decide), h.others m hm hne]
  · rw [set_eq, h.rest]

theorem reportAcked_reportAck {slot v : Nat} (hn : n < 256) (h3 : get s 0xA202_03 = 0)
    (hf : (rowsOf s reportCn).find? (fun e => acked slot e.2) = some (n, v)) : ReportAcked s n (reportAck s slot) := by
  rcases reportAck_finds hf h3 with h | h
  · rw [h]; exact reportAcked_setRow hn
  · rw [h]; exact (reportAcked_setRow hn).cleared hn

/-- The row that an acknowledgement names is found where no other live row has its number. -/
theorem find_acked {slot : Nat} (hs : sortedT s.cat = true) (hn : n < 256) (hrow : acked slot (getRow s reportCn n) = true)
    (hone : ∀ m, m < 2 ^ 32 → m ≠ n → (fld (getRow s reportCn m) 255 254 = 0 ∨
      fld (getRow s reportCn m) 211 196 ≠ fld (getRow s reportCn n) 211 196)) :
    ∃ v, (rowsOf s reportCn).find? (fun e => acked slot e.2) = some (n, v) := by
  have hparts : ∀ {v}, acked slot v = true → fld v 255 254 ≠ 0 ∧ fld v 211 196 = fld slot 127 112 := fun h => by
    simp only [acked, Bool.and_eq_true, bne_iff_ne, beq_iff_eq] at h
    exact ⟨h.1.1.1.1, h.1.1.1.2⟩
  have hmem : (n, getRow s reportCn n) ∈ rowsOf s reportCn := rowsOf_mem (by omega) fun e => by
    have hzero : defaultOf s.part reportCn n = 0 := by cases s.part <;> rfl
    rw [e, hzero] at hrow
    exact (hparts hrow).1 (by decide)
  cases hf : (rowsOf s reportCn).find? (fun e => acked slot e.2) with
  | none =>
    have := List.find?_eq_none.mp hf _ hmem
    exact absurd hrow this
  | some e =>
    obtain ⟨m, v⟩ := e
    have hm := List.mem_of_find?_eq_some hf
    obtain ⟨hlt, hv⟩ := mem_rowsOf hs hm
    have hack : acked slot v = true := List.find?_some (p := fun e : Nat × Nat => acked slot e.2) hf
    obtain ⟨hlive, hnum⟩ := hparts hack
    by_cases hmn : m = n
    · exact ⟨v, by rw [hmn]⟩
    · rcases hone m hlt hmn with h | h
      · exact absurd (hv ▸ h) hlive
      · exact absurd (by rw [hv]; exact hnum.trans (hparts hrow).2.symm) h

theorem sortedT_frameTaken (h : sortedT s.cat = true) : sortedT (frameTaken s).cat = true := by
  unfold frameTaken count64 count set setRow
  dsimp only
  split
  · exact eraseT_sorted _ _ h
  · exact insertT_sorted _ _ _ h

/-- An acknowledgement on Shelf net acts from notify_listener alone. -/
theorem shelfMessage_ack {a b : Nat} {uni : Bool} {bs : List Byte} (hlen : bs.length = 32)
    (hv : (messageOf bs).version = 1) (ht : (messageOf bs).type = 6) (hc : (messageOf bs).count = 0)
    (hl : (messageOf bs).length = 32) :
    shelfMessage s a b uni bs = if fromListener s a b then reportAck s (numLE (bs.drop 16)) else s := by
  unfold shelfMessage
  rw [if_neg (by omega)]
  dsimp only
  rw [ht, hv, hc, hl, hlen]
  rfl

theorem fromListener_frameTaken (s : State) (a b : Nat) : fromListener (frameTaken s) a b = fromListener s a b := by
  unfold fromListener
  rw [get_frameTaken_ne (by decide)]

theorem notifyAck_exec (hs : servesFabric s = true) (hr : d.frame.rxEr = false)
    (hf : datagramFits s d addr udp d.frame.dst = true) (hlen : d.bytes.length = 32) (hv : (messageOf d.bytes).version = 1)
    (ht : (messageOf d.bytes).type = 6) (hc : (messageOf d.bytes).count = 0) (hl : (messageOf d.bytes).length = 32) :
    shelfTyped s d 6 addr udp d.frame.dst = if fromListener s addr udp then
      reportAck (frameTaken s) (numLE (d.bytes.drop 16)) else frameTaken s := by
  rw [shelfTyped_taken hs hr hf (by rw [ht]; rfl), shelfMessage_ack hlen hv ht hc hl, fromListener_frameTaken]

theorem does_notifyAck {x : Nat} (hs : servesFabric s = true) (hr : d.frame.rxEr = false)
    (hf : datagramFits s d addr udp d.frame.dst = true) (hsort : sortedT s.cat = true) (hlen : d.bytes.length = 32)
    (hv : (messageOf d.bytes).version = 1) (ht : (messageOf d.bytes).type = 6) (hc : (messageOf d.bytes).count = 0)
    (hl : (messageOf d.bytes).length = 32) (hx : x = numLE (d.bytes.drop 16)) (h3 : get s 0xA202_03 = 0) (hn : n < 256)
    (hrow : acked x (getRow s reportCn n) = true)
    (hone : ∀ m, m ≠ n → (fld (getRow s reportCn m) 255 254 = 0 ∨
      fld (getRow s reportCn m) 211 196 ≠ fld (getRow s reportCn n) 211 196))
    (hfrom : fromListener s addr udp = true) : Does (exec (.notifyAck addr udp d) s) fun u =>
      getRow u reportCn n = 0 ∧ get u 0xA202_02 = (get s 0xA202_02 + 1) % 2 ^ 64 ∧
      (∀ m, m < 256 → m ≠ n → getRow u reportCn m = getRow s reportCn m) ∧
      StoreFrame s u [reportCn, 0x1210_01, 0xA202_02, 0xA202_04] ∧
      u = { s with cat := u.cat, mgmt.mii.rxEr := false } := by
  have he := notifyAck_exec hs hr hf hlen hv ht hc hl
  rw [hfrom, if_pos rfl, ← hx] at he
  have hrows : ∀ m, m < 2 ^ 32 → getRow (frameTaken s) reportCn m = getRow s reportCn m := fun m hm =>
    store_frameTaken s _ _ hm (by decide)
  have h3' : get (frameTaken s) 0xA202_03 = 0 := (get_frameTaken_ne (by decide)).trans h3
  obtain ⟨v, hfind⟩ := find_acked (s := frameTaken s) (sortedT_frameTaken hsort) hn (by rw [hrows n (by omega)]; exact hrow)
    (fun m hlt hm => by rw [hrows m hlt, hrows n (by omega)]; exact hone m hm)
  obtain ⟨hfreed, hcounted, hothers, hstore, hrest⟩ := reportAcked_reportAck hn h3' hfind
  refine ⟨_, congrArg (fun t => Host.Outcome.next (settle t)) he, hfreed, ?_, fun m hm hne => ?_, ?_, ?_⟩
  · rw [hcounted, get_frameTaken_ne (by decide)]
  · rw [hothers m hm hne, hrows m (by omega)]
  · exact ((store_frameTaken s).mono (by simp)).trans (hstore.mono (by simp))
  · rw [hrest, frameTaken_rest]

theorem does_notifyAck_other (hs : servesFabric s = true) (hr : d.frame.rxEr = false)
    (hf : datagramFits s d addr udp d.frame.dst = true) (hlen : d.bytes.length = 32)
    (hv : (messageOf d.bytes).version = 1) (ht : (messageOf d.bytes).type = 6) (hc : (messageOf d.bytes).count = 0)
    (hl : (messageOf d.bytes).length = 32) (hfrom : fromListener s addr udp = false) :
    Does (exec (.notifyAck addr udp d) s) fun u =>
      get u 0x1210_01 = (get s 0x1210_01 + 1) % 2 ^ 64 ∧ StoreFrame s u [0x1210_01] ∧
      u = { s with cat := u.cat, mgmt.mii.rxEr := false } := by
  have he := notifyAck_exec hs hr hf hlen hv ht hc hl
  rw [hfrom, if_neg Bool.false_ne_true] at he
  exact ⟨_, congrArg (fun t => Host.Outcome.next (settle t)) he, get_frameTaken s, store_frameTaken s, rfl⟩

/-! ### Requests -/

/-- A NEXT of the shelf's that finds an object. -/
theorem carryItem_next {rq : Requester} {i : Item} {c0 : Nat} {o : Obj} (hcls : rq.cls = .shelf) (hop : i.op = itemNext)
    (hbeyond : nextBeyond s i = false) (hform : nextForm s i = false) (hnext : nextObj s.part i.cn = some c0)
    (ho : findObj s.part c0 = some o) :
    carryItem s rq i = (count64 (renewLease s rq) 0x1110_03, .done stOk (nextBytes o c0)) := by
  have hpart : (renewLease s rq).part = s.part := renewLease_part ..
  have hb : nextBeyond (renewLease s rq) i = false := by unfold nextBeyond at hbeyond ⊢; rw [hpart]; exact hbeyond
  have hf : nextForm (renewLease s rq) i = false := by unfold nextForm at hform ⊢; rw [hpart]; exact hform
  unfold carryItem carryWith
  dsimp only
  rw [if_pos hop]
  unfold carryNext
  rw [hb, hf, hcls, hpart, hnext]
  dsimp only
  rw [ho]
  rfl

theorem sameRequester_self (rq : Requester) : sameRequester rq rq = true := by
  unfold sameRequester
  simp

/-- With no record of a client among the clients, a change for it reaches none of them. -/
theorem updClient_new {rq : Requester} {cs : List Client} {x : Client} (hs : clientOf s rq = none)
    (hcs : cs = s.mgmt.clients) (hx : x.rq = rq) (f : Client → Client) :
    (cs ++ [x]).map (fun c => if sameRequester c.rq rq then f c else c) = cs ++ [f x] := by
  have hold : cs.map (fun c => if sameRequester c.rq rq then f c else c) = cs := by
    rw [List.map_congr_left (g := id) fun c hc => ?_, List.map_id]
    have hne := List.find?_eq_none.mp hs c (hcs ▸ hc)
    exact if_neg hne
  rw [List.map_append, hold, List.map_singleton, hx, sameRequester_self, if_pos rfl]

/-- The record of a client's request that has ended. -/
def endedRecord (number : Nat) (x : ItemDone) : ClientRecord :=
  { number := number, running := false, items := [x], skipped := [] }

/-- The state after a new client's request of one item, before its answer; `b` is the state its item was carried out in. -/
def requestEnded (b : State) (cs : List Client) (rq : Requester) (number : Nat) (x : ItemDone) : State :=
  { b with mgmt.clients := cs ++ [{ rq := rq, records := [endedRecord number x] }] }

/-- The state in which a new client's request begins. -/
def requestBegun (s : State) (rq : Requester) (number : Nat) : State :=
  { s with
    mgmt.clients := s.mgmt.clients ++
      [{ rq := rq, records := [{ number := number, running := true, items := [], skipped := [] }] }]
    mgmt.nextMsg := s.mgmt.nextMsg + 1 }

theorem clientRequest_new {rq : Requester} {number : Nat} {items : List Item} (hc : clientOf s rq = none)
    (hroom : s.mgmt.clients.length < 64) (hw : s.mgmt.waiting = []) :
    clientRequest s rq none number items = runItems items (requestBegun s rq number)
      { id := s.mgmt.nextMsg, rq := rq, via := none, number := number, todo := items, done := [] } := by
  have hopen : openRecord { s with mgmt.clients := s.mgmt.clients ++ [{ rq := rq, records := [] }] } rq number =
      { s with mgmt.clients := s.mgmt.clients ++
          [{ rq := rq, records := [{ number := number, running := true, items := [], skipped := [] }] }] } := by
    unfold openRecord updClient
    dsimp only
    rw [updClient_new hc rfl rfl]
    rfl
  unfold clientRequest
  rw [hc]
  dsimp only
  rw [if_neg (by unfold clientPlaces; omega), hopen]
  unfold startMessage
  exact if_pos (List.isEmpty_iff.mpr hw)

/-- One more access of `rq` has been carried out. -/
structure AccessCounted (s : State) (t : State) : Prop where
  rest : t = { s with cat := t.cat, mgmt.leaseOver := t.mgmt.leaseOver }
  counted : get t 0x1110_03 = (get s 0x1110_03 + 1) % 2 ^ 64
  store : StoreFrame s t [0x1110_03]

theorem accessCounted (s : State) (rq : Requester) : AccessCounted s (count64 (renewLease s rq) 0x1110_03) := by
  have hlease := renewLease_eq s rq
  refine ⟨?_, ?_, ?_⟩
  · have hset : count64 (renewLease s rq) 0x1110_03 =
        { renewLease s rq with cat := (count64 (renewLease s rq) 0x1110_03).cat } := rfl
    generalize count64 (renewLease s rq) 0x1110_03 = t at hset ⊢
    rw [hset, hlease]
  · rw [get_count64_same, get_renewLease]
  · exact StoreFrame.set ((storeFrame_renewLease s rq).mono (by simp)) _ (by simp)

/-- A request of one item that is carried out with OK ends at once. -/
theorem runItems_one {rq : Requester} {i : Item} {m : MsgRun} {data : List Byte} (hc : carryItem s m.rq i = (t, .done stOk data))
    (hdone : m.done = []) (hrq : m.rq = rq) (hcls : rq.cls = .shelf) :
    runItems [i] s m = shelfAnswer (closeRecord t { m with todo := [], done := [{ item := i, status := stOk, data := data }] })
      rq.ident rq.port (messageBytes 2 stOk m.number [{ item := i, status := stOk, data := data }]) := by
  rw [runItems, hdone, if_neg (by simp), hc]
  dsimp only
  rw [runItems]
  unfold endMessage answer
  simp only [List.nil_append, List.map_nil, List.append_nil]
  rw [hrq, hcls]
  rfl

theorem closeRecord_begun {rq : Requester} {b : State} {number id : Nat} {x : ItemDone} {cs : List Client}
    (hc : clientOf s rq = none) (hcs : cs = s.mgmt.clients)
    (hb : b.mgmt.clients = cs ++ [{ rq := rq, records := [{ number := number, running := true, items := [], skipped := [] }] }]) :
    closeRecord b { id := id, rq := rq, via := none, number := number, todo := [], done := [x] } =
      requestEnded b cs rq number x := by
  unfold closeRecord updClient requestEnded
  dsimp only
  rw [hb, updClient_new hc hcs rfl]
  simp [endedRecord]

theorem clientOf_ended {rq : Requester} {b : State} {number : Nat} {x : ItemDone} (hc : clientOf s rq = none) :
    clientOf (requestEnded b s.mgmt.clients rq number x) rq = some { rq := rq, records := [endedRecord number x] } := by
  unfold clientOf at hc ⊢
  unfold requestEnded
  dsimp only
  rw [List.find?_append, hc]
  simp [sameRequester_self]

theorem requestBegun_counted {a b : State} (ha : a = { s with mgmt.clients := a.mgmt.clients, mgmt.nextMsg := a.mgmt.nextMsg })
    (hb : b = { a with cat := b.cat, mgmt.leaseOver := b.mgmt.leaseOver })
    (hcount : get b 0x1110_03 = (get a 0x1110_03 + 1) % 2 ^ 64) (hstore : StoreFrame a b [0x1110_03]) :
    get b 0x1110_03 = (get s 0x1110_03 + 1) % 2 ^ 64 ∧ StoreFrame s b [0x1110_03] ∧
      b = { s with cat := b.cat, mgmt := b.mgmt } ∧ b.mgmt.shelfOut = s.mgmt.shelfOut ∧ b.mgmt.dad = s.mgmt.dad ∧
      b.mgmt.dadFailed = s.mgmt.dadFailed := by
  have hrow : ∀ c r, getRow a c r = getRow s c r := getRow_congr (by rw [ha]) (by rw [ha])
  refine ⟨hcount.trans (by rw [get, hrow]; rfl), fun c r hr hc => (hstore c r hr hc).trans (hrow c r), ?_, ?_, ?_, ?_⟩
  · rw [hb, ha]
  · rw [hb, ha]
  · rw [hb, ha]
  · rw [hb, ha]

/-- A new client's NEXT is answered with the object after the one it names. -/
theorem clientRequest_next {rq : Requester} {number c0 : Nat} {i : Item} {o : Obj} (hc : clientOf s rq = none)
    (hroom : s.mgmt.clients.length < 64) (hw : s.mgmt.waiting = []) (hcls : rq.cls = .shelf) (hop : i.op = itemNext)
    (hbeyond : nextBeyond s i = false) (hform : nextForm s i = false) (hnext : nextObj s.part i.cn = some c0)
    (ho : findObj s.part c0 = some o) : ∃ b, clientRequest s rq none number [i] =
        shelfAnswer (requestEnded b s.mgmt.clients rq number { item := i, status := stOk, data := nextBytes o c0 })
          rq.ident rq.port (messageBytes 2 stOk number [{ item := i, status := stOk, data := nextBytes o c0 }]) ∧
      get b 0x1110_03 = (get s 0x1110_03 + 1) % 2 ^ 64 ∧ StoreFrame s b [0x1110_03] ∧
      b = { s with cat := b.cat, mgmt := b.mgmt } ∧ b.mgmt.shelfOut = s.mgmt.shelfOut ∧ b.mgmt.dad = s.mgmt.dad ∧
      b.mgmt.dadFailed = s.mgmt.dadFailed := by
  have hcarry := carryItem_next (s := requestBegun s rq number) (i := i) hcls hop hbeyond hform hnext ho
  have hrun := runItems_one (m := { id := s.mgmt.nextMsg, rq := rq, via := none, number := number, todo := [i], done := [] })
    hcarry rfl rfl hcls
  obtain ⟨hrest, hcount, hstore⟩ := accessCounted (requestBegun s rq number) rq
  rw [closeRecord_begun (cs := s.mgmt.clients) hc rfl (by rw [hrest]; rfl), ← clientRequest_new hc hroom hw] at hrun
  exact ⟨_, hrun, requestBegun_counted rfl hrest hcount hstore⟩

/-! ### Clients and leases -/

theorem leaves_clientIdleExpiry (s : State) (ident port : Nat) : Leaves (exec (.clientIdleExpiry ident port) s) fun u =>
    (∀ x, x ∈ u.mgmt.clients ↔ x ∈ s.mgmt.clients ∧ ¬(x.rq.ident = ident ∧ x.rq.port = port)) ∧
      u = { s with mgmt.clients := u.mgmt.clients } := by
  refine ⟨clientExpires s ident port, rfl, fun x => ?_, rfl⟩
  unfold clientExpires
  simp only [List.mem_filter, Bool.not_eq_true', Bool.and_eq_false_iff, beq_eq_false_iff_ne, not_and_or, ne_eq]

/-! ### Requests that arrive as datagrams -/

/-- A datagram of a type that has no command of its own is a request, which R270 lets in or not. -/
theorem shelfMessage_request {a b : Nat} {uni : Bool} {bs : List Byte} (hlen : 16 ≤ bs.length)
    (ht : (messageOf bs).type < 2 ∨ 6 < (messageOf bs).type) :
    (requestItems s 1440 (messageOf bs) bs.length = none →
      shelfMessage s a b uni bs = shelfMalformed s a b (messageOf bs).number) ∧
    (∀ items, requestItems s 1440 (messageOf bs) bs.length = some items → shelfMessage s a b uni bs =
      clientRequest s { cls := .shelf, ident := a, port := b } none (messageOf bs).number items) := by
  have h2 : (messageOf bs).type ≠ 2 := by omega
  have h3 : (messageOf bs).type ≠ 3 := by omega
  have h4 : (messageOf bs).type ≠ 4 := by omega
  have h5 : (messageOf bs).type ≠ 5 := by omega
  have h6 : (messageOf bs).type ≠ 6 := by omega
  unfold shelfMessage
  rw [if_neg (by omega)]
  constructor
  · intro h
    simp only [h2, h3, h4, h5, h6, h, decide_false, Bool.or_self, Bool.false_and, Bool.false_eq_true, if_false]
  · intro items h
    simp only [h2, h3, h4, h5, h6, h, decide_false, Bool.or_self, Bool.false_and, Bool.false_eq_true, if_false]

theorem requestItems_congr (h : t.part = s.part) (limit : Nat) (m : Message) (received : Nat) :
    requestItems t limit m received = requestItems s limit m received := by
  have hsize : responseSize t = responseSize s := by
    funext i
    unfold responseSize
    rw [h]
  unfold requestItems overruns
  rw [hsize]

theorem shelfTyped_request (hs : servesFabric s = true) (hr : d.frame.rxEr = false)
    (hf : datagramFits s d addr udp d.frame.dst = true) (hlen : 16 ≤ d.bytes.length)
    (ht : (messageOf d.bytes).type < 2 ∨ 6 < (messageOf d.bytes).type) :
    (requestItems s 1440 (messageOf d.bytes) d.bytes.length = none → shelfTyped s d 1 addr udp d.frame.dst =
      shelfMalformed (frameTaken s) addr udp (messageOf d.bytes).number) ∧
    (∀ items, requestItems s 1440 (messageOf d.bytes) d.bytes.length = some items → shelfTyped s d 1 addr udp d.frame.dst =
      clientRequest (frameTaken s) { cls := .shelf, ident := addr, port := udp } none (messageOf d.bytes).number items) := by
  have htype : commandType (messageOf d.bytes).type = 1 := by
    unfold commandType
    rw [if_neg (by simp; omega)]
  obtain ⟨hnone, hsome⟩ := shelfMessage_request (s := frameTaken s) (a := addr) (b := udp)
    (uni := d.frame.dst == shelfAddress s) hlen ht
  rw [requestItems_congr (frameTaken_part s)] at hnone
  simp only [requestItems_congr (frameTaken_part s)] at hsome
  have htaken := shelfTyped_taken hs hr hf htype
  exact ⟨fun h => htaken.trans (hnone h), fun items h => htaken.trans (hsome items h)⟩

/-- What the answer to a new client's request leaves, once its item has been carried out from `a` to `b`. -/
theorem requestEnded_leaves {a b : State} {rq : Requester} {number n1 : Nat} {x : ItemDone} {bs : List Byte}
    (hnew : clientOf s rq = none) (ha : StoreFrame s a [0x1210_01]) (hframe : get a 0x1210_01 = n1)
    (harest : a = { s with cat := a.cat, mgmt.mii.rxEr := false })
    (hcount : get b 0x1110_03 = (get a 0x1110_03 + 1) % 2 ^ 64) (hstore : StoreFrame a b [0x1110_03])
    (hbrest : b = { a with cat := b.cat, mgmt := b.mgmt }) (hout : b.mgmt.shelfOut = a.mgmt.shelfOut)
    (hdad : b.mgmt.dad = a.mgmt.dad) (hfail : b.mgmt.dadFailed = a.mgmt.dadFailed) :
    let u := shelfAnswer (requestEnded b s.mgmt.clients rq number x) rq.ident rq.port bs
    (shelfOn s = true → u.mgmt.shelfOut = s.mgmt.shelfOut ++ [{ addr := rq.ident, udp := rq.port, bytes := bs }]) ∧
      (shelfOn s = false → u.mgmt.shelfOut = s.mgmt.shelfOut) ∧
      get u 0x1210_01 = n1 ∧ get u 0x1110_03 = (get s 0x1110_03 + 1) % 2 ^ 64 ∧
      (∃ y, clientOf u rq = some y ∧ ∃ r ∈ y.records, r.number = number ∧ r.running = false) ∧
      StoreFrame s u [0x1210_01, 0x1110_03] ∧ u = { s with cat := u.cat, mgmt := u.mgmt } := by
  have hended : requestEnded b s.mgmt.clients rq number x =
    { b with mgmt.clients := (requestEnded b s.mgmt.clients rq number x).mgmt.clients } := rfl
  have hclient := clientOf_ended (b := b) (number := number) (x := x) hnew
  generalize requestEnded b s.mgmt.clients rq number x = v at hended hclient ⊢
  have hrow : ∀ c r, getRow v c r = getRow b c r := getRow_congr (by rw [hended]) (by rw [hended])
  have hstore' : StoreFrame s v [0x1210_01, 0x1110_03] :=
    ((ha.mono (by simp)).trans (hstore.mono (by simp))).trans fun c r _ _ => hrow c r
  have hvout : v.mgmt.shelfOut = s.mgmt.shelfOut := by rw [hended]; exact hout.trans (by rw [harest])
  have hon : shelfOn v = shelfOn s := by
    refine shelfOn_congr (fun c hc => hstore' c 0 (by decide) ?_) ?_ ?_ ?_ ?_
    · simp only [List.mem_cons, List.not_mem_nil, or_false] at hc ⊢
      omega
    · rw [hended, hbrest, harest]
    · rw [hended, hbrest, harest]
    · rw [hended]; exact hdad.trans (by rw [harest])
    · rw [hended]; exact hfail.trans (by rw [harest])
  obtain ⟨hyes, hno, hurest⟩ := shelfAnswer_out v rq.ident rq.port bs
  rw [hon, hvout] at hyes
  rw [hon, hvout] at hno
  dsimp only
  generalize shelfAnswer v rq.ident rq.port bs = u at hyes hno hurest ⊢
  have hurow : ∀ c r, getRow u c r = getRow v c r := getRow_congr (by rw [hurest]) (by rw [hurest])
  refine ⟨hyes, hno, ?_, ?_, ⟨{ rq := rq, records := [endedRecord number x] }, ?_,
      endedRecord number x, List.mem_singleton.mpr rfl, rfl, rfl⟩, fun c r hr hc =>
    (hurow c r).trans (hstore' c r hr hc), ?_⟩
  · exact ((hurow _ _).trans (hrow _ _)).trans ((hstore _ _ (by decide) (by decide)).trans hframe)
  · refine ((hurow _ _).trans (hrow _ _)).trans (hcount.trans ?_)
    rw [show get a 0x1110_03 = get s 0x1110_03 from ha _ _ (by decide) (by decide)]
  · unfold clientOf at hclient ⊢
    rw [hurest]
    exact hclient
  · rw [hurest, hended, hbrest, harest]

theorem does_request {c0 : Nat} {m : Message} {i : Item} {o : Obj} {c : Instr}
    (hc : c ∈ [Instr.request addr udp d, .nextItem addr udp d]) (hs : servesFabric s = true) (hr : d.frame.rxEr = false)
    (hf : datagramFits s d addr udp d.frame.dst = true) (hlen : 16 ≤ d.bytes.length) (hm : m = messageOf d.bytes)
    (ht : m.type = 1) (hitems : requestItems s 1440 m d.bytes.length = some [i]) (hop : i.op = itemNext)
    (hbeyond : nextBeyond s i = false) (hform : nextForm s i = false)
    (hnew : clientOf s { cls := .shelf, ident := addr, port := udp } = none) (hroom : s.mgmt.clients.length < 64)
    (hw : s.mgmt.waiting = []) (hnext : nextObj s.part i.cn = some c0) (ho : findObj s.part c0 = some o) :
    Does (exec c s) fun u =>
      (shelfOn s = true → u.mgmt.shelfOut = s.mgmt.shelfOut ++
        [{ addr := addr, udp := udp,
           bytes := messageBytes 2 stOk m.number [{ item := i, status := stOk, data := nextBytes o c0 }] }]) ∧
      (shelfOn s = false → u.mgmt.shelfOut = s.mgmt.shelfOut) ∧
      get u 0x1210_01 = (get s 0x1210_01 + 1) % 2 ^ 64 ∧ get u 0x1110_03 = (get s 0x1110_03 + 1) % 2 ^ 64 ∧
      (∃ x, clientOf u { cls := .shelf, ident := addr, port := udp } = some x ∧
        ∃ r ∈ x.records, r.number = m.number ∧ r.running = false) ∧
      StoreFrame s u [0x1210_01, 0x1110_03] ∧ u = { s with cat := u.cat, mgmt := u.mgmt } := by
  subst hm
  have hexec : exec c s = .next (settle (shelfTyped s d 1 addr udp d.frame.dst)) := by
    simp only [List.mem_cons, List.not_mem_nil, or_false] at hc
    rcases hc with rfl | rfl <;> rfl
  obtain ⟨b, he, hcount, hstore, hrest, hout, hdad, hfail⟩ := clientRequest_next (s := frameTaken s)
    (rq := { cls := .shelf, ident := addr, port := udp }) (number := (messageOf d.bytes).number) hnew hroom hw rfl hop hbeyond
    hform hnext ho
  rw [(shelfTyped_request hs hr hf hlen (.inl (by omega))).2 _ hitems] at hexec
  refine ⟨_, hexec.trans (congrArg (fun t => Host.Outcome.next (settle t)) he), ?_⟩
  have hcs : (frameTaken s).mgmt.clients = s.mgmt.clients := rfl
  rw [hcs]
  exact requestEnded_leaves hnew (store_frameTaken s) (get_frameTaken s) (frameTaken_rest s) hcount hstore hrest hout hdad hfail

theorem does_malformedRequest {m : Message} (hs : servesFabric s = true) (hr : d.frame.rxEr = false)
    (hf : datagramFits s d addr udp d.frame.dst = true) (hlen : 16 ≤ d.bytes.length) (hm : m = messageOf d.bytes)
    (ht : m.type < 2 ∨ 6 < m.type) (hitems : requestItems s 1440 m d.bytes.length = none) :
    Does (exec (.request addr udp d) s) fun u =>
      get u 0x1210_03 = (get s 0x1210_03 + 1) % 2 ^ 64 ∧
      (shelfOn s = true → u.mgmt.shelfOut = s.mgmt.shelfOut ++
        [{ addr := addr, udp := udp, bytes := messageBytes 2 stMalformed m.number [] }]) ∧
      StoreFrame s u [0x1210_01, 0x1210_03] := by
  subst hm
  have hexec : exec (.request addr udp d) s = .next (settle (shelfTyped s d 1 addr udp d.frame.dst)) := rfl
  rw [(shelfTyped_request hs hr hf hlen ht).1 hitems] at hexec
  have hstore : StoreFrame s (count64 (frameTaken s) 0x1210_03) [0x1210_01, 0x1210_03] :=
    StoreFrame.set ((store_frameTaken s).mono (by simp)) _ (by simp)
  have hcount : get (count64 (frameTaken s) 0x1210_03) 0x1210_03 = (get s 0x1210_03 + 1) % 2 ^ 64 := by
    rw [get_count64_same, get_frameTaken_ne (by decide)]
  have hon : shelfOn (count64 (frameTaken s) 0x1210_03) = shelfOn s := by
    refine shelfOn_congr (fun c hc => hstore c 0 (by decide) ?_) rfl rfl rfl rfl
    simp only [List.mem_cons, List.not_mem_nil, or_false] at hc ⊢
    omega
  have hsame : (count64 (frameTaken s) 0x1210_03).mgmt.shelfOut = s.mgmt.shelfOut := rfl
  obtain ⟨hyes, -, hrest⟩ := shelfAnswer_out (count64 (frameTaken s) 0x1210_03) addr udp
    (messageBytes 2 stMalformed (messageOf d.bytes).number [])
  rw [hon, hsame] at hyes
  have hrow : ∀ c r, getRow (shelfMalformed (frameTaken s) addr udp (messageOf d.bytes).number) c r =
      getRow (count64 (frameTaken s) 0x1210_03) c r := getRow_congr (by unfold shelfMalformed; rw [hrest]) (by unfold shelfMalformed; rw [hrest])
  exact ⟨_, hexec, (hrow _ _).trans hcount, hyes, fun c r hr hc => (hrow c r).trans (hstore c r hr hc)⟩

theorem leaves_ownerLeaseExpiry (h : s.mgmt.owner.isSome = true) :
    Leaves (exec .ownerLeaseExpiry s) fun u => u = { s with mgmt.leaseOver := true } := by
  have he : leaseExpires s = { s with mgmt.leaseOver := true } := by
    unfold leaseExpires
    rw [h, if_pos rfl]
  exact ⟨_, congrArg Host.Outcome.next he, rfl⟩

end

/-- Settles O56: every frame by `frameTaken` or as one that is lost, every message by its type. -/
theorem shelfNetAnswers : Obligations.ShelfNetAnswers := by
  unfold Obligations.ShelfNetAnswers
  refine ⟨fun _ _ _ _ _ _ _ _ _ hc hs hr hf hlen hm ht hitems hop hb hform hnew hroom hw hnext ho =>
      does_request hc hs hr hf hlen hm ht hitems hop hb hform hnew hroom hw hnext ho,
    fun _ _ _ _ _ hs hr hf hlen hm ht hitems => does_malformedRequest hs hr hf hlen hm ht hitems,
    fun _ _ _ _ _ _ _ hs hr huni hmulti hf hlen hm hv ht hc hl => does_discover hs hr huni hmulti hf hlen hm hv ht hc hl,
    fun _ _ _ _ _ h => leaves_discoverDelayExpiry h,
    fun _ _ _ _ _ hc hs hr hf hlen ht => leaves_counted hc hs hr hf hlen ht, ?_,
    fun _ _ _ _ hs hr hf hlen hv ht hc hl hfrom => does_notifyAck_other hs hr hf hlen hv ht hc hl hfrom,
    fun _ _ _ _ _ _ _ _ _ hs hlen hc => leaves_frameLost hs hlen hc,
    fun _ _ _ hs hr hf hd hon => leaves_solicitation hs hr hf hd hon, fun _ _ hs hr hf => leaves_advertisement hs hr hf,
    fun _ _ _ _ hs hr hf hon => leaves_echo hs hr hf hon, fun _ _ _ => leaves_clientIdleExpiry _ _ _,
    fun _ h => leaves_ownerLeaseExpiry h⟩
  intro s addr udp n x d hs hr hf hsort hlen hv ht hc hl hx h3 hn hlive hnum hcause hpeer hpe hone hfrom
  refine does_notifyAck hs hr hf hsort hlen hv ht hc hl hx h3 hn ?_ hone hfrom
  simp [acked, hlive, hnum, hcause, hpeer, hpe]

end Sys2Proof.Machine
end

section
/-! Ports and lanes: what a change to one reads back, and what the lane commands between two ends do (R221 to R223, R246 to
R249). -/

namespace Sys2Proof.Machine

section
variable {s t u : State} {p k n : Nat}

/-! ### A port and its lanes -/

theorem port_congr (h : t.ports = s.ports) (p : Nat) : port t p = port s p := by
  unfold port
  rw [h]

theorem lane_congr (h : t.ports = s.ports) (p k : Nat) : lane t p k = lane s p k := by
  unfold lane
  rw [port_congr h]

/-- Port `p` is there, with its ten lanes. -/
structure HasLanes (s : State) (p : Nat) : Prop where
  port : p < s.ports.length
  lanes : (Machine.port s p).lanes.length = 10

theorem PortRuns.lt (h : PortRuns s p) : p < 8 := portPowered_lt h.powered

theorem PortRuns.hasLanes (h : PortRuns s p) : HasLanes s p := ⟨by rw [h.ports]; exact h.lt, h.lanes⟩

theorem HasLanes.congr (h : HasLanes s p) (hp : t.ports = s.ports) : HasLanes t p :=
  ⟨by rw [hp]; exact h.port, by rw [port_congr hp]; exact h.lanes⟩

theorem length_setPort (f : Port → Port) : (setPort s p f).ports.length = s.ports.length := length_modifyNth ..

/-- A port that is there reads as changed. -/
theorem HasLanes.port_setPort (h : HasLanes s p) (f : Port → Port) : Machine.port (setPort s p f) p = f (Machine.port s p) :=
  port_setPort_same f h.port

theorem HasLanes.setPort (h : HasLanes s p) {f : Port → Port} (hf : ∀ x, (f x).lanes.length = x.lanes.length) :
    HasLanes (setPort s p f) p :=
  ⟨by rw [length_setPort]; exact h.port, by rw [h.port_setPort, hf]; exact h.lanes⟩

theorem HasLanes.setLane (h : HasLanes s p) (f : Lane → Lane) : HasLanes (setLane s p k f) p :=
  h.setPort fun _ => length_modifyNth ..

theorem HasLanes.lane_setPort (h : HasLanes s p) {f : Port → Port} (hf : ∀ x, (f x).lanes = x.lanes) (j : Nat) :
    lane (Machine.setPort s p f) p j = lane s p j := by
  unfold lane
  rw [h.port_setPort, hf]

theorem HasLanes.lane_setLane (h : HasLanes s p) (hk : k < 10) (f : Lane → Lane) (j : Nat) :
    lane (Machine.setLane s p k f) p j = if j = k then f (lane s p j) else lane s p j := by
  unfold lane Machine.setLane
  rw [h.port_setPort, nth_modifyNth]
  simp only [h.lanes, hk, and_true]

theorem HasLanes.lane_setLane_same (h : HasLanes s p) (hk : k < 10) (f : Lane → Lane) :
    lane (Machine.setLane s p k f) p k = f (lane s p k) := by
  rw [h.lane_setLane hk, if_pos rfl]

theorem rxPhys_lt (hn : n < 10) : rxPhys s p n < 10 := by
  unfold rxPhys
  split <;> omega

theorem rxPhys_congr (h : get t (ofPort p 0x2040_04) = get s (ofPort p 0x2040_04)) (n : Nat) :
    rxPhys t p n = rxPhys s p n := by
  unfold rxPhys
  rw [h]

/-- The event of a port that runs. -/
theorem does_portEvent {c : Instr} {f : State → State} {P : State → Prop} (h : PortRuns s p)
    (hc : exec c s = portEvent p f s) (hf : f s = u) (hu : P u) : Does (exec c s) P := by
  refine ⟨u, hc.trans ?_, hu⟩
  unfold portEvent
  rw [h.powered, if_pos rfl, hf]

/-- The state of a receiver reads as written. -/
theorem rxState_setRx {v : Nat} (hv : v < 16) : rxState (setRx s p k v) p k = v := by
  unfold rxState setRx
  rw [getF_setF_same _ _ _ (by decide)]
  exact Nat.mod_eq_of_lt hv

theorem get_setRx_ne {c v : Nat} (h : c ≠ laneStateCn p k) : get (setRx s p k v) c = get s c :=
  storeFrame_setF (laneStateCn p k) 3 0 v (by decide) c 0 (by decide) (by simpa using h)

theorem rxState_setRx_ne {j v : Nat} (h : j ≠ k) : rxState (setRx s p k v) p j = rxState s p j := by
  unfold rxState getF
  rw [show getRow (setRx s p k v) (laneStateCn p j) 0 = getRow s (laneStateCn p j) 0 from
    get_setRx_ne (by unfold laneStateCn ofLane; omega)]

theorem setRx_ports (v : Nat) : (setRx s p k v).ports = s.ports := rfl

/-! ### Changes of ports alone -/

/-- `t` is `s` but for its ports, and what `g` keeps of each port is as it was. -/
structure PortsKeep (g : Port → Port) (s t : State) : Prop where
  rest : t = { s with ports := t.ports }
  count : t.ports.length = s.ports.length
  ports : ∀ j, g (port t j) = g (port s j)

section
variable {g : Port → Port}

theorem PortsKeep.refl (s : State) : PortsKeep g s s := ⟨rfl, rfl, fun _ => rfl⟩

theorem PortsKeep.trans (h : PortsKeep g s t) (h' : PortsKeep g t u) : PortsKeep g s u :=
  ⟨by rw [h'.rest, h.rest], h'.count.trans h.count, fun j => (h'.ports j).trans (h.ports j)⟩

theorem portsKeep_setPort {f : Port → Port} (h : ∀ x, g (f x) = g x) (p : Nat) : PortsKeep g s (setPort s p f) := by
  refine ⟨rfl, length_setPort f, fun j => ?_⟩
  rw [port_setPort]
  split
  · exact h _
  · rfl

theorem PortsKeep.get (h : PortsKeep g s t) (c : Nat) : Machine.get t c = Machine.get s c :=
  getRow_congr (by rw [h.rest]) (by rw [h.rest]) ..

end

/-! ### Commands queued for the partner -/

/-- A port without the commands it has yet to send. -/
def uncommanded (x : Port) : Port := { x with cmds := [] }

/-- `t` is `s` but for commands that its ports are to send. -/
abbrev Commands : State → State → Prop := PortsKeep uncommanded

theorem commands_queueCmd (record : Nat) (on : Option Nat) : Commands s (queueCmd s p record on) := by
  refine portsKeep_setPort ?_ p
  exact fun _ => rfl

theorem Commands.lanes (h : Commands s t) (p : Nat) : (port t p).lanes = (port s p).lanes := by
  have hl := congrArg Port.lanes (h.ports p)
  exact hl

theorem Commands.asked (h : Commands s t) (p : Nat) : (port t p).asked = (port s p).asked := by
  have hl := congrArg Port.asked (h.ports p)
  exact hl

theorem HasLanes.commands (h : HasLanes s p) (g : Commands s t) : HasLanes t p :=
  ⟨by rw [g.count]; exact h.port, by rw [g.lanes]; exact h.lanes⟩

theorem Commands.lane (h : Commands s t) (p j : Nat) : Machine.lane t p j = Machine.lane s p j := by
  unfold Machine.lane
  rw [h.lanes]

theorem Commands.rxState (h : Commands s t) (k : Nat) : Machine.rxState t p k = Machine.rxState s p k :=
  congrArg (fld · 3 0) (h.get (laneStateCn p k))

theorem commands_trimLanes : Commands s (trimLanes s p) := by
  unfold trimLanes forEach
  exact foldl_through (R := Commands) PortsKeep.refl PortsKeep.trans (fun t n _ => commands_queueCmd ..) s

theorem cmds_queueCmd (h : HasLanes s p) (record : Nat) (on : Option Nat) :
    (port (queueCmd s p record on) p).cmds = (port s p).cmds ++ [{ record := record, lane := on }] := by
  unfold queueCmd
  rw [h.port_setPort]

/-! ### A record that acts -/

section
variable {c r : Nat}

theorem recCode_withCode (h : c < 256) : recCode (withCode c r) = c := by
  unfold recCode withCode
  rw [fld_setFld_same _ _ _ _ (by decide)]
  exact Nat.mod_eq_of_lt h

theorem recLane_withCode : recLane (withCode c r) = fld r 119 116 := fld_setFld_above _ _ (by decide) (by decide)

theorem recReason_withCode : recReason (withCode c r) = fld r 115 112 := fld_setFld_above _ _ (by decide) (by decide)

theorem refusal_withCode : fld (withCode c r) 111 108 = fld r 111 108 := fld_setFld_above _ _ (by decide) (by decide)

/-- What the lane command with code `c` does. -/
def laneAction (s : State) (p c n reason refusal : Nat) : State :=
  if c = 1 then addWaitLane s p n
  else if c = 2 then dropWaitLane s p n
  else if c = 3 then answerAdd s p n reason
  else if c = 4 then answerRemove s p n reason
  else if c = 5 then laneRefused s p n refusal
  else if c = 0x10 then peerAnnounces s p n 4
  else if c = 0x11 then peerAnnounces s p n 5
  else if c = 0x12 then peerAnnounces s p n 6
  else if c = 0x13 then peerAnnounces s p n 0
  else s

theorem laneActs_withCode (hc : c < 256) (hup : isUp s p = true) (hn : fld r 119 116 < 10) :
    laneActs s p (withCode c r) = laneAction s p c (fld r 119 116) (fld r 115 112) (fld r 111 108) := by
  unfold laneActs
  rw [recLane_withCode, hup, recCode_withCode hc, recReason_withCode, refusal_withCode, if_neg (by simp; omega)]
  rfl

variable {reason refusal : Nat}

theorem laneAction_add : laneAction s p 1 n reason refusal = addWaitLane s p n := if_pos rfl

theorem laneAction_remove : laneAction s p 2 n reason refusal = dropWaitLane s p n := by
  unfold laneAction
  rw [if_neg (by decide), if_pos rfl]

theorem laneAction_requestAdd : laneAction s p 3 n reason refusal = answerAdd s p n reason := by
  unfold laneAction
  rw [if_neg (by decide), if_neg (by decide), if_pos rfl]

theorem laneAction_requestRemove : laneAction s p 4 n reason refusal = answerRemove s p n reason := by
  unfold laneAction
  rw [if_neg (by decide), if_neg (by decide), if_neg (by decide), if_pos rfl]

theorem laneAction_refuse : laneAction s p 5 n reason refusal = laneRefused s p n refusal := by
  unfold laneAction
  rw [if_neg (by decide), if_neg (by decide), if_neg (by decide), if_neg (by decide), if_pos rfl]

/-- The announcements of the partner, by code and by the state that they announce. -/
theorem laneAction_announces {v : Nat} (h : (c, v) ∈ [(0x10, 4), (0x11, 5), (0x12, 6), (0x13, 0)]) :
    laneAction s p c n reason refusal = peerAnnounces s p n v := by
  simp only [List.mem_cons, Prod.mk.injEq, List.not_mem_nil, or_false] at h
  unfold laneAction
  rcases h with ⟨rfl, rfl⟩ | ⟨rfl, rfl⟩ | ⟨rfl, rfl⟩ | ⟨rfl, rfl⟩ <;> rfl

end

/-! ### The wait set -/

theorem ofPort_ne_laneState (p k : Nat) : ofPort p 0x2010_02 ≠ laneStateCn p k ∧ ofPort p 0x2040_04 ≠ laneStateCn p k ∧
    ofPort p 0x2000_01 ≠ laneStateCn p k := by
  unfold laneStateCn ofLane ofPort
  omega

theorem store_joinWaitSet : StoreFrame s (joinWaitSet s p n) [ofPort p 0x2010_02, laneStateCn p (rxPhys s p n)] := by
  refine StoreFrame.trans (t := set s (ofPort p 0x2010_02) (setBit (waitSet s p) n true)) ((StoreFrame.refl _).set _ (by simp)) ?_
  exact StoreFrame.trans ((storeFrame_setF _ _ _ _ (by decide)).mono (by simp)) (.of_cat rfl rfl)

/-- What a lane that joins the wait set leaves. -/
theorem joinWaitSet_leaves (h : HasLanes s p) (hn : n < 10) :
    waitSet (joinWaitSet s p n) p = setBit (waitSet s p) n true ∧ rxState (joinWaitSet s p n) p (rxPhys s p n) = 2 ∧
      (lane (joinWaitSet s p n) p (rxPhys s p n)).peerState = 0 ∧
      (port (joinWaitSet s p n) p).asked = (port s p).asked ∧
      joinWaitSet s p n = { s with cat := (joinWaitSet s p n).cat, ports := (joinWaitSet s p n).ports } := by
  obtain ⟨hw, -, -⟩ := ofPort_ne_laneState p (rxPhys s p n)
  have hr := rxState_setRx (s := set s (ofPort p 0x2010_02) (setBit (waitSet s p) n true)) (p := p) (k := rxPhys s p n)
    (v := 2) (by decide)
  have hget : get (setRx (set s (ofPort p 0x2010_02) (setBit (waitSet s p) n true)) p (rxPhys s p n) 2) (ofPort p 0x2010_02) =
      setBit (waitSet s p) n true := by rw [get_setRx_ne hw, get_set_same]
  have hports : (setRx (set s (ofPort p 0x2010_02) (setBit (waitSet s p) n true)) p (rxPhys s p n) 2).ports = s.ports := rfl
  have hrest : setRx (set s (ofPort p 0x2010_02) (setBit (waitSet s p) n true)) p (rxPhys s p n) 2 =
      { s with cat := (setRx (set s (ofPort p 0x2010_02) (setBit (waitSet s p) n true)) p (rxPhys s p n) 2).cat } := rfl
  unfold joinWaitSet
  dsimp only
  generalize setRx (set s (ofPort p 0x2010_02) (setBit (waitSet s p) n true)) p (rxPhys s p n) 2 = a at *
  have ha : HasLanes a p := h.congr hports
  refine ⟨hget, hr, ?_, ?_, ?_⟩
  · rw [ha.lane_setLane_same (rxPhys_lt hn)]
  · unfold setLane
    rw [ha.port_setPort, port_congr hports]
  · show { a with ports := _ } = _
    rw [hrest]
    rfl

theorem does_laneAdd {on r : Nat} (h : PortRuns s p) (hup : isUp s p = true) (hn : fld r 119 116 < 10)
    (hout : bit (waitSet s p) (fld r 119 116) = false) (htr : (lane s p (rxPhys s p (fld r 119 116))).rxTrained = true)
    (hlost : (lane s p (rxPhys s p (fld r 119 116))).lost = false) (hask : (port s p).asked = none) :
    Does (exec (.laneAdd p on r) s) fun u =>
      waitSet u p = setBit (waitSet s p) (fld r 119 116) true ∧ rxState u p (rxPhys s p (fld r 119 116)) = 2 ∧
      (lane u p (rxPhys s p (fld r 119 116))).peerState = 0 ∧
      StoreFrame s u [ofPort p 0x2010_02, laneStateCn p (rxPhys s p (fld r 119 116))] ∧
      u = { s with cat := u.cat, ports := u.ports } := by
  have hact := (laneActs_withCode (c := 1) (by decide) hup hn).trans laneAction_add
  generalize fld r 119 116 = n at *
  obtain ⟨hwait, hrx, hpeer, hasked, hrest⟩ := joinWaitSet_leaves h.hasLanes hn
  have hstore : StoreFrame s (joinWaitSet s p n) _ := store_joinWaitSet
  have htrim := commands_trimLanes (s := joinWaitSet s p n) (p := p)
  have he : addWaitLane s p n = trimLanes (joinWaitSet s p n) p := by
    have hnone : (port (trimLanes (joinWaitSet s p n) p) p).asked = none :=
      (htrim.asked p).trans (hasked.trans hask)
    unfold addWaitLane
    dsimp only
    rw [hout, htr, hlost, if_neg (by decide), if_neg (by decide), hnone]
  have hact1 : laneActs s p (withCode 1 r) = trimLanes (joinWaitSet s p n) p := hact.trans he
  refine does_portEvent h (f := fun s => laneActs s p (withCode 1 r)) rfl hact1 ⟨(htrim.get _).trans hwait, (htrim.rxState _).trans hrx, ?_, ?_, ?_⟩
  · rw [htrim.lane]; exact hpeer
  · exact hstore.trans (.of_cat (by rw [htrim.rest]) (by rw [htrim.rest]))
  · rw [htrim.rest, hrest]

end

end Sys2Proof.Machine
end

section
/-! The search for a lane, and the lane commands that may set one off (R222, R246, R248, R249). -/

namespace Sys2Proof.Machine

section
variable {s t u : State} {p k n reason : Nat}

/-! ### Tests that end -/

theorem commands_ite {c : Prop} [Decidable c] (h : Commands s t) : Commands s (if c then t else s) := by
  split
  · exact h
  · exact PortsKeep.refl s

/-- The objects that the end of a lane's test may write. -/
def testCns (p k : Nat) : List Nat := [ofLane p k 0x300E_01, ofLane p k 0x3010_01]

/-- What the end of the test of lane `k` leaves. -/
structure TestEnds (s : State) (p k : Nat) (t : State) : Prop where
  lanes : HasLanes t p
  store : StoreFrame s t (testCns p k)
  asked : (port t p).asked = (port s p).asked

/-- The mark of the lane's test is cleared, and its end is to be announced where it had stopped its frames. -/
def testLeft (s : State) (p k : Nat) : State :=
  let m := (lane s p k).test
  let stops := m == 1 || m == 3 || m == 5
  let s := setLane s p k fun l => { l with test := 0, leaving := if stops && isUp s p then m else 0 }
  if stops && isUp s p then queueCmd s p (laneRecord 0x13 k 0 0) none else s

theorem testEnds_testLeft (h : HasLanes s p) : TestEnds s p k (testLeft s p k) := by
  obtain ⟨m, hm⟩ : ∃ m, Commands (setLane s p k fun l => { l with test := 0, leaving := m }) (testLeft s p k) :=
    ⟨_, commands_ite (commands_queueCmd ..)⟩
  refine ⟨(h.setLane _).commands hm, .of_cat (by rw [hm.rest]; rfl) (by rw [hm.rest]; rfl), ?_⟩
  rw [hm.asked]
  unfold setLane
  rw [h.port_setPort]

/-- Where the mode drives the lane's loopback, the end of the test turns it off. -/
def loopbackLeft (s : State) (p k m : Nat) : State := if m = 2 || m = 3 || m = 4 then set s (ofLane p k 0x300E_01) 0 else s

theorem endTest_eq (status : Nat) (h : (lane s p k).test ≠ 0) :
    endTest s p k status =
      endInvocation (loopbackLeft (testLeft s p k) p k (lane s p k).test) (ofLane p k 0x3010_01) 0 status 0 := by
  unfold endTest
  rw [if_neg h]
  rfl

theorem testEnds_endTest (status : Nat) (h : HasLanes s p) : TestEnds s p k (endTest s p k status) := by
  by_cases hm : (lane s p k).test = 0
  · unfold endTest
    rw [if_pos hm]
    exact ⟨h, .refl _, rfl⟩
  · rw [endTest_eq status hm]
    have hleft := testEnds_testLeft (k := k) h
    have hloop : StoreFrame s (loopbackLeft (testLeft s p k) p k (lane s p k).test) (testCns p k) := by
      unfold loopbackLeft
      split
      · exact hleft.store.set 0 (by simp [testCns])
      · exact hleft.store
    have hports : (loopbackLeft (testLeft s p k) p k (lane s p k).test).ports = (testLeft s p k).ports := by
      unfold loopbackLeft
      split <;> rfl
    generalize loopbackLeft (testLeft s p k) p k (lane s p k).test = a at *
    have hend : EndsAt a (ofLane p k 0x3010_01) (endInvocation a (ofLane p k 0x3010_01) 0 status 0) := endsAt_endInvocation
    have hp : (endInvocation a (ofLane p k 0x3010_01) 0 status 0).ports = (testLeft s p k).ports := by
      rw [hend.rest]; exact hports
    exact ⟨hleft.lanes.congr hp, hloop.trans (hend.store.mono (by simp [testCns])),
      by rw [port_congr hp]; exact hleft.asked⟩

/-! ### The search -/

theorem mem_candidates : n ∈ candidates s p → n < 10 ∧ bit (waitSet s p) n = false ∧ (lane s p (rxPhys s p n)).refused = false := by
  unfold candidates
  simp only [List.mem_filter, Bool.and_eq_true, Bool.not_eq_true']
  rintro ⟨hn, ⟨⟨-, hw⟩, hr⟩, -⟩
  exact ⟨(mem_upFrom.1 hn).2.trans_le (by omega), hw, hr⟩

/-- What the search for a lane may do: nothing; end our own test of a candidate, which then has its frames to find; ask
for a candidate; or give up. -/
inductive Seeks (s : State) (p reason : Nat) : State → Prop
  | rests : Seeks s p reason s
  | preempts {n : Nat} : n ∈ candidates s p → ownTest s p (rxPhys s p n) = true →
      Seeks s p reason (reacquire (endTest s p (rxPhys s p n) stPreempted) p (rxPhys s p n))
  | asks {n : Nat} : n ∈ candidates s p →
      Seeks s p reason (queueCmd (setPort s p fun x => { x with asked := some (n, reason) }) p (laneRecord 3 n reason 0) none)
  | ends : Seeks s p reason (searchOver s p)
  | told : Seeks s p reason (reportPartner (searchOver s p) 0x03 p (waitSet (searchOver s p) p))

theorem seeks_seekLane : Seeks s p reason (seekLane s p reason) := by
  have hchoice : ∀ c : Option Nat, (∀ n, c = some n → n ∈ candidates s p) → Seeks s p reason
      (match c with
      | some n =>
        if ownTest s p (rxPhys s p n) then reacquire (endTest s p (rxPhys s p n) stPreempted) p (rxPhys s p n)
        else queueCmd (setPort s p fun x => { x with asked := some (n, reason) }) p (laneRecord 3 n reason 0) none
      | none =>
        if reason = 5 then reportPartner (searchOver s p) 0x03 p (waitSet (searchOver s p) p) else searchOver s p) := by
    rintro (_ | n) hn <;> dsimp only <;> split
    · exact .told
    · exact .ends
    · exact .preempts (hn n rfl) ‹_›
    · exact .asks (hn n rfl)
  unfold seekLane
  split
  · exact .rests
  · have hfree : ∀ n, ((candidates s p).filter fun n => !underTest s p n).head? = some n → n ∈ candidates s p :=
      fun n hn => (List.mem_filter.1 (List.mem_of_head? hn)).1
    dsimp only
    generalize hf : ((candidates s p).filter fun n => !underTest s p n) = free at *
    cases free with
    | cons m ms => exact hchoice (some m) (by simpa using hfree)
    | nil =>
      refine hchoice (if reason = 5 then (candidates s p).head? else none) fun n hn => ?_
      split at hn
      · exact List.mem_of_head? hn
      · cases hn

theorem asked_sends (h : Sends s t) : (port t p).asked = (port s p).asked := by
  have hp := congrArg Port.asked (h.port p)
  exact hp

theorem sends_reportPartner (cause detail : Nat) : Sends s (reportPartner s cause p detail) := sends_report ..

theorem port_searchOver (h : HasLanes s p) : port (searchOver s p) p =
    { port s p with lanes := (port s p).lanes.map fun l => { l with refused := false } } := h.port_setPort _

/-- After the search nothing is asked for, or a candidate, or what was before. -/
theorem Seeks.asked (h : HasLanes s p) (g : Seeks s p reason t) :
    (port t p).asked = (port s p).asked ∨ ∃ m ∈ candidates s p, (port t p).asked = some (m, reason) := by
  cases g with
  | rests => exact .inl rfl
  | @preempts n hc ho =>
    have hend := testEnds_endTest (k := rxPhys s p n) stPreempted h
    refine .inl (Eq.trans ?_ hend.asked)
    show (port (setLane _ _ _ _) p).asked = _
    unfold setLane
    rw [hend.lanes.port_setPort]
  | asks hc =>
    refine .inr ⟨_, hc, ?_⟩
    rw [(commands_queueCmd ..).asked, h.port_setPort]
  | ends => exact .inl (by rw [port_searchOver h])
  | told => exact .inl ((asked_sends (sends_reportPartner ..)).trans (by rw [port_searchOver h]))

/-- The objects of a lane under our own test that the search may write. -/
theorem Seeks.get (h : HasLanes s p) (g : Seeks s p reason t) {c : Nat} (hc : c ∉ sendCns)
    (hl : ∀ k, k < 10 → ownTest s p k = true → c ∉ testCns p k ∧ c ≠ laneStateCn p k) : Machine.get t c = Machine.get s c := by
  cases g with
  | rests => rfl
  | @preempts n hn ho =>
    obtain ⟨ht, hs⟩ := hl _ (rxPhys_lt (mem_candidates hn).1) ho
    have hend := testEnds_endTest (k := rxPhys s p n) stPreempted h
    unfold reacquire
    rw [get_setRx_ne hs]
    exact (getRow_congr rfl rfl ..).trans (hend.store c 0 (by decide) ht)
  | asks hn => exact ((commands_queueCmd ..).get c).trans (getRow_congr rfl rfl ..)
  | ends => exact getRow_congr rfl rfl ..
  | told => exact ((sends_reportPartner ..).store c 0 (by decide) hc).trans (getRow_congr rfl rfl ..)

/-! ### The wait set of a port whose lane leaves -/

/-- What the commands between the ends of port `p` read of it is not among what sending writes. -/
theorem portLinks_notMem (hp : p < 8) (hk : k < 10) :
    ofPort p 0x2010_02 ∉ sendCns ∧ ofPort p 0x2000_01 ∉ sendCns ∧ laneStateCn p k ∉ sendCns := by
  unfold laneStateCn ofLane ofPort
  exact ⟨notMem_sendCns (by omega) (by omega), notMem_sendCns (by omega) (by omega), notMem_sendCns (by omega) (by omega)⟩

/-- The lane's receiver leaves the state of a lane that carries traffic. -/
def receiverDrops (s : State) (p k : Nat) : State := if rxState s p k = 2 then setRx s p k 3 else s

theorem receiverDrops_get {c : Nat} (h : c ≠ laneStateCn p k) : get (receiverDrops s p k) c = get s c := by
  unfold receiverDrops
  split
  · exact get_setRx_ne h
  · rfl

theorem receiverDrops_ports : (receiverDrops s p k).ports = s.ports := by
  unfold receiverDrops
  split <;> rfl

theorem receiverDrops_rxState (h : rxState s p k = 2) : rxState (receiverDrops s p k) p k = 3 := by
  unfold receiverDrops
  rw [if_pos h, rxState_setRx (by decide)]

theorem does_laneRemove {on r : Nat} (h : PortRuns s p) (hup : isUp s p = true) (hn : fld r 119 116 < 10)
    (hin : bit (waitSet s p) (fld r 119 116) = true) (hleft : setBit (waitSet s p) (fld r 119 116) false ≠ 0)
    (htest : (lane s p (rxPhys s p (fld r 119 116))).test = 0) :
    Does (exec (.laneRemove p on r) s) fun u =>
      waitSet u p = setBit (waitSet s p) (fld r 119 116) false ∧ linkState u p = 1 ∧
      (rxState s p (rxPhys s p (fld r 119 116)) = 2 → rxState u p (rxPhys s p (fld r 119 116)) = 3) := by
  have hact := (laneActs_withCode (c := 2) (by decide) hup hn).trans laneAction_remove
  generalize fld r 119 116 = n at *
  obtain ⟨hw, hmap, hl⟩ := ofPort_ne_laneState p (rxPhys s p n)
  have hk := rxPhys_lt (s := s) (p := p) hn
  have hphys : rxPhys (set s (ofPort p 0x2010_02) (setBit (waitSet s p) n false)) p n = rxPhys s p n :=
    rxPhys_congr (p := p) (get_set_ne _ _ (by unfold ofPort; omega)) n
  generalize ha : set s (ofPort p 0x2010_02) (setBit (waitSet s p) n false) = a at *
  have hwait : waitSet a p = setBit (waitSet s p) n false := by rw [← ha]; exact get_set_same ..
  have hlink : linkState a p = 1 := by
    rw [← ha]
    exact (get_set_ne _ _ (by unfold ofPort; omega)).trans (beq_iff_eq.1 hup)
  have hrx : rxState a p (rxPhys s p n) = rxState s p (rxPhys s p n) := by
    rw [← ha]
    exact congrArg (fld · 3 0) (get_set_ne _ _ (Ne.symm hw))
  have hports : a.ports = s.ports := by rw [← ha]; rfl
  generalize rxPhys s p n = k at *
  have hdrop := receiverDrops_rxState (s := a) (p := p) (k := k)
  have hget : ∀ c, c ≠ laneStateCn p k → get (receiverDrops a p k) c = get a c := fun c => receiverDrops_get
  have hlanes : HasLanes (receiverDrops a p k) p := h.hasLanes.congr (receiverDrops_ports.trans hports)
  have htest' : (lane (receiverDrops a p k) p k).test = 0 := by rw [lane_congr (receiverDrops_ports.trans hports), htest]
  have he : dropWaitLane s p n = seekLane (receiverDrops a p k) p 5 := by
    unfold dropWaitLane
    simp only [hin, Bool.not_true, Bool.false_eq_true, if_false, ha, hphys]
    exact if_neg (by show ¬ waitSet (receiverDrops a p k) p = 0; unfold waitSet; rw [hget _ hw]; exact fun h0 => hleft (hwait.symm.trans h0))
  generalize receiverDrops a p k = b at *
  have hseek := seeks_seekLane (s := b) (p := p) (reason := 5)
  obtain ⟨hs1, hs2, hs3⟩ := portLinks_notMem h.lt hk
  have htests : ∀ j, j < 10 → ownTest b p j = true → ofPort p 0x2010_02 ∉ testCns p j ∧ ofPort p 0x2000_01 ∉ testCns p j ∧
      laneStateCn p k ∉ testCns p j ∧ laneStateCn p k ≠ laneStateCn p j := fun j hj ho => by
    have hjk : j ≠ k := by
      rintro rfl
      simp [ownTest, htest'] at ho
    simp only [testCns, laneStateCn, ofLane, ofPort, List.mem_cons, List.not_mem_nil, or_false, not_or]
    omega
  refine does_portEvent h (f := fun s => laneActs s p (withCode 2 r)) rfl (hact.trans he) ⟨?_, ?_, fun h2 => ?_⟩
  · refine (hseek.get hlanes hs1 fun j hj ho => ⟨(htests j hj ho).1, ?_⟩).trans ((hget _ hw).trans hwait)
    exact (ofPort_ne_laneState p j).1
  · refine (hseek.get hlanes hs2 fun j hj ho => ⟨(htests j hj ho).2.1, ?_⟩).trans ((hget _ hl).trans hlink)
    exact (ofPort_ne_laneState p j).2.2
  · refine Eq.trans (congrArg (fld · 3 0) ?_) (hdrop (hrx.trans h2))
    exact hseek.get hlanes hs3 fun j hj ho => (htests j hj ho).2.2

/-! ### The transmitter's answers -/

/-- No idle state of lane `n` waits to be announced. -/
def withoutIdle (s : State) (p n : Nat) : State :=
  setPort s p fun x => { x with cmds := x.cmds.filter fun c =>
    !((recCode c.record == 0x10 || recCode c.record == 0x11) && recLane c.record == n) }

theorem answerAdd_adds (h : HasLanes s p) (hout : bit (plannedDeal s p) n = false) (hroom : popcount 10 (plannedDeal s p) < 8)
    (hfail : (lane s p n).peerFailed = false) (htest : (lane s p n).test = 0) (htx : txState s p n = 3)
    (htr : (lane s p n).peerTrained = true) (hleav : (lane s p n).leaving = 0) (hann : (lane s p n).announced = none)
    (hwake : (lane s p n).waking = false) :
    answerAdd s p n reason = queueCmd (withoutIdle s p n) p (laneRecord 1 n reason 0) (some n) := by
  have hlane : lane (withoutIdle s p n) p n = lane s p n := by
    refine h.lane_setPort ?_ n
    exact fun _ => rfl
  have hdrop : dropIdle s p n = withoutIdle s p n := by
    change (match (lane (withoutIdle s p n) p n).announced with
      | some (v, _) => if v = 4 || v = 5 then setLane (withoutIdle s p n) p n fun l => { l with announced := none, waking := true } else withoutIdle s p n
      | none => withoutIdle s p n) = _
    rw [hlane, hann]
  unfold answerAdd
  rw [hdrop]
  simp [hout, hroom, hfail, htest, htx, htr, hleav, hwake, hlane]

theorem does_laneRequestAdd {on r : Nat} (h : PortRuns s p) (hup : isUp s p = true) (hn : fld r 119 116 < 10)
    (hadds : answerAdd s p (fld r 119 116) (fld r 115 112) =
        queueCmd (withoutIdle s p (fld r 119 116)) p (laneRecord 1 (fld r 119 116) (fld r 115 112) 0) (some (fld r 119 116)))
    (hidle : ∀ c ∈ (port s p).cmds, recLane c.record = fld r 119 116 → recCode c.record ≠ 0x10 ∧ recCode c.record ≠ 0x11) :
    Does (exec (.laneRequestAdd p on r) s) fun u =>
      (port u p).cmds = (port s p).cmds ++ [{ record := laneRecord 1 (fld r 119 116) (fld r 115 112) 0, lane := some (fld r 119 116) }] ∧
      u = { s with ports := u.ports } := by
  have hact := (laneActs_withCode (c := 3) (by decide) hup hn).trans laneAction_requestAdd
  generalize fld r 119 116 = n at *
  generalize fld r 115 112 = reason at *
  have hlanes : HasLanes (withoutIdle s p n) p := h.hasLanes.setPort fun _ => rfl
  have hcmds : (port (withoutIdle s p n) p).cmds = (port s p).cmds := by
    unfold withoutIdle
    rw [h.hasLanes.port_setPort]
    refine List.filter_eq_self.2 fun c hc => ?_
    have := hidle c hc
    simp only [Bool.not_eq_true', Bool.and_eq_false_iff, Bool.or_eq_false_iff, beq_eq_false_iff_ne]
    tauto
  refine does_portEvent h (f := fun s => laneActs s p (withCode 3 r)) rfl (hact.trans hadds) ⟨?_, rfl⟩
  rw [cmds_queueCmd hlanes, hcmds]

theorem does_laneRequestRemove {on r : Nat} (h : PortRuns s p) (hup : isUp s p = true) (hn : fld r 119 116 < 10)
    (hin : bit (plannedDeal s p) (fld r 119 116) = true) :
    Does (exec (.laneRequestRemove p on r) s) fun u =>
      (∃ c, (port u p).cmds = (port s p).cmds ++ [c] ∧
        c.record = (if popcount 10 (plannedDeal s p) = 1 then laneRecord 5 (fld r 119 116) 0 1
                    else laneRecord 2 (fld r 119 116) (fld r 115 112) 0)) ∧ u = { s with ports := u.ports } := by
  have hact := (laneActs_withCode (c := 4) (by decide) hup hn).trans laneAction_requestRemove
  generalize fld r 119 116 = n at *
  generalize fld r 115 112 = reason at *
  obtain ⟨rec, on', he, hrec⟩ : ∃ rec on', answerRemove s p n reason = queueCmd s p rec on' ∧
      rec = (if popcount 10 (plannedDeal s p) = 1 then laneRecord 5 n 0 1 else laneRecord 2 n reason 0) := by
    unfold answerRemove
    rw [hin, if_neg (by decide)]
    split
    · exact ⟨_, _, rfl, rfl⟩
    · exact ⟨_, _, rfl, rfl⟩
  refine does_portEvent h (f := fun s => laneActs s p (withCode 4 r)) rfl (hact.trans he) ⟨?_, rfl⟩
  exact ⟨_, cmds_queueCmd h.hasLanes .., hrec⟩

/-! ### A refusal -/

theorem refused_unrefused (xs : List Lane) (k : Nat) (h : k < xs.length) :
    (nth Lane.reset k (xs.map fun l => { l with refused := false })).refused = false := by
  induction xs generalizing k with
  | nil => simp at h
  | cons x xs ih =>
    cases k with
    | zero => rfl
    | succ k => exact ih k (by simpa using h)

theorem refused_searchOver (h : HasLanes s p) (hk : k < 10) : (lane (searchOver s p) p k).refused = false := by
  unfold lane
  rw [port_searchOver h]
  have hl : k < (port s p).lanes.length := by rw [h.lanes]; exact hk
  exact refused_unrefused _ _ hl

theorem does_laneRefuse {on r : Nat} (h : PortRuns s p) (hup : isUp s p = true) (hn : fld r 119 116 < 10)
    (hask : (port s p).asked = some (fld r 119 116, reason)) :
    Does (exec (.laneRefuse p on r) s) fun u =>
      (fld r 111 108 ≠ 2 → fld r 111 108 ≠ 3 →
        (port u p).asked = none ∧ (∀ k, k < 10 → (lane u p k).refused = false) ∧ u = { s with ports := u.ports }) ∧
      (fld r 111 108 = 2 ∨ fld r 111 108 = 3 →
        (port u p).asked = none ∨ ∃ m, m ≠ fld r 119 116 ∧ (port u p).asked = some (m, reason)) := by
  have hact := (laneActs_withCode (c := 5) (by decide) hup hn).trans laneAction_refuse
  generalize fld r 119 116 = n at *
  generalize fld r 111 108 = refusal at *
  obtain ⟨a, ha⟩ : ∃ a, a = setPort s p fun x => { x with asked := none } := ⟨_, rfl⟩
  have hlanes : HasLanes a p := by rw [ha]; exact h.hasLanes.setPort fun _ => rfl
  have hasked : (port a p).asked = none := by rw [ha, h.hasLanes.port_setPort]
  have he : laneRefused s p n refusal = if refusal = 2 ∨ refusal = 3 then
      seekLane (setLane a p (rxPhys a p n) fun l => { l with refused := true }) p reason else searchOver a p := by
    unfold laneRefused
    rw [hask, ha]
    simp only [if_true, Bool.or_eq_true, decide_eq_true_eq]
  refine does_portEvent h (f := fun s => laneActs s p (withCode 5 r)) rfl (hact.trans he) ⟨fun h2 h3 => ?_, fun h23 => ?_⟩
  · rw [if_neg (by tauto)]
    refine ⟨by rw [port_searchOver hlanes]; exact hasked, fun k hk => refused_searchOver hlanes hk, ?_⟩
    rw [ha]
    rfl
  · rw [if_pos h23]
    have hphys : rxPhys (setLane a p (rxPhys a p n) fun l => { l with refused := true }) p n = rxPhys a p n :=
      rxPhys_congr (getRow_congr rfl rfl ..) n
    have hb : (lane (setLane a p (rxPhys a p n) fun l => { l with refused := true }) p (rxPhys a p n)).refused = true := by
      rw [hlanes.lane_setLane_same (rxPhys_lt hn)]
    have hba : (port (setLane a p (rxPhys a p n) fun l => { l with refused := true }) p).asked = none := by
      unfold setLane
      rw [hlanes.port_setPort]
      exact hasked
    have hbl := hlanes.setLane (k := rxPhys a p n) fun l => { l with refused := true }
    generalize (setLane a p (rxPhys a p n) fun l => { l with refused := true }) = b at *
    rcases (seeks_seekLane (s := b) (p := p) (reason := reason)).asked hbl with hs | ⟨m, hm, hs⟩
    · exact .inl (hs.trans hba)
    · refine .inr ⟨m, ?_, hs⟩
      rintro rfl
      have hr := (mem_candidates hm).2.2
      rw [hphys, hb] at hr
      cases hr

/-! ### The partner's announcements -/

/-- The partner's state of the lane, with nothing of the receiver. -/
def announced (s : State) (p k v : Nat) : State := setLane s p k fun l => { l with peerState := v }

theorem peerAnnounces_failed (h : HasLanes s p) (hn : n < 10) (v : Nat) (hf : (lane s p (rxPhys s p n)).rxFailed = true) :
    peerAnnounces s p n v = announced s p (rxPhys s p n) v := by
  have hl : lane (announced s p (rxPhys s p n) v) p (rxPhys s p n) = _ := h.lane_setLane_same (rxPhys_lt hn) _
  refine if_pos ?_
  change (lane (announced s p (rxPhys s p n) v) p (rxPhys s p n)).rxFailed = true
  rw [hl]
  exact hf

theorem peerAnnounces_runs (h : HasLanes s p) (hn : n < 10) (v : Nat) (hf : (lane s p (rxPhys s p n)).rxFailed = false) :
    peerAnnounces s p n v =
      if v = 0 then reacquire (announced s p (rxPhys s p n) v) p (rxPhys s p n)
      else if v = 6 then setRx (reacquire (announced s p (rxPhys s p n) v) p (rxPhys s p n)) p (rxPhys s p n) 6
      else setRx (announced s p (rxPhys s p n) v) p (rxPhys s p n) v := by
  have hl : lane (announced s p (rxPhys s p n) v) p (rxPhys s p n) = _ := h.lane_setLane_same (rxPhys_lt hn) _
  refine if_neg ?_
  change ¬ (lane (announced s p (rxPhys s p n) v) p (rxPhys s p n)).rxFailed = true
  rw [hl, hf]
  decide

/-- The receive lane `k` of port `p` after the partner's announcement of state `v`. -/
structure Announced (s : State) (p k v : Nat) (u : State) : Prop where
  peer : (lane u p k).peerState = v
  rx : rxState u p k = if v = 0 then 1 else v
  trained : (lane u p k).rxTrained = ((lane s p k).rxTrained && v != 6 && v != 0)
  store : StoreFrame s u [laneStateCn p k]
  rest : u = { s with ports := u.ports, cat := u.cat }

theorem announced_setRx {v w : Nat} (hp : (lane t p k).peerState = v)
    (htr : (lane t p k).rxTrained = ((lane s p k).rxTrained && v != 6 && v != 0)) (hw : w < 16) (hv : w = if v = 0 then 1 else v)
    (hstore : StoreFrame s t [laneStateCn p k]) (hrest : t = { s with ports := t.ports, cat := t.cat }) :
    Announced s p k v (setRx t p k w) := by
  refine ⟨hp, (rxState_setRx hw).trans hv, htr, hstore.trans (storeFrame_setF _ _ _ _ (by decide)), ?_⟩
  show { t with cat := _ } = _
  rw [hrest]
  rfl

/-- The lane has lost its frames, its receiver not yet in the state that follows. -/
def unframed (s : State) (p k : Nat) : State := setLane s p k fun l => { l with rxTrained := false, lock := 0, plates := 0 }

theorem announced_runs (h : HasLanes s p) (hk : k < 10) {v : Nat} (hv : v = 4 ∨ v = 5 ∨ v = 6 ∨ v = 0) :
    Announced s p k v (if v = 0 then reacquire (announced s p k v) p k
      else if v = 6 then setRx (reacquire (announced s p k v) p k) p k 6 else setRx (announced s p k v) p k v) := by
  have hl : lane (announced s p k v) p k = _ := h.lane_setLane_same hk _
  have hc : StoreFrame s (announced s p k v) [laneStateCn p k] := .of_cat rfl rfl
  have hr : announced s p k v = { s with ports := (announced s p k v).ports, cat := (announced s p k v).cat } := rfl
  have hlanes : HasLanes (announced s p k v) p := h.setLane _
  generalize announced s p k v = a at *
  have hu : lane (unframed a p k) p k = _ := hlanes.lane_setLane_same hk _
  have huc : StoreFrame s (unframed a p k) [laneStateCn p k] := hc.trans (.of_cat rfl rfl)
  have hur : unframed a p k = { s with ports := (unframed a p k).ports, cat := (unframed a p k).cat } := by
    conv_lhs => rw [hr]
    rw [show unframed a p k = { a with ports := (unframed a p k).ports } from rfl, hr]
    rfl
  have hq : reacquire a p k = setRx (unframed a p k) p k 1 := rfl
  rw [hq]
  generalize unframed a p k = b at *
  rcases hv with rfl | rfl | rfl | rfl
  · exact announced_setRx (by rw [hl]) (by rw [hl]; simp) (by decide) rfl hc hr
  · exact announced_setRx (by rw [hl]) (by rw [hl]; simp) (by decide) rfl hc hr
  · refine announced_setRx (by rw [lane_congr (setRx_ports 1), hu, hl]) (by rw [lane_congr (setRx_ports 1), hu]; simp) (by decide) rfl
      (huc.trans (storeFrame_setF _ _ _ _ (by decide))) ?_
    show { b with cat := _ } = _
    rw [hur]
    rfl
  · exact announced_setRx (by rw [hu, hl]) (by rw [hu]; simp) (by decide) rfl huc hur

theorem does_peerAnnounces {c : Instr} {r v code : Nat} (h : PortRuns s p) (hup : isUp s p = true) (hn : fld r 119 116 < 10)
    (hc : exec c s = portEvent p (fun s => laneActs s p (withCode code r)) s)
    (hcode : (code, v) ∈ [(0x10, 4), (0x11, 5), (0x12, 6), (0x13, 0)]) :
    Does (exec c s) fun u =>
      ((lane s p (rxPhys s p (fld r 119 116))).rxFailed = true →
        (lane u p (rxPhys s p (fld r 119 116))).peerState = v ∧ u = { s with ports := u.ports }) ∧
      ((lane s p (rxPhys s p (fld r 119 116))).rxFailed = false →
      (lane u p (rxPhys s p (fld r 119 116))).peerState = v ∧ rxState u p (rxPhys s p (fld r 119 116)) = (if v = 0 then 1 else v) ∧
      (lane u p (rxPhys s p (fld r 119 116))).rxTrained = ((lane s p (rxPhys s p (fld r 119 116))).rxTrained && v != 6 && v != 0) ∧
      StoreFrame s u [laneStateCn p (rxPhys s p (fld r 119 116))] ∧ u = { s with ports := u.ports, cat := u.cat }) := by
  have hv : v = 4 ∨ v = 5 ∨ v = 6 ∨ v = 0 := by simp at hcode; omega
  have hact := (laneActs_withCode (c := code) (by simp at hcode; omega) hup hn).trans (laneAction_announces hcode)
  generalize fld r 119 116 = n at *
  have hk := rxPhys_lt (s := s) (p := p) hn
  refine does_portEvent h (f := fun s => laneActs s p (withCode code r)) hc hact ?_
  by_cases hf : (lane s p (rxPhys s p n)).rxFailed = true
  · rw [peerAnnounces_failed h.hasLanes hn v hf]
    refine ⟨fun _ => ⟨?_, rfl⟩, fun hf' => absurd (hf.symm.trans hf') (by decide)⟩
    unfold announced
    rw [h.hasLanes.lane_setLane_same hk]
  · rw [peerAnnounces_runs h.hasLanes hn v (by simpa using hf)]
    obtain ⟨h1, h2, h3, h4, h5⟩ := announced_runs h.hasLanes hk hv
    exact ⟨fun hf' => absurd hf' hf, fun _ => ⟨h1, h2, h3, h4, h5⟩⟩

/-! ### lane_change and rx_width_target (Table 10.8, R248) -/

section
variable {rq : Requester}

theorem laneChangeOp_adds (hp : p < portsOf s.part) (hup : isUp s p = true) (hn : n < 10) (hout : bit (waitSet s p) n = false) :
    laneChangeOp p n false s =
      (queueCmd (setPort s p fun x => { x with asked := x.asked <|> some (n, 6) }) p (laneRecord 3 n 6 0) none, .done stOk 0) := by
  unfold laneChangeOp
  rw [if_neg (by simp; omega), hup, if_neg (by decide), if_neg (by decide), hout, if_neg (by decide)]

theorem laneChangeOp_removes (hp : p < portsOf s.part) (hup : isUp s p = true) (hn : n < 10) (hin : bit (plannedDeal s p) n = true)
    (hmore : popcount 10 (plannedDeal s p) ≠ 1) :
    laneChangeOp p n true s = (queueCmd s p (laneRecord 2 n 6 0) (some n), .done stOk 0) := by
  unfold laneChangeOp
  rw [if_neg (by simp; omega), hup, if_neg (by decide), if_pos rfl, hin, if_neg (by decide), if_neg hmore]

/-- A command that queues a lane command and returns. -/
theorem completed_queueCmd {cn record : Nat} {xs : List Nat} {on : Option Nat} (hcn : cn ≠ 0x1110_03) (hl : p < s.ports.length)
    (hcmds : (port t p).cmds = (port s p).cmds) (ht : t = { renewLease s rq with ports := t.ports })
    (hlen : t.ports.length = s.ports.length) :
    (port (doneState s (queueCmd t p record on) rq cn stOk 0 xs) p).cmds = (port s p).cmds ++ [{ record := record, lane := on }] ∧
    Completed s (doneState s (queueCmd t p record on) rq cn stOk 0 xs) rq cn 0 [] ∧
    doneState s (queueCmd t p record on) rq cn stOk 0 xs =
      { s with ports := (doneState s (queueCmd t p record on) rq cn stOk 0 xs).ports
               cat := (doneState s (queueCmd t p record on) rq cn stOk 0 xs).cat
               log := (doneState s (queueCmd t p record on) rq cn stOk 0 xs).log
               mgmt := (doneState s (queueCmd t p record on) rq cn stOk 0 xs).mgmt } := by
  have hq : (port (queueCmd t p record on) p).cmds = (port s p).cmds ++ [{ record := record, lane := on }] := by
    unfold queueCmd
    rw [port_setPort_same _ (by rw [hlen]; exact hl), hcmds]
  have hqr : queueCmd t p record on = { renewLease s rq with ports := (queueCmd t p record on).ports } := by
    show { t with ports := _ } = _
    rw [ht]
    rfl
  generalize queueCmd t p record on = a at *
  refine ⟨by rw [port_congr (doneState_ports ..)]; exact hq, doneState_completed hcn ?_ ?_ ?_ ?_, ?_⟩
  · rw [hqr]
    exact renewLease_time s rq
  · rw [hqr]
    exact renewLease_log s rq
  · rw [hqr]
    show (renewLease s rq).mgmt = { s.mgmt with leaseOver := (renewLease s rq).mgmt.leaseOver }
    rw [renewLease_eq]
  · exact .of_cat (by rw [hqr]; exact renewLease_part s rq) (by rw [hqr]; exact renewLease_cat s rq)
  · have ha : a = { s with ports := a.ports, mgmt := a.mgmt } := by
      obtain ⟨l, hl⟩ := renewLease_withMgmt s rq
      rw [hl] at hqr
      rw [hqr]
    have hd := doneState_eq (s := s) (t := a) (rq := rq) (cn := cn) (st := stOk) (r := 0) (xs := xs)
    generalize doneState s a rq cn stOk 0 xs = d at *
    rw [hd, ha]

theorem leaves_laneChangeAdd (g : Granted s rq (ofPort p 0x2010_03) [n, 0]) (hp : p < portsOf s.part) (h8 : s.ports.length = 8)
    (hup : isUp s p = true) (hn : n < 10) (hout : bit (waitSet s p) n = false) :
    Leaves (exec (.laneChangeAdd rq p n) s) fun u =>
      (port u p).cmds = (port s p).cmds ++ [{ record := laneRecord 3 n 6 0, lane := none }] ∧
      Completed s u rq (ofPort p 0x2010_03) 0 [] ∧
      u = { s with ports := u.ports, cat := u.cat, log := u.log, mgmt := u.mgmt } := by
  have hl : p < s.ports.length := by rw [h8]; exact hp.trans_le (portsOf_le _)
  have hget : ∀ c, get (renewLease s rq) c = get s c := fun c => getRow_congr (by simp) (by simp) ..
  have e := laneChangeOp_adds (s := renewLease s rq) (p := p) (n := n) (by simpa using hp)
    (by unfold isUp linkState at hup ⊢; rw [hget]; exact hup) hn (by unfold waitSet at hout ⊢; rw [hget]; exact hout)
  refine leaves_commandAccess g e (completed_queueCmd (by unfold ofPort; omega) hl ?_ rfl ?_)
  · rw [port_setPort_same _ (by simpa using hl)]
    rw [port_congr (renewLease_ports s rq)]
  · rw [length_setPort, renewLease_ports]

theorem leaves_laneChangeRemove (g : Granted s rq (ofPort p 0x2010_03) [n, 1]) (hp : p < portsOf s.part) (h8 : s.ports.length = 8)
    (hup : isUp s p = true) (hn : n < 10) (hin : bit (plannedDeal s p) n = true) (hmore : popcount 10 (plannedDeal s p) ≠ 1) :
    Leaves (exec (.laneChangeRemove rq p n) s) fun u =>
      (port u p).cmds = (port s p).cmds ++ [{ record := laneRecord 2 n 6 0, lane := some n }] ∧
      Completed s u rq (ofPort p 0x2010_03) 0 [] ∧
      u = { s with ports := u.ports, cat := u.cat, log := u.log, mgmt := u.mgmt } := by
  have hl : p < s.ports.length := by rw [h8]; exact hp.trans_le (portsOf_le _)
  have hget : ∀ c, get (renewLease s rq) c = get s c := fun c => getRow_congr (by simp) (by simp) ..
  have hdeal : plannedDeal (renewLease s rq) p = plannedDeal s p := by
    unfold plannedDeal
    rw [port_congr (renewLease_ports s rq)]
    unfold dealSet
    rw [hget]
  have e := laneChangeOp_removes (s := renewLease s rq) (p := p) (n := n) (by simpa using hp)
    (by unfold isUp linkState at hup ⊢; rw [hget]; exact hup) hn (by rw [hdeal]; exact hin) (by rw [hdeal]; exact hmore)
  refine leaves_commandAccess g e (completed_queueCmd (by unfold ofPort; omega) hl ?_ rfl ?_)
  · rw [port_congr (renewLease_ports s rq)]
  · rw [renewLease_ports]

theorem rowWritten_widthTarget (hp : p < 8) (v : Nat) : rowWritten s (ofPort p 0x2050_04) 0 v = widthWritten s p := by
  rcases (by omega : p = 0 ∨ p = 1 ∨ p = 2 ∨ p = 3 ∨ p = 4 ∨ p = 5 ∨ p = 6 ∨ p = 7) with
    rfl | rfl | rfl | rfl | rfl | rfl | rfl | rfl <;> rfl

theorem does_rxWidthTargetWrite {v : Nat} {o : Obj} (ho : findObj s.part (ofPort p 0x2050_04) = some o) (hp : p < 8)
    (g : GrantedWrite s rq (ofPort p 0x2050_04) 0 v) (hup : isUp s p = false) :
    Does (exec (.rxWidthTargetWrite rq p v) s) fun u =>
      widthTarget u p = storedValue s.part o (ofPort p 0x2050_04) v ∧ StoreFrame s u [ofPort p 0x2050_04, 0x1110_03] ∧
      u = { s with cat := u.cat, log := u.log, mgmt := u.mgmt } := by
  refine does_writeAccess g ho fun b u hb hu => ?_
  have hlink : isUp b p = false := by
    unfold isUp linkState at hup ⊢
    rw [show get b (ofPort p 0x2000_01) = get s (ofPort p 0x2000_01) from
      (hb.store (by decide)) _ 0 (by decide) (by unfold ofPort; simp)]
    exact hup
  have hrow : rowWritten b (ofPort p 0x2050_04) 0 (getRow s (ofPort p 0x2050_04) 0) = b := by
    rw [rowWritten_widthTarget hp]
    unfold widthWritten
    rw [hlink]
    rfl
  rw [hrow] at hu
  refine ⟨?_, ((hb.store (by decide)).mono (by simp)).trans (hu.store.mono (by simp)), ?_⟩
  · exact (hu.reads _ 0 (by decide) (by unfold ofPort; omega)).trans hb.written
  · rw [hu.rest, hb.rest]

end

end

/-- Settles O48: each lane command acts as its record says, and the two writes of the management reach the lanes. -/
theorem laneCommandsAct : Obligations.LaneCommandsAct := by
  unfold Obligations.LaneCommandsAct
  refine ⟨?_, ?_, ?_, ?_, ?_, ?_, ?_, ?_, ?_, ?_⟩
  · exact fun s p on r => ⟨s, rfl, rfl⟩
  · rintro s p on r n k h hup rfl hn rfl hout htr hlost hask
    exact does_laneAdd h hup hn hout htr hlost hask
  · rintro s p on r n h hup rfl hn hin hleft htest
    exact does_laneRemove h hup hn hin hleft htest
  · rintro s p on r n h hup rfl hn hout hroom hfail htest htx htr hleav hann hwake hidle
    exact does_laneRequestAdd h hup hn (answerAdd_adds h.hasLanes hout hroom hfail htest htx htr hleav hann hwake) hidle
  · rintro s p on r n h hup rfl hn hin
    exact does_laneRequestRemove h hup hn hin
  · rintro s p on r n reason h hup rfl hn hask
    exact does_laneRefuse h hup hn hask
  · rintro s p on r n v c h hup rfl hn hc
    simp only [List.mem_cons, Prod.mk.injEq, List.not_mem_nil, or_false] at hc
    rcases hc with ⟨rfl, rfl⟩ | ⟨rfl, rfl⟩ | ⟨rfl, rfl⟩ | ⟨rfl, rfl⟩
    · exact does_peerAnnounces (code := 0x10) h hup hn rfl (by decide)
    · exact does_peerAnnounces (code := 0x11) h hup hn rfl (by decide)
    · exact does_peerAnnounces (code := 0x12) h hup hn rfl (by decide)
    · exact does_peerAnnounces (code := 0x13) h hup hn rfl (by decide)
  · exact fun s rq p n g hp h8 hup hn hout => leaves_laneChangeAdd g hp h8 hup hn hout
  · exact fun s rq p n g hp h8 hup hn hin hmore => leaves_laneChangeRemove g hp h8 hup hn hin hmore
  · exact fun s rq p v o ho hp g hup => does_rxWidthTargetWrite ho hp g hup

end Sys2Proof.Machine
end

section
/-! Flits leave, arrive and are replayed (R206 to R214). -/

namespace Sys2Proof.Machine

section
variable {s t u : State} {p n : Nat}

/-! ### A flit leaves -/

/-- A port without the marks of its own pool's occupancy and of the credits it has to return. -/
def unfreed (x : Port) : Port := { x with xoff := false, freed := [] }

/-- `t` is `s` but for the space that has come free in the receive buffers. -/
abbrev Frees : State → State → Prop := PortsKeep unfreed

theorem frees_reviewXoff : Frees s (reviewXoff s p) := by
  refine portsKeep_setPort ?_ p
  exact fun _ => rfl

theorem frees_freeRx (r : Option RxPlace) : Frees s (freeRx s r) := by
  unfold freeRx
  cases r with
  | none => exact PortsKeep.refl s
  | some r =>
    dsimp only
    split
    · exact frees_reviewXoff
    · refine portsKeep_setPort ?_ _
      exact fun _ => rfl

/-- What the transmitter of a port reads of it. -/
structure SameTx (x y : Port) : Prop where
  tx : y.tx = x.tx
  txSeq : y.txSeq = x.txSeq
  replay : y.replay = x.replay
  replayAt : y.replayAt = x.replayAt
  replayHeld : y.replayHeld = x.replayHeld
  cmds : y.cmds = x.cmds
  sent : y.sent = x.sent
  lastLane : y.lastLane = x.lastLane
  expect : y.expect = x.expect
  nakDue : y.nakDue = x.nakDue
  lanes : y.lanes = x.lanes

theorem SameTx.of_unfreed {x y : Port} (h : unfreed y = unfreed x) : SameTx x y := by
  have hall := Port.mk.inj h
  constructor <;> simp only [hall]

theorem Frees.sameTx (h : Frees s t) (p : Nat) : SameTx (port s p) (port t p) := .of_unfreed (h.ports p)

theorem HasLanes.frees (h : HasLanes s p) (g : Frees s t) : HasLanes t p :=
  ⟨by rw [g.count]; exact h.port, by rw [(g.sameTx p).lanes]; exact h.lanes⟩

theorem nextLane_congr (hl : (port t p).lastLane = (port s p).lastLane) (hd : dealSet t p = dealSet s p) : nextLane t p = nextLane s p := by
  unfold nextLane
  rw [hl, hd]

theorem Frees.nextLane (h : Frees s t) : Machine.nextLane t p = Machine.nextLane s p :=
  nextLane_congr (h.sameTx p).lastLane (h.get _)

theorem refreshed_seq (f : Flit) : (refreshed s p f).seq = f.seq := by
  unfold refreshed
  dsimp only

theorem refreshed_slots (f : Flit) : (refreshed s p f).slots = f.slots := by
  unfold refreshed
  dsimp only

/-- A flit dealt to the next lane in turn. -/
structure Dealt (s : State) (p n : Nat) (f : Flit) (u : State) : Prop where
  sent : (port u p).sent = (port s p).sent ++ [(n, refreshed s p f)]
  txSeq : (port u p).txSeq = (port s p).txSeq
  replay : (port u p).replay = (port s p).replay
  tx : (port u p).tx = (port s p).tx
  counted : get u (ofPort p 0x2020_01) = (get s (ofPort p 0x2020_01) + 1) % 2 ^ 64
  store : StoreFrame s u [ofPort p 0x2020_01]
  rest : u = { s with ports := u.ports, cat := u.cat }

/-- The port's own account of a flit `f` dealt to lane `n`, which is the next in turn. -/
def dealtPort (s : State) (p n : Nat) (f : Flit) : State :=
  setPort (setLane s p n fun l => { l with flits := l.flits + 1 }) p fun x =>
    { x with sent := x.sent ++ [(n, f)], nakDue := false, creditTurn := f.creditVc
             returned := modifyNth (fun _ => f.credit) f.creditVc x.returned
             creditAge := modifyNth (fun _ => 0) f.creditVc (x.creditAge.map (· + 1))
             lastLane := n }

theorem dealt_dealFlit (h : HasLanes s p) (hn : nextLane s p = some n) (f : Flit) : Dealt s p n f (dealFlit s p f none) := by
  have he : dealFlit s p f none = count64 (dealtPort s p n (refreshed s p f)) (ofPort p 0x2020_01) := by
    unfold dealFlit
    rw [hn]
    rfl
  have hport : port (dealtPort s p n (refreshed s p f)) p = _ := (h.setLane _).port_setPort _
  have hlane : port (setLane s p n fun l => { l with flits := l.flits + 1 }) p = _ := h.port_setPort _
  rw [hlane] at hport
  have hrest : dealtPort s p n (refreshed s p f) = { s with ports := (dealtPort s p n (refreshed s p f)).ports } := rfl
  have hcat : (dealtPort s p n (refreshed s p f)).cat = s.cat := rfl
  have hpart : (dealtPort s p n (refreshed s p f)).part = s.part := rfl
  rw [he]
  generalize dealtPort s p n (refreshed s p f) = a at *
  refine ⟨?_, ?_, ?_, ?_, ?_, (StoreFrame.of_cat hpart hcat).trans ((StoreFrame.refl _).set _ (by simp)), ?_⟩
  · have he := congrArg Port.sent hport
    exact he
  · have he := congrArg Port.txSeq hport
    exact he
  · have he := congrArg Port.replay hport
    exact he
  · have he := congrArg Port.tx hport
    exact he
  · rw [get_count64_same, show get a (ofPort p 0x2020_01) = get s (ofPort p 0x2020_01) from getRow_congr hpart hcat ..]
  · show { a with cat := _ } = _
    rw [hrest]
    rfl

/-! ### The slots of the packet under way -/

/-- A port without what filling a flit writes. -/
def unfilled (x : Port) : Port := { x with xoff := false, freed := [], tx := [] }

theorem Frees.unfilled (h : Frees s t) : PortsKeep unfilled s t := by
  refine ⟨h.rest, h.count, fun j => ?_⟩
  have hf := congrArg (fun x : Port => { x with tx := [] }) (h.ports j)
  exact hf

/-- One slot of the packet under way is in the flit. -/
def slotTaken (s : State) (p : Nat) (t : TxPacket) (left : List TxPacket) : State :=
  freeRx (setPort s p fun y => { y with tx := left }) (t.rx.bind RxPlace.one)

/-- The packet without its first slot. -/
def TxPacket.left (t : TxPacket) (xs : List Nat) : TxPacket := { t with slots := xs, rx := t.rx.map RxPlace.less }

theorem slotTaken_keeps (h : HasLanes s p) (t : TxPacket) (left : List TxPacket) :
    PortsKeep unfilled s (slotTaken s p t left) ∧ (port (slotTaken s p t left) p).tx = left ∧ HasLanes (slotTaken s p t left) p := by
  have hset : PortsKeep unfilled s (setPort s p fun y => { y with tx := left }) := by
    refine portsKeep_setPort ?_ p
    exact fun _ => rfl
  have hlanes : HasLanes (setPort s p fun y => { y with tx := left }) p := h.setPort fun _ => rfl
  have hfree : Frees (setPort s p fun y => { y with tx := left }) (slotTaken s p t left) := frees_freeRx _
  refine ⟨hset.trans hfree.unfilled, ?_, hlanes.frees hfree⟩
  rw [(hfree.sameTx p).tx, h.port_setPort]

theorem fillFlit_succ {fuel x : Nat} {xs : List Nat} {t : TxPacket} {w : Fill} (htx : (port s p).tx = [t]) (hb : t.begun = true)
    (ho : t.owed = 0) (hs : t.slots = x :: xs) (hw : w.abort = false) :
    fillFlit (fuel + 1) s p w =
      fillFlit fuel (slotTaken s p t (if xs.isEmpty then [] else [t.left xs])) p
        { slots := w.slots ++ [x], kind := w.kind, abort := xs.isEmpty && t.abort,
          ended := if xs.isEmpty then w.ended ++ t.entry.toList else w.ended } := by
  obtain ⟨slots, size, rx, owed, vc, begun, pool, abort, entry, queue, sample⟩ := t
  dsimp only at hb ho hs
  subst hb ho hs
  rw [fillFlit, hw, htx]
  simp only [Bool.false_eq_true, if_false, List.isEmpty_cons, if_true, Bool.not_true, Bool.false_and, Bool.and_true,
    decide_true, nth, List.drop_succ_cons, List.drop_zero]
  rfl

theorem fillFlit_done (fuel : Nat) {w : Fill} (htx : (port s p).tx = []) : fillFlit fuel s p w = (s, w) := by
  cases fuel with
  | zero => rfl
  | succ fuel =>
    rw [fillFlit, htx]
    split <;> rfl

theorem fillFlit_packet (xs : List Nat) (fuel : Nat) (s : State) (t : TxPacket) (w : Fill) (h : HasLanes s p)
    (htx : (port s p).tx = [t]) (hb : t.begun = true) (ho : t.owed = 0) (hs : t.slots = xs) (hne : xs ≠ []) (hlen : xs.length ≤ fuel)
    (hw : w.abort = false) :
    ∃ u, fillFlit fuel s p w =
        (u, { slots := w.slots ++ xs, kind := w.kind, abort := t.abort, ended := w.ended ++ t.entry.toList }) ∧
      PortsKeep unfilled s u ∧ (port u p).tx = [] ∧ HasLanes u p := by
  induction xs generalizing fuel s t w with
  | nil => exact absurd rfl hne
  | cons x xs ih =>
    obtain ⟨fuel, rfl⟩ : ∃ n, fuel = n + 1 := ⟨fuel - 1, by simp at hlen; omega⟩
    rw [fillFlit_succ htx hb ho hs hw]
    obtain ⟨hkeep, htx', hlanes⟩ := slotTaken_keeps h t (if xs.isEmpty then [] else [t.left xs])
    cases xs with
    | nil => exact ⟨_, fillFlit_done fuel htx', hkeep, htx', hlanes⟩
    | cons y ys =>
      obtain ⟨u, hu, hk, hx, hl⟩ := ih fuel _ (t.left (y :: ys))
        { slots := w.slots ++ [x], kind := w.kind, abort := false, ended := w.ended } hlanes htx' hb ho rfl (by simp)
        (by simpa using hlen) rfl
      refine ⟨u, ?_, hkeep.trans hk, hx, hl⟩
      refine Eq.trans hu ?_
      rw [List.append_assoc]
      rfl

theorem isUp_get (h : get t (ofPort p 0x2000_01) = get s (ofPort p 0x2000_01)) : isUp t p = isUp s p := by
  unfold isUp linkState
  rw [h]

theorem flitLeaves_packet (h : PortRuns s p) (hup : isUp s p = true) (hat : (port s p).replayAt = none)
    (hheld : (port s p).replayHeld = false) (hroom : (port s p).replay.length < 8192) (hcmds : (port s p).cmds = []) :
    flitLeaves s p =
      let w := fillFlit 15 (reviewXoff s p) p { slots := [], kind := none, abort := false, ended := [] }
      if w.2.slots.isEmpty then dealFlit w.1 p (blankFlit 1 (port w.1 p).txSeq) none
      else
        entriesLeft (sendSequenced w.1 p
          { blankFlit 0 (port w.1 p).txSeq with
            pool := w.2.kind == some true, abort := w.2.abort, slotsUsed := w.2.slots.length, slots := w.2.slots } none)
          w.2.ended := by
  have hx := (frees_reviewXoff (s := s) (p := p)).sameTx p
  unfold flitLeaves
  rw [h.powered, hup]
  simp only [Bool.not_true, Bool.or_self, Bool.false_eq_true, if_false, hx.replayAt, hat, hx.replayHeld, hheld, hx.replay, hx.cmds,
    hcmds, List.isEmpty_nil, Bool.false_or, decide_eq_true_eq, Nat.not_le.2 hroom]

section
variable (h : PortRuns s p) (hup : isUp s p = true) (hat : (port s p).replayAt = none) (hheld : (port s p).replayHeld = false)
  (hroom : (port s p).replay.length < 8192) (hcmds : (port s p).cmds = []) (hn : nextLane s p = some n)
include h hup hat hheld hroom hcmds hn

theorem does_idleFlit (htx : (port s p).tx = []) :
    Does (exec (.flitTransmit p) s) fun u =>
      (∃ f, (port u p).sent = (port s p).sent ++ [(n, f)] ∧ f.type = 1 ∧ f.seq = (port s p).txSeq ∧
        f.ack = ((port s p).expect + 65535) % 65536 ∧ f.nak = (port s p).nakDue ∧ f.slots = []) ∧
      (port u p).txSeq = (port s p).txSeq ∧ (port u p).replay = (port s p).replay ∧
      get u (ofPort p 0x2020_01) = (get s (ofPort p 0x2020_01) + 1) % 2 ^ 64 ∧
      StoreFrame s u [ofPort p 0x2020_01] ∧ u = { s with ports := u.ports, cat := u.cat } := by
  have hx := (frees_reviewXoff (s := s) (p := p)).sameTx p
  have hfrees : Frees s (reviewXoff s p) := frees_reviewXoff
  have he : flitLeaves s p = dealFlit (reviewXoff s p) p (blankFlit 1 (port (reviewXoff s p) p).txSeq) none := by
    rw [flitLeaves_packet h hup hat hheld hroom hcmds, fillFlit_done 15 (hx.tx.trans htx)]
    rfl
  generalize reviewXoff s p = a at *
  have hd := dealt_dealFlit (h.hasLanes.frees hfrees) (hfrees.nextLane.trans hn) (blankFlit 1 (port a p).txSeq)
  refine does_portEvent h (f := fun s => flitLeaves s p) rfl he ⟨⟨refreshed a p (blankFlit 1 (port a p).txSeq), ?_, rfl, ?_, ?_, ?_, rfl⟩, ?_, ?_, ?_, ?_, ?_⟩
  · rw [hd.sent, hx.sent]
  · exact hx.txSeq
  · exact congrArg (fun e => (e + 65535) % 65536) hx.expect
  · exact hx.nakDue
  · rw [hd.txSeq, hx.txSeq]
  · rw [hd.replay, hx.replay]
  · rw [hd.counted, hfrees.get]
  · exact (StoreFrame.of_cat (by rw [hfrees.rest]) (by rw [hfrees.rest])).trans hd.store
  · rw [hd.rest, hfrees.rest]

theorem does_dataFlit {t : TxPacket} (htx : (port s p).tx = [t]) (hb : t.begun = true) (hne : t.slots ≠ []) (hlen : t.slots.length ≤ 15)
    (ho : t.owed = 0) :
    Does (exec (.flitTransmit p) s) fun u =>
      ∃ f, (port u p).replay = (port s p).replay ++ [f] ∧ f.type = 0 ∧ f.seq = (port s p).txSeq ∧ f.slots = t.slots ∧
        f.slotsUsed = t.slots.length ∧ f.abort = t.abort ∧ (port u p).tx = [] ∧
        (port u p).txSeq = ((port s p).txSeq + 1) % 65536 ∧
        ∃ g, (port u p).sent = (port s p).sent ++ [(n, g)] ∧ g.seq = f.seq ∧ g.slots = f.slots := by
  have hx := (frees_reviewXoff (s := s) (p := p)).sameTx p
  have hfrees : Frees s (reviewXoff s p) := frees_reviewXoff
  have hl := flitLeaves_packet h hup hat hheld hroom hcmds
  obtain ⟨a, ha, hkeep, hatx, hlanes⟩ := fillFlit_packet t.slots 15 (reviewXoff s p) t
    { slots := [], kind := none, abort := false, ended := [] } (h.hasLanes.frees hfrees) (hx.tx.trans htx) hb ho rfl hne hlen rfl
  have hk := hfrees.unfilled.trans hkeep
  have hport : unfilled (port a p) = unfilled (port s p) := hk.ports p
  have hseq := congrArg Port.txSeq hport
  have hsent := congrArg Port.sent hport
  have hreplay := congrArg Port.replay hport
  have hlast := congrArg Port.lastLane hport
  change (port a p).txSeq = (port s p).txSeq at hseq
  change (port a p).sent = (port s p).sent at hsent
  change (port a p).replay = (port s p).replay at hreplay
  rw [ha] at hl
  simp only [List.nil_append, List.isEmpty_iff, hne, if_false] at hl
  obtain ⟨f, hf⟩ : ∃ f, f = { blankFlit 0 (port a p).txSeq with
    pool := (none == some true), abort := t.abort, slotsUsed := t.slots.length, slots := t.slots } := ⟨_, rfl⟩
  rw [← hf] at hl
  have hq : port (setPort a p fun x => { x with replay := x.replay ++ [f], txSeq := (x.txSeq + 1) % 65536 }) p = _ :=
    hlanes.port_setPort _
  have hqs := congrArg Port.txSeq hq
  dsimp only at hqs
  have hql : HasLanes (setPort a p fun x => { x with replay := x.replay ++ [f], txSeq := (x.txSeq + 1) % 65536 }) p :=
    hlanes.setPort fun _ => rfl
  have hqn : nextLane (setPort a p fun x => { x with replay := x.replay ++ [f], txSeq := (x.txSeq + 1) % 65536 }) p = some n := by
    rw [← hn]
    refine nextLane_congr ?_ (hk.get _)
    rw [hq]
    exact hlast
  have hsend : sendSequenced a p f none =
      dealFlit (setPort a p fun x => { x with replay := x.replay ++ [f], txSeq := (x.txSeq + 1) % 65536 }) p f none := rfl
  rw [hsend] at hl
  generalize (setPort a p fun x => { x with replay := x.replay ++ [f], txSeq := (x.txSeq + 1) % 65536 }) = b at *
  have hd := dealt_dealFlit hql hqn f
  generalize dealFlit b p f none = c at *
  have hports : ∀ runs, (entriesLeft c runs).ports = c.ports := fun runs =>
    foldl_keeps (·.ports) (fun t i => by split <;> rfl) runs c
  refine does_portEvent h (f := fun s => flitLeaves s p) rfl hl ⟨f, ?_, ?_, ?_, ?_, ?_, ?_, ?_, ?_, ?_⟩
  · rw [port_congr (hports _), hd.replay, hq]
    exact congrArg (· ++ [f]) hreplay
  · rw [hf]; rfl
  · rw [hf]; exact hseq
  · rw [hf]
  · rw [hf]
  · rw [hf]
  · rw [port_congr (hports _), hd.tx, hq]
    exact hatx
  · rw [port_congr (hports _), hd.txSeq, hqs, hseq]
  · refine ⟨refreshed b p f, ?_, refreshed_seq f, refreshed_slots f⟩
    rw [port_congr (hports _), hd.sent, hq]
    exact congrArg (· ++ [(n, refreshed b p f)]) hsent

end

/-! ### Replay -/

theorem does_badFlit {k bits : Nat} {bad : Bool} (h : PortRuns s p) (hup : isUp s p = true) (hk : k < 10) (ht : takesFlits s p k = true)
    (hskip : isSkip bits = false) (hbad : bad = true ∨ placeOk bits = false) :
    Does (exec (.flitReceive p k bits bad) s) fun u =>
      get u (ofPort p 0x2020_03) = (get s (ofPort p 0x2020_03) + 1) % 2 ^ 64 ∧
      StoreFrame s u [ofPort p 0x2020_03] ∧ u = { s with cat := u.cat } := by
  have he : flitArrives s p k bits bad = count64 s (ofPort p 0x2020_03) := by
    unfold flitArrives
    rw [h.powered, hup, ht, hskip, if_neg (by simp; omega), if_neg (by decide), if_pos]
    rcases hbad with hb | hb <;> simp [hb]
  refine does_portEvent h (f := fun s => flitArrives s p k bits bad) rfl he ⟨get_count64_same .., ?_, rfl⟩
  exact (StoreFrame.refl _).set _ (by simp)

theorem does_replayTimeout {f : Flit} {fs : List Flit} (h : PortRuns s p) (hup : isUp s p = true) (hr : (port s p).replay = f :: fs)
    (hlim : (port s p).fruitless + 1 < get s (ofPort p 0x2000_07)) :
    Does (exec (.replayTimeout p) s) fun u =>
      (port u p).replayAt = some f.seq ∧ (port u p).fruitless = (port s p).fruitless + 1 ∧
      (port u p).replay = f :: fs ∧ get u (ofPort p 0x2020_07) = (get s (ofPort p 0x2020_07) + 1) % 2 ^ 64 ∧
      u = { s with ports := u.ports, cat := u.cat } := by
  obtain ⟨a, ha⟩ : ∃ a, a = setPort (count64 s (ofPort p 0x2020_07)) p fun x =>
    { x with replayAt := some f.seq, replayFrom := some f.seq, fruitless := x.fruitless + 1
             replayHeld := x.replayHeld && x.replayAt.isNone } := ⟨_, rfl⟩
  have hlanes : HasLanes (count64 s (ofPort p 0x2020_07)) p := h.hasLanes.congr rfl
  have hport := hlanes.port_setPort fun x =>
    { x with replayAt := some f.seq, replayFrom := some f.seq, fruitless := x.fruitless + 1
             replayHeld := x.replayHeld && x.replayAt.isNone }
  have hps : port (count64 s (ofPort p 0x2020_07)) p = port s p := port_congr rfl p
  rw [← ha, hps] at hport
  have hget : ∀ c, c ≠ ofPort p 0x2020_07 → get a c = get s c := fun c hc => by
    rw [ha]
    exact (getRow_congr rfl rfl ..).trans (get_count64_ne _ hc)
  have hcount : get a (ofPort p 0x2020_07) = (get s (ofPort p 0x2020_07) + 1) % 2 ^ 64 := by
    rw [ha]
    exact (getRow_congr rfl rfl ..).trans (get_count64_same ..)
  have hrest : PortsMove s a := by
    rw [ha]
    rfl
  have hnot : ofPort p 0x2020_07 ∉ checkCns ∧ ofPort p 0x2000_07 ∉ checkCns := by
    have hall : ∀ x ∈ checkCns, 0x4000_00 ≤ x ∨ x % 0x1_0000 ≠ 0x2007 ∧ x % 0x1_0000 ≠ 0x0007 := by decide
    have hlt := h.lt
    constructor <;> intro hm <;> have := hall _ hm <;> unfold ofPort at this <;> omega
  have hodc : odc a 0x0C (some p) none 1 = { a with cat := (odc a 0x0C (some p) none 1).cat } := by
    have hm := portsMove_odc (s := a) 0x0C 1 (some p) none
    unfold PortsMove at hm
    rw [odc_ports] at hm
    exact hm
  have he : replayTimesOut s p = odc a 0x0C (some p) none 1 := by
    unfold replayTimesOut
    rw [hup, if_pos rfl, hr]
    dsimp only
    unfold beginReplay
    rw [← ha]
    dsimp only
    rw [get_odc _ _ _ _ hnot.2, hget _ (by unfold ofPort; omega), port_congr (odc_ports ..), hport, if_neg (Nat.not_le.2 hlim)]
  refine does_portEvent h (f := fun s => replayTimesOut s p) rfl he ⟨?_, ?_, ?_, ?_, ?_⟩
  · rw [port_congr (odc_ports ..), hport]
  · rw [port_congr (odc_ports ..), hport]
  · rw [port_congr (odc_ports ..), hport]
    exact hr
  · rw [get_odc _ _ _ _ hnot.1, hcount]
  · unfold PortsMove at hrest
    rw [hodc, hrest]

end

end Sys2Proof.Machine
end

section
/-! A DATA flit in sequence is delivered (R208, R213). -/

namespace Sys2Proof.Machine

section
variable {s t u : State} {p : Nat}

/-! ### What the packet stream leaves of the port it arrives at -/

/-- What the merge of the lanes and the peer's xoff hold of a port. -/
def mergeView (x : Port) : Nat × Option Nat × List (Nat × Flit) × List (Nat × List Flit) :=
  (x.expect, x.xoffAt, x.heldFlits, x.behind)

/-- Port `p` merges lanes as before, and its count of delivered flits has not changed. -/
structure Streams (p : Nat) (s t : State) : Prop where
  merge : mergeView (port t p) = mergeView (port s p)
  count : get t (ofPort p 0x2020_02) = get s (ofPort p 0x2020_02)

theorem Streams.refl (s : State) : Streams p s s := ⟨rfl, rfl⟩

theorem Streams.trans (h : Streams p s t) (g : Streams p t u) : Streams p s u :=
  ⟨g.merge.trans h.merge, g.count.trans h.count⟩

theorem streams_setPort {f : Port → Port} (h : ∀ x, mergeView (f x) = mergeView x) (q : Nat) : Streams p s (setPort s q f) := by
  refine ⟨?_, getRow_congr rfl rfl ..⟩
  rw [port_setPort]
  split
  · exact h _
  · rfl

theorem streams_set {c v : Nat} (h : c ≠ ofPort p 0x2020_02) : Streams p s (set s c v) := ⟨rfl, get_set_ne _ _ h.symm⟩

theorem streams_count64 {c : Nat} (h : c ≠ ofPort p 0x2020_02) : Streams p s (count64 s c) := streams_set h

theorem streams_of_ports (h : t.ports = s.ports) (hg : get t (ofPort p 0x2020_02) = get s (ofPort p 0x2020_02)) : Streams p s t :=
  ⟨by rw [port_congr h], hg⟩

theorem streams_sends (hp : p < 8) (h : Sends s t) : Streams p s t := by
  refine ⟨?_, h.store _ 0 (by decide) (notMem_sendCns (by unfold ofPort; omega) (by unfold ofPort; omega))⟩
  have hm := congrArg mergeView (h.port p)
  exact hm

theorem logEvent_ports (i k st d : Nat) : (logEvent s i k st d).ports = s.ports := by
  unfold logEvent
  split <;> rfl

theorem writeError_ports (i code : Nat) : (writeError s i code).ports = s.ports :=
  (logEvent_ports ..).trans (Eq.trans (set_ports (s := set s 0xA000_00 code)) (set_ports (s := s)))

theorem streams_writeError (hp : p < 8) (i code : Nat) : Streams p s (writeError s i code) := by
  refine streams_of_ports ?_ ?_
  · exact writeError_ports ..
  · exact writeError_store i code _ 0 (by decide) (by simp [ofPort]; omega)

theorem streams_linkError (hp : p < 8) : Streams p s (linkError s p) := by
  unfold linkError
  dsimp only
  refine Streams.trans (streams_count64 (c := ofPort p 0x2020_09) (by unfold ofPort; omega)) ?_
  exact (streams_writeError hp _ _).trans (streams_sends hp (sends_reportPartner ..))

theorem streams_reviewXoff (q : Nat) : Streams p s (reviewXoff s q) := by
  refine streams_setPort ?_ q
  exact fun _ => rfl

theorem streams_frees (h : Frees s t) : Streams p s t := by
  refine ⟨?_, h.get _⟩
  have hm := congrArg mergeView (h.ports p)
  exact hm

theorem streams_map {g : Port → Port} (hm : t.ports = s.ports.map g) (h0 : g Port.reset = Port.reset)
    (hg : ∀ x, mergeView (g x) = mergeView x) (hpart : t.part = s.part) (hcat : t.cat = s.cat) : Streams p s t := by
  refine ⟨?_, getRow_congr hpart hcat ..⟩
  have hport : port t p = g (port s p) := by
    have hn := nth_map g Port.reset p s.ports
    rw [h0, ← hm] at hn
    exact hn
  rw [hport, hg]

theorem streams_updCut (q : Nat) (f : Packet → RxPlace → Packet × RxPlace) (g : TxPacket → TxPacket) :
    Streams p s (updCut s q f g) := by
  refine streams_map rfl rfl ?_ rfl rfl
  exact fun _ => rfl

theorem streams_ite {c : Prop} [Decidable c] (h : c → Streams p s t) (h' : ¬c → Streams p s u) :
    Streams p s (if c then t else u) := by
  split
  · exact h ‹_›
  · exact h' ‹_›

theorem streams_rx (q : Nat) {f : Port → Port} (h : ∀ x, mergeView (f x) = mergeView x) (g : Streams p s t) :
    Streams p s (setPort t q f) := g.trans (streams_setPort h q)

theorem streams_closeCut (q : Nat) (short abort : Bool) : Streams p s (closeCut s q short abort) := by
  have hc : Streams p s (if short && cutHeld s q then count64 s (ofPort q 0x2080_03) else s) :=
    streams_ite (fun _ => streams_count64 (by unfold ofPort; omega)) fun _ => .refl s
  unfold closeCut
  generalize (if short && cutHeld s q then count64 s (ofPort q 0x2080_03) else s) = a at *
  exact (streams_rx q (f := fun x => { x with rxCut := none }) (fun _ => rfl) hc).trans (streams_updCut ..)

theorem streams_feedCut (q v slot : Nat) : Streams p s (feedCut s q v slot) := by
  unfold feedCut
  refine streams_ite (fun _ => streams_frees (frees_freeRx _)) fun _ => ?_
  dsimp only
  have hu := streams_updCut (p := p) (s := s) q
    (fun k r => ({ k with data := k.data ++ [slot] }, { r with slots := r.slots + 1 }))
    fun t => { t with slots := t.slots ++ [slot], owed := t.owed - 1, rx := t.rx.map fun r => { r with slots := r.slots + 1 } }
  exact streams_ite (fun _ => hu.trans (streams_reviewXoff q)) fun _ => hu

theorem streams_storePacket (q : Nat) (abort : Bool) : Streams p s (storePacket s q abort) := by
  refine streams_setPort ?_ q
  exact fun _ => rfl

theorem streams_loseSlot (hp : p < 8) : Streams p s (loseSlot s p) := by
  unfold loseSlot
  refine streams_rx p (fun _ => rfl) ?_
  exact streams_ite (fun _ => streams_linkError hp) fun _ => .refl s

theorem streams_loseHeader (hp : p < 8) : Streams p s (loseHeader s p) := by
  unfold loseHeader
  refine streams_rx p (fun _ => rfl) ?_
  exact streams_ite (fun _ => streams_linkError hp) fun _ => .refl s

theorem streams_assembleSlot (hp : p < 8) (x : Nat) (pool held last : Bool) : Streams p s (assembleSlot s p x pool held last) := by
  have hfresh : Streams p s (if (port s p).rxSlots.isEmpty then setPort s p fun y => { y with rxPool := pool, rxHeld := held } else s) :=
    streams_ite (fun _ => streams_rx p (fun _ => rfl) (.refl s)) fun _ => .refl s
  have htake : ∀ a, Streams p a (setPort a p fun y => { y with rxSlots := y.rxSlots ++ [x] }) := fun a =>
    streams_rx p (fun _ => rfl) (.refl a)
  unfold assembleSlot
  dsimp only
  generalize (if (port s p).rxSlots.isEmpty then setPort s p fun y => { y with rxPool := pool, rxHeld := held } else s) = a at *
  have hslot : Streams p a
      (if !noRoom a p (fld (nth x 0 (port a p).rxSlots) 15 13) (port a p).rxPool then
        (if pool then reviewXoff (setPort a p fun y => { y with rxSlots := y.rxSlots ++ [x] }) p
         else setPort a p fun y => { y with rxSlots := y.rxSlots ++ [x] })
      else if (port a p).rxSlots.length < 2 then setPort (loseHeader a p) p fun y => { y with rxSlots := y.rxSlots ++ [x] }
      else loseSlot a p) := by
    refine streams_ite (fun _ => streams_ite (fun _ => (htake a).trans (streams_reviewXoff p)) fun _ => htake a) fun _ => ?_
    exact streams_ite (fun _ => (streams_loseHeader hp).trans (htake _)) fun _ => streams_loseSlot hp
  generalize (if !noRoom a p (fld (nth x 0 (port a p).rxSlots) 15 13) (port a p).rxPool then
        (if pool then reviewXoff (setPort a p fun y => { y with rxSlots := y.rxSlots ++ [x] }) p
         else setPort a p fun y => { y with rxSlots := y.rxSlots ++ [x] })
      else if (port a p).rxSlots.length < 2 then setPort (loseHeader a p) p fun y => { y with rxSlots := y.rxSlots ++ [x] }
      else loseSlot a p) = b at *
  have hb := hfresh.trans hslot
  exact streams_ite (fun _ => hb.trans (streams_storePacket p last)) fun _ => hb

theorem streams_forwardSlot (hp : p < 8) (v owed x : Nat) (last : Bool) : Streams p s (forwardSlot s p v owed x last) := by
  have hslot : Streams p s
      (if 0 < (port s p).rxLost then s
      else if noRoom s p v (port s p).rxPool then
        setPort (closeCut (loseSlot s p) p true false) p fun y => { y with rxCut := some (v, owed) }
      else feedCut s p v x) :=
    streams_ite (fun _ => .refl s) fun _ => streams_ite
      (fun _ => streams_rx p (fun _ => rfl) ((streams_loseSlot hp).trans (streams_closeCut ..))) fun _ => streams_feedCut ..
  unfold forwardSlot
  dsimp only
  generalize (if 0 < (port s p).rxLost then s
      else if noRoom s p v (port s p).rxPool then
        setPort (closeCut (loseSlot s p) p true false) p fun y => { y with rxCut := some (v, owed) }
      else feedCut s p v x) = a at *
  exact streams_ite (fun _ => streams_rx p (fun _ => rfl) (hslot.trans (streams_closeCut ..))) fun _ => streams_rx p (fun _ => rfl) hslot

theorem streams_streamSlots (hp : p < 8) (f : Flit) (xs : List Nat) (s : State) : Streams p s (streamSlots f xs s p) := by
  induction xs generalizing s with
  | nil => exact .refl s
  | cons x xs ih =>
    have hone : Streams p s (match (port s p).rxCut with
      | some (v, owed) => forwardSlot s p v owed x (f.abort && !laterEnd xs)
      | none => assembleSlot s p x f.pool f.held (f.abort && !laterEnd xs)) := by
      split
      · exact streams_forwardSlot hp ..
      · exact streams_assembleSlot hp ..
    exact hone.trans (ih _)

/-! ### The flit that is due -/

/-- The check for a gap leaves the number that is due, xoff, and what lies behind the heads. -/
theorem gapCheck_keeps :
    (port (gapCheck s p) p).expect = (port s p).expect ∧ (port (gapCheck s p) p).xoffAt = (port s p).xoffAt ∧
      (port (gapCheck s p) p).behind = (port s p).behind ∧
      ((port s p).heldFlits = [] → (port (gapCheck s p) p).heldFlits = []) ∧
      get (gapCheck s p) (ofPort p 0x2020_02) = get s (ofPort p 0x2020_02) := by
  have hg : gapCheck s p = s ∨ gapCheck s p =
      count64 (setPort s p fun x => { x with gap := true, nakDue := true, heldFlits := [] }) (ofPort p 0x2020_05) := by
    unfold gapCheck
    dsimp only
    split
    · exact .inr rfl
    · exact .inl rfl
  rcases hg with hg | hg <;> rw [hg]
  · exact ⟨rfl, rfl, rfl, id, rfl⟩
  · have hport := port_setPort (s := s) (p := p) (j := p) (f := fun x => { x with gap := true, nakDue := true, heldFlits := [] })
    have hget : get (setPort s p fun x => { x with gap := true, nakDue := true, heldFlits := [] }) (ofPort p 0x2020_02) =
        get s (ofPort p 0x2020_02) := getRow_congr rfl rfl ..
    generalize (setPort s p fun x => { x with gap := true, nakDue := true, heldFlits := [] }) = a at *
    have hc : port (count64 a (ofPort p 0x2020_05)) p = port a p := port_congr rfl p
    rw [hc, get_count64_ne _ (by unfold ofPort; omega), hget, hport]
    split
    · exact ⟨rfl, rfl, rfl, fun _ => rfl, rfl⟩
    · exact ⟨rfl, rfl, rfl, id, rfl⟩

/-- The head of a lane is seen: the peer's xoff, and the number that the lane has reached. -/
def flitSeen (s : State) (p on : Nat) (f : Flit) : State :=
  setPort (if f.xoff then setPort s p fun x => { x with xoffAt := some s.time.cycles } else s) p fun x =>
    { x with marks := insertT x.marks on f.seq }

theorem takeFlitAck_none (h : (port s p).replay = []) (a : Nat) (ha : ¬ subMod 16 a (port s p).txSeq < 32768) : takeFlitAck s p a = s := by
  unfold takeFlitAck
  rw [if_neg ha, h]
  rfl

theorem takeNak_none {f : Flit} (h : (port s p).replayHeld = false) (hn : f.nak = false) : takeNak s p f = s := by
  unfold takeNak
  simp [h, hn]

theorem takeCredit_none {v : Nat} (h : 6 ≤ v) (c : Nat) : takeCredit s p v c = s := if_pos h

theorem subMod_lt (n a b : Nat) (hn : 0 < 2 ^ n) : subMod n a b < 2 ^ n := Nat.mod_lt _ hn

theorem subMod_self (n a : Nat) : subMod n a a = 0 := by
  unfold subMod
  rw [Nat.add_sub_cancel_left, Nat.mod_self]

theorem subMod_before (a : Nat) : subMod 16 ((a + 65535) % 65536) a = 65535 := by
  unfold subMod
  omega

theorem handleFlit_due {on : Nat} {f : Flit} (hup : isUp s p = true) (ht : f.type = 0) (hn : f.nak = false) (hv : 6 ≤ f.creditVc)
    (hseq : f.seq = (port (flitSeen s p on f) p).expect) (hr : (port s p).replay = []) (hh : (port s p).replayHeld = false)
    (ha : f.ack = ((port s p).txSeq + 65535) % 65536) :
    handleFlit s p on f = (gapCheck (deliverFlit (flitSeen s p on f) p f) p, false) := by
  have hup' : isUp (flitSeen s p on f) p = true := by
    rw [isUp_get (s := s)]
    · exact hup
    · unfold flitSeen
      split <;> exact getRow_congr rfl rfl ..
  unfold handleFlit
  rw [takeFlitAck_none hr _ (by rw [ha, subMod_before]; decide), takeNak_none hh hn]
  dsimp only
  rw [hup, if_neg (by decide), takeCredit_none hv]
  have hs : (setPort (if f.xoff then setPort s p fun x => { x with xoffAt := some s.time.cycles } else s) p fun x =>
    { x with marks := insertT x.marks on f.seq }) = flitSeen s p on f := rfl
  have h2 : decide (f.type = 2) = false := by simp [ht]
  have hd : subMod 16 (port (flitSeen s p on f) p).expect f.seq = 0 := by rw [hseq, subMod_self]
  rw [h2, Bool.false_and, if_neg Bool.false_ne_true, hs, hup', ht]
  rw [if_neg (by decide), if_neg (by rw [hd]; decide), if_pos hseq]

/-- What the arrival of the due DATA flit leaves of its port. -/
structure Delivered (s : State) (p : Nat) (f : Flit) (u : State) : Prop where
  expect : (port u p).expect = ((port s p).expect + 1) % 65536
  count : get u (ofPort p 0x2020_02) = (get s (ofPort p 0x2020_02) + 1) % 2 ^ 64
  xoff : f.xoff = true → (port u p).xoffAt = some s.time.cycles
  held : (port u p).heldFlits = []
  behind : (port u p).behind = []

/-- The merge has nothing to do while no head is held and nothing lies behind one. -/
theorem mergeLanes_none (fuel : Nat) (hh : (port s p).heldFlits = []) (hb : (port s p).behind = []) : mergeLanes fuel s p = s := by
  cases fuel with
  | zero => rfl
  | succ fuel =>
    rw [mergeLanes, hh, hb]
    rfl

theorem flitArrives_handled {k bits : Nat} (h : PortRuns s p) (hup : isUp s p = true) (hk : k < 10) (ht : takesFlits s p k = true)
    (hskip : isSkip bits = false) (hplace : placeOk bits = true) (hty : (flitOf bits).type = 0) (hsl : (flitOf bits).slotsUsed ≠ 0)
    (hheld : (port s p).heldFlits = []) :
    flitArrives s p k bits false = mergeLanes 400 (handleFlit s p (rxPhys s p k) (flitOf bits)).1 p := by
  unfold flitArrives reservedFlit
  rw [h.powered, hup, ht, hskip, hplace]
  simp [hty, hsl, hheld, lookupT, Nat.not_le.2 hk]

/-- The number that is due moves on. -/
def expectMoved (s : State) (p : Nat) : State :=
  setPort (count64 s (ofPort p 0x2020_02)) p fun x => { x with expect := (x.expect + 1) % 65536, gap := false }

theorem mergeView_flitSeen (h : HasLanes s p) (on : Nat) (f : Flit) :
    mergeView (port (flitSeen s p on f) p) =
      ((port s p).expect, if f.xoff then some s.time.cycles else (port s p).xoffAt, (port s p).heldFlits, (port s p).behind) ∧
      HasLanes (flitSeen s p on f) p ∧ ∀ c, get (flitSeen s p on f) c = get s c := by
  unfold flitSeen
  cases f.xoff
  · rw [if_neg (by decide), h.port_setPort]
    exact ⟨rfl, h.setPort fun _ => rfl, fun c => getRow_congr rfl rfl ..⟩
  · have hx : HasLanes (setPort s p fun x => { x with xoffAt := some s.time.cycles }) p := h.setPort fun _ => rfl
    rw [if_pos rfl, hx.port_setPort, h.port_setPort]
    exact ⟨rfl, hx.setPort fun _ => rfl, fun c => getRow_congr rfl rfl ..⟩

theorem delivered_deliverFlit {on : Nat} {f : Flit} (hp : p < 8) (h : HasLanes s p) (ht : f.type = 0) (hheld : (port s p).heldFlits = [])
    (hbehind : (port s p).behind = []) : Delivered s p f (gapCheck (deliverFlit (flitSeen s p on f) p f) p) := by
  obtain ⟨hview, hlanes, hget⟩ := mergeView_flitSeen h on f
  have hd : deliverFlit (flitSeen s p on f) p f = streamSlots f f.slots (expectMoved (flitSeen s p on f) p) p := by
    unfold deliverFlit
    dsimp only
    rw [if_pos ht]
    rfl
  rw [hd]
  generalize flitSeen s p on f = a at *
  have hc : HasLanes (count64 a (ofPort p 0x2020_02)) p := hlanes.congr rfl
  have hm : port (expectMoved a p) p = _ := hc.port_setPort _
  have hcp : port (count64 a (ofPort p 0x2020_02)) p = port a p := port_congr rfl p
  rw [hcp] at hm
  have hcount : get (expectMoved a p) (ofPort p 0x2020_02) = (get s (ofPort p 0x2020_02) + 1) % 2 ^ 64 := by
    rw [← hget]
    exact (getRow_congr rfl rfl ..).trans (get_count64_same ..)
  generalize expectMoved a p = b at *
  have hs := streams_streamSlots hp f f.slots b
  generalize streamSlots f f.slots b p = c at *
  obtain ⟨hge, hgx, hgb, hgh, hgc⟩ := gapCheck_keeps (s := c) (p := p)
  obtain ⟨hae, hax, hah, hab⟩ : (port a p).expect = (port s p).expect ∧
      (port a p).xoffAt = (if f.xoff then some s.time.cycles else (port s p).xoffAt) ∧
      (port a p).heldFlits = (port s p).heldFlits ∧ (port a p).behind = (port s p).behind := by
    simpa only [mergeView, Prod.mk.injEq] using hview
  obtain ⟨hce, hcx, hch, hcb⟩ : (port c p).expect = ((port a p).expect + 1) % 65536 ∧ (port c p).xoffAt = (port a p).xoffAt ∧
      (port c p).heldFlits = (port a p).heldFlits ∧ (port c p).behind = (port a p).behind := by
    have hmerge := hs.merge
    rw [hm] at hmerge
    simpa only [mergeView, Prod.mk.injEq] using hmerge
  refine ⟨?_, ?_, fun hx => ?_, hgh ?_, ?_⟩
  · rw [hge, hce, hae]
  · rw [hgc, hs.count, hcount]
  · rw [hgx, hcx, hax, if_pos hx]
  · rw [hch, hah, hheld]
  · rw [hgb, hcb, hab, hbehind]

theorem does_dueFlit {k bits : Nat} {f : Flit} (h : PortRuns s p) (hup : isUp s p = true) (hk : k < 10)
    (ht : takesFlits s p k = true) (hskip : isSkip bits = false) (hplace : placeOk bits = true) (hf : f = flitOf bits)
    (hty : f.type = 0) (hsl : f.slotsUsed ≠ 0) (hnak : f.nak = false) (hcr : 6 ≤ f.creditVc) (hseq : f.seq = (port s p).expect)
    (hr : (port s p).replay = []) (hh : (port s p).replayHeld = false) (hack : f.ack = ((port s p).txSeq + 65535) % 65536)
    (hheld : (port s p).heldFlits = []) (hbehind : (port s p).behind = []) :
    Does (exec (.flitReceive p k bits false) s) fun u =>
      (port u p).expect = ((port s p).expect + 1) % 65536 ∧
      get u (ofPort p 0x2020_02) = (get s (ofPort p 0x2020_02) + 1) % 2 ^ 64 ∧
      (f.xoff = true → (port u p).xoffAt = some s.time.cycles) := by
  subst hf
  have hview := (mergeView_flitSeen h.hasLanes (rxPhys s p k) (flitOf bits)).1
  have hexp : (port (flitSeen s p (rxPhys s p k) (flitOf bits)) p).expect = (port s p).expect := congrArg Prod.fst hview
  have hd := delivered_deliverFlit (on := rxPhys s p k) (f := flitOf bits) h.lt h.hasLanes hty hheld hbehind
  have he : flitArrives s p k bits false =
      gapCheck (deliverFlit (flitSeen s p (rxPhys s p k) (flitOf bits)) p (flitOf bits)) p := by
    rw [flitArrives_handled h hup hk ht hskip hplace hty hsl hheld,
      handleFlit_due hup hty hnak hcr (hseq.trans hexp.symm) hr hh hack]
    exact mergeLanes_none 400 hd.held hd.behind
  exact does_portEvent h (f := fun s => flitArrives s p k bits false) rfl he ⟨hd.expect, hd.count, hd.xoff⟩

end

/-- Settles O47: each clause is what one call of the transmitter, the receiver or the replay timer does. -/
theorem flitsLeaveAndArrive : Obligations.FlitsLeaveAndArrive := by
  unfold Obligations.FlitsLeaveAndArrive
  refine ⟨?_, ?_, ?_, ?_, ?_⟩
  · exact fun s p n h hup hat hheld hroom hcmds htx hn => does_idleFlit h hup hat hheld hroom hcmds hn htx
  · exact fun s p n t h hup hat hheld hroom hcmds htx hb hne hlen ho hn =>
      does_dataFlit h hup hat hheld hroom hcmds hn htx hb hne hlen ho
  · exact fun s p k bits bad h hup hk ht hskip hbad => does_badFlit h hup hk ht hskip hbad
  · exact fun s p k bits f h hup hk ht hskip hplace hf hty hsl hnak hcr hseq _ hr hh hack hheld hbehind =>
      does_dueFlit h hup hk ht hskip hplace hf hty hsl hnak hcr hseq hr hh hack hheld hbehind
  · exact fun s p f fs h hup hr hlim => does_replayTimeout h hup hr hlim

end Sys2Proof.Machine
end

section
/-! Tiles leave and move, and a contribution that waits too long ends its entry (R135 to R137). -/

namespace Sys2Proof.Machine

section
variable {s t u : State}

/-! ### Rows of an object that a change of another leaves -/

theorem filterMap_insertT {α β : Type} {f : Nat × α → Option β} {k : Nat} (hk : ∀ v, f (k, v) = none) (xs : Table α) (v : α) :
    (insertT xs k v).filterMap f = xs.filterMap f := by
  induction xs with
  | nil => simp [insertT, hk]
  | cons x xs ih =>
    obtain ⟨j, w⟩ := x
    unfold insertT
    split
    · simp [hk]
    · split
      · rename_i h
        subst h
        simp [hk]
      · simp only [List.filterMap_cons, ih]

theorem filterMap_eraseT {α β : Type} {f : Nat × α → Option β} {k : Nat} (hk : ∀ v, f (k, v) = none) (xs : Table α) :
    (eraseT xs k).filterMap f = xs.filterMap f := by
  induction xs with
  | nil => rfl
  | cons x xs ih =>
    obtain ⟨j, w⟩ := x
    unfold eraseT at ih ⊢
    by_cases h : j = k
    · subst h
      simp [hk, ih]
    · simp [h, ih, List.filterMap_cons]

theorem rowsOf_setRow_ne {cn c row v : Nat} (h : c ≠ cn) (hr : row < 2 ^ 32) : rowsOf (setRow s c row v) cn = rowsOf s cn := by
  have hk : ∀ w : Nat, (fun e : Nat × Nat => if e.1 / 2 ^ 32 = cn then some (e.1 % 2 ^ 32, e.2) else none) (catKey c row, w) = none := by
    intro w
    refine if_neg ?_
    dsimp only
    unfold catKey
    omega
  unfold rowsOf setRow
  dsimp only
  split
  · exact filterMap_eraseT hk _
  · exact filterMap_insertT hk _ _

/-! ### A trace record, and the host access that carries a line of them -/

/-- The collective state is as before, with every object of the Collator's chapters. -/
structure Traces (s t : State) : Prop where
  coll : t.coll = s.coll
  low : ∀ c q, q < 2 ^ 32 → c < 0x8062_01 → getRow t c q = getRow s c q

theorem Traces.refl (s : State) : Traces s s := ⟨rfl, fun _ _ _ _ => rfl⟩

theorem Traces.trans (h : Traces s t) (g : Traces t u) : Traces s u :=
  ⟨g.coll.trans h.coll, fun c q hq hc => (g.low c q hq hc).trans (h.low c q hq hc)⟩

theorem traces_of_cat (hc : t.coll = s.coll) (hp : t.part = s.part) (hcat : t.cat = s.cat) : Traces s t :=
  ⟨hc, fun _ _ _ _ => getRow_congr hp hcat ..⟩

theorem traces_count {c n v : Nat} (h : 0x8062_01 ≤ c) : Traces s (count s c n v) :=
  ⟨rfl, fun d q hq hd => getRow_set_ne _ _ hq (by omega)⟩

theorem traces_odc (event n : Nat) (q : Option Nat) (j : Option Packet) : Traces s (odc s event q j n) := by
  unfold odc
  split
  · refine foldl_through (R := Traces) .refl .trans (fun t i _ => ?_) s
    split
    · exact traces_count (by omega)
    · exact .refl _
  · exact .refl _

theorem traces_offerReq (m : Nat) (r : MspReq) : Traces s (offerReq s m r) := by
  unfold offerReq
  split
  · dsimp only
    have hcount : Traces s (if lineLocked s m r then odc (count64 s (0x8062_01 + m)) 0x09 none none 1 else s) := by
      split
      · exact (traces_count (by omega)).trans (traces_odc ..)
      · exact .refl s
    exact hcount.trans (traces_of_cat rfl rfl rfl)
  · rw [lockIfReached_eq]
    exact traces_of_cat rfl rfl rfl

theorem traces_presentPieces (a op context segment : Nat) (poison : Bool) (n : Nat) (ps : List (Nat × Nat))
    (data : List Byte) (i : Nat) (s : State) : Traces s (presentPieces a op context segment poison n ps data i s) := by
  induction ps generalizing s data i with
  | nil => exact .refl s
  | cons e ps ih =>
    obtain ⟨off, len⟩ := e
    unfold presentPieces
    dsimp only
    refine Traces.trans ?_ (ih ..)
    split
    · exact traces_offerReq ..
    · rw [updAccess_eq]
      exact traces_of_cat rfl rfl rfl

theorem traces_hostAccess (kind : AccessKind) (pair : Option Nat) (op context segment offset len : Nat)
    (data : List Byte) (poison : Bool) (uses : List Nat) (n : Nat) :
    Traces s (hostAccess s kind pair op context segment offset len data poison uses n).2 := by
  have hmark : ∀ (t : State) a, Traces t (markReady t a) := fun t a => by
    unfold markReady
    split
    · split
      · exact traces_of_cat rfl rfl rfl
      · exact .refl t
    · exact .refl t
  unfold hostAccess enterAccess
  dsimp only
  refine Traces.trans ?_ (hmark _ _)
  refine Traces.trans ?_ (traces_presentPieces ..)
  exact traces_of_cat rfl rfl rfl

theorem traces_lineCounted {cn : Nat} (h : 0x8062_01 ≤ cn) : Traces s (lineCounted s cn) :=
  Traces.trans (t := { s with observe.line := [] }) (traces_of_cat rfl rfl rfl) (traces_count h)

theorem traces_traceWriteLine : Traces s (traceWriteLine s) := by
  by_cases h : s.observe.line = []
  · unfold traceWriteLine
    rw [h]
    exact .refl s
  · rw [traceWriteLine_eq h]
    exact (traces_lineCounted (by omega)).trans (traces_hostAccess ..)

theorem traces_setTraceRing (src : Nat) (xs : List Nat) : Traces s (setTraceRing s src xs) := traces_of_cat rfl rfl rfl

theorem traces_tracePut (src r : Nat) : Traces s (tracePut s src r) := by
  unfold tracePut
  dsimp only
  split
  · exact traces_setTraceRing ..
  · split
    · unfold tracePlace
      dsimp only
      split
      · refine Traces.trans ?_ traces_traceWriteLine
        exact traces_of_cat rfl rfl rfl
      · exact traces_of_cat rfl rfl rfl
    · split
      · exact traces_setTraceRing ..
      · unfold traceLose
        refine Traces.trans (traces_count (c := 0xC000_05) (n := 64) (v := 1) (by decide)) ?_
        exact traces_of_cat rfl rfl rfl

theorem traces_traceRecord (src kind e pc info : Nat) : Traces s (traceRecord s src kind e pc info) := by
  unfold traceRecord
  split
  · exact traces_tracePut ..
  · exact .refl s

/-! ### A burst is over, and a tile moves -/

section
variable {id n : Nat} {y : Tile}

theorem does_tileBurstDone (hrun : unitsRun s 18 = true) (hy : burstTile s id n = some y) (hleft : y.burstLeft = 0) :
    Does (exec (.tileBurstDone id n) s) fun u =>
      u.coll.tiles = s.coll.tiles.erase y ∧
      (∀ k, nth 0 k (entryRun u y.entry).closed =
        nth 0 k (entryRun s y.entry).closed + (if k = y.stage ∧ k < (entryRun s y.entry).closed.length then 1 else 0)) ∧
      get u 0x7000_04 = (get s 0x7000_04 + 1) % 2 ^ 64 ∧ StoreFrame s u [0x7000_04] ∧
      u = { s with coll := u.coll, cat := u.cat } := by
  obtain ⟨a, ha⟩ : ∃ a, a = updEntry { s with coll.tiles := s.coll.tiles.erase y } y.entry fun r =>
    { r with closed := modifyNth (· + 1) y.stage r.closed, freed := (y.stage, y.tile) :: r.freed } := ⟨_, rfl⟩
  have he : burstDone s id n = count64 a 0x7000_04 := by
    unfold burstDone
    rw [hy, ha]
    exact if_neg (not_not.2 hleft)
  have hrest : a = { s with coll := a.coll } := by rw [ha]; rfl
  have htiles : a.coll.tiles = s.coll.tiles.erase y := by rw [ha]; rfl
  have hentry : (entryRun a y.entry).closed = modifyNth (· + 1) y.stage (entryRun s y.entry).closed := by
    rw [ha, entryRun]
    unfold updEntry setEntryRun
    rw [lookupT_insertT, if_pos rfl]
    rfl
  refine does_whenRuns hrun he ⟨htiles, fun k => ?_, ?_, ?_, ?_⟩
  · have hc : entryRun (count64 a 0x7000_04) y.entry = entryRun a y.entry := rfl
    rw [hc, hentry, nth_modifyNth]
    by_cases hk : k = y.stage
    · subst hk
      simp only [true_and]
      split <;> rfl
    · simp [hk]
  · rw [get_count64_same, show get a 0x7000_04 = get s 0x7000_04 from getRow_congr (by rw [hrest]) (by rw [hrest]) ..]
  · refine StoreFrame.trans (t := a) (.of_cat (by rw [hrest]) (by rw [hrest])) ?_
    exact (StoreFrame.refl _).set _ (by simp)
  · show { a with cat := _ } = _
    rw [hrest]
    rfl

/-- A change of the tiles with a key reads back at that key. -/
theorem tileOf_updTile {e k : Nat} {f : Tile → Tile} (h : tileOf s e k n = some y)
    (hf : ∀ x, (f x).entry = x.entry ∧ (f x).stage = x.stage ∧ (f x).tile = x.tile) :
    tileOf (updTile s e k n f) e k n = some (f y) := by
  have hkey : ∀ x : Tile, (fun z : Tile => z.entry == e && z.stage == k && z.tile == n)
      (if x.entry == e && x.stage == k && x.tile == n then f x else x) = (x.entry == e && x.stage == k && x.tile == n) := by
    intro x
    obtain ⟨h1, h2, h3⟩ := hf x
    dsimp only
    split
    · rw [h1, h2, h3]
    · rfl
  have hy := List.find?_some h
  unfold tileOf at h ⊢
  unfold updTile
  dsimp only
  rw [List.find?_map]
  have hcomp : ((fun z : Tile => z.entry == e && z.stage == k && z.tile == n) ∘
      fun x : Tile => if x.entry == e && x.stage == k && x.tile == n then f x else x) =
      fun x => x.entry == e && x.stage == k && x.tile == n := funext hkey
  rw [hcomp, h, Option.map_some, if_pos hy]

theorem movingTile_tile (hf : s.coll.tiles.find? (fun x => stId (stRow s x.entry x.stage) == id && x.tile == n && 3 ≤ x.phase) = some y) :
    y.tile = n ∧ 3 ≤ y.phase := by
  have h := List.find?_some hf
  simp only [Bool.and_eq_true, beq_iff_eq, decide_eq_true_eq] at h
  exact ⟨h.1.2, h.2⟩

theorem tileMoved_some (hf : s.coll.tiles.find? (fun x => stId (stRow s x.entry x.stage) == id && x.tile == n && 3 ≤ x.phase) = some y) :
    tileMoved s id n = if slotBusy s y then updTile s y.entry y.stage y.tile fun y => { y with moved := true } else endMove s y := by
  unfold tileMoved
  rw [hf]

theorem does_tileSpill_busy (hrun : unitsRun s 18 = true)
    (hf : s.coll.tiles.find? (fun x => stId (stRow s x.entry x.stage) == id && x.tile == n && 3 ≤ x.phase) = some y)
    (ho : tileOf s y.entry y.stage n = some y) (hb : slotBusy s y = true) :
    Does (exec (.tileSpill id n) s) fun u =>
      tileOf u y.entry y.stage n = some { y with moved := true } ∧ u = { s with coll := u.coll } := by
  refine does_whenRuns hrun ((tileMoved_some hf).trans (if_pos hb)) ⟨?_, rfl⟩
  obtain ⟨rfl, -⟩ := movingTile_tile hf
  refine tileOf_updTile ho ?_
  exact fun _ => ⟨rfl, rfl, rfl⟩

theorem does_tileSpill (hrun : unitsRun s 18 = true)
    (hf : s.coll.tiles.find? (fun x => stId (stRow s x.entry x.stage) == id && x.tile == n && 3 ≤ x.phase) = some y)
    (ho : tileOf s y.entry y.stage n = some y) (hb : slotBusy s y = false) (hd : ∀ r ∈ slotRows s y.slot, r ∉ s.carrel.dead) :
    Does (exec (.tileSpill id n) s) fun u =>
      tileOf u y.entry y.stage n = some { y with phase := if y.phase = 3 then 2 else 0, moved := false } ∧
      get u 0x7000_05 = (if y.phase = 3 then (get s 0x7000_05 + 1) % 2 ^ 64 else get s 0x7000_05) ∧
      get u 0x7000_06 = (if y.phase = 3 then get s 0x7000_06 else (get s 0x7000_06 + 1) % 2 ^ 64) ∧
      StoreFrame s u [0x7000_05, 0x7000_06] ∧ u = { s with coll := u.coll, cat := u.cat } := by
  have he := (tileMoved_some hf).trans (if_neg (by simp [hb]))
  obtain ⟨rfl, -⟩ := movingTile_tile hf
  have hbad : ((slotRows s y.slot).any fun r => s.carrel.dead.contains r) = false := by
    simpa [List.any_eq_false] using hd
  have hcount : ∀ c c', c ≠ c' → ∀ f : Tile → Tile,
      get (updTile (count64 s c) y.entry y.stage y.tile f) c = (get s c + 1) % 2 ^ 64 ∧
      get (updTile (count64 s c) y.entry y.stage y.tile f) c' = get s c' := fun c c' hc f =>
    ⟨(getRow_congr rfl rfl ..).trans (get_count64_same ..), (getRow_congr rfl rfl ..).trans (get_count64_ne _ hc.symm)⟩
  have hframe : ∀ c, c ∈ [0x7000_05, 0x7000_06] → ∀ f : Tile → Tile,
      StoreFrame s (updTile (count64 s c) y.entry y.stage y.tile f) [0x7000_05, 0x7000_06] := fun c hc f =>
    StoreFrame.trans ((StoreFrame.refl _).set _ hc) (.of_cat rfl rfl)
  unfold endMove at he
  by_cases h3 : y.phase = 3
  · rw [if_pos h3] at he
    refine does_whenRuns hrun he ⟨?_, ?_, ?_, hframe _ (by simp) _, rfl⟩
    · rw [if_pos h3]
      refine tileOf_updTile (s := count64 s 0x7000_05) ho ?_
      exact fun _ => ⟨rfl, rfl, rfl⟩
    · rw [if_pos h3]
      exact (hcount 0x7000_05 0x7000_06 (by decide) _).1
    · rw [if_pos h3]
      exact (hcount 0x7000_05 0x7000_06 (by decide) _).2
  · rw [if_neg h3, hbad] at he
    refine does_whenRuns hrun he ⟨?_, ?_, ?_, hframe _ (by simp) _, rfl⟩
    · rw [if_neg h3]
      refine tileOf_updTile (s := count64 s 0x7000_06) ho ?_
      exact fun _ => ⟨rfl, rfl, rfl⟩
    · rw [if_neg h3]
      exact (hcount 0x7000_06 0x7000_05 (by decide) _).2
    · rw [if_neg h3]
      exact (hcount 0x7000_06 0x7000_05 (by decide) _).1

end

/-! ### The end of an entry -/

/-- What ends with an entry: its state, its outcome, and what the collective state and the low objects keep. -/
structure EntryEnds (s : State) (e st : Nat) (u : State) : Prop where
  state : ceState (ceRow u e) = 3
  ended : (entryRun u e).ended = some st
  waits : u.coll.waits = s.coll.waits
  fanouts : u.coll.fanouts = s.coll.fanouts
  low : ∀ c, c < 0x8062_01 → c ∉ [entryCn, 0x7000_02, 0x7110_01, 0x7110_02] → get u c = get s c

section
variable {e st pc : Nat} {r : EntryRun} {excess : Bool}

/-- The entry is marked as ending with status `st`. -/
def entryMarked (s : State) (e st pc : Nat) (r : EntryRun) (excess : Bool) : State :=
  setEntryRun (setF s entryCn e 255 254 3) e
    { r with excess := excess, ended := some st, endPc := pc, thread := r.thread.map Thread.stopped }

theorem getRow_setEntryRun (x : EntryRun) (c q : Nat) : getRow (setEntryRun s e x) c q = getRow s c q := getRow_congr rfl rfl ..

theorem entryMarked_state : ceState (ceRow (entryMarked s e st pc r excess) e) = 3 := by
  unfold entryMarked ceRow
  rw [getRow_setEntryRun]
  exact getF_setF_same entryCn e 3 (by decide)

theorem entryMarked_ended : (entryRun (entryMarked s e st pc r excess) e).ended = some st := by
  unfold entryMarked entryRun setEntryRun
  dsimp only
  rw [lookupT_insertT, if_pos rfl]
  rfl

theorem get_entryMarked (he : e < 2 ^ 32) {c : Nat} (hc : c ≠ entryCn) : get (entryMarked s e st pc r excess) c = get s c := by
  have hset : get (entryMarked s e st pc r excess) c = get (setF s entryCn e 255 254 3) c := getRow_setEntryRun ..
  have hf : get (setF s entryCn e 255 254 3) c = get s c :=
    storeFrame_setF entryCn 255 254 3 he c 0 (by decide) fun h => hc (List.mem_singleton.1 h)
  exact hset.trans hf

theorem setEntryRun_keeps (x : EntryRun) :
    (setEntryRun s e x).coll.waits = s.coll.waits ∧ (setEntryRun s e x).coll.fanouts = s.coll.fanouts := ⟨rfl, rfl⟩

theorem entryEnds_marked (he : e < 2 ^ 32) : EntryEnds s e st (entryMarked s e st pc r excess) :=
  ⟨entryMarked_state, entryMarked_ended, (setEntryRun_keeps _).1.trans (by rw [setF_coll]), (setEntryRun_keeps _).2.trans (by rw [setF_coll]), fun c _ hc => get_entryMarked he (List.ne_of_not_mem_cons hc)⟩

/-- An end is counted, and an ABORTED one once more. -/
def endCounted (s : State) (st : Nat) : State :=
  let s := count64 s 0x7110_01
  if st = stAborted then count64 s 0x7110_02 else s

theorem endCounted_coll : (endCounted s st).coll = s.coll := by
  unfold endCounted
  dsimp only
  split <;> rfl

theorem endCounted_rows {c q : Nat} (hq : q < 2 ^ 32) (h1 : c ≠ 0x7110_01) (h2 : c ≠ 0x7110_02) :
    getRow (endCounted s st) c q = getRow s c q := by
  unfold endCounted
  dsimp only
  split
  · exact (getRow_set_ne _ _ hq h2).trans (getRow_set_ne _ _ hq h1)
  · exact getRow_set_ne _ _ hq h1

theorem EntryEnds.of_coll (h : EntryEnds s e st t) (he : e < 2 ^ 32) (hc : u.coll = t.coll)
    (hr : ∀ c q, q < 2 ^ 32 → c < 0x8062_01 → c ∉ [0x7000_02, 0x7110_01, 0x7110_02] → getRow u c q = getRow t c q) : EntryEnds s e st u := by
  refine ⟨?_, ?_, by rw [hc]; exact h.waits, by rw [hc]; exact h.fanouts, fun c hlt hn => ?_⟩
  · have hrow : ceRow u e = ceRow t e := hr entryCn e he (by decide) (by decide)
    rw [hrow]
    exact h.state
  · unfold entryRun
    rw [hc]
    exact h.ended
  · have hn' : c ∉ [0x7000_02, 0x7110_01, 0x7110_02] := fun hm => hn (List.mem_cons_of_mem _ hm)
    exact (hr c 0 (by decide) hlt hn').trans (h.low c hlt hn)

/-- The end is traced where the entry had a thread. -/
def endTraced (s : State) (e st pc : Nat) (t : Option Thread) : State :=
  match t with
  | some t => traceRecord s (threadSource t) 2 e pc st
  | none => s

theorem traces_endTraced (t : Option Thread) : Traces s (endTraced s e st pc t) := by
  unfold endTraced
  split
  · exact traces_traceRecord ..
  · exact .refl s

/-- The state in which the tiles of the entry that hold no whole result are gone. -/
theorem discardTiles_keeps : (discardTiles s e).1.coll = { s.coll with tiles := (discardTiles s e).1.coll.tiles } ∧
    ∀ c q, q < 2 ^ 32 → c ≠ 0x7000_02 → getRow (discardTiles s e).1 c q = getRow s c q := by
  refine ⟨rfl, fun c q hq hc => ?_⟩
  unfold discardTiles
  dsimp only
  exact (getRow_set_ne _ _ hq hc).trans (getRow_congr rfl rfl ..)

/-- The status that an entry ends with. -/
def endStatus (s : State) (e cause : Nat) : Nat :=
  let row := ceRow s e
  let r := entryRun (discardTiles s e).1 e
  let excess := r.excess || (discardTiles s e).2 != 0
  let st := if cause ≠ stOk then cause else if excess then stMalformed else if r.poisoned then stPoison else stOk
  if ceState row == 2 && ceGuarded row && !(st == stOk || st == stRetired || st == stStale) then stAborted else st

theorem endStatus_aborted : endStatus s e stAborted = stAborted := by
  unfold endStatus
  dsimp only
  rw [if_pos (show stAborted ≠ stOk by decide)]
  split <;> rfl

/-- An entry's end without its fan-out. -/
def endedAlone (s : State) (e cause : Nat) : State :=
  let a := (discardTiles s e).1
  let r := entryRun a e
  let pc := (r.thread.map (·.pc)).getD 0
  endTraced (endCounted (entryMarked a e (endStatus s e cause) pc r (r.excess || (discardTiles s e).2 != 0)) (endStatus s e cause))
    e (endStatus s e cause) pc r.thread

theorem endEntry_live {cause : Nat} {fan : Bool} (h : ceLive (ceRow s e) = true) :
    endEntry s e cause fan = if fan && ceState (ceRow s e) == 2 && ceGuarded (ceRow s e) && decide (endStatus s e cause ≠ stOk) &&
        decide (endStatus s e cause ≠ stRetired) then
      fanOut (endedAlone s e cause) e (ceRow s e) (endStatus s e cause) else endedAlone s e cause := by
  unfold endEntry
  dsimp only
  rw [h]
  rfl

theorem entryEnds_endedAlone {cause : Nat} (he : e < 2 ^ 32) : EntryEnds s e (endStatus s e cause) (endedAlone s e cause) := by
  unfold endedAlone
  dsimp only
  obtain ⟨hcoll, hrows⟩ := discardTiles_keeps (s := s) (e := e)
  generalize endStatus s e cause = st
  generalize ((entryRun (discardTiles s e).1 e).excess || (discardTiles s e).2 != 0) = excess
  generalize ((entryRun (discardTiles s e).1 e).thread.map (·.pc)).getD 0 = pc
  generalize entryRun (discardTiles s e).1 e = r
  generalize (discardTiles s e).1 = a at *
  have hmark : EntryEnds a e st (entryMarked a e st pc r excess) := entryEnds_marked he
  have hcount : EntryEnds a e st (endCounted (entryMarked a e st pc r excess) st) := by
    refine hmark.of_coll he endCounted_coll fun c q hq _ hn => endCounted_rows hq ?_ ?_
    · exact fun h => hn (by rw [h]; simp)
    · exact fun h => hn (by rw [h]; simp)
  have htr : Traces _ (endTraced (endCounted (entryMarked a e st pc r excess) st) e st pc r.thread) := traces_endTraced _
  have hall := hcount.of_coll he htr.coll fun c q hq hlt _ => htr.low c q hq hlt
  refine ⟨hall.state, hall.ended, by rw [hall.waits, hcoll], by rw [hall.fanouts, hcoll], fun c hlt hn => ?_⟩
  refine (hall.low c hlt hn).trans (hrows c 0 (by decide) fun h => hn ?_)
  rw [h]
  simp

/-- An entry that runs or waits to start ends, with or without a fan-out. -/
theorem entryEnds_endEntry {cause : Nat} {fan : Bool} (he : e < 2 ^ 32) (h : ceLive (ceRow s e) = true) :
    ceState (ceRow (endEntry s e cause fan) e) = 3 ∧ (entryRun (endEntry s e cause fan) e).ended = some (endStatus s e cause) ∧
      (endEntry s e cause fan).coll.waits = s.coll.waits ∧
      (fan = false → (endEntry s e cause fan).coll.fanouts = s.coll.fanouts) ∧
      ∀ c, c < 0x8062_01 → c ∉ [entryCn, 0x7000_02, 0x7110_01, 0x7110_02] → get (endEntry s e cause fan) c = get s c := by
  have hends : EntryEnds s e (endStatus s e cause) (endedAlone s e cause) := entryEnds_endedAlone he
  rw [endEntry_live h]
  generalize endedAlone s e cause = a at *
  split
  · rename_i hf
    refine ⟨hends.state, hends.ended, hends.waits, fun h0 => ?_, fun c hlt hn => (getRow_congr rfl rfl ..).trans (hends.low c hlt hn)⟩
    simp [h0] at hf
  · exact ⟨hends.state, hends.ended, hends.waits, fun _ => hends.fanouts, hends.low⟩

end

/-! ### A contribution that waited too long -/

section
variable {k : Packet} {w : CollWait} {e n : Nat}

theorem getRow_count64_above {c d : Nat} (h : c < d) (q : Nat) : getRow (count64 s c) d q = getRow s d q :=
  getRow_setRow_ne s _ (by unfold catKey; omega)

theorem collAdmit_count64 {c : Nat} (h : c < entryCn) : collAdmit (count64 s c) k = collAdmit s k := by
  have hrows : rowsOf (count64 s c) entryCn = rowsOf s entryCn := rowsOf_setRow_ne h.ne (by decide)
  have hce : ∀ q, ceRow (count64 s c) q = ceRow s q := fun q => getRow_count64_above h q
  have hst : ∀ x j, stRow (count64 s c) x j = stRow s x j := fun x j => getRow_count64_above (h.trans (by decide)) _
  have hstage : ∀ id, stageOf (count64 s c) id = stageOf s id := fun id => by
    unfold stageOf
    rw [hrows]
    simp only [hst]
  have hgate : ∀ id, gateOf (count64 s c) id = gateOf s id := fun id => by
    unfold gateOf
    rw [hrows]
  unfold collAdmit
  simp only [hstage, hgate, hce, hst]

theorem collAdmit_congr (hp : t.part = s.part) (hc : t.cat = s.cat) : collAdmit t k = collAdmit s k := by
  have hrows : ∀ cn, rowsOf t cn = rowsOf s cn := fun cn => by unfold rowsOf; rw [hc]
  have hrow : ∀ c q, getRow t c q = getRow s c q := fun c q => getRow_congr hp hc ..
  unfold collAdmit stageOf gateOf ceRow stRow
  simp only [hrows, hrow]

/-- A contribution that its stage lets in finds its entry live. -/
theorem collAdmit_live (hs : sortedT s.cat = true) (h : collAdmit s k = .stage e n) : e < 2 ^ 32 ∧ ceLive (ceRow s e) = true := by
  have hstage : ∃ j, stageOf s (collectiveC k) = some (e, j) := by
    unfold collAdmit at h
    dsimp only at h
    cases hst : stageOf s (collectiveC k) with
    | some x =>
      obtain ⟨e', n'⟩ := x
      rw [hst] at h
      dsimp only at h
      split at h
      · cases h
        exact ⟨_, rfl⟩
      · cases h
    | none =>
      rw [hst] at h
      cases hg : gateOf s (collectiveC k) with
      | none => rw [hg] at h; cases h
      | some g =>
        rw [hg] at h
        dsimp only at h
        split at h <;> cases h
  obtain ⟨j, hj⟩ := hstage
  unfold stageOf at hj
  obtain ⟨x, hx, hxe⟩ := List.exists_of_findSome?_eq_some hj
  obtain ⟨hmem, hlive⟩ := List.mem_filter.1 hx
  obtain ⟨r, v⟩ := x
  obtain ⟨hlt, hrow⟩ := mem_rowsOf hs hmem
  have hr : r = e := by
    dsimp only at hxe
    split at hxe
    · exact (Prod.mk.inj (Option.some.inj hxe)).1
    · cases hxe
  subst hr
  refine ⟨hlt, ?_⟩
  rw [ceRow, hrow]
  exact hlive

/-- Waits leave the list one by one; nothing else but ports changes. -/
theorem dropWaits_eq (ws : List CollWait) (s : State) :
    ∃ ps, forEach ws dropWait s = { s with ports := ps, coll.waits := ws.foldl List.erase s.coll.waits } := by
  induction ws generalizing s with
  | nil => exact ⟨s.ports, rfl⟩
  | cons w ws ih =>
    have hone : ∃ ps, dropWait s w = { s with ports := ps, coll.waits := s.coll.waits.erase w } := by
      unfold dropWait
      dsimp only
      split
      · rw [takeRx_eq]
        exact ⟨_, rfl⟩
      · exact ⟨s.ports, rfl⟩
    obtain ⟨ps, hps⟩ := hone
    obtain ⟨qs, hqs⟩ := ih (dropWait s w)
    refine ⟨qs, ?_⟩
    rw [forEach_cons, hqs, hps]
    rfl

theorem notMem_foldl_erase {α : Type} [DecidableEq α] {p : α → Bool} (xs : List α) {x : α} (hp : p x = true) :
    x ∉ (xs.filter p).foldl List.erase xs := by
  have hcount : ∀ (ws ys : List α), (ws.foldl List.erase ys).count x = ys.count x - ws.count x := fun ws => by
    induction ws with
    | nil => simp
    | cons w ws ih =>
      intro ys
      rw [List.foldl_cons, ih, List.count_erase, List.count_cons]
      simp only [beq_iff_eq]
      by_cases hw : w = x
      · subst hw; simp; omega
      · simp [hw]
  rw [← List.count_eq_zero, hcount, List.count_filter hp, Nat.sub_self]

theorem does_spillWaitExpiry {phys : Nat} (hrun : unitsRun s 18 = true) (hs : sortedT s.cat = true)
    (hw : s.coll.waits.find? (fun x => x.phys == phys && x.slot) = some w) (ha : collAdmit s w.k = .stage e n) :
    Does (exec (.spillWaitExpiry phys) s) fun u =>
      (∀ x ∈ u.coll.waits, x.serial ≠ w.serial) ∧ get u 0x7000_0B = (get s 0x7000_0B + 1) % 2 ^ 64 ∧
      ceState (ceRow u e) = 3 ∧ (entryRun u e).ended = some stAborted := by
  obtain ⟨ps, hps⟩ := dropWaits_eq (s.coll.waits.filter fun x => x.serial == w.serial) s
  have hgone : ∀ x ∈ (dropPacket s w).coll.waits, x.serial ≠ w.serial := by
    intro x hx heq
    have hdrop : dropPacket s w = _ := hps
    rw [hdrop] at hx
    exact notMem_foldl_erase (p := fun x : CollWait => x.serial == w.serial) s.coll.waits (by simpa using heq) hx
  have hpart : (dropPacket s w).part = s.part := by
    have hdrop : dropPacket s w = _ := hps
    rw [hdrop]
  have hcat : (dropPacket s w).cat = s.cat := by
    have hdrop : dropPacket s w = _ := hps
    rw [hdrop]
  have hacts : spillWaitPassed s phys = match collAdmit (count64 (dropPacket s w) 0x7000_0B) w.k with
      | .stage e _ => endEntry (count64 (dropPacket s w) 0x7000_0B) e stAborted true
      | _ => count64 (dropPacket s w) 0x7000_0B := by
    unfold spillWaitPassed
    rw [hw] <;> rfl
  generalize dropPacket s w = a at *
  have hadm : collAdmit (count64 a 0x7000_0B) w.k = .stage e n := by
    rw [collAdmit_count64 (by decide), collAdmit_congr hpart hcat, ha]
  rw [hadm] at hacts
  obtain ⟨he, hlive⟩ := collAdmit_live hs ha
  have hlive' : ceLive (ceRow (count64 a 0x7000_0B) e) = true := by
    have hrow : ceRow (count64 a 0x7000_0B) e = ceRow s e :=
      (getRow_count64_above (d := entryCn) (by decide) e).trans (getRow_congr hpart hcat ..)
    rw [hrow, hlive]
  obtain ⟨hstate, hended, hwaits, -, hlow⟩ := entryEnds_endEntry (cause := stAborted) (fan := true) he hlive'
  refine does_whenRuns hrun hacts ⟨?_, ?_, hstate, ?_⟩
  · rw [hwaits]
    exact hgone
  · rw [hlow _ (by decide) (by decide), get_count64_same, show get a 0x7000_0B = get s 0x7000_0B from getRow_congr hpart hcat ..]
  · rw [hended, endStatus_aborted]

end

end

end Sys2Proof.Machine
end

section
/-! What a hard failure leaves (R310, R313, R325). -/

namespace Sys2Proof.Machine

/-- A port without what is to be sent. -/
def unloaded (x : Port) : Port := { x with queues := [], active := [], tx := [] }

/-- The state without what the report and the record of a failure may write. -/
def unfailed (s : State) : State :=
  { unsent s with ports := s.ports.map unloaded, log := { s.log with queue := [], dropped := 0 }, time := { s.time with markOut := false } }

/-- The objects that a failure's report, its records and the stop it may trigger write. -/
def failCns : List Nat :=
  [0xA000_00, 0xA000_01, 0xF004_00, 0xD000_04, 0xA203_01, 0xD000_0B, 0xF102_00, 0xF101_03, 0xC200_02, 0xD000_03] ++ sendCns

/-- `t` is `s` after a failure has been reported and recorded. -/
structure Fails (s t : State) : Prop where
  rest : unfailed t = unfailed s
  store : StoreFrame s t failCns
  drained : StaysDrained s t

section
variable {s t u : State}

theorem Fails.refl (s : State) : Fails s s := ⟨rfl, .refl _, .refl s⟩

/-- What the ports and lanes hold below code 4000_00 is not among what a failure writes, the counts of flushed packets
apart. -/
theorem notMem_failCns {c : Nat} (h : c < 0x4000_00) (hc : c % 0x1_0000 ≠ 0x200C) : c ∉ failCns := by
  unfold failCns
  rw [List.mem_append, not_or]
  refine ⟨fun hm => ?_, notMem_sendCns h hc⟩
  simp only [List.mem_cons, List.not_mem_nil, or_false] at hm
  omega

theorem Fails.portTakes (h : Fails s t) (p : Nat) (hp : p < 8) : Machine.portTakes t p = Machine.portTakes s p := by
  refine portTakes_congr (h.store _ 0 (by decide) (notMem_failCns ?_ ?_)) <;> unfold ofPort <;> omega

theorem Fails.trans (h : Fails s t) (g : Fails t u) : Fails s u :=
  ⟨g.rest.trans h.rest, h.store.trans g.store, h.drained.trans g.drained h.portTakes⟩

theorem Fails.coll (h : Fails s t) : t.coll = s.coll := congrArg (·.coll) h.rest

theorem Fails.port (h : Fails s t) (p : Nat) : unloaded (port t p) = unloaded (port s p) := by
  have hp : t.ports.map unloaded = s.ports.map unloaded := congrArg (·.ports) h.rest
  unfold Machine.port
  rw [← nth_map unloaded, ← nth_map unloaded, hp]

theorem Sends.fails (h : Sends s t) : Fails s t := by
  refine ⟨?_, h.store.mono fun c hc => List.mem_append_right _ hc, h.drained⟩
  have hp : t.ports.map unloaded = s.ports.map unloaded := by
    have hq : t.ports.map unqueued = s.ports.map unqueued := congrArg (·.ports) h.rest
    have hcomp : ∀ xs : List Port, xs.map unloaded = (xs.map unqueued).map unloaded := fun xs => by
      rw [List.map_map]
      rfl
    rw [hcomp t.ports, hcomp s.ports, hq]
  have hl : t.log = s.log := congrArg (·.log) h.rest
  have ht : t.time = s.time := congrArg (·.time) h.rest
  unfold unfailed
  rw [hp, hl, ht, h.rest]

theorem fails_set {c v : Nat} (h : c ∈ failCns) : Fails s (set s c v) := ⟨rfl, (StoreFrame.refl _).set _ h, .of_ports rfl⟩

theorem fails_setRow {c row v : Nat} (hr : row < 2 ^ 32) (h : c ∈ failCns) : Fails s (setRow s c row v) :=
  ⟨rfl, (StoreFrame.refl _).setRow v hr h, .of_ports rfl⟩

theorem fails_logEvent (i kind st d : Nat) : Fails s (logEvent s i kind st d) := by
  refine ⟨?_, StoreFrame.mono (logEvent_store i kind st d) (by simp [failCns]), .of_ports ?_⟩ <;>
    unfold logEvent <;> split <;> rfl

theorem fails_writeError (i code : Nat) : Fails s (writeError s i code) :=
  ((fails_set (by simp [failCns])).trans (fails_set (by simp [failCns]))).trans (fails_logEvent ..)

theorem fails_reportOwn (cause p detail : Nat) : Fails s (reportOwn s cause p detail) := (sends_report ..).fails

theorem fails_faultAttention (n : Nat) : Fails s (faultAttention s n) := fails_set (by simp [failCns])

theorem fails_light {c n : Nat} (h : c ∈ failCns) : Fails s (light s c n) := fails_set h

theorem fails_ite {c : Prop} [Decidable c] (h : Fails s t) (h' : Fails s u) : Fails s (if c then t else u) := by
  split
  · exact h
  · exact h'

theorem fails_sparingRecord (i code kind outcome place : Nat) : Fails s (sparingRecord s i code kind outcome place) := by
  unfold sparingRecord
  dsimp only
  refine (Fails.trans (fails_setRow ?_ (by simp [failCns])) (fails_set (by simp [failCns]))).trans (fails_logEvent ..)
  exact (Nat.mod_lt _ (by decide)).trans (by decide)

theorem nth_map_keeps {α : Type} {P : α → Prop} {f : α → α} {d : α} (hf : ∀ x, P x → P (f x)) (n : Nat) (xs : List α)
    (h : P (nth d n xs)) : P (nth d n (xs.map f)) := by
  induction xs generalizing n with
  | nil => exact h
  | cons x xs ih =>
    cases n with
    | zero => exact hf _ h
    | succ n => exact ih n h

theorem fails_dropFormed : Fails s (dropFormed s) := by
  refine ⟨?_, .of_cat rfl rfl, fun p _ _ hd => ?_⟩
  rotate_left
  · refine nth_map_keeps (P := Drained) (fun x hx => ?_) p s.ports hd
    obtain ⟨hq, ht⟩ := hx
    simp only [Drained, hq, ht, List.map_nil, List.filter_nil, and_self]
  unfold unfailed
  have hp : (dropFormed s).ports.map unloaded = s.ports.map unloaded := by
    unfold dropFormed
    dsimp only
    rw [List.map_map]
    rfl
  have hu : unsent (dropFormed s) = { unsent s with ports := (unsent (dropFormed s)).ports } := rfl
  rw [hp, hu]
  rfl

theorem fails_triggerStop (cause island : Nat) : Fails s (triggerStop s cause island) := by
  cases hs : stopped s with
  | true =>
    unfold triggerStop
    rw [hs]
    exact .refl s
  | false =>
    obtain ⟨mark, e⟩ := triggerStop_eq (cause := cause) (island := island) hs rfl
    rw [e]
    have hmark : ∀ a : State, Fails a { a with time.markOut := mark } := fun a => ⟨rfl, .of_cat rfl rfl, .of_ports rfl⟩
    unfold stopTold
    refine Fails.trans ?_ (fails_reportOwn ..)
    refine Fails.trans ?_ fails_dropFormed
    refine Fails.trans ?_ (fails_writeError ..)
    exact ((fails_set (by simp [failCns])).trans (fails_light (by simp [failCns]))).trans (hmark _)

theorem fails_hardFailure (island p code kind outcome place : Nat) : Fails s (hardFailure s island p code kind outcome place) := by
  have h1 : ∀ a : State, Fails a (light a 0xD000_04 64) := fun a => fails_light (by simp [failCns])
  have h2 : ∀ a : State, Fails a (if outcome = 0 then light a 0xD000_0B 32 else a) := fun a =>
    fails_ite (fails_light (by simp [failCns])) (.refl a)
  have h3 : ∀ a : State, Fails a (if outcome = 1 then reportOwn (faultAttention a 4) 0x22 p code else a) := fun a =>
    fails_ite ((fails_faultAttention 4).trans (fails_reportOwn ..)) (.refl a)
  have h4 : ∀ a : State, Fails a (if get a 0xC200_01 = 1 then triggerStop a 4 island else a) := fun a =>
    fails_ite (fails_triggerStop ..) (.refl a)
  unfold hardFailure
  refine Fails.trans ?_ (h4 _)
  refine Fails.trans ?_ (fails_sparingRecord ..)
  refine Fails.trans ?_ (h3 _)
  refine Fails.trans ?_ (h2 _)
  refine Fails.trans ?_ (fails_reportOwn ..)
  refine Fails.trans ?_ (fails_faultAttention ..)
  exact (h1 s).trans (fails_writeError ..)

end

end Sys2Proof.Machine
end

section
/-! The slices of the Collator: their self-test, their hard failures and the substitution of one (R166 to R168). -/

namespace Sys2Proof.Machine

section
variable {s t u : State} {rq : Requester} {i : Nat}

theorem sliceCn_notMem {c : Nat} (h : i < 8) (hc : c / 256 ≠ 0x7400) : sliceCn i ≠ c := by
  unfold sliceCn
  omega

theorem slicesOf_le (p : Part) : slicesOf p ≤ 8 := by cases p <;> decide

theorem spareSlice_lt (h : spareSlice s = some i) : i < 8 := by
  have hlt := (mem_upFrom.1 (List.mem_of_find?_eq_some h)).2
  have := slicesOf_le s.part
  omega

/-- The spare goes to its test. -/
def sliceTested (s : State) (i : Nat) : State := { set s (sliceCn i) 0x80 with coll.testing := true }

theorem does_sliceSelfTest (g : Granted s rq 0x7401_00 []) (hsp : spareSlice s = some i) (hst : sliceState s i = 1) :
    Does (exec (.sliceSelfTest rq) s) fun u =>
      get u (sliceCn i) = 0x80 ∧ u.coll.testing = true ∧ get u 0x7401_00 = cmdValue 1 0 0 ∧
      ∃ v ∈ u.mgmt.running, v.cn = 0x7401_00 := by
  have hget : ∀ c, get (renewLease s rq) c = get s c := fun c => getRow_renewLease s rq c 0
  have hspare : spareSlice (renewLease s rq) = some i := by
    rw [← hsp]
    unfold spareSlice sliceState domainOn
    simp only [hget, renewLease_part, renewLease_coll]
  have hstate : sliceState (renewLease s rq) i = 1 := by
    unfold sliceState at hst ⊢
    rw [hget]
    exact hst
  have e : sliceSelfTestOp (renewLease s rq) = (sliceTested (renewLease s rq) i, .waits) := by
    unfold sliceSelfTestOp
    rw [hspare]
    exact if_pos hstate
  have hi := spareSlice_lt hsp
  obtain ⟨v, hv, hcn, -, -⟩ := mem_runsState (s := s) (t := sliceTested (renewLease s rq) i) (rq := rq) (cn := 0x7401_00) (arg := 0) (xs := [])
  have hslice : get (sliceTested (renewLease s rq) i) (sliceCn i) = 0x80 := by
    unfold sliceTested
    exact (getRow_congr rfl rfl ..).trans (get_set_same ..)
  have htest : (sliceTested (renewLease s rq) i).coll.testing = true := rfl
  generalize sliceTested (renewLease s rq) i = a at *
  refine does_commandAccess_waits g e ⟨?_, htest, get_runsState (by decide), v, hv, hcn⟩
  exact (getRow_runsState (by decide) (sliceCn_notMem (by omega) (by decide)) (sliceCn_notMem (by omega) (by decide))).trans hslice

/-- The test's end is in its slice's object. -/
def sliceJudged (s : State) (i : Nat) (pass : Bool) : State :=
  set { s with coll.testing := false } (sliceCn i) (if pass then 0x40 else 0xC0)

theorem does_sliceSelfTestEnd {pass : Bool} (hrun : unitsRun s 18 = true) (ht : s.coll.testing = true)
    (hf : (upFrom 0 (slicesOf s.part)).find? (fun i => sliceState s i == 2) = some i) :
    Does (exec (.sliceSelfTestEnd pass) s) fun u =>
      get u (sliceCn i) = (if pass then 0x40 else 0xC0) ∧ u.coll.testing = false ∧
      ((∃ v ∈ s.mgmt.running, v.cn = 0x7401_00 ∧ v.latest = true) → recordsFit s →
        get u 0x7401_00 = cmdValue 2 (if pass then stOk else stAborted) 0) := by
  have hacts : selfTestEnds s pass =
      endInvocations (sliceJudged s i pass) 0x7401_00 (fun _ => true) (if pass then stOk else stAborted) := by
    have hf' : (upFrom 0 (slicesOf s.part)).find? (fun i => sliceState { s with coll.testing := false } i == 2) = some i := hf
    unfold selfTestEnds
    rw [ht]
    dsimp only
    rw [hf']
    rfl
  have hi : i < 8 := by
    have hlt := (mem_upFrom.1 (List.mem_of_find?_eq_some hf)).2
    have := slicesOf_le s.part
    omega
  have hslice : get (sliceJudged s i pass) (sliceCn i) = if pass then 0x40 else 0xC0 := get_set_same ..
  have htest : (sliceJudged s i pass).coll.testing = false := by
    unfold sliceJudged
    rw [set_coll]
  have hmgmt : (sliceJudged s i pass).mgmt = s.mgmt ∧ (sliceJudged s i pass).log = s.log := by
    unfold sliceJudged
    exact ⟨by rw [set_mgmt], by rw [set_log]⟩
  generalize sliceJudged s i pass = a at *
  obtain ⟨hm, hl⟩ := hmgmt
  have hend : EndsAt a 0x7401_00 (endInvocations a 0x7401_00 (fun _ => true) (if pass then stOk else stAborted)) :=
    endsAt_endInvocations
  refine does_whenRuns hrun hacts ⟨?_, ?_, fun ⟨v, hv, hcn, hlate⟩ hfit => ?_⟩
  · refine (hend.store _ 0 (by decide) ?_).trans hslice
    simpa using sliceCn_notMem hi (by decide)
  · rw [hend.rest]
    exact htest
  · refine get_endInvocations ⟨v, by rw [hm]; exact hv, hcn, rfl, hlate⟩ (.inr ?_)
    unfold recordsFit at hfit ⊢
    rw [hm, hl]
    exact hfit

/-- The failed slice is out, and the spare is to take its number. -/
def sliceReplaced (s : State) (phys spare : Nat) : State :=
  { set s (sliceCn phys) 0xC0 with coll.substituting := some (spare, sliceLogical s phys) }

theorem sliceFails_spared {phys spare : Nat} (hp : phys < slicesOf s.part) (hst : sliceState s phys = 0)
    (he : entriesOn s phys (sliceLogical s phys) = []) (hsp : spareSlice s = some spare) (ht : s.coll.testing = false) :
    sliceFails s phys 0 = hardFailure (sliceReplaced s phys spare) 0 15 (0x2300 + phys) 0 0 0 := by
  unfold sliceFails
  dsimp only
  rw [if_neg (by simp [hst]; omega), hst, if_neg (by decide), he]
  simp only [forEach, List.foldl_nil, hsp, ht]
  rfl

theorem sliceCn_notMem_failCns (h : i < 8) : sliceCn i ∉ failCns := by
  have hall : ∀ x ∈ failCns, x / 256 ≠ 0x7400 := by decide
  intro hm
  have := hall _ hm
  unfold sliceCn at this
  omega

theorem does_sliceHardFailure {phys spare : Nat} (hrun : unitsRun s 18 = true) (hp : phys < slicesOf s.part) (hst : sliceState s phys = 0)
    (he : entriesOn s phys (sliceLogical s phys) = []) (hsp : spareSlice s = some spare) (ht : s.coll.testing = false) :
    Does (exec (.sliceHardFailure phys) s) fun u =>
      get u (sliceCn phys) = 0xC0 ∧ u.coll.substituting = some (spare, sliceLogical s phys) ∧
      (∀ i, i < 8 → i ≠ phys → get u (sliceCn i) = get s (sliceCn i)) ∧ get u 0x1010_02 = get s 0x1010_02 := by
  have hlt : phys < 8 := by
    have := slicesOf_le s.part
    omega
  have hsub : (sliceReplaced s phys spare).coll.substituting = some (spare, sliceLogical s phys) := rfl
  have hself : get (sliceReplaced s phys spare) (sliceCn phys) = 0xC0 := by
    unfold sliceReplaced
    exact (getRow_congr rfl rfl ..).trans (get_set_same ..)
  have hother : ∀ c, c ≠ sliceCn phys → get (sliceReplaced s phys spare) c = get s c := fun c hc => by
    unfold sliceReplaced
    exact (getRow_congr rfl rfl ..).trans (get_set_ne _ _ hc)
  have hacts := sliceFails_spared hp hst he hsp ht
  generalize sliceReplaced s phys spare = a at *
  have hfail : Fails a (hardFailure a 0 15 (0x2300 + phys) 0 0 0) := fails_hardFailure ..
  have hget : ∀ c, c ∉ failCns → get (hardFailure a 0 15 (0x2300 + phys) 0 0 0) c = get a c := fun c hc =>
    hfail.store c 0 (by decide) hc
  refine does_whenRuns hrun hacts ⟨?_, ?_, fun i hi hne => ?_, ?_⟩
  · rw [hget _ (sliceCn_notMem_failCns hlt), hself]
  · rw [hfail.coll, hsub]
  · rw [hget _ (sliceCn_notMem_failCns (by omega)), hother _ (by unfold sliceCn; omega)]
  · rw [hget _ (by decide), hother _ (Ne.symm (sliceCn_notMem hlt (by decide)))]

theorem does_sliceSubstitutionDone {phys k : Nat} (hrun : unitsRun s 18 = true) (hsub : s.coll.substituting = some (phys, k))
    (hp : phys < 8) :
    Does (exec .sliceSubstitutionDone s) fun u =>
      get u (sliceCn phys) = k ∧ get u 0x7402_00 = (get s 0x7402_00 + 1) % 2 ^ 32 ∧
      StoreFrame s u [sliceCn phys, 0x7402_00] ∧ u = { s with cat := u.cat, coll.substituting := none } := by
  have hne : sliceCn phys ≠ 0x7402_00 := sliceCn_notMem (by omega) (by decide)
  obtain ⟨a, ha⟩ : ∃ a, a = { set s (sliceCn phys) k with coll.substituting := none } := ⟨_, rfl⟩
  have hacts : substitutionDone s = count32 a 0x7402_00 := by
    unfold substitutionDone
    rw [hsub, ha]
  have hself : get a (sliceCn phys) = k := by
    rw [ha]
    exact (getRow_congr rfl rfl ..).trans (get_set_same ..)
  have hcount : get a 0x7402_00 = get s 0x7402_00 := by
    rw [ha]
    exact (getRow_congr rfl rfl ..).trans (get_set_ne _ _ hne.symm)
  have hstore : StoreFrame s a [sliceCn phys, 0x7402_00] := by
    rw [ha]
    exact StoreFrame.trans ((StoreFrame.refl _).set k (by simp)) (.of_cat rfl rfl)
  have hrest : a = { s with cat := a.cat, coll.substituting := none } := by
    rw [ha]
    rfl
  refine does_whenRuns hrun hacts ⟨?_, ?_, ?_, ?_⟩
  · exact (get_set_ne _ _ hne).trans hself
  · rw [← hcount]
    exact get_set_same ..
  · exact hstore.set _ (by simp)
  · show { a with cat := _ } = _
    rw [hrest]
    rfl

end

/-- Settles O39: the tiles' clauses, then those of the slices. -/
theorem tilesAndSlicesAct : Obligations.TilesAndSlicesAct := by
  unfold Obligations.TilesAndSlicesAct
  refine ⟨?_, ?_, ?_, ?_, ?_, ?_, ?_, ?_⟩
  · exact fun s id t y hrun hy hleft => does_tileBurstDone hrun hy hleft
  · exact fun s id t y hrun hf ho hb => does_tileSpill_busy hrun hf ho hb
  · exact fun s id t y hrun hf ho hb hd => does_tileSpill hrun hf ho hb hd
  · exact fun s phys e n w hrun hs hw ha => does_spillWaitExpiry hrun hs hw ha
  · exact fun s rq i g hsp hst => does_sliceSelfTest g hsp hst
  · exact fun s pass i hrun ht hf => does_sliceSelfTestEnd hrun ht hf
  · exact fun s phys spare hrun hp hst he hsp ht => does_sliceHardFailure hrun hp hst he hsp ht
  · exact fun s phys k hrun hsub hp => does_sliceSubstitutionDone hrun hsub hp

end Sys2Proof.Machine
end

section
/-! The collective commands, the fan-out of an abort and an entry's notice (R150 to R154, R161, R163, R164). -/

namespace Sys2Proof.Machine

section
variable {s t u : State} {rq : Requester} {e row : Nat}

/-! ### collective_open -/

/-- The stages of an entry that is opened, from stage `a`. -/
def stagesOpened (s : State) (e a n : Nat) : State :=
  forEach (upFrom a n) (fun s k => setRow s stageCn (4 * e + k) (stagedRow s k)) s

/-- What opening the stages leaves. -/
structure StagesOpen (s : State) (e a n : Nat) (t : State) : Prop where
  rest : t = { s with cat := t.cat }
  inside : ∀ k, a ≤ k → k < a + n → stRow t e k = stagedRow s k
  outside : ∀ c q, q < 2 ^ 32 → (∀ k, a ≤ k → k < a + n → c = stageCn → q ≠ 4 * e + k) → getRow t c q = getRow s c q

theorem stagesOpen (he : e < 256) (n a : Nat) (ha : a + n ≤ 4) (s : State) : StagesOpen s e a n (stagesOpened s e a n) := by
  induction n generalizing a s with
  | zero => exact ⟨rfl, fun k h1 h2 => by omega, fun _ _ _ _ => rfl⟩
  | succ n ih =>
    obtain ⟨hrest, hin, hout⟩ := ih (a + 1) (by omega) (setRow s stageCn (4 * e + a) (stagedRow s a))
    have hstep : stagesOpened s e a (n + 1) = stagesOpened (setRow s stageCn (4 * e + a) (stagedRow s a)) e (a + 1) n := rfl
    have hrow : getRow (setRow s stageCn (4 * e + a) (stagedRow s a)) stageCn (4 * e + a) = stagedRow s a := getRow_setRow_same ..
    have hother : ∀ c q, q < 2 ^ 32 → (c = stageCn → q ≠ 4 * e + a) →
        getRow (setRow s stageCn (4 * e + a) (stagedRow s a)) c q = getRow s c q := fun c q hq h =>
      getRow_setRow_ne s _ fun hk => by
        obtain ⟨h1, h2⟩ := (catKey_inj hq (by omega)).mp hk
        exact h h1 h2
    have hstaged : ∀ k, stagedRow (setRow s stageCn (4 * e + a) (stagedRow s a)) k = stagedRow s k := fun k =>
      congrArg (fld · (256 * k + 255) (256 * k)) (hother 0x7103_00 0 (by decide) fun h => absurd h (by decide))
    have hset : setRow s stageCn (4 * e + a) (stagedRow s a) =
        { s with cat := (setRow s stageCn (4 * e + a) (stagedRow s a)).cat } := rfl
    rw [hstep]
    generalize setRow s stageCn (4 * e + a) (stagedRow s a) = b at *
    generalize stagesOpened b e (a + 1) n = c at *
    refine ⟨by rw [hrest, hset], fun k h1 h2 => ?_, fun d q hq hd => ?_⟩
    · by_cases hk : k = a
      · subst hk
        exact (hout stageCn (4 * e + k) (by omega) fun j h3 h4 _ => by omega).trans hrow
      · rw [hin k (by omega) (by omega), hstaged]
    · exact (hout d q hq fun k h3 h4 hdc => hd k (by omega) (by omega) hdc).trans
        (hother d q hq fun hdc => hd a (by omega) (by omega) hdc)

/-- The entry that `collective_open` puts in force. -/
def entryOpened (s : State) (e row : Nat) : State :=
  let s := setRow (stagesOpened (setRow s entryCn e (setFld (setFld row 255 254 1) 4 0 0)) e 0 (ceStages row)) gateCn e 0
  let s := { s with coll.runs := s.coll.runs + 1 }
  setEntryRun s e { EntryRun.reset with run := s.coll.runs }

/-- What opening an entry leaves. -/
structure EntryOpens (s : State) (e row : Nat) (t : State) : Prop where
  opened : ceRow t e = setFld (setFld row 255 254 1) 4 0 0
  stages : ∀ k, k < ceStages row → stRow t e k = stagedRow s k
  gates : getRow t gateCn e = 0
  run : entryRun t e = { EntryRun.reset with run := s.coll.runs + 1 }
  others : ∀ x, x < 256 → x ≠ e → ceRow t x = ceRow s x ∧ entryRun t x = entryRun s x
  store : StoreFrame s t [entryCn, stageCn, gateCn]
  rest : t = { s with coll := t.coll, cat := t.cat }

theorem ceStages_le (row : Nat) : ceStages row ≤ 4 := by
  unfold ceStages fld
  have : row / 2 ^ 235 % 2 ^ (236 + 1 - 235) < 4 := Nat.mod_lt _ (by decide)
  omega

theorem entryOpens (he : e < 256) : EntryOpens s e row (entryOpened s e row) := by
  obtain ⟨a, ha⟩ : ∃ a, a = setRow s entryCn e (setFld (setFld row 255 254 1) 4 0 0) := ⟨_, rfl⟩
  have harow : getRow a entryCn e = setFld (setFld row 255 254 1) 4 0 0 := by
    rw [ha]
    exact getRow_setRow_same ..
  have haout : ∀ c q, q < 2 ^ 32 → (c = entryCn → q ≠ e) → getRow a c q = getRow s c q := fun c q hq h => by
    rw [ha]
    refine getRow_setRow_ne s _ fun hk => ?_
    obtain ⟨h1, h2⟩ := (catKey_inj hq (by omega)).mp hk
    exact h h1 h2
  have harest : a = { s with cat := a.cat } := by rw [ha]; rfl
  obtain ⟨b, hb⟩ : ∃ b, b = stagesOpened a e 0 (ceStages row) := ⟨_, rfl⟩
  obtain ⟨hbrest, hbin, hbout⟩ := stagesOpen (s := a) he (ceStages row) 0 (by have := ceStages_le row; omega)
  rw [← hb] at hbrest hbin hbout
  obtain ⟨c, hc⟩ : ∃ c, c = setRow b gateCn e 0 := ⟨_, rfl⟩
  have hcrow : getRow c gateCn e = 0 := by
    rw [hc]
    exact getRow_setRow_same ..
  have hcout : ∀ d q, q < 2 ^ 32 → d ≠ gateCn → getRow c d q = getRow b d q := fun d q hq h => by
    rw [hc]
    exact getRow_setRow_ne b _ fun hk => h ((catKey_inj hq (by omega)).mp hk).1
  have hcrest : c = { s with cat := c.cat } := by
    rw [hc, show setRow b gateCn e 0 = { b with cat := (setRow b gateCn e 0).cat } from rfl, hbrest, harest]
  obtain ⟨d, hd⟩ : ∃ d, d = setEntryRun { c with coll.runs := c.coll.runs + 1 } e { EntryRun.reset with run := c.coll.runs + 1 } := ⟨_, rfl⟩
  have hopened : entryOpened s e row = d := by
    rw [hd, hc, hb, ha]
    rfl
  have hdrow : ∀ x q, getRow d x q = getRow c x q := fun x q => by
    rw [hd]
    exact getRow_congr rfl rfl ..
  have hstaged : ∀ k, stagedRow a k = stagedRow s k := fun k =>
    congrArg (fld · (256 * k + 255) (256 * k)) (haout 0x7103_00 0 (by decide) fun h => absurd h (by decide))
  have hruns : c.coll = s.coll := by rw [hcrest]
  have hentry : ∀ x, entryRun d x = if x = e then { EntryRun.reset with run := s.coll.runs + 1 } else entryRun s x := fun x => by
    rw [hd, entryRun]
    unfold setEntryRun
    dsimp only
    rw [lookupT_insertT, hruns]
    split
    · rfl
    · rfl
  rw [hopened]
  refine ⟨?_, fun k hk => ?_, ?_, ?_, fun x hx hne => ⟨?_, ?_⟩, fun x q hq hn => ?_, ?_⟩
  · rw [ceRow, hdrow, hcout _ _ (by omega) (by decide), hbout _ _ (by omega) fun _ _ _ h => absurd h (by decide), harow]
  · have hlt := ceStages_le row
    rw [stRow, hdrow, hcout _ _ (by omega) (by decide), ← hstaged]
    exact hbin k (by omega) (by omega)
  · rw [hdrow, hcrow]
  · rw [hentry, if_pos rfl]
  · rw [ceRow, hdrow, hcout _ _ (by omega) (by decide), hbout _ _ (by omega) fun _ _ _ h => absurd h (by decide),
      haout _ _ (by omega) fun _ => hne, ceRow]
  · rw [hentry, if_neg hne]
  · simp only [List.mem_cons, List.not_mem_nil, or_false, not_or] at hn
    rw [hdrow, hcout _ _ hq hn.2.2, hbout _ _ hq fun _ _ _ h => absurd h hn.2.1, haout _ _ hq fun h => absurd h hn.1]
  · rw [hd, show setEntryRun { c with coll.runs := c.coll.runs + 1 } e { EntryRun.reset with run := c.coll.runs + 1 } =
      { c with coll := (setEntryRun { c with coll.runs := c.coll.runs + 1 } e { EntryRun.reset with run := c.coll.runs + 1 }).coll } from rfl,
      hcrest]

theorem distinct_of_nodup {xs : List Nat} (h : xs.Nodup) : distinct xs = true := by
  induction xs with
  | nil => rfl
  | cons x xs ih =>
    obtain ⟨hx, hxs⟩ := List.nodup_cons.1 h
    unfold distinct
    simp [hx, ih hxs]

theorem collectiveOpenOp_opens {ids : List Nat} (he : e < 256) (hs : sortedT s.cat = true) (hrow : row = get s 0x7101_00)
    (hg : ceGuarded row = true → ceMembers row ≤ 4096) (hd : domainOn s 18 = true) (hfree : ceState (ceRow s e) = 0)
    (hids : ids = ceGate row :: (upFrom 0 (ceStages row)).map (fun k => stId (stagedRow s k))) (hnd : ids.Nodup)
    (hoth : ∀ x, x < 2 ^ 32 → ceState (ceRow s x) ≠ 0 → ∀ i ∈ entryIds s x, i ∉ ids) :
    collectiveOpenOp e s = (entryOpened s e row, .done stOk 0) := by
  have hclash : ids.any (((rowsOf s entryCn).filter fun x => ceState x.2 != 0).flatMap fun x => entryIds s x.1).contains = false := by
    rw [List.any_eq_false]
    intro i hi hc
    obtain ⟨x, hx, hxi⟩ := List.mem_flatMap.1 (List.contains_iff_mem.1 hc)
    obtain ⟨hmem, hst⟩ := List.mem_filter.1 hx
    obtain ⟨hlt, hval⟩ := mem_rowsOf hs (show (x.1, x.2) ∈ rowsOf s entryCn from hmem)
    refine hoth x.1 hlt ?_ i hxi hi
    rw [ceRow, hval]
    simpa using hst
  have hguard : (ceGuarded row && decide (4096 < ceMembers row)) = false := by
    cases hgr : ceGuarded row with
    | false => rfl
    | true =>
      have := hg hgr
      simp only [Bool.true_and, decide_eq_false_iff_not]
      omega
  unfold collectiveOpenOp
  dsimp only
  rw [← hrow, ← hids, if_neg (by omega), hguard, if_neg (by decide), hd, hfree, if_neg (by decide), hclash, if_neg (by decide),
    distinct_of_nodup hnd, if_neg (by decide)]
  rfl

theorem does_collectiveOpen {ids : List Nat} (g : Granted s rq 0x7104_00 [e]) (he : e < 256) (hs : sortedT s.cat = true)
    (hrow : row = get s 0x7101_00) (hg : ceGuarded row = true → ceMembers row ≤ 4096) (hd : domainOn s 18 = true)
    (hfree : ceState (ceRow s e) = 0)
    (hids : ids = ceGate row :: (upFrom 0 (ceStages row)).map (fun k => stId (stagedRow s k))) (hnd : ids.Nodup)
    (hoth : ∀ x, x < 2 ^ 32 → ceState (ceRow s x) ≠ 0 → ∀ i ∈ entryIds s x, i ∉ ids) :
    Does (exec (.collectiveOpen rq e) s) fun u =>
      ceRow u e = setFld (setFld row 255 254 1) 4 0 0 ∧
      (∀ k, k < ceStages row → stRow u e k = stagedRow s k) ∧ (∀ g, g < 32 → gateCount u e g = 0) ∧
      entryRun u e = { EntryRun.reset with run := s.coll.runs + 1 } ∧
      (∀ x, x < 256 → x ≠ e → ceRow u x = ceRow s x ∧ entryRun u x = entryRun s x) ∧
      Completed s u rq 0x7104_00 0 [entryCn, stageCn, gateCn] ∧
      u = { s with coll := u.coll, cat := u.cat, log := u.log, mgmt := u.mgmt } := by
  have hr : ∀ c q, getRow (renewLease s rq) c q = getRow s c q := getRow_renewLease s rq
  have hstaged : ∀ k, stagedRow (renewLease s rq) k = stagedRow s k := fun k => congrArg (fld · (256 * k + 255) (256 * k)) (hr ..)
  have hce : ∀ x, ceRow (renewLease s rq) x = ceRow s x := fun x => hr ..
  have e1 : collectiveOpenOp e (renewLease s rq) = (entryOpened (renewLease s rq) e row, .done stOk 0) := by
    refine collectiveOpenOp_opens (ids := ids) he (by rw [renewLease_cat]; exact hs) (hrow.trans (hr ..).symm) hg ?_ (by rw [hce]; exact hfree) ?_ hnd
      fun x hx hne i hi => hoth x hx (by rw [← hce]; exact hne) i ?_
    · unfold domainOn at hd ⊢
      rw [show get (renewLease s rq) 0xE000_02 = get s 0xE000_02 from hr ..]
      exact hd
    · simp only [hstaged]
      exact hids
    · unfold entryIds stRow at hi ⊢
      simp only [hce, hr] at hi
      exact hi
  obtain ⟨h1, h2, h3, h4, h5, h6, h7⟩ := entryOpens (s := renewLease s rq) (row := row) he
  generalize entryOpened (renewLease s rq) e row = a at *
  have hdone : ∀ c q, q < 2 ^ 32 → c ≠ 0x7104_00 → c ≠ 0x1110_03 → getRow (doneState s a rq 0x7104_00 stOk 0 [e]) c q = getRow a c q :=
    fun c q hq hc hc' => getRow_doneState hq hc hc'
  have hentry : ∀ x, entryRun (doneState s a rq 0x7104_00 stOk 0 [e]) x = entryRun a x := fun x => by
    unfold entryRun
    rw [doneState_coll]
  refine does_commandAccess g e1 ⟨?_, fun k hk => ?_, fun j _ => ?_, ?_, fun x hx hne => ⟨?_, ?_⟩, doneState_completed (by decide) ?_ ?_ ?_ ?_, ?_⟩
  · exact (hdone _ _ (by omega) (by decide) (by decide)).trans h1
  · have hlt := ceStages_le row
    exact (hdone _ _ (by omega) (by decide) (by decide)).trans ((h2 k hk).trans (hstaged k))
  · have hgate : getRow (doneState s a rq 0x7104_00 stOk 0 [e]) gateCn e = 0 := (hdone _ _ (by omega) (by decide) (by decide)).trans h3
    unfold gateCount getF
    rw [hgate]
    unfold fld
    simp
  · rw [hentry, h4, renewLease_coll]
  · exact (hdone _ _ (by omega) (by decide) (by decide)).trans ((h5 x hx hne).1.trans (hce x))
  · rw [hentry, (h5 x hx hne).2]
    unfold entryRun
    rw [renewLease_coll]
  · rw [h7]
    exact renewLease_time s rq
  · rw [h7]
    exact renewLease_log s rq
  · rw [h7]
    show (renewLease s rq).mgmt = _
    rw [renewLease_eq]
  · exact StoreFrame.trans (t := renewLease s rq) (.of_cat (by simp) (by simp)) h6
  · have hd' := doneState_eq (s := s) (t := a) (rq := rq) (cn := 0x7104_00) (st := stOk) (r := 0) (xs := [e])
    have ha : a = { s with coll := a.coll, cat := a.cat, mgmt := a.mgmt } := by
      obtain ⟨l, hl⟩ := renewLease_withMgmt s rq
      rw [hl] at h7
      rw [h7]
    rw [doneState_coll]
    generalize doneState s a rq 0x7104_00 stOk 0 [e] = d at *
    rw [hd', ha]

/-! ### collective_start -/

/-- The entry that runs, its start not yet traced. -/
def entryRuns (s : State) (e : Nat) (t : Thread) : State := updEntry (setF s entryCn e 255 254 2) e fun x => { x with thread := some t }

theorem collectiveStartOp_starts {x : Nat} {t : Thread} (he : e < 256) (hd : domainOn s 18 = true) (hst : ceState (ceRow s e) = 1)
    (hgate : gateShut s (cePartition (ceRow s e)) (ceContext (ceRow s e)) = false)
    (hx : homeOf s (e % max 1 (activeSlices s)) = x) (hroom : threadsOn s x < 64) (ht : newThread (ceRow s e) e x = t) :
    collectiveStartOp e s = (traceRecord (entryRuns s e t) (threadSource t) 1 e (ceStart (ceRow s e)) 0, .done stOk 0) := by
  unfold collectiveStartOp
  dsimp only
  rw [if_neg (by omega), hd, hst, hgate, if_neg (by decide), hx, if_neg (by omega), ht]
  rfl

theorem entryRuns_row {t : Thread} : ceState (ceRow (entryRuns s e t) e) = 2 := by
  unfold entryRuns updEntry ceRow
  rw [getRow_setEntryRun]
  exact getF_setF_same entryCn e 2 (by decide)

theorem entryRuns_thread (t : Thread) : thread? (entryRuns s e t) e = some t := by
  unfold thread? entryRuns updEntry setEntryRun entryRun
  dsimp only
  rw [lookupT_insertT, if_pos rfl]
  rfl

theorem newThread_starts {x : Nat} : (newThread row e x).pc = ceStart row ∧ (newThread row e x).phys = x ∧
    (newThread row e x).wait = none ∧ (newThread row e x).sends = [] := ⟨rfl, rfl, rfl, rfl⟩

theorem newThread_regs {x : Nat} :
    reg (newThread row e x) 0 = BitVec.ofNat 64 (ceRank row) ∧ reg (newThread row e x) 1 = BitVec.ofNat 64 (ceMembers row) ∧
      reg (newThread row e x) 2 = BitVec.ofNat 64 e ∧ reg (newThread row e x) 3 = BitVec.ofNat 64 (ceParams row) ∧
      (∀ j, 4 ≤ j → reg (newThread row e x) j = 0) ∧ ∀ j, dataWord (newThread row e x) j = 0 := by
  have hzero : ∀ (n j : Nat), nth (0 : Word64) j (List.replicate n 0) = 0 := fun n => by
    induction n with
    | zero => exact fun j => by cases j <;> rfl
    | succ n ih =>
      intro j
      cases j with
      | zero => rfl
      | succ j => exact ih j
  refine ⟨rfl, rfl, rfl, rfl, fun j hj => ?_, fun j => hzero 32 _⟩
  obtain ⟨j, rfl⟩ := Nat.exists_eq_add_of_le hj
  rw [Nat.add_comm]
  exact hzero 12 j

theorem entryRun_congr (h : t.coll = s.coll) (x : Nat) : entryRun t x = entryRun s x := by
  unfold entryRun
  rw [h]

theorem thread?_congr (h : t.coll = s.coll) (x : Nat) : thread? t x = thread? s x := congrArg EntryRun.thread (entryRun_congr h x)

section
variable (hp : t.part = s.part) (hc : t.cat = s.cat)
include hp hc

theorem gateShut_congr (n ctx : Nat) : gateShut t n ctx = gateShut s n ctx := by
  have hget : ∀ c q, getRow t c q = getRow s c q := fun c q => getRow_congr hp hc ..
  unfold gateShut gateRow partitionState Machine.get rowsOf
  simp only [hget, hc]

theorem homeOf_congr (hl : t.coll = s.coll) (k : Nat) : homeOf t k = homeOf s k := by
  have hget : ∀ c q, getRow t c q = getRow s c q := fun c q => getRow_congr hp hc ..
  unfold homeOf physOf sliceState sliceLogical Machine.get
  simp only [hget, hp, hl]

end

theorem collectiveStartOp_renewed (he : e < 256) (hd : domainOn s 18 = true) (hst : ceState (ceRow s e) = 1)
    (hgate : gateShut s (cePartition (ceRow s e)) (ceContext (ceRow s e)) = false)
    (hroom : threadsOn s (homeOf s (e % max 1 (activeSlices s))) < 64) {t : Thread}
    (ht : newThread (ceRow s e) e (homeOf s (e % max 1 (activeSlices s))) = t) :
    collectiveStartOp e (renewLease s rq) =
      (traceRecord (entryRuns (renewLease s rq) e t) (threadSource t) 1 e (ceStart (ceRow s e)) 0, .done stOk 0) := by
  have hrow : ceRow (renewLease s rq) e = ceRow s e := getRow_renewLease ..
  have hhome : homeOf (renewLease s rq) (e % max 1 (activeSlices (renewLease s rq))) = homeOf s (e % max 1 (activeSlices s)) := by
    have hact : activeSlices (renewLease s rq) = activeSlices s := getRow_renewLease ..
    rw [hact, homeOf_congr (renewLease_part s rq) (renewLease_cat s rq) (renewLease_coll s rq)]
  have hon : domainOn (renewLease s rq) 18 = true := by rw [domainOn_renewLease, hd]
  have hshut : gateShut (renewLease s rq) (cePartition (ceRow s e)) (ceContext (ceRow s e)) = false := by
    rw [gateShut_congr (renewLease_part s rq) (renewLease_cat s rq), hgate]
  have hthreads : ∀ x, threadsOn (renewLease s rq) x = threadsOn s x := fun x => by
    unfold threadsOn
    rw [renewLease_coll]
  have h := collectiveStartOp_starts (s := renewLease s rq) he hon (by rw [hrow, hst]) (by rw [hrow, hshut]) hhome
    (by rw [hthreads]; exact hroom) rfl
  rwa [hrow, ht] at h

theorem does_collectiveStart (g : Granted s rq 0x7105_00 [e]) (he : e < 256) (hd : domainOn s 18 = true) (hst : ceState (ceRow s e) = 1)
    (hgate : gateShut s (cePartition (ceRow s e)) (ceContext (ceRow s e)) = false)
    (hroom : threadsOn s (homeOf s (e % max 1 (activeSlices s))) < 64) :
    Does (exec (.collectiveStart rq e) s) fun u =>
      ceState (ceRow u e) = 2 ∧ get u 0x7105_00 = cmdValue 2 stOk 0 ∧
      ∃ t, thread? u e = some t ∧ t.pc = ceStart (ceRow s e) ∧ t.phys = homeOf s (e % max 1 (activeSlices s)) ∧
        reg t 0 = BitVec.ofNat 64 (ceRank (ceRow s e)) ∧ reg t 1 = BitVec.ofNat 64 (ceMembers (ceRow s e)) ∧
        reg t 2 = BitVec.ofNat 64 e ∧ reg t 3 = BitVec.ofNat 64 (ceParams (ceRow s e)) ∧
        (∀ j, 4 ≤ j → reg t j = 0) ∧ (∀ j, dataWord t j = 0) ∧ t.wait = none ∧ t.sends = [] := by
  obtain ⟨h0, h1, h2, h3, h4, hw⟩ := newThread_regs (row := ceRow s e) (e := e) (x := homeOf s (e % max 1 (activeSlices s)))
  obtain ⟨hpc, hphys, hwait, hsends⟩ := newThread_starts (row := ceRow s e) (e := e) (x := homeOf s (e % max 1 (activeSlices s)))
  obtain ⟨t, ht⟩ : ∃ t, newThread (ceRow s e) e (homeOf s (e % max 1 (activeSlices s))) = t := ⟨_, rfl⟩
  have e1 := collectiveStartOp_renewed (rq := rq) he hd hst hgate hroom ht
  rw [ht] at h0 h1 h2 h3 h4 hw hpc hphys hwait hsends
  have htrace : Traces (entryRuns (renewLease s rq) e t)
      (traceRecord (entryRuns (renewLease s rq) e t) (threadSource t) 1 e (ceStart (ceRow s e)) 0) := traces_traceRecord ..
  have hstate := entryRuns_row (s := renewLease s rq) (e := e) (t := t)
  have hthread := entryRuns_thread (s := renewLease s rq) (e := e) t
  generalize traceRecord (entryRuns (renewLease s rq) e t) (threadSource t) 1 e (ceStart (ceRow s e)) 0 = b at *
  generalize entryRuns (renewLease s rq) e t = a at *
  have hcoll : (doneState s b rq 0x7105_00 stOk 0 [e]).coll = a.coll := by rw [doneState_coll, htrace.coll]
  have hrow : ceRow (doneState s b rq 0x7105_00 stOk 0 [e]) e = ceRow a e :=
    (getRow_doneState (by omega) (by decide) (by decide)).trans (htrace.low _ _ (by omega) (by decide))
  refine does_commandAccess g e1 ⟨?_, get_doneState (by decide), t, ?_, hpc, hphys, h0, h1, h2, h3, h4, hw, hwait, hsends⟩
  · exact (congrArg ceState hrow).trans hstate
  · exact (thread?_congr hcoll e).trans hthread

/-! ### program_load -/

section
variable {bs : List Byte} {stage n : Nat}

/-- Words put into program memory, from address `a`. -/
def programPut (s : State) (first : Nat) (word : Nat → Nat) (a n : Nat) : State :=
  forEach (upFrom a n) (fun s i => putProgram s (first + i) (word i)) s

theorem lookup_putProgram (a v b : Nat) :
    (lookupT (putProgram s a v).coll.program b).getD 0 =
      if b = a then BitVec.ofNat 32 v else (lookupT s.coll.program b).getD 0 := by
  unfold putProgram
  dsimp only
  by_cases hv : v % 2 ^ 32 = 0
  · rw [if_pos hv, lookupT_eraseT]
    split
    · refine Eq.symm (BitVec.eq_of_toNat_eq ?_)
      simpa using hv
    · rfl
  · rw [if_neg hv, lookupT_insertT]
    split <;> rfl

theorem programPut_reads (first : Nat) (word : Nat → Nat) (n a : Nat) (s : State) :
    (∀ b, (lookupT (programPut s first word a n).coll.program b).getD 0 =
      if first + a ≤ b ∧ b < first + a + n then BitVec.ofNat 32 (word (b - first)) else (lookupT s.coll.program b).getD 0) ∧
      programPut s first word a n = { s with coll.program := (programPut s first word a n).coll.program } := by
  induction n generalizing a s with
  | zero => exact ⟨fun b => by rw [if_neg (by omega)]; rfl, rfl⟩
  | succ n ih =>
    obtain ⟨hin, hrest⟩ := ih (a + 1) (putProgram s (first + a) (word a))
    have hstep : programPut s first word a (n + 1) = programPut (putProgram s (first + a) (word a)) first word (a + 1) n := rfl
    rw [hstep]
    refine ⟨fun b => ?_, ?_⟩
    · rw [hin, lookup_putProgram]
      by_cases hb : b = first + a
      · subst hb
        rw [if_neg (by omega), if_pos rfl, if_pos (by omega), Nat.add_sub_cancel_left]
      · rw [if_neg hb]
        by_cases hc : first + (a + 1) ≤ b ∧ b < first + (a + 1) + n
        · rw [if_pos hc, if_pos (by omega)]
        · rw [if_neg hc, if_neg (by omega)]
    · rw [hrest]
      rfl

/-- Word `i` of an image. -/
def imageWord (bs : List Byte) (n i : Nat) : Nat :=
  let byte (i : Nat) : Byte := if i < bs.length then nth 0 i bs else BitVec.ofNat 8 (Config.freeByte n i)
  numLE [byte (4 * i), byte (4 * i + 1), byte (4 * i + 2), byte (4 * i + 3)]

theorem nth_eq_getElem {xs : List Byte} {i : Nat} (h : i < xs.length) : nth 0 i xs = xs[i] := by
  induction xs generalizing i with
  | nil => simp at h
  | cons x xs ih =>
    cases i with
    | zero => rfl
    | succ i => exact ih (by simpa using h)

theorem imageWord_eq {i w : Nat} (hlen : bs.length = 4 * w) (hi : i < w) : imageWord bs n i = numLE ((bs.drop (4 * i)).take 4) := by
  have hbyte : ∀ j, j < 4 → (if 4 * i + j < bs.length then nth 0 (4 * i + j) bs else BitVec.ofNat 8 (Config.freeByte n (4 * i + j))) =
      bs[4 * i + j]! := fun j hj => by
    have hlt : 4 * i + j < bs.length := by omega
    rw [if_pos hlt, nth_eq_getElem hlt, getElem!_pos bs _ hlt]
  have htake : (bs.drop (4 * i)).take 4 = [bs[4 * i]!, bs[4 * i + 1]!, bs[4 * i + 2]!, bs[4 * i + 3]!] := by
    apply List.ext_getElem
    · simp; omega
    · intro j h1 h2
      simp only [List.length_cons, List.length_nil] at h2
      have hlt : 4 * i + j < bs.length := by omega
      rw [List.getElem_take, List.getElem_drop, ← getElem!_pos bs _ hlt]
      match j, h2 with
      | 0, _ => rfl
      | 1, _ => rfl
      | 2, _ => rfl
      | 3, _ => rfl
  rw [htake]
  unfold imageWord
  dsimp only
  rw [hbyte 1 (by decide), hbyte 2 (by decide), hbyte 3 (by decide)]
  have h0 := hbyte 0 (by decide)
  rw [Nat.add_zero] at h0
  rw [h0]

theorem programLoadOp_loads (hr : programRefusal s = none) (hst : stage = get s 0x7200_01) :
    programLoadOp (some bs) s =
      let a := programPut { s with freeCount := s.freeCount + 1 } (loadFirst stage) (imageWord bs s.freeCount) 0 (loadWords stage)
      (set a 0x7200_03 (crc32c (programBytes a)), .done stOk 0) := by
  unfold programLoadOp
  rw [hr, ← hst]
  rfl

/-- An image that has been loaded: its words, and the CRC of program memory. -/
def programStored (s : State) (bs : List Byte) (stage : Nat) : State :=
  let a := programPut { s with freeCount := s.freeCount + 1 } (loadFirst stage) (imageWord bs s.freeCount) 0 (loadWords stage)
  set a 0x7200_03 (crc32c (programBytes a))

theorem programBytes_congr (h : t.coll = s.coll) : programBytes t = programBytes s := by
  unfold programBytes
  rw [h]

theorem programStored_reads (hlen : bs.length = 4 * loadWords stage) :
    (∀ a, (lookupT (programStored s bs stage).coll.program a).getD 0 =
      if loadFirst stage ≤ a ∧ a < loadFirst stage + loadWords stage then
        BitVec.ofNat 32 (numLE ((bs.drop (4 * (a - loadFirst stage))).take 4))
      else (lookupT s.coll.program a).getD 0) ∧
      get (programStored s bs stage) 0x7200_03 = crc32c (programBytes (programStored s bs stage)) ∧
      StoreFrame s (programStored s bs stage) [0x7200_03] ∧
      programStored s bs stage = { s with coll := (programStored s bs stage).coll, cat := (programStored s bs stage).cat
                                          freeCount := (programStored s bs stage).freeCount } := by
  obtain ⟨hin, hrest⟩ := programPut_reads (loadFirst stage) (imageWord bs s.freeCount) (loadWords stage) 0
    { s with freeCount := s.freeCount + 1 }
  have hdef : programStored s bs stage =
      set (programPut { s with freeCount := s.freeCount + 1 } (loadFirst stage) (imageWord bs s.freeCount) 0 (loadWords stage)) 0x7200_03
        (crc32c (programBytes
          (programPut { s with freeCount := s.freeCount + 1 } (loadFirst stage) (imageWord bs s.freeCount) 0 (loadWords stage)))) := rfl
  generalize programPut { s with freeCount := s.freeCount + 1 } (loadFirst stage) (imageWord bs s.freeCount) 0 (loadWords stage) = a at *
  obtain ⟨v, hv⟩ : ∃ v, v = crc32c (programBytes a) := ⟨_, rfl⟩
  have hcoll : (set a 0x7200_03 v).coll = a.coll := set_coll
  rw [hdef, ← hv]
  refine ⟨fun b => ?_, ?_, ?_, ?_⟩
  · rw [hcoll, hin]
    by_cases hb : loadFirst stage ≤ b ∧ b < loadFirst stage + loadWords stage
    · rw [if_pos (by omega), if_pos hb, imageWord_eq hlen (by omega)]
    · rw [if_neg (by omega), if_neg hb]
  · rw [get_set_same, programBytes_congr hcoll, hv]
  · exact StoreFrame.trans (t := a) (.of_cat (by rw [hrest]) (by rw [hrest])) ((StoreFrame.refl _).set _ (by simp))
  · rw [set_eq, hrest]

theorem does_programLoad (g : Granted s rq 0x7200_02 []) (hr : programRefusal s = none) (hst : stage = get s 0x7200_01)
    (hlen : bs.length = 4 * loadWords stage) :
    Does (exec (.programLoad rq (some bs)) s) fun u =>
      (∀ a, (lookupT u.coll.program a).getD 0 =
        if loadFirst stage ≤ a ∧ a < loadFirst stage + loadWords stage then
          BitVec.ofNat 32 (numLE ((bs.drop (4 * (a - loadFirst stage))).take 4))
        else (lookupT s.coll.program a).getD 0) ∧
      get u 0x7200_03 = crc32c (programBytes u) ∧ Completed s u rq 0x7200_02 0 [0x7200_03] := by
  have hget : ∀ c, get (renewLease s rq) c = get s c := fun c => getRow_renewLease s rq c 0
  have hrows : ∀ cn, rowsOf (renewLease s rq) cn = rowsOf s cn := fun cn => by
    unfold rowsOf
    rw [renewLease_cat]
  have href : programRefusal (renewLease s rq) = none := by
    rw [← hr]
    unfold programRefusal
    rw [domainOn_renewLease, hrows, hget]
  have e1 : programLoadOp (some bs) (renewLease s rq) = (programStored (renewLease s rq) bs stage, .done stOk 0) :=
    programLoadOp_loads href (hst.trans (hget _).symm)
  obtain ⟨hin, hcrc, hstore, hrest⟩ := programStored_reads (s := renewLease s rq) hlen
  generalize programStored (renewLease s rq) bs stage = a at *
  have hcoll : (doneState s a rq 0x7200_02 stOk 0 []).coll = a.coll := doneState_coll
  refine does_commandAccess g e1 ⟨fun b => ?_, ?_, doneState_completed (by decide) ?_ ?_ ?_ ?_⟩
  · rw [hcoll, hin, renewLease_coll]
  · rw [get_doneState_other (by decide) (by decide), hcrc, programBytes_congr hcoll]
  · rw [hrest]
    exact renewLease_time s rq
  · rw [hrest]
    exact renewLease_log s rq
  · rw [hrest]
    show (renewLease s rq).mgmt = _
    rw [renewLease_eq]
  · exact StoreFrame.trans (t := renewLease s rq) (.of_cat (by simp) (by simp)) hstore

end

/-! ### collective_abort, its fan-out, and an entry's notice -/

section
variable {gate status : Nat}

theorem gateOf_live (hs : sortedT s.cat = true) (h : gateOf s gate = some e) : e < 2 ^ 32 ∧ ceLive (ceRow s e) = true := by
  unfold gateOf at h
  cases hf : (rowsOf s entryCn).find? fun e => ceLive e.2 && ceGate e.2 == gate with
  | none => rw [hf] at h; cases h
  | some x =>
    rw [hf] at h
    obtain ⟨r, v⟩ := x
    obtain rfl : r = e := Option.some.inj h
    obtain ⟨hlt, hrow⟩ := mem_rowsOf hs (List.mem_of_find?_eq_some hf)
    have hp := List.find?_some hf
    simp only [Bool.and_eq_true] at hp
    exact ⟨hlt, by rw [ceRow, hrow]; exact hp.1⟩

theorem collectiveAbortOp_ends (hgate : gateOf s gate = some e)
    (hright : rq.cls = .endpoint ∨ (rq.cls = .neighbour ∧ ordinary rq.ident = true) → ceGuarded (ceRow s e) = true ∧
      ceLo (ceRow s e) ≤ rq.ident ∧ rq.ident ≤ ceHi (ceRow s e)) :
    collectiveAbortOp rq gate s = (endEntry s e stAborted false, .done stOk 0) := by
  unfold collectiveAbortOp
  rw [hgate]
  refine if_neg fun h => ?_
  simp only [Bool.and_eq_true, Bool.or_eq_true, beq_iff_eq, Bool.not_eq_true', decide_eq_true_eq] at h
  obtain ⟨hcls, hbad⟩ := h
  obtain ⟨hg, hlo, hhi⟩ := hright hcls
  rcases hbad with (hbad | hbad) | hbad
  · rw [hg] at hbad
    cases hbad
  · omega
  · omega

theorem does_collectiveAbort (g : Granted s rq 0x7300_03 [gate, status]) (hs : sortedT s.cat = true) (hgate : gateOf s gate = some e)
    (hright : rq.cls = .endpoint ∨ (rq.cls = .neighbour ∧ ordinary rq.ident = true) → ceGuarded (ceRow s e) = true ∧
      ceLo (ceRow s e) ≤ rq.ident ∧ rq.ident ≤ ceHi (ceRow s e)) :
    Does (exec (.collectiveAbort rq gate status) s) fun u =>
      ceState (ceRow u e) = 3 ∧ (entryRun u e).ended = some stAborted ∧ u.coll.fanouts = s.coll.fanouts ∧
      get u 0x7300_03 = cmdValue 2 stOk 0 := by
  have hrow : ceRow (renewLease s rq) e = ceRow s e := getRow_renewLease ..
  have hfound : gateOf (renewLease s rq) gate = some e := by
    rw [← hgate]
    unfold gateOf rowsOf
    rw [renewLease_cat]
  obtain ⟨he, hlive⟩ := gateOf_live hs hgate
  have e1 := collectiveAbortOp_ends (rq := rq) hfound (by rw [hrow]; exact hright)
  obtain ⟨hstate, hended, -, hfan, -⟩ :=
    entryEnds_endEntry (s := renewLease s rq) (cause := stAborted) (fan := false) he (by rw [hrow]; exact hlive)
  rw [endStatus_aborted] at hended
  generalize endEntry (renewLease s rq) e stAborted false = a at *
  have hcoll : (doneState s a rq 0x7300_03 stOk 0 [gate, status]).coll = a.coll := doneState_coll
  have hdone : ceRow (doneState s a rq 0x7300_03 stOk 0 [gate, status]) e = ceRow a e :=
    getRow_doneState he (by decide) (by decide)
  refine does_commandAccess g e1 ⟨?_, ?_, ?_, get_doneState (by decide)⟩
  · exact (congrArg ceState hdone).trans hstate
  · exact (congrArg EntryRun.ended (entryRun_congr hcoll e)).trans hended
  · rw [hcoll, hfan rfl, renewLease_coll]

theorem does_abortFanoutInvocation {f : Fanout} {fs : List Fanout} {record : Nat} {r : Option Nat} (hrun : unitsRun s 18 = true)
    (hsil : silent s = false) (hf : s.coll.fanouts = f :: fs) (hleft : f.left ≠ 0) (hrec : f.record = some (some record))
    (hbad : badMember record = false)
    (hsend : sendInvoke s (fld record 21 0) 0x7300_03 (abortArg f.gate f.status) (.abort f.entry) = (t, r)) :
    Does (exec (.abortFanoutInvocation f.next) s) fun u =>
      u = { t with coll.fanouts := if f.left ≤ 1 then fs else
        { f with next := (f.next + 1) % f.members, left := f.left - 1, asked := false, record := none } :: fs } := by
  have hat : fanoutAt s f.next = true := by
    unfold fanoutAt
    rw [hf]
    simp
  have hacts : fanoutInvokes s = fanoutNext t f fs := by
    unfold fanoutInvokes
    rw [hf]
    dsimp only
    rw [if_neg hleft, hrec]
    dsimp only
    rw [hbad, if_neg Bool.false_ne_true, hsend]
  refine does_whenRuns hrun (f := fun s => if silent s || !fanoutAt s f.next then s else fanoutInvokes s) ?_ rfl
  dsimp only
  rw [hsil, hat]
  exact hacts

/-- The notice of an entry that has ended with status `st`. -/
def entryNotice (s : State) (e st : Nat) : NoticePending :=
  { bits := noticeBits st 1 0 (e * 2 ^ 14 + (entryRun s e).endPc) (if st = stMiss then (entryRun s e).faultOffset else 0)
      (entryRun s e).burstBytes (ceGate (ceRow s e)) (entryRun s e).endStep
    slip := none, entry := some e, post := none, access := none }

theorem does_collectiveNotice {st : Nat} (hrun : unitsRun s 18 = true) (hst : ceState (ceRow s e) = 3)
    (hend : (entryRun s e).ended = some st) (hnot : (entryRun s e).noticed = false) (hb : entryBursting s e = false) :
    Does (exec (.collectiveNotice e) s) fun u =>
      (∃ x, (ringRun u (ceRing (ceRow s e))).waiting = (ringRun s (ceRing (ceRow s e))).waiting ++ [x] ∧
        x.entry = some e ∧ x.slip = none ∧
        x.bits = noticeBits st 1 0 (e * 2 ^ 14 + (entryRun s e).endPc)
          (if st = stMiss then (entryRun s e).faultOffset else 0) (entryRun s e).burstBytes (ceGate (ceRow s e))
          (entryRun s e).endStep) ∧
      (entryRun u e).noticed = true ∧ u = { s with coll := u.coll, slips := u.slips } := by
  obtain ⟨x, hx⟩ : ∃ x, x = entryNotice s e st := ⟨_, rfl⟩
  have hacts : collectiveNotice s e = queueNotice (updEntry s e fun r => { r with noticed := true }) (ceRing (ceRow s e)) x := by
    unfold collectiveNotice
    dsimp only
    rw [hend]
    dsimp only
    rw [hst, hnot, hb, hx]
    rfl
  refine does_whenRuns hrun hacts ⟨⟨x, ?_, by rw [hx]; rfl, by rw [hx]; rfl, by rw [hx]; rfl⟩, ?_, rfl⟩
  · unfold queueNotice setRingRun ringRun
    dsimp only
    rw [lookupT_insertT, if_pos rfl]
    rfl
  · unfold queueNotice setRingRun updEntry setEntryRun entryRun
    dsimp only
    rw [lookupT_insertT, if_pos rfl]
    rfl

end

end

/-- Settles O40: the commands, then the fan-out and the notice. -/
theorem collectiveCommandsComplete : Obligations.CollectiveCommandsComplete := by
  unfold Obligations.CollectiveCommandsComplete
  refine ⟨?_, ?_, ?_, ?_, ?_, ?_⟩
  · exact fun s rq e row ids g he hs hrow hg hd hfree hids hnd hoth => does_collectiveOpen g he hs hrow hg hd hfree hids hnd hoth
  · exact fun s rq e g he hd hst hgate hroom => does_collectiveStart g he hd hst hgate hroom
  · exact fun s rq bs stage g hr hst hlen => does_programLoad g hr hst hlen
  · exact fun s rq gate status e g hs hgate hright => does_collectiveAbort g hs hgate hright
  · exact fun s t f fs record r hrun hsil hf hleft hrec hbad hsend => does_abortFanoutInvocation hrun hsil hf hleft hrec hbad hsend
  · exact fun s e st hrun hst hend hnot hb => does_collectiveNotice hrun hst hend hnot hb

end Sys2Proof.Machine
end

section
/-! What forming and sending mirror updates leaves (R328 to R334). -/

namespace Sys2Proof.Machine

/-- The state without what the updates that a change forms may write. -/
def unmirror (s : State) : State :=
  { unfailed s with
    mirror := { s.mirror with jobs := [], buffer := [], snapshotEnd := none, commitWait := none,
                              bucket := { s.mirror.bucket with tokens := 0 } } }

/-- The objects that updates and a change of the pairing state write. -/
def mirrorCns : List Nat := [0xB001_00, 0xB001_01, 0xB001_04, 0xB001_05] ++ failCns

/-- `t` is `s` after mirror updates have been formed and sent; a restore sends by whatever port it names, whose count of
flushed packets is written. -/
structure Mirrors (s t : State) : Prop where
  rest : unmirror t = unmirror s
  getRow : ∀ {c q}, q < 2 ^ 32 → c ∉ mirrorCns → c % 0x10000 ≠ 0x200C → getRow t c q = getRow s c q
  drained : StaysDrained s t

section
variable {s t u : State}

theorem Mirrors.refl (s : State) : Mirrors s s := ⟨rfl, fun _ _ _ => rfl, .refl s⟩

/-- What the ports and lanes hold below code 4000_00 is not among what updates write, the counts of flushed packets
apart. -/
theorem notMem_mirrorCns {c : Nat} (h : c < 0x4000_00) (hc : c % 0x1_0000 ≠ 0x200C) : c ∉ mirrorCns := by
  unfold mirrorCns
  rw [List.mem_append, not_or]
  refine ⟨fun hm => ?_, notMem_failCns h hc⟩
  simp only [List.mem_cons, List.not_mem_nil, or_false] at hm
  omega

theorem Mirrors.portTakes (h : Mirrors s t) (p : Nat) (hp : p < 8) : Machine.portTakes t p = Machine.portTakes s p := by
  refine portTakes_congr (h.getRow (by decide) (notMem_mirrorCns ?_ ?_) ?_) <;> unfold ofPort <;> omega

theorem Mirrors.trans (h : Mirrors s t) (g : Mirrors t u) : Mirrors s u :=
  ⟨g.rest.trans h.rest, fun hq hc hp => (g.getRow hq hc hp).trans (h.getRow hq hc hp),
    h.drained.trans g.drained h.portTakes⟩

theorem Fails.mirrors (h : Fails s t) : Mirrors s t := by
  refine ⟨?_, fun hq hc _ => h.store _ _ hq fun hf => hc (List.mem_append_right _ hf), h.drained⟩
  have hm : t.mirror = s.mirror := congrArg (·.mirror) h.rest
  unfold unmirror
  rw [h.rest, hm]

theorem Sends.mirrors (h : Sends s t) : Mirrors s t := h.fails.mirrors

theorem Mirrors.part (h : Mirrors s t) : t.part = s.part := congrArg (·.part) h.rest

theorem Mirrors.slips (h : Mirrors s t) : t.slips = s.slips := congrArg (·.slips) h.rest

theorem Mirrors.power (h : Mirrors s t) : t.power = s.power := congrArg (·.power) h.rest

theorem Mirrors.time (h : Mirrors s t) : t.time.cycles = s.time.cycles := congrArg (·.time.cycles) h.rest

theorem Mirrors.trackers (h : Mirrors s t) : t.switch.trackers = s.switch.trackers := congrArg (·.switch.trackers) h.rest

theorem Mirrors.mgmtWaits (h : Mirrors s t) : t.switch.mgmtWaits = s.switch.mgmtWaits :=
  congrArg (·.switch.mgmtWaits) h.rest

theorem Mirrors.loanUses (h : Mirrors s t) : t.switch.loanUses = s.switch.loanUses := congrArg (·.switch.loanUses) h.rest

theorem Mirrors.pairs (h : Mirrors s t) : t.switch.pairs = s.switch.pairs := congrArg (·.switch.pairs) h.rest

theorem Mirrors.running (h : Mirrors s t) : t.mgmt.running = s.mgmt.running := congrArg (·.mgmt.running) h.rest

theorem Mirrors.get (h : Mirrors s t) {c : Nat} (hc : c ∉ mirrorCns) (hp : c % 0x10000 ≠ 0x200C) : get t c = get s c :=
  h.getRow (by decide) hc hp

theorem mirrors_set {c v : Nat} (h : c ∈ mirrorCns) : Mirrors s (set s c v) :=
  ⟨rfl, fun hq hc _ => getRow_set_ne _ _ hq fun e => hc (e ▸ h), .of_ports rfl⟩

/-- What is changed of the mirror's own state alone. -/
theorem mirrors_mirror {m : MirrorState} (h : unmirror { s with mirror := m } = unmirror s) :
    Mirrors s { s with mirror := m } := ⟨h, fun _ _ _ => getRow_congr rfl rfl .., .of_ports rfl⟩

theorem mirrors_sendAt (q : Nat) (k : Packet) (e : Option Nat) : Mirrors s (sendAt s q k e).state := by
  unfold sendAt
  dsimp only
  split
  · have hmoved := sends_ite (s := s) (c := (if portLocal (namedAt s q k).dst then ((namedAt s q k).vc, false)
      else datelineVc s q (namedAt s q k).vc).2 = true) (fun _ => sends_count64 (cn := 0x4000_03) (by simp [sendCns])) fun _ => .refl s
    exact hmoved.mirrors.trans (sends_joinQueue _ _ _ _ _ fun hp => (hmoved.portTakes q hp).trans ‹_›).mirrors
  · refine ⟨rfl, fun hq _ hp => getRow_set_ne _ _ hq fun e => hp ?_, .of_ports rfl⟩
    rw [e]
    unfold ofPort
    omega

theorem mirrors_sendUpdate (u : MirrorUpdate) : Mirrors s (sendUpdate s u) := by
  have hc : ∀ t, Mirrors t (count64 t 0xB001_05) := fun t => mirrors_set (by simp [mirrorCns])
  unfold sendUpdate
  dsimp only
  split
  · exact (hc s).trans (mirrors_sendAt ..)
  · exact (hc s).trans (sends_sendLoose _).mirrors

theorem mirrors_sendCharged (u : MirrorUpdate) : Mirrors s (sendCharged s u) := by
  refine Mirrors.trans ?_ (mirrors_sendUpdate u)
  exact mirrors_mirror rfl

theorem mirrors_noteCarried (w : MirrorWork) (u : MirrorUpdate) : Mirrors s (noteCarried s w u) := by
  unfold noteCarried
  split
  · split
    · exact mirrors_mirror rfl
    · exact .refl s
  · exact .refl s

theorem mirrors_formUpdate (j : MirrorJob) (u : MirrorUpdate) : Mirrors s (formUpdate s j u) := by
  have hset : Mirrors s (set s 0xB001_01 u.seq) := mirrors_set (by simp [mirrorCns])
  have hkeep : ∀ t, Mirrors t (if j.snap then t else { t with mirror.buffer := t.mirror.buffer ++ [u] }) := fun t => by
    split
    · exact .refl t
    · exact mirrors_mirror rfl
  have hend : ∀ t, Mirrors t (if u.kind = 4 && j.snap then { t with mirror.snapshotEnd := some u.seq } else t) := fun t => by
    split
    · exact mirrors_mirror rfl
    · exact .refl t
  unfold formUpdate
  exact (((hset.trans (mirrors_noteCarried ..)).trans (hkeep _)).trans (hend _)).trans (mirrors_sendCharged u)

theorem mirrors_restoreOnly : Mirrors s (restoreOnly s) := mirrors_mirror rfl

theorem mirrors_setPairing (n : Nat) : Mirrors s (setPairing s n) := by
  have hset : Mirrors s (set s 0xB001_00 n) := mirrors_set (by simp [mirrorCns])
  have hlog : ∀ (t : State) (d : Nat), Mirrors t (if pairing s = n then t else logEvent t 0 0x30 0 d) :=
    fun t d => (fails_ite (.refl t) (fails_logEvent ..)).mirrors
  have hend : ∀ t : State, Mirrors t { t with mirror.snapshotEnd := none } := fun t => mirrors_mirror rfl
  have hwork : ∀ t, Mirrors t (if n = 1 then
      { count32 t 0xB001_04 with
        mirror.jobs := ((count32 t 0xB001_04).mirror.jobs.filter fun j => !j.snap) ++
          (snapshotWork (count32 t 0xB001_04)).map fun w => { work := w, snap := true, edition := none } }
      else if n = 2 then t else restoreOnly t) := fun t => by
    split
    · refine Mirrors.trans (mirrors_set ?_) (mirrors_mirror rfl)
      simp [mirrorCns]
    · split
      · exact .refl t
      · exact mirrors_restoreOnly
  unfold setPairing
  refine Mirrors.trans ?_ (hwork _)
  refine Mirrors.trans ?_ (hend _)
  exact hset.trans (hlog ..)

theorem mirrors_pumpJob (j : MirrorJob) (js : List MirrorJob) : Mirrors s (pumpJob s j js).1 := by
  have hjobs : ∀ js', Mirrors s { s with mirror.jobs := js' } := fun _ => mirrors_mirror rfl
  unfold pumpJob
  split
  · dsimp only
    split
    · exact (hjobs js).trans (mirrors_sendCharged _)
    · exact hjobs js
  · split
    · exact hjobs js
    · dsimp only
      split
      · exact (hjobs _).trans (mirrors_formUpdate ..)
      · split
        · exact .refl s
        · exact ((hjobs _).trans mirrors_restoreOnly).trans (mirrors_setPairing 1)

theorem mirrors_mirrorPump (fuel : Nat) : Mirrors s (mirrorPump fuel s) := by
  induction fuel generalizing s with
  | zero => exact .refl s
  | succ fuel ih =>
    rw [mirrorPump]
    split
    · exact .refl s
    · next j js _ =>
      split
      · exact .refl s
      · have hjob := mirrors_pumpJob (s := s) j js
        split
        · next e => rw [e] at hjob; exact hjob.trans ih
        · next e => rw [e] at hjob; exact hjob

/-- A mirrored change writes no more than its updates do. -/
theorem mirrors_mirrorChange (w : MirrorWork) : Mirrors s (mirrorChange s w) := by
  unfold mirrorChange
  split
  · refine Mirrors.trans ?_ (mirrors_mirrorPump _)
    exact mirrors_mirror rfl
  · exact .refl s

/-- A block that mirrors nothing notes nothing. -/
theorem mirrorChange_unmirrored (h : unmirrored s) (w : MirrorWork) : mirrorChange s w = s := by
  unfold mirrorChange
  rw [if_neg (by simp [h.1, h.2])]

end

end Sys2Proof.Machine
end

section
/-! The mirror's timers and commands, and the records that the log forms and drains (R328, R331, R335 to R341). -/

namespace Sys2Proof.Machine

/-! ### Resends, and a direction that is lost -/

section
variable {s : State}

/-- The updates that wait are sent again, ahead of the work that is left. -/
def resends (s : State) : State :=
  { s with mirror.jobs := (s.mirror.buffer.map fun u => { work := .resend u.seq, snap := false, edition := u.edition }) ++
      s.mirror.jobs.filter fun j =>
        match j.work with
        | .resend _ => false
        | _ => true }

theorem mirrorResends_synced (h : pairing s = 2) (hu : mirrorUnacked s = true) :
    mirrorResends s = mirrorPump pumpFuel (resends s) := by
  have hp : pairing (resends s) = 2 := h
  unfold mirrorResends
  rw [hu]
  show mirrorPump pumpFuel (if pairing (resends s) = 1 then setPairing (resends s) 1 else resends s) = _
  rw [hp]
  rfl

theorem does_mirrorResendExpiry (hon : switchOn s = true) (hd : domainOn s 25 = true) (h : pairing s = 2)
    (hu : mirrorUnacked s = true) : Does (exec .mirrorResendExpiry s) fun u => ∃ v, u = mirrorPump pumpFuel v ∧
      (∃ rest, v.mirror.jobs = s.mirror.buffer.map (fun x =>
          ({ work := .resend x.seq, snap := false, edition := x.edition } : MirrorJob)) ++ rest ∧
        ∀ j, j ∈ rest ↔ j ∈ s.mirror.jobs ∧ ∀ q, j.work ≠ .resend q) ∧
      v = { s with mirror.jobs := v.mirror.jobs } := by
  have hmir : mirrorOn mirrorResends s = mirrorPump pumpFuel (resends s) := by
    unfold mirrorOn
    rw [hon, hd]
    exact mirrorResends_synced h hu
  refine ⟨_, congrArg (fun t => Host.Outcome.next (settle t)) hmir, resends s, rfl, ⟨_, rfl, fun j => ?_⟩, rfl⟩
  rw [List.mem_filter]
  refine and_congr_right fun _ => ?_
  cases j.work <;> simp

theorem logEvent_rest (i kind st d : Nat) :
    logEvent s i kind st d = { s with cat := (logEvent s i kind st d).cat, log := (logEvent s i kind st d).log } := by
  unfold logEvent
  split <;> rfl

/-- The pairing state has become LOST. -/
theorem setPairing_lost (h : pairing s ≠ 3) : pairing (setPairing s 3) = 3 ∧
    setPairing s 3 =
      { s with cat := (setPairing s 3).cat, log := (setPairing s 3).log,
               mirror := { s.mirror with snapshotEnd := none, buffer := s.mirror.buffer.filter fun u => u.edition.isSome,
                                         jobs := s.mirror.jobs.filter fun j => j.edition.isSome } } := by
  obtain ⟨d, hd⟩ : ∃ d, setPairing s 3 =
      restoreOnly { logEvent (set s 0xB001_00 3) 0 0x30 0 d with mirror.snapshotEnd := none } :=
    ⟨_, congrArg (fun t : State => restoreOnly { t with mirror.snapshotEnd := none }) (if_neg h)⟩
  have hset := set_eq s 0xB001_00 3
  have hget : get (logEvent (set s 0xB001_00 3) 0 0x30 0 d) 0xB001_00 = 3 :=
    (logEvent_store 0 0x30 0 d _ _ (by decide) (by decide)).trans (get_set_same ..)
  have hlog := logEvent_rest (s := set s 0xB001_00 3) 0 0x30 0 d
  rw [hd]
  generalize logEvent (set s 0xB001_00 3) 0 0x30 0 d = t at hget hlog
  rw [hset] at hlog
  refine ⟨(getRow_congr rfl rfl ..).trans hget, ?_⟩
  unfold restoreOnly
  dsimp only
  rw [hlog]

theorem does_mirrorLostLimitExpiry (hon : switchOn s = true) (hd : domainOn s 25 = true) (h : pairing s = 2)
    (hu : mirrorUnacked s = true) : Does (exec .mirrorLostLimitExpiry s) fun u =>
      pairing u = 3 ∧ u.mirror.snapshotEnd = none ∧
      (∀ x, x ∈ u.mirror.buffer ↔ x ∈ s.mirror.buffer ∧ x.edition ≠ none) ∧
      (∀ x, x ∈ u.mirror.jobs ↔ x ∈ s.mirror.jobs ∧ x.edition ≠ none) ∧
      u = { s with cat := u.cat, log := u.log, mirror := u.mirror } := by
  have hmir : mirrorOn mirrorLost s = setPairing s 3 := by
    unfold mirrorOn mirrorLost
    rw [hon, hd, hu, h]
    rfl
  obtain ⟨hp, he⟩ := setPairing_lost (s := s) (by omega)
  refine ⟨_, congrArg (fun t => Host.Outcome.next (settle t)) hmir, hp, ?_, fun x => ?_, fun x => ?_, ?_⟩
  · rw [he]
  · rw [he, List.mem_filter, Option.isSome_iff_ne_none]
  · rw [he, List.mem_filter, Option.isSome_iff_ne_none]
  · rw [he]

/-! ### A commit that waits, and counterpart_restore -/

theorem does_mirrorCommitWaitExpiry {c : CommitWait} (hh : held s = false) (hc : s.mirror.commitWait = some c) :
    Does (exec .mirrorCommitWaitExpiry s) fun u =>
      u = { s with mirror.commitWait := none, mgmt.finished := s.mgmt.finished ++ [(c.msg, stOk, 0)] } := by
  have h : unlessHeld endCommitWait s =
      { s with mirror.commitWait := none, mgmt.finished := s.mgmt.finished ++ [(c.msg, stOk, 0)] } := by
    unfold unlessHeld endCommitWait
    rw [hh, hc]
    rfl
  exact ⟨_, congrArg (fun t => Host.Outcome.next (settle t)) h, rfl⟩

/-- The state in which counterpart_restore asks. -/
def restoreAsks (s : State) (ep p ed : Nat) : State :=
  { set (set (holdInForce s 0xB000_01) 0xB000_01 ep) 0xB000_02 ed with
    mirror.restore := some { endpoint := ep, port := p, edition := ed, lastSeq := none }
    mirror.jobs := (set (set (holdInForce s 0xB000_01) 0xB000_01 ep) 0xB000_02 ed).mirror.jobs ++
      [{ work := .request, snap := false, edition := some ed }] }

theorem counterpartRestoreOp_asks {ep p ed : Nat} (hp : p < portsOf s.part) (hep : ordinary ep = true) (hed : ed < 256)
    (hc : commission s = 1) (hown : ordinary (ownId s) = true) (hr : s.mirror.restore = none) :
    counterpartRestoreOp ep p ed s = (mirrorPump pumpFuel (restoreAsks s ep p ed), .waits) := by
  unfold counterpartRestoreOp
  rw [if_neg (by omega), if_neg (by simp [hep]; omega), if_neg (by simp [hc, hown, hr])]
  rfl

theorem ownId_renewLease (rq : Requester) : ownId (renewLease s rq) = ownId s := by
  obtain ⟨l, h⟩ := renewLease_withMgmt s rq
  rw [h]
  rfl

theorem does_counterpartRestore {rq : Requester} {ep p ed : Nat} (g : Granted s rq 0xB020_00 [ep, p, ed])
    (hp : p < portsOf s.part) (hep : ordinary ep = true) (hed : ed < 256) (hc : commission s = 1)
    (hown : ordinary (ownId s) = true) (hr : s.mirror.restore = none) :
    Does (exec (.counterpartRestore rq ep p ed) s) fun u =>
      get u 0xB000_01 = ep ∧ get u 0xB000_02 = ed ∧ get u 0xB020_00 = cmdValue 1 0 0 ∧
      u.mirror.restore = some { endpoint := ep, port := p, edition := ed, lastSeq := none } ∧
      ∃ v ∈ u.mgmt.running, v.cn = 0xB020_00 ∧ v.arg = 0 := by
  have hle := portsOf_le s.part
  have e := counterpartRestoreOp_asks (s := renewLease s rq) (ep := ep) (p := p) (ed := ed) (by simpa using hp) hep hed
    (by simpa [commission] using hc) (by rw [ownId_renewLease]; exact hown) (by simpa using hr)
  have hpump := mirrors_mirrorPump (s := restoreAsks (renewLease s rq) ep p ed) pumpFuel
  have hmod : counterpartRestoreOp ep (p % 256) (ed % 256) = counterpartRestoreOp ep p ed := by
    rw [Nat.mod_eq_of_lt (show p < 256 by omega), Nat.mod_eq_of_lt hed]
  show Does (settled (commandAccess s rq 0xB020_00 [ep, p, ed] 0 (counterpartRestoreOp ep (p % 256) (ed % 256)))) _
  rw [hmod]
  refine does_commandAccess_waits g e ⟨?_, ?_, get_runsState (by decide), ?_, ?_⟩
  · refine (getRow_runsState (by decide) (by decide) (by decide)).trans ?_
    refine (hpump.get (by decide) (by decide)).trans ?_
    refine (getRow_congr rfl rfl ..).trans ?_
    exact (get_set_ne _ _ (by decide)).trans (get_set_same ..)
  · refine (getRow_runsState (by decide) (by decide) (by decide)).trans ?_
    refine (hpump.get (by decide) (by decide)).trans ?_
    exact (getRow_congr rfl rfl ..).trans (get_set_same ..)
  · exact congrArg (·.mirror.restore) hpump.rest
  · obtain ⟨v, hv, hcn, harg, -⟩ := mem_runsState (s := s)
      (t := mirrorPump pumpFuel (restoreAsks (renewLease s rq) ep p ed)) (rq := rq) (cn := 0xB020_00) (arg := 0)
      (xs := [ep, p, ed])
    exact ⟨v, hv, hcn, harg⟩

theorem logRequested_rest (kind st : Nat) (rq : Requester) (d : Nat) :
    logRequested s kind st rq d =
      { s with cat := (logRequested s kind st rq d).cat, log := (logRequested s kind st rq d).log } := by
  unfold logRequested
  split <;> rfl

theorem logRequested_store (kind st : Nat) (rq : Requester) (d : Nat) :
    StoreFrame s (logRequested s kind st rq d) [0xF004_00] := by
  unfold logRequested
  split
  · exact .of_cat rfl rfl
  · exact StoreFrame.trans (.of_cat rfl rfl) ((StoreFrame.refl _).set _ (by simp))

theorem does_restoreTimeout {r : Restore} (hh : held s = false) (hr : s.mirror.restore = some r) :
    Does (exec .restoreTimeout s) fun u =>
      u.mirror.restore = none ∧ (∀ x, x ∈ u.mirror.buffer ↔ x ∈ s.mirror.buffer ∧ x.edition = none) ∧
      (latestRuns s 0xB020_00 0 → get u 0xB020_00 = cmdValue 2 stTimeout 0) ∧
      StoreFrame s u [0xB020_00, 0xF004_00] ∧
      u = { s with cat := u.cat, log := u.log, mgmt := u.mgmt, mirror := u.mirror } := by
  obtain ⟨rq, d, he⟩ : ∃ rq d, endRestore s stTimeout 0 =
      endInvocation (logRequested { s with
        mirror.restore := none
        mirror.buffer := s.mirror.buffer.filter fun u => u.edition.isNone
        mirror.jobs := s.mirror.jobs.filter fun j => j.edition.isNone } 0x13 stTimeout rq d) restoreCn 0 stTimeout 0 := by
    unfold endRestore
    rw [hr]
    exact ⟨_, _, rfl⟩
  have hacts : unlessHeld (fun s => if s.mirror.restore.isSome then endRestore s stTimeout 0 else s) s =
      endRestore s stTimeout 0 := by
    unfold unlessHeld
    rw [if_neg (by simp [hh])]
    exact if_pos (by rw [hr]; rfl)
  have hexec : exec .restoreTimeout s = .next (settle (endRestore s stTimeout 0)) :=
    congrArg (fun t => Host.Outcome.next (settle t)) hacts
  generalize hs' : ({ s with
        mirror.restore := none
        mirror.buffer := s.mirror.buffer.filter fun u => u.edition.isNone
        mirror.jobs := s.mirror.jobs.filter fun j => j.edition.isNone } : State) = s' at he
  have hrest := logRequested_rest (s := s') 0x13 stTimeout rq d
  have hstore := logRequested_store (s := s') 0x13 stTimeout rq d
  generalize logRequested s' 0x13 stTimeout rq d = t at he hrest hstore
  have hend := endsAt_endInvocation (s := t) (cn := restoreCn) (a := 0) (st := stTimeout) (r := 0)
  have hframe : StoreFrame s s' [] := .of_cat (by rw [← hs']) (by rw [← hs'])
  refine ⟨_, hexec, ?_⟩
  rw [he]
  refine ⟨?_, fun x => ?_, fun hl => ?_, ?_, ?_⟩
  · rw [hend.rest, hrest, ← hs']
  · rw [hend.rest, hrest, ← hs', List.mem_filter, Option.isNone_iff_eq_none]
  · obtain ⟨v, hv, hlate⟩ := hl
    have hv' : runningInvocation t restoreCn 0 = some v := by rw [hrest, ← hs']; exact hv
    rw [← show restoreCn = 0xB020_00 from rfl, get_endInvocation hv' (.inl rfl), hlate]
    rfl
  · refine StoreFrame.trans (hframe.mono (by simp)) (StoreFrame.trans (hstore.mono (by simp)) (hend.store.mono ?_))
    simp [restoreCn]
  · rw [hend.rest, hrest, ← hs']

end

/-! ### The log -/

section
variable {s : State}

/-- A record `v` written at slot `k` of the log, with its chain code `c`. -/
def recordPut (s : State) (k v c : Nat) : State := { count64 (setRow s 0xF010_00 k v) 0xF000_00 with log.chain := c }

theorem recordPut_rest (k v c : Nat) :
    recordPut s k v c = { s with cat := (recordPut s k v c).cat, log := { s.log with chain := c } } := rfl

theorem recordKey_ne {k c q : Nat} (hk : k < logSlots) (hq : q < 2 ^ 32) (h : c ≠ 0xF010_00 ∨ q ≠ k) :
    catKey c q ≠ catKey 0xF010_00 k := fun he => by
  unfold logSlots at hk
  obtain ⟨hc, hr⟩ := (catKey_inj hq (show k < 2 ^ 32 by omega)).mp he
  exact h.elim (absurd hc) (absurd hr)

theorem getRow_recordPut {k v c d q : Nat} (hq : q < 2 ^ 32) (hd : d ≠ 0xF000_00) :
    getRow (recordPut s k v c) d q = getRow (setRow s 0xF010_00 k v) d q :=
  (getRow_congr rfl rfl ..).trans (getRow_set_ne _ _ hq hd)

theorem getRow_recordPut_same {k v c : Nat} (hk : k < logSlots) : getRow (recordPut s k v c) 0xF010_00 k = v := by
  unfold logSlots at hk
  rw [getRow_recordPut (by omega) (by decide), getRow_setRow_same]

theorem get_recordPut_head {k v c : Nat} (hk : k < logSlots) (h : get s 0xF000_00 = k) :
    get (recordPut s k v c) 0xF000_00 = k + 1 := by
  have hold : get (setRow s 0xF010_00 k v) 0xF000_00 = k :=
    (getRow_setRow_ne _ _ (recordKey_ne hk (by decide) (.inl (by decide)))).trans h
  refine (getRow_congr rfl rfl ..).trans ((get_count64_same ..).trans ?_)
  rw [hold]
  unfold logSlots at hk
  exact Nat.mod_eq_of_lt (by omega)

theorem recordPut_store {k v c : Nat} (hk : k < logSlots) : StoreFrame s (recordPut s k v c) [0xF010_00, 0xF000_00] := by
  intro d q hq hd
  simp only [List.mem_cons, List.not_mem_nil, or_false, not_or] at hd
  exact (getRow_recordPut hq hd.2).trans (getRow_setRow_ne _ _ (recordKey_ne hk hq (.inl hd.1)))

theorem noteCommit_none {bits k : Nat} (h : s.mirror.commitWait = none) : noteCommit s bits k = s := by
  unfold noteCommit
  rw [h]

/-- The record that stands at the log's head, its number in it and its chain code still to come. -/
def recordAt (s : State) (bits : Nat) : Nat := setFld (setFld bits 511 448 (get s 0xF000_00)) 63 0 0

theorem putRecord_unmirrored {bits : Nat} (hroom : get s 0xF000_00 < logSlots) (hu : unmirrored s)
    (hc : s.mirror.commitWait = none) :
    putRecord s bits = recordPut s (get s 0xF000_00) (recordAt s bits + chainCode s.log.chain (recordAt s bits))
      (chainCode s.log.chain (recordAt s bits)) := by
  have hput : putRecord s bits = mirrorChange (noteCommit (recordPut s (get s 0xF000_00 % logSlots)
      (recordAt s bits + chainCode s.log.chain (recordAt s bits)) (chainCode s.log.chain (recordAt s bits)))
      (recordAt s bits) (get s 0xF000_00)) (.records (get s 0xF000_00) 1) := rfl
  rw [hput, Nat.mod_eq_of_lt hroom, noteCommit_none (by rw [recordPut_rest]; exact hc)]
  generalize recordAt s bits + chainCode s.log.chain (recordAt s bits) = v
  generalize chainCode s.log.chain (recordAt s bits) = c
  have hp : pairing (recordPut s (get s 0xF000_00) v c) = pairing s := recordPut_store hroom _ _ (by decide) (by decide)
  exact mirrorChange_unmirrored (by unfold unmirrored; rw [hp]; exact hu) _

theorem formRecord_next {e : LogEvent} {es : List LogEvent} (hd : s.log.dropped = 0) (hq : s.log.queue = e :: es)
    (hroom : get s 0xF000_00 < logSlots) (hu : unmirrored s) (hc : s.mirror.commitWait = none) :
    formRecord s = recordPut { s with log.queue := es } (get s 0xF000_00)
      (recordAt s e.bits + chainCode s.log.chain (recordAt s e.bits)) (chainCode s.log.chain (recordAt s e.bits)) := by
  have hlose : loseUndrained { s with log.queue := es } = { s with log.queue := es } := by
    have hhead : ¬ logSlots ≤ logHead { s with log.queue := es } := Nat.not_le.mpr hroom
    unfold loseUndrained
    dsimp only
    rw [if_neg (by simp [hhead])]
  unfold formRecord
  rw [if_neg (by omega), hq]
  dsimp only
  rw [hlose]
  exact putRecord_unmirrored (s := { s with log.queue := es }) hroom hu hc

theorem does_logRecordForm {e : LogEvent} {es : List LogEvent} (hpor : s.power.porLow = false) (hd : s.log.dropped = 0)
    (hq : s.log.queue = e :: es) (hroom : get s 0xF000_00 < logSlots) (hu : unmirrored s)
    (hc : s.mirror.commitWait = none) : Does (exec .logRecordForm s) fun u =>
      (∃ bits, bits = setFld (setFld e.bits 511 448 (get s 0xF000_00)) 63 0 0 ∧
        u.log.chain = chainCode s.log.chain bits ∧
        getRow u 0xF010_00 (get s 0xF000_00) = bits + u.log.chain) ∧
      get u 0xF000_00 = get s 0xF000_00 + 1 ∧ u.log.queue = es ∧
      (∀ j, j < logSlots → j ≠ get s 0xF000_00 → getRow u 0xF010_00 j = getRow s 0xF010_00 j) ∧
      StoreFrame s u [0xF010_00, 0xF000_00] ∧ u = { s with cat := u.cat, log := u.log } := by
  obtain ⟨a, ha⟩ : ∃ a : State, a = { s with log.queue := es } := ⟨_, rfl⟩
  have hform : unlessPor formRecord s = recordPut a (get s 0xF000_00)
      (recordAt s e.bits + chainCode s.log.chain (recordAt s e.bits)) (chainCode s.log.chain (recordAt s e.bits)) := by
    unfold unlessPor
    rw [hpor, ha]
    exact formRecord_next hd hq hroom hu hc
  have hrow : ∀ c q, getRow a c q = getRow s c q := fun c q => getRow_congr (by rw [ha]) (by rw [ha]) ..
  refine ⟨_, congrArg (fun t => Host.Outcome.next (settle t)) hform, ⟨recordAt s e.bits, rfl, ?_, ?_⟩, ?_, ?_,
    fun j hj hne => ?_, ?_, ?_⟩
  · rw [recordPut_rest]
  · rw [getRow_recordPut_same hroom, recordPut_rest]
  · exact get_recordPut_head hroom (hrow ..)
  · rw [recordPut_rest, ha]
  · have hlt : j < 2 ^ 32 := by unfold logSlots at hj; omega
    rw [getRow_recordPut hlt (by decide), getRow_setRow_ne _ _ (recordKey_ne hroom hlt (.inr hne)), hrow]
  · exact fun c q hq hc => (recordPut_store hroom c q hq hc).trans (hrow ..)
  · rw [recordPut_rest, ha]

/-- The state in which record `k` is on its way to the drain ring. -/
def drains (s : State) (k : Nat) : State :=
  { s with log.drainNext := k + 1, log.draining := some (k, fld (getRow s 0xF010_00 (k % logSlots)) 63 0) }

theorem drainStep_next {k : Nat} (hbit : bit (drainCfg s) 127 = true) (hb : drainBusy s = false) (hk : k = s.log.drainNext)
    (hhead : k < get s 0xF000_00) (hf : drainFull s = false) (hg : s.log.drainGap = none) :
    drainStep s = (hostAccess (drains s k) .logDrain none 1 (fld (drainCfg s) 122 111) (fld (drainCfg s) 110 103)
      (fld (drainCfg s) 102 67 * 64 + k % drainSize s * 64) 64 (bytesLE 64 (getRow s 0xF010_00 (k % logSlots))) false []
      16).2 := by
  have hsize : drainSize (drains s k) = drainSize s := rfl
  have hrow : ∀ q, getRow (drains s k) 0xF010_00 q = getRow s 0xF010_00 q := getRow_congr rfl rfl _
  unfold drainStep
  dsimp only
  rw [if_neg (by simp [hbit, hb, logHead, ← hk, hhead]), if_neg (by simp [hf]), if_neg (by simp [hg]), ← hk,
    ← hsize, ← hrow]
  rfl

theorem does_logDrainWrite {m k : Nat} (hh : held s = false) (hst : stopped s = false) (hbit : bit (drainCfg s) 127 = true)
    (hb : drainBusy s = false) (hk : k = s.log.drainNext) (hhead : k < get s 0xF000_00) (hf : drainFull s = false)
    (hg : s.log.drainGap = none) (hfit : (fld (drainCfg s) 102 67 * 64 + k % drainSize s * 64) % 4096 + 64 ≤ 4096)
    (hm : mspPort s 16 (fld (drainCfg s) 110 103) (fld (drainCfg s) 102 67 * 64 + k % drainSize s * 64) = some m)
    (hl : noLocksAt s m) : Does (exec .logDrainWrite s) fun u =>
      u.log = { s.log with drainNext := k + 1, draining := some (k, fld (getRow s 0xF010_00 (k % logSlots)) 63 0) } ∧
      mspQueue u m = mspQueue s m ++
        [{ op := 1, poison := false, context := fld (drainCfg s) 122 111, segment := fld (drainCfg s) 110 103,
           offset := fld (drainCfg s) 102 67 * 64 + k % drainSize s * 64, length := 64,
           data := bytesLE 64 (getRow s 0xF010_00 (k % logSlots)), enabled := true,
           access := s.host.nextAccess, piece := 0, waited := false }] ∧
      u = { s with host := u.host, log := u.log } := by
  have hexec : exec .logDrainWrite s = .next (settle (drainStep s)) := by
    show Host.Outcome.next (settle (if held s || stopped s then s else drainStep s)) = _
    rw [hh, hst]
    rfl
  have hpres := presented_hostAccess (s := drains s k) (kind := .logDrain) (pair := none) (op := 1)
    (context := fld (drainCfg s) 122 111) (segment := fld (drainCfg s) 110 103)
    (offset := fld (drainCfg s) 102 67 * 64 + k % drainSize s * 64) (len := 64) (n := 16) (m := m)
    (data := bytesLE 64 (getRow s 0xF010_00 (k % logSlots))) (poison := false) (uses := []) (by decide) (by decide)
    hfit hm hl
  rw [← drainStep_next hbit hb hk hhead hf hg] at hpres
  refine ⟨_, hexec, ?_, ?_, ?_⟩
  · rw [hpres.rest]
    rfl
  · rw [hpres.queue, List.take_of_length_le (by rw [length_bytesLE])]
    rfl
  · rw [hpres.rest]
    rfl

end

/-- Settles O38: the mirror's timers and counterpart_restore, each by its equation, and the log's next record formed and
drained. -/
theorem mirrorAndLogAct : Obligations.MirrorAndLogAct := by
  unfold Obligations.MirrorAndLogAct
  exact ⟨fun s hon hd h hu => ⟨does_mirrorResendExpiry hon hd h hu, does_mirrorLostLimitExpiry hon hd h hu⟩,
    fun s c => does_mirrorCommitWaitExpiry, fun s rq ep p ed => does_counterpartRestore, fun s r => does_restoreTimeout,
    fun s e es => does_logRecordForm,
    fun s m k hh hst hbit hb hk hhead hf hg hfit hm _ hl => does_logDrainWrite hh hst hbit hb hk hhead hf hg hfit hm hl⟩

end Sys2Proof.Machine
end

section
/-! The mirror's packets: acknowledgements, the received image, and both sides of a restore (R330, R331, R333, R336). -/

namespace Sys2Proof.Machine

section
variable {s t u : State}

/-! ### Changes of the store alone -/

/-- `t` is `s` with another store. -/
def StoreOnly (s t : State) : Prop := t = { s with cat := t.cat }

theorem StoreOnly.refl (s : State) : StoreOnly s s := rfl

theorem StoreOnly.trans (h : StoreOnly s t) (g : StoreOnly t u) : StoreOnly s u := by
  unfold StoreOnly at h g ⊢
  rw [g, h]

theorem storeOnly_setRow (cn row v : Nat) : StoreOnly s (setRow s cn row v) := rfl

theorem storeOnly_clearTable (cn : Nat) : StoreOnly s (clearTable s cn) := rfl

theorem storeOnly_set (cn v : Nat) : StoreOnly s (set s cn v) := set_eq s cn v

theorem StoreOnly.part (h : StoreOnly s t) : t.part = s.part := by
  have e : t = { s with cat := t.cat } := h
  rw [e]

theorem StoreOnly.now (h : StoreOnly s t) : now t = now s := by
  have e : t = { s with cat := t.cat } := h
  rw [e]
  rfl

theorem lookupT_filter {α : Type} (f : Nat → Bool) (m : Table α) (k : Nat) :
    lookupT (m.filter fun e => f e.1) k = if f k then lookupT m k else none := by
  induction m with
  | nil => simp [lookupT]
  | cons e m ih =>
    obtain ⟨j, v⟩ := e
    by_cases hj : f j = true
    · simp only [List.filter_cons, hj, if_true, lookupT, ih]
      split
      · next hk => rw [hk, hj, if_pos rfl]
      · rfl
    · simp only [List.filter_cons, hj, Bool.false_eq_true, if_false, lookupT, ih]
      split
      · next hf => rw [if_neg fun hk : k = j => hj (hk ▸ hf)]
      · rfl

/-- Every row of a table that has been cleared is at its default. -/
theorem getRow_clearTable_same {cn q : Nat} (hq : q < 2 ^ 32) : getRow (clearTable s cn) cn q = defaultOf s.part cn q := by
  have hdiv : catKey cn q / 2 ^ 32 = cn := by unfold catKey; omega
  show (lookupT (s.cat.filter fun e => e.1 / 2 ^ 32 != cn) (catKey cn q)).getD (defaultOf s.part cn q) = _
  rw [lookupT_filter fun j => j / 2 ^ 32 != cn, hdiv, if_neg (by simp)]
  rfl

theorem getRow_clearTable_ne {cn c q : Nat} (hq : q < 2 ^ 32) (h : c ≠ cn) : getRow (clearTable s cn) c q = getRow s c q := by
  have hdiv : catKey c q / 2 ^ 32 = c := by unfold catKey; omega
  show (lookupT (s.cat.filter fun e => e.1 / 2 ^ 32 != cn) (catKey c q)).getD (defaultOf s.part c q) = _
  rw [lookupT_filter fun j => j / 2 ^ 32 != cn, hdiv, if_pos (by simpa using h)]
  rfl

/-! ### Rows of an update -/

theorem storeOnly_putRows (cn r : Nat) (vs : List Nat) : StoreOnly s (putRows s cn r vs) := by
  induction vs generalizing s r with
  | nil => exact .refl s
  | cons v vs ih => exact (storeOnly_setRow cn r v).trans (ih (r + 1))

theorem getRow_putRows_below {cn r q : Nat} {vs : List Nat} (hq : q < r) (hfit : r + vs.length ≤ 2 ^ 32) :
    getRow (putRows s cn r vs) cn q = getRow s cn q := by
  induction vs generalizing s r with
  | nil => rfl
  | cons v vs ih =>
    rw [List.length_cons] at hfit
    rw [putRows, ih (by omega) (by omega), getRow_setRow_ne _ _ fun e => ?_]
    have := ((catKey_inj (by omega) (by omega)).mp e).2
    omega

/-- Row `j` of an update that fits is its value `j`. -/
theorem getRow_putRows {cn r j : Nat} {vs : List Nat} (hj : j < vs.length) (hfit : r + vs.length ≤ 2 ^ 32) :
    getRow (putRows s cn r vs) cn (r + j) = vs[j] := by
  induction vs generalizing s r j with
  | nil => cases hj
  | cons v vs ih =>
    rw [List.length_cons] at hj hfit
    rw [putRows]
    cases j with
    | zero => exact (getRow_putRows_below (by omega) (by omega)).trans (getRow_setRow_same ..)
    | succ j => exact (congrArg _ (by omega)).trans (ih (s := setRow s cn r v) (r := r + 1) (j := j) (by omega) (by omega))

theorem length_rowValues (w n : Nat) (bs : List Byte) : (rowValues w n bs).length = n := by
  induction n generalizing bs with
  | zero => rfl
  | succ n ih => rw [rowValues, List.length_cons, ih]

theorem getElem_rowValues {w n j : Nat} {bs : List Byte} (h : j < (rowValues w n bs).length) :
    (rowValues w n bs)[j] = numLE ((bs.drop (j * w)).take w) := by
  induction n generalizing bs j with
  | zero => cases h
  | succ n ih =>
    cases j with
    | zero => simp [rowValues]
    | succ j =>
      rw [rowValues, List.length_cons] at h
      refine (ih (bs := bs.drop w) (by omega)).trans ?_
      rw [List.drop_drop, show w + j * w = (j + 1) * w by rw [Nat.succ_mul, Nat.add_comm]]

theorem storeOnly_tailAdd (v : Nat) : StoreOnly s (tailAdd s v) := by
  have hlast : ∀ t : State, StoreOnly t (if fld v 335 328 = 0x12 then set t 0xB018_00 v else t) := fun t => by
    split
    · exact storeOnly_set ..
    · exact .refl t
  unfold tailAdd
  dsimp only
  split
  · exact .refl s
  · refine StoreOnly.trans ?_ (hlast _)
    split
    · exact storeOnly_setRow ..
    · exact storeOnly_putRows ..

theorem getRow_tailAdd_first {v : Nat} (h : rowsOf s 0xB017_00 = []) : getRow (tailAdd s v) 0xB017_00 0 = v := by
  unfold tailAdd
  rw [h]
  simp only [List.map_nil, List.getLast?_nil, Option.map_none, Option.any_none, Bool.false_eq_true, if_false,
    List.length_nil, Nat.zero_lt_succ, if_true]
  split
  · rw [getRow_set_ne _ _ (by decide) (by decide), getRow_setRow_same]
  · exact getRow_setRow_same ..

theorem storeOnly_clearImage : StoreOnly s (clearImage s) := by
  have h : ∀ (f : Nat → Nat) (xs : List Nat) (t : State), StoreOnly t (xs.foldl (fun t i => clearTable t (f i)) t) :=
    fun f xs => foldl_through (R := StoreOnly) .refl .trans fun t x _ => storeOnly_clearTable _
  exact (h (· * 256) _ s).trans (h id _ _)

theorem storeOnly_imageApply (k : Packet) : StoreOnly s (imageApply s k) := by
  unfold imageApply
  split
  · split
    · exact storeOnly_setRow ..
    · exact .refl s
  · split
    · exact storeOnly_putRows ..
    · exact .refl s
  · exact foldl_through (R := StoreOnly) .refl .trans (fun t x _ => storeOnly_tailAdd x) s
  · exact ((storeOnly_clearImage.trans (storeOnly_set ..)).trans (storeOnly_set ..)).trans (storeOnly_set ..)
  · exact storeOnly_set ..
  · exact .refl s

/-- A mirrored table has at most 65,536 rows. -/
theorem rows_imageTable {p : Part} {cn d : Nat} {o : Obj} (h : imageTable cn = some d) (ho : findObj p cn = some o) :
    o.type.rows ≤ 65536 := by
  have hmem : cn ∈ [0x4100_00, 0x4101_00, 0x4102_00, 0x5300_00, 0x5100_00, 0x6400_00] := by
    unfold imageTable findAt findAt findAt findAt findAt findAt findAt at h
    by_contra hno
    simp only [List.mem_cons, List.not_mem_nil, or_false, not_or] at hno
    obtain ⟨h1, h2, h3, h4, h5, h6⟩ := hno
    simp [Ne.symm h1, Ne.symm h2, Ne.symm h3, Ne.symm h4, Ne.symm h5, Ne.symm h6] at h
  have hall : ∀ p : Part, ∀ c ∈ [0x4100_00, 0x4101_00, 0x4102_00, 0x5300_00, 0x5100_00, 0x6400_00],
      (findObj p c).all (fun o => decide (o.type.rows ≤ 65536)) = true := by
    intro p
    cases p <;> decide +kernel
  have := hall p cn hmem
  rw [ho] at this
  simpa using this

/-! ### MIRROR_ACK -/

/-- What an acknowledgement leaves of the state. -/
def ackedState (s : State) (seq : Nat) : State :=
  set { s with mirror.buffer := s.mirror.buffer.filter fun u => !seqCovers (get s 0xB001_02) seq u.seq } 0xB001_02 seq

theorem ackCovers_synced {seq : Nat} (hp : pairing s = 2) (hc : s.mirror.commitWait = none)
    (hnew : subMod 32 seq (get s 0xB001_02) ≠ 0)
    (hsent : subMod 32 seq (get s 0xB001_02) ≤ subMod 32 (get s 0xB001_01) (get s 0xB001_02)) :
    ackCovers s seq = ackedState s seq := by
  have hpair : pairing (ackedState s seq) = 2 := by
    refine Eq.trans ?_ hp
    exact (get_set_ne _ _ (by decide)).trans (getRow_congr rfl rfl ..)
  have hsnap : (match (ackedState s seq).mirror.snapshotEnd with
      | some e => if pairing (ackedState s seq) = 1 && seqCovers (get s 0xB001_02) seq e then setPairing (ackedState s seq) 2
          else ackedState s seq
      | none => ackedState s seq) = ackedState s seq := by
    split
    · rw [hpair]; rfl
    · rfl
  have hwait : (ackedState s seq).mirror.commitWait = none := by
    unfold ackedState
    rw [set_eq]
    exact hc
  unfold ackCovers
  dsimp only
  rw [if_neg (by simp [hnew]; omega)]
  refine Eq.trans (b := match (ackedState s seq).mirror.commitWait with
    | some c => if c.seq.any (seqCovers (get s 0xB001_02) seq) then endCommitWait (ackedState s seq) else ackedState s seq
    | none => ackedState s seq) ?_ (by rw [hwait])
  rw [← hsnap]
  rfl

theorem mirrorPump_idle {fuel : Nat} (h : s.mirror.jobs = []) : mirrorPump fuel s = s := by
  cases fuel with
  | zero => rfl
  | succ fuel => rw [mirrorPump, h]

theorem mirrorAckArrives_synced {k : Packet} (hr : s.mirror.restore = none) (hm : mirroring s = true)
    (hk : k.src = counterpart s) (hp : pairing s = 2) (hb : bit (mirrorSlot k) 91 = false) (hj : s.mirror.jobs = [])
    (hc : s.mirror.commitWait = none) (hnew : subMod 32 (fld (mirrorSlot k) 127 96) (get s 0xB001_02) ≠ 0)
    (hsent : subMod 32 (fld (mirrorSlot k) 127 96) (get s 0xB001_02) ≤ subMod 32 (get s 0xB001_01) (get s 0xB001_02)) :
    mirrorAckArrives s k = ackedState s (fld (mirrorSlot k) 127 96) := by
  have hcov := ackCovers_synced hp hc hnew hsent
  have hpair : pairing (ackedState s (fld (mirrorSlot k) 127 96)) = 2 := by
    refine Eq.trans ?_ hp
    exact (get_set_ne _ _ (by decide)).trans (getRow_congr rfl rfl ..)
  have hjobs : (ackedState s (fld (mirrorSlot k) 127 96)).mirror.jobs = [] := by
    unfold ackedState
    rw [set_eq]
    exact hj
  unfold mirrorAckArrives
  rw [hr, hm, hk]
  dsimp only
  rw [hcov]
  simp only [Option.any_none, Bool.not_false, beq_self_eq_true, Bool.and_self, Bool.not_true, Bool.and_false,
    Bool.false_eq_true, if_false, Bool.false_and, hpair, hb, Bool.true_and, Bool.or_false]
  exact mirrorPump_idle hjobs

/-! ### The packets -/

variable {p seq : Nat} {k : Packet}

theorem Mirrors.coll (h : Mirrors s t) : t.coll = s.coll := congrArg (·.coll) h.rest

theorem requestActs_mirrorAck (h : k.opcode = opMirrorAck) : requestActs s p k 0 = mirrorAckArrives s k := by
  unfold requestActs
  rw [h]
  rfl

theorem requestActs_mirrorUpdate (h : k.opcode = opMirrorUpdate) : requestActs s p k 0 = mirrorUpdateArrives s k := by
  unfold requestActs
  rw [h]
  rfl

theorem does_mirrorAck (hop : k.opcode = opMirrorAck) (hck : Checked s p k t) (hr : t.mirror.restore = none)
    (hm : mirroring t = true) (hk : k.src = counterpart t) (hp : pairing t = 2) (hb : bit (mirrorSlot k) 91 = false)
    (hj : t.mirror.jobs = []) (hc : t.mirror.commitWait = none) (hseq : seq = fld (mirrorSlot k) 127 96)
    (hnew : subMod 32 seq (get t 0xB001_02) ≠ 0)
    (hsent : subMod 32 seq (get t 0xB001_02) ≤ subMod 32 (get t 0xB001_01) (get t 0xB001_02)) :
    Does (exec (.mirrorAck p k) s) fun u =>
      get u 0xB001_02 = seq ∧ StoreFrame t u [0xB001_02] ∧
      (∀ x, x ∈ u.mirror.buffer ↔ x ∈ t.mirror.buffer ∧
        ¬(subMod 32 x.seq (get t 0xB001_02) ≤ subMod 32 seq (get t 0xB001_02))) ∧
      u = { t with cat := u.cat, mirror.buffer := u.mirror.buffer } := by
  subst hseq
  have hacts := (requestActs_mirrorAck (p := p) hop).trans (mirrorAckArrives_synced hr hm hk hp hb hj hc hnew hsent)
  have hrest : ackedState t (fld (mirrorSlot k) 127 96) =
      { t with cat := (ackedState t (fld (mirrorSlot k) 127 96)).cat
               mirror.buffer := t.mirror.buffer.filter fun u => !seqCovers (get t 0xB001_02) (fld (mirrorSlot k) 127 96) u.seq } :=
    set_eq ..
  have hcoll : (ackedState t (fld (mirrorSlot k) 127 96)).coll.waits = t.coll.waits := by rw [hrest]
  refine ⟨_, packetOut_checked hck (.inl (by rw [hop]; rfl)) (by rw [hop]; decide) hacts hcoll (by rw [← hop]), ?_, ?_,
    fun x => ?_, ?_⟩
  · exact get_set_same ..
  · exact StoreFrame.trans (.of_cat rfl rfl) ((StoreFrame.refl _).set _ (by simp))
  · rw [hrest, List.mem_filter]
    simp [seqCovers]
  · rw [hrest]

/-- The image with an update of the counterpart's state applied. -/
def appliedState (s : State) (k : Packet) : State :=
  set (set (imageApply s k) 0xB001_03 (muSeq k)) 0xB002_03 (now (set (imageApply s k) 0xB001_03 (muSeq k)))

theorem storeOnly_appliedState : StoreOnly s (appliedState s k) :=
  ((storeOnly_imageApply k).trans (storeOnly_set ..)).trans (storeOnly_set ..)

theorem getRow_appliedState {c q : Nat} (hq : q < 2 ^ 32) (h : c ≠ 0xB001_03) (h' : c ≠ 0xB002_03) :
    getRow (appliedState s k) c q = getRow (imageApply s k) c q := by
  unfold appliedState
  rw [getRow_set_ne _ _ hq h', getRow_set_ne _ _ hq h]

theorem mirrorApplies_next (hkind : muKind k ≠ 6) (hfits : updateFits s k = true)
    (hnext : muKind k = 3 ∨ muSeq k = (get s 0xB001_03 + 1) % 2 ^ 32) : mirrorApplies s k = ackMirror (appliedState s k) := by
  unfold mirrorApplies
  rw [if_neg (by simp [hkind, hfits])]
  exact if_pos (by unfold appliedSeq; simpa using hnext)

theorem getRow_applied_rows (h : muKind k = 1) (hfits : updateFits s k = true) {cn j : Nat}
    (hcn : imageTable (muCn k) = some cn) (hj : j < muCount k) :
    getRow (appliedState s k) cn (muRow k + j) =
      numLE (((muData k).drop (j * mirrorWidth (muCn k))).take (mirrorWidth (muCn k))) := by
  have hrows : rowsFit s k = true := by
    unfold updateFits at hfits
    rw [h] at hfits
    exact hfits
  have hbound : muRow k + muCount k ≤ 65536 := by
    unfold rowsFit at hrows
    cases ho : findObj s.part (muCn k) with
    | none => rw [ho] at hrows; simp at hrows
    | some o =>
      rw [ho] at hrows
      simp only [Bool.and_eq_true, decide_eq_true_eq] at hrows
      exact hrows.2.trans (rows_imageTable hcn ho)
  have happly : imageApply s k =
      putRows s cn (muRow k) (rowValues (mirrorWidth (muCn k)) (muCount k) (muData k)) := by
    unfold imageApply
    rw [h, hcn] <;> rfl
  have hne : cn ≠ 0xB001_03 ∧ cn ≠ 0xB002_03 := by
    unfold imageTable at hcn
    obtain ⟨e, -, he⟩ := Option.map_eq_some_iff.mp hcn
    omega
  have hlen := length_rowValues (mirrorWidth (muCn k)) (muCount k) (muData k)
  rw [getRow_appliedState (by omega) hne.1 hne.2, happly, getRow_putRows (by omega) (by omega), getElem_rowValues]

theorem does_mirrorUpdate {c : Instr} (hop : k.opcode = opMirrorUpdate)
    (hc : (muKind k, c) ∈ [(0, .mirrorValue p k), (1, .mirrorRows p k), (2, .mirrorLogRecords p k), (3, .snapshotBegin p k),
      (4, .snapshotEnd p k)]) (hck : Checked s p k t) (hon : domainOn t 25 = true) (hr : t.mirror.restore = none)
    (hm : mirroring t = true) (hk : k.src = counterpart t) (hfits : updateFits t k = true)
    (hnext : muKind k = 3 ∨ muSeq k = (get t 0xB001_03 + 1) % 2 ^ 32) :
    Does (exec c s) fun u => ∃ v, u = ackMirror v ∧ v = { t with cat := v.cat } ∧
      get v 0xB001_03 = muSeq k ∧ get v 0xB002_03 = now t ∧
      (muKind k = 0 → ∀ r, imageValueRow t (muCn k) = some r →
        getRow v 0xB016_00 r = muCn k * 2 ^ 232 + min (muBytes k) 16 * 2 ^ 224 + numLE ((muData k).take 16)) ∧
      (muKind k = 1 → ∀ cn j, imageTable (muCn k) = some cn → j < muCount k →
        getRow v cn (muRow k + j) =
          numLE (((muData k).drop (j * mirrorWidth (muCn k))).take (mirrorWidth (muCn k)))) ∧
      (muKind k = 2 → muCount k = 1 → rowsOf t 0xB017_00 = [] →
        getRow v 0xB017_00 0 = numLE ((muData k).take 64)) ∧
      (muKind k = 3 → get v 0xB002_00 = 1 ∧ get v 0xB002_01 = k.src ∧ get v 0xB002_02 = k.srcEdition) ∧
      (muKind k = 4 → get v 0xB002_00 = 2) := by
  have hexec : muKind k ≤ 4 ∧ exec c s = packetOut s p { k with opcode := opMirrorUpdate } := by
    simp only [List.mem_cons, List.not_mem_nil, or_false, Prod.mk.injEq] at hc
    rcases hc with ⟨h, rfl⟩ | ⟨h, rfl⟩ | ⟨h, rfl⟩ | ⟨h, rfl⟩ | ⟨h, rfl⟩ <;> exact ⟨by omega, rfl⟩
  obtain ⟨hkind, hexec⟩ := hexec
  have hacts : requestActs t p k 0 = ackMirror (appliedState t k) := by
    rw [requestActs_mirrorUpdate hop]
    unfold mirrorUpdateArrives
    rw [hon, hr, hm, ← hk]
    simp only [Bool.not_true, Bool.false_eq_true, if_false, Option.filter_none, ne_eq, not_true_eq_false, decide_false,
      Bool.or_self, show muKind k ≠ 5 by omega]
    exact mirrorApplies_next (by omega) hfits hnext
  have hv := storeOnly_appliedState (s := t) (k := k)
  have hsends : Sends (appliedState t k) (ackMirror (appliedState t k)) := sends_sendLoose _
  have hcoll : (ackMirror (appliedState t k)).coll.waits = t.coll.waits := by
    rw [hsends.coll]
    have e : appliedState t k = { t with cat := (appliedState t k).cat } := hv
    rw [e]
  rw [hexec]
  refine ⟨_, packetOut_checked hck (.inl (by rw [hop]; rfl)) (by rw [hop]; decide) hacts hcoll (by rw [← hop]),
    appliedState t k, rfl, hv, ?_, ?_, fun h r hrow => ?_, fun h cn j => getRow_applied_rows h hfits, fun h h1 hnone => ?_,
    fun h => ?_, fun h => ?_⟩
  · unfold appliedState
    rw [get_set_ne _ _ (by decide), get_set_same]
  · unfold appliedState
    rw [get_set_same]
    exact ((storeOnly_imageApply k).trans (storeOnly_set ..)).now
  · have hr' : r < 2 ^ 32 := by
      have := mem_upFrom.mp (List.mem_of_find?_eq_some hrow)
      omega
    have happly : imageApply t k = setRow t 0xB016_00 r
        (muCn k * 2 ^ 232 + min (muBytes k) 16 * 2 ^ 224 + numLE ((muData k).take 16)) := by
      unfold imageApply
      rw [h, hrow] <;> rfl
    rw [getRow_appliedState hr' (by decide) (by decide), happly, getRow_setRow_same]
  · have happly : imageApply t k = tailAdd t (numLE ((muData k).take 64)) := by
      unfold imageApply
      rw [h, h1]
      rfl
    rw [getRow_appliedState (by decide) (by decide) (by decide), happly, getRow_tailAdd_first hnone]
  · have happly : imageApply t k = set (set (set (clearImage t) 0xB002_00 1) 0xB002_01 k.src) 0xB002_02 k.srcEdition := by
      unfold imageApply
      rw [h] <;> rfl
    refine ⟨?_, ?_, ?_⟩
    · rw [get, getRow_appliedState (by decide) (by decide) (by decide), happly]
      exact (get_set_ne _ _ (by decide)).trans ((get_set_ne _ _ (by decide)).trans (get_set_same ..))
    · rw [get, getRow_appliedState (by decide) (by decide) (by decide), happly]
      exact (get_set_ne _ _ (by decide)).trans (get_set_same ..)
    · rw [get, getRow_appliedState (by decide) (by decide) (by decide), happly]
      exact get_set_same ..
  · have happly : imageApply t k = set t 0xB002_00 2 := by
      unfold imageApply
      rw [h] <;> rfl
    rw [get, getRow_appliedState (by decide) (by decide) (by decide), happly]
    exact get_set_same ..

/-- The image is queued for a restore of the given edition, ahead of other work. -/
def imageQueued (s : State) (ed : Nat) : State :=
  { s with
    mirror.buffer := s.mirror.buffer.filter fun u => u.edition.isNone
    mirror.jobs := (imageWork s).map (fun w => { work := w, snap := false, edition := some ed }) ++
      s.mirror.jobs.filter fun j => j.edition.isNone }

theorem restoreRequested_complete (hsrc : k.src = get s 0xB002_01) (hed : newer 8 (get s 0xB002_02) k.srcEdition = false)
    (himg : get s 0xB002_00 = 2) : restoreRequested s k =
      mirrorPump pumpFuel (imageQueued (sendLoose s (mirrorAckPacket s k.src k.srcEdition (muSeq k) false)) k.srcEdition) := by
  unfold restoreRequested
  rw [if_neg (by simp [hsrc, hed]), if_neg (by simp [himg])]
  rfl

theorem does_restoreRequest (hop : k.opcode = opMirrorUpdate) (hkind : muKind k = 5) (hck : Checked s p k t)
    (hon : domainOn t 25 = true) (hm : mirroring t = true) (hk : k.src = counterpart t) (hsrc : k.src = get t 0xB002_01)
    (hed : newer 8 (get t 0xB002_02) k.srcEdition = false) (himg : get t 0xB002_00 = 2) :
    Does (exec (.restoreRequest p k) s) fun u => ∃ v w a, a.opcode = opMirrorAck ∧ a.dst = k.src ∧ v = sendLoose t a ∧
      w = { v with mirror := { v.mirror with buffer := w.mirror.buffer, jobs := w.mirror.jobs } } ∧
      (∀ x, x ∈ w.mirror.buffer ↔ x ∈ v.mirror.buffer ∧ x.edition = none) ∧
      w.mirror.jobs = (imageWork v).map (fun x => { work := x, snap := false, edition := some k.srcEdition }) ++
        v.mirror.jobs.filter (fun j => j.edition.isNone) ∧
      u = mirrorPump pumpFuel w := by
  have hnone : t.mirror.restore.filter (fun r => r.endpoint == k.src && muKind k != 5) = none := by
    rw [hkind]
    cases t.mirror.restore <;> simp
  have hacts : requestActs t p k 0 = mirrorPump pumpFuel
      (imageQueued (sendLoose t (mirrorAckPacket t k.src k.srcEdition (muSeq k) false)) k.srcEdition) := by
    rw [requestActs_mirrorUpdate hop]
    unfold mirrorUpdateArrives
    rw [hon, hnone, hm, ← hk, hkind]
    simp only [Bool.not_true, Bool.false_eq_true, if_false, ne_eq, not_true_eq_false, decide_false, Bool.or_self, if_true]
    exact restoreRequested_complete hsrc hed himg
  have hcoll : (mirrorPump pumpFuel (imageQueued (sendLoose t (mirrorAckPacket t k.src k.srcEdition (muSeq k) false))
      k.srcEdition)).coll.waits = t.coll.waits := by
    rw [(mirrors_mirrorPump pumpFuel).coll]
    exact congrArg (·.waits) (sends_sendLoose _).coll
  refine ⟨_, packetOut_checked hck (.inl (by rw [hop]; rfl)) (by rw [hop]; decide) hacts hcoll (by rw [← hop]),
    sendLoose t (mirrorAckPacket t k.src k.srcEdition (muSeq k) false), imageQueued _ k.srcEdition,
    mirrorAckPacket t k.src k.srcEdition (muSeq k) false, rfl, rfl, rfl, rfl, fun x => ?_, rfl, rfl⟩
  rw [← Option.isNone_iff_eq_none]
  exact List.mem_filter

/-- The state in which a restore begins afresh. -/
def restoreAfresh (s : State) (r : Restore) (seq : Nat) : State :=
  { clearTable (clearTable s 0xB021_00) 0xB022_00 with mirror.restore := some { r with lastSeq := some seq } }

theorem does_restoreBegin {r : Restore} (hop : k.opcode = opMirrorUpdate) (hkind : muKind k = 6) (hck : Checked s p k t)
    (hon : domainOn t 25 = true) (hr : t.mirror.restore = some r) (hsrc : r.endpoint = k.src) :
    Does (exec (.restoreBegin p k) s) fun u => ∃ v, u = ackRestore v r (muSeq k) ∧
      v.mirror.restore = some { r with lastSeq := some (muSeq k) } ∧
      (∀ row, row < 2 ^ 32 → getRow v 0xB021_00 row = defaultOf t.part 0xB021_00 row ∧
        getRow v 0xB022_00 row = defaultOf t.part 0xB022_00 row) ∧
      StoreFrame t v [0xB021_00, 0xB022_00] ∧ v = { t with cat := v.cat, mirror.restore := v.mirror.restore } := by
  have hacts : requestActs t p k 0 = ackRestore (restoreAfresh t r (muSeq k)) r (muSeq k) := by
    rw [requestActs_mirrorUpdate hop]
    unfold mirrorUpdateArrives
    rw [hon, hr, hkind, Option.filter_some_pos (by simp [hsrc])]
    unfold restoreUpdate
    rw [if_neg (by decide)]
    exact if_pos hkind
  have hcoll : (ackRestore (restoreAfresh t r (muSeq k)) r (muSeq k)).coll.waits = t.coll.waits := by
    unfold ackRestore
    rw [(mirrors_sendAt ..).coll]
    rfl
  have hrow : ∀ c q, q < 2 ^ 32 → getRow (restoreAfresh t r (muSeq k)) c q =
      getRow (clearTable (clearTable t 0xB021_00) 0xB022_00) c q := fun c q _ => getRow_congr rfl rfl ..
  refine ⟨_, packetOut_checked hck (.inl (by rw [hop]; rfl)) (by rw [hop]; decide) hacts hcoll (by rw [← hop]),
    restoreAfresh t r (muSeq k), rfl, rfl, fun row hlt => ⟨?_, ?_⟩, fun c q hq hc => ?_, rfl⟩
  · rw [hrow _ _ hlt, getRow_clearTable_ne hlt (by decide), getRow_clearTable_same hlt]
  · rw [hrow _ _ hlt, getRow_clearTable_same hlt]
    rfl
  · simp only [List.mem_cons, List.not_mem_nil, or_false, not_or] at hc
    rw [hrow _ _ hq, getRow_clearTable_ne hq hc.2, getRow_clearTable_ne hq hc.1]

end

/-- Settles O37: each kind of mirror packet by the equation of what takes it. -/
theorem mirrorPacketsAct : Obligations.MirrorPacketsAct := by
  unfold Obligations.MirrorPacketsAct
  exact ⟨fun s t p seq k => does_mirrorAck, fun s t p k c => does_mirrorUpdate, fun s t p k => does_restoreRequest,
    fun s t p k r => does_restoreBegin⟩

end Sys2Proof.Machine
end

section
/-! A slip's way in: the poll of its slot, its acceptance and its admission (R96, R105, R106, R315). -/

namespace Sys2Proof.Machine

/-! ### What ends with a slip leaves of the trays -/

/-- The trays and their slips are as before. -/
structure TraysKept (s t : State) : Prop where
  slips : t.slips = s.slips
  rows : ∀ q, q < 2 ^ 32 → getRow t trayCn q = getRow s trayCn q

section
variable {s t u : State}

theorem TraysKept.refl (s : State) : TraysKept s s := ⟨rfl, fun _ _ => rfl⟩

theorem TraysKept.trans (h : TraysKept s t) (g : TraysKept t u) : TraysKept s u :=
  ⟨g.slips.trans h.slips, fun q hq => (g.rows q hq).trans (h.rows q hq)⟩

theorem traysKept_of_cat (hs : t.slips = s.slips) (hp : t.part = s.part) (hc : t.cat = s.cat) : TraysKept s t :=
  ⟨hs, fun _ _ => getRow_congr hp hc ..⟩

theorem traysKept_set {cn v : Nat} (h : cn ≠ trayCn) : TraysKept s (set s cn v) :=
  ⟨rfl, fun _ hq => getRow_set_ne _ _ hq (Ne.symm h)⟩

theorem traysKept_odc (event n : Nat) (q : Option Nat) (j : Option Packet) : TraysKept s (odc s event q j n) := by
  unfold odc
  split
  · refine foldl_through (R := TraysKept) .refl .trans (fun t i _ => ?_) s
    split
    · exact traysKept_set (by unfold trayCn; omega)
    · exact .refl t
  · exact .refl s

theorem traysKept_offerReq {m : Nat} (hm : m < 12) (r : MspReq) : TraysKept s (offerReq s m r) := by
  unfold offerReq
  split
  · have hcount : TraysKept s (if lineLocked s m r then odc (count64 s (0x8062_01 + m)) 0x09 none none 1 else s) := by
      split
      · exact (traysKept_set (by unfold trayCn; omega)).trans (traysKept_odc ..)
      · exact .refl s
    exact hcount.trans (traysKept_of_cat rfl rfl rfl)
  · rw [lockIfReached_eq]
    exact traysKept_of_cat rfl rfl rfl

theorem mspPort_lt {n segment offset m : Nat} (h : mspPort s n segment offset = some m) : m < 12 := by
  unfold mspPort at h
  dsimp only at h
  split at h
  · split at h
    · next hlt => cases h; simp only [Bool.and_eq_true, decide_eq_true_eq] at hlt; exact hlt.1
    · cases h
  · cases h

theorem traysKept_updAccess (a : Nat) (f : Access → Access) : TraysKept s (updAccess s a f) := by
  rw [updAccess_eq]
  exact traysKept_of_cat rfl rfl rfl

theorem traysKept_presentPieces (a op context segment : Nat) (poison : Bool) (n : Nat) (ps : List (Nat × Nat))
    (data : List Byte) (i : Nat) : TraysKept s (presentPieces a op context segment poison n ps data i s) := by
  induction ps generalizing s data i with
  | nil => exact .refl s
  | cons e ps ih =>
    obtain ⟨off, len⟩ := e
    unfold presentPieces
    dsimp only
    refine TraysKept.trans ?_ (ih ..)
    split
    · next hm => exact traysKept_offerReq (mspPort_lt hm) _
    · exact traysKept_updAccess ..

theorem traysKept_hostAccess (kind : AccessKind) (pair : Option Nat) (op context segment offset len : Nat)
    (data : List Byte) (poison : Bool) (uses : List Nat) (n : Nat) :
    TraysKept s (hostAccess s kind pair op context segment offset len data poison uses n).2 := by
  have hmark : ∀ (t : State) a, TraysKept t (markReady t a) := fun t a => by
    rw [markReady_eq]
    exact traysKept_of_cat rfl rfl rfl
  have henter : ∀ x, TraysKept s (enterAccess s x).2 := fun x => traysKept_of_cat rfl rfl rfl
  unfold hostAccess
  exact ((henter _).trans (traysKept_presentPieces ..)).trans (hmark _ _)

theorem traysKept_dumpNext : TraysKept s (dumpNext s) := by
  unfold dumpNext
  split
  · exact traysKept_hostAccess ..
  · exact .refl s

theorem traysKept_dumpEnd (tray k bits slot status : Nat) : TraysKept s (dumpEnd s tray k bits slot status) := by
  have hdumps : ∀ (t : State) ds, TraysKept t { t with observe.dumps := ds } := fun t ds => traysKept_of_cat rfl rfl rfl
  unfold dumpEnd
  split
  · exact .refl s
  · dsimp only
    split
    · exact (hdumps s _).trans (traysKept_set (by decide))
    · split
      · exact (hdumps s _).trans (hdumps ..)
      · exact ((hdumps s _).trans (hdumps ..)).trans traysKept_dumpNext

/-- A slip that never began and ends with a status that sets no lost flag leaves the trays, but for its own context. -/
theorem completeSlip_unbegun {c : SlipCtx} {r : SlipResult} (hw : c.localWindows = []) (hp : ∀ h, c.probe ≠ .granted h)
    (hr : r.status = stStale) : ∃ v, TraysKept s v ∧ completeSlip s c r = updCtx v c.tray c.k fun c =>
      { c with result := some r, probe := .refused r.status 0, localWindows := [], stopped := true, flagged := false } := by
  have huses : TraysKept (count64 s 0x8110_01) (endLocalUses (count64 s 0x8110_01) c) := by
    unfold endLocalUses
    split
    · rw [hw]; exact .refl _
    · exact traysKept_updAccess ..
  refine ⟨dumpEnd (endLocalUses (count64 s 0x8110_01) c) c.tray c.k c.bits c.slot stStale,
    ((traysKept_set (by decide)).trans huses).trans (traysKept_dumpEnd ..), ?_⟩
  unfold completeSlip
  rw [hr]
  cases hc : c.probe with
  | granted h => exact absurd hc (hp h)
  | _ => rfl

/-! ### The poll of a slot -/

theorem trayRun_setTrayRun (n : Nat) (x : TrayRun) : trayRun (setTrayRun s n x) n = x := by
  simp [trayRun, setTrayRun, lookupT_insertT]

theorem does_traySlotPoll {n m : Nat} (hrun : unitsRun s 2 = true) (hserved : trayServed s n = true)
    (hon : trState (trayRow s n) = 1) (hread : (trayRun s n).reading = false) (hret : (trayRun s n).returned = none)
    (hroom : (trayCtxs s n).length < trAhead (trayRow s n)) (hs : silent s = false)
    (hm : mspPort s (trayPartition s n) (trSegment (trayRow s n)) (trBase (trayRow s n) + trNext (trayRow s n) * 64) = some m)
    (hl : noLocksAt s m) : Does (exec (.traySlotPoll n) s) fun u =>
      (trayRun u n).reading = true ∧
      (∃ x, access? u s.host.nextAccess = some x ∧ x.kind = .slotRead n ∧ x.toAccept = 1 ∧ x.toComplete = 1) ∧
      mspQueue u m = mspQueue s m ++
        [{ op := 0, poison := false, context := trContext (trayRow s n), segment := trSegment (trayRow s n),
           offset := trBase (trayRow s n) + trNext (trayRow s n) * 64, length := 64, data := [], enabled := true,
           access := s.host.nextAccess, piece := 0, waited := false }] ∧
      u = { s with host := u.host, slips.trays := u.slips.trays } := by
  obtain ⟨a, ha⟩ : ∃ a, a = setTrayRun s n { trayRun s n with reading := true } := ⟨_, rfl⟩
  have hrest : a = { s with slips.trays := a.slips.trays } := by rw [ha]; rfl
  have hoff : (trBase (trayRow s n) + trNext (trayRow s n) * 64) % 4096 + 64 ≤ 4096 := by unfold trBase; omega
  have hpart : trayPartition a n = trayPartition s n := by rw [hrest]; rfl
  have hport : mspPort a (trayPartition s n) (trSegment (trayRow s n))
      (trBase (trayRow s n) + trNext (trayRow s n) * 64) = some m := by rw [hrest]; exact hm
  have hlocks : noLocksAt a m := by rw [hrest]; exact hl
  have hacts : (if trayServed s n then pollSlot s n else s) =
      (hostAccess a (.slotRead n) none 0 (trContext (trayRow s n)) (trSegment (trayRow s n))
        (trBase (trayRow s n) + trNext (trayRow s n) * 64) 64 [] false [] (trayPartition s n)).2 := by
    rw [if_pos hserved, ← hpart, ha]
    unfold pollSlot
    exact if_pos (by simp [hon, hread, hret, hroom, hs])
  have heq := hostAccess_presented (kind := .slotRead n) (pair := none) (op := 0) (context := trContext (trayRow s n))
    (data := []) (poison := false) (uses := []) (by decide) (by decide) hoff hport hlocks
  have hpres := presented_hostAccess (kind := .slotRead n) (pair := none) (op := 0) (context := trContext (trayRow s n))
    (data := []) (poison := false) (uses := []) (by decide) (by decide) hoff hport hlocks
  have hnext : a.host = s.host := by rw [hrest]
  refine does_whenRuns hrun hacts ⟨?_, ?_, ?_, ?_⟩
  · rw [trayRun_congr (s := a) (by rw [hpres.rest]), ha, trayRun_setTrayRun]
  · rw [heq, ← hnext]
    exact ⟨_, access?_entered _, rfl, rfl, rfl⟩
  · rw [hpres.queue]
    unfold mspQueue
    rw [hnext]
    rfl
  · rw [hpres.rest, hrest]

/-! ### A slip is accepted -/

/-- The row of a tray whose next slip has been accepted. -/
def rowAccepted (row : Nat) : Nat :=
  setFld (setFld (setFld row 163 148 ((trNext row + 1) % trSize row)) 147 140
    ((fld row 127 64 + 1) / trSize row % 255 + 1)) 127 64 ((fld row 127 64 + 1) % 2 ^ 64)

theorem rowAccepted_fields (row : Nat) : trNext (rowAccepted row) = (trNext row + 1) % trSize row % 2 ^ 16 ∧
    trTurn (rowAccepted row) = (fld row 127 64 + 1) / trSize row % 255 + 1 ∧
    fld (rowAccepted row) 127 64 = (fld row 127 64 + 1) % 2 ^ 64 := by
  refine ⟨?_, ?_, ?_⟩
  · unfold rowAccepted
    generalize (trNext row + 1) % trSize row = x
    unfold trNext
    rw [fld_setFld_below _ _ (by decide) (by decide), fld_setFld_below _ _ (by decide) (by decide)]
    exact fld_setFld_same _ _ _ _ (by decide)
  · have hlt : (fld row 127 64 + 1) / trSize row % 255 + 1 < 2 ^ 8 := by omega
    unfold rowAccepted
    generalize (fld row 127 64 + 1) / trSize row % 255 + 1 = x at hlt ⊢
    unfold trTurn
    rw [fld_setFld_below _ _ (by decide) (by decide)]
    exact (fld_setFld_same _ _ _ _ (by decide)).trans (Nat.mod_eq_of_lt hlt)
  · have hlt : (fld row 127 64 + 1) % 2 ^ 64 < 2 ^ 64 := Nat.mod_lt _ (by decide)
    unfold rowAccepted
    generalize (fld row 127 64 + 1) % 2 ^ 64 = x at hlt ⊢
    exact (fld_setFld_same _ _ _ _ (by decide)).trans (Nat.mod_eq_of_lt hlt)

/-- The context of the slip that tray `n` accepts. -/
def acceptedCtx (s : State) (n bits : Nat) : SlipCtx :=
  let c := newCtx n (trayRun s n).serial (trNext (trayRow s n)) (trIssuer (trayRow s n)) bits
  if slipMoves bits && slUseLoan bits then { c with probe := loanCheck s bits } else c

theorem acceptedCtx_fields (s : State) (n bits : Nat) : (acceptedCtx s n bits).tray = n ∧
    (acceptedCtx s n bits).k = (trayRun s n).serial ∧ (acceptedCtx s n bits).slot = trNext (trayRow s n) ∧
    (acceptedCtx s n bits).bits = bits ∧ (acceptedCtx s n bits).reqs = [] ∧ (acceptedCtx s n bits).result = none ∧
    (acceptedCtx s n bits).localWindows = [] ∧ ∀ h, (acceptedCtx s n bits).probe ≠ .granted h := by
  have hloan : ∀ h, loanCheck s bits ≠ .granted h := fun h => by
    unfold loanCheck
    dsimp only
    split
    · simp
    · split <;> simp
  unfold acceptedCtx
  dsimp only
  split
  · exact ⟨rfl, rfl, rfl, rfl, rfl, rfl, rfl, hloan⟩
  · exact ⟨rfl, rfl, rfl, rfl, rfl, rfl, rfl, fun h => by simp [newCtx]⟩

/-- The state with tray `n` at row `v` and run `x`, and one more slip. -/
def slipPlaced (s : State) (n v : Nat) (x : TrayRun) (c : SlipCtx) : State :=
  { setTrayRun (setRow s trayCn n v) n x with slips.ctxs := (setTrayRun (setRow s trayCn n v) n x).slips.ctxs ++ [c] }

theorem slipPlaced_ctxs (n v : Nat) (x : TrayRun) (c : SlipCtx) : (slipPlaced s n v x c).slips.ctxs = s.slips.ctxs ++ [c] := rfl

theorem slipPlaced_rest (n v : Nat) (x : TrayRun) (c : SlipCtx) :
    slipPlaced s n v x c = { s with slips := (slipPlaced s n v x c).slips, cat := (slipPlaced s n v x c).cat } := rfl

theorem trayRun_slipPlaced (n v : Nat) (x : TrayRun) (c : SlipCtx) : trayRun (slipPlaced s n v x c) n = x := by
  simp [trayRun, slipPlaced, setTrayRun, lookupT_insertT]

theorem getRow_slipPlaced (n v : Nat) (x : TrayRun) (c : SlipCtx) (d q : Nat) :
    getRow (slipPlaced s n v x c) d q = getRow (setRow s trayCn n v) d q := getRow_congr rfl rfl ..

theorem trayRow_slipPlaced (n v j : Nat) (x : TrayRun) (c : SlipCtx) :
    trayRow (slipPlaced s n v x c) j = if j = n then v else trayRow s j := by
  unfold trayRow
  rw [getRow_slipPlaced]
  split
  · next h => rw [h]; exact getRow_setRow_same ..
  · next h => exact getRow_setRow_ne _ _ (by unfold catKey; omega)

theorem storeFrame_slipPlaced {n : Nat} (hn : n < 64) (v : Nat) (x : TrayRun) (c : SlipCtx) :
    StoreFrame s (slipPlaced s n v x c) [trayCn] := fun d q hq hd =>
  (getRow_slipPlaced ..).trans (StoreFrame.setRow (.refl _) v (show n < 2 ^ 32 by omega) (by simp) d q hq hd)

theorem acceptSlip_eq (s : State) (n bits : Nat) : acceptSlip s n bits =
    slipPlaced s n (rowAccepted (trayRow s n)) { trayRun s n with serial := (trayRun s n).serial + 1 }
      (acceptedCtx s n bits) := rfl

/-- The state in which tray `n` has taken what its slot's read returned. -/
def readTaken (s : State) (n : Nat) : State := setTrayRun s n { trayRun s n with reading := false, returned := none }

theorem takeSlot_accepts {n : Nat} {bs : List Byte} (hret : (trayRun s n).returned = some (0, bs))
    (hon : trState (trayRow s n) = 1) (hs : silent s = false) (hturn : slTurn (numLE (bs.take 64)) = trTurn (trayRow s n)) :
    takeSlot s n = acceptServed (readTaken s n) n (numLE (bs.take 64)) := by
  have hs' : silent (readTaken s n) = false := hs
  unfold takeSlot
  rw [hret]
  dsimp only
  rw [if_neg (by decide), if_neg (by decide)]
  refine (if_neg ?_).trans (if_pos hturn)
  have hs'' : silent (setTrayRun s n { trayRun s n with reading := false, returned := none }) = false := hs
  simp [hon, hs'']

theorem trayRun_readTaken (n : Nat) : trayRun (readTaken s n) n = { trayRun s n with reading := false, returned := none } :=
  trayRun_setTrayRun ..

theorem trayRow_readTaken (n j : Nat) : trayRow (readTaken s n) j = trayRow s j := getRow_congr rfl rfl ..

theorem does_slotReadComplete {n : Nat} {bs : List Byte} (hrun : unitsRun s 2 = true) (hn : n < 64)
    (hret : (trayRun s n).returned = some (0, bs)) (hon : trState (trayRow s n) = 1) (hs : silent s = false)
    (hturn : slTurn (numLE (bs.take 64)) = trTurn (trayRow s n)) (hup : partitionDown s (trayPartition s n) = false) :
    Does (exec (.slotReadComplete n) s) fun u =>
      (∃ c, u.slips.ctxs = s.slips.ctxs ++ [c] ∧ c.tray = n ∧ c.k = (trayRun s n).serial ∧
        c.slot = trNext (trayRow s n) ∧ c.bits = numLE (bs.take 64) ∧ c.reqs = [] ∧ c.result = none) ∧
      trNext (trayRow u n) = (trNext (trayRow s n) + 1) % trSize (trayRow s n) % 2 ^ 16 ∧
      trTurn (trayRow u n) = (fld (trayRow s n) 127 64 + 1) / trSize (trayRow s n) % 255 + 1 ∧
      fld (trayRow u n) 127 64 = (fld (trayRow s n) 127 64 + 1) % 2 ^ 64 ∧
      trayRun u n = { reading := false, returned := none, serial := (trayRun s n).serial + 1 } ∧
      (∀ j, j < 64 → j ≠ n → trayRow u j = trayRow s j) ∧ StoreFrame s u [trayCn] ∧
      u = { s with slips := u.slips, cat := u.cat } := by
  obtain ⟨b, hb⟩ : ∃ b, b = numLE (bs.take 64) := ⟨_, rfl⟩
  have hacts : takeSlot s n = acceptSlip (readTaken s n) n b := by
    have hup' : partitionDown (readTaken s n) (trayPartition (readTaken s n) n) = false := hup
    rw [hb, takeSlot_accepts hret hon hs hturn]
    unfold acceptServed
    dsimp only
    rw [hup']
    rfl
  obtain ⟨htray, hk, hslot, hbits, hreqs, hresult, -, -⟩ := acceptedCtx_fields (readTaken s n) n b
  rw [trayRun_readTaken] at hk
  rw [trayRow_readTaken] at hslot
  obtain ⟨h1, h2, h3⟩ := rowAccepted_fields (trayRow s n)
  have hrow : ∀ j, trayRow (acceptSlip (readTaken s n) n b) j = if j = n then rowAccepted (trayRow s n) else trayRow s j :=
    fun j => by rw [acceptSlip_eq, trayRow_slipPlaced, trayRow_readTaken, trayRow_readTaken]
  have hframe : StoreFrame s (readTaken s n) [trayCn] := .of_cat rfl rfl
  rw [← hb]
  refine does_whenRuns hrun hacts ⟨⟨acceptedCtx (readTaken s n) n b, ?_, htray, hk, hslot, hbits, hreqs, hresult⟩, ?_, ?_,
    ?_, ?_, fun j _ hne => ?_, ?_, ?_⟩
  · rw [acceptSlip_eq, slipPlaced_ctxs]
    rfl
  · rw [hrow, if_pos rfl, h1]
  · rw [hrow, if_pos rfl, h2]
  · rw [hrow, if_pos rfl, h3]
  · rw [acceptSlip_eq, trayRun_slipPlaced, trayRun_readTaken]
  · rw [hrow, if_neg hne]
  · rw [acceptSlip_eq]
    exact hframe.trans (storeFrame_slipPlaced hn _ _ _)
  · rw [acceptSlip_eq, slipPlaced_rest]
    rfl

/-- A slip that a tray in a partition under reset accepts ends at once. -/
theorem does_slotReadComplete_stale {n : Nat} {bs : List Byte} (hrun : unitsRun s 2 = true) (hn : n < 64)
    (hret : (trayRun s n).returned = some (0, bs)) (hon : trState (trayRow s n) = 1) (hs : silent s = false)
    (hturn : slTurn (numLE (bs.take 64)) = trTurn (trayRow s n)) (hdown : partitionDown s (trayPartition s n) = true)
    (hnew : ctx? s n (trayRun s n).serial = none) : Does (exec (.slotReadComplete n) s) fun u =>
      (∃ c r, ctx? u n (trayRun s n).serial = some c ∧ c.bits = numLE (bs.take 64) ∧ c.result = some r ∧
        r.status = stStale ∧ r.bytes = 0) ∧
      trNext (trayRow u n) = (trNext (trayRow s n) + 1) % trSize (trayRow s n) % 2 ^ 16 := by
  obtain ⟨b, hb⟩ : ∃ b, b = numLE (bs.take 64) := ⟨_, rfl⟩
  obtain ⟨a, ha⟩ : ∃ a, a = acceptSlip (readTaken s n) n b := ⟨_, rfl⟩
  obtain ⟨c, hc⟩ : ∃ c, c = acceptedCtx (readTaken s n) n b := ⟨_, rfl⟩
  obtain ⟨htray, hk, -, hbits, hreqs, hresult, hwin, hprobe⟩ := acceptedCtx_fields (readTaken s n) n b
  rw [← hc] at htray hk hbits hreqs hresult hwin hprobe
  rw [trayRun_readTaken] at hk
  have hctxs : a.slips.ctxs = s.slips.ctxs ++ [c] := by
    rw [ha, acceptSlip_eq, slipPlaced_ctxs, hc]
    rfl
  have hfind : ctx? a n (trayRun s n).serial = some c := by
    unfold ctx? at hnew ⊢
    rw [hctxs, List.find?_append, hnew]
    simp [htray, hk]
  have hforce : forceSlip a c stStale = completeSlip a c { status := stStale, offset := 0, bytes := 0, side := 0 } := by
    unfold forceSlip
    rw [hresult]
    dsimp only
    rw [hreqs]
    rfl
  obtain ⟨v, hv, he⟩ := completeSlip_unbegun (s := a) (r := { status := stStale, offset := 0, bytes := 0, side := 0 }) hwin
    hprobe rfl
  have hacts : takeSlot s n = completeSlip a c { status := stStale, offset := 0, bytes := 0, side := 0 } := by
    have hdown' : partitionDown (readTaken s n) (trayPartition (readTaken s n) n) = true := hdown
    have hserial : (trayRun (readTaken s n) n).serial = (trayRun s n).serial := by rw [trayRun_readTaken]
    rw [takeSlot_accepts hret hon hs hturn, ← hb, ← hforce]
    unfold acceptServed
    dsimp only
    rw [if_pos hdown', hserial, ← ha, hfind]
  rw [he] at hacts
  obtain ⟨h1, -, -⟩ := rowAccepted_fields (trayRow s n)
  have hfindv : ctx? v n (trayRun s n).serial = some c := by
    unfold ctx? at hfind ⊢
    rw [hv.slips]
    exact hfind
  rw [← hb]
  refine does_whenRuns hrun hacts ⟨?_, ?_⟩
  · rw [htray, show c.k = (trayRun s n).serial from hk]
    exact ⟨_, _, ctx?_updCtx hfindv fun c => ⟨rfl, rfl⟩, hbits, rfl, rfl, rfl⟩
  · have hrow : trayRow a n = rowAccepted (trayRow s n) := by
      rw [ha, acceptSlip_eq, trayRow_slipPlaced, trayRow_readTaken, if_pos rfl]
    refine (congrArg trNext ?_).trans h1
    exact (getRow_congr rfl rfl ..).trans ((hv.rows n (by omega)).trans hrow)

/-! ### Admission of the local extent -/

/-- What admission's answer makes of a slip's context. -/
def admittedCtx (r : Admitted) (c : SlipCtx) : SlipCtx :=
  match r with
  | .pass uses => { c with localDone := true, localWindows := uses }
  | .refuse st off => { c with localDone := true, localRefusal := some (st, off) }

theorem admittedCtx_fields (r : Admitted) (c : SlipCtx) : (admittedCtx r c).tray = c.tray ∧ (admittedCtx r c).k = c.k ∧
    (admittedCtx r c).bits = c.bits ∧ (admittedCtx r c).localDone = true := by
  cases r <;> exact ⟨rfl, rfl, rfl, rfl⟩

theorem offerAdmitted_untagged {n k : Nat} {c : SlipCtx} (h : ctx? s n k = some c) (ht : slTag c.bits = 0) :
    offerAdmitted s n k = s := by
  have hoffer : offerSlip s n k c.bits = s := by
    unfold offerSlip
    exact if_pos ht
  unfold offerAdmitted
  rw [h]
  dsimp only
  rw [hoffer, ite_self]

theorem admissionDone_turn {v : State} {n k : Nat} {c : SlipCtx} {r : Admitted}
    (hfind : (trayCtxs s n).find? waitsAdmission = some c) (hctx : ctx? v n k = some c) (hk : c.k = k)
    (hturn : admissionTurn s = some n) (htag : slTag c.bits = 0)
    (ha : admission { s with slips.lastTray := n } (slLocal c.bits).spans
        { request := false, source := ownId s, mask := if slPull c.bits then rightWrite else rightRead } = (v, r)) :
    admissionDone s n k = updCtx v n k (admittedCtx r) := by
  obtain ⟨-, -, hbits, -⟩ := admittedCtx_fields r c
  have hnew : ctx? (updCtx v n k (admittedCtx r)) n k = some (admittedCtx r c) :=
    ctx?_updCtx hctx fun c => ⟨(admittedCtx_fields r c).1, (admittedCtx_fields r c).2.1⟩
  have hown : ownId { s with slips.lastTray := n } = ownId s := rfl
  unfold admissionDone
  rw [hfind]
  dsimp only
  rw [if_neg (by simp [hk, hturn]), hown, ha]
  refine Eq.trans ?_ (offerAdmitted_untagged hnew (by rw [hbits]; exact htag))
  cases r <;> rfl

theorem does_slipAdmissionDone {v : State} {n k : Nat} {c : SlipCtx} {r : Admitted} (hrun : unitsRun s 2 = true)
    (hfind : (trayCtxs s n).find? waitsAdmission = some c) (hctx : ctx? s n k = some c) (hk : c.k = k)
    (hturn : admissionTurn s = some n) (htag : slTag c.bits = 0)
    (ha : admission { s with slips.lastTray := n } (slLocal c.bits).spans
        { request := false, source := ownId s, mask := if slPull c.bits then rightWrite else rightRead } = (v, r)) :
    Does (exec (.slipAdmissionDone n k) s) fun u =>
      ∃ w : State, ctx? w n k = some (admittedCtx r c) ∧
      w = { v with slips.ctxs := w.slips.ctxs } ∧ u = serveProbes w := by
  have hv : ctx? v n k = some c := by
    have hadm := admitting_admission (s := { s with slips.lastTray := n }) (slLocal c.bits).spans
      { request := false, source := ownId s, mask := if slPull c.bits then rightWrite else rightRead }
    rw [ha] at hadm
    rw [show v = _ from hadm]
    exact hctx
  obtain ⟨-, -, -, hdone⟩ := admittedCtx_fields r c
  have hnew : ctx? (updCtx v n k (admittedCtx r)) n k = some (admittedCtx r c) :=
    ctx?_updCtx hv fun c => ⟨(admittedCtx_fields r c).1, (admittedCtx_fields r c).2.1⟩
  have hwaits : c.localDone = false := by
    have := List.find?_some hfind
    simp only [waitsAdmission, Bool.and_eq_true, Bool.not_eq_true'] at this
    exact this.1.1
  have hacts : checkerFreed s n k = serveProbes (updCtx v n k (admittedCtx r)) := by
    unfold checkerFreed
    rw [admissionDone_turn hfind hv hk hturn htag ha]
    dsimp only
    rw [hnew, hctx]
    simp [hdone, hwaits]
  refine does_whenRuns hrun hacts ⟨updCtx v n k (admittedCtx r), hnew, rfl, rfl⟩

end

/-- Settles O32: the poll's one read, the acceptance of a slip with the tray's turn, and the answer of admission. -/
theorem slipsAreFetchedAndAdmitted : Obligations.SlipsAreFetchedAndAdmitted := by
  unfold Obligations.SlipsAreFetchedAndAdmitted
  exact ⟨fun s n m hrun _ hserved hon hread hret hroom hs hm _ hl =>
      does_traySlotPoll hrun hserved hon hread hret hroom hs hm hl,
    fun s n bs => does_slotReadComplete_stale, fun s n bs => does_slotReadComplete,
    fun s v n k c r hrun hfind hctx hk hturn htag ha =>
      (does_slipAdmissionDone hrun hfind hctx hk hturn htag ha).mono fun u ⟨w, hw, h⟩ =>
        ⟨w, hw.trans (by cases r <;> rfl), h⟩⟩

end Sys2Proof.Machine
end

section
/-! Packets and loan data for others, at the ports they leave by (R171, R174, R176, R179, R183). -/

namespace Sys2Proof.Machine

section
variable {s t v u : State} {p q : Nat} {k : Packet}

/-! ### A packet joins a queue -/

/-- What a queue holds, but for the places of those that wait in it. -/
def queued (s : State) (q j : Nat) : List (Packet × Nat × Option Nat) := (queueOf s q j).map fun d => (d.k, d.origin, d.entry)

theorem map_settledQueue (places cycle : Nat) (ds : List Desc) :
    (settledQueue places cycle ds).map (fun d => (d.k, d.origin, d.entry)) = ds.map fun d => (d.k, d.origin, d.entry) := by
  unfold settledQueue
  rw [List.map_append, List.map_map]
  exact (List.map_append ..).symm.trans (congrArg _ (List.take_append_drop ..))

theorem queueOf_setQueue (hl : s.ports.length = 8) (hq : q < 8) (j : Nat) {ds : List Desc} (hd : ds ≠ []) :
    queueOf (setQueue s q j ds) q j = settledQueue (placesOf (port s q) j) s.time.cycles ds := by
  have hne : ds.isEmpty = false := by cases ds; exact absurd rfl hd; rfl
  have hport : port (setQueue s q j ds) q = { port s q with
      queues := insertT (port s q).queues j (settledQueue (placesOf (port s q) j) s.time.cycles ds) } := by
    unfold setQueue
    rw [port_setPort_same _ (by omega), hne]
    rfl
  unfold queueOf
  rw [hport]
  dsimp only
  rw [lookupT_insertT, if_pos rfl]
  rfl

theorem queued_joinQueue (hl : s.ports.length = 8) (hq : q < 8) (o : Nat) (e : Option Nat) (rx : Option RxPlace) :
    queued (joinQueue s q k o e rx) q (queueFor k o) = queued s q (queueFor k o) ++ [(k, o, e)] := by
  have hset := queueOf_setQueue hl hq (queueFor k o) (ds := queueOf s q (queueFor k o) ++
    [{ k := k, origin := o, entry := e, joined := none, rx := rx }]) (by simp)
  have hlen : (setQueue s q (queueFor k o) (queueOf s q (queueFor k o) ++
    [{ k := k, origin := o, entry := e, joined := none, rx := rx }])).ports.length = 8 := by
    unfold setQueue setPort
    rw [← hl]
    exact length_modifyNth ..
  have hlt : q < (setQueue s q (queueFor k o) (queueOf s q (queueFor k o) ++
      [{ k := k, origin := o, entry := e, joined := none, rx := rx }])).ports.length := hlen ▸ hq
  have hjoin : queueOf (joinQueue s q k o e rx) q (queueFor k o) = queueOf (setQueue s q (queueFor k o)
      (queueOf s q (queueFor k o) ++ [{ k := k, origin := o, entry := e, joined := none, rx := rx }])) q (queueFor k o) := by
    unfold joinQueue
    dsimp only
    unfold queueOf at hlt ⊢
    rw [port_setPort_same _ hlt]
  unfold queued
  rw [hjoin, hset, map_settledQueue, List.map_append]
  rfl

/-- The same in a state `a` with the ports of `s`, where the queue is named by another packet `j`. -/
theorem queued_joinQueue_of {a : State} {j : Packet} {o : Nat} (hj : queueFor j o = queueFor k o) (hp : a.ports = s.ports)
    (hl : s.ports.length = 8) (hq : q < 8) (e : Option Nat) (rx : Option RxPlace) :
    queued (joinQueue a q j o e rx) q (queueFor k o) = queued s q (queueFor k o) ++ [(j, o, e)] := by
  have h := queued_joinQueue (s := a) (k := j) (hp ▸ hl) hq o e rx
  have hold : queued a q (queueFor k o) = queued s q (queueFor k o) := by
    unfold queued queueOf port
    rw [hp]
  rw [hj, hold] at h
  exact h

theorem joinQueue_rest (o : Nat) (e : Option Nat) (rx : Option RxPlace) :
    joinQueue s q k o e rx = { s with ports := (joinQueue s q k o e rx).ports } := rfl

theorem getRow_joinQueue (o : Nat) (e : Option Nat) (rx : Option RxPlace) (c r : Nat) :
    getRow (joinQueue s q k o e rx) c r = getRow s c r := getRow_congr rfl rfl ..

/-! ### What every hop does first -/

theorem completed_of_whole (h : cutOff k = false) : completed k = k := by
  unfold completed
  rw [h]
  rfl

theorem not_beingReceived (h : cutOff k = false) : beingReceived s p k = false := by
  unfold beingReceived
  simp [h]

theorem hopCopy_whole (h : cutOff k = false) : hopCopy s p k = k := by
  unfold hopCopy
  rw [completed_of_whole h, ite_self]

theorem leaveChannel_whole (h : cutOff k = false) : leaveChannel s p k = (rxPlace s p k, dropRx s p k) := by
  unfold leaveChannel
  rw [not_beingReceived h]
  rfl

theorem mustBeWhole_whole (h : cutOff k = false) (k' : Packet) : mustBeWhole s p k k' = false := by
  unfold mustBeWhole
  rw [not_beingReceived h]
  rfl

theorem endedShort_whole (h : cutOff k = false) : endedShort s p k = false := by
  unfold endedShort
  rw [h]
  rfl

theorem queueFull_count (cn j : Nat) : queueFull (count64 s cn) q j = queueFull s q j := rfl

theorem portTakes_count {cn : Nat} (h : ∀ p, ofPort p 0x2000_01 ≠ cn) : portTakes (count64 s cn) q = portTakes s q := by
  have hl : linkState (count64 s cn) q = linkState s q := get_count64_ne _ (h q)
  unfold portTakes
  rw [hl]

theorem Sends.forwards (h : Sends s t) : forwards t = forwards s := by
  have hp : t.power = s.power := congrArg (·.power) h.rest
  have hm : t.mgmt.fromRetired = s.mgmt.fromRetired := congrArg (·.mgmt.fromRetired) h.rest
  have hc : get t 0x1100_00 = get s 0x1100_00 := h.store _ _ (by decide) (by decide)
  have hd : get t 0xE000_02 = get s 0xE000_02 := h.store _ _ (by decide) (by decide)
  unfold Machine.forwards switchOn held domainOn silent retired commission
  rw [hp, hm, hc, hd]

theorem policePassing_fields {k' : Packet} (h : policePassing t p k = (k', v)) :
    k' = { k with colour := k'.colour } ∧ k.colour ≤ k'.colour ∧ Sends t v := by
  have hpolice : ∀ n, n < 2 ^ 32 → (police t n k).1 = { k with colour := (police t n k).1.colour } ∧
      k.colour ≤ (police t n k).1.colour ∧ Sends t (police t n k).2 := fun n hn => by
    refine ⟨?_, ?_, sends_police hn k⟩
    · unfold police
      dsimp only
      split <;> rfl
    · unfold police
      dsimp only
      split
      · exact le_rfl
      · exact le_max_right ..
  unfold policePassing at h
  split at h
  · split at h
    · next b _ =>
      have hn : fld b 95 88 < 2 ^ 32 := by unfold fld; omega
      obtain ⟨h1, h2, h3⟩ := hpolice _ hn
      rw [h] at h1 h2 h3
      exact ⟨h1, h2, h3⟩
    · cases h; exact ⟨rfl, le_rfl, .refl _⟩
  · cases h; exact ⟨rfl, le_rfl, .refl _⟩

theorem notAborted_of_go {j : Packet} (h : sourceChecks s p j = .go t) : j.abort = false := by
  cases ha : j.abort with
  | false => rfl
  | true =>
    unfold sourceChecks at h
    rw [ha] at h
    cases h

/-! ### Passing through -/

/-- The state in which a packet leaves by its egress, on its channel. -/
def passedOut (s : State) (p q : Nat) (k : Packet) (place : Option RxPlace) : State :=
  let a := if (datelineVc s q k.vc).2 then count64 s 0x4000_03 else s
  joinQueue (count64 a 0x4000_02) q { k with vc := (datelineVc s q k.vc).1 } p none place

theorem passArrives_out {k' : Packet} (hon : switchOn s = true) (hby : passesBy s k = true) (hw : cutOff k = false)
    (hgo : sourceChecks (odc (dropRx s p k) 0x01 (some p) (some k) 1) p k = .go t) (hf : forwards t = true)
    (hp : policePassing t p k = (k', v)) (hq : egressOf v k.src k.dst = some q) (ht : portTakes v q = true)
    (hroom : queueFull v q (queueFor { k' with vc := (datelineVc v q k'.vc).1 } p) = false) :
    passArrives s p k = passedOut v p q k' (rxPlace s p k) := by
  obtain ⟨hk', -, hsends⟩ := policePassing_fields hp
  obtain ⟨c, hc⟩ : ∃ c, c = k'.colour := ⟨_, rfl⟩
  rw [← hc] at hk'
  subst hk'
  have hcount : ∀ {cn} (_ : cn ∈ [0x4000_02, 0x4000_03]) (j : Nat), ofPort j 0x2000_01 ≠ cn := fun h j => by
    simp only [List.mem_cons, List.not_mem_nil, or_false] at h
    unfold ofPort
    omega
  obtain ⟨a, ha⟩ : ∃ a, a = if (datelineVc v q k.vc).2 then count64 v 0x4000_03 else v := ⟨_, rfl⟩
  have hfa : forwards a = true := by
    refine (Sends.forwards ?_).trans (hsends.forwards.trans hf)
    rw [ha]
    exact sends_ite (fun _ => sends_count64 (by simp [sendCns])) fun _ => .refl v
  have hta : portTakes a q = true := by
    rw [ha]
    split
    · rw [portTakes_count (hcount (by simp)), ht]
    · exact ht
  have hra : queueFull a q (queueFor { k with vc := (datelineVc v q k.vc).1, colour := c } p) = false := by
    rw [ha]
    split
    · exact hroom
    · exact hroom
  obtain ⟨x, hx⟩ : ∃ x : Packet, x = { k with vc := (datelineVc v q k.vc).1, colour := c } := ⟨_, rfl⟩
  rw [← hx] at hra
  have hpass : passOn a { port := p, vc := k.vc, k := x, egress := q, loan := none, rx := rxPlace s p k } =
      joinQueue (count64 a 0x4000_02) q x p none (rxPlace s p k) := by
    unfold passOn
    rw [hfa, hra]
    simp only [Bool.not_true, Bool.false_eq_true, if_false, Bool.and_false]
    unfold passOut
    exact if_pos hta
  unfold passArrives
  rw [hopCopy_whole hw]
  dsimp only
  rw [hon, hby, if_neg (by decide), mustBeWhole_whole hw, if_neg (by decide), leaveChannel_whole hw]
  dsimp only
  rw [hgo]
  dsimp only
  rw [hf, if_neg (by decide), hp]
  dsimp only
  rw [hq]
  dsimp only
  simp only [endedShort_whole hw, not_beingReceived hw, Bool.false_eq_true, if_false, ht, Bool.and_true]
  show passOn (if (datelineVc v q k.vc).2 then count64 v 0x4000_03 else v) _ = _
  rw [← ha]
  refine Eq.trans ?_ (hpass.trans ?_)
  · rw [hx]
  · rw [ha, hx]
    rfl

theorem does_passThrough {k' : Packet} (hon : switchOn s = true) (hport : p < portsOf s.part)
    (hfirst : packetWaits s p k = false) (hby : passesBy s k = true) (hw : cutOff k = false)
    (hgo : sourceChecks (odc (dropRx s p k) 0x01 (some p) (some k) 1) p k = .go t) (hf : forwards t = true)
    (hp : policePassing t p k = (k', v)) (hq : egressOf v k.src k.dst = some q) (ht : portTakes v q = true)
    (hroom : queueFull v q (queueFor { k' with vc := (datelineVc v q k'.vc).1 } p) = false) (hl : v.ports.length = 8) :
    Does (exec (.passThrough p k) s) fun u =>
      k' = { k with colour := k'.colour } ∧ k.colour ≤ k'.colour ∧
      queued u q (queueFor { k' with vc := (datelineVc v q k'.vc).1 } p) =
        queued v q (queueFor { k' with vc := (datelineVc v q k'.vc).1 } p) ++
          [({ k' with vc := (datelineVc v q k'.vc).1 }, p, none)] ∧
      get u 0x4000_02 = (get v 0x4000_02 + 1) % 2 ^ 64 ∧ StoreFrame v u [0x4000_02, 0x4000_03] ∧
      u = { v with ports := u.ports, cat := u.cat } := by
  obtain ⟨h1, h2, -⟩ := policePassing_fields hp
  have hacts : packetArrives s p k 0 = passedOut v p q k' (rxPlace s p k) := by
    rw [← passArrives_out hon hby hw hgo hf hp hq ht hroom]
    unfold packetArrives
    rw [hon, hfirst]
    rw [if_neg (by simp; omega), if_neg (by decide)]
    unfold packetTaken
    exact if_pos hby
  obtain ⟨a, ha⟩ : ∃ a, a = if (datelineVc v q k'.vc).2 then count64 v 0x4000_03 else v := ⟨_, rfl⟩
  have hout : passedOut v p q k' (rxPlace s p k) =
      joinQueue (count64 a 0x4000_02) q { k' with vc := (datelineVc v q k'.vc).1 } p none (rxPlace s p k) := by
    rw [ha]; rfl
  have hrest : a = { v with cat := a.cat } := by rw [ha]; split <;> rfl
  have hstore : StoreFrame v a [0x4000_03] := by
    rw [ha]
    split
    · exact (StoreFrame.refl _).set _ (by simp)
    · exact .refl _
  have hlen : (count64 a 0x4000_02).ports.length = 8 := by
    show a.ports.length = 8
    rw [hrest]
    exact hl
  have hold : ∀ j, queued (count64 a 0x4000_02) q j = queued v q j := fun j => by
    show queued a q j = _
    rw [hrest]
    rfl
  refine ⟨_, congrArg (fun t => Host.Outcome.next (settle t)) hacts, h1, h2, ?_, ?_, ?_, ?_⟩
  · rw [hout, queued_joinQueue hlen (egressOf_lt hq), hold]
  · rw [hout]
    refine (getRow_congr rfl rfl ..).trans ((get_count64_same ..).trans ?_)
    rw [show get a 0x4000_02 = get v 0x4000_02 from hstore _ _ (by decide) (by decide)]
  · rw [hout]
    refine (hstore.mono (by simp)).trans (StoreFrame.trans ((StoreFrame.refl _).set _ ?_) (.of_cat rfl rfl))
    simp
  · have hcount : StoreOnly v (count64 a 0x4000_02) := StoreOnly.trans hrest (storeOnly_set ..)
    rw [hout, joinQueue_rest]
    exact congrArg (fun x : State => ({ x with ports := _ } : State)) hcount

/-! ### LOAN_DATA at a hop of its loan -/

theorem namedAt_vc (s : State) (q : Nat) (k : Packet) : (namedAt s q k).vc = k.vc := by
  unfold namedAt
  split <;> rfl

/-- What comes by a port waits in a queue of that port, whatever its source. -/
theorem queueFor_arrival {j : Packet} (hp : p < 8) (h : j.vc = k.vc) : queueFor j p = queueFor k p := by
  unfold queueFor
  simp only [h, hp, if_true]

/-- One more packet is counted at a hop of loan `n`. -/
def loanCounted (s : State) (n : Nat) : State := setF s 0x6400_00 n 63 0 (getF s 0x6400_00 n 63 0 + 1)

theorem loanCounted_rest (n : Nat) : StoreOnly s (loanCounted s n) := setF_eq ..

theorem loanCounted_store {n : Nat} (hn : n < 2 ^ 32) : StoreFrame s (loanCounted s n) [0x6400_00] := storeFrame_setF _ _ _ _ hn

theorem getF_loanCounted (n : Nat) :
    getF (loanCounted s n) 0x6400_00 n 63 0 = (getF s 0x6400_00 n 63 0 + 1) % 2 ^ 64 := by
  unfold loanCounted
  generalize getF s 0x6400_00 n 63 0 + 1 = x
  exact getF_setF_same (lo := 0) (hi := 63) 0x6400_00 n x (by decide)

/-- The state in which LOAN_DATA of loan `n` leaves by its egress, and is counted. -/
def loanPassed (s : State) (n p q : Nat) (k : Packet) (place : Option RxPlace) : State :=
  joinQueue (loanCounted s n) q (namedAt s q k) p none place

theorem loanArrives_hop {n : Nat} (hw : cutOff k = false)
    (hgo : sourceChecks (odc (dropRx s p k) 0x01 (some p) (some k) 1) p k = .go t) (hn : n = handleM k)
    (hm : loanMatches s p k 1 = true) (hf : forwards t = true) (hd : (k.postHold && loanDiscards t n) = false)
    (ht : portTakes t (loanEgress t n) = true) (hroom : queueFull t (loanEgress t n) (queueFor k p) = false) :
    loanArrives s p k = loanPassed t n p (loanEgress t n) k (rxPlace s p k) := by
  have hpass : passOn t { port := p, vc := k.vc, k := k, egress := loanEgress t n, loan := some n, rx := rxPlace s p k } =
      loanPassed t n p (loanEgress t n) k (rxPlace s p k) := by
    unfold passOn
    rw [hf, hroom]
    simp only [Bool.not_true, Bool.false_eq_true, if_false, Bool.and_false]
    unfold loanForward
    dsimp only
    rw [ht, if_neg (by simp)]
    rfl
  subst hn
  unfold loanArrives
  dsimp only
  rw [hm, if_pos rfl, hopCopy_whole hw, not_beingReceived hw, Bool.false_and, if_neg (by decide), leaveChannel_whole hw]
  dsimp only
  rw [hgo]
  dsimp only
  rw [if_pos rfl, hf, if_neg (by decide), hd, if_neg (by decide), endedShort_whole hw, if_neg (by decide)]
  exact hpass

theorem does_loanData {n : Nat} (hop : k.opcode = opLoanData) (hon : switchOn s = true) (hport : p < portsOf s.part)
    (hfirst : packetWaits s p k = false) (hw : cutOff k = false)
    (hgo : sourceChecks (odc (dropRx s p k) 0x01 (some p) (some k) 1) p k = .go t) (hn : n = handleM k)
    (hq : q = loanEgress t n) (hm : loanMatches s p k 1 = true) (hf : forwards t = true)
    (hd : (k.postHold && loanDiscards t n) = false) (ht : portTakes t q = true)
    (hroom : queueFull t q (queueFor k p) = false) (hlt : q < 8) (hl : t.ports.length = 8) :
    Does (exec (.loanData p k) s) fun u =>
      getF u 0x6400_00 n 63 0 = (getF t 0x6400_00 n 63 0 + 1) % 2 ^ 64 ∧
      queued u q (queueFor k p) = queued t q (queueFor k p) ++ [(namedAt t q k, p, none)] ∧
      StoreFrame t u [0x6400_00] ∧ u = { t with ports := u.ports, cat := u.cat } := by
  have hp : p < 8 := hport.trans_le (portsOf_le _)
  have hby : passesBy s k = false := by unfold passesBy; simp [hop]
  have hj : ({ k with opcode := opLoanData } : Packet) = k := by rw [← hop]
  subst hq
  have hacts : packetArrives s p { k with opcode := opLoanData } 0 = loanPassed t n p (loanEgress t n) k (rxPlace s p k) := by
    rw [hj, ← loanArrives_hop hw hgo hn hm hf hd ht hroom]
    unfold packetArrives
    rw [hon, hfirst]
    rw [if_neg (by simp; omega), if_neg (by decide)]
    unfold packetTaken
    rw [hby, if_neg (by decide), if_pos hop, if_pos hp]
  have hqf : queueFor (namedAt t (loanEgress t n) k) p = queueFor k p := queueFor_arrival hp (namedAt_vc ..)
  have hn' : n < 2 ^ 32 := by rw [hn]; unfold handleM fld; omega
  have hcount := getF_loanCounted (s := t) n
  have hstore := loanCounted_store (s := t) hn'
  have hc : StoreOnly t (loanCounted t n) := loanCounted_rest n
  unfold loanPassed at hacts
  generalize loanCounted t n = a at hacts hcount hstore hc
  have hce : a = { t with cat := a.cat } := hc
  have hports : a.ports = t.ports := by rw [hce]
  have hjoin := queued_joinQueue_of hqf hports hl hlt none (rxPlace s p k)
  refine ⟨_, congrArg (fun t => Host.Outcome.next (settle t)) hacts, ?_, hjoin, ?_, ?_⟩
  · unfold getF
    rw [getRow_joinQueue]
    exact hcount
  · exact fun c r hr hc => (getRow_joinQueue ..).trans (hstore c r hr hc)
  · rw [joinQueue_rest]
    exact congrArg (fun x : State => ({ x with ports := _ } : State)) hc

end

/-- Settles O24: a whole packet that passes every hop's checks joins its egress queue, by its route or by its loan. -/
theorem trafficPassesThrough : Obligations.TrafficPassesThrough := by
  unfold Obligations.TrafficPassesThrough
  exact ⟨fun s t v p q k k' => does_passThrough, fun s t p k n q => does_loanData⟩

end Sys2Proof.Machine
end

section
/-! Gate tokens count, and contributions enter their tile (R123, R133, R134, R152). -/

namespace Sys2Proof.Machine

section
variable {s t u : State} {p e n i : Nat} {k : Packet} {y : Tile}

/-! ### Where a packet is admitted -/

theorem gateOf_lt {id : Nat} (h : gateOf s id = some e) : e < 2 ^ 32 := by
  unfold gateOf at h
  split at h
  · next hf => cases h; exact rowsOf_lt (List.mem_of_find?_eq_some hf)
  · cases h

theorem stageOf_lt {id : Nat} (h : stageOf s id = some (e, n)) : e < 2 ^ 32 ∧ n < 4 := by
  unfold stageOf at h
  obtain ⟨x, hx, hf⟩ := List.exists_of_findSome?_eq_some h
  have hmem := (List.mem_filter.mp hx).1
  split at hf
  · next hk =>
    cases hf
    have hn := (mem_upFrom.mp (List.mem_of_find?_eq_some hk)).2
    refine ⟨rowsOf_lt hmem, ?_⟩
    unfold ceStages fld at hn
    omega
  · cases hf

theorem collAdmit_gate (h : collAdmit s k = .gate e) : e < 2 ^ 32 ∧ elementC k ≤ 31 := by
  unfold collAdmit at h
  dsimp only at h
  split at h
  · split at h <;> cases h
  · next hg =>
    split at h
    · next hc =>
      cases h
      simp only [Bool.and_eq_true, decide_eq_true_eq] at hc
      exact ⟨gateOf_lt hg, hc.2⟩
    · cases h
  · cases h

theorem collAdmit_stage (h : collAdmit s k = .stage e n) : e < 2 ^ 32 ∧ n < 4 := by
  unfold collAdmit at h
  dsimp only at h
  split at h
  · next hs =>
    split at h
    · cases h; exact stageOf_lt hs
    · cases h
  · split at h <;> cases h
  · cases h

theorem requestActs_contrib (h : k.opcode = opContrib ∨ k.opcode = opContribLong) :
    requestActs s p k 0 = contribArrives s p k := by
  unfold requestActs
  rcases h with h | h <;> rw [h] <;> rfl

/-! ### Gate tokens -/

/-- One more token is counted at gate `g` of an entry. -/
theorem gateRaise_counts {g : Nat} (he : e < 2 ^ 32) : gateCount (gateRaise s e g) e g = (gateCount s e g + 1) % 2 ^ 32 ∧
    get (gateRaise s e g) 0x7110_04 = (get s 0x7110_04 + 1) % 2 ^ 64 ∧ StoreFrame s (gateRaise s e g) [gateCn, 0x7110_04] := by
  unfold gateRaise
  obtain ⟨x, hx⟩ : ∃ x, x = gateCount s e g + 1 := ⟨_, rfl⟩
  rw [← hx]
  have hw : 32 * g + 31 + 1 - 32 * g = 32 := by omega
  have hset : getF (setF s gateCn e (32 * g + 31) (32 * g) x) gateCn e (32 * g + 31) (32 * g) = x % 2 ^ 32 :=
    (getF_setF_same gateCn e x (by omega)).trans (by rw [hw])
  have hstore := storeFrame_setF (s := s) gateCn (32 * g + 31) (32 * g) x he
  generalize setF s gateCn e (32 * g + 31) (32 * g) x = a at hset hstore
  refine ⟨?_, ?_, (hstore.mono (by simp)).trans ((StoreFrame.refl _).set _ (by simp))⟩
  · unfold gateCount getF
    rw [show getRow (count64 a 0x7110_04) gateCn e = getRow a gateCn e from getRow_set_ne _ _ he (by decide)]
    exact hset
  · rw [get_count64_same, show get a 0x7110_04 = get s 0x7110_04 from hstore _ _ (by decide) (by decide)]

theorem gateRaise_rest (g : Nat) : gateRaise s e g = { s with cat := (gateRaise s e g).cat } := rfl

theorem does_contrib_gate (hop : k.opcode = opContrib) (hck : Checked s p k t) (hr : contribRefused k = false)
    (ha : collAdmit t k = .gate e) : Does (exec (.contrib p k) s) fun u =>
      gateCount u e (elementC k) = (gateCount t e (elementC k) + 1) % 2 ^ 32 ∧
      get u 0x7110_04 = (get t 0x7110_04 + 1) % 2 ^ 64 ∧ StoreFrame t u [gateCn, 0x7110_04] ∧
      u = { t with cat := u.cat } := by
  obtain ⟨he, -⟩ := collAdmit_gate ha
  have hacts : requestActs t p k 0 = gateRaise t e (elementC k) := by
    rw [requestActs_contrib (.inl hop)]
    unfold contribArrives
    rw [hr, if_neg (by decide), ha]
  obtain ⟨h1, h2, h3⟩ := gateRaise_counts (s := t) (g := elementC k) he
  refine ⟨_, packetOut_checked hck (.inl (by rw [hop]; rfl)) (by rw [hop]; decide) hacts ?_ (by rw [← hop]), h1, h2, h3,
    gateRaise_rest _⟩
  rw [gateRaise_rest]

/-! ### Elements enter a tile -/

/-- `u` is `s` after elements have entered a tile: stages and waiting pieces are as before. -/
structure Feeds (s u : State) : Prop where
  rest : u = { s with coll := u.coll, host := u.host, cat := u.cat }
  waits : u.coll.waits = s.coll.waits
  rows : ∀ q, q < 2 ^ 35 → getRow u stageCn q = getRow s stageCn q

theorem Feeds.refl (s : State) : Feeds s s := ⟨rfl, rfl, fun _ _ => rfl⟩

theorem Feeds.trans (h : Feeds s t) (g : Feeds t u) : Feeds s u :=
  ⟨by rw [g.rest, h.rest], g.waits.trans h.waits, fun q hq => (g.rows q hq).trans (h.rows q hq)⟩

theorem Feeds.stRow (h : Feeds s u) (he : e < 2 ^ 32) (hn : n < 4) : stRow u e n = stRow s e n := h.rows _ (by omega)

theorem feeds_of_coll (h : u = { s with coll := u.coll }) (hw : u.coll.waits = s.coll.waits) : Feeds s u :=
  ⟨by rw [h], hw, fun _ _ => getRow_congr (by rw [h]) (by rw [h]) ..⟩

theorem feeds_of_host {x : HostSide} : Feeds s { s with host := x } := ⟨rfl, rfl, fun _ _ => rfl⟩

theorem feeds_updTile (f : Tile → Tile) : Feeds s (updTile s e n i f) := feeds_of_coll rfl rfl

theorem feeds_count {c w x : Nat} (h : c < 0x7102_00 ∨ 0x7110_00 ≤ c) : Feeds s (count s c w x) :=
  ⟨rfl, rfl, fun q hq => getRow_setRow_ne _ _ (by unfold catKey stageCn; omega)⟩

theorem feeds_odc (event m : Nat) (q : Option Nat) (j : Option Packet) : Feeds s (odc s event q j m) := by
  unfold odc
  split
  · refine foldl_through (R := Feeds) .refl .trans (fun t i _ => ?_) s
    split
    · exact feeds_count (by omega)
    · exact .refl t
  · exact .refl s

/-- One contribution added to its element. -/
def elemFed (y : Tile) (x : Nat × Addend) : Tile :=
  { y with elems := insertT y.elems x.1 (elemAdd ((lookupT y.elems x.1).getD { Elem.fresh with poison := y.lost }) x.2) }

theorem elemAdd_count (x : Elem) (c : Addend) : (elemAdd x c).count = x.count + 1 := by
  unfold elemAdd
  split <;> rfl

/-- The count of an element is the same whichever fresh element stands for it. -/
theorem count_getD_fresh (o : Option Elem) (b : Bool) :
    (o.getD { Elem.fresh with poison := b }).count = (o.getD Elem.fresh).count := by
  cases o <;> rfl

theorem feedElem_open {x : Nat × Addend} (hy : tileOf s e n i = some y)
    (hc : ((lookupT y.elems x.1).getD Elem.fresh).count + 1 < stExpected (stRow s e n)) :
    tileOf (feedElem s e n i x.1 x.2) e n i = some (elemFed y x) ∧ Feeds s (feedElem s e n i x.1 x.2) := by
  have hcount := count_getD_fresh (lookupT y.elems x.1) y.lost
  dsimp only at hcount
  obtain ⟨a, ha⟩ : ∃ a, a = if x.2.poison then s else count64 s 0x7000_01 := ⟨_, rfl⟩
  have hfeeds : Feeds s a := by
    rw [ha]
    split
    · exact .refl s
    · exact feeds_count (by omega)
  have htile : tileOf a e n i = some y := by
    rw [ha]
    split <;> exact hy
  have hfeed : feedElem s e n i x.1 x.2 = updTile a e n i fun z =>
      { z with elems := insertT z.elems x.1 (elemAdd ((lookupT y.elems x.1).getD { Elem.fresh with poison := y.lost }) x.2) } := by
    rw [ha]
    unfold feedElem
    rw [hy]
    dsimp only
    rw [if_neg (by simp only [Bool.and_eq_true, decide_eq_true_eq, not_and]; omega),
      if_neg (by simp only [Bool.and_eq_true, decide_eq_true_eq, not_and, elemAdd_count]; omega)]
  rw [hfeed]
  refine ⟨?_, hfeeds.trans (feeds_updTile _)⟩
  exact tileOf_updTile htile fun z => ⟨rfl, rfl, rfl⟩

theorem lookupT_elemFed (y : Tile) (x : Nat × Addend) (j : Nat) : lookupT (elemFed y x).elems j =
    if j = x.1 then some (elemAdd ((lookupT y.elems x.1).getD { Elem.fresh with poison := y.lost }) x.2)
    else lookupT y.elems j := lookupT_insertT ..

theorem feedElems_open {xs : List (Nat × Addend)} (he : e < 2 ^ 32) (hn : n < 4) (hnd : (xs.map (·.1)).Nodup)
    (hy : tileOf s e n i = some y)
    (hc : ∀ x ∈ xs, ((lookupT y.elems x.1).getD Elem.fresh).count + 1 < stExpected (stRow s e n)) :
    tileOf (forEach xs (fun s x => feedElem s e n i x.1 x.2) s) e n i = some (xs.foldl elemFed y) ∧
      Feeds s (forEach xs (fun s x => feedElem s e n i x.1 x.2) s) := by
  induction xs generalizing s y with
  | nil => exact ⟨hy, .refl s⟩
  | cons x xs ih =>
    obtain ⟨hx, hnd⟩ := List.nodup_cons.mp hnd
    obtain ⟨htile, hfeeds⟩ := feedElem_open hy (hc x (by simp))
    have hopen : ∀ z ∈ xs, ((lookupT (elemFed y x).elems z.1).getD Elem.fresh).count + 1 <
        stExpected (stRow (feedElem s e n i x.1 x.2) e n) := fun z hz => by
      have hne : z.1 ≠ x.1 := fun h => hx (List.mem_map.mpr ⟨z, hz, h⟩)
      rw [lookupT_elemFed, if_neg hne, hfeeds.stRow he hn]
      exact hc z (by simp [hz])
    obtain ⟨h1, h2⟩ := ih hnd htile hopen
    exact ⟨h1, hfeeds.trans h2⟩

theorem foldl_elemFed_fields (xs : List (Nat × Addend)) (y : Tile) :
    (xs.foldl elemFed y).phys = y.phys ∧ (xs.foldl elemFed y).long = y.long ∧ (xs.foldl elemFed y).lost = y.lost := by
  induction xs generalizing y with
  | nil => exact ⟨rfl, rfl, rfl⟩
  | cons x xs ih => exact ih (elemFed y x)

theorem lookupT_foldl_elemFed_ne {xs : List (Nat × Addend)} {j : Nat} (h : j ∉ xs.map (·.1)) (y : Tile) :
    lookupT (xs.foldl elemFed y).elems j = lookupT y.elems j := by
  induction xs generalizing y with
  | nil => rfl
  | cons x xs ih =>
    rw [List.map_cons, List.mem_cons, not_or] at h
    rw [List.foldl_cons, ih h.2, lookupT_elemFed, if_neg h.1]

/-- An element takes the one contribution that the packet has for it. -/
theorem lookupT_foldl_elemFed {xs : List (Nat × Addend)} (hnd : (xs.map (·.1)).Nodup) {x : Nat × Addend} (hx : x ∈ xs)
    (y : Tile) : lookupT (xs.foldl elemFed y).elems x.1 =
      some (elemAdd ((lookupT y.elems x.1).getD { Elem.fresh with poison := y.lost }) x.2) := by
  induction xs generalizing y with
  | nil => cases hx
  | cons z xs ih =>
    obtain ⟨hz, hnd⟩ := List.nodup_cons.mp hnd
    rw [List.foldl_cons]
    rcases List.mem_cons.mp hx with rfl | hx
    · rw [lookupT_foldl_elemFed_ne hz, lookupT_elemFed, if_pos rfl]
    · have hne : x.1 ≠ z.1 := fun h => hz (List.mem_map.mpr ⟨x, hx, h⟩)
      have h := ih hnd hx (elemFed y z)
      rw [lookupT_elemFed, if_neg hne] at h
      exact h

/-! ### A contribution enters its tile -/

/-- The elements of a packet with their contributions. -/
def contribElems (k : Packet) : List (Nat × Addend) := (upFrom (elementC k) (contribCount k)).zip (packetParts k)

theorem map_fst_contribElems (k : Packet) : ((contribElems k).map (·.1)).Sublist (upFrom (elementC k) (contribCount k)) := by
  unfold contribElems
  generalize packetParts k = cs
  induction upFrom (elementC k) (contribCount k) generalizing cs with
  | nil => exact .slnil
  | cons x xs ih =>
    cases cs with
    | nil => exact List.nil_sublist _
    | cons c cs => exact (ih cs).cons_cons x

theorem getElem?_upFrom {a m j : Nat} (h : j < m) : (upFrom a m)[j]? = some (a + j) := by
  induction m generalizing a j with
  | zero => cases h
  | succ m ih =>
    cases j with
    | zero => rfl
    | succ j =>
      refine (ih (a := a + 1) (by omega)).trans ?_
      rw [Nat.add_right_comm, Nat.add_assoc]

theorem mem_contribElems {j : Nat} {c : Addend} (hj : j < contribCount k) (hc : (packetParts k)[j]? = some c) :
    (elementC k + j, c) ∈ contribElems k := by
  have h : (contribElems k)[j]? = some (elementC k + j, c) := by
    unfold contribElems
    rw [List.getElem?_zip_eq_some]
    exact ⟨getElem?_upFrom hj, hc⟩
  exact List.mem_of_getElem? h

theorem notMem_contribElems {j : Nat} (h : contribCount k ≤ j ∨ (packetParts k).length ≤ j) :
    elementC k + j ∉ (contribElems k).map (·.1) := by
  intro hmem
  obtain ⟨x, hx, he⟩ := List.mem_map.mp hmem
  obtain ⟨m, hm⟩ := List.mem_iff_getElem?.mp hx
  obtain ⟨h1, h2⟩ := List.getElem?_zip_eq_some.mp hm
  have hm1 : m < contribCount k := by
    have := (List.getElem?_eq_some_iff.mp h1).1
    rwa [length_upFrom] at this
  have hm2 := (List.getElem?_eq_some_iff.mp h2).1
  rw [getElem?_upFrom hm1] at h1
  have := Option.some.inj h1
  omega

/-- A packet of one tile has all its elements in it. -/
theorem contribElems_tile (h : packetTiles k = [i]) : ∀ x ∈ contribElems k, x.1 / 1024 = i := by
  intro x hx
  have hmem := mem_upFrom.mp ((map_fst_contribElems k).mem (List.mem_map_of_mem hx))
  unfold packetTiles at h
  have hlen := congrArg List.length h
  rw [length_upFrom, List.length_singleton] at hlen
  have hfirst : i ∈ upFrom (elementC k / 1024) ((elementC k + contribCount k - 1) / 1024 + 1 - elementC k / 1024) := by
    rw [h]; simp
  have := mem_upFrom.mp hfirst
  omega

/-- The state in which a piece of a packet begins to enter its tile. -/
def feedBegun (s : State) (e n i : Nat) : State :=
  updTile { s with coll.stamp := s.coll.stamp + 1 } e n i fun y => { y with touched := s.coll.stamp + 1 }

/-- The elements of a packet as they stand in tile `i`. -/
def elemsIn (k : Packet) (i : Nat) : List (Nat × Addend) := (contribElems k).filter fun x => x.1 / 1024 == i

theorem elemsIn_whole (h : packetTiles k = [i]) : elemsIn k i = contribElems k :=
  List.filter_eq_self.mpr fun x hx => beq_iff_eq.mpr (contribElems_tile h x hx)

theorem feeds_offerReq (m : Nat) (r : MspReq) : Feeds s (offerReq s m r) := by
  unfold offerReq
  split
  · have hcount : Feeds s (if lineLocked s m r then odc (count64 s (0x8062_01 + m)) 0x09 none none 1 else s) := by
      split
      · exact (feeds_count (by omega)).trans (feeds_odc ..)
      · exact .refl s
    exact hcount.trans feeds_of_host
  · rw [lockIfReached_eq]
    exact feeds_of_host

theorem feeds_presentPieces (a op context segment : Nat) (poison : Bool) (m : Nat) (ps : List (Nat × Nat))
    (data : List Byte) (i : Nat) : Feeds s (presentPieces a op context segment poison m ps data i s) := by
  induction ps generalizing s data i with
  | nil => exact .refl s
  | cons x ps ih =>
    obtain ⟨off, len⟩ := x
    unfold presentPieces
    dsimp only
    refine Feeds.trans ?_ (ih ..)
    split
    · exact feeds_offerReq ..
    · rw [updAccess_eq]
      exact feeds_of_host

theorem feeds_hostAccess (kind : AccessKind) (pair : Option Nat) (op context segment offset len : Nat)
    (data : List Byte) (poison : Bool) (uses : List Nat) (m : Nat) :
    Feeds s (hostAccess s kind pair op context segment offset len data poison uses m).2 := by
  have hmark : ∀ (t : State) a, Feeds t (markReady t a) := fun t a => by
    rw [markReady_eq]
    exact feeds_of_host
  have henter : ∀ x, Feeds s (enterAccess s x).2 := fun x => feeds_of_host
  unfold hostAccess
  exact ((henter _).trans (feeds_presentPieces ..)).trans (hmark _ _)

/-- The tile and the edges of a burst as it begins. -/
def burstBegun (s : State) (e n i : Nat) (m : Nat) (f : EntryRun → EntryRun) : State :=
  updEntry (updTile s e n i fun y => { y with phase := 1, burstLeft := m }) e f

/-- A burst begins with the accesses that write its lines. -/
theorem startBurst_eq (h : tileOf s e n i = some y) : ∃ m f rs g, (∀ (a : State) r, Feeds a (g a r) ∧ (g a r).coll = a.coll) ∧
    startBurst s e n i = (rs : List (Nat × Nat × Bool)).foldl g (burstBegun s e n i m f) := by
  unfold startBurst
  rw [h]
  exact ⟨_, _, _, _, fun a r => ⟨feeds_hostAccess .., hostAccess_coll ..⟩, rfl⟩

theorem feeds_startBurst : Feeds s (startBurst s e n i) := by
  cases h : tileOf s e n i with
  | none =>
    unfold startBurst
    rw [h]
    exact .refl s
  | some y =>
    obtain ⟨m, f, rs, g, hg, hb⟩ := startBurst_eq h
    rw [hb]
    have hbegun : Feeds s (burstBegun s e n i m f) := feeds_of_coll rfl rfl
    exact hbegun.trans (foldl_through (R := Feeds) .refl .trans (fun a r _ => (hg a r).1) _)

theorem tileOf_startBurst (h : tileOf s e n i = some y) : ∃ z, tileOf (startBurst s e n i) e n i = some z ∧
    z.phys = y.phys ∧ z.long = y.long ∧ z.elems = y.elems := by
  obtain ⟨m, f, rs, g, hg, hb⟩ := startBurst_eq h
  have hcoll : (startBurst s e n i).coll = (burstBegun s e n i m f).coll := by
    rw [hb]
    exact foldl_keeps (fun a : State => a.coll) (fun a r => (hg a r).2) _ _
  refine ⟨{ y with phase := 1, burstLeft := m }, ?_, rfl, rfl, rfl⟩
  have htile : tileOf (updTile s e n i fun y => { y with phase := 1, burstLeft := m }) e n i =
      some { y with phase := 1, burstLeft := m } := tileOf_updTile h fun _ => ⟨rfl, rfl, rfl⟩
  unfold tileOf at htile ⊢
  rw [hcoll]
  exact htile

theorem feedTile_eq (s : State) (e n i : Nat) (k : Packet) : ∃ m a, a = (if m = 0 then feedBegun s e n i
      else odc (feedBegun s e n i) 0x08 none none m) ∧
    feedTile s e n i k = (if tileFull (forEach (elemsIn k i) (fun s x => feedElem s e n i x.1 x.2) a) e n i
      then startBurst (forEach (elemsIn k i) (fun s x => feedElem s e n i x.1 x.2) a) e n i
      else forEach (elemsIn k i) (fun s x => feedElem s e n i x.1 x.2) a) := ⟨_, _, rfl, rfl⟩

/-- The elements of a packet of one tile enter it, none of them closing. -/
theorem feedTile_open (he : e < 2 ^ 32) (hn : n < 4) (hi : packetTiles k = [i]) (hy : tileOf s e n i = some y)
    (hc : ∀ j, j < contribCount k →
      ((lookupT y.elems (elementC k + j)).getD Elem.fresh).count + 1 < stExpected (stRow s e n)) :
    Feeds s (feedTile s e n i k) ∧ ∃ z, tileOf (feedTile s e n i k) e n i = some z ∧ z.phys = y.phys ∧ z.long = y.long ∧
      z.elems = ((contribElems k).foldl elemFed { y with touched := s.coll.stamp + 1 }).elems := by
  obtain ⟨m, a, ha, hfeed⟩ := feedTile_eq s e n i k
  rw [hfeed, elemsIn_whole hi]
  clear hfeed
  have hbegun : Feeds s (feedBegun s e n i) := feeds_of_coll rfl rfl
  have htile : tileOf (feedBegun s e n i) e n i = some { y with touched := s.coll.stamp + 1 } :=
    tileOf_updTile (s := { s with coll.stamp := s.coll.stamp + 1 }) hy fun _ => ⟨rfl, rfl, rfl⟩
  have hfeeds : Feeds s a := by
    rw [ha]
    split
    · exact hbegun
    · exact hbegun.trans (feeds_odc ..)
  have hcoll : a.coll = (feedBegun s e n i).coll := by
    rw [ha]
    split
    · rfl
    · exact (admitting_odc ..).coll
  have htile : tileOf a e n i = some { y with touched := s.coll.stamp + 1 } := by
    unfold tileOf at htile ⊢
    rw [hcoll]
    exact htile
  have hsub := map_fst_contribElems k
  have hopen : ∀ x ∈ contribElems k, ((lookupT y.elems x.1).getD Elem.fresh).count + 1 < stExpected (stRow a e n) := by
    intro x hx
    obtain ⟨h1, h2⟩ := mem_upFrom.mp (hsub.mem (List.mem_map_of_mem hx))
    have h := hc (x.1 - elementC k) (by omega)
    rw [show elementC k + (x.1 - elementC k) = x.1 by omega] at h
    rwa [hfeeds.stRow he hn]
  obtain ⟨hin, hfed⟩ := feedElems_open he hn (hsub.nodup (nodup_upFrom ..)) htile hopen
  have hfields := foldl_elemFed_fields (contribElems k) { y with touched := s.coll.stamp + 1 }
  obtain ⟨hphys, hlong, -⟩ := hfields
  generalize forEach (contribElems k) (fun s x => feedElem s e n i x.1 x.2) a = b at hin hfed ⊢
  split
  · obtain ⟨z, hz, h1, h2, h3⟩ := tileOf_startBurst hin
    exact ⟨(hfeeds.trans hfed).trans feeds_startBurst, z, hz, h1.trans hphys, h2.trans hlong, h3⟩
  · exact ⟨hfeeds.trans hfed, _, hin, hphys, hlong, rfl⟩

/-- A piece whose tile is open enters it. -/
theorem offerPiece_open {m : Nat} (hy : tileOf s e n i = some y) (hp : y.phase = 0) :
    offerPiece s e n i p m k = feedTile s e n i k := by
  have hgoes : pieceGoes s e n i k = .enters (feedTile s e n i k) := by
    unfold pieceGoes
    rw [hy]
    dsimp only
    rw [if_pos (by omega)]
  unfold offerPiece
  rw [hgoes]

theorem contribArrives_stage (hr : contribRefused k = false) (ha : collAdmit t k = .stage e n) (hi : packetTiles k = [i])
    (hy : tileOf t e n i = some y) (hp : y.phase = 0) :
    contribArrives t p k = feedTile { t with coll.stamp := t.coll.stamp + 1 } e n i k := by
  unfold contribArrives
  rw [hr, if_neg (by decide), ha]
  dsimp only
  rw [hi]
  exact offerPiece_open (s := { t with coll.stamp := t.coll.stamp + 1 }) hy hp

theorem does_contrib_stage {c : Instr} (hop : (k.opcode, c) ∈ [(opContrib, Instr.contrib p k), (opContribLong, .contribLong p k)])
    (hck : Checked s p k t) (hr : contribRefused k = false) (ha : collAdmit t k = .stage e n) (hi : packetTiles k = [i])
    (hy : tileOf t e n i = some y) (hp : y.phase = 0)
    (hc : ∀ j, j < contribCount k →
      ((lookupT y.elems (elementC k + j)).getD Elem.fresh).count + 1 < stExpected (stRow t e n)) :
    Does (exec c s) fun u =>
      (∃ z, tileOf u e n i = some z ∧ z.phys = y.phys ∧ z.long = y.long ∧
        ∀ j, (contribCount k ≤ j ∨ (packetParts k).length ≤ j →
            lookupT z.elems (elementC k + j) = lookupT y.elems (elementC k + j)) ∧
          ∀ c, j < contribCount k → (packetParts k)[j]? = some c →
            lookupT z.elems (elementC k + j) =
              some (elemAdd ((lookupT y.elems (elementC k + j)).getD { Elem.fresh with poison := y.lost }) c)) ∧
      u = { t with coll := u.coll, host := u.host, cat := u.cat } := by
  obtain ⟨he, hn⟩ := collAdmit_stage ha
  obtain ⟨hfeeds, z, hz, hphys, hlong, helems⟩ := feedTile_open (s := { t with coll.stamp := t.coll.stamp + 1 }) he hn hi hy hc
  have hnd := (map_fst_contribElems k).nodup (nodup_upFrom ..)
  have hdoes : (k.opcode = opContrib ∨ k.opcode = opContribLong) → ∀ j, j = k → packetOut s p j =
      .next (settle (feedTile { t with coll.stamp := t.coll.stamp + 1 } e n i k)) := fun hop j hj => by
    refine packetOut_checked hck (.inl ?_) ?_ ((requestActs_contrib hop).trans (contribArrives_stage hr ha hi hy hp))
      hfeeds.waits hj
    · rcases hop with hop | hop <;> rw [hop] <;> rfl
    · rcases hop with hop | hop <;> rw [hop] <;> decide
  refine ⟨_, ?_, ⟨z, hz, hphys, hlong, fun j => ⟨fun hj => ?_, fun x hj hx => ?_⟩⟩, ?_⟩
  · simp only [List.mem_cons, Prod.mk.injEq, List.not_mem_nil, or_false] at hop
    rcases hop with ⟨hop, rfl⟩ | ⟨hop, rfl⟩
    · exact hdoes (.inl hop) _ (by rw [← hop])
    · exact hdoes (.inr hop) _ (by rw [← hop])
  · rw [helems]
    exact lookupT_foldl_elemFed_ne (notMem_contribElems hj) _
  · rw [helems]
    exact lookupT_foldl_elemFed hnd (mem_contribElems hj hx) _
  · exact hfeeds.rest

end

/-- Settles O23: a token is one more at its gate; each element of a packet of an open tile is added once, to what the
element holds, and none of them closes (the stage expects more). -/
theorem contributionsEnter : Obligations.ContributionsEnter := by
  unfold Obligations.ContributionsEnter
  exact ⟨fun s t p k e hop hck hr ha => does_contrib_gate hop hck hr ha,
    fun s t p k e n i y c hop hck hr ha hi hy hp hc => does_contrib_stage hop hck hr ha hi hy hp hc⟩

end Sys2Proof.Machine
end

section
/-! One cycle with no command waiting (R279, R296; log entries 3, 55, 71): what is counted, what begins, and what
goes on. -/

namespace Sys2Proof.Machine

section
variable {s t u : State} {p k q j c : Nat} {cns : List Nat}

/-! ### The counters of the lanes -/

/-- What a checker counts of its lane (R252). -/
def checkerCns : List Nat := [0x300C_01, 0x300D_01, 0x300E_01, 0x3011_01]

/-- What the codewords of a lane count (R230). -/
def codewordCns : List Nat := [0x3003_01, 0x3004_01, 0x3006_01]

/-- The counters of the lanes. -/
def laneTickCns : List Nat :=
  (upFrom 0 8).flatMap fun p => (upFrom 0 10).flatMap fun n => (codewordCns ++ checkerCns).map (ofLane p n)

/-- The counters of one cycle: those of the ports, of the lanes, on demand, of locked lines and of the trace. -/
def tickCns : List Nat :=
  (upFrom 0 8).map (ofPort · 0x2020_0D) ++ (upFrom 0 16).map (0xD101_01 + ·) ++ (upFrom 0 12).map (0x8062_01 + ·) ++
    [0xC000_04, 0xC000_05] ++ laneTickCns

theorem mem_laneTickCns : c ∈ laneTickCns ↔ ∃ p < 8, ∃ n < 10, ∃ d ∈ codewordCns ++ checkerCns, ofLane p n d = c := by
  simp only [laneTickCns, List.mem_flatMap, List.mem_map, mem_upFrom, Nat.zero_le, true_and, Nat.zero_add]

theorem mem_tickCns : c ∈ tickCns ↔ (∃ p < 8, ofPort p 0x2020_0D = c) ∨ (∃ i < 16, 0xD101_01 + i = c) ∨
    (∃ m < 12, 0x8062_01 + m = c) ∨ c = 0xC000_04 ∨ c = 0xC000_05 ∨ c ∈ laneTickCns := by
  simp only [tickCns, List.mem_append, List.mem_map, mem_upFrom, Nat.zero_le, true_and, Nat.zero_add, List.mem_cons,
    List.not_mem_nil, or_false, or_assoc]

theorem laneTickCns_bounds (h : c ∈ laneTickCns) : 0x3003_01 ≤ c ∧ c % 0x10000 < 0x1200 ∧ 0x301 ≤ c % 0x10000 ∧ c < 0x3800_00 := by
  obtain ⟨p, hp, n, hn, d, hd, rfl⟩ := mem_laneTickCns.mp h
  simp only [codewordCns, checkerCns, List.mem_append, List.mem_cons, List.not_mem_nil, or_false] at hd
  unfold ofLane
  omega

/-- What a cycle does not count stands outside four ranges. -/
theorem notMem_tickCns (h : c < 0x2020_0D ∨ 0x2720_0D < c ∧ c < 0x3003_01 ∨ 0x3800_00 ≤ c ∧ c < 0x8062_01 ∨
    0x8062_0D ≤ c ∧ c < 0xC000_04 ∨ 0xC000_05 < c ∧ c < 0xD101_01 ∨ 0xD101_11 ≤ c) : c ∉ tickCns := by
  intro hc
  rcases mem_tickCns.mp hc with ⟨p, hp, rfl⟩ | ⟨i, hi, rfl⟩ | ⟨m, hm, rfl⟩ | rfl | rfl | hl
  · unfold ofPort at h
    omega
  · omega
  · omega
  · omega
  · omega
  · obtain ⟨h1, -, -, h2⟩ := laneTickCns_bounds hl
    omega

/-- `t` is `s` after the lanes and the counters of `cns` have gone on by a cycle. -/
structure LanesMove (cns : List Nat) (s t : State) : Prop where
  rest : t = { s with cat := t.cat, freeCount := t.freeCount, ports := t.ports }
  store : StoreFrame s t cns
  ports : ∀ p, port t p = { port s p with lanes := (port t p).lanes }
  tests : ∀ p n, (lane t p n).test = (lane s p n).test

theorem LanesMove.refl (cns : List Nat) (s : State) : LanesMove cns s s :=
  ⟨rfl, .refl _, fun _ => rfl, fun _ _ => rfl⟩

theorem LanesMove.trans (h : LanesMove cns s t) (g : LanesMove cns t u) : LanesMove cns s u :=
  ⟨by rw [g.rest, h.rest], h.store.trans g.store, fun p => by rw [g.ports, h.ports],
    fun p n => (g.tests p n).trans (h.tests p n)⟩

theorem LanesMove.mono {dns : List Nat} (h : LanesMove cns s t) (hs : cns ⊆ dns) : LanesMove dns s t :=
  ⟨h.rest, h.store.mono hs, h.ports, h.tests⟩

theorem LanesMove.get (h : LanesMove cns s t) (hc : c ∉ cns) : get t c = get s c := h.store c 0 (by decide) hc

theorem lanesMove_setRow {v : Nat} (hq : q < 2 ^ 32) (h : c ∈ cns) : LanesMove cns s (setRow s c q v) :=
  ⟨rfl, StoreFrame.setRow (.refl _) v hq h, fun _ => rfl, fun _ _ => rfl⟩

theorem lanesMove_set {v : Nat} (h : c ∈ cns) : LanesMove cns s (set s c v) := lanesMove_setRow (by decide) h

theorem lanesMove_count {w n : Nat} (h : c ∈ cns) : LanesMove cns s (count s c w n) := lanesMove_setRow (by decide) h

theorem lanesMove_draw : LanesMove cns s (draw s).2 := ⟨rfl, .of_cat rfl rfl, fun _ => rfl, fun _ _ => rfl⟩

theorem lane_of_port {f : Lane → Lane} (j q : Nat) : lane (setLane s p k f) q j =
    if q = p ∧ p < s.ports.length ∧ j = k ∧ k < (port s p).lanes.length then f (lane s q j) else lane s q j := by
  unfold lane setLane
  rw [port_setPort]
  split
  · next h =>
    obtain ⟨rfl, hq⟩ := h
    rw [nth_modifyNth]
    simp only [hq, true_and]
  · next h =>
    rw [if_neg]
    tauto

theorem lanesMove_setLane {f : Lane → Lane} (h : ∀ x, (f x).test = x.test) : LanesMove cns s (setLane s p k f) := by
  refine ⟨rfl, .of_cat rfl rfl, fun q => ?_, fun q n => ?_⟩
  · unfold setLane
    rw [port_setPort]
    split <;> rfl
  · rw [lane_of_port]
    split
    · exact h _
    · rfl

theorem lanesMove_checkerDone (c : Checking) : LanesMove (checkerCns.map (ofLane p k)) s (checkerDone s p k c) := by
  unfold checkerDone checkerCounts
  dsimp only
  have hmem : ∀ d ∈ checkerCns, ofLane p k d ∈ checkerCns.map (ofLane p k) := fun d hd => List.mem_map_of_mem hd
  refine LanesMove.trans ?_ (lanesMove_count (hmem 0x3011_01 (by decide)))
  refine LanesMove.trans ?_ (lanesMove_set (hmem 0x300E_01 (by decide)))
  refine LanesMove.trans ?_ (lanesMove_setLane fun _ => rfl)
  exact (lanesMove_count (hmem 0x300C_01 (by decide))).trans (lanesMove_count (hmem 0x300D_01 (by decide)))

theorem generatorCycle_eq (s : State) (p k : Nat) (check : Bool) (noise : Nat) : ∃ l c, generatorCycle s p k check noise =
    if check then checkerDone (setLane s p k fun x => { x with gen := Lane.gen l, flips := Lane.flips l }) p k c
    else setLane s p k fun x => { x with gen := l.gen, flips := l.flips } := ⟨_, _, rfl⟩

theorem lanesMove_generatorCycle (check : Bool) (noise : Nat) :
    LanesMove (checkerCns.map (ofLane p k)) s (generatorCycle s p k check noise) := by
  obtain ⟨l, c, h⟩ := generatorCycle_eq s p k check noise
  rw [h]
  have hgen : LanesMove (checkerCns.map (ofLane p k)) s (setLane s p k fun x => { x with gen := l.gen, flips := l.flips }) :=
    lanesMove_setLane fun _ => rfl
  split
  · exact hgen.trans (lanesMove_checkerDone _)
  · exact hgen

theorem lanesMove_checkerCycle : LanesMove (checkerCns.map (ofLane p k)) s (checkerCycle p s k) := by
  unfold checkerCycle
  dsimp only
  split
  · exact lanesMove_generatorCycle ..
  · split
    · exact lanesMove_generatorCycle ..
    · split
      · exact lanesMove_draw.trans (lanesMove_generatorCycle ..)
      · split
        · unfold receivedCycle
          exact lanesMove_draw.trans (lanesMove_checkerDone _)
        · exact .refl ..

theorem checkerCycle_idle (h : (lane s p k).test = 0) : checkerCycle p s k = s := by
  unfold checkerCycle
  rw [h]
  rfl

theorem lanesMove_codewordCycle : LanesMove (codewordCns.map (ofLane p k)) s (codewordCycle p s k) := by
  have hmem : ∀ d ∈ codewordCns, ofLane p k d ∈ codewordCns.map (ofLane p k) := fun d hd => List.mem_map_of_mem hd
  unfold codewordCycle
  split
  · exact .refl ..
  · dsimp only
    split
    · exact lanesMove_draw
    · have hc : Config.freeCorrections (draw s).1 % 17 < 2 ^ 32 := by omega
      have hbins := fun v => lanesMove_draw.trans
        (lanesMove_setRow (s := (draw s).2) (v := v) hc (hmem 0x3006_01 (by decide)))
      split
      · exact hbins _
      · exact ((hbins _).trans (lanesMove_count (hmem 0x3003_01 (by decide)))).trans
          (lanesMove_count (hmem 0x3004_01 (by decide)))

/-- The lanes and counters go on by a cycle, the checkers of lanes under test alone. -/
def LanesTick (cns : List Nat) (s t : State) : Prop :=
  LanesMove cns s t ∧ ∀ p n, p < 8 → n < 10 → (lane s p n).test = 0 →
    ∀ cn ∈ checkerCns, get t (ofLane p n cn) = get s (ofLane p n cn)

theorem LanesTick.refl (cns : List Nat) (s : State) : LanesTick cns s s := ⟨.refl .., fun _ _ _ _ _ _ _ => rfl⟩

theorem LanesTick.trans (h : LanesTick cns s t) (g : LanesTick cns t u) : LanesTick cns s u :=
  ⟨h.1.trans g.1, fun p n hp hn h0 cn hc =>
    (g.2 p n hp hn ((h.1.tests p n).trans h0) cn hc).trans (h.2 p n hp hn h0 cn hc)⟩

theorem LanesTick.mono {dns : List Nat} (h : LanesTick cns s t) (hs : cns ⊆ dns) : LanesTick dns s t := ⟨h.1.mono hs, h.2⟩

theorem map_ofLane_subset {ds : List Nat} (hp : p < 8) (hk : k < 10) (hd : ds ⊆ codewordCns ++ checkerCns) :
    ds.map (ofLane p k) ⊆ laneTickCns := by
  intro c hc
  obtain ⟨d, hmem, rfl⟩ := List.mem_map.mp hc
  exact mem_laneTickCns.mpr ⟨p, hp, k, hk, d, hd hmem, rfl⟩

theorem lanesTick_checkerCycle (hp : p < 8) (hk : k < 10) : LanesTick laneTickCns s (checkerCycle p s k) := by
  by_cases h : (lane s p k).test = 0
  · rw [checkerCycle_idle h]
    exact .refl ..
  · have hmove := lanesMove_checkerCycle (s := s) (p := p) (k := k)
    refine ⟨hmove.mono (map_ofLane_subset hp hk (by decide)), fun q j hq hj h0 cn hcn => hmove.get ?_⟩
    intro hmem
    obtain ⟨d, hd, he⟩ := List.mem_map.mp hmem
    have hne : ¬(q = p ∧ j = k) := by
      rintro ⟨rfl, rfl⟩
      exact h h0
    simp only [checkerCns, List.mem_cons, List.not_mem_nil, or_false] at hd hcn
    unfold ofLane at he
    omega

theorem lanesTick_codewordCycle (hp : p < 8) (hk : k < 10) : LanesTick laneTickCns s (codewordCycle p s k) := by
  have hmove := lanesMove_codewordCycle (s := s) (p := p) (k := k)
  refine ⟨hmove.mono (map_ofLane_subset hp hk (by decide)), fun q j hq hj _ cn hcn => hmove.get ?_⟩
  intro hmem
  obtain ⟨d, hd, he⟩ := List.mem_map.mp hmem
  simp only [checkerCns, codewordCns, List.mem_cons, List.not_mem_nil, or_false] at hd hcn
  unfold ofLane at he
  omega

theorem lanesTick_forEach {g : State → Nat → State} {xs : List Nat} (hg : ∀ t, ∀ x ∈ xs, LanesTick cns t (g t x)) (s : State) :
    LanesTick cns s (forEach xs g s) := foldl_through (R := LanesTick cns) (.refl _) .trans hg s

/-- The checkers of port `p` in a cycle. -/
def checkersCycle (s : State) (p : Nat) : State :=
  if portPowered s p then forEach (upFrom 0 10) (checkerCycle p) s else s

/-- The codewords of port `p` in a cycle. -/
def codewordsCycle (s : State) (p : Nat) : State :=
  if portPowered s p && (s.time.cycles + 1) % 16 = 0 then forEach (upFrom 0 10) (codewordCycle p) s else s

theorem lanesTick_checkersCycle (hp : p < 8) : LanesTick laneTickCns s (checkersCycle s p) := by
  unfold checkersCycle
  split
  · refine lanesTick_forEach (fun t x hx => lanesTick_checkerCycle hp ?_) s
    have := (mem_upFrom.mp hx).2
    omega
  · exact .refl ..

theorem lanesTick_codewordsCycle (hp : p < 8) : LanesTick laneTickCns s (codewordsCycle s p) := by
  unfold codewordsCycle
  split
  · refine lanesTick_forEach (fun t x hx => lanesTick_codewordCycle hp ?_) s
    have := (mem_upFrom.mp hx).2
    omega
  · exact .refl ..

/-! ### The counters of the ports -/

/-- xoff_time of port `p` goes on (log entry 55). -/
def xoffCounts (s : State) (p : Nat) : Bool := portPowered s p && isUp s p && (port s p).xoff

theorem lanesMove_odc (event n : Nat) (o : Option Nat) (x : Option Packet) :
    LanesMove ((upFrom 0 16).map (0xD101_01 + ·)) s (odc s event o x n) := by
  unfold odc
  split
  · refine foldl_through (R := LanesMove _) (.refl _) .trans (fun t i hi => ?_) s
    split
    · exact lanesMove_count (List.mem_map_of_mem hi)
    · exact .refl ..
  · exact .refl ..

theorem LanesMove.portPowered (h : LanesMove tickCns s t) (p : Nat) : portPowered t p = portPowered s p := by
  have hdom : ∀ d, domainOn t d = domainOn s d := fun d => by
    unfold domainOn
    rw [h.get (notMem_tickCns (by omega))]
  unfold Machine.portPowered switchOn held
  simp only [hdom]
  rw [h.rest]

theorem LanesMove.isUp (h : LanesMove tickCns s t) (hp : p < 8) : isUp t p = isUp s p := by
  unfold Machine.isUp linkState
  rw [h.get]
  intro hc
  unfold ofPort at hc
  rcases mem_tickCns.mp hc with ⟨q, hq, he⟩ | ⟨i, hi, he⟩ | ⟨m, hm, he⟩ | he | he | hl
  · unfold ofPort at he
    omega
  · omega
  · omega
  · omega
  · omega
  · have := laneTickCns_bounds hl
    omega

theorem LanesMove.xoffCounts (h : LanesMove tickCns s t) (hp : p < 8) : xoffCounts t p = xoffCounts s p := by
  unfold Machine.xoffCounts
  rw [h.portPowered, h.isUp hp, h.ports]

theorem laneTickCns_subset : laneTickCns ⊆ tickCns := fun _ hc => mem_tickCns.mpr (by tauto)

theorem odcCns_subset : (upFrom 0 16).map (0xD101_01 + ·) ⊆ tickCns := fun c hc => by
  obtain ⟨i, hi, rfl⟩ := List.mem_map.mp hc
  have := (mem_upFrom.mp hi).2
  exact mem_tickCns.mpr (.inr (.inl ⟨i, by omega, rfl⟩))

theorem xoffTime_mem (hp : p < 8) : ofPort p 0x2020_0D ∈ tickCns := mem_tickCns.mpr (.inl ⟨p, hp, rfl⟩)

theorem LanesMove.still (h : LanesMove cns s t) (hc : ∀ p n, p < 8 → n < 10 → ∀ cn ∈ checkerCns, ofLane p n cn ∉ cns) :
    LanesTick cns s t := ⟨h, fun p n hp hn _ cn hcn => h.get (hc p n hp hn cn hcn)⟩

theorem lanesTick_odc (event n : Nat) (o : Option Nat) (x : Option Packet) : LanesTick tickCns s (odc s event o x n) := by
  refine ((lanesMove_odc event n o x).still fun p n hp hn cn hcn hmem => ?_).mono odcCns_subset
  obtain ⟨i, hi, he⟩ := List.mem_map.mp hmem
  have := (mem_upFrom.mp hi).2
  simp only [checkerCns, List.mem_cons, List.not_mem_nil, or_false] at hcn
  unfold ofLane at he
  omega

theorem lanesTick_xoffTime {w n : Nat} (hp : p < 8) : LanesTick tickCns s (count s (ofPort p 0x2020_0D) w n) := by
  have hmove : LanesMove [ofPort p 0x2020_0D] s (count s (ofPort p 0x2020_0D) w n) := lanesMove_count (by simp)
  refine (hmove.still fun q n hq hn cn hcn hmem => ?_).mono (by simp [xoffTime_mem hp])
  rw [List.mem_singleton] at hmem
  simp only [checkerCns, List.mem_cons, List.not_mem_nil, or_false] at hcn
  unfold ofLane ofPort at hmem
  omega

/-- The counters of port `p` itself in a cycle. -/
def portCounts (s : State) (p : Nat) : State :=
  if portPowered s p && portTakes s p then
    let n := tickPortCycles s
    let s := if (port s p).xoff && isUp s p then count s (ofPort p 0x2020_0D) 64 n else s
    if heldByXoff s p then odc s 0x0B (some p) none n else s
  else s

theorem tickPort_eq (s : State) (p : Nat) : tickPort s p = portCounts (codewordsCycle (checkersCycle s p) p) p := rfl

theorem lanesTick_portCounts (hp : p < 8) : LanesTick tickCns s (portCounts s p) := by
  unfold portCounts
  split
  · have hx : LanesTick tickCns s (if (port s p).xoff && isUp s p then count s (ofPort p 0x2020_0D) 64 (tickPortCycles s)
        else s) := by
      split
      · exact lanesTick_xoffTime hp
      · exact .refl ..
    dsimp only
    generalize (if (port s p).xoff && isUp s p then count s (ofPort p 0x2020_0D) 64 (tickPortCycles s) else s) = a at hx ⊢
    refine hx.trans ?_
    split
    · exact lanesTick_odc ..
    · exact .refl ..
  · exact .refl ..

theorem get_xoffTime_portCounts (hp : p < 8) : get (portCounts s p) (ofPort q 0x2020_0D) =
    if q = p ∧ xoffCounts s p = true then (get s (ofPort q 0x2020_0D) + tickPortCycles s) % 2 ^ 64
    else get s (ofPort q 0x2020_0D) := by
  have hodc : ∀ (t : State) n, get (odc t 0x0B (some p) none n) (ofPort q 0x2020_0D) = get t (ofPort q 0x2020_0D) := by
    refine fun t n => (lanesMove_odc ..).get fun hmem => ?_
    obtain ⟨i, hi, he⟩ := List.mem_map.mp hmem
    have := (mem_upFrom.mp hi).2
    unfold ofPort at he
    omega
  have hlast : ∀ (t : State) n, get (if heldByXoff t p then odc t 0x0B (some p) none n else t) (ofPort q 0x2020_0D) =
      get t (ofPort q 0x2020_0D) := fun t n => by
    split
    · exact hodc ..
    · rfl
  have htakes : isUp s p = true → portTakes s p = true := fun h => by
    unfold isUp at h
    unfold portTakes
    rw [h, Bool.true_or]
  unfold portCounts
  split
  · next h =>
    obtain ⟨hpow, -⟩ := Bool.and_eq_true .. ▸ h
    dsimp only
    rw [hlast]
    have hx : xoffCounts s p = ((port s p).xoff && isUp s p) := by
      unfold xoffCounts
      rw [hpow, Bool.true_and, Bool.and_comm]
    rw [hx]
    by_cases hc : ((port s p).xoff && isUp s p) = true
    · rw [if_pos hc]
      by_cases hqp : q = p
      · subst hqp
        rw [if_pos ⟨rfl, hc⟩]
        exact get_set_same ..
      · rw [if_neg (fun h => hqp h.1)]
        refine get_set_ne _ _ ?_
        unfold ofPort
        omega
    · rw [if_neg hc, if_neg (fun h => hc h.2)]
  · next h =>
    rw [if_neg]
    rintro ⟨-, hx⟩
    unfold xoffCounts at hx
    simp only [Bool.and_eq_true] at hx h
    exact h ⟨hx.1.1, htakes hx.1.2⟩

theorem notMem_laneTickCns_xoff : ofPort q 0x2020_0D ∉ laneTickCns := fun h => by
  have := laneTickCns_bounds h
  unfold ofPort at this
  omega

theorem lanesTick_lanes (hp : p < 8) : LanesTick laneTickCns s (codewordsCycle (checkersCycle s p) p) :=
  (lanesTick_checkersCycle hp).trans (lanesTick_codewordsCycle hp)

theorem lanesTick_tickPort (hp : p < 8) : LanesTick tickCns s (tickPort s p) :=
  ((lanesTick_lanes hp).mono laneTickCns_subset).trans (lanesTick_portCounts hp)

theorem get_xoffTime_tickPort (hp : p < 8) : get (tickPort s p) (ofPort q 0x2020_0D) =
    if q = p ∧ xoffCounts s p = true then (get s (ofPort q 0x2020_0D) + tickPortCycles s) % 2 ^ 64
    else get s (ofPort q 0x2020_0D) := by
  obtain ⟨hlanes, -⟩ := lanesTick_lanes (s := s) hp
  rw [tickPort_eq, get_xoffTime_portCounts hp, hlanes.get notMem_laneTickCns_xoff,
    (hlanes.mono laneTickCns_subset).xoffCounts hp]
  unfold tickPortCycles
  rw [hlanes.rest]

theorem lanesTick_tickPorts {ps : List Nat} (hps : ∀ p ∈ ps, p < 8) : LanesTick tickCns s (forEach ps tickPort s) :=
  lanesTick_forEach (fun _ p hp => lanesTick_tickPort (hps p hp)) s

theorem get_xoffTime_tickPorts (hq : q < 8) {ps : List Nat} (hps : ∀ p ∈ ps, p < 8) (hnd : ps.Nodup) :
    get (forEach ps tickPort s) (ofPort q 0x2020_0D) =
    if q ∈ ps ∧ xoffCounts s q = true then (get s (ofPort q 0x2020_0D) + tickPortCycles s) % 2 ^ 64
    else get s (ofPort q 0x2020_0D) := by
  induction ps generalizing s with
  | nil => rw [if_neg (by simp)]; rfl
  | cons p ps ih =>
    obtain ⟨hp, hnd⟩ := List.nodup_cons.mp hnd
    have h8 : p < 8 := hps p (by simp)
    obtain ⟨hmove, -⟩ := lanesTick_tickPort (s := s) h8
    refine (ih (s := tickPort s p) (fun x hx => hps x (by simp [hx])) hnd).trans ?_
    have hcycles : tickPortCycles (tickPort s p) = tickPortCycles s := by
      unfold tickPortCycles
      rw [hmove.rest]
    rw [hmove.xoffCounts hq, hcycles, get_xoffTime_tickPort h8]
    by_cases hqp : q = p
    · subst hqp
      simp [hp]
    · simp [hqp]

theorem lanesTick_tickCounts : LanesTick tickCns s (tickCounts s) := by
  unfold tickCounts
  dsimp only
  refine LanesTick.trans ?_ (lanesTick_tickPorts fun p hp => by have := (mem_upFrom.mp hp).2; omega)
  split
  · exact lanesTick_odc ..
  · exact .refl ..

theorem get_xoffTime_tickCounts (hq : q < 8) : get (tickCounts s) (ofPort q 0x2020_0D) =
    if xoffCounts s q = true then (get s (ofPort q 0x2020_0D) + tickPortCycles s) % 2 ^ 64
    else get s (ofPort q 0x2020_0D) := by
  have hodc : ∀ n, get (odc s 0x06 none none n) (ofPort q 0x2020_0D) = get s (ofPort q 0x2020_0D) := by
    refine fun n => (lanesMove_odc ..).get fun hmem => ?_
    obtain ⟨i, hi, he⟩ := List.mem_map.mp hmem
    have := (mem_upFrom.mp hi).2
    unfold ofPort at he
    omega
  have hps : ∀ p ∈ upFrom 0 8, p < 8 := fun p hp => by have := (mem_upFrom.mp hp).2; omega
  have hmem : q ∈ upFrom 0 8 := mem_upFrom.mpr ⟨by omega, by omega⟩
  unfold tickCounts
  dsimp only
  rw [get_xoffTime_tickPorts hq hps (nodup_upFrom ..)]
  simp only [hmem, true_and]
  split
  · obtain ⟨hmove, -⟩ := lanesTick_odc (s := s) 0x06 (tickCentralCycles s) none none
    have hcycles : tickPortCycles (odc s 0x06 none none (tickCentralCycles s)) = tickPortCycles s := by
      unfold tickPortCycles
      rw [hmove.rest]
    rw [hmove.xoffCounts hq, hcycles, hodc]
  · rfl

/-! ### Frames begin -/

/-- Frames have begun: only the ports' frames and lanes have moved. -/
structure FramesMove (s t : State) : Prop where
  rest : t = { s with ports := t.ports }
  ports : ∀ p, port t p = { port s p with frames := (port t p).frames, lanes := (port t p).lanes }

theorem FramesMove.refl (s : State) : FramesMove s s := ⟨rfl, fun _ => rfl⟩

theorem FramesMove.trans (h : FramesMove s t) (g : FramesMove t u) : FramesMove s u :=
  ⟨by rw [g.rest, h.rest], fun p => by rw [g.ports, h.ports]⟩

theorem framesMove_setPort {f : Port → Port} (h : ∀ x, f x = { x with frames := (f x).frames, lanes := (f x).lanes }) :
    FramesMove s (setPort s p f) := ⟨rfl, fun q => by
  rw [port_setPort]
  split
  · exact h _
  · rfl⟩

theorem framesMove_frameBegins : FramesMove s (frameBegins p s k) := by
  unfold frameBegins
  dsimp only
  split
  · exact .refl s
  · exact (framesMove_setPort fun _ => rfl).trans (framesMove_setPort fun _ => rfl)

theorem framesMove_tickFrames : FramesMove s (tickFrames s) := by
  unfold tickFrames
  split
  · refine foldl_through (R := FramesMove) .refl .trans (fun t p _ => ?_) s
    unfold framesBegin
    split
    · exact foldl_through (R := FramesMove) .refl .trans (fun _ _ _ => framesMove_frameBegins) t
    · exact .refl t
  · exact .refl s

theorem tickFrames_between (h : (s.time.cycles + 1) % frameCycles ≠ 0) : tickFrames s = s := if_neg h

/-! ### The management core writes trace records -/

/-- What a trace record counts. -/
def recordCns : List Nat := (upFrom 0 16).map (0xD101_01 + ·) ++ (upFrom 0 12).map (0x8062_01 + ·) ++ [0xC000_04, 0xC000_05]

/-- `t` is `s` after a trace record has gone its way. -/
structure Records (s t : State) : Prop where
  rest : t = { s with observe := t.observe, cat := t.cat, freeCount := t.freeCount, host := t.host }
  store : StoreFrame s t recordCns
  valid : t.host.valid = s.host.valid
  responses : t.host.responses = s.host.responses

theorem Records.refl (s : State) : Records s s := ⟨rfl, .refl _, rfl, rfl⟩

theorem Records.trans (h : Records s t) (g : Records t u) : Records s u :=
  ⟨by rw [g.rest, h.rest], h.store.trans g.store, g.valid.trans h.valid, g.responses.trans h.responses⟩

theorem records_of_host {x : HostSide} (hv : x.valid = s.host.valid) (hr : x.responses = s.host.responses) :
    Records s { s with host := x } := ⟨rfl, .of_cat rfl rfl, hv, hr⟩

theorem records_of_observe {x : ObserveState} : Records s { s with observe := x } := ⟨rfl, .of_cat rfl rfl, rfl, rfl⟩

theorem records_count {w n : Nat} (h : c ∈ recordCns) : Records s (count s c w n) :=
  ⟨rfl, StoreFrame.set (.refl _) _ h, rfl, rfl⟩

theorem records_draw : Records s (draw s).2 := ⟨rfl, .of_cat rfl rfl, rfl, rfl⟩

theorem records_odc (event n : Nat) (o : Option Nat) (x : Option Packet) : Records s (odc s event o x n) := by
  unfold odc
  split
  · refine foldl_through (R := Records) .refl .trans (fun t i hi => ?_) s
    split
    · exact records_count (List.mem_append_left _ (List.mem_append_left _ (List.mem_map_of_mem hi)))
    · exact .refl t
  · exact .refl s

theorem records_takeLock (m : Nat) (r : MspReq) : Records s (takeLock s m r) := by
  unfold takeLock
  split
  · exact records_of_host rfl rfl
  · exact .refl s

theorem records_offerReq {m : Nat} (hm : m < 12) (r : MspReq) : Records s (offerReq s m r) := by
  unfold offerReq
  split
  · have hcount : Records s (if lineLocked s m r then odc (count64 s (0x8062_01 + m)) 0x09 none none 1 else s) := by
      split
      · refine (records_count ?_).trans (records_odc ..)
        exact List.mem_append_left _ (List.mem_append_right _ (List.mem_map_of_mem (mem_upFrom.mpr ⟨by omega, by omega⟩)))
      · exact .refl s
    exact hcount.trans (records_of_host rfl rfl)
  · have hlock : Records s (lockIfReached s m r) := by
      unfold lockIfReached
      split
      · exact records_takeLock ..
      · exact .refl s
    exact hlock.trans (records_of_host rfl rfl)

theorem records_updAccess (a : Nat) (f : Access → Access) : Records s (updAccess s a f) := by
  unfold updAccess
  split
  · exact records_of_host rfl rfl
  · exact .refl s

theorem records_presentPieces (a op context segment : Nat) (poison : Bool) (n : Nat) (ps : List (Nat × Nat))
    (data : List Byte) (i : Nat) : Records s (presentPieces a op context segment poison n ps data i s) := by
  induction ps generalizing s data i with
  | nil => exact .refl s
  | cons x ps ih =>
    obtain ⟨off, len⟩ := x
    unfold presentPieces
    dsimp only
    refine Records.trans ?_ (ih ..)
    split
    · next hm => exact records_offerReq (mspPort_lt hm) _
    · exact records_updAccess ..

theorem records_markReady (a : Nat) : Records s (markReady s a) := by
  unfold markReady
  split
  · split
    · exact records_of_host rfl rfl
    · exact .refl s
  · exact .refl s

theorem records_hostAccess (kind : AccessKind) (pair : Option Nat) (op context segment offset len : Nat)
    (data : List Byte) (poison : Bool) (uses : List Nat) (n : Nat) :
    Records s (hostAccess s kind pair op context segment offset len data poison uses n).2 := by
  have henter : ∀ x, Records s (enterAccess s x).2 := fun x => records_of_host rfl rfl
  unfold hostAccess
  exact ((henter _).trans (records_presentPieces ..)).trans (records_markReady _)

theorem records_traceWriteLine : Records s (traceWriteLine s) := by
  by_cases h : s.observe.line = []
  · unfold traceWriteLine
    rw [h]
    exact .refl s
  · have hcount : Records s (lineCounted s 0xC000_04) :=
      Records.trans (t := { s with observe.line := [] }) records_of_observe (records_count (by simp [recordCns]))
    rw [traceWriteLine_eq h]
    exact hcount.trans (records_hostAccess ..)

theorem records_tracePut (src r : Nat) : Records s (tracePut s src r) := by
  have hring : ∀ xs, Records s (setTraceRing s src xs) := fun xs => records_of_observe
  unfold tracePut
  dsimp only
  split
  · exact hring _
  · split
    · unfold tracePlace
      dsimp only
      split
      · exact Records.trans records_of_observe records_traceWriteLine
      · exact records_of_observe
    · split
      · exact hring _
      · have hcount : Records s (count64 s 0xC000_05) := records_count (by simp [recordCns])
        exact hcount.trans records_of_observe

theorem records_tickCore : Records s (tickCore s) := by
  unfold tickCore
  split
  · unfold coreRecord
    split
    · dsimp only
      refine (records_draw.trans records_draw).trans ?_
      unfold traceRecord
      split
      · exact records_tracePut ..
      · exact .refl _
    · exact .refl s
  · exact .refl s

theorem tickCore_untraced (h : tracing s 0 0 = false) : tickCore s = s := by
  unfold tickCore coreRecord
  rw [h]
  simp only [Bool.false_eq_true, if_false, ite_self]

/-! ### The channels of the host -/

/-- `t` is `s` after the valid/ready channels have gone on by a cycle. -/
structure ChannelsMove (s t : State) : Prop where
  rest : t = { s with host.valid := t.host.valid, host.beats := t.host.beats, host.locks := t.host.locks,
                      host.responses := t.host.responses }
  valid : ∀ m r, lookupT s.host.valid m = some r → lookupT t.host.valid m = some r
  responses : t.host.responses.Sublist s.host.responses

theorem ChannelsMove.refl (s : State) : ChannelsMove s s := ⟨rfl, fun _ _ h => h, .refl _⟩

theorem ChannelsMove.trans (h : ChannelsMove s t) (g : ChannelsMove t u) : ChannelsMove s u :=
  ⟨by rw [g.rest, h.rest], fun m r hr => g.valid m r (h.valid m r hr), g.responses.trans h.responses⟩

theorem channelsMove_takeBeat (m : Nat) : ChannelsMove s (takeBeat s m) := by
  unfold takeBeat
  split
  · exact .refl s
  · exact ⟨rfl, fun _ _ h => h, .refl _⟩

theorem channelsMove_takeLock (m : Nat) (r : MspReq) : ChannelsMove s (takeLock s m r) := by
  unfold takeLock
  split
  · exact ⟨rfl, fun _ _ h => h, .refl _⟩
  · exact .refl s

theorem channelsMove_presentNext (m : Nat) : ChannelsMove s (presentNext s m) := by
  unfold presentNext
  split
  · next r hv _ =>
    refine (channelsMove_takeLock m r).trans ⟨rfl, fun j x hx => ?_, .refl _⟩
    have hvalid : lookupT (takeLock s m r).host.valid m = none := by
      rw [takeLock_eq]
      exact hv
    have hne : j ≠ m := fun he => by
      rw [he, hvalid] at hx
      cases hx
    exact (lookupT_insertT ..).trans ((if_neg hne).trans hx)
  · exact .refl s

theorem channelsMove_takeResponse (m : Nat) : ChannelsMove s (takeResponse s m) := by
  unfold takeResponse
  split
  · split
    · exact ⟨rfl, fun _ _ h => h, List.erase_sublist ..⟩
    · exact .refl s
  · exact .refl s

/-- The channels of memory-side port `m` in a cycle. -/
def portChannel (s : State) (m : Nat) : State :=
  if unitsRun s (4 + m / 2) then presentNext (if Config.freeReady s.time.cycles (8 + m) then takeBeat s m else s) m else s

theorem channelsMove_portChannel (m : Nat) : ChannelsMove s (portChannel s m) := by
  unfold portChannel
  split
  · refine ChannelsMove.trans ?_ (channelsMove_presentNext m)
    split
    · exact channelsMove_takeBeat m
    · exact .refl s
  · exact .refl s

theorem tickChannels_eq (s : State) : tickChannels s =
    if unitsRun (forEach (upFrom 0 12) portChannel s) 3 then forEach (upFrom 0 8) takeResponse (forEach (upFrom 0 12) portChannel s)
    else forEach (upFrom 0 12) portChannel s := rfl

theorem channelsMove_tickChannels : ChannelsMove s (tickChannels s) := by
  rw [tickChannels_eq]
  have hports : ChannelsMove s (forEach (upFrom 0 12) portChannel s) :=
    foldl_through (R := ChannelsMove) .refl .trans (fun t m _ => channelsMove_portChannel m) s
  generalize forEach (upFrom 0 12) portChannel s = a at hports ⊢
  split
  · exact hports.trans (foldl_through (R := ChannelsMove) .refl .trans (fun t m _ => channelsMove_takeResponse m) a)
  · exact hports

/-! ### A cycle -/

/-- The state before the island's time goes on. -/
def cycled (s : State) : State := tickChannels (tickTrace (tickCore (tickFrames (tickCounts s))))

/-- What a cycle leaves of the state beside the island's time and the address detection. -/
structure Cycled (s t : State) : Prop where
  rest : t = { s with observe := t.observe, cat := t.cat, freeCount := t.freeCount, ports := t.ports, host := t.host }
  store : StoreFrame s t tickCns
  xoff : ∀ p, p < 8 → get t (ofPort p 0x2020_0D) =
    if xoffCounts s p = true then (get s (ofPort p 0x2020_0D) + tickPortCycles s) % 2 ^ 64 else get s (ofPort p 0x2020_0D)
  checkers : ∀ p n, p < 8 → n < 10 → (lane s p n).test = 0 → ∀ cn ∈ checkerCns, get t (ofLane p n cn) = get s (ofLane p n cn)
  ports : ∀ p, port t p = { port s p with frames := (port t p).frames, lanes := (port t p).lanes }
  frames : (s.time.cycles + 1) % frameCycles ≠ 0 → ∀ p, (port t p).frames = (port s p).frames
  valid : ∀ m r, lookupT s.host.valid m = some r → lookupT t.host.valid m = some r
  responses : t.host.responses.Sublist s.host.responses
  untraced : tracing s 0 0 = false → t.observe = { s.observe with bucket := t.observe.bucket } ∧
    (held s = false → t.observe.bucket = min 409600 (s.observe.bucket + 8 * fld (get s 0xC000_02) 63 48)) ∧
    t.host = { s.host with valid := t.host.valid, beats := t.host.beats, locks := t.host.locks,
                           responses := t.host.responses }

theorem recordCns_subset : recordCns ⊆ tickCns := fun c hc => by
  simp only [recordCns, List.mem_append, List.mem_map, mem_upFrom, Nat.zero_le, true_and, Nat.zero_add, List.mem_cons,
    List.not_mem_nil, or_false, or_assoc] at hc
  exact mem_tickCns.mpr (.inr (by rw [← or_assoc, ← or_assoc, ← or_assoc]; exact .inl (by simpa only [or_assoc] using hc)))

theorem notMem_recordCns (h : c < 0x8062_01) : c ∉ recordCns := by
  intro hc
  simp only [recordCns, List.mem_append, List.mem_map, mem_upFrom, List.mem_cons, List.not_mem_nil, or_false] at hc
  rcases hc with (⟨i, -, rfl⟩ | ⟨i, -, rfl⟩) | rfl | rfl <;> omega

theorem LanesMove.tracing (h : LanesMove tickCns s t) : tracing t 0 0 = tracing s 0 0 := by
  have hget : ∀ d, d = 0xE000_02 ∨ d = 0xC200_02 ∨ d = 0xC000_01 ∨ d = 0xC000_02 → Machine.get t d = Machine.get s d := fun d hd =>
    h.get (notMem_tickCns (by omega))
  unfold Machine.tracing tracePath traceCfg stopped domainOn
  rw [hget 0xE000_02 (by simp), hget 0xC200_02 (by simp), hget 0xC000_01 (by simp), hget 0xC000_02 (by simp)]
  rfl

theorem cycled_spec : Cycled s (cycled s) := by
  obtain ⟨hcount, hcheck⟩ := lanesTick_tickCounts (s := s)
  have hxoff := fun q (hq : q < 8) => get_xoffTime_tickCounts (s := s) hq
  unfold cycled
  have hfr := framesMove_tickFrames (s := tickCounts s)
  have hbetween := tickFrames_between (s := tickCounts s)
  have hrec := records_tickCore (s := tickFrames (tickCounts s))
  have hun := tickCore_untraced (s := tickFrames (tickCounts s))
  generalize tickCounts s = a at *
  generalize tickFrames a = b at *
  generalize tickCore b = d at *
  have hch := channelsMove_tickChannels (s := tickTrace d)
  generalize tickChannels (tickTrace d) = t at *
  have htrace : ∀ c q, getRow t c q = getRow d c q := fun c q => getRow_congr (by rw [hch.rest]; rfl) (by rw [hch.rest]; rfl) ..
  have hframe : ∀ c q, getRow b c q = getRow a c q := fun c q => getRow_congr (by rw [hfr.rest]) (by rw [hfr.rest]) ..
  have hlow : ∀ c, c < 0x8062_01 → get t c = get a c := fun c hc =>
    (htrace c 0).trans ((hrec.store c 0 (by decide) (notMem_recordCns hc)).trans (hframe c 0))
  have hport : ∀ p, port t p = port b p := fun p => by
    unfold port
    rw [hch.rest]
    show nth Port.reset p d.ports = _
    rw [hrec.rest]
  have htr : tracing b 0 0 = tracing s 0 0 := by
    rw [← hcount.tracing, hfr.rest]
    rfl
  have hhost : b.host = s.host := by rw [hfr.rest, hcount.rest]
  have hobs : b.observe = s.observe := by rw [hfr.rest, hcount.rest]
  have hcfg : get b 0xC000_02 = get s 0xC000_02 := (hframe ..).trans (hcount.get (notMem_tickCns (by omega)))
  refine ⟨?_, fun c q hq hc => ?_, fun p hp => ?_, fun p n hp hn h0 cn hcn => ?_, fun p => ?_, fun hb p => ?_, fun m r hr => ?_, ?_,
    fun hn => ?_⟩
  · rw [hch.rest]
    unfold tickTrace
    rw [hrec.rest, hfr.rest, hcount.rest]
  · exact (htrace c q).trans ((hrec.store c q hq fun h => hc (recordCns_subset h)).trans
      ((hframe c q).trans (hcount.store c q hq hc)))
  · rw [hlow _ (by unfold ofPort; omega)]
    exact hxoff p hp
  · refine (hlow _ ?_).trans (hcheck p n hp hn h0 cn hcn)
    simp only [checkerCns, List.mem_cons, List.not_mem_nil, or_false] at hcn
    unfold ofLane
    omega
  · rw [hport, hfr.ports, hcount.ports]
  · rw [hport, hbetween (by rw [hcount.rest]; exact hb), hcount.ports]
  · refine hch.valid m r ?_
    show lookupT d.host.valid m = some r
    rw [hrec.valid, hhost]
    exact hr
  · refine hch.responses.trans ?_
    show d.host.responses.Sublist _
    rw [hrec.responses, hhost]
  · have hd : d = b := hun (htr.trans hn)
    subst hd
    have hob : t.observe = (tickTrace d).observe := by rw [hch.rest]
    have hht : t.host = { (tickTrace d).host with valid := t.host.valid, beats := t.host.beats, locks := t.host.locks,
                                                  responses := t.host.responses } := congrArg State.host hch.rest
    refine ⟨?_, fun _ => ?_, ?_⟩
    · rw [hob]
      unfold tickTrace
      rw [hobs]
    · rw [hob]
      unfold tickTrace
      dsimp only
      rw [hobs, hcfg]
    · rw [hht]
      show { d.host with valid := t.host.valid, beats := t.host.beats, locks := t.host.locks, responses := t.host.responses } = _
      rw [hhost]

theorem xoffCounts_held (h : held s = true) (p : Nat) : xoffCounts s p = false := by
  unfold xoffCounts portPowered switchOn
  rw [h]
  simp

/-- A block in reset stays as it is beside the island. -/
theorem cycled_held (h : held s = true) : Cycled s s := by
  refine ⟨rfl, .refl _, fun p _ => ?_, fun _ _ _ _ _ _ _ => rfl, fun _ => rfl, fun _ _ => rfl, fun _ _ h => h, .refl _,
    fun _ => ⟨rfl, fun hn => absurd (h.symm.trans hn) (by decide), rfl⟩⟩
  rw [xoffCounts_held h, if_neg (by decide)]

/-- Duplicate address detection ends while the management firmware runs (R272). -/
def detected (s : State) : State := if s.mgmt.dad && firmwareRuns s then { s with mgmt.dad := false } else s

theorem dad_same {b : Bool} (h : s.mgmt.dad = b) : { s with mgmt.dad := b } = s := by
  subst h
  rfl

theorem detected_eq (s : State) : detected s = { s with mgmt.dad := s.mgmt.dad && !firmwareRuns s } := by
  unfold detected
  split
  · next h =>
    obtain ⟨hd, hf⟩ := Bool.and_eq_true .. ▸ h
    rw [hd, hf]
    rfl
  · next h =>
    refine (dad_same ?_).symm
    cases hd : s.mgmt.dad with
    | false => rfl
    | true =>
      rw [hd, Bool.true_and] at h
      rw [Bool.eq_false_iff.mpr h]
      rfl

theorem tick_eq (h : s.power.porLow = false) : tick s = detected (tickTime (if held s then s else cycled s)) := by
  unfold tick
  rw [h]
  rfl

/-- The cycle as the island's time and address detection leave it. -/
theorem tick_island (h : s.power.porLow = false) : ∃ a, (s.power.blockLow = true → a = s) ∧ Cycled s a ∧
    tick s = { a with time := (tickTime a).time, mgmt.dad := a.mgmt.dad && !firmwareRuns a } := by
  have hheld : held s = s.power.blockLow := by
    unfold held
    rw [h, Bool.false_or]
  have hcycled : Cycled s (if held s then s else cycled s) := by
    split
    · next h => exact cycled_held h
    · exact cycled_spec
  refine ⟨if held s then s else cycled s, fun hb => if_pos (hheld.trans hb), hcycled, ?_⟩
  rw [tick_eq h, detected_eq]
  generalize (if held s then s else cycled s) = a
  rfl

theorem Cycled.firmwareRuns (h : Cycled s t) : firmwareRuns t = firmwareRuns s := by
  unfold Machine.firmwareRuns
  rw [show Machine.get t 0x8010_03 = Machine.get s 0x8010_03 from h.store _ 0 (by decide) (notMem_tickCns (by omega)), h.rest]

/-- The rate word is not counted. -/
theorem Cycled.rate (h : Cycled s t) : get t 0x9002_04 = get s 0x9002_04 :=
  h.store _ 0 (by decide) (notMem_tickCns (by omega))

end

/-- Settles O2: the phases of `tick` one after another, each with what it leaves. -/
theorem idleStepIsOneCycle : Obligations.IdleStepIsOneCycle := by
  unfold Obligations.IdleStepIsOneCycle
  intro s hp
  refine ⟨tick s, by unfold step; rw [hp], fun hlow => by unfold tick; rw [hlow]; rfl, fun hlow => ?_⟩
  obtain ⟨a, hblock, hc, ht⟩ := tick_island hlow
  have hget : ∀ c, get (tick s) c = get a c := fun c => getRow_congr (by rw [ht]) (by rw [ht]) ..
  have hports : ∀ p, port (tick s) p = port a p := fun p => by rw [ht]; rfl
  have hhost : (tick s).host = a.host := by rw [ht]
  have hobs : (tick s).observe = a.observe := by rw [ht]
  refine ⟨?_, ?_, fun p hp => ?_, fun p n hp hn h0 cn hcn => (hget _).trans (hc.checkers p n hp hn h0 cn hcn), ?_, fun p => ?_,
    fun hf p => ?_, fun m r hr => ?_, ?_, fun htr => ?_, fun hb => ?_, ?_⟩
  · rw [ht]
    unfold tickTime
    dsimp only
    rw [hc.rate, hc.rest]
  · rw [ht]
    dsimp only
    rw [hc.firmwareRuns, hc.rest]
  · refine (hget _).trans ((hc.xoff p hp).trans ?_)
    cases hb : s.power.blockLow with
    | false => rfl
    | true =>
      have hheld : held s = true := by unfold held; rw [hb, Bool.or_true]
      rw [xoffCounts_held hheld]
      rfl
  · exact StoreFrame.trans (t := a) hc.store (.of_cat (by rw [ht]) (by rw [ht]))
  · rw [hports]
    exact hc.ports p
  · rw [hports]
    exact hc.frames hf p
  · rw [hhost]
    exact hc.valid m r hr
  · rw [hhost]
    exact hc.responses
  · obtain ⟨h1, h2, h3⟩ := hc.untraced htr
    rw [hhost, hobs]
    exact ⟨h1, fun hb => h2 (by unfold held; rw [hlow, hb]; rfl), h3⟩
  · rw [ht, hblock hb]
  · rw [ht]
    dsimp only
    rw [hc.rest]

end Sys2Proof.Machine
end

section
/-! What a failed or flushed link unwinds: trackers that end, pairs given up, slips, loans and invocations told (R56, R83,
R225). None of it reaches a port beyond its queues, nor what the ports and lanes hold in the store. -/

namespace Sys2Proof.Machine

section
variable {s t u : State} {p q c : Nat}

/-- A port without what is to leave it and without the places and buckets of packets that are dropped. -/
def bare (x : Port) : Port := { x with queues := [], active := [], tx := [], xoff := false, freed := [], buckets := [] }

/-- Tracker `i` is out of use and in quarantine. -/
def Quarantined (s : State) (i : Nat) : Prop := i ∈ s.switch.quarantine ∧ lookupT s.switch.trackers i = none

/-- Tracker `i` is not free: it is in use, or in quarantine. -/
def Tracked (s : State) (i : Nat) : Prop := (lookupT s.switch.trackers i).isSome = true ∨ i ∈ s.switch.quarantine

/-- An object of the ports and lanes, the counts of flushed packets apart. -/
def PortObject (c : Nat) : Prop := 0x2000_00 ≤ c ∧ c < 0x4000_00 ∧ c % 0x1_0000 ≠ 0x200C

/-- `t` is `s` after something has been unwound. -/
structure Unwinds (s t : State) : Prop where
  part : t.part = s.part
  get : ∀ c, PortObject c → get t c = get s c
  count : t.ports.length = s.ports.length
  ports : ∀ j, bare (port t j) = bare (port s j)
  drained : StaysDrained s t
  quarantined : ∀ i, Quarantined s i → Quarantined t i
  tracked : ∀ i, Tracked s i → Tracked t i

theorem portObject_linkState (hp : p < 8) : PortObject (ofPort p 0x2000_01) := by
  unfold PortObject ofPort
  omega

theorem Unwinds.refl (s : State) : Unwinds s s := ⟨rfl, fun _ _ => rfl, rfl, fun _ => rfl, .refl s, fun _ h => h, fun _ h => h⟩

theorem Unwinds.portTakes (h : Unwinds s t) (p : Nat) (hp : p < 8) : Machine.portTakes t p = Machine.portTakes s p :=
  portTakes_congr (h.get _ (portObject_linkState hp))

theorem Unwinds.trans (h : Unwinds s t) (g : Unwinds t u) : Unwinds s u :=
  ⟨g.part.trans h.part, fun c hc => (g.get c hc).trans (h.get c hc), g.count.trans h.count,
    fun j => (g.ports j).trans (h.ports j), h.drained.trans g.drained h.portTakes,
    fun i hi => g.quarantined i (h.quarantined i hi), fun i hi => g.tracked i (h.tracked i hi)⟩

/-! ### Steps -/

theorem unwinds_rest (hp : t.part = s.part) (hc : t.cat = s.cat) (hx : t.ports = s.ports)
    (hq : t.switch.quarantine = s.switch.quarantine) (ht : t.switch.trackers = s.switch.trackers) : Unwinds s t := by
  refine ⟨hp, fun _ _ => getRow_congr hp hc .., by rw [hx], fun j => by rw [port_congr hx], .of_ports hx, fun i hi => ?_, fun i hi => ?_⟩
  · unfold Quarantined
    rw [hq, ht]
    exact hi
  · unfold Tracked
    rw [hq, ht]
    exact hi

theorem unwinds_setRow {r v : Nat} (h : 0x4000_00 ≤ c) : Unwinds s (setRow s c r v) := by
  refine ⟨rfl, fun d ⟨_, hd, _⟩ => getRow_setRow_ne _ _ ?_, rfl, fun _ => rfl, .of_ports rfl, fun _ hi => hi, fun _ hi => hi⟩
  unfold catKey
  omega

theorem unwinds_set {v : Nat} (h : 0x4000_00 ≤ c ∨ c < 0x2000_00) : Unwinds s (set s c v) := by
  refine ⟨rfl, fun d ⟨_, hd, _⟩ => get_set_ne _ _ (by omega), rfl, fun _ => rfl, .of_ports rfl, fun _ hi => hi, fun _ hi => hi⟩

theorem unwinds_setF {r hi lo x : Nat} (h : 0x4000_00 ≤ c) : Unwinds s (setF s c r hi lo x) := unwinds_setRow h

theorem unwinds_setPort {f : Port → Port} (hb : ∀ x, bare (f x) = bare x) (hd : Drained (port s p) → Drained (f (port s p))) :
    Unwinds s (setPort s p f) := by
  refine ⟨rfl, fun _ _ => getRow_congr rfl rfl .., length_setPort f, fun j => ?_, fun j _ _ hj => ?_, fun _ hi => hi, fun _ hi => hi⟩
  · rw [port_setPort]
    split
    · exact hb _
    · rfl
  · rw [port_setPort]
    split
    · next e =>
      obtain ⟨rfl, -⟩ := e
      exact hd hj
    · exact hj

theorem Mirrors.unwinds (h : Mirrors s t) : Unwinds s t := by
  have hs : t.switch.quarantine = s.switch.quarantine := congrArg (·.switch.quarantine) h.rest
  have hp : t.ports.map unloaded = s.ports.map unloaded := congrArg (·.ports) h.rest
  refine ⟨h.part, fun c ⟨_, hc, h0⟩ => h.get (notMem_mirrorCns hc h0) h0, ?_, fun j => ?_, h.drained, fun i hi => ?_, fun i hi => ?_⟩
  · have := congrArg List.length hp
    simpa only [List.length_map] using this
  · have hj : unloaded (port t j) = unloaded (port s j) := by
      unfold port
      rw [← nth_map unloaded, ← nth_map unloaded, hp]
    have he := congrArg bare hj
    exact he
  · unfold Quarantined
    rw [hs, h.trackers]
    exact hi
  · unfold Tracked
    rw [hs, h.trackers]
    exact hi

theorem Fails.unwinds (h : Fails s t) : Unwinds s t := h.mirrors.unwinds

theorem Sends.unwinds (h : Sends s t) : Unwinds s t := h.mirrors.unwinds

theorem unwinds_ite {b : Prop} [Decidable b] (ht : Unwinds s t) (hu : Unwinds s u) : Unwinds s (if b then t else u) := by
  split
  · exact ht
  · exact hu

theorem unwinds_foldl {α : Type} {g : State → α → State} {xs : List α} (hg : ∀ t, ∀ x ∈ xs, Unwinds t (g t x)) (s : State) :
    Unwinds s (xs.foldl g s) := foldl_through (R := Unwinds) .refl .trans hg s

theorem unwinds_forEach {α : Type} {g : State → α → State} {xs : List α} (hg : ∀ t x, Unwinds t (g t x)) (s : State) :
    Unwinds s (forEach xs g s) := unwinds_foldl (fun t x _ => hg t x) s

theorem Records.unwinds (h : Records s t) : Unwinds s t := by
  have hp : t.part = s.part := by rw [h.rest]
  refine ⟨hp, fun c ⟨_, hc, _⟩ => h.store c 0 (by decide) ?_, by rw [h.rest], fun j => by rw [h.rest]; rfl, ?_, fun i hi => ?_, fun i hi => ?_⟩
  · have hall : ∀ x ∈ recordCns, 0x4000_00 ≤ x := by decide
    exact fun hm => absurd (hall c hm) (by omega)
  · exact .of_ports (by rw [h.rest])
  · rw [h.rest]
    exact hi
  · rw [h.rest]
    exact hi

theorem unwinds_odc (event n : Nat) (o : Option Nat) (x : Option Packet) : Unwinds s (odc s event o x n) :=
  (records_odc ..).unwinds

/-! ### Pairs, trackers and invocations -/

theorem unwinds_abandonPair (e : Pair) (lost : Bool) : Unwinds s (abandonPair s e lost) := by
  have hput : ∀ (a : State) e, Unwinds a (putPair a e) := fun a e => by
    unfold putPair countPairs
    refine Unwinds.trans ?_ (unwinds_setF (by decide))
    exact unwinds_rest rfl rfl rfl rfl rfl
  have hlost : ∀ a : State, Unwinds a (if lost then setLost a e.issuer true else a) := fun a =>
    unwinds_ite (unwinds_setF (c := issuerCn) (by decide)) (.refl a)
  unfold abandonPair
  refine Unwinds.trans ?_ (hlost _)
  refine Unwinds.trans ?_ (unwinds_set (.inl (by decide)))
  refine Unwinds.trans ?_ (hput ..)
  exact unwinds_setF (by decide)

theorem unwinds_abandonPairs (f : Pair → Bool) (lost : Bool) : Unwinds s (abandonPairs s f lost) :=
  unwinds_forEach (fun _ e => unwinds_abandonPair e lost) s

theorem unwinds_recordInvoke (cn status digest : Nat) (rq : Requester) : Unwinds s (recordInvoke s cn status digest rq) := by
  unfold recordInvoke
  exact unwinds_ite (unwinds_rest rfl rfl rfl rfl rfl) (.refl s)

theorem unwinds_returnInvocation (v : Invocation) (status result : Nat) (h : 0x4000_00 ≤ v.cn) :
    Unwinds s (returnInvocation s v status result) := by
  have hset : Unwinds s (if v.latest then set s v.cn (cmdValue 2 status result) else s) :=
    unwinds_ite (unwinds_set (.inl h)) (.refl s)
  unfold returnInvocation
  dsimp only
  refine (hset.trans (unwinds_recordInvoke v.cn status v.digest v.rq)).trans ?_
  exact unwinds_ite (.refl _) (unwinds_rest rfl rfl rfl rfl rfl)

theorem runningInvocation_cn {cn arg : Nat} {v : Invocation} (h : runningInvocation s cn arg = some v) : v.cn = cn := by
  have := List.find?_some h
  simp only [Bool.and_eq_true, beq_iff_eq] at this
  exact this.1

theorem unwinds_endInvocation {cn : Nat} (arg status result : Nat) (h : 0x4000_00 ≤ cn) :
    Unwinds s (endInvocation s cn arg status result) := by
  unfold endInvocation
  split
  · exact .refl s
  · next v hv =>
    have hrun : Unwinds s { s with mgmt.running := s.mgmt.running.erase v } := unwinds_rest rfl rfl rfl rfl rfl
    exact hrun.trans (unwinds_ite (unwinds_rest rfl rfl rfl rfl rfl)
      (unwinds_returnInvocation v status result (by rw [runningInvocation_cn hv]; exact h)))

theorem unwinds_endInvocations {cn : Nat} (f : Nat → Bool) (status : Nat) (h : 0x4000_00 ≤ cn) :
    Unwinds s (endInvocations s cn f status) := unwinds_forEach (fun _ a => unwinds_endInvocation a status 0 h) s

theorem unwinds_setNonposted (i n : Nat) : Unwinds s (setNonposted s i n) := unwinds_setF (c := issuerCn) (by decide)

/-- Tracker `i` leaves its use. -/
def trackerGone (s : State) (i : Nat) (again : Bool) : State :=
  { s with switch.trackers := eraseT s.switch.trackers i,
           switch.quarantine := if again then s.switch.quarantine ++ [i] else s.switch.quarantine }

theorem releaseTracker_unwinds (i status : Nat) (x : Tracker) (again : Bool) :
    Unwinds (trackerGone s i again) (releaseTracker s i x status again) := by
  unfold releaseTracker
  refine Unwinds.trans ?_ (unwinds_ite (unwinds_setF (c := issuerCn) (by decide)) (.refl _))
  exact unwinds_ite (.refl _) (unwinds_setNonposted ..)

theorem mem_trackerGone {i j : Nat} {again : Bool} (h : j ∈ s.switch.quarantine) : j ∈ (trackerGone s i again).switch.quarantine := by
  unfold trackerGone
  dsimp only
  split
  · exact List.mem_append_left _ h
  · exact h

theorem lookup_trackerGone (i j : Nat) (again : Bool) : lookupT (trackerGone s i again).switch.trackers j =
    if j = i then none else lookupT s.switch.trackers j := lookupT_eraseT ..

theorem quarantined_trackerGone {i j : Nat} {again : Bool} (h : Quarantined s j) : Quarantined (trackerGone s i again) j := by
  obtain ⟨hq, hl⟩ := h
  exact ⟨mem_trackerGone hq, by rw [lookup_trackerGone, hl, ite_self]⟩

/-- A tracker that leaves its use and was free in `s` leaves what followed on `s` as it was. -/
theorem Unwinds.released {i status : Nat} {x : Tracker} {again : Bool} (h : Unwinds s t) (hi : ¬ Tracked s i) :
    Unwinds s (releaseTracker t i x status again) := by
  have hgone : Unwinds s (trackerGone t i again) := by
    refine ⟨h.part, fun c hc => Eq.trans (getRow_congr rfl rfl ..) (h.get c hc), h.count, h.ports,
      h.drained.trans (.of_ports rfl) h.portTakes, fun j hj => quarantined_trackerGone (h.quarantined j hj), fun j hj => ?_⟩
    have hne : j ≠ i := fun e => hi (e ▸ hj)
    rcases h.tracked j hj with hs | hq
    · exact .inl (by rw [lookup_trackerGone, if_neg hne]; exact hs)
    · exact .inr (mem_trackerGone hq)
  exact hgone.trans (releaseTracker_unwinds ..)

/-- A tracker that leaves its use by way of quarantine. -/
theorem unwinds_trackerGone (i : Nat) : Unwinds s (trackerGone s i true) := by
  refine ⟨rfl, fun _ _ => getRow_congr rfl rfl .., rfl, fun _ => rfl, .of_ports rfl, fun j hj => quarantined_trackerGone hj, fun j hj => ?_⟩
  by_cases hne : j = i
  · exact .inr (List.mem_append_right _ (by simp [hne]))
  · rcases hj with hs | hq
    · exact .inl (by rw [lookup_trackerGone, if_neg hne]; exact hs)
    · exact .inr (mem_trackerGone hq)

theorem unwinds_releaseTracker (i status : Nat) (x : Tracker) : Unwinds s (releaseTracker s i x status true) :=
  (unwinds_trackerGone i).trans (releaseTracker_unwinds ..)

theorem quarantined_releaseTracker (i status : Nat) (x : Tracker) : Quarantined (releaseTracker s i x status true) i := by
  refine (releaseTracker_unwinds i status x true).quarantined i ⟨List.mem_append_right _ (by simp), ?_⟩
  rw [lookup_trackerGone, if_pos rfl]

theorem trackerFree_notTracked {i : Nat} (h : trackerFree s i = true) : ¬ Tracked s i := by
  unfold trackerFree at h
  simp only [Bool.and_eq_true, Bool.not_eq_true', List.contains_eq_mem, decide_eq_false_iff_not] at h
  obtain ⟨⟨hl, hq⟩, -⟩ := h
  rintro (hs | hm)
  · rw [Option.isNone_iff_eq_none] at hl
    rw [hl] at hs
    cases hs
  · exact hq hm

theorem unwinds_allocTracker {x : Tracker} {i turn : Nat} (h : allocTracker s x = some (i, turn, t)) :
    Unwinds s t ∧ ¬ Tracked s i := by
  unfold allocTracker at h
  have hdraw : Unwinds s (draw s).2 := unwinds_rest rfl rfl rfl rfl rfl
  generalize draw s = d at h hdraw
  obtain ⟨n, a⟩ := d
  dsimp only at h hdraw
  split at h
  · cases h
  · next j hj =>
    have hfree : ¬ Tracked a j := trackerFree_notTracked (List.find?_some hj)
    simp only [Option.some.injEq, Prod.mk.injEq] at h
    obtain ⟨rfl, -, rfl⟩ := h
    have hput : ∀ turns (y : Tracker), Unwinds a { a with switch.turns := turns, switch.trackers := insertT a.switch.trackers j y } := by
      intro turns y
      have hlook : ∀ k, k ≠ j → lookupT (insertT a.switch.trackers j y) k = lookupT a.switch.trackers k := fun k hk => by
        rw [lookupT_insertT, if_neg hk]
      refine ⟨rfl, fun _ _ => getRow_congr rfl rfl .., rfl, fun _ => rfl, .of_ports rfl, fun k ⟨hq, hl⟩ => ⟨hq, ?_⟩, fun k hk => ?_⟩
      · exact (hlook k fun e => hfree (.inr (e ▸ hq))).trans hl
      · rcases hk with hs | hq
        · exact .inl (by rw [hlook k fun e => hfree (.inl (e ▸ hs))]; exact hs)
        · exact .inr hq
    have hin := fun turns y => hdraw.trans ((hput turns y).trans (unwinds_odc 0x05 1 none none))
    refine ⟨?_, fun hs => hfree (hdraw.tracked _ hs)⟩
    split
    · exact hin _ _
    · exact (hin _ _).trans (unwinds_setNonposted ..)

/-- The spare that stood in for tracker `i` has failed too. -/
def spareSpent (s : State) (i : Nat) : State :=
  match lookupT s.recovery.spareTrackers i with
  | some j => { s with recovery.badTrackers := s.recovery.badTrackers ++ [j] }
  | none => s

/-- Tracker `i` is replaced where a spare is left, and else taken out of use. -/
def spareTaken (s : State) (i kind : Nat) : State :=
  match freeSpareTracker s with
  | some j =>
    let s := { s with recovery.spareTrackers := insertT s.recovery.spareTrackers i j }
    hardFailure (set s 0xF101_01 s.recovery.spareTrackers.length) 0 15 0x2200 kind 0 i
  | none =>
    let s := { s with switch.retired := s.switch.retired ++ [i],
                      recovery.spareTrackers := eraseT s.recovery.spareTrackers i }
    let s := set s 0xF101_01 s.recovery.spareTrackers.length
    let s := set s 0xF101_02 (get s 0xF101_02 + 1)
    let s := set s 0x1010_03 (get s 0x1010_03 - 1)
    hardFailure s 0 15 0x2200 kind 1 i

theorem replaceTracker_eq (s : State) (i kind : Nat) : replaceTracker s i kind = spareTaken (spareSpent s i) i kind := rfl

theorem unwinds_spareSpent (i : Nat) : Unwinds s (spareSpent s i) := by
  unfold spareSpent
  split
  · exact unwinds_rest rfl rfl rfl rfl rfl
  · exact .refl s

theorem unwinds_spareTaken (i kind : Nat) : Unwinds s (spareTaken s i kind) := by
  unfold spareTaken
  split
  · refine Unwinds.trans ?_ (fails_hardFailure ..).unwinds
    refine Unwinds.trans ?_ (unwinds_set (.inl (by decide)))
    exact unwinds_rest rfl rfl rfl rfl rfl
  · refine Unwinds.trans ?_ (fails_hardFailure ..).unwinds
    refine Unwinds.trans ?_ (unwinds_set (.inr (by decide)))
    refine Unwinds.trans ?_ (unwinds_set (.inl (by decide)))
    refine Unwinds.trans ?_ (unwinds_set (.inl (by decide)))
    exact unwinds_rest rfl rfl rfl rfl rfl

theorem unwinds_replaceTracker (i kind : Nat) : Unwinds s (replaceTracker s i kind) := by
  rw [replaceTracker_eq]
  exact (unwinds_spareSpent i).trans (unwinds_spareTaken i kind)

theorem unwinds_sendNonPosted (k : Packet) (x : Tracker) : Unwinds s (sendNonPosted s k x).1 := by
  unfold sendNonPosted
  split
  · exact .refl s
  · next h =>
    obtain ⟨halloc, hfree⟩ := unwinds_allocTracker h
    dsimp only
    generalize hk : sealed _ = k'
    have hsend := halloc.trans (sends_send (k := k') (e := none)).unwinds
    split
    · next e => rw [e] at hsend; exact hsend
    · next e => rw [e] at hsend; exact hsend.released hfree
    · next e => rw [e] at hsend; exact hsend.released hfree

/-! ### Loans -/

theorem unwinds_endUse (k : Nat) : Unwinds s (endUse s k) := by
  unfold endUse
  refine unwinds_ite (.refl s) ?_
  dsimp only
  refine Unwinds.trans ?_ (unwinds_setF (by decide))
  exact unwinds_rest rfl rfl rfl rfl rfl

theorem unwinds_mirrorRow (cn row : Nat) : Unwinds s (mirrorRow s cn row) := (mirrors_mirrorChange _).unwinds

theorem unwinds_reviewLoans (q : Nat) : Unwinds s (reviewLoans s q) := by
  unfold reviewLoans
  dsimp only
  exact Unwinds.trans (unwinds_set (.inl (by decide))) (unwinds_ite (fails_reportOwn ..).unwinds (.refl _))

theorem unwinds_freeLoan (n : Nat) : Unwinds s (freeLoan s n) := by
  have hrow : Unwinds s (mirrorRow (setF s loanCn n 255 254 0) loanCn n) := by
    refine Unwinds.trans ?_ (unwinds_mirrorRow ..)
    exact unwinds_setF (by decide)
  have hbucket : ∀ (a : State) q m, Unwinds a (reviewLoans (setPort (set a (reservedCn q) m) q fun x =>
      { x with buckets := eraseT x.buckets n }) q) := fun a q m => by
    refine Unwinds.trans ?_ (unwinds_reviewLoans q)
    refine Unwinds.trans ?_ (unwinds_setPort ?_ ?_)
    · exact unwinds_set (.inl (by unfold reservedCn; omega))
    · exact fun _ => rfl
    · exact fun h => h
  have huse : ∀ a : State, Unwinds a (match lookupT a.switch.loanUses n with
      | some u => endUse { a with switch.loanUses := eraseT a.switch.loanUses n } u
      | none => a) := fun a => by
    split
    · refine Unwinds.trans ?_ (unwinds_endUse _)
      exact unwinds_rest rfl rfl rfl rfl rfl
    · exact .refl a
  unfold freeLoan
  dsimp only
  refine unwinds_ite (.refl s) ?_
  refine hrow.trans ?_
  generalize mirrorRow (setF s loanCn n 255 254 0) loanCn n = a
  refine Unwinds.trans ?_ (huse _)
  split
  · exact hbucket ..
  · exact .refl a

theorem unwinds_loanOpened (n status : Nat) : Unwinds s (loanOpened s n status) := by
  have hopen : Unwinds s (if loanState s n ≠ 1 then s
      else if status = stOk then mirrorRow (setF s loanCn n 255 254 2) loanCn n else freeLoan s n) :=
    unwinds_ite (.refl s)
      (unwinds_ite (Unwinds.trans (unwinds_setF (by decide)) (unwinds_mirrorRow ..)) (unwinds_freeLoan n))
  unfold loanOpened
  exact (hopen.trans (unwinds_endInvocations _ _ (by decide))).trans (unwinds_endInvocations _ _ (by decide))

theorem unwinds_loanClosedBelow (n status : Nat) : Unwinds s (loanClosedBelow s n status) := by
  unfold loanClosedBelow
  refine Unwinds.trans (unwinds_ite ?_ (.refl s)) (unwinds_endInvocations _ _ (by decide))
  exact (unwinds_freeLoan n).trans (unwinds_endInvocations _ _ (by decide))

theorem unwinds_invokeAnswered (purpose : MgmtPurpose) (status : Nat) : Unwinds s (invokeAnswered s purpose status) := by
  cases purpose with
  | abort _ => exact .refl s
  | loanOpen n => exact unwinds_loanOpened n status
  | loanClose n => exact unwinds_loanClosedBelow n status

/-! ### Slips -/

theorem unwinds_updCtx (a k : Nat) (f : SlipCtx → SlipCtx) : Unwinds s (updCtx s a k f) := unwinds_rest rfl rfl rfl rfl rfl

theorem unwinds_updReq (a k r : Nat) (f : SlipReq → SlipReq) : Unwinds s (updReq s a k r f) := unwinds_updCtx ..

theorem unwinds_updAccess (a : Nat) (f : Access → Access) : Unwinds s (updAccess s a f) := (records_updAccess a f).unwinds

theorem unwinds_innerAccess (kind : AccessKind) (pair : Option Nat) (uses : List Nat) (n : Nat) :
    Unwinds s (innerAccess s kind pair uses n).2 := unwinds_rest rfl rfl rfl rfl rfl

theorem unwinds_startLocal (x : SlipCtx) (r pos off n : Nat) (data : Option (List Byte)) (poison : Bool) :
    Unwinds s (startLocal s x r pos off n data poison) := by
  unfold startLocal
  split
  · exact (unwinds_updCtx ..).trans (unwinds_updReq ..)
  · exact unwinds_ite ((unwinds_innerAccess ..).trans (unwinds_updAccess ..)) (records_hostAccess ..).unwinds

theorem unwinds_startLocals (a k r : Nat) (data : Option (List Byte)) (pieces : List (Nat × Nat × Nat)) :
    Unwinds s (startLocals s a k r data pieces) := by
  refine unwinds_foldl (fun t e _ => ?_) s
  split
  · exact unwinds_startLocal ..
  · exact .refl t

theorem unwinds_dumpCapture (a k pos : Nat) (bs : List Byte) : Unwinds s (dumpCapture s a k pos bs) := by
  unfold dumpCapture
  exact unwinds_ite (unwinds_rest rfl rfl rfl rfl rfl) (.refl s)

theorem unwinds_pulled (a k r : Nat) (bs : List Byte) : Unwinds s (pulled s a k r bs) := by
  unfold pulled
  split
  · exact .refl s
  · split
    · exact .refl s
    · exact ((unwinds_updReq ..).trans (unwinds_dumpCapture ..)).trans (unwinds_startLocals ..)

theorem unwinds_endReq (a k r status : Nat) (f : Option Nat) : Unwinds s (endReq s a k r status f) :=
  (unwinds_ite (.refl s) (unwinds_updCtx ..)).trans (unwinds_updReq ..)

theorem unwinds_dumpStart (a k : Nat) : Unwinds s (dumpStart s a k) := by
  have hnote : ∀ r n, Unwinds s (noteForeign s r n) := fun r n => by
    unfold noteForeign
    exact unwinds_ite (.refl s) (unwinds_rest rfl rfl rfl rfl rfl)
  unfold dumpStart
  dsimp only
  exact unwinds_ite (unwinds_set (.inl (by decide))) ((hnote ..).trans (unwinds_rest rfl rfl rfl rfl rfl))

theorem unwinds_offerSlip (a k bits : Nat) : Unwinds s (offerSlip s a k bits) := by
  unfold offerSlip
  refine unwinds_ite (.refl s) ?_
  split
  · exact .refl s
  · next r w _ =>
    have hcount : Unwinds s (setRow s 0xC101_00 r ((getRow s 0xC101_00 r + 1) % 2 ^ 64)) := unwinds_setRow (by decide)
    refine hcount.trans ?_
    exact unwinds_ite (unwinds_dumpStart ..) (unwinds_ite (fails_triggerStop ..).unwinds (.refl _))

theorem unwinds_probeAnswered (a k status offset hold endpoint issuer : Nat) :
    Unwinds s (probeAnswered s a k status offset hold endpoint issuer) := by
  have hrel : Unwinds s (if status = stOk then releaseHold s issuer endpoint hold else s) :=
    unwinds_ite (unwinds_rest rfl rfl rfl rfl rfl) (.refl s)
  have hoffer : ∀ b : State, Unwinds b (offerAdmitted b a k) := fun b => by
    unfold offerAdmitted
    split
    · exact unwinds_ite (unwinds_offerSlip ..) (.refl b)
    · exact .refl b
  unfold probeAnswered
  split
  · exact unwinds_ite ((unwinds_updCtx ..).trans (hoffer _)) hrel
  · exact hrel

/-! ### Trackers that end -/

theorem unwinds_espPieceDone (a piece status : Nat) (data : List Byte) : Unwinds s (espPieceDone s a piece status data) := by
  unfold espPieceDone
  split
  · exact .refl s
  · exact unwinds_ite (unwinds_rest rfl rfl rfl rfl rfl) (unwinds_rest rfl rfl rfl rfl rfl)

theorem unwinds_ownerDone (x : Tracker) (status offset hold : Nat) (bs rd : List Byte) :
    Unwinds s (ownerDone s x status offset hold bs rd) := by
  unfold ownerDone
  split
  · exact unwinds_espPieceDone ..
  · exact unwinds_ite (unwinds_pulled ..) (unwinds_endReq ..)
  · exact unwinds_probeAnswered ..
  · exact unwinds_invokeAnswered ..

theorem completeTracker_unwinds (i status offset hold : Nat) (x : Tracker) (again : Bool) (bs rd : List Byte) :
    Unwinds (releaseTracker s i x status again) (completeTracker s i x status again offset hold bs rd) :=
  (unwinds_ite (unwinds_replaceTracker i 2) (.refl _)).trans (unwinds_ownerDone ..)

theorem unwinds_endTracker (i status : Nat) : Unwinds s (endTracker s i status true) := by
  unfold endTracker
  split
  · exact .refl s
  · exact (unwinds_releaseTracker ..).trans (completeTracker_unwinds ..)

/-- A tracker that has ended is in quarantine. -/
theorem quarantined_endTracker {i : Nat} (status : Nat) (h : Tracked s i) : Quarantined (endTracker s i status true) i := by
  unfold endTracker
  split
  · next hn =>
    rcases h with hs | hq
    · rw [hn] at hs
      cases hs
    · exact ⟨hq, hn⟩
  · exact (completeTracker_unwinds ..).quarantined i (quarantined_releaseTracker ..)

theorem unwinds_endAllTrackers (status : Nat) (xs : List Nat) :
    Unwinds s (forEach xs (fun t i => endTracker t i status true) s) := unwinds_forEach (fun _ i => unwinds_endTracker i status) s

theorem quarantined_endAllTrackers {status i : Nat} {xs : List Nat} (h : Tracked s i) (hi : i ∈ xs) :
    Quarantined (forEach xs (fun t i => endTracker t i status true) s) i := by
  induction xs generalizing s with
  | nil => cases hi
  | cons x xs ih =>
    rcases List.mem_cons.mp hi with rfl | hm
    · exact (unwinds_endAllTrackers status xs).quarantined i (quarantined_endTracker status h)
    · exact ih ((unwinds_endTracker x status).tracked i h) hm

theorem unwinds_endTrackers (f : Tracker → Bool) (status : Nat) : Unwinds s (endTrackers s f status true) :=
  unwinds_endAllTrackers ..

theorem tracked_of_mem {e : Nat × Tracker} (h : e ∈ s.switch.trackers) : Tracked s e.1 := by
  refine .inl ?_
  obtain ⟨i, x⟩ := e
  generalize s.switch.trackers = xs at h
  induction xs with
  | nil => cases h
  | cons y ys ih =>
    unfold lookupT
    split
    · rfl
    · rcases List.mem_cons.mp h with rfl | hm
      · exact absurd rfl ‹_›
      · exact ih hm

/-- A tracker that is to end has ended. -/
theorem notMem_endTrackers {f : Tracker → Bool} {status : Nat} {e : Nat × Tracker} (h : e ∈ s.switch.trackers) (hf : f e.2 = true)
    (hu : Unwinds (endTrackers s f status true) u) : e ∉ u.switch.trackers := by
  have hq : Quarantined (endTrackers s f status true) e.1 :=
    quarantined_endAllTrackers (tracked_of_mem h) (List.mem_map_of_mem (List.mem_filter.mpr ⟨h, hf⟩))
  intro hm
  have ht := tracked_of_mem (s := { u with switch.quarantine := [] }) hm
  obtain ⟨-, hnone⟩ := hu.quarantined _ hq
  rcases ht with hs | hn
  · have hs' : (lookupT u.switch.trackers e.1).isSome = true := hs
    rw [hnone] at hs'
    cases hs'
  · cases hn

/-! ### Packets of loans -/

theorem Frees.unwinds (h : Frees s t) : Unwinds s t := by
  have hp : t.part = s.part := by rw [h.rest]
  have hc : t.cat = s.cat := by rw [h.rest]
  refine ⟨hp, fun _ _ => getRow_congr hp hc .., h.count, fun j => ?_, fun j _ _ hd => ?_, fun i hi => ?_, fun i hi => ?_⟩
  · have hb := congrArg bare (h.ports j)
    exact hb
  · have hq := congrArg Port.queues (h.ports j)
    have ht := congrArg Port.tx (h.ports j)
    exact ⟨Eq.trans hq hd.1, Eq.trans ht hd.2⟩
  · rw [h.rest]
    exact hi
  · rw [h.rest]
    exact hi

theorem unwinds_discarded (n : Nat) (r : Option RxPlace) : Unwinds s (freeRx (countHopDiscard s n) r) := by
  refine Unwinds.trans ?_ (frees_freeRx r).unwinds
  exact unwinds_setF (by decide)

theorem queueOf_of_drained (h : Drained (port s p)) (q : Nat) : queueOf s p q = [] := by
  unfold queueOf
  rw [h.1]
  rfl

theorem unwinds_setQueue {ds : List Desc} (n : Nat) (hd : Drained (port s p) → ds = []) : Unwinds s (setQueue s p n ds) := by
  unfold setQueue
  refine unwinds_setPort ?_ fun h => ?_
  · exact fun _ => rfl
  · obtain ⟨hq, ht⟩ := h
    refine ⟨?_, ht⟩
    dsimp only
    rw [hd ⟨hq, ht⟩, hq]
    rfl

theorem unwinds_discardLoans : Unwinds s (discardLoans s p) := by
  unfold discardLoans
  refine Unwinds.trans ?_ (unwinds_forEach (fun t d => unwinds_discarded ..) _)
  refine Unwinds.trans ?_ (unwinds_forEach (fun t q => unwinds_setQueue q fun h => ?_) _)
  · refine Unwinds.trans ?_ (unwinds_forEach (fun t d => unwinds_discarded ..) _)
    refine unwinds_setPort ?_ fun h => ?_
    · exact fun _ => rfl
    · obtain ⟨hq, ht⟩ := h
      refine ⟨hq, ?_⟩
      dsimp only
      rw [ht]
      rfl
  · rw [queueOf_of_drained h]
    rfl

end

end Sys2Proof.Machine
end

section
/-! Training starts at a port: its lanes begin again, from stage 1 (R237, R238). -/

namespace Sys2Proof.Machine

section
variable {s t u : State} {p n : Nat} {fast : Bool}

/-- A port without its lanes. -/
def laneless (x : Port) : Port := { x with lanes := [] }

/-- The states of the lanes of port `p`. -/
def laneStates (p : Nat) : List Nat := (upFrom 0 10).map (laneStateCn p)

/-- `t` is `s` after lanes of port `p` have begun. -/
structure Begins (p : Nat) (s t : State) : Prop where
  rest : t = { s with cat := t.cat, ports := t.ports }
  store : StoreFrame s t (laneStates p)
  ports : PortsKeep laneless { s with cat := t.cat } t
  lanes : (port t p).lanes.length = (port s p).lanes.length

theorem Begins.refl (s : State) : Begins p s s := ⟨rfl, .refl _, .refl s, rfl⟩

theorem Begins.port (h : Begins p s t) (j : Nat) : laneless (Machine.port t j) = laneless (Machine.port s j) := h.ports.ports j

theorem Begins.trans (h : Begins p s t) (g : Begins p t u) : Begins p s u :=
  ⟨by rw [g.rest, h.rest], h.store.trans g.store,
    ⟨by rw [g.ports.rest, h.rest], g.ports.count.trans h.ports.count, fun j => (g.port j).trans (h.port j)⟩,
    g.lanes.trans h.lanes⟩

theorem HasLanes.begins (h : HasLanes s p) (g : Begins p s t) : HasLanes t p :=
  ⟨by rw [g.ports.count]; exact h.port, by rw [g.lanes, h.lanes]⟩

theorem Begins.get (h : Begins p s t) {c : Nat} (hc : ∀ n, n < 10 → c ≠ laneStateCn p n) : Machine.get t c = Machine.get s c := by
  refine h.store c 0 (by decide) fun hm => ?_
  obtain ⟨n, hn, rfl⟩ := List.mem_map.mp hm
  exact hc n (by have := (mem_upFrom.mp hn).2; omega) rfl

theorem laneState_mem (h : n < 10) : laneStateCn p n ∈ laneStates p :=
  List.mem_map_of_mem (mem_upFrom.mpr ⟨Nat.zero_le _, by omega⟩)

theorem begins_setF {hi lo x : Nat} (h : n < 10) : Begins p s (setF s (laneStateCn p n) 0 hi lo x) :=
  ⟨rfl, (storeFrame_setF _ _ _ _ (by decide)).mono (by simpa using laneState_mem h), ⟨rfl, rfl, fun _ => rfl⟩, rfl⟩

theorem begins_setLane (h : HasLanes s p) (f : Lane → Lane) : Begins p s (setLane s p n f) := by
  refine ⟨rfl, .of_cat rfl rfl, ⟨rfl, length_setPort _, fun j => ?_⟩, ?_⟩
  · unfold setLane
    rw [port_setPort]
    split <;> rfl
  · rw [(h.setLane f).lanes, h.lanes]

/-- Whether lane `n` begins at once. -/
def laneOut (s : State) (p n : Nat) (fast : Bool) : Bool := (lane s p n).rxFailed || (fast && (lane s p n).barred = 2)

/-- The lane `l` as its training begins. -/
def laneBegun (l : Lane) (fast : Bool) (taps : Nat) : Lane :=
  { l with stage := if l.rxFailed || (fast && l.barred = 2) then 0 else 1, detects := 0, badBlocks := 0, reqId := 0, answered := true,
           eqRequest := 0, eqTap := 0, rxDone := false, txDone := false, respId := 0, respStatus := 0,
           taps := taps, lock := 0, frameAt := none, barred := if fast && l.barred = 2 then 2 else 0, leaving := 0, plates := 0,
           plate := 0, samples := [], rxTrained := false, peerTrained := false, lost := false, peerState := 0, announced := none,
           waking := false, addAsked := none, refused := false, badFrames := 0, reports := none }

/-- The states of receiver and transmitter as the lane's training begins. -/
def laneShown (s : State) (p n : Nat) (fast : Bool) : State :=
  setTx (if laneOut s p n fast then s else setRx s p n 1) p n 1

theorem startLane_eq (h : laneUsable s p n = true) : startLane s p fast n =
    setLane (laneShown s p n fast) p n fun l =>
      { l with stage := if l.rxFailed || (fast && (lane s p n).barred = 2) then 0 else 1, detects := 0, badBlocks := 0, reqId := 0,
               answered := true, eqRequest := 0, eqTap := 0, rxDone := false, txDone := false, respId := 0, respStatus := 0,
               taps := if fast || get s (ofLane p n 0x3002_01) = 1 then get s (tapsCn p n) else presetTaps 2,
               lock := 0, frameAt := none, barred := if fast && (lane s p n).barred = 2 then 2 else 0, leaving := 0, plates := 0,
               plate := 0, samples := [], rxTrained := false, peerTrained := false, lost := false, peerState := 0,
               announced := none, waking := false, addAsked := none, refused := false, badFrames := 0, reports := none } := by
  unfold startLane
  rw [h]
  rfl

theorem startLane_unusable (h : laneUsable s p n = false) : startLane s p fast n = s := by
  unfold startLane
  rw [h]
  rfl

theorem begins_laneShown (h : n < 10) : Begins p s (laneShown s p n fast) := by
  unfold laneShown
  refine Begins.trans ?_ (begins_setF h)
  split
  · exact .refl s
  · exact begins_setF h

theorem begins_startLane (hl : HasLanes s p) (h : n < 10) : Begins p s (startLane s p fast n) := by
  cases hu : laneUsable s p n with
  | false => rw [startLane_unusable hu]; exact .refl s
  | true =>
    rw [startLane_eq hu]
    have hs := begins_laneShown (s := s) (p := p) (fast := fast) h
    exact hs.trans (begins_setLane (hl.begins hs) _)

theorem lane_laneShown (n j : Nat) : lane (laneShown s p n fast) p j = lane s p j := by
  unfold laneShown
  split <;> rfl

/-- What a lane that can be used is like when its training has begun. -/
theorem lane_startLane (hl : HasLanes s p) (h : n < 10) (j : Nat) : lane (startLane s p fast n) p j =
    if j = n ∧ laneUsable s p n = true then
      laneBegun (lane s p n) fast
        (if fast || get s (ofLane p n 0x3002_01) = 1 then get s (tapsCn p n) else presetTaps 2)
    else lane s p j := by
  cases hu : laneUsable s p n with
  | false => rw [startLane_unusable hu, if_neg (by simp)]
  | true =>
    rw [startLane_eq hu, (hl.begins (begins_laneShown h)).lane_setLane h, lane_laneShown]
    by_cases hj : j = n
    · subst hj
      rw [if_pos (rfl : j = j), if_pos (⟨rfl, rfl⟩ : j = j ∧ true = true)]
      rfl
    · rw [if_neg hj, if_neg (fun e => hj e.1)]

theorem txState_setTx {v : Nat} (hv : v < 16) : txState (setTx s p n v) p n = v := by
  unfold txState setTx
  rw [getF_setF_same _ _ _ (by decide)]
  exact Nat.mod_eq_of_lt hv

theorem txState_setLane (f : Lane → Lane) (j : Nat) : txState (setLane s p n f) p j = txState s p j :=
  congrArg (fld · 7 4) (getRow_congr rfl rfl ..)

theorem txState_startLane (h : laneUsable s p n = true) : txState (startLane s p fast n) p n = 1 := by
  rw [startLane_eq h, txState_setLane]
  unfold laneShown
  exact txState_setTx (by decide)

theorem get_startLane_ne {j : Nat} (hj : j ≠ n) :
    get (startLane s p fast n) (laneStateCn p j) = get s (laneStateCn p j) := by
  have hne : laneStateCn p j ≠ laneStateCn p n := by
    unfold laneStateCn ofLane
    omega
  have hset : ∀ (a : State) hi lo x, get (setF a (laneStateCn p n) 0 hi lo x) (laneStateCn p j) = get a (laneStateCn p j) :=
    fun a hi lo x => get_set_ne _ _ hne
  cases hu : laneUsable s p n with
  | false => rw [startLane_unusable hu]
  | true =>
    rw [startLane_eq hu]
    refine Eq.trans (getRow_congr rfl rfl ..) ((hset ..).trans ?_)
    split
    · rfl
    · exact hset ..

/-! ### All lanes -/

/-- The lanes of `xs` begin one after another. -/
abbrev startLanes (s : State) (p : Nat) (fast : Bool) (xs : List Nat) : State := forEach xs (fun t n => startLane t p fast n) s

theorem begins_startLanes {xs : List Nat} (hl : HasLanes s p) (hx : ∀ n ∈ xs, n < 10) : Begins p s (startLanes s p fast xs) := by
  induction xs generalizing s with
  | nil => exact .refl s
  | cons x xs ih =>
    have hx0 := begins_startLane (fast := fast) hl (hx x (by simp))
    exact hx0.trans (ih (hl.begins hx0) fun n hn => hx n (by simp [hn]))

theorem laneState_ne (p n : Nat) {j : Nat} (hj : j < 10) (hn : n < 10) : ofLane p n 0x3002_01 ≠ laneStateCn p j ∧ tapsCn p n ≠ laneStateCn p j := by
  unfold laneStateCn tapsCn ofLane
  omega

/-- What a lane reads to begin, read after other lanes have begun. -/
theorem Begins.reads (h : Begins p s t) (hp : p < 8) (hn : n < 10) : laneUsable t p n = laneUsable s p n ∧
    Machine.get t (ofLane p n 0x3002_01) = Machine.get s (ofLane p n 0x3002_01) ∧
    Machine.get t (tapsCn p n) = Machine.get s (tapsCn p n) := by
  refine ⟨?_, h.get fun j hj => (laneState_ne p n hj hn).1, h.get fun j hj => (laneState_ne p n hj hn).2⟩
  unfold laneUsable domainOn
  rw [h.get fun j hj => ?_]
  unfold laneStateCn ofLane
  omega

/-- Each lane that can be used begins once. -/
theorem lane_startLanes {xs : List Nat} (hp : p < 8) (hl : HasLanes s p) (hx : ∀ n ∈ xs, n < 10) (hd : xs.Nodup) (j : Nat) :
    lane (startLanes s p fast xs) p j =
      (if j ∈ xs ∧ laneUsable s p j = true then
        laneBegun (lane s p j) fast
          (if fast || get s (ofLane p j 0x3002_01) = 1 then get s (tapsCn p j) else presetTaps 2)
      else lane s p j) ∧
    (j ∈ xs → laneUsable s p j = true → txState (startLanes s p fast xs) p j = 1) ∧
    (j ∉ xs → get (startLanes s p fast xs) (laneStateCn p j) = get s (laneStateCn p j)) := by
  induction xs generalizing s with
  | nil => exact ⟨by simp; rfl, by simp, fun _ => rfl⟩
  | cons x xs ih =>
    have hx0 : x < 10 := hx x (by simp)
    have hb := begins_startLane (s := s) (fast := fast) hl hx0
    have hlane := lane_startLane (fast := fast) hl hx0 j
    have htx := txState_startLane (s := s) (p := p) (n := x) (fast := fast)
    have hget := get_startLane_ne (s := s) (p := p) (n := x) (j := j) (fast := fast)
    obtain ⟨hnot, hd⟩ := List.nodup_cons.mp hd
    obtain ⟨h1, h2, h3⟩ := ih (hl.begins hb) (fun n hn => hx n (by simp [hn])) hd
    have he : startLanes s p fast (x :: xs) = startLanes (startLane s p fast x) p fast xs := rfl
    rw [he]
    generalize startLane s p fast x = a at *
    by_cases hj : j = x
    · subst hj
      refine ⟨?_, fun _ hu => ?_, fun hm => absurd (List.mem_cons_self ..) hm⟩
      · rw [h1, if_neg (fun e => hnot e.1), hlane]
        simp
      · show fld (get _ _) 7 4 = 1
        rw [h3 hnot]
        exact htx hu
    · rw [if_neg (fun e => hj e.1)] at hlane
      refine ⟨?_, fun hm hu => ?_, fun hm => ?_⟩
      · rw [h1, hlane]
        by_cases hm : j ∈ xs
        · obtain ⟨hu, he, ht⟩ := hb.reads hp (hx j (by simp [hm]))
          rw [hu, he, ht]
          simp [hm]
        · rw [if_neg (fun e => hm e.1), if_neg (fun e => by simp [hj, hm] at e)]
      · have hm' : j ∈ xs := by simpa [hj] using hm
        exact h2 hm' ((hb.reads hp (hx j hm)).1.trans hu)
      · rw [h3 (fun e => hm (by simp [e])), hget hj]

/-! ### The port -/

/-- The objects of the port as its training starts. -/
def startShown (s : State) (p : Nat) : State :=
  count32 (set (set s (ofPort p 0x2050_01) 1) (ofPort p 0x2040_03) 0) (ofPort p 0x2050_0B)

/-- The port as its training starts, its lanes yet to begin. -/
def portBegun (s : State) (p : Nat) (fast : Bool) : State :=
  setPort (startShown s p) p fun x =>
    { x with fast := fast, stalled := false, told := false, ready := false, peerReady := false, peerWanted := 0, wanted := 0 }

theorem startTraining_eq (s : State) (p : Nat) (fast : Bool) :
    startTraining s p fast = startLanes (portBegun s p fast) p fast (upFrom 0 10) := rfl

theorem lt_of_mem_lanes {n : Nat} (h : n ∈ upFrom 0 10) : n < 10 := by
  have := (mem_upFrom.mp h).2
  omega

/-- The objects of port `p` that the start of its training writes, its lanes apart. -/
def startCns (p : Nat) : List Nat := [ofPort p 0x2050_01, ofPort p 0x2040_03, ofPort p 0x2050_0B]

/-- What the start of training leaves. -/
structure Started (s : State) (p : Nat) (fast : Bool) (t : State) : Prop where
  rest : t = { s with cat := t.cat, ports := t.ports }
  store : StoreFrame s t (startCns p ++ laneStates p)
  count : t.ports.length = s.ports.length
  port : laneless (port t p) = { laneless (Machine.port s p) with
    fast := fast, stalled := false, told := false, ready := false, peerReady := false, peerWanted := 0, wanted := 0 }
  others : ∀ j, j ≠ p → laneless (Machine.port t j) = laneless (Machine.port s j)
  lanes : HasLanes t p
  stage : stageOfPort t p = 1
  counted : get t (ofPort p 0x2050_0B) = (get s (ofPort p 0x2050_0B) + 1) % 2 ^ 32
  lane : ∀ j, j < 10 → lane t p j = if laneUsable s p j = true then
      laneBegun (lane s p j) fast
        (if fast || get s (ofLane p j 0x3002_01) = 1 then get s (tapsCn p j) else presetTaps 2)
    else lane s p j
  tx : ∀ j, j < 10 → laneUsable s p j = true → txState t p j = 1

theorem get_count32_same (s : State) (c : Nat) : get (count32 s c) c = (get s c + 1) % 2 ^ 32 := get_set_same ..

theorem get_count32_ne (s : State) {c d : Nat} (h : d ≠ c) : get (count32 s c) d = get s d := get_set_ne _ _ h

theorem get_setPort (f : Port → Port) (c : Nat) : get (setPort s p f) c = get s c := getRow_congr rfl rfl ..

theorem store_startShown : StoreFrame s (startShown s p) (startCns p) :=
  (((StoreFrame.refl _).set _ (by simp [startCns])).set _ (by simp [startCns])).set _ (by simp [startCns])

theorem stage_startShown : get (startShown s p) (ofPort p 0x2050_01) = 1 := by
  unfold startShown
  rw [get_count32_ne _ (by unfold ofPort; omega), get_set_ne _ _ (by unfold ofPort; omega), get_set_same]

theorem counted_startShown : get (startShown s p) (ofPort p 0x2050_0B) = (get s (ofPort p 0x2050_0B) + 1) % 2 ^ 32 := by
  unfold startShown
  rw [get_count32_same, get_set_ne _ _ (by unfold ofPort; omega), get_set_ne _ _ (by unfold ofPort; omega)]

theorem started_startTraining (hp : p < 8) (h : HasLanes s p) (fast : Bool) : Started s p fast (startTraining s p fast) := by
  have hst : StoreFrame s (portBegun s p fast) (startCns p) := store_startShown.trans (.of_cat rfl rfl)
  have hrest : portBegun s p fast = { s with cat := (portBegun s p fast).cat, ports := (portBegun s p fast).ports } := rfl
  have hcount : (portBegun s p fast).ports.length = s.ports.length := length_setPort _
  have hport : port (portBegun s p fast) p = { port s p with
      fast := fast, stalled := false, told := false, ready := false, peerReady := false, peerWanted := 0, wanted := 0 } := by
    unfold portBegun
    rw [(h.congr (t := startShown s p) rfl).port_setPort, port_congr (t := startShown s p) (s := s) rfl]
  have hothers : ∀ j, j ≠ p → port (portBegun s p fast) j = port s j := fun j hj => by
    unfold portBegun
    rw [port_setPort, if_neg (fun e => hj e.1)]
    rfl
  have hstage : get (portBegun s p fast) (ofPort p 0x2050_01) = 1 := (get_setPort ..).trans stage_startShown
  have hcounted : get (portBegun s p fast) (ofPort p 0x2050_0B) = (get s (ofPort p 0x2050_0B) + 1) % 2 ^ 32 :=
    (get_setPort ..).trans counted_startShown
  have hlanes : HasLanes (portBegun s p fast) p := ⟨by rw [hcount]; exact h.port, by rw [hport]; exact h.lanes⟩
  have hlane : ∀ j, lane (portBegun s p fast) p j = lane s p j := fun j => by
    unfold lane
    rw [hport]
  rw [startTraining_eq]
  generalize portBegun s p fast = a at *
  have hb := begins_startLanes (fast := fast) hlanes (xs := upFrom 0 10) fun n hn => lt_of_mem_lanes hn
  have hl := lane_startLanes (fast := fast) hp hlanes (xs := upFrom 0 10) (fun n hn => lt_of_mem_lanes hn) (nodup_upFrom ..)
  have hreads : ∀ j, j < 10 → laneUsable a p j = laneUsable s p j ∧
      get a (ofLane p j 0x3002_01) = get s (ofLane p j 0x3002_01) ∧ get a (tapsCn p j) = get s (tapsCn p j) := fun j hj => by
    have hg : ∀ c, c ∉ startCns p → get a c = get s c := fun c hc => hst c 0 (by decide) hc
    refine ⟨?_, hg _ ?_, hg _ ?_⟩
    · unfold laneUsable domainOn
      rw [hg _ (by simp [startCns, ofPort]; omega)]
    · simp [startCns, ofPort, ofLane]; omega
    · simp [startCns, ofPort, tapsCn, ofLane]; omega
  have hmem : ∀ j, j < 10 → j ∈ upFrom 0 10 := fun j hj => mem_upFrom.mpr ⟨Nat.zero_le _, by omega⟩
  refine ⟨by rw [hb.rest, hrest], ?_, hb.ports.count.trans hcount, ?_, fun j hj => ?_, hlanes.begins hb, ?_, ?_, fun j hj => ?_, fun j hj hu => ?_⟩
  · exact (hst.mono (by simp)).trans (hb.store.mono (by simp))
  · rw [hb.port, hport]
    rfl
  · rw [hb.port, hothers j hj]
  · exact (hb.get fun n hn => by unfold ofPort laneStateCn ofLane; omega).trans hstage
  · exact (hb.get fun n hn => by unfold ofPort laneStateCn ofLane; omega).trans hcounted
  · obtain ⟨hu, hp, ht⟩ := hreads j hj
    rw [(hl j).1, hu, hp, ht, hlane]
    simp only [hmem j hj, true_and]
  · exact (hl j).2.1 (hmem j hj) ((hreads j hj).1.trans hu)

end

end Sys2Proof.Machine
end

section
/-! A port is flushed (R225): what its link held is lost, and the port is INIT again. -/

namespace Sys2Proof.Machine

section
variable {s t u : State} {p : Nat}

/-! ### The port is emptied -/

/-- The objects of port `p` that its flush writes, the count of flushed packets apart. -/
def flushCns (p : Nat) : List Nat := [ofPort p 0x2000_01, ofPort p 0x2020_0B, ofPort p 0x2050_01, ofPort p 0x2000_04]

/-- The objects that the port's going down counts. -/
def downCns (p : Nat) : List Nat :=
  [ofPort p 0x2000_01, ofPort p 0x2020_0B, 0xD000_06, ofPort p 0x2020_0C, ofPort p 0x2080_03]

/-- `t` is `s` after packets of ports have been lost. -/
structure Clears (cns : List Nat) (s t : State) : Prop where
  rest : t = { s with cat := t.cat, ports := t.ports, switch.passWaits := t.switch.passWaits }
  store : StoreFrame s t cns
  count : t.ports.length = s.ports.length
  lanes : ∀ j, (port t j).lanes = (port s j).lanes

section
variable {cns : List Nat}

theorem Clears.refl (s : State) : Clears cns s s := ⟨rfl, .refl _, rfl, fun _ => rfl⟩

theorem Clears.trans (h : Clears cns s t) (g : Clears cns t u) : Clears cns s u :=
  ⟨by rw [g.rest, h.rest], h.store.trans g.store, g.count.trans h.count, fun j => (g.lanes j).trans (h.lanes j)⟩

theorem clears_set {c v : Nat} (h : c ∈ cns) : Clears cns s (set s c v) := ⟨rfl, (StoreFrame.refl _).set _ h, rfl, fun _ => rfl⟩

theorem clears_setPort {f : Port → Port} (h : ∀ x, (f x).lanes = x.lanes) (q : Nat) : Clears cns s (setPort s q f) := by
  refine ⟨rfl, .of_cat rfl rfl, length_setPort f, fun j => ?_⟩
  rw [port_setPort]
  split
  · exact h _
  · rfl

theorem clears_frees (h : Frees s t) : Clears cns s t := by
  refine ⟨by rw [h.rest], .of_cat (by rw [h.rest]) (by rw [h.rest]), h.count, fun j => ?_⟩
  have hl := congrArg Port.lanes (h.ports j)
  exact hl

theorem nth_map_of {α : Type} {β : Type} {f : α → α} {g : α → β} {d : α} (hf : ∀ x, g (f x) = g x) (n : Nat) (xs : List α) :
    g (nth d n (xs.map f)) = g (nth d n xs) := by
  induction xs generalizing n with
  | nil => rfl
  | cons x xs ih =>
    cases n with
    | zero => exact hf x
    | succ n => exact ih n

theorem clears_updCut (q : Nat) (f : Packet → RxPlace → Packet × RxPlace) (g : TxPacket → TxPacket) :
    Clears cns s (updCut s q f g) := by
  refine ⟨rfl, .of_cat rfl rfl, List.length_map .., fun j => ?_⟩
  unfold port updCut
  dsimp only
  refine nth_map_of ?_ j s.ports
  exact fun _ => rfl

theorem clears_closeCut (h : ofPort p 0x2080_03 ∈ cns) (short abort : Bool) : Clears cns s (closeCut s p short abort) := by
  have hc : Clears cns s (if short && cutHeld s p then count64 s (ofPort p 0x2080_03) else s) := by
    split
    · exact clears_set h
    · exact .refl s
  unfold closeCut
  refine Clears.trans ?_ (clears_updCut ..)
  refine hc.trans (clears_setPort ?_ p)
  exact fun _ => rfl

end

/-- The link of port `p` is down, and what it lost is counted. -/
def linkDown (s : State) (p : Nat) : State :=
  let s := set s (ofPort p 0x2000_01) 3
  let s := count32 s (ofPort p 0x2020_0B)
  let s := light s 0xD000_06 32
  count s (ofPort p 0x2020_0C) 64 (portPackets s p)

/-- The packet that the port was to cut off is closed. -/
def cutClosed (s : State) (p : Nat) : State := if (port s p).rxCut.isSome then closeCut s p true false else s

/-- The port shows the state that its flush leaves. -/
def flushShown (s : State) (p : Nat) : State :=
  set (setPort (set s (ofPort p 0x2000_01) 0) p fun x => { x with fast := false, stalled := false, told := false, asked := none })
    (ofPort p 0x2050_01) 1

/-- The trackers and pairs whose way was port `p` end. -/
def wayEnds (s : State) (p : Nat) : State :=
  if stopped s then s
  else abandonPairs (endTrackers s (fun t => t.via == p) stLinkLost true) (fun e => e.via == p && unacked e != 0) true

theorem flushLink_eq (s : State) (p : Nat) (stops : Bool) : flushLink s p stops =
    endInvocations (wayEnds (flushShown ((if stops then holdEvent else flushEvent) (emptyPort (cutClosed (linkDown s p) p) p) p
      (port (emptyPort (cutClosed (linkDown s p) p) p) p).heldEndpoint
      (port (emptyPort (cutClosed (linkDown s p) p) p) p).heldEdition) p) p)
      (ofPort p 0x2000_04) (fun _ => true) stLinkLost := rfl

theorem clears_linkDown : Clears (downCns p) s (linkDown s p) := by
  unfold linkDown
  have hset : ∀ (a : State) c v, c ∈ downCns p → Clears (downCns p) a (set a c v) := fun a c v h => clears_set h
  refine Clears.trans ?_ (hset _ _ _ (by simp [downCns]))
  refine Clears.trans ?_ (hset _ _ _ (by simp [downCns]))
  refine Clears.trans ?_ (hset _ _ _ (by simp [downCns]))
  exact hset _ _ _ (by simp [downCns])

theorem clears_cutClosed : Clears (downCns p) s (cutClosed s p) := by
  unfold cutClosed
  split
  · exact clears_closeCut (by simp [downCns]) ..
  · exact .refl s

/-- A port with nothing to leave it. -/
def unfilledPort (x : Port) : Port :=
  { x with queues := [], active := [], tx := [], replay := [], replayAt := none, replayHeld := false,
           cmds := [], rxSlots := [], rxLost := 0, rxShort := 0, heldFlits := [], behind := [], acted := [] }

theorem emptyPort_eq (s : State) (p : Nat) : emptyPort s p =
    forEach (((port s p).queues.flatMap fun e => e.2.map (·.rx)) ++ (port s p).tx.map (·.rx)) freeRx (setPort s p unfilledPort) := rfl

theorem clears_emptyPort {cns : List Nat} : Clears cns s (emptyPort s p) := by
  rw [emptyPort_eq]
  refine Clears.trans (clears_setPort (f := unfilledPort) (fun _ => rfl) p) ?_
  exact foldl_through (R := Clears cns) .refl .trans (fun t r _ => clears_frees (frees_freeRx r)) _

theorem emptied_emptyPort (h : HasLanes s p) : Drained (port (emptyPort s p) p) ∧ (port (emptyPort s p) p).replay = [] := by
  have hport := h.port_setPort unfilledPort
  rw [emptyPort_eq]
  generalize setPort s p unfilledPort = a at *
  have hf : Frees a (forEach (((port s p).queues.flatMap fun e => e.2.map (·.rx)) ++ (port s p).tx.map (·.rx)) freeRx a) :=
    foldl_through (R := Frees) PortsKeep.refl PortsKeep.trans (fun t r _ => frees_freeRx r) a
  have hp := hf.ports p
  rw [hport] at hp
  have hq := congrArg Port.queues hp
  have ht := congrArg Port.tx hp
  have hr := congrArg Port.replay hp
  exact ⟨⟨hq, ht⟩, hr⟩

/-- Port `p` with its link down and its queues empty. -/
structure Down (s : State) (p : Nat) (t : State) : Prop where
  clears : Clears (downCns p) s t
  link : linkState t p = 3
  counted : get t (ofPort p 0x2020_0B) = (get s (ofPort p 0x2020_0B) + 1) % 2 ^ 32
  drained : Drained (port t p)
  replay : (port t p).replay = []

theorem get_linkDown (c : Nat) (h : c ≠ 0xD000_06) (h' : c ≠ ofPort p 0x2020_0C) : get (linkDown s p) c =
    if c = ofPort p 0x2020_0B then (get s c + 1) % 2 ^ 32 else if c = ofPort p 0x2000_01 then 3 else get s c := by
  unfold linkDown
  refine (get_set_ne _ _ h').trans ((get_set_ne _ _ h).trans ?_)
  by_cases hb : c = ofPort p 0x2020_0B
  · subst hb
    rw [if_pos rfl, get_count32_same, get_set_ne _ _ (by unfold ofPort; omega)]
  · rw [if_neg hb, get_count32_ne _ hb]
    by_cases hl : c = ofPort p 0x2000_01
    · rw [if_pos hl, hl, get_set_same]
    · rw [if_neg hl, get_set_ne _ _ hl]

theorem HasLanes.clears {cns : List Nat} (h : HasLanes s p) (g : Clears cns s t) : HasLanes t p :=
  ⟨by rw [g.count]; exact h.port, by rw [g.lanes]; exact h.lanes⟩

/-- What is emptied of a port's packets alone. -/
theorem clears_cut : Clears [ofPort p 0x2080_03] s (emptyPort (cutClosed s p) p) := by
  have hcut : Clears [ofPort p 0x2080_03] s (cutClosed s p) := by
    unfold cutClosed
    split
    · exact clears_closeCut (by simp) ..
    · exact .refl s
  exact hcut.trans clears_emptyPort

theorem down_emptied (hp : p < 8) (h : HasLanes s p) : Down s p (emptyPort (cutClosed (linkDown s p) p) p) := by
  have hc := clears_cut (s := linkDown s p) (p := p)
  have hget : ∀ c, c ≠ ofPort p 0x2080_03 → get (emptyPort (cutClosed (linkDown s p) p) p) c = get (linkDown s p) c :=
    fun c hcn => hc.store c 0 (by decide) (by simpa using hcn)
  obtain ⟨hd, hr⟩ := emptied_emptyPort (h.clears (clears_linkDown.trans clears_cutClosed))
  refine ⟨clears_linkDown.trans (clears_cutClosed.trans clears_emptyPort), ?_, ?_, hd, hr⟩
  · show get _ _ = 3
    rw [hget _ (by unfold ofPort; omega), get_linkDown _ (by unfold ofPort; omega) (by unfold ofPort; omega),
      if_neg (by unfold ofPort; omega), if_pos rfl]
  · rw [hget _ (by unfold ofPort; omega), get_linkDown _ (by unfold ofPort; omega) (by unfold ofPort; omega), if_pos rfl]

/-! ### The flush is told, and the port shown -/

theorem unwinds_flushEvent (peer edition : Nat) : Unwinds s (flushEvent s p peer edition) :=
  ((fails_writeError ..).trans (sends_report ..).fails).unwinds

theorem stopped_flushEvent (peer edition : Nat) : stopped (flushEvent s p peer edition) = stopped s := by
  have hget : get (flushEvent s p peer edition) 0xC200_02 = get s 0xC200_02 := by
    refine ((sends_report ..).store 0xC200_02 0 (by decide) (by decide)).trans ?_
    exact writeError_store _ _ _ 0 (by decide) (by decide)
  unfold stopped
  rw [hget]

theorem trackers_flushEvent (peer edition : Nat) : (flushEvent s p peer edition).switch.trackers = s.switch.trackers :=
  (((fails_writeError ..).trans (sends_report ..).fails).mirrors).trackers

/-- What is shown of port `p` when it has been flushed. -/
structure Shown (s : State) (p : Nat) (t : State) : Prop where
  rest : t = { s with cat := t.cat, ports := t.ports }
  store : StoreFrame s t [ofPort p 0x2000_01, ofPort p 0x2050_01]
  count : t.ports.length = s.ports.length
  lanes : ∀ j, (port t j).lanes = (port s j).lanes
  link : linkState t p = 0
  stage : stageOfPort t p = 1
  drained : Drained (port s p) → Drained (port t p)
  replay : (port t p).replay = (port s p).replay

theorem shown_flushShown (h : HasLanes s p) : Shown s p (flushShown s p) := by
  have hl : HasLanes (set s (ofPort p 0x2000_01) 0) p := h.congr rfl
  have hps : port (set s (ofPort p 0x2000_01) 0) p = port s p := rfl
  have hread : ∀ j, port (flushShown s p) j = if j = p ∧ p < s.ports.length then
      { port s j with fast := false, stalled := false, told := false, asked := none } else port s j := fun j => by
    unfold flushShown
    exact port_setPort (s := set s (ofPort p 0x2000_01) 0) _ j
  refine ⟨rfl, ?_, length_setPort (s := set s (ofPort p 0x2000_01) 0) _, fun j => ?_, ?_, ?_, fun hd => ?_, ?_⟩
  · unfold flushShown
    refine StoreFrame.set ?_ _ (by simp)
    exact StoreFrame.trans (t := set s (ofPort p 0x2000_01) 0) ((StoreFrame.refl _).set _ (by simp)) (.of_cat rfl rfl)
  · rw [hread]
    split <;> rfl
  · unfold linkState flushShown
    rw [get_set_ne _ _ (by unfold ofPort; omega), get_setPort, get_set_same]
  · unfold stageOfPort flushShown
    rw [get_set_same]
  · rw [hread, if_pos ⟨rfl, h.port⟩]
    exact hd
  · rw [hread, if_pos ⟨rfl, h.port⟩]

theorem unwinds_wayEnds : Unwinds s (wayEnds s p) := by
  unfold wayEnds
  split
  · exact .refl s
  · exact (unwinds_endTrackers ..).trans (unwinds_abandonPairs ..)

theorem notMem_wayEnds (hs : stopped s = false) {e : Nat × Tracker} (h : e ∈ s.switch.trackers) (hv : e.2.via = p) :
    e ∉ (wayEnds s p).switch.trackers := by
  unfold wayEnds
  rw [hs, if_neg (by decide)]
  exact notMem_endTrackers h (by simpa using hv) (unwinds_abandonPairs ..)

/-! ### The whole flush -/

/-- What a flush of port `p` leaves. -/
structure Flushed (s : State) (p : Nat) (t : State) : Prop where
  get : ∀ c, PortObject c → c ∉ flushCns p → c ≠ ofPort p 0x2080_03 → get t c = get s c
  count : t.ports.length = s.ports.length
  lanes : ∀ j, (port t j).lanes = (port s j).lanes
  link : linkState t p = 0
  stage : stageOfPort t p = 1
  counted : Machine.get t (ofPort p 0x2020_0B) = (Machine.get s (ofPort p 0x2020_0B) + 1) % 2 ^ 32
  drained : Drained (port t p)
  replay : (port t p).replay = []
  trackers : stopped s = false → ∀ e ∈ t.switch.trackers, e ∈ s.switch.trackers → e.2.via ≠ p

theorem portObject_ofPort {c : Nat} (hp : p < 8) (h : 0x2000_00 ≤ c) (h' : c < 0x20FF_00) (h0 : c % 0x1_0000 ≠ 0x200C) :
    PortObject (ofPort p c) := by
  unfold PortObject ofPort
  omega

theorem flushed_flushLink (hp : p < 8) (h : HasLanes s p) : Flushed s p (flushLink s p false) := by
  have hd := down_emptied hp h
  have hstop : stopped (emptyPort (cutClosed (linkDown s p) p) p) = stopped s := by
    unfold stopped
    rw [show get (emptyPort (cutClosed (linkDown s p) p) p) 0xC200_02 = get s 0xC200_02 from
      hd.clears.store _ 0 (by decide) (by simp [downCns, ofPort]; omega)]
  rw [flushLink_eq, if_neg Bool.false_ne_true]
  generalize emptyPort (cutClosed (linkDown s p) p) p = a at *
  have hev := unwinds_flushEvent (s := a) (p := p) (port a p).heldEndpoint (port a p).heldEdition
  have hevs := (stopped_flushEvent (s := a) (p := p) (port a p).heldEndpoint (port a p).heldEdition).trans hstop
  have hevt := trackers_flushEvent (s := a) (p := p) (port a p).heldEndpoint (port a p).heldEdition
  generalize flushEvent a p (port a p).heldEndpoint (port a p).heldEdition = b at *
  have hbare : ∀ j, bare (port b j) = bare (port a j) := hev.ports
  have hlb : HasLanes b p := by
    have ha := h.clears hd.clears
    have hl := congrArg Port.lanes (hbare p)
    refine ⟨by rw [hev.count]; exact ha.port, ?_⟩
    have hl' : (port b p).lanes = (port a p).lanes := hl
    rw [hl', ha.lanes]
  have hdb : Drained (port b p) := hev.drained p hp (by unfold portTakes; rw [hd.link]; decide) hd.drained
  have hrb : (port b p).replay = [] := by
    have hr := congrArg Port.replay (hbare p)
    exact Eq.trans hr hd.replay
  have hsh := shown_flushShown hlb
  have hshs : stopped (flushShown b p) = stopped s := by
    rw [← hevs]
    unfold stopped
    rw [show get (flushShown b p) 0xC200_02 = get b 0xC200_02 from
      hsh.store _ 0 (by decide) (by simp [ofPort]; omega)]
  have hsht : (flushShown b p).switch.trackers = b.switch.trackers := by rw [hsh.rest]
  generalize flushShown b p = d at *
  have hw := unwinds_wayEnds (s := d) (p := p)
  have htr := fun hs e he hv => notMem_wayEnds (s := d) (p := p) hs (e := e) he hv
  generalize wayEnds d p = w at *
  have hend : EndsAt w (ofPort p 0x2000_04) (endInvocations w (ofPort p 0x2000_04) (fun _ => true) stLinkLost) := endsAt_endInvocations
  generalize endInvocations w (ofPort p 0x2000_04) (fun _ => true) stLinkLost = t at *
  have hports : t.ports = w.ports := by rw [hend.rest]
  have hsw : t.switch = w.switch := by rw [hend.rest]
  have hget : ∀ c, PortObject c → c ≠ ofPort p 0x2000_04 → get t c = get d c := fun c hc hne =>
    (hend.store c 0 (by decide) (by simpa using hne)).trans (hw.get c hc)
  have hgetd : ∀ c, PortObject c → c ≠ ofPort p 0x2000_01 → c ≠ ofPort p 0x2050_01 → get d c = get a c := fun c hc h1 h2 =>
    (hsh.store c 0 (by decide) (by simp [h1, h2])).trans (hev.get c hc)
  have hbw : ∀ j, bare (port t j) = bare (port d j) := fun j => by
    rw [port_congr hports]
    exact hw.ports j
  refine ⟨fun c hc hn h3 => ?_, ?_, fun j => ?_, ?_, ?_, ?_, ?_, ?_, fun hs e he hes hv => ?_⟩
  · simp only [flushCns, List.mem_cons, List.not_mem_nil, or_false, not_or] at hn
    obtain ⟨h1, h2, h5, h4⟩ := hn
    rw [hget c hc h4, hgetd c hc h1 h5]
    refine hd.clears.store c 0 (by decide) ?_
    obtain ⟨-, hlt, h0⟩ := hc
    simp only [downCns, List.mem_cons, List.not_mem_nil, or_false, not_or]
    refine ⟨h1, h2, by omega, fun e => h0 ?_, h3⟩
    rw [e]
    unfold ofPort
    omega
  · rw [hports, hw.count, hsh.count, hev.count, hd.clears.count]
  · have h1 := congrArg Port.lanes (hbw j)
    have h2 := congrArg Port.lanes (hbare j)
    exact Eq.trans h1 ((hsh.lanes j).trans (Eq.trans h2 (hd.clears.lanes j)))
  · exact (hget _ (portObject_linkState hp) (by unfold ofPort; omega)).trans hsh.link
  · exact (hget _ (portObject_ofPort hp (by decide) (by decide) (by decide)) (by unfold ofPort; omega)).trans hsh.stage
  · rw [hget _ (portObject_ofPort hp (by decide) (by decide) (by decide)) (by unfold ofPort; omega),
      hgetd _ (portObject_ofPort hp (by decide) (by decide) (by decide)) (by unfold ofPort; omega) (by unfold ofPort; omega),
      hd.counted]
  · rw [port_congr hports]
    exact hw.drained p hp (by unfold portTakes; rw [hsh.link]; decide) (hsh.drained hdb)
  · have hr := congrArg Port.replay (hbw p)
    exact Eq.trans hr (hsh.replay.trans hrb)
  · rw [hsw] at he
    refine htr (hshs.trans hs) e ?_ hv he
    rw [hsht, hevt, hd.clears.rest]
    exact hes

theorem Flushed.hasLanes (h : Flushed s p t) (g : HasLanes s p) : HasLanes t p :=
  ⟨by rw [h.count]; exact g.port, by rw [h.lanes]; exact g.lanes⟩

theorem graceEnds_held (h : linkState s p = 2) : graceEnds s p =
    if stageOfPort s p = 8 then startTraining (flushLink s p false) p false else flushLink s p false := by
  unfold graceEnds flushPort isUp
  rw [h]
  simp

theorem does_gracePeriodExpiry (h : PortRuns s p) (hl : linkState s p = 2) :
    Does (exec (.gracePeriodExpiry p) s) fun u =>
      linkState u p = 0 ∧ stageOfPort u p = 1 ∧ (∀ q, queueOf u p q = []) ∧ (port u p).tx = [] ∧
      (port u p).replay = [] ∧ get u (ofPort p 0x2020_0B) = (get s (ofPort p 0x2020_0B) + 1) % 2 ^ 32 ∧
      (stopped s = false → ∀ e ∈ u.switch.trackers, e ∈ s.switch.trackers → e.2.via ≠ p) := by
  have hf := flushed_flushLink h.lt h.hasLanes
  have hlanes := hf.hasLanes h.hasLanes
  refine does_portEvent h (f := fun s => graceEnds s p) rfl (graceEnds_held hl) ?_
  split
  · have hst := started_startTraining h.lt hlanes false
    have hlink : ofPort p 0x2000_01 ∉ startCns p ++ laneStates p := by
      simp only [startCns, laneStates, List.mem_append, List.mem_cons, List.not_mem_nil, or_false, List.mem_map]
      rintro (hm | ⟨n, -, hm⟩)
      · unfold ofPort at hm; omega
      · unfold laneStateCn ofLane ofPort at hm; omega
    have hcount : ofPort p 0x2020_0B ∉ startCns p ++ laneStates p := by
      simp only [startCns, laneStates, List.mem_append, List.mem_cons, List.not_mem_nil, or_false, List.mem_map]
      rintro (hm | ⟨n, -, hm⟩)
      · unfold ofPort at hm; omega
      · unfold laneStateCn ofLane ofPort at hm; omega
    have hq := congrArg Port.queues hst.port
    have ht := congrArg Port.tx hst.port
    have hr := congrArg Port.replay hst.port
    refine ⟨(hst.store _ 0 (by decide) hlink).trans hf.link, hst.stage, fun q => ?_, Eq.trans ht hf.drained.2,
      Eq.trans hr hf.replay, (hst.store _ 0 (by decide) hcount).trans hf.counted, ?_⟩
    · exact queueOf_of_drained ⟨Eq.trans hq hf.drained.1, Eq.trans ht hf.drained.2⟩ q
    · rw [hst.rest]
      exact hf.trackers
  · exact ⟨hf.link, hf.stage, fun q => queueOf_of_drained hf.drained q, hf.drained.2, hf.replay, hf.counted, hf.trackers⟩

/-! ### A port is held -/

/-- A port as it is held. -/
def heldPort (x : Port) : Port :=
  { x with replayAt := none, replayHeld := true, fruitless := 0, gap := false, nakDue := false, heldFlits := [], behind := [],
           fast := true, asked := none, ready := false, peerReady := false }

/-- Port `p` held, before its grace period is looked at. -/
def heldAt (s : State) (p : Nat) : State :=
  discardLoans (setPort (count32 (set s (ofPort p 0x2000_01) 2) (ofPort p 0x2020_0A)) p heldPort) p

theorem holdPort_up (h : isUp s p = true) : holdPort s p =
    if get (heldAt s p) (ofPort p 0x2000_02) = 0 then flushPort (heldAt s p) p else heldAt s p := by
  unfold holdPort
  rw [h]
  rfl

theorem holdPort_down (h : isUp s p = false) : holdPort s p = s := by
  unfold holdPort
  rw [h]
  rfl

/-- What a port that is held leaves. -/
structure HeldAt (s : State) (p : Nat) (t : State) : Prop where
  get : ∀ c, PortObject c → c ≠ ofPort p 0x2000_01 → c ≠ ofPort p 0x2020_0A → get t c = get s c
  link : linkState t p = 2
  counted : Machine.get t (ofPort p 0x2020_0A) = (Machine.get s (ofPort p 0x2020_0A) + 1) % 2 ^ 32
  count : t.ports.length = s.ports.length
  port : bare (port t p) = bare (heldPort (Machine.port s p))
  lanes : ∀ j, (Machine.port t j).lanes = (Machine.port s j).lanes

theorem heldAt_leaves (hp : p < 8) (h : p < s.ports.length) : HeldAt s p (heldAt s p) := by
  have hget : ∀ c, get (setPort (count32 (set s (ofPort p 0x2000_01) 2) (ofPort p 0x2020_0A)) p heldPort) c =
      get (count32 (set s (ofPort p 0x2000_01) 2) (ofPort p 0x2020_0A)) c := fun c => get_setPort ..
  have hport := port_setPort_same (s := count32 (set s (ofPort p 0x2000_01) 2) (ofPort p 0x2020_0A)) heldPort h
  have hcount : (setPort (count32 (set s (ofPort p 0x2000_01) 2) (ofPort p 0x2020_0A)) p heldPort).ports.length = s.ports.length :=
    length_setPort _
  have hlanes : ∀ j, (port (setPort (count32 (set s (ofPort p 0x2000_01) 2) (ofPort p 0x2020_0A)) p heldPort) j).lanes = (port s j).lanes :=
    fun j => (clears_setPort (cns := []) (f := heldPort) (fun _ => rfl) p).lanes j
  have hd := unwinds_discardLoans (s := setPort (count32 (set s (ofPort p 0x2000_01) 2) (ofPort p 0x2020_0A)) p heldPort) (p := p)
  rw [port_congr (t := count32 (set s (ofPort p 0x2000_01) 2) (ofPort p 0x2020_0A)) (s := s) rfl] at hport
  unfold heldAt
  generalize setPort (count32 (set s (ofPort p 0x2000_01) 2) (ofPort p 0x2020_0A)) p heldPort = a at *
  refine ⟨fun c hc h1 h2 => ?_, ?_, ?_, hd.count.trans hcount, ?_, fun j => ?_⟩
  · rw [hd.get c hc, hget, get_count32_ne _ h2, get_set_ne _ _ h1]
  · refine (hd.get _ (portObject_linkState hp)).trans ((hget _).trans ?_)
    rw [get_count32_ne _ (by unfold ofPort; omega), get_set_same]
  · rw [hd.get _ (portObject_ofPort hp (by decide) (by decide) (by decide)), hget, get_count32_same,
      get_set_ne _ _ (by unfold ofPort; omega)]
  · rw [hd.ports, hport]
  · have hl := congrArg Port.lanes (hd.ports j)
    exact Eq.trans hl (hlanes j)

end

end Sys2Proof.Machine
end

section
/-! Training: its start and its retries, the blocks and codewords that it takes, and the limits that end its stages (R237 to
R244). -/

namespace Sys2Proof.Machine

section
variable {s t u : State} {p k n : Nat}

/-! ### Training starts again -/

theorem does_retrainStart (h : PortRuns s p) (hl : linkState s p = 2) (hs : stageOfPort s p = 8) :
    Does (exec (.retrainStart p) s) fun u =>
      stageOfPort u p = 1 ∧ (port u p).fast = true ∧
      get u (ofPort p 0x2050_0B) = (get s (ofPort p 0x2050_0B) + 1) % 2 ^ 32 ∧
      (∀ n, n < 10 → laneUsable s p n = true → txState u p n = 1 ∧
        (lane u p n).stage = (if (lane s p n).rxFailed = true ∨ (lane s p n).barred = 2 then 0 else 1) ∧
        (lane u p n).taps = get s (tapsCn p n)) := by
  have hst := started_startTraining h.lt h.hasLanes true
  have he : retrainStarts s p = startTraining s p true := by
    unfold retrainStarts
    rw [h.powered, hl, hs]
    rfl
  refine does_portEvent h (f := fun s => retrainStarts s p) rfl he ⟨hst.stage, ?_, hst.counted, fun n hn hu => ⟨hst.tx n hn hu, ?_, ?_⟩⟩
  · have hf := congrArg Port.fast hst.port
    exact hf
  · rw [hst.lane n hn, if_pos hu]
    unfold laneBegun
    simp
  · rw [hst.lane n hn, if_pos hu]
    unfold laneBegun
    simp

theorem laneUsable_lt (h : laneUsable s p k = true) : k < 10 := by
  unfold laneUsable at h
  simp only [Bool.or_eq_true, decide_eq_true_eq, Bool.and_eq_true] at h
  omega

theorem does_laneRetry_init (h : PortRuns s p) (hu : laneUsable s p k = true) (hl : linkState s p = 0) (hs : (port s p).stalled = true) :
    Does (exec (.laneRetryIntervalExpiry p k) s) fun u =>
      stageOfPort u p = 1 ∧ get u (ofPort p 0x2050_0B) = (get s (ofPort p 0x2050_0B) + 1) % 2 ^ 32 ∧
      txState u p k = 1 ∧ (lane u p k).stage = (if (lane s p k).rxFailed then 0 else 1) := by
  have hst := started_startTraining h.lt h.hasLanes false
  have hk := laneUsable_lt hu
  have he : laneRetries s p k = startTraining s p false := by
    unfold laneRetries
    rw [h.powered, hu, hl, hs]
    rfl
  refine does_portEvent h (f := fun s => laneRetries s p k) rfl he ⟨hst.stage, hst.counted, hst.tx k hk hu, ?_⟩
  rw [hst.lane k hk, if_pos hu]
  unfold laneBegun
  simp

theorem does_laneRetry_up (h : PortRuns s p) (hu : laneUsable s p k = true) (hup : isUp s p = true)
    (ht : (lane s p k).rxTrained = false) (hf : (lane s p k).rxFailed = false) (hb : (lane s p k).barred ≠ 2) :
    Does (exec (.laneRetryIntervalExpiry p k) s) fun u =>
      rxState u p k = 1 ∧ (lane u p k).barred = 0 ∧ (lane u p k).lock = 0 ∧ StoreFrame s u [laneStateCn p k] ∧
      u = { s with ports := u.ports, cat := u.cat } := by
  have hl : linkState s p ≠ 0 := fun e => by
    unfold isUp at hup
    rw [e] at hup
    cases hup
  have he : laneRetries s p k = setRx (setLane s p k fun l => { l with lock := 0, plates := 0, barred := 0 }) p k 1 := by
    unfold laneRetries
    rw [h.powered, hu, hup, ht, hf, if_neg (by decide), if_neg hl, if_pos (by simp [hb])]
  have hlane := h.hasLanes.lane_setLane_same (laneUsable_lt hu) fun l => { l with lock := 0, plates := 0, barred := 0 }
  refine does_portEvent h (f := fun s => laneRetries s p k) rfl he ⟨rxState_setRx (by decide), ?_, ?_, ?_, rfl⟩
  · exact (congrArg Lane.barred hlane).trans rfl
  · exact (congrArg Lane.lock hlane).trans rfl
  · exact StoreFrame.trans (t := setLane s p k fun l => { l with lock := 0, plates := 0, barred := 0 }) (.of_cat rfl rfl)
      (storeFrame_setF _ _ _ _ (by decide))

/-! ### A lane wakes -/

/-- A lane without what its partner was asked for. -/
def unaskedLane (l : Lane) : Lane := { l with addAsked := none }

/-- A port without the commands that it is to send, those that its lanes still owe among them. -/
def unasked (x : Port) : Port := { x with cmds := [], lanes := x.lanes.map unaskedLane }

/-- `t` is `s` but for commands of ports and what lanes owe of them. -/
abbrev Asks : State → State → Prop := PortsKeep unasked

theorem Asks.lane (h : Asks s t) (p n : Nat) : unaskedLane (lane t p n) = unaskedLane (lane s p n) := by
  have hl := congrArg Port.lanes (h.ports p)
  have hl' : (port t p).lanes.map unaskedLane = (port s p).lanes.map unaskedLane := hl
  unfold Machine.lane
  rw [← nth_map unaskedLane, ← nth_map unaskedLane, hl']

theorem Asks.waking (h : Asks s t) (p n : Nat) : (Machine.lane t p n).waking = (Machine.lane s p n).waking := by
  have hl := congrArg Lane.waking (h.lane p n)
  exact hl

theorem Commands.asks (h : Commands s t) : Asks s t := by
  refine ⟨h.rest, h.count, fun j => ?_⟩
  have hj := congrArg (fun x : Port => { x with lanes := x.lanes.map unaskedLane }) (h.ports j)
  exact hj

theorem asks_setLane : Asks s (setLane s p n fun l => { l with addAsked := none }) := by
  refine portsKeep_setPort (fun x => ?_) p
  have hm := map_modifyNth (f := unaskedLane) (g := unaskedLane) (fun _ => rfl) n x.lanes
  exact congrArg (fun ls => { x with cmds := [], lanes := ls }) hm

theorem asks_addAnswered : Asks s (addAnswered s p n) := by
  unfold addAnswered
  split
  · exact PortsKeep.trans asks_setLane (commands_queueCmd ..).asks
  · exact PortsKeep.refl s

/-- The lane `n` awake, its announcements taken back. -/
def awake (s : State) (p n : Nat) : State :=
  setLane s p n fun l => { l with waking := false, announced := l.announced.filter fun a => a.1 != 4 && a.1 != 5 }

/-- The transmitter of lane `n` leaves standby and off. -/
def txAwake (s : State) (p n : Nat) : State := if txState s p n = 4 || txState s p n = 5 then setTx s p n 3 else s

theorem laneWakes_eq (h : portPowered s p = true) (hw : (lane s p n).waking = true) : laneWakes s p n =
    if (lane s p n).peerTrained then addAnswered (txAwake (awake s p n) p n) p n else txAwake (awake s p n) p n := by
  unfold laneWakes
  dsimp only
  rw [h, hw]
  rfl

theorem txState_txAwake : txState (txAwake s p n) p n = if txState s p n = 4 ∨ txState s p n = 5 then 3 else txState s p n := by
  unfold txAwake
  simp only [Bool.or_eq_true, decide_eq_true_eq]
  split
  · exact txState_setTx (by decide)
  · rfl

theorem txAwake_store : StoreFrame s (txAwake s p n) [laneStateCn p n] := by
  unfold txAwake
  split
  · exact storeFrame_setF _ _ _ _ (by decide)
  · exact .refl _

theorem txAwake_rest : txAwake s p n = { s with cat := (txAwake s p n).cat } := by
  unfold txAwake
  split <;> rfl

theorem PortsKeep.ite {g : Port → Port} {b : Prop} [Decidable b] (h : PortsKeep g s t) : PortsKeep g s (if b then t else s) := by
  split
  · exact h
  · exact PortsKeep.refl s

theorem does_laneWake (h : PortRuns s p) (hn : n < 10) (hw : (lane s p n).waking = true) :
    Does (exec (.laneWakeComplete p n) s) fun u =>
      txState u p n = (if txState s p n = 4 ∨ txState s p n = 5 then 3 else txState s p n) ∧
      (lane u p n).waking = false ∧ StoreFrame s u [laneStateCn p n] ∧
      u = { s with ports := u.ports, cat := u.cat } := by
  have he := laneWakes_eq h.powered hw
  have hlane := congrArg Lane.waking (h.hasLanes.lane_setLane_same hn fun l =>
    { l with waking := false, announced := l.announced.filter fun a => a.1 != 4 && a.1 != 5 })
  have hwake : (lane (awake s p n) p n).waking = false := hlane
  have htx := txState_txAwake (s := awake s p n) (p := p) (n := n)
  rw [show txState (awake s p n) p n = txState s p n from txState_setLane ..] at htx
  have hst : StoreFrame s (txAwake (awake s p n) p n) [laneStateCn p n] :=
    StoreFrame.trans (t := awake s p n) (.of_cat rfl rfl) txAwake_store
  have hrest : txAwake (awake s p n) p n =
      { s with ports := (awake s p n).ports, cat := (txAwake (awake s p n) p n).cat } := txAwake_rest
  have hports : (txAwake (awake s p n) p n).ports = (awake s p n).ports := by rw [hrest]
  generalize txAwake (awake s p n) p n = a at *
  have hk := PortsKeep.ite (b := (lane s p n).peerTrained = true) (asks_addAnswered (s := a) (p := p) (n := n))
  refine does_portEvent h (f := fun s => laneWakes s p n) rfl he ⟨?_, ?_, ?_, ?_⟩
  · rw [← htx]
    exact congrArg (fld · 7 4) (hk.get _)
  · rw [Asks.waking hk, lane_congr hports]
    exact hwake
  · exact hst.trans (.of_cat (by rw [hk.rest]) (by rw [hk.rest]))
  · rw [hk.rest, hrest]

/-! ### A stage that lasts too long -/

/-- What the stages of the lanes let the port show. -/
theorem showStage_leaves : StoreFrame s (showStage s p) [ofPort p 0x2050_01] ∧ (showStage s p).ports = s.ports ∧
    showStage s p = { s with cat := (showStage s p).cat } := by
  unfold showStage
  split
  · exact ⟨(StoreFrame.refl _).set _ (by simp), rfl, rfl⟩
  · exact ⟨.refl _, rfl, rfl⟩

theorem does_stageTimeout (h : PortRuns s p) (hup : isUp s p = false) (hk : k < 10) (hs : (lane s p k).stage = 3)
    (hf : (port s p).fast = false) :
    Does (exec (.trainingStageTimeout p k) s) fun u =>
      (lane u p k).stage = 4 ∧ (lane u p k).rxDone = true ∧ (lane u p k).eqRequest = 4 ∧
      StoreFrame s u [ofPort p 0x2050_01] ∧ u = { s with ports := u.ports, cat := u.cat } := by
  have he : stageTimesOut s p k = showStage (setLane s p k fun l =>
      { l with reqId := (l.reqId + 1) % 4, answered := false, eqRequest := 4, rxDone := true, stage := 4 }) p := by
    unfold stageTimesOut
    dsimp only
    rw [h.powered, hup, hs, hf]
    rfl
  have hlane := h.hasLanes.lane_setLane_same hk fun l =>
    { l with reqId := (l.reqId + 1) % 4, answered := false, eqRequest := 4, rxDone := true, stage := 4 }
  have hrest : setLane s p k (fun l => { l with reqId := (l.reqId + 1) % 4, answered := false, eqRequest := 4, rxDone := true, stage := 4 }) =
      { s with ports := (setLane s p k fun l => { l with reqId := (l.reqId + 1) % 4, answered := false, eqRequest := 4, rxDone := true, stage := 4 }).ports } := rfl
  generalize setLane s p k (fun l => { l with reqId := (l.reqId + 1) % 4, answered := false, eqRequest := 4, rxDone := true, stage := 4 }) = a at *
  obtain ⟨hst, hports, hshow⟩ := showStage_leaves (s := a) (p := p)
  refine does_portEvent h (f := fun s => stageTimesOut s p k) rfl he ⟨?_, ?_, ?_, ?_, ?_⟩
  · rw [lane_congr hports, hlane]
  · rw [lane_congr hports, hlane]
  · rw [lane_congr hports, hlane]
  · exact StoreFrame.trans (.of_cat (by rw [hrest]) (by rw [hrest])) hst
  · rw [hshow, hrest]

/-! ### Lanes that are left out -/

/-- What one of many steps brings about, and the others keep, holds after all of them. -/
theorem forEach_reaches {α : Type} {I Q : State → Prop} {f : State → α → State} {a : α} (hi : ∀ t x, I t → I (f t x))
    (hq : ∀ t, I t → Q (f t a)) (hk : ∀ t x, I t → Q t → Q (f t x)) {xs : List α} (ha : a ∈ xs) (hs : I s) :
    Q (forEach xs f s) := by
  have keep : ∀ (ys : List α) t, I t → Q t → Q (forEach ys f t) := fun ys => by
    induction ys with
    | nil => exact fun t _ h => h
    | cons y ys ih => exact fun t ht hqt => ih _ (hi t y ht) (hk t y ht hqt)
  induction xs generalizing s with
  | nil => cases ha
  | cons x xs ih =>
    rcases List.mem_cons.mp ha with rfl | hm
    · exact keep xs _ (hi s a hs) (hq s hs)
    · exact ih hm (hi s x hs)

theorem forEach_keeps {α : Type} {I : State → Prop} {f : State → α → State} (hi : ∀ t x, I t → I (f t x)) (xs : List α)
    (hs : I s) : I (forEach xs f s) := by
  induction xs generalizing s with
  | nil => exact hs
  | cons x xs ih => exact ih (hi s x hs)

theorem HasLanes.leaveOut (h : HasLanes s p) (d j : Nat) : HasLanes (leaveOut p d s j) p := (h.setLane _).congr (setRx_ports 0)

theorem lane_leaveOut (h : HasLanes s p) (d j i : Nat) : lane (leaveOut p d s j) p i =
    if i = j ∧ j < 10 then { lane s p i with stage := 0, lock := 0, barred := d } else lane s p i := by
  have hread : lane (setLane s p j fun l => { l with stage := 0, lock := 0, barred := d }) p i = _ := lane_of_port i p
  unfold leaveOut
  rw [lane_congr (setRx_ports ..), hread]
  simp only [true_and, h.port, h.lanes]

/-- Lane `k` of port `p` is out of training. -/
def laneIsOut (p k : Nat) (s : State) : Prop := (lane s p k).stage = 0 ∧ (lane s p k).lock = 0 ∧ rxState s p k = 0

theorem laneIsOut_leaveOut (h : HasLanes s p) (hk : k < 10) (d : Nat) : laneIsOut p k (leaveOut p d s k) := by
  refine ⟨?_, ?_, rxState_setRx (by decide)⟩ <;> rw [lane_leaveOut h, if_pos ⟨rfl, hk⟩]

theorem laneIsOut_keeps (h : HasLanes s p) (hk : k < 10) (d j : Nat) (ho : laneIsOut p k s) : laneIsOut p k (leaveOut p d s j) := by
  by_cases hj : j = k
  · rw [hj]
    exact laneIsOut_leaveOut h hk d
  · obtain ⟨h1, h2, h3⟩ := ho
    refine ⟨?_, ?_, (rxState_setRx_ne (Ne.symm hj)).trans h3⟩ <;> rw [lane_leaveOut h, if_neg (fun e => hj e.1.symm)] <;> assumption

theorem mem_lockedLanes : n ∈ lockedLanes s p ↔ n < 10 ∧ (lane s p n).stage = 4 ∧ (lane s p n).lock = 2 := by
  unfold lockedLanes
  simp only [List.mem_filter, mem_upFrom, Nat.zero_le, true_and, Nat.zero_add, Bool.and_eq_true, beq_iff_eq]

theorem lockedLanes_leaveOut (h : HasLanes s p) (hl : lockedLanes s p = []) (d j : Nat) : lockedLanes (leaveOut p d s j) p = [] := by
  rw [List.eq_nil_iff_forall_not_mem] at hl ⊢
  intro n hn
  obtain ⟨h10, h4, h2⟩ := mem_lockedLanes.mp hn
  rw [lane_leaveOut h] at h4 h2
  split at h4
  · cases h4
  · rw [if_neg ‹_›] at h2
    exact hl n (mem_lockedLanes.mpr ⟨h10, h4, h2⟩)

/-- Past the stages of the lanes nothing more of training is to advance. -/
theorem advanceTraining_rests (h : stageOfPort s p = 0 ∨ stageOfPort s p = 8) : advanceTraining s p = s := by
  have hin : inLaneStages s p = false := by
    unfold inLaneStages
    rcases h with h | h <;> rw [h] <;> rfl
  have h5 : stageOfPort s p ≠ 5 := by omega
  have h6 : stageOfPort s p ≠ 6 := by omega
  have h7 : stageOfPort s p ≠ 7 := by omega
  unfold advanceTraining lanesDone
  rw [hin]
  simp [h5, h6, h7]

/-- The lanes of the port that have not locked in time are left out. -/
def lateOut (s : State) (p : Nat) : State :=
  forEach ((upFrom 0 10).filter fun k => 1 ≤ (lane s p k).stage && (lane s p k).lock != 2) (leaveOut p 1) s

/-- A port with no lane left waits for its retry. -/
def portStalls (s : State) (p : Nat) : State :=
  report (setPort (set s (ofPort p 0x2050_01) 0) p fun x => { x with stalled := true }) 0x02 p
    (partnerOrNone s p) (partnerEdition s p) 0

theorem enterStage5_stalls (ht : (port s p).told = false) (hl : lockedLanes (lateOut s p) p = []) (hs : linkState (lateOut s p) p = 0) :
    enterStage5 s p = portStalls (lateOut s p) p := by
  unfold lateOut at hl hs
  unfold enterStage5
  rw [ht]
  dsimp only
  rw [hl, hs]
  rfl

theorem get_leaveOuts (xs : List Nat) (d c : Nat) (hc : ∀ j ∈ xs, c ≠ laneStateCn p j) : get (forEach xs (leaveOut p d) s) c = get s c := by
  refine foldl_through (R := fun s t => get t c = get s c) (fun _ => rfl) (fun h g => g.trans h) (fun t j hj => ?_) s
  exact (get_setRx_ne (hc j hj)).trans (getRow_congr rfl rfl ..)

theorem get_lateOut (hp : p < 8) {c : Nat} (hc : c < 0x3000_00) : get (lateOut s p) c = get s c := by
  refine get_leaveOuts _ _ _ fun j _ => ?_
  unfold laneStateCn ofLane
  omega

theorem does_trainingLimit (h : PortRuns s p) (hl : linkState s p = 0) (hin : inLaneStages s p = true) (hlock : lockedLanes s p = [])
    (ht : (port s p).told = false) (hk : k < 10) (hs : 1 ≤ (lane s p k).stage) (hk2 : (lane s p k).lock ≠ 2) :
    Does (exec (.trainingLimitExpiry p) s) fun u =>
      (lane u p k).stage = 0 ∧ (lane u p k).lock = 0 ∧ rxState u p k = 0 ∧ linkState u p = 0 ∧
      stageOfPort u p = 0 ∧ (port u p).stalled = true := by
  have hlanes : HasLanes (lateOut s p) p :=
    forEach_keeps (I := fun t => HasLanes t p) (fun t x ht => ht.leaveOut 1 x) _ h.hasLanes
  have hlocked : HasLanes (lateOut s p) p ∧ lockedLanes (lateOut s p) p = [] :=
    forEach_keeps (I := fun t => HasLanes t p ∧ lockedLanes t p = [])
      (fun t x ht => ⟨ht.1.leaveOut 1 x, lockedLanes_leaveOut ht.1 ht.2 1 x⟩) _ ⟨h.hasLanes, hlock⟩
  have hout : laneIsOut p k (lateOut s p) := by
    refine forEach_reaches (I := fun t => HasLanes t p) (fun t x ht => ht.leaveOut 1 x) (fun t ht => laneIsOut_leaveOut ht hk 1)
      (fun t x ht ho => laneIsOut_keeps ht hk 1 x ho) ?_ h.hasLanes
    simp only [List.mem_filter, mem_upFrom, Bool.and_eq_true, decide_eq_true_eq, bne_iff_ne, ne_eq]
    exact ⟨⟨Nat.zero_le _, by omega⟩, hs, hk2⟩
  have hlate : linkState (lateOut s p) p = 0 := (get_lateOut h.lt (by have := h.lt; unfold ofPort; omega)).trans hl
  have he : trainingLimit s p = advanceTraining (portStalls (lateOut s p) p) p := by
    unfold trainingLimit
    rw [h.powered, hl, hin, if_pos (by decide), enterStage5_stalls ht hlocked.2 hlate]
  generalize lateOut s p = a at *
  have hport : port (setPort (set a (ofPort p 0x2050_01) 0) p fun x => { x with stalled := true }) p = _ :=
    HasLanes.port_setPort (s := set a (ofPort p 0x2050_01) 0) (hlanes.congr rfl) _
  have hsend : Sends (setPort (set a (ofPort p 0x2050_01) 0) p fun x => { x with stalled := true }) (portStalls a p) := sends_report ..
  have hgetb : ∀ c, c ≠ ofPort p 0x2050_01 →
      get (setPort (set a (ofPort p 0x2050_01) 0) p fun x => { x with stalled := true }) c = get a c := fun c hc =>
    (get_setPort ..).trans (get_set_ne _ _ hc)
  have hstage : get (setPort (set a (ofPort p 0x2050_01) 0) p fun x => { x with stalled := true }) (ofPort p 0x2050_01) = 0 :=
    (get_setPort ..).trans (get_set_same ..)
  generalize setPort (set a (ofPort p 0x2050_01) 0) p (fun x => { x with stalled := true }) = b at *
  have hgets : ∀ c, c < 0x4000_00 → c % 0x1_0000 ≠ 0x200C → get (portStalls a p) c = get b c := fun c hc h0 =>
    hsend.store c 0 (by decide) (notMem_sendCns hc h0)
  have hlt := h.lt
  have hst : stageOfPort (portStalls a p) p = 0 :=
    (hgets _ (by unfold ofPort; omega) (by unfold ofPort; omega)).trans hstage
  have hunq := hsend.port p
  rw [hport] at hunq
  have hlanes' := congrArg Port.lanes hunq
  have hlane : ∀ j, lane (portStalls a p) p j = lane a p j := fun j => congrArg (nth Lane.reset j) (Eq.trans hlanes' rfl)
  have hstalled := congrArg Port.stalled hunq
  refine does_portEvent h (f := fun s => trainingLimit s p) rfl (he.trans (advanceTraining_rests (.inl hst))) ⟨?_, ?_, ?_, ?_, hst, hstalled⟩
  · rw [hlane]; exact hout.1
  · rw [hlane]; exact hout.2.1
  · rw [← hout.2.2]
    refine congrArg (fld · 3 0) ((hgets _ ?_ ?_).trans (hgetb _ ?_)) <;> unfold laneStateCn ofLane <;> (try unfold ofPort) <;> omega
  · exact ((hgets _ (by unfold ofPort; omega) (by unfold ofPort; omega)).trans (hgetb _ (by unfold ofPort; omega))).trans hlate

/-! ### A fast retrain, and lanes asked for, that last too long -/

/-- The request of lane `n` to be added has been refused. -/
def addRefused (p n : Nat) (s : State) : Prop :=
  (lane s p n).addAsked = none ∧ ∃ c ∈ (port s p).cmds, c.record = laneRecord 5 n 0 2

/-- The refusal of a lane that its limit has passed. -/
def refuseAdd (p : Nat) (s : State) (n : Nat) : State :=
  queueCmd (setLane s p n unaskedLane) p (laneRecord 5 n 0 2) none

theorem HasLanes.refuseAdd (h : HasLanes s p) (j : Nat) : HasLanes (refuseAdd p s j) p := (h.setLane _).commands (commands_queueCmd ..)

theorem cmds_refuseAdd (h : HasLanes s p) (j : Nat) :
    (port (refuseAdd p s j) p).cmds = (port s p).cmds ++ [{ record := laneRecord 5 j 0 2, lane := none }] := by
  unfold refuseAdd
  rw [cmds_queueCmd (h.setLane _)]
  unfold setLane
  rw [h.port_setPort]

theorem lane_refuseAdd (h : HasLanes s p) (j i : Nat) : lane (refuseAdd p s j) p i = if i = j ∧ j < 10 then unaskedLane (lane s p i) else lane s p i := by
  have hread : lane (setLane s p j unaskedLane) p i = _ := lane_of_port i p
  unfold refuseAdd
  rw [(commands_queueCmd ..).lane, hread]
  simp only [true_and, h.port, h.lanes]

theorem addRefused_refuseAdd (h : HasLanes s p) (hn : n < 10) : addRefused p n (refuseAdd p s n) := by
  refine ⟨?_, ?_⟩
  · rw [lane_refuseAdd h, if_pos ⟨rfl, hn⟩]
    rfl
  · rw [cmds_refuseAdd h]
    exact ⟨_, List.mem_append_right _ (List.mem_singleton.mpr rfl), rfl⟩

theorem addRefused_keeps (h : HasLanes s p) (j : Nat) (hr : addRefused p n s) : addRefused p n (refuseAdd p s j) := by
  obtain ⟨ha, c, hc, he⟩ := hr
  refine ⟨?_, c, ?_, he⟩
  · rw [lane_refuseAdd h]
    split
    · rfl
    · exact ha
  · rw [cmds_refuseAdd h]
    exact List.mem_append_left _ hc

theorem addRefused_leaveOut (h : HasLanes s p) (j : Nat) (hr : addRefused p n s) : addRefused p n (leaveOut p 1 s j) := by
  obtain ⟨ha, c, hc, he⟩ := hr
  refine ⟨?_, c, ?_, he⟩
  · rw [lane_leaveOut h]
    split
    · exact ha
    · exact ha
  · unfold leaveOut
    rw [port_congr (setRx_ports ..)]
    unfold setLane
    rw [h.port_setPort]
    exact hc

theorem does_fastLimit (h : PortRuns s p) (hup : isUp s p = true) (hn : n < 10) (ha : (lane s p n).addAsked.isSome = true)
    (hw : (lane s p n).waking = false) :
    Does (exec (.fastRetrainLimitExpiry p) s) fun u =>
      (lane u p n).addAsked = none ∧ ∃ c ∈ (port u p).cmds, c.record = laneRecord 5 n 0 2 := by
  have hl : linkState s p = 1 := beq_iff_eq.1 hup
  obtain ⟨xs, hxs⟩ : ∃ xs, xs = (upFrom 0 10).filter fun n => (lane s p n).addAsked.isSome && !(lane s p n).waking := ⟨_, rfl⟩
  have hmem : n ∈ xs := by
    rw [hxs]
    simp only [List.mem_filter, mem_upFrom, ha, hw]
    exact ⟨⟨Nat.zero_le _, by omega⟩, rfl⟩
  have hr : addRefused p n (forEach xs (refuseAdd p) s) :=
    forEach_reaches (I := fun t => HasLanes t p) (fun t x ht => ht.refuseAdd x) (fun t ht => addRefused_refuseAdd ht hn)
      (fun t x ht hq => addRefused_keeps ht x hq) hmem h.hasLanes
  have hlanes : HasLanes (forEach xs (refuseAdd p) s) p :=
    forEach_keeps (I := fun t => HasLanes t p) (fun t x ht => ht.refuseAdd x) xs h.hasLanes
  obtain ⟨ys, he⟩ : ∃ ys, fastLimit s p = forEach ys (leaveOut p 1) (forEach xs (refuseAdd p) s) := by
    unfold fastLimit
    rw [h.powered, hl, hup, hxs]
    exact ⟨_, rfl⟩
  have hout := forEach_keeps (I := fun t => HasLanes t p ∧ addRefused p n t)
    (fun t x ht => ⟨ht.1.leaveOut 1 x, addRefused_leaveOut ht.1 x ht.2⟩) ys ⟨hlanes, hr⟩
  exact does_portEvent h (f := fun s => fastLimit s p) rfl he hout.2

end

end Sys2Proof.Machine
end

section
/-! Training blocks and codewords arrive, a port is held for a retrain, and training is complete (R226, R237 to R244). -/

namespace Sys2Proof.Machine

section
variable {s t u : State} {p k n : Nat}

/-! ### A training block counts towards detection -/

theorem sends_lanes (h : Sends s t) (j : Nat) : (port t j).lanes = (port s j).lanes := by
  have hl := congrArg Port.lanes (h.port j)
  exact hl

theorem lanes_setPort {f : Port → Port} (hf : ∀ x, (f x).lanes = x.lanes) (q j : Nat) :
    (port (setPort s q f) j).lanes = (port s j).lanes := by
  rw [port_setPort]
  split
  · exact hf _
  · rfl

theorem lanes_judgeOrder (j : Nat) : (port (judgeOrder s p) j).lanes = (port s j).lanes := by
  unfold judgeOrder
  dsimp only
  split
  · rfl
  · have hstall : ∀ c : Bool, (port (set (setPort s p fun x => { x with stalled := x.stalled || c }) (ofPort p 0x2050_01) 2) j).lanes =
        (port s j).lanes := fun c => lanes_setPort (f := fun x => { x with stalled := x.stalled || c }) (fun _ => rfl) p j
    unfold tellOnce
    split
    · exact hstall _
    · refine (sends_lanes (sends_report ..) j).trans ?_
      refine (lanes_setPort ?_ p j).trans (hstall _)
      exact fun _ => rfl

/-- The lane after a block that reports `r`. -/
def blockTaken (l : Lane) (r : Nat) (inv : Bool) : Lane :=
  { l with badBlocks := 0, detects := l.detects + 1, inverted := inv, reports := some r, stage := if l.detects = 15 then 3 else 1 }

theorem lanes_ext {a b : State} (h : (port a p).lanes = (port b p).lanes) (j : Nat) : lane a p j = lane b p j := by
  unfold lane
  rw [h]

/-- What a detecting lane's block brings about. -/
structure BlockTaken (s : State) (p k r : Nat) (inv : Bool) (t : State) : Prop where
  lane : lane t p k = blockTaken (lane s p k) r inv
  rest : (Machine.lane s p k).detects ≠ 15 → StoreFrame s t [ofPort p 0x2050_01] ∧ t = { s with ports := t.ports, cat := t.cat }

theorem blockTaken_blockDetects (h : HasLanes s p) (hk : k < 10) (r : Nat) (inv : Bool) :
    BlockTaken s p k r inv (blockDetects (setLane s p k fun l => { l with badBlocks := 0 }) p k r inv) := by
  have ha : HasLanes (setLane s p k fun l => { l with badBlocks := 0 }) p := h.setLane _
  have hla := h.lane_setLane_same hk fun l => { l with badBlocks := 0 }
  have hra : (setLane s p k fun l => { l with badBlocks := 0 }) =
    { s with ports := (setLane s p k fun l => { l with badBlocks := 0 }).ports } := rfl
  generalize (setLane s p k fun l => { l with badBlocks := 0 }) = a at *
  have hdet : (lane a p k).detects = (lane s p k).detects := by rw [hla]
  have hlb := ha.lane_setLane_same hk fun l =>
    { l with detects := l.detects + 1, inverted := inv, reports := some r, stage := if (lane a p k).detects = 15 then 3 else 1 }
  have hrb : (setLane a p k fun l =>
      { l with detects := l.detects + 1, inverted := inv, reports := some r, stage := if (lane a p k).detects = 15 then 3 else 1 }) =
    { a with ports := (setLane a p k fun l =>
      { l with detects := l.detects + 1, inverted := inv, reports := some r, stage := if (lane a p k).detects = 15 then 3 else 1 }).ports } := rfl
  have he : blockDetects a p k r inv = if (lane a p k).detects = 15 then
      judgeOrder (setLane a p k fun l =>
        { l with detects := l.detects + 1, inverted := inv, reports := some r, stage := if (lane a p k).detects = 15 then 3 else 1 }) p
      else setLane a p k fun l =>
        { l with detects := l.detects + 1, inverted := inv, reports := some r, stage := if (lane a p k).detects = 15 then 3 else 1 } := by
    unfold blockDetects
    simp only
  generalize (setLane a p k fun l =>
    { l with detects := l.detects + 1, inverted := inv, reports := some r, stage := if (lane a p k).detects = 15 then 3 else 1 }) = b at *
  have hlane : lane b p k = blockTaken (lane s p k) r inv := by
    rw [hlb, hla]
    rfl
  rw [he]
  refine ⟨?_, fun hne => ?_⟩
  · rw [← hlane]
    split
    · exact lanes_ext (lanes_judgeOrder p) k
    · rfl
  · rw [hdet, if_neg hne]
    exact ⟨.of_cat (by rw [hrb, hra]) (by rw [hrb, hra]), by rw [hrb, hra]⟩

theorem does_trainingBlock {bits v : Nat} {inv : Bool} (h : PortRuns s p) (hb : takesBlocks s p k = true) (hs0 : stageOfPort s p ≠ 0)
    (hs8 : linkState s p = 0 → stageOfPort s p ≠ 8) (hv : trainingBlockOf bits = some (v, inv)) (hs : (lane s p k).stage = 1) :
    Does (exec (.trainingBlock p k bits) s) fun u =>
      (lane u p k).detects = (lane s p k).detects + 1 ∧ (lane u p k).badBlocks = 0 ∧ (lane u p k).inverted = inv ∧
      (lane u p k).reports = some (fld v 111 108) ∧
      (lane u p k).stage = (if (lane s p k).detects = 15 then 3 else 1) ∧
      ((lane s p k).detects ≠ 15 →
        StoreFrame s u [ofPort p 0x2050_01] ∧ u = { s with ports := u.ports, cat := u.cat }) := by
  have hk : k < 10 := by
    unfold takesBlocks at hb
    simp only [Bool.and_eq_true] at hb
    exact laneUsable_lt hb.1.1.1.2
  have hstage : (lane (setLane s p k fun l => { l with badBlocks := 0 }) p k).stage = 1 := by
    rw [h.hasLanes.lane_setLane_same hk]
    exact hs
  have hstart : ¬(stageOfPort s p = 0 || (linkState s p = 0 && stageOfPort s p = 8)) = true := by
    simp only [Bool.or_eq_true, decide_eq_true_eq, Bool.and_eq_true, not_or, not_and]
    exact ⟨hs0, hs8⟩
  have he : blockArrives s p k bits =
      showStage (blockDetects (setLane s p k fun l => { l with badBlocks := 0 }) p k (fld v 111 108) inv) p := by
    unfold blockArrives
    dsimp only
    rw [hb, if_neg (by decide), if_neg hstart, hv]
    dsimp only
    rw [hstage, if_pos rfl]
  have hd := blockTaken_blockDetects h.hasLanes hk (fld v 111 108) inv
  generalize blockDetects (setLane s p k fun l => { l with badBlocks := 0 }) p k (fld v 111 108) inv = a at *
  obtain ⟨hst, hports, hrest⟩ := showStage_leaves (s := a) (p := p)
  have hlane : lane (showStage a p) p k = blockTaken (lane s p k) (fld v 111 108) inv := (lane_congr hports p k).trans hd.lane
  refine does_portEvent h (f := fun s => blockArrives s p k bits) rfl he ⟨?_, ?_, ?_, ?_, ?_, fun hne => ?_⟩
  · rw [hlane]; rfl
  · rw [hlane]; rfl
  · rw [hlane]; rfl
  · rw [hlane]; rfl
  · rw [hlane]; rfl
  · obtain ⟨h1, h2⟩ := hd.rest hne
    exact ⟨h1.trans hst, by rw [hrest, h2]⟩

/-! ### A codeword -/

/-- What of lane `k` a codeword notes first. -/
def frameNoted (s : State) (p k : Nat) : State :=
  setLane s p k fun l => { l with badFrames := 0, frameAt := if stageOfPort s p = 5 then some s.time.cycles else l.frameAt }

/-- A due and valid codeword of a locked lane whose partner has not left standby, with no plate, gives its probe; more of it
is what training then advances. -/
theorem codewordArrives_eq {msg : Nat} (h : portPowered s p = true) (hu : laneUsable s p k = true) (hf : (lane s p k).rxFailed = false)
    (hm : msg % 2 ^ 128 = 0x4B1D_4B1D_4B1D_4B1D_4B1D_4B1D_4B1D_4B1D) (hok : plateOk (fld msg 639 128) = false)
    (hp : (lane s p k).peerState ≠ 5) (hlock : lockLane (frameNoted s p k) p k 1025 (fld (fld msg 767 640) 127 124) = frameNoted s p k)
    (hrel : relockLane (takeProbe (frameNoted s p k) p k (fld msg 767 640)) p k = takeProbe (frameNoted s p k) p k (fld msg 767 640))
    (hadv : advanceTraining (takeProbe (frameNoted s p k) p k (fld msg 767 640)) p = takeProbe (frameNoted s p k) p k (fld msg 767 640))
    (hdone : trainingCompletes (takeProbe (frameNoted s p k) p k (fld msg 767 640)) p = takeProbe (frameNoted s p k) p k (fld msg 767 640)) :
    codewordArrives s p k msg 1025 = takeProbe (frameNoted s p k) p k (fld msg 767 640) := by
  have hwake : wokenLane s p k = s := by
    unfold wokenLane
    rw [if_neg hp]
  have hbig : ∀ b : Bool, ¬(b && decide (1025 < 1025)) = true := fun b => by simp
  have hdue : ∀ b : Bool, (!true || !(b || true)) = false := fun b => by cases b <;> rfl
  unfold codewordArrives
  simp only [h, hu, hf, hm, decide_true, Bool.not_true, Bool.or_false, Bool.false_eq_true, if_false, Nat.mod_self,
    Nat.zero_lt_succ, Bool.true_and, Bool.or_true, hok, Bool.false_and, Nat.lt_irrefl, decide_false, Bool.and_false, hwake]
  rw [show setLane s p k (fun l => { l with badFrames := 0, frameAt := if stageOfPort s p = 5 then some s.time.cycles else l.frameAt }) =
    frameNoted s p k from rfl, hlock, hrel, hadv, hdone, ite_self]

theorem lockLane_locked (h : (lane s p k).lock = 2) (place number : Nat) : lockLane s p k place number = s := by
  unfold lockLane
  dsimp only
  rw [if_pos (by simp [h])]

/-- Lane `k` as its codeword leaves it. -/
def probed (s : State) (p r : Nat) (l : Lane) : Lane :=
  { l with badFrames := 0, frameAt := if stageOfPort s p = 5 then some s.time.cycles else l.frameAt
           probe := fld r 95 64, probeAt := portCycles s, peerInject := bit r 122
           samples := if stageOfPort s p = 7 && l.samples.length < 4 then
               l.samples ++ [subMod 32 (subMod 32 (portCycles s) (fld r 63 32)) (fld r 31 16)]
             else l.samples }

/-- What the codeword of lane `k` leaves before training advances. -/
structure Probed (s : State) (p k r : Nat) (t : State) : Prop where
  rest : t = { s with ports := t.ports }
  lanes : HasLanes t p
  lane : ∀ j, lane t p j = if j = k then probed s p r (lane s p k) else lane s p j

theorem Probed.get {r : Nat} (h : Probed s p k r t) (c : Nat) : get t c = get s c :=
  getRow_congr (by rw [h.rest]) (by rw [h.rest]) ..

theorem probed_takeProbe (h : HasLanes s p) (hk : k < 10) (r : Nat) : Probed s p k r (takeProbe (frameNoted s p k) p k r) := by
  have ha : HasLanes (frameNoted s p k) p := h.setLane _
  have hla : ∀ j, lane (frameNoted s p k) p j = _ := fun j => h.lane_setLane hk _ j
  have hra : frameNoted s p k = { s with ports := (frameNoted s p k).ports } := rfl
  have hlb : ∀ j, lane (takeProbe (frameNoted s p k) p k r) p j = _ := fun j => ha.lane_setLane hk _ j
  have hrb : takeProbe (frameNoted s p k) p k r = { frameNoted s p k with ports := (takeProbe (frameNoted s p k) p k r).ports } := rfl
  have hstage : stageOfPort (frameNoted s p k) p = stageOfPort s p := getRow_congr rfl rfl ..
  have hcyc : portCycles (frameNoted s p k) = portCycles s := rfl
  have hlan : HasLanes (takeProbe (frameNoted s p k) p k r) p := ha.setLane _
  generalize takeProbe (frameNoted s p k) p k r = b at *
  generalize frameNoted s p k = a at *
  refine ⟨by rw [hrb, hra], hlan, fun j => ?_⟩
  rw [hlb]
  by_cases hj : j = k
  · subst hj
    rw [if_pos rfl, if_pos rfl, hla, if_pos rfl, hstage, hcyc]
    rfl
  · rw [if_neg hj, if_neg hj, hla, if_neg hj]

theorem trainingCompletes_rests (h : stageOfPort s p ≠ 7) : trainingCompletes s p = s := by
  unfold trainingCompletes
  rw [if_pos (by simp [h])]

section
variable {msg : Nat} (h : PortRuns s p) (hu : laneUsable s p k = true) (hf : (lane s p k).rxFailed = false)
  (hm : msg % 2 ^ 128 = 0x4B1D_4B1D_4B1D_4B1D_4B1D_4B1D_4B1D_4B1D) (hok : plateOk (fld msg 639 128) = false)
  (hlock : (lane s p k).lock = 2) (hp : (lane s p k).peerState ≠ 5)
include h hu hf hm hok hlock hp

theorem does_codeword_trained (hs : stageOfPort s p = 8) (ht : (lane s p k).rxTrained = true) :
    Does (exec (.alignmentAndFillerCodeword p ⟨k, 1025⟩ msg) s) fun u =>
      (lane u p k).badFrames = 0 ∧ (lane u p k).probe = fld (fld msg 767 640) 95 64 ∧
      (lane u p k).probeAt = portCycles s ∧ (lane u p k).peerInject = bit (fld msg 767 640) 122 ∧
      u = { s with ports := u.ports } := by
  have hk := laneUsable_lt hu
  have hpr := probed_takeProbe h.hasLanes hk (fld msg 767 640)
  have hlane := hpr.lane k
  rw [if_pos rfl] at hlane
  have hst : stageOfPort (takeProbe (frameNoted s p k) p k (fld msg 767 640)) p = 8 := (hpr.get _).trans hs
  have hnoted : (lane (frameNoted s p k) p k).lock = 2 := by
    unfold frameNoted
    rw [h.hasLanes.lane_setLane_same hk]
    exact hlock
  have he : codewordArrives s p k msg 1025 = _ := codewordArrives_eq h.powered hu hf hm hok hp (lockLane_locked hnoted _ _)
    (by
      unfold relockLane
      dsimp only
      rw [if_pos]
      rw [hlane]
      simp [probed, ht])
    (advanceTraining_rests (.inr hst)) (trainingCompletes_rests (by omega))
  refine does_portEvent h (f := fun s => codewordArrives s p k msg 1025) rfl he ⟨?_, ?_, ?_, ?_, hpr.rest⟩ <;> rw [hlane] <;> rfl

theorem does_codeword_stage5 {j : Nat} (hs : stageOfPort s p = 5) (hup : isUp s p = false) (hj : j < 10) (hjk : j ≠ k)
    (hj4 : (lane s p j).stage = 4) (hj2 : (lane s p j).lock = 2) (hjf : (lane s p j).frameAt = none) :
    Does (exec (.alignmentAndFillerCodeword p ⟨k, 1025⟩ msg) s) fun u =>
      (lane u p k).frameAt = some s.time.cycles ∧ (lane u p k).lock = 2 ∧ stageOfPort u p = 5 ∧
      u = { s with ports := u.ports } := by
  have hk := laneUsable_lt hu
  have hpr := probed_takeProbe h.hasLanes hk (fld msg 767 640)
  have hlane := hpr.lane k
  have hlj := hpr.lane j
  rw [if_pos rfl] at hlane
  rw [if_neg hjk] at hlj
  have hst : stageOfPort (takeProbe (frameNoted s p k) p k (fld msg 767 640)) p = 5 := (hpr.get _).trans hs
  have hnup : isUp (takeProbe (frameNoted s p k) p k (fld msg 767 640)) p = false := by
    rw [isUp_get (hpr.get _), hup]
  have hnoted : (lane (frameNoted s p k) p k).lock = 2 := by
    unfold frameNoted
    rw [h.hasLanes.lane_setLane_same hk]
    exact hlock
  have he : codewordArrives s p k msg 1025 = _ := codewordArrives_eq h.powered hu hf hm hok hp (lockLane_locked hnoted _ _)
    (by
      unfold relockLane
      dsimp only
      rw [if_pos]
      rw [hnup]
      rfl)
    (by
      generalize takeProbe (frameNoted s p k) p k (fld msg 767 640) = a at *
      have hlocked : j ∈ lockedLanes a p := mem_lockedLanes.mpr ⟨hj, by rw [hlj]; exact hj4, by rw [hlj]; exact hj2⟩
      have hwait : ((lockedLanes a p).all fun k => (lane a p k).frameAt.isSome) = false := by
        rw [List.all_eq_false]
        exact ⟨j, hlocked, by rw [hlj, hjf]; simp⟩
      have hin : inLaneStages a p = false := by
        unfold inLaneStages
        rw [hst]
        rfl
      unfold advanceTraining lanesDone
      rw [hin]
      simp [hst, hwait])
    (trainingCompletes_rests (by omega))
  refine does_portEvent h (f := fun s => codewordArrives s p k msg 1025) rfl he ⟨?_, ?_, hst, hpr.rest⟩ <;> rw [hlane]
  · unfold probed
    rw [hs, if_pos rfl]
  · exact hlock

end

/-! ### A port is held for a retrain -/

theorem renewLease_get (rq : Requester) (c : Nat) : get (renewLease s rq) c = get s c := getRow_congr (by simp) (by simp) ..

theorem does_portRetrain {rq : Requester} (g : Granted s rq (ofPort p 0x2000_04) []) (hp : p < portsOf s.part)
    (h8 : s.ports.length = 8) (hup : isUp s p = true) (hgrace : get s (ofPort p 0x2000_02) ≠ 0) :
    Does (exec (.portRetrain rq p) s) fun u =>
      linkState u p = 2 ∧ get u (ofPort p 0x2020_0A) = (get s (ofPort p 0x2020_0A) + 1) % 2 ^ 32 ∧
      (port u p).replayHeld = true ∧ (port u p).ready = false ∧ get u (ofPort p 0x2000_04) = cmdValue 1 0 0 ∧
      ∃ v ∈ u.mgmt.running, v.cn = ofPort p 0x2000_04 ∧ v.arg = 0 := by
  have hp8 : p < 8 := hp.trans_le (portsOf_le _)
  have hh := heldAt_leaves (s := renewLease s rq) hp8 (by rw [renewLease_ports, h8]; exact hp8)
  have hgr : get (heldAt (renewLease s rq) p) (ofPort p 0x2000_02) ≠ 0 := by
    rw [hh.get _ (portObject_ofPort hp8 (by decide) (by decide) (by decide)) (by unfold ofPort; omega) (by unfold ofPort; omega),
      renewLease_get]
    exact hgrace
  have hup' : isUp (renewLease s rq) p = true := by rw [isUp_get (renewLease_get rq _)]; exact hup
  have e : portRetrainOp p (renewLease s rq) = (heldAt (renewLease s rq) p, .waits) := by
    unfold portRetrainOp
    dsimp only
    rw [if_neg (by rw [renewLease_part]; omega), hup', holdPort_up hup', if_neg hgr, if_neg (by decide), if_pos hh.link]
  generalize heldAt (renewLease s rq) p = t at *
  refine does_commandAccess_waits g e ⟨?_, ?_, ?_, ?_, get_runsState (by unfold ofPort; omega), ?_⟩
  · exact (getRow_runsState (by decide) (by unfold ofPort; omega) (by unfold ofPort; omega)).trans hh.link
  · refine (getRow_runsState (by decide) (by unfold ofPort; omega) (by unfold ofPort; omega)).trans (hh.counted.trans ?_)
    rw [renewLease_get]
  · have hr := congrArg Port.replayHeld hh.port
    rw [runsState_eq]
    exact hr
  · have hr := congrArg Port.ready hh.port
    rw [runsState_eq]
    exact hr
  · obtain ⟨v, hv, hc, ha, -⟩ := mem_runsState (s := s) (t := t) (rq := rq) (cn := ofPort p 0x2000_04) (arg := 0) (xs := [])
    exact ⟨v, hv, hc, ha⟩

end

end Sys2Proof.Machine
end

section
/-! A port comes up with the lanes that its partner wants (R228, R243, R244). -/

namespace Sys2Proof.Machine

section
variable {s t u : State} {p k n : Nat}

/-! ### What coming up leaves of the link's session -/

/-- The objects of port `p` that say what its link is. -/
def linkCns (p : Nat) : List Nat :=
  [ofPort p 0x2000_01, ofPort p 0x2050_01, ofPort p 0x2010_01, ofPort p 0x2010_02, ofPort p 0x2040_01]

/-- The counts of a port and the session that they belong to. -/
def session (x : Port) : Nat × Nat × List Flit × Nat := (x.txSeq, x.expect, x.replay, x.heldSession)

/-- `t` is `s` after what leaves the link of port `p` as it is. -/
structure LinkKept (p : Nat) (s t : State) : Prop where
  get : ∀ c ∈ linkCns p, get t c = get s c
  session : session (port t p) = session (port s p)
  count : t.ports.length = s.ports.length
  lanes : (port t p).lanes.length = (port s p).lanes.length

theorem LinkKept.refl (s : State) : LinkKept p s s := ⟨fun _ _ => rfl, rfl, rfl, rfl⟩

theorem LinkKept.trans (h : LinkKept p s t) (g : LinkKept p t u) : LinkKept p s u :=
  ⟨fun c hc => (g.get c hc).trans (h.get c hc), g.session.trans h.session, g.count.trans h.count, g.lanes.trans h.lanes⟩

theorem HasLanes.linkKept (h : HasLanes s p) (g : LinkKept p s t) : HasLanes t p :=
  ⟨by rw [g.count]; exact h.port, by rw [g.lanes]; exact h.lanes⟩

theorem linkKept_of_ports (hp : t.ports = s.ports) (hg : ∀ c ∈ linkCns p, get t c = get s c) : LinkKept p s t :=
  ⟨hg, by rw [port_congr hp], by rw [hp], by rw [port_congr hp]⟩

theorem linkKept_set {c v : Nat} (h : c ∉ linkCns p) : LinkKept p s (set s c v) :=
  linkKept_of_ports rfl fun _ hd => get_set_ne _ _ fun e => h (e ▸ hd)

theorem linkKept_setPort {f : Port → Port} (hf : ∀ x, session (f x) = session x) (hl : ∀ x, (f x).lanes.length = x.lanes.length)
    (q : Nat) : LinkKept p s (setPort s q f) := by
  refine ⟨fun _ _ => get_setPort .., ?_, length_setPort f, ?_⟩ <;> rw [port_setPort] <;> split
  · exact hf _
  · rfl
  · exact hl _
  · rfl

theorem linkKept_setLane (f : Lane → Lane) : LinkKept p s (setLane s p k f) := by
  unfold setLane
  refine linkKept_setPort ?_ ?_ p
  · exact fun _ => rfl
  · exact fun _ => length_modifyNth ..

theorem Commands.linkKept (h : Commands s t) : LinkKept p s t := by
  have hs := congrArg session (h.ports p)
  have hl := congrArg (fun x => x.lanes.length) (h.ports p)
  exact ⟨fun c _ => h.get c, hs, h.count, hl⟩

theorem linkKept_queueCmd (record : Nat) (on : Option Nat) : LinkKept p s (queueCmd s p record on) :=
  Commands.linkKept (commands_queueCmd ..)

theorem linkKept_forEach {α : Type} {f : State → α → State} {xs : List α} (hf : ∀ t, ∀ x ∈ xs, LinkKept p t (f t x)) (s : State) :
    LinkKept p s (forEach xs f s) := foldl_through (R := LinkKept p) .refl .trans hf s

theorem linkKept_ite {b : Prop} [Decidable b] (ht : LinkKept p s t) (hu : LinkKept p s u) : LinkKept p s (if b then t else u) := by
  split
  · exact ht
  · exact hu

theorem mem_linkCns {c : Nat} : c ∈ linkCns p ↔ c = ofPort p 0x2000_01 ∨ c = ofPort p 0x2050_01 ∨ c = ofPort p 0x2010_01 ∨
    c = ofPort p 0x2010_02 ∨ c = ofPort p 0x2040_01 := by
  simp [linkCns]

theorem Sends.linkKept (hp : p < 8) (h : Sends s t) : LinkKept p s t := by
  have hs := congrArg session (h.port p)
  have hl := congrArg (fun x => x.lanes.length) (h.port p)
  have hc := congrArg (fun x : State => x.ports.length) h.rest
  have hc' : (s.ports.map unqueued).length = s.ports.length := List.length_map ..
  have hc'' : (t.ports.map unqueued).length = t.ports.length := List.length_map ..
  refine ⟨fun c hc => h.store c 0 (by decide) ?_, hs, hc''.symm.trans (Eq.trans hc hc'), hl⟩
  rcases mem_linkCns.mp hc with rfl | rfl | rfl | rfl | rfl <;>
    exact notMem_sendCns (by unfold ofPort; omega) (by unfold ofPort; omega)

theorem linkCns_ne_lane {c d : Nat} (hc : c ∈ linkCns p) (hk : k < 10) (hd : 0x3000_01 ≤ d) (hd' : d < 0x3011_00) : c ≠ ofLane p k d := by
  rcases mem_linkCns.mp hc with rfl | rfl | rfl | rfl | rfl <;> unfold ofPort ofLane <;> omega

theorem linkKept_setTx (v : Nat) (hk : k < 10) : LinkKept p s (setTx s p k v) :=
  linkKept_of_ports rfl fun _ hc => get_set_ne _ _ (linkCns_ne_lane hc hk (by decide) (by decide))

theorem linkKept_setRx (v : Nat) (hk : k < 10) : LinkKept p s (setRx s p k v) :=
  linkKept_of_ports rfl fun _ hc => get_set_ne _ _ (linkCns_ne_lane hc hk (by decide) (by decide))

theorem EndsAt.linkKept {cn : Nat} (h : EndsAt s cn t) (hc : cn ∉ linkCns p) : LinkKept p s t :=
  linkKept_of_ports (by rw [h.rest]) fun c hm => h.store c 0 (by decide) (by simpa using fun e : c = cn => hc (e ▸ hm))

theorem linkKept_endTest (status : Nat) (hk : k < 10) : LinkKept p s (endTest s p k status) := by
  by_cases hm : (lane s p k).test = 0
  · unfold endTest
    rw [if_pos hm]
    exact .refl s
  · rw [endTest_eq status hm]
    have hnot : ∀ d, 0x3000_01 ≤ d → d < 0x3011_00 → ofLane p k d ∉ linkCns p := fun d h1 h2 hc =>
      linkCns_ne_lane hc hk h1 h2 rfl
    have hleft : LinkKept p s (testLeft s p k) := by
      obtain ⟨m, hm⟩ : ∃ m, Commands (setLane s p k fun l => { l with test := 0, leaving := m }) (testLeft s p k) :=
        ⟨_, commands_ite (commands_queueCmd ..)⟩
      exact (linkKept_setLane _).trans (Commands.linkKept hm)
    have hloop : ∀ (a : State) m, LinkKept p a (loopbackLeft a p k m) := fun a m => by
      unfold loopbackLeft
      exact linkKept_ite (linkKept_set (hnot _ (by decide) (by decide))) (.refl a)
    exact (hleft.trans (hloop ..)).trans (EndsAt.linkKept endsAt_endInvocation (hnot _ (by decide) (by decide)))

theorem Seeks.linkKept {reason : Nat} (hp : p < 8) (g : Seeks s p reason t) : LinkKept p s t := by
  have hover : LinkKept p s (searchOver s p) := by
    unfold searchOver
    refine linkKept_setPort ?_ ?_ p
    · exact fun _ => rfl
    · exact fun _ => List.length_map ..
  cases g with
  | rests => exact .refl s
  | @preempts n hn ho =>
    have hk := rxPhys_lt (s := s) (p := p) (mem_candidates hn).1
    refine (linkKept_endTest stPreempted hk).trans ?_
    unfold reacquire
    refine LinkKept.trans ?_ (linkKept_setRx _ hk)
    exact linkKept_setLane _
  | asks hn =>
    refine LinkKept.trans ?_ (linkKept_queueCmd ..)
    refine linkKept_setPort ?_ ?_ p <;> exact fun _ => rfl
  | ends => exact hover
  | told => exact hover.trans (Sends.linkKept hp (sends_reportPartner ..))

theorem linkKept_idleLanes : LinkKept p s (idleLanes s p) := by
  unfold idleLanes
  refine linkKept_forEach (fun t n _ => ?_) s
  dsimp only
  refine linkKept_ite (.refl t) (linkKept_ite (.refl t) (linkKept_ite (linkKept_queueCmd ..) (linkKept_ite ?_ (.refl t))))
  exact linkKept_setLane _

theorem linkKept_reviewLoans (hp : p < 8) : LinkKept p s (reviewLoans s p) := by
  have hset : ∀ v, LinkKept p s (set s 0x6410_06 v) := fun v => linkKept_set (by
    rw [mem_linkCns]
    unfold ofPort
    omega)
  have hrep : ∀ (a : State) c d, LinkKept p a (reportOwn a c p d) := fun a c d => Sends.linkKept hp (sends_report ..)
  unfold reviewLoans
  dsimp only
  exact (hset _).trans (linkKept_ite (hrep ..) (.refl _))

/-! ### The port comes up -/

/-- The objects of the link as port `p` comes up. -/
def upShown (s : State) (p : Nat) : State :=
  let s := set (set s (ofPort p 0x2000_01) 1) (ofPort p 0x2050_01) 8
  set s (ofPort p 0x2010_01) (port s p).peerWanted

/-- Lane `n` takes its place as the port comes up. -/
def laneUp (p : Nat) (s : State) (n : Nat) : State :=
  let s := if laneUsable s p n then setTx s p n (txAtStart s p n) else s
  let k := rxPhys s p n
  if (lane s p k).rxTrained then setRx s p k (if bit (waitSet s p) n then 2 else 3) else s

/-- A port as its link comes up. -/
def upPort (s : State) (p : Nat) (x : Port) : Port :=
  { x with everUp := true, newSession := false, heldEndpoint := partnerEndpoint s p, heldEdition := partnerEdition s p
           heldSession := plateSession (partnerPlate s p), asked := none, marks := [] }

/-- The lanes up, and the port in its session. -/
def cameUp (s : State) (p : Nat) : State :=
  setPort (forEach (upFrom 0 10) (laneUp p) (upShown s p)) p (upPort (forEach (upFrom 0 10) (laneUp p) (upShown s p)) p)

/-- What is told of a port that has come up. -/
def upTold (s : State) (p : Nat) : State :=
  let s := forEach ((upFrom 0 10).filter fun n => stopsFrames (lane s p n).test)
    (fun s n => queueCmd s p (laneRecord 0x12 n 0 0) none) s
  let s := forEach ((setBits 10 0 (port s p).wanted).filter fun n => !bit (waitSet s p) n)
    (fun s n => queueCmd s p (laneRecord 4 n 2 0) none) s
  let s := reviewLoans s p
  let s := endInvocations s (ofPort p 0x2000_04) (fun _ => true) stOk
  seekLane (idleLanes s p) p 5

theorem goUp_eq (s : State) (p : Nat) : goUp s p = upTold (cameUp s p) p := rfl

theorem linkKept_upTold (hp : p < 8) : LinkKept p s (upTold s p) := by
  unfold upTold
  refine LinkKept.trans ?_ (seeks_seekLane.linkKept hp)
  refine LinkKept.trans ?_ linkKept_idleLanes
  refine LinkKept.trans ?_ (EndsAt.linkKept endsAt_endInvocations ?_)
  · refine LinkKept.trans ?_ (linkKept_reviewLoans hp)
    refine LinkKept.trans ?_ (linkKept_forEach (fun _ _ _ => linkKept_queueCmd ..) _)
    exact linkKept_forEach (fun _ _ _ => linkKept_queueCmd ..) s
  · rw [mem_linkCns]
    unfold ofPort
    omega

theorem linkKept_laneUp (hn : n < 10) : LinkKept p s (laneUp p s n) := by
  have htx : LinkKept p s (if laneUsable s p n then setTx s p n (txAtStart s p n) else s) :=
    linkKept_ite (linkKept_setTx _ hn) (.refl s)
  unfold laneUp
  dsimp only
  generalize (if laneUsable s p n then setTx s p n (txAtStart s p n) else s) = a at htx ⊢
  exact htx.trans (linkKept_ite (linkKept_setRx _ (rxPhys_lt hn)) (.refl a))

theorem linkKept_lanesUp : LinkKept p s (forEach (upFrom 0 10) (laneUp p) s) :=
  linkKept_forEach (fun _ _ hn => linkKept_laneUp (lt_of_mem_lanes hn)) s

theorem get_upShown (c : Nat) : get (upShown s p) c =
    if c = ofPort p 0x2010_01 then (port s p).peerWanted
    else if c = ofPort p 0x2050_01 then 8 else if c = ofPort p 0x2000_01 then 1 else get s c := by
  unfold upShown
  dsimp only
  by_cases h1 : c = ofPort p 0x2010_01
  · rw [if_pos h1, h1, get_set_same]
    rfl
  · rw [if_neg h1, get_set_ne _ _ h1]
    by_cases h2 : c = ofPort p 0x2050_01
    · rw [if_pos h2, h2, get_set_same]
    · rw [if_neg h2, get_set_ne _ _ h2]
      by_cases h3 : c = ofPort p 0x2000_01
      · rw [if_pos h3, h3, get_set_same]
      · rw [if_neg h3, get_set_ne _ _ h3]

/-- What a port that comes up leaves. -/
theorem goUp_leaves (hp : p < 8) (h : HasLanes s p) :
    linkState (goUp s p) p = 1 ∧ stageOfPort (goUp s p) p = 8 ∧ dealSet (goUp s p) p = (port s p).peerWanted ∧
      waitSet (goUp s p) p = waitSet s p ∧ (port (goUp s p) p).txSeq = (port s p).txSeq ∧
      (port (goUp s p) p).expect = (port s p).expect ∧ (port (goUp s p) p).replay = (port s p).replay ∧
      (port (goUp s p) p).heldSession = plateSession (partnerPlate s p) := by
  have hl := linkKept_lanesUp (s := upShown s p) (p := p)
  have hg : ∀ c, get (cameUp s p) c = get (forEach (upFrom 0 10) (laneUp p) (upShown s p)) c := fun c => get_setPort ..
  have hports : port (upShown s p) p = port s p := port_congr rfl p
  have hls : HasLanes (upShown s p) p := h.congr rfl
  have hport := (hls.linkKept hl).port_setPort (upPort (forEach (upFrom 0 10) (laneUp p) (upShown s p)) p)
  have hcame : port (cameUp s p) p = _ := hport
  have hsess := hl.session
  rw [hports] at hsess
  have hseen : ∀ c ∈ linkCns p, get (upTold (cameUp s p) p) c = get (upShown s p) c := fun c hc =>
    ((linkKept_upTold hp).get c hc).trans ((hg c).trans (hl.get c hc))
  have hplate : partnerPlate (forEach (upFrom 0 10) (laneUp p) (upShown s p)) p = partnerPlate s p := by
    refine (hl.get (ofPort p 0x2040_01) (by simp [linkCns])).trans ?_
    rw [get_upShown, if_neg (by unfold ofPort; omega), if_neg (by unfold ofPort; omega), if_neg (by unfold ofPort; omega)]
    rfl
  have hheld : (port (cameUp s p) p).heldSession = plateSession (partnerPlate s p) := by
    rw [hcame, ← hplate]
    rfl
  have htx : (port (cameUp s p) p).txSeq = (port s p).txSeq ∧ (port (cameUp s p) p).expect = (port s p).expect ∧
      (port (cameUp s p) p).replay = (port s p).replay := by
    have h1 := congrArg (fun x => x.1) hsess
    have h2 := congrArg (fun x => x.2.1) hsess
    have h3 := congrArg (fun x => x.2.2.1) hsess
    rw [hcame]
    exact ⟨h1, h2, h3⟩
  obtain ⟨h1, h2, h3⟩ := htx
  rw [goUp_eq]
  generalize cameUp s p = a at *
  have ht := linkKept_upTold (s := a) (p := p) hp
  generalize upTold a p = b at *
  have h4 : (port b p).txSeq = (port a p).txSeq := congrArg (·.1) ht.session
  have h5 : (port b p).expect = (port a p).expect := congrArg (·.2.1) ht.session
  have h6 : (port b p).replay = (port a p).replay := congrArg (·.2.2.1) ht.session
  have h7 : (port b p).heldSession = (port a p).heldSession := congrArg (·.2.2.2) ht.session
  refine ⟨?_, ?_, ?_, ?_, h4.trans h1, h5.trans h2, h6.trans h3, h7.trans hheld⟩
  · refine (hseen (ofPort p 0x2000_01) (by simp [linkCns])).trans ?_
    rw [get_upShown, if_neg (by unfold ofPort; omega), if_neg (by unfold ofPort; omega), if_pos rfl]
  · refine (hseen (ofPort p 0x2050_01) (by simp [linkCns])).trans ?_
    rw [get_upShown, if_neg (by unfold ofPort; omega), if_pos rfl]
  · refine (hseen (ofPort p 0x2010_01) (by simp [linkCns])).trans ?_
    rw [get_upShown, if_pos rfl]
  · refine (hseen (ofPort p 0x2010_02) (by simp [linkCns])).trans ?_
    rw [get_upShown, if_neg (by unfold ofPort; omega), if_neg (by unfold ofPort; omega), if_neg (by unfold ofPort; omega)]
    rfl

/-! ### New counts -/

/-- A port without its places. -/
def newlyCounted (x : Port) : Port :=
  { x with txSeq := 0, replay := [], replayAt := none, replayHeld := false, fruitless := 0, replayFrom := none,
           begun := [0, 0, 0, 0, 0, 0], freedSeen := [0, 0, 0, 0, 0, 0], xoffAt := none, cmds := [],
           expect := 0, gap := false, marks := [], heldFlits := [], behind := [], acted := [], nakDue := false,
           freed := [0, 0, 0, 0, 0, 0], returned := [0, 0, 0, 0, 0, 0], creditAge := [0, 0, 0, 0, 0, 0],
           rxSlots := [], rxLost := 0, rxShort := 0, rxCut := none, xoff := false
           rxBuf := x.rxBuf.map fun e => (e.1, e.2.map fun r => { r with slots := 0 }) }

theorem newCounts_eq (s : State) (p : Nat) : newCounts s p = setPort (endPlaces s p) p newlyCounted := rfl

theorem port_endPlaces (j : Nat) : unloaded (port (endPlaces s p) j) = unloaded (port s j) := by
  unfold port endPlaces
  dsimp only
  refine nth_map_of ?_ j s.ports
  exact fun _ => rfl

theorem does_trainingComplete (h : PortRuns s p) (hl : linkState s p = 0) (hs : stageOfPort s p = 7) (hr : (port s p).ready = true)
    (hpr : (port s p).peerReady = true) :
    Does (exec (.trainingComplete p) s) fun u =>
      linkState u p = 1 ∧ stageOfPort u p = 8 ∧ dealSet u p = (port s p).peerWanted ∧ waitSet u p = waitSet s p ∧
      (port u p).txSeq = 0 ∧ (port u p).expect = 0 ∧ (port u p).replay = [] ∧
      (port u p).heldSession = plateSession (partnerPlate s p) := by
  have he : trainingCompletes s p = goUp (newCounts s p) p := by
    unfold trainingCompletes
    rw [h.powered, hs, hr, hpr, hl, if_neg (by decide), if_neg (by decide), if_pos rfl]
  have hcount : (endPlaces s p).ports.length = s.ports.length := List.length_map ..
  have hu := port_endPlaces (s := s) (p := p) p
  have hlan := congrArg (fun x => x.lanes.length) hu
  have hwant := congrArg Port.peerWanted hu
  have hla : HasLanes (endPlaces s p) p := ⟨by rw [hcount]; exact h.hasLanes.port, Eq.trans hlan h.lanes⟩
  have hport : port (newCounts s p) p = newlyCounted (port (endPlaces s p) p) := hla.port_setPort newlyCounted
  have hln : HasLanes (newCounts s p) p := hla.setPort fun _ => rfl
  have hget : ∀ c, get (newCounts s p) c = get s c := fun c => getRow_congr rfl rfl ..
  generalize newCounts s p = a at *
  have hwa : (port a p).peerWanted = (port s p).peerWanted := by
    rw [hport]
    exact hwant
  obtain ⟨h1, h2, h3, h4, h5, h6, h7, h8⟩ := goUp_leaves h.lt hln
  refine does_portEvent h (f := fun s => trainingCompletes s p) rfl he
    ⟨h1, h2, h3.trans hwa, h4.trans (hget _), h5.trans ?_, h6.trans ?_, h7.trans ?_, h8.trans ?_⟩
  · rw [hport]; rfl
  · rw [hport]; rfl
  · rw [hport]; rfl
  · unfold partnerPlate
    rw [hget]

end

/-- Settles O49: a held port is flushed when its grace period ends, and training starts, advances, ends and is retried. -/
theorem holdAndTrainingAct : Obligations.HoldAndTrainingAct := by
  unfold Obligations.HoldAndTrainingAct
  refine ⟨?_, ?_, ?_, ?_, ?_, ?_, ?_, ?_, ?_, ?_, ?_, ?_, ?_⟩
  · exact fun s p h hl => does_gracePeriodExpiry h hl
  · exact fun s p h hl hs => does_retrainStart h hl hs
  · exact fun s rq p g hp h8 hup hg => does_portRetrain g hp h8 hup hg
  · exact fun s p k bits v inv h hb h0 h8 hv hs => does_trainingBlock h hb h0 h8 hv hs
  · exact fun s p k msg h hu hf hm hok hs ht hlock hp => does_codeword_trained h hu hf hm hok hlock hp hs ht
  · exact fun s p k j msg h hu hf hm hok hs hup hlock hp hj hjk h4 h2 hfr =>
      does_codeword_stage5 h hu hf hm hok hlock hp hs hup hj hjk h4 h2 hfr
  · exact fun s p h hl hs hr hpr => does_trainingComplete h hl hs hr hpr
  · exact fun s p k h hl hin hlock ht hk hs h2 => does_trainingLimit h hl hin hlock ht hk hs h2
  · exact fun s p k h hup hk hs hf => does_stageTimeout h hup hk hs hf
  · exact fun s p n h hup hn ha hw => does_fastLimit h hup hn ha hw
  · exact fun s p k h hu hl hs => does_laneRetry_init h hu hl hs
  · exact fun s p k h hu hup ht hf hb => does_laneRetry_up h hu hup ht hf hb
  · exact fun s p n h hn hw => does_laneWake h hn hw

end Sys2Proof.Machine
end

section
/-! The detectors of the lanes, lane tests, injection and checking (R245, R246, R251 to R254). -/

namespace Sys2Proof.Machine

section
variable {s t u : State} {p k n : Nat}

/-! ### What the loss of a lane leaves -/

/-- The counters of lane `k` that its detectors and its failures count. -/
def laneCounts (p k : Nat) : List Nat := [ofLane p k 0x3005_01, ofLane p k 0x3007_01, ofLane p k 0x3008_01, ofLane p k 0x3009_01]

/-- `t` is `s` after what leaves the counters of lane `k`, and the lane untrained where it was. -/
structure Untrained (p k : Nat) (s t : State) : Prop where
  get : ∀ c ∈ laneCounts p k, get t c = get s c
  untrained : (lane s p k).rxTrained = false → (lane t p k).rxTrained = false
  lanes : HasLanes s p → HasLanes t p

theorem Untrained.refl (s : State) : Untrained p k s s := ⟨fun _ _ => rfl, id, id⟩

theorem Untrained.trans (h : Untrained p k s t) (g : Untrained p k t u) : Untrained p k s u :=
  ⟨fun c hc => (g.get c hc).trans (h.get c hc), fun hs => g.untrained (h.untrained hs), fun hs => g.lanes (h.lanes hs)⟩

theorem untrained_ite {b : Prop} [Decidable b] (ht : Untrained p k s t) (hu : Untrained p k s u) : Untrained p k s (if b then t else u) := by
  split
  · exact ht
  · exact hu

theorem mem_laneCounts {c : Nat} : c ∈ laneCounts p k ↔ ∃ d, (d = 0x3005_01 ∨ d = 0x3007_01 ∨ d = 0x3008_01 ∨ d = 0x3009_01) ∧
    c = ofLane p k d := by
  simp only [laneCounts, List.mem_cons, List.not_mem_nil, or_false]
  constructor
  · rintro (h | h | h | h)
    · exact ⟨_, .inl rfl, h⟩
    · exact ⟨_, .inr (.inl rfl), h⟩
    · exact ⟨_, .inr (.inr (.inl rfl)), h⟩
    · exact ⟨_, .inr (.inr (.inr rfl)), h⟩
  · rintro ⟨d, rfl | rfl | rfl | rfl, h⟩
    · exact .inl h
    · exact .inr (.inl h)
    · exact .inr (.inr (.inl h))
    · exact .inr (.inr (.inr h))

theorem portObject_laneCount {c : Nat} (hp : p < 8) (hk : k < 10) (hc : c ∈ laneCounts p k) : PortObject c := by
  obtain ⟨d, hd, rfl⟩ := mem_laneCounts.mp hc
  unfold PortObject ofLane
  omega

theorem Unwinds.untrained (hp : p < 8) (hk : k < 10) (h : Unwinds s t) : Untrained p k s t := by
  have hl : (port t p).lanes = (port s p).lanes := by
    have hl := congrArg Port.lanes (h.ports p)
    exact hl
  refine ⟨fun c hc => h.get c (portObject_laneCount hp hk hc), fun hs => ?_, fun hs => ⟨by rw [h.count]; exact hs.port, by rw [hl]; exact hs.lanes⟩⟩
  rw [lanes_ext hl]
  exact hs

theorem untrained_of_ports (hp : t.ports = s.ports) (hg : ∀ c ∈ laneCounts p k, get t c = get s c) : Untrained p k s t :=
  ⟨hg, fun h => by rw [lane_congr hp]; exact h, fun h => h.congr hp⟩

theorem untrained_set {c v : Nat} (h : c ∉ laneCounts p k) : Untrained p k s (set s c v) :=
  untrained_of_ports rfl fun _ hd => get_set_ne _ _ fun e => h (e ▸ hd)

theorem untrained_setPort {f : Port → Port} (hl : ∀ x, (f x).lanes.length = x.lanes.length)
    (hf : (nth Lane.reset k (port s p).lanes).rxTrained = false → (nth Lane.reset k (f (port s p)).lanes).rxTrained = false) :
    Untrained p k s (setPort s p f) := by
  refine ⟨fun _ _ => get_setPort .., fun hs => ?_, fun hs => hs.setPort hl⟩
  unfold lane
  rw [port_setPort]
  split
  · exact hf hs
  · exact hs

theorem untrained_setLane {f : Lane → Lane} (j : Nat) (hf : ∀ l, l.rxTrained = false → (f l).rxTrained = false) :
    Untrained p k s (setLane s p j f) := by
  refine ⟨fun _ _ => get_setPort .., fun hs => ?_, fun hs => hs.setLane f⟩
  rw [lane_of_port]
  split
  · exact hf _ hs
  · exact hs

theorem Commands.untrained (h : Commands s t) : Untrained p k s t :=
  ⟨fun c _ => h.get c, fun hs => by rw [h.lane]; exact hs, fun hs => hs.commands h⟩

theorem untrained_queueCmd (record : Nat) (on : Option Nat) : Untrained p k s (queueCmd s p record on) :=
  Commands.untrained (commands_queueCmd ..)

theorem laneCount_ne (hk : k < 10) (hn : n < 10) {c d : Nat} (hc : c ∈ laneCounts p k)
    (hd : d = 0x3000_01 ∨ d = 0x300E_01 ∨ d = 0x3010_01) : c ≠ ofLane p n d := by
  obtain ⟨e, he, rfl⟩ := mem_laneCounts.mp hc
  unfold ofLane
  omega

theorem untrained_setRx (hk : k < 10) (hn : n < 10) (v : Nat) : Untrained p k s (setRx s p n v) :=
  untrained_of_ports rfl fun _ hc => get_set_ne _ _ (laneCount_ne hk hn hc (.inl rfl))

theorem Sends.untrained (hp : p < 8) (hk : k < 10) (h : Sends s t) : Untrained p k s t := h.unwinds.untrained hp hk

theorem Flushed.untrained (hp : p < 8) (hk : k < 10) (h : Flushed s p t) : Untrained p k s t := by
  refine ⟨fun c hc => h.get c (portObject_laneCount hp hk hc) ?_ ?_, fun hs => ?_, fun hs => h.hasLanes hs⟩
  · obtain ⟨d, hd, rfl⟩ := mem_laneCounts.mp hc
    simp only [flushCns, List.mem_cons, List.not_mem_nil, or_false]
    unfold ofLane ofPort
    omega
  · obtain ⟨d, hd, rfl⟩ := mem_laneCounts.mp hc
    unfold ofLane ofPort
    omega
  · rw [lanes_ext (h.lanes p)]
    exact hs

theorem Started.untrained {fast : Bool} (hk : k < 10) (h : Started s p fast t) : Untrained p k s t := by
  refine ⟨fun c hc => h.store c 0 (by decide) ?_, fun hs => ?_, fun _ => h.lanes⟩
  · obtain ⟨d, hd, rfl⟩ := mem_laneCounts.mp hc
    simp only [startCns, laneStates, List.mem_append, List.mem_cons, List.not_mem_nil, or_false, List.mem_map]
    rintro (hm | ⟨n, hn, hm⟩)
    · unfold ofLane ofPort at hm
      omega
    · have := lt_of_mem_lanes hn
      unfold ofLane laneStateCn ofLane at hm
      omega
  · rw [h.lane k hk]
    split
    · rfl
    · exact hs

theorem HeldAt.untrained (hp : p < 8) (hk : k < 10) (h : HeldAt s p t) : Untrained p k s t := by
  refine ⟨fun c hc => h.get c (portObject_laneCount hp hk hc) ?_ ?_, fun hs => ?_, fun hs => ⟨by rw [h.count]; exact hs.port, by rw [h.lanes]; exact hs.lanes⟩⟩
  · obtain ⟨d, hd, rfl⟩ := mem_laneCounts.mp hc
    unfold ofLane ofPort
    omega
  · obtain ⟨d, hd, rfl⟩ := mem_laneCounts.mp hc
    unfold ofLane ofPort
    omega
  · rw [lanes_ext (h.lanes p)]
    exact hs

theorem untrained_flushPort (hp : p < 8) (hk : k < 10) (h : HasLanes s p) : Untrained p k s (flushPort s p) := by
  have hf := flushed_flushLink hp h
  have hfu := hf.untrained (k := k) hp hk
  unfold flushPort
  dsimp only
  split
  · exact hfu.trans ((started_startTraining hp (hf.hasLanes h) false).untrained hk)
  · exact hfu

theorem untrained_holdPort (hp : p < 8) (hk : k < 10) (h : HasLanes s p) : Untrained p k s (holdPort s p) := by
  cases hup : isUp s p with
  | false => rw [holdPort_down hup]; exact .refl s
  | true =>
    have hh := (heldAt_leaves hp h.port).untrained (k := k) hp hk
    rw [holdPort_up hup]
    split
    · exact hh.trans (untrained_flushPort hp hk (hh.lanes h))
    · exact hh

theorem untrained_endTest (hk : k < 10) (hn : n < 10) (status : Nat) : Untrained p k s (endTest s p n status) := by
  by_cases hm : (lane s p n).test = 0
  · unfold endTest
    rw [if_pos hm]
    exact .refl s
  · rw [endTest_eq status hm]
    have hleft : Untrained p k s (testLeft s p n) := by
      obtain ⟨m, hm⟩ : ∃ m, Commands (setLane s p n fun l => { l with test := 0, leaving := m }) (testLeft s p n) :=
        ⟨_, commands_ite (commands_queueCmd ..)⟩
      refine Untrained.trans ?_ (Commands.untrained hm)
      exact untrained_setLane n fun _ h => h
    have hloop : ∀ (a : State) m, Untrained p k a (loopbackLeft a p n m) := fun a m => by
      unfold loopbackLeft
      exact untrained_ite (untrained_set fun hc => laneCount_ne hk hn hc (.inr (.inl rfl)) rfl) (.refl a)
    refine (hleft.trans (hloop (testLeft s p n) (lane s p n).test)).trans ?_
    have hend : EndsAt (loopbackLeft (testLeft s p n) p n (lane s p n).test) (ofLane p n 0x3010_01) _ :=
      endsAt_endInvocation (a := 0) (st := status) (r := 0)
    refine untrained_of_ports (by rw [hend.rest]) fun c hc => hend.store c 0 (by decide) ?_
    rw [List.mem_singleton]
    exact laneCount_ne hk hn hc (.inr (.inr rfl))

theorem Seeks.untrained {reason : Nat} (hp : p < 8) (hk : k < 10) (g : Seeks s p reason t) : Untrained p k s t := by
  have hover : Untrained p k s (searchOver s p) := by
    unfold searchOver
    refine untrained_setPort (fun _ => List.length_map ..) fun h => ?_
    have hn := nth_map_keeps (P := fun l : Lane => l.rxTrained = false) (f := fun l => { l with refused := false }) (fun _ h => h) k _ h
    exact hn
  cases g with
  | rests => exact .refl s
  | @preempts n hn ho =>
    have hr := rxPhys_lt (s := s) (p := p) (mem_candidates hn).1
    refine (untrained_endTest hk hr stPreempted).trans ?_
    unfold reacquire
    refine Untrained.trans ?_ (untrained_setRx hk hr _)
    exact untrained_setLane _ fun _ _ => rfl
  | asks hn =>
    refine Untrained.trans ?_ (untrained_queueCmd ..)
    exact untrained_setPort (fun _ => rfl) fun h => h
  | ends => exact hover
  | told => exact hover.trans (Sends.untrained hp hk (sends_reportPartner ..))

theorem waitSet_notMem (hk : k < 10) : ofPort p 0x2010_02 ∉ laneCounts p k := fun hc => by
  obtain ⟨d, hd, he⟩ := mem_laneCounts.mp hc
  unfold ofPort ofLane at he
  omega

theorem untrained_dropWaitLane (hp : p < 8) (hk : k < 10) (hn : n < 10) (h : HasLanes s p) : Untrained p k s (dropWaitLane s p n) := by
  unfold dropWaitLane
  refine untrained_ite (.refl s) ?_
  dsimp only
  have hset : Untrained p k s (set s (ofPort p 0x2010_02) (setBit (waitSet s p) n false)) := untrained_set (waitSet_notMem hk)
  generalize set s (ofPort p 0x2010_02) (setBit (waitSet s p) n false) = a at hset ⊢
  have hrx : Untrained p k a (if rxState a p (rxPhys a p n) = 2 then setRx a p (rxPhys a p n) 3 else a) :=
    untrained_ite (untrained_setRx hk (rxPhys_lt hn) _) (.refl a)
  generalize (if rxState a p (rxPhys a p n) = 2 then setRx a p (rxPhys a p n) 3 else a) = b at hrx ⊢
  have hb := hset.trans hrx
  exact hb.trans (untrained_ite (untrained_holdPort hp hk (hb.lanes h)) (seeks_seekLane.untrained hp hk))

theorem untrained_loseLane (hp : p < 8) (hk : k < 10) (hn : n < 10) (reason : Nat) (h : HasLanes s p) :
    Untrained p k s (loseLane s p n reason) := by
  have hq : ∀ r on, Untrained p k s (queueCmd s p r on) := fun r on => untrained_queueCmd ..
  unfold loseLane
  dsimp only
  refine untrained_ite ?_ (untrained_ite (untrained_set (waitSet_notMem hk)) (.refl s))
  split
  · exact (hq _ _).trans (untrained_dropWaitLane hp hk hn ((hq _ _).lanes h))
  · exact hq _ _

/-! ### A lane fails -/

/-- A trained lane that is lost. -/
def laneGone (s : State) (p k reason : Nat) : State :=
  setLane s p k fun l => { l with rxTrained := false, lost := l.lost || reason != 3, stage := 0, lock := 0, plates := 0 }

/-- The receiver of a lane that has failed is shown. -/
def laneGoneShown (s : State) (p k reason : Nat) : State :=
  let s := if rxState s p k = 2 && reason = 3 then s else setRx s p k 1
  if get s (ofPort p 0x2050_07) ≤ get s (ofLane p k 0x3009_01) then
    reportPartner (setRx (setLane s p k fun l => { l with rxFailed := true }) p k 7) 0x04 p k
  else s

theorem laneFails_eq (s : State) (p k kind reason : Nat) : ∃ outcome, laneFails s p k kind reason =
    loseLane (laneGoneShown (hardFailure
      (laneGone (set s (ofLane p k 0x3009_01) (min 255 (get s (ofLane p k 0x3009_01) + 1))) p k reason)
      (p + 1) p (0x2600 + lanePlace p k) kind outcome k) p k reason) p (rxPhys s p k) reason := ⟨_, rfl⟩

theorem untrained_laneGoneShown (hp : p < 8) (hk : k < 10) (reason : Nat) : Untrained p k s (laneGoneShown s p k reason) := by
  have hrx : ∀ v, Untrained p k s (setRx s p k v) := fun v => untrained_setRx hk hk v
  have hfail : ∀ a : State, Untrained p k a (reportPartner (setRx (setLane a p k fun l => { l with rxFailed := true }) p k 7) 0x04 p k) := by
    intro a
    refine Untrained.trans ?_ (Sends.untrained hp hk (sends_reportPartner ..))
    refine Untrained.trans ?_ (untrained_setRx hk hk 7)
    exact untrained_setLane k fun _ h => h
  unfold laneGoneShown
  dsimp only
  refine Untrained.trans (t := if rxState s p k = 2 && reason = 3 then s else setRx s p k 1) ?_ (untrained_ite (hfail _) (.refl _))
  exact untrained_ite (.refl s) (hrx 1)

/-- A lane that fails is trained no more, and its failure is counted. -/
structure Fallen (s : State) (p k : Nat) (t : State) : Prop where
  untrained : (lane t p k).rxTrained = false
  counted : get t (ofLane p k 0x3009_01) = min 255 (get s (ofLane p k 0x3009_01) + 1)
  get : ∀ c ∈ laneCounts p k, c ≠ ofLane p k 0x3009_01 → Machine.get t c = Machine.get s c
  lanes : HasLanes t p

theorem fallen_laneFails (hp : p < 8) (hk : k < 10) (h : HasLanes s p) (kind reason : Nat) : Fallen s p k (laneFails s p k kind reason) := by
  obtain ⟨outcome, he⟩ := laneFails_eq s p k kind reason
  have hls : HasLanes (set s (ofLane p k 0x3009_01) (min 255 (get s (ofLane p k 0x3009_01) + 1))) p := h.congr rfl
  have hlane := congrArg Lane.rxTrained (hls.lane_setLane_same hk fun l =>
    { l with rxTrained := false, lost := l.lost || reason != 3, stage := 0, lock := 0, plates := 0 })
  have hgone : (lane (laneGone (set s (ofLane p k 0x3009_01) (min 255 (get s (ofLane p k 0x3009_01) + 1))) p k reason) p k).rxTrained = false := hlane
  have hlg : HasLanes (laneGone (set s (ofLane p k 0x3009_01) (min 255 (get s (ofLane p k 0x3009_01) + 1))) p k reason) p := hls.setLane _
  have hgg : ∀ c, get (laneGone (set s (ofLane p k 0x3009_01) (min 255 (get s (ofLane p k 0x3009_01) + 1))) p k reason) c =
      get (set s (ofLane p k 0x3009_01) (min 255 (get s (ofLane p k 0x3009_01) + 1))) c := fun c => get_setPort ..
  rw [he]
  generalize laneGone (set s (ofLane p k 0x3009_01) (min 255 (get s (ofLane p k 0x3009_01) + 1))) p k reason = a at *
  have hhard := (fails_hardFailure (s := a) (p + 1) p (0x2600 + lanePlace p k) kind outcome k).unwinds.untrained hp hk
  have hb := hhard.trans (untrained_laneGoneShown hp hk reason)
  generalize laneGoneShown (hardFailure a (p + 1) p (0x2600 + lanePlace p k) kind outcome k) p k reason = b at *
  have hc := hb.trans (untrained_loseLane hp hk (rxPhys_lt (s := s) (p := p) hk) reason (hb.lanes hlg))
  refine ⟨hc.untrained hgone, ?_, fun c hm hne => ?_, hc.lanes hlg⟩
  · rw [hc.get _ (by simp [laneCounts]), hgg, get_set_same]
  · rw [hc.get _ hm, hgg, get_set_ne _ _ hne]

/-- A lane whose detector asserts is trained no more. -/
theorem laneLost_leaves (hp : p < 8) (hk : k < 10) (h : HasLanes s p) (kind reason : Nat) :
    (lane (laneLost s p k kind reason) p k).rxTrained = false ∧ HasLanes (laneLost s p k kind reason) p ∧
      (∀ c ∈ laneCounts p k, c ≠ ofLane p k 0x3009_01 → get (laneLost s p k kind reason) c = get s c) ∧
      ((lane s p k).rxTrained = true →
        get (laneLost s p k kind reason) (ofLane p k 0x3009_01) = min 255 (get s (ofLane p k 0x3009_01) + 1)) := by
  unfold laneLost
  split
  · have hf := fallen_laneFails hp hk h kind reason
    exact ⟨hf.untrained, hf.lanes, hf.get, fun _ => hf.counted⟩
  · next hn =>
    have hset : Untrained p k s (setLane s p k fun l => { l with lock := 0, plates := 0 }) := untrained_setLane k fun _ h => h
    have hl := hset.trans (untrained_loseLane hp hk (rxPhys_lt (s := s) (p := p) hk) reason (hset.lanes h))
    exact ⟨hl.untrained (by simpa using hn), hl.lanes h, fun c hc _ => hl.get c hc, fun ht => absurd ht hn⟩

/-! ### The detectors -/

theorem setBit_out {v : Nat} (h : bit v n = false) : setBit v n false = v := by
  refine Nat.eq_of_testBit_eq fun i => ?_
  have hb : bit (setBit v n false) i = _ := bit_setBit ..
  show bit (setBit v n false) i = bit v i
  rw [hb]
  split
  · next e => rw [e, h]
  · rfl

theorem getRow_set_self (s : State) (c : Nat) (d q : Nat) (hq : q < 2 ^ 32) : getRow (set s c (get s c)) d q = getRow s d q := by
  by_cases h : d = c ∧ q = 0
  · obtain ⟨rfl, rfl⟩ := h
    exact get_set_same ..
  · refine getRow_setRow_ne _ _ fun e => h ?_
    have := (catKey_inj hq (by decide)).mp e
    exact this

/-- The end of a lane that carries nothing, and that was not trained. -/
theorem laneLost_idle {kind reason : Nat} (hu : (lane s p k).rxTrained = false) (hk : k < 10) (h : HasLanes s p)
    (hw : bit (waitSet s p) (rxPhys s p k) = false) :
    (lane (laneLost s p k kind reason) p k).lock = 0 ∧ StoreFrame s (laneLost s p k kind reason) [] ∧
      laneLost s p k kind reason = { s with cat := (laneLost s p k kind reason).cat, ports := (laneLost s p k kind reason).ports } := by
  have hl := congrArg Lane.lock (h.lane_setLane_same hk fun l => { l with lock := 0, plates := 0 })
  have hl' : (lane (setLane s p k fun l => { l with lock := 0, plates := 0 }) p k).lock = 0 := hl
  have hrest : setLane s p k (fun l => { l with lock := 0, plates := 0 }) =
    { s with ports := (setLane s p k fun l => { l with lock := 0, plates := 0 }).ports } := rfl
  have hwa : waitSet (setLane s p k fun l => { l with lock := 0, plates := 0 }) p = waitSet s p := get_setPort ..
  unfold laneLost
  rw [hu, if_neg (by decide)]
  generalize setLane s p k (fun l => { l with lock := 0, plates := 0 }) = a at *
  have hst : StoreFrame s a [] := .of_cat (by rw [hrest]) (by rw [hrest])
  unfold loseLane
  rw [hwa, hw, if_neg (by simp)]
  split
  · rw [setBit_out hw, ← hwa]
    refine ⟨hl', hst.trans fun d q hq _ => getRow_set_self a _ d q hq, ?_⟩
    rw [set_eq, hrest]
  · exact ⟨hl', hst, by rw [hrest]⟩

/-- The detector `cn` of lane `k` counts, and the lane is lost. -/
def asserted (s : State) (p k cn kind reason : Nat) : State := laneLost (count32 s (ofLane p k cn)) p k kind reason

theorem asserted_leaves {cn kind reason : Nat} (hcn : cn = 0x3007_01 ∨ cn = 0x3008_01) (h : PortRuns s p) (hk : k < 10) :
    get (asserted s p k cn kind reason) (ofLane p k cn) = (get s (ofLane p k cn) + 1) % 2 ^ 32 ∧
      (lane (asserted s p k cn kind reason) p k).rxTrained = false ∧
      ((lane s p k).rxTrained = false → bit (waitSet s p) (rxPhys s p k) = false →
        (lane (asserted s p k cn kind reason) p k).lock = 0 ∧ StoreFrame s (asserted s p k cn kind reason) [ofLane p k cn] ∧
        asserted s p k cn kind reason =
          { s with cat := (asserted s p k cn kind reason).cat, ports := (asserted s p k cn kind reason).ports }) ∧
      ((lane s p k).rxTrained = true →
        get (asserted s p k cn kind reason) (ofLane p k 0x3009_01) = min 255 (get s (ofLane p k 0x3009_01) + 1)) := by
  have hmem : ofLane p k cn ∈ laneCounts p k := by rcases hcn with rfl | rfl <;> simp [laneCounts]
  have hne : ofLane p k cn ≠ ofLane p k 0x3009_01 := by unfold ofLane; omega
  have hl : HasLanes (count32 s (ofLane p k cn)) p := h.hasLanes.congr rfl
  have hsame := get_count32_same s (ofLane p k cn)
  have hother : ∀ c, c ≠ ofLane p k cn → get (count32 s (ofLane p k cn)) c = get s c := fun c hc => get_count32_ne s hc
  have hrest : count32 s (ofLane p k cn) = { s with cat := (count32 s (ofLane p k cn)).cat } := rfl
  have hlane : lane (count32 s (ofLane p k cn)) p k = lane s p k := rfl
  have hstore : StoreFrame s (count32 s (ofLane p k cn)) [ofLane p k cn] := (StoreFrame.refl _).set _ (by simp)
  unfold asserted
  generalize count32 s (ofLane p k cn) = a at *
  obtain ⟨h1, -, h2, h3⟩ := laneLost_leaves h.lt hk hl kind reason
  refine ⟨(h2 _ hmem hne).trans hsame, h1, fun hu hw => ?_, fun ht => ?_⟩
  · have hp8 := h.lt
    have hphys : rxPhys a p k = rxPhys s p k := rxPhys_congr (hother _ (by unfold ofPort ofLane; omega)) k
    have hwa : waitSet a p = waitSet s p := hother _ (by unfold ofPort ofLane; omega)
    obtain ⟨i1, i2, i3⟩ := laneLost_idle (kind := kind) (reason := reason) (by rw [hlane]; exact hu) hk hl (by rw [hwa, hphys]; exact hw)
    refine ⟨i1, hstore.trans (i2.mono (by simp)), ?_⟩
    rw [i3, hrest]
  · rw [h3 (by rw [hlane]; exact ht), hother _ (Ne.symm hne)]

theorem losAsserts_eq {filler : Bool} (h : portPowered s p = true) (hu : laneUsable s p k = true) (hm : masked s p k = false)
    (hf : (lane s p k).peerState ≠ 4 ∨ filler = true) : losAsserts s p k filler = asserted s p k 0x3007_01 1 1 := by
  unfold losAsserts
  rw [h, hu, hm, if_neg]
  · rfl
  · rcases hf with hf | rfl <;> simp_all

theorem lolAsserts_eq (h : portPowered s p = true) (hu : laneUsable s p k = true) (hm : masked s p k = false) :
    lolAsserts s p k = asserted s p k 0x3008_01 1 2 := by
  unfold lolAsserts
  rw [h, hu, hm]
  rfl

theorem does_detector {cn : Nat} {filler : Bool} {c : Instr}
    (hc : (cn, c) ∈ [(0x3007_01, Instr.losAssert p ⟨k, filler⟩), (0x3008_01, .lolAssert p k)]) (h : PortRuns s p)
    (hu : laneUsable s p k = true) (hm : masked s p k = false) (hf : cn = 0x3007_01 → (lane s p k).peerState ≠ 4 ∨ filler = true) :
    Does (exec c s) fun u =>
      get u (ofLane p k cn) = (get s (ofLane p k cn) + 1) % 2 ^ 32 ∧ (lane u p k).rxTrained = false ∧
      ((lane s p k).rxTrained = false → bit (waitSet s p) (rxPhys s p k) = false →
        (lane u p k).lock = 0 ∧ StoreFrame s u [ofLane p k cn] ∧ u = { s with cat := u.cat, ports := u.ports }) ∧
      ((lane s p k).rxTrained = true → get u (ofLane p k 0x3009_01) = min 255 (get s (ofLane p k 0x3009_01) + 1)) := by
  have hk := laneUsable_lt hu
  simp only [List.mem_cons, Prod.mk.injEq, List.not_mem_nil, or_false] at hc
  rcases hc with ⟨rfl, rfl⟩ | ⟨rfl, rfl⟩
  · exact does_portEvent h (f := fun s => losAsserts s p k filler) rfl (losAsserts_eq h.powered hu hm (hf rfl))
      (asserted_leaves (.inl rfl) h hk)
  · exact does_portEvent h (f := fun s => lolAsserts s p k) rfl (lolAsserts_eq h.powered hu hm) (asserted_leaves (.inr rfl) h hk)

/-! ### A codeword that cannot be corrected -/

/-- What one step leaves of lane `k` but for its lock and its bad frames, or the lane is lost. -/
structure Missed (s : State) (p k : Nat) (t : State) : Prop where
  lanes : HasLanes t p
  counted : get t (ofLane p k 0x3005_01) = get s (ofLane p k 0x3005_01)
  lane : (lane t p k).rxTrained = false ∨ (lane t p k).rxTrained = (Machine.lane s p k).rxTrained ∧
    (Machine.lane t p k).peerInject = (Machine.lane s p k).peerInject ∧ masked t p k = masked s p k

theorem masked_of_lane {l : Lane} (h : lane t p k = l) : masked t p k = (l.peerState == 5 || l.peerState == 6 || l.test == 3) := by
  unfold masked
  rw [h]

theorem missed_fillersMissing (hp : p < 8) (hk : k < 10) (h : HasLanes s p) (m : Nat) : Missed s p k (fillersMissing s p k m) := by
  have ha : ∀ (b : State) (f : Lane → Lane), HasLanes b p → lane (setLane b p k f) p k = f (lane b p k) := fun b f hb => hb.lane_setLane_same hk f
  have hstep : Missed s p k (setLane s p k fun l => { l with badFrames := l.badFrames + m }) := by
    have hl := ha s (fun l => { l with badFrames := l.badFrames + m }) h
    refine ⟨h.setLane _, get_setPort .., .inr ⟨?_, ?_, ?_⟩⟩
    · rw [hl]
    · rw [hl]
    · rw [masked_of_lane hl]
      rfl
  unfold fillersMissing
  dsimp only
  split
  · have hl := ha _ (fun l => { l with badFrames := 0 }) hstep.lanes
    have hb : HasLanes (setLane (setLane s p k fun l => { l with badFrames := l.badFrames + m }) p k fun l => { l with badFrames := 0 }) p :=
      hstep.lanes.setLane _
    have hg : ∀ c, get (setLane (setLane s p k fun l => { l with badFrames := l.badFrames + m }) p k fun l => { l with badFrames := 0 }) c =
        get s c := fun c => (get_setPort ..).trans (get_setPort ..)
    have h0 := ha s (fun l => { l with badFrames := l.badFrames + m }) h
    rw [h0] at hl
    generalize (setLane (setLane s p k fun l => { l with badFrames := l.badFrames + m }) p k fun l => { l with badFrames := 0 }) = b at *
    unfold lolAsserts
    split
    · refine ⟨hb, hg _, .inr ⟨?_, ?_, ?_⟩⟩
      · rw [hl]
      · rw [hl]
      · rw [masked_of_lane hl]
        rfl
    · have hcl : HasLanes (count32 b (ofLane p k 0x3008_01)) p := hb.congr rfl
      obtain ⟨l1, l2, l3, -⟩ := laneLost_leaves hp hk hcl 1 2
      refine ⟨l2, ?_, .inl l1⟩
      rw [l3 _ (by simp [laneCounts]) (by unfold ofLane; omega), get_count32_ne _ (by unfold ofLane; omega), hg]
  · exact hstep

theorem does_uncorrectable {place : Nat} (h : PortRuns s p) (hu : laneUsable s p k = true) :
    Does (exec (.uncorrectableCodeword p ⟨k, place⟩) s) fun u =>
      get u (ofLane p k 0x3005_01) = (get s (ofLane p k 0x3005_01) + 1) % 2 ^ 64 ∧
      ((lane s p k).rxTrained = true → (lane s p k).peerInject = false → masked s p k = false →
        (lane u p k).rxTrained = false ∧
        (place % 1025 ≠ 0 → get u (ofLane p k 0x3009_01) = min 255 (get s (ofLane p k 0x3009_01) + 1))) ∧
      ((lane s p k).peerInject = true → place % 1025 ≠ 0 → (lane u p k).rxTrained = (lane s p k).rxTrained) := by
  have hk := laneUsable_lt hu
  have hp := h.lt
  obtain ⟨a, hadef⟩ : ∃ a, a = light (count64 s (ofLane p k 0x3005_01)) 0xD000_05 64 := ⟨_, rfl⟩
  have hal : HasLanes a p := by rw [hadef]; exact h.hasLanes.congr rfl
  have haports : a.ports = s.ports := by rw [hadef]; rfl
  have hac : get a (ofLane p k 0x3005_01) = (get s (ofLane p k 0x3005_01) + 1) % 2 ^ 64 := by
    rw [hadef]
    exact (get_set_ne _ _ (by unfold ofLane; omega)).trans (get_count64_same ..)
  have ha9 : get a (ofLane p k 0x3009_01) = get s (ofLane p k 0x3009_01) := by
    rw [hadef]
    exact (get_set_ne _ _ (by unfold ofLane; omega)).trans (get_count64_ne _ (by unfold ofLane; omega))
  have halane : lane a p k = lane s p k := lane_congr haports p k
  obtain ⟨b, hbdef⟩ : ∃ b, b = if (lane a p k).lock = 1 && (place ≤ 64 || place = 1025) then
      setLane a p k fun l => { l with lock := 0 } else a := ⟨_, rfl⟩
  have hb : HasLanes b p ∧ (∀ c, get b c = get a c) ∧ ∃ x, lane b p k = { lane s p k with lock := x } := by
    rw [hbdef]
    split
    · exact ⟨hal.setLane _, fun _ => get_setPort .., 0, by rw [hal.lane_setLane_same hk, halane]⟩
    · exact ⟨hal, fun _ => rfl, (lane s p k).lock, halane⟩
  obtain ⟨hbl, hbg, x, hbx⟩ := hb
  obtain ⟨c, hcdef⟩ : ∃ c, c = if place % 1025 = 0 && expectsFillers b p k then fillersMissing b p k (place / 1025) else b := ⟨_, rfl⟩
  have hc : Missed b p k c := by
    rw [hcdef]
    split
    · exact missed_fillersMissing hp hk hbl _
    · exact ⟨hbl, rfl, .inr ⟨rfl, rfl, rfl⟩⟩
  have hplain : place % 1025 ≠ 0 → c = b := fun hpl => by
    rw [hcdef, if_neg (by simp [hpl])]
  have he : badCodeword s p k place =
      if (lane c p k).rxTrained && !(lane c p k).peerInject && !masked c p k then laneFails c p k 0 3 else c := by
    unfold badCodeword
    rw [h.powered, hu, if_neg (by decide), hcdef, hbdef, hadef]
  have hct : (lane b p k).rxTrained = (lane s p k).rxTrained ∧ (lane b p k).peerInject = (lane s p k).peerInject ∧
      masked b p k = masked s p k := by
    refine ⟨by rw [hbx], by rw [hbx], ?_⟩
    rw [masked_of_lane hbx]
    rfl
  have hf := fallen_laneFails hp hk hc.lanes 0 3
  have hc5 : get c (ofLane p k 0x3005_01) = (get s (ofLane p k 0x3005_01) + 1) % 2 ^ 64 := by rw [hc.counted, hbg, hac]
  refine does_portEvent h (f := fun s => badCodeword s p k place) rfl he ⟨?_, fun ht hi hm => ⟨?_, fun hpl => ?_⟩, fun hi hpl => ?_⟩
  · split
    · rw [hf.get _ (by simp [laneCounts]) (by unfold ofLane; omega), hc5]
    · exact hc5
  · split
    · exact hf.untrained
    · next hn =>
      rcases hc.lane with h0 | ⟨h1, h2, h3⟩
      · exact h0
      · rw [h1, h2, h3, hct.1, hct.2.1, hct.2.2, ht, hi, hm] at hn
        exact absurd rfl hn
  · have hcb := hplain hpl
    rw [hcb, hct.1, hct.2.1, hct.2.2, ht, hi, hm, if_pos (by rfl)]
    have hfb := fallen_laneFails hp hk hbl 0 3
    rw [hfb.counted, hbg, ha9]
  · have hcb := hplain hpl
    rw [hcb, hct.2.1, hi, if_neg (by simp), hct.1]

end

end Sys2Proof.Machine
end

section
/-! Lane tests, injections and the checker (R251 to R254). -/

namespace Sys2Proof.Machine

section
variable {s t u : State} {p n : Nat}

/-! ### A test ends -/

theorem lane_testLeft (h : HasLanes s p) (hn : n < 10) : (lane (testLeft s p n) p n).test = 0 := by
  obtain ⟨m, hm⟩ : ∃ m, Commands (setLane s p n fun l => { l with test := 0, leaving := m }) (testLeft s p n) :=
    ⟨_, commands_ite (commands_queueCmd ..)⟩
  have hl := congrArg Lane.test (h.lane_setLane_same hn fun l => { l with test := 0, leaving := m })
  rw [hm.lane]
  exact hl

/-- The state in which the test's invocation is to end. -/
def testOver (s : State) (p n : Nat) : State := loopbackLeft (testLeft s p n) p n (lane s p n).test

theorem testOver_leaves (h : HasLanes s p) (hn : n < 10) : (lane (testOver s p n) p n).test = 0 ∧
    testOver s p n = { s with cat := (testOver s p n).cat, ports := (testOver s p n).ports } := by
  have hleft := lane_testLeft h hn
  have hrest : testLeft s p n = { s with ports := (testLeft s p n).ports } := by
    obtain ⟨m, hm⟩ : ∃ m, Commands (setLane s p n fun l => { l with test := 0, leaving := m }) (testLeft s p n) :=
      ⟨_, commands_ite (commands_queueCmd ..)⟩
    rw [hm.rest]
    rfl
  unfold testOver
  generalize testLeft s p n = a at *
  unfold loopbackLeft
  split
  · exact ⟨hleft, by rw [set_eq, hrest]⟩
  · exact ⟨hleft, by rw [hrest]⟩

theorem endTest_over (status : Nat) (h : (lane s p n).test ≠ 0) :
    endTest s p n status = endInvocation (testOver s p n) (ofLane p n 0x3010_01) 0 status 0 := endTest_eq status h

theorem lane_endTest (h : HasLanes s p) (hn : n < 10) (status : Nat) (ht : (lane s p n).test ≠ 0) :
    (lane (endTest s p n status) p n).test = 0 := by
  rw [endTest_over status ht]
  have hend : EndsAt (testOver s p n) (ofLane p n 0x3010_01) (endInvocation (testOver s p n) (ofLane p n 0x3010_01) 0 status 0) :=
    endsAt_endInvocation
  rw [lane_congr (t := endInvocation (testOver s p n) (ofLane p n 0x3010_01) 0 status 0) (s := testOver s p n) (by rw [hend.rest])]
  exact (testOver_leaves h hn).1

theorem does_laneTestDuration (h : PortRuns s p) (hn : n < 10) (ht : (lane s p n).test ≠ 0) (he : (lane s p n).testEnds = true) :
    Does (exec (.laneTestDurationExpiry p n) s) fun u =>
      (lane u p n).test = 0 ∧
      (latestRuns s (ofLane p n 0x3010_01) 0 → recordsFit s →
        get u (ofLane p n 0x3010_01) = cmdValue 2 stOk 0) := by
  have e : laneTestEnds s p n = endTest s p n stOk := by
    unfold laneTestEnds
    rw [he, if_pos (by simp [ht])]
  refine does_portEvent h (f := fun s => laneTestEnds s p n) rfl e ⟨lane_endTest h.hasLanes hn stOk ht, fun hl hf => ?_⟩
  obtain ⟨-, hrest⟩ := testOver_leaves h.hasLanes hn
  rw [endTest_over stOk ht]
  generalize testOver s p n = a at *
  have hm : a.mgmt = s.mgmt := by rw [hrest]
  have hlog : a.log = s.log := by rw [hrest]
  obtain ⟨v, hv, hlat⟩ := (latestRuns_congr hm (ofLane p n 0x3010_01) 0).mpr hl
  have hfit : recordsFit a := by
    unfold recordsFit
    rw [hm, hlog]
    exact hf
  rw [get_endInvocation hv (.inr hfit), hlat]
  rfl

/-! ### The command -/

section
variable {rq : Requester} {duration : Nat}

theorem leaves_laneTestStop (g : Granted s rq (ofLane p n 0x3010_01) [0, duration]) (hp : p < portsOf s.part) (h8 : s.ports.length = 8)
    (hl : (port s p).lanes.length = 10) (hn : n < 10) (ht : (lane s p n).test ≠ 0) :
    Leaves (exec (.laneTestStop rq p n duration) s) fun u =>
      (lane u p n).test = 0 ∧ get u (ofLane p n 0x3010_01) = cmdValue 2 stOk 0 := by
  have hp8 : p < 8 := hp.trans_le (portsOf_le _)
  have hports : (renewLease s rq).ports = s.ports := renewLease_ports s rq
  have hlr : HasLanes (renewLease s rq) p := (HasLanes.mk (by rw [h8]; exact hp8) hl).congr hports
  have htr : (lane (renewLease s rq) p n).test ≠ 0 := by rw [lane_congr hports]; exact ht
  have e : laneTestOp p n 0 duration (renewLease s rq) = (endTest (renewLease s rq) p n stOk, .done stOk 0) := by
    unfold laneTestOp
    dsimp only
    rw [if_neg (by rw [renewLease_part]; simp; omega), if_neg (by decide), if_pos rfl, if_neg htr]
  have hlane := lane_endTest hlr hn stOk htr
  generalize endTest (renewLease s rq) p n stOk = t at *
  refine leaves_commandAccess g e ⟨?_, get_doneState (by unfold ofLane; omega)⟩
  rw [doneState_eq]
  exact hlane

/-- Lane `n` under test in mode `m`. -/
def underTestLane (m duration : Nat) (asleep : Bool) (l : Lane) : Lane :=
  { l with checker := Checker.reset, gen := 1, flips := 0, test := m, testEnds := duration != 0, waking := l.waking || asleep }

/-- `t` is `s` but for its ports, which keep their lanes' number. -/
structure PortsAlone (s : State) (p : Nat) (t : State) : Prop where
  rest : t = { s with ports := t.ports }
  lanes : HasLanes s p → HasLanes t p

theorem portsAlone_dropIdle : PortsAlone s p (dropIdle s p n) := by
  unfold dropIdle
  dsimp only
  have hset : ∀ f : Port → Port, (∀ x, (f x).lanes = x.lanes) → PortsAlone s p (setPort s p f) := fun f hf =>
    ⟨rfl, fun h => h.setPort fun x => by rw [hf]⟩
  have ha := hset (fun x =>
    { x with cmds := x.cmds.filter fun c => !((recCode c.record == 0x10 || recCode c.record == 0x11) && recLane c.record == n) }) fun _ => rfl
  generalize (setPort s p fun x =>
    { x with cmds := x.cmds.filter fun c => !((recCode c.record == 0x10 || recCode c.record == 0x11) && recLane c.record == n) }) = a at ha ⊢
  split
  · split
    · exact ⟨by rw [ha.rest]; rfl, fun h => (ha.lanes h).setLane _⟩
    · exact ha
  · exact ha

/-- The lane's test begins. -/
def testBegun (s : State) (p n m duration : Nat) : State :=
  let asleep := m ≠ 2 && (txState s p n == 4 || txState s p n == 5)
  let s := if m = 2 then s else dropIdle s p n
  let s := setLane s p n (underTestLane m duration asleep)
  let s := if checks m then set s (ofLane p n 0x300E_01) 1 else s
  if stopsFrames m && isUp s p then queueCmd s p (laneRecord 0x12 n 0 0) none else s

theorem laneTestOp_begins {m : Nat} (hp : p < portsOf s.part) (hn : n < 10) (h0 : m ≠ 0) (h5 : m ≤ 5) (h3 : 3 ≤ m → n = 0 ∨ n = 8 ∨ n = 9)
    (hf : (lane s p n).rxFailed = false) (hpf : (lane s p n).peerFailed = false) (ht : (lane s p n).test = 0)
    (hd : m ≠ 2 → bit (dealSet s p) n = false) (hw : m ≠ 1 → bit (waitSet s p) (rxPhys s p n) = false) :
    laneTestOp p n m duration s = (testBegun s p n m duration, .waits) := by
  have c1 : ¬(portsOf s.part ≤ p || 10 ≤ n) = true := by simp; omega
  have c3 : ¬(3 ≤ m && !(n == 0 || n == 8 || n == 9)) = true := by
    simp only [Bool.and_eq_true, decide_eq_true_eq, Bool.not_eq_true', Bool.or_eq_false_iff, beq_eq_false_iff_ne, not_and]
    intro hm
    have := h3 hm
    omega
  have c4 : ¬((lane s p n).rxFailed || (lane s p n).peerFailed) = true := by rw [hf, hpf]; decide
  have c5 : ¬((lane s p n).test ≠ 0 || (m ≠ 2 && bit (dealSet s p) n) || (m ≠ 1 && bit (waitSet s p) (rxPhys s p n))) = true := by
    by_cases h1 : m = 1 <;> by_cases h2 : m = 2 <;> simp_all
  unfold laneTestOp
  dsimp only
  rw [if_neg c1, if_neg (by omega), if_neg h0, if_neg c3, if_neg c4, if_neg c5]
  rfl

/-- What the start of a lane's test leaves. -/
structure TestBegun (s : State) (p n m duration : Nat) (t : State) : Prop where
  rest : t = { s with cat := t.cat, ports := t.ports }
  test : (lane t p n).test = m
  ends : (lane t p n).testEnds = (duration != 0)
  loopback : get t (ofLane p n 0x300E_01) = if m = 2 ∨ m = 3 ∨ m = 4 then 1 else get s (ofLane p n 0x300E_01)
  store : StoreFrame s t [ofLane p n 0x300E_01]

theorem testBegun_leaves (h : HasLanes s p) (hn : n < 10) (m duration : Nat) : TestBegun s p n m duration (testBegun s p n m duration) := by
  have hidle : PortsAlone s p (if m = 2 then s else dropIdle s p n) := by
    split
    · exact ⟨rfl, id⟩
    · exact portsAlone_dropIdle
  unfold testBegun
  dsimp only
  generalize (decide (m ≠ 2) && (txState s p n == 4 || txState s p n == 5)) = asleep
  generalize (if m = 2 then s else dropIdle s p n) = a at hidle ⊢
  have hlane := (hidle.lanes h).lane_setLane_same hn (underTestLane m duration asleep)
  have hrest : setLane a p n (underTestLane m duration asleep) = { s with ports := (setLane a p n (underTestLane m duration asleep)).ports } := by
    unfold setLane setPort
    rw [hidle.rest]
  generalize setLane a p n (underTestLane m duration asleep) = b at *
  have hgb : ∀ c, get b c = get s c := fun c => getRow_congr (by rw [hrest]) (by rw [hrest]) ..
  obtain ⟨c, hc⟩ : ∃ c, c = if checks m then set b (ofLane p n 0x300E_01) 1 else b := ⟨_, rfl⟩
  have hcp : c.ports = b.ports := by rw [hc]; split <;> rfl
  have hcr : c = { b with cat := c.cat } := by rw [hc]; split <;> rfl
  have hcg : get c (ofLane p n 0x300E_01) = if m = 2 ∨ m = 3 ∨ m = 4 then 1 else get s (ofLane p n 0x300E_01) := by
    rw [hc]
    unfold checks
    by_cases hm : m = 2 ∨ m = 3 ∨ m = 4
    · rw [if_pos hm, if_pos (by simp only [Bool.or_eq_true, beq_iff_eq]; omega), get_set_same]
    · rw [if_neg hm, if_neg (by simp only [Bool.or_eq_true, beq_iff_eq]; omega), hgb]
  have hcs : StoreFrame s c [ofLane p n 0x300E_01] := by
    have hsb : StoreFrame s b [ofLane p n 0x300E_01] := .of_cat (by rw [hrest]) (by rw [hrest])
    rw [hc]
    split
    · exact hsb.set _ (by simp)
    · exact hsb
  rw [← hc]
  have hk : Commands c (if stopsFrames m && isUp c p then queueCmd c p (laneRecord 0x12 n 0 0) none else c) :=
    commands_ite (commands_queueCmd ..)
  generalize (if stopsFrames m && isUp c p then queueCmd c p (laneRecord 0x12 n 0 0) none else c) = d at *
  have hld : lane d p n = underTestLane m duration asleep (lane a p n) := by rw [hk.lane, lane_congr hcp, hlane]
  refine ⟨by rw [hk.rest, hcr, hrest], ?_, ?_, (hk.get _).trans hcg, hcs.trans (.of_cat (by rw [hk.rest]) (by rw [hk.rest]))⟩
  · rw [hld]; rfl
  · rw [hld]; rfl

theorem leaves_laneTest {m : Nat} {c : Instr} (hc : (m, c) ∈ [(1, .laneTestGenerate rq p n duration), (2, .laneTestCheck rq p n duration),
      (3, .laneTestNearSerial rq p n duration), (4, .laneTestNearParallel rq p n duration),
      (5, Instr.laneTestFar rq p n duration)]) (g : Granted s rq (ofLane p n 0x3010_01) [m, duration])
    (hp : p < portsOf s.part) (h8 : s.ports.length = 8) (hl : (port s p).lanes.length = 10) (hn : n < 10)
    (h3 : 3 ≤ m → n = 0 ∨ n = 8 ∨ n = 9) (hf : (lane s p n).rxFailed = false) (hpf : (lane s p n).peerFailed = false)
    (ht : (lane s p n).test = 0) (hd : m ≠ 2 → bit (dealSet s p) n = false) (hw : m ≠ 1 → bit (waitSet s p) (rxPhys s p n) = false) :
    Leaves (exec c s) fun u =>
      (lane u p n).test = m ∧ (lane u p n).testEnds = (duration != 0) ∧
      get u (ofLane p n 0x300E_01) = (if m = 2 ∨ m = 3 ∨ m = 4 then 1 else get s (ofLane p n 0x300E_01)) ∧
      get u (ofLane p n 0x3010_01) = cmdValue 1 0 0 ∧
      (∃ v ∈ u.mgmt.running, v.cn = ofLane p n 0x3010_01 ∧ v.arg = 0) ∧
      StoreFrame s u [ofLane p n 0x300E_01, ofLane p n 0x3010_01, 0x1110_03] := by
  have hm : m ≠ 0 ∧ m ≤ 5 ∧ exec c s = commandAccess s rq (ofLane p n 0x3010_01) [m, duration] 0 (laneTestOp p n m duration) := by
    simp only [List.mem_cons, Prod.mk.injEq, List.not_mem_nil, or_false] at hc
    rcases hc with ⟨rfl, rfl⟩ | ⟨rfl, rfl⟩ | ⟨rfl, rfl⟩ | ⟨rfl, rfl⟩ | ⟨rfl, rfl⟩ <;> exact ⟨by decide, by decide, rfl⟩
  obtain ⟨h0, h5, he⟩ := hm
  rw [he]
  have hp8 : p < 8 := hp.trans_le (portsOf_le _)
  have hports : (renewLease s rq).ports = s.ports := renewLease_ports s rq
  have hg : ∀ c, get (renewLease s rq) c = get s c := renewLease_get rq
  have hlr : HasLanes (renewLease s rq) p := (HasLanes.mk (by rw [h8]; exact hp8) hl).congr hports
  have hlane : lane (renewLease s rq) p n = lane s p n := lane_congr hports p n
  have e := laneTestOp_begins (s := renewLease s rq) (duration := duration) (by rw [renewLease_part]; exact hp) hn h0 h5 h3
    (by rw [hlane]; exact hf) (by rw [hlane]; exact hpf) (by rw [hlane]; exact ht)
    (fun h2 => by unfold dealSet; rw [hg]; exact hd h2)
    (fun h1 => by rw [rxPhys_congr (hg _)]; unfold waitSet; rw [hg]; exact hw h1)
  have hb := testBegun_leaves hlr hn m duration
  generalize testBegun (renewLease s rq) p n m duration = t at *
  have hst : StoreFrame s t [ofLane p n 0x300E_01] :=
    StoreFrame.trans (t := renewLease s rq) (.of_cat (by simp) (by simp)) hb.store
  refine leaves_commandAccess_waits g e ⟨?_, ?_, ?_, get_runsState (by unfold ofLane; omega), ?_, ?_⟩
  · rw [runsState_eq]
    exact hb.test
  · rw [runsState_eq]
    exact hb.ends
  · refine (getRow_runsState (by decide) (by unfold ofLane; omega) (by unfold ofLane; omega)).trans (hb.loopback.trans ?_)
    rw [hg]
  · obtain ⟨v, hv, hc, ha, -⟩ := mem_runsState (s := s) (t := t) (rq := rq) (cn := ofLane p n 0x3010_01) (arg := 0) (xs := [m, duration])
    exact ⟨v, hv, hc, ha⟩
  · exact (hst.mono (by simp)).trans (storeFrame_runsState.mono (by simp))

/-! ### Injection -/

theorem rowWritten_inject (hp : p < 8) (hn : n < 10) (row old : Nat) : rowWritten s (ofLane p n 0x300F_01) row old = s := by
  have hi : ofLane p n 0x300F_01 / 256 = 0x300F + p * 256 := by unfold ofLane; omega
  have hlt : ofLane p n 0x300F_01 < 0x3800_00 := by unfold ofLane; omega
  have hge : 0x3000_00 ≤ ofLane p n 0x300F_01 := by unfold ofLane; omega
  unfold rowWritten
  dsimp only
  rw [hi]
  generalize ofLane p n 0x300F_01 = c at hlt hge ⊢
  have hm : p * 256 % 256 = 0 := Nat.mul_mod_left ..
  simp only [Bool.and_eq_true, Bool.or_eq_true, decide_eq_true_eq]
  rw [if_neg (by omega), if_neg (by omega), if_neg (by omega), if_neg (by omega), if_neg (by omega), if_neg (by omega), if_neg (by omega),
    if_neg (by omega), if_neg (by omega), if_neg (by omega), if_neg (by omega), if_neg (by omega), if_neg (by omega), if_neg (by omega)]

theorem leaves_errorInjectWrite {v : Nat} {o : Obj} (ho : findObj s.part (ofLane p n 0x300F_01) = some o) (hp : p < 8) (hn : n < 10)
    (g : GrantedWrite s rq (ofLane p n 0x300F_01) 0 v) :
    Leaves (exec (.errorInjectWrite rq p n v) s) fun u =>
      get u (ofLane p n 0x300F_01) = storedValue s.part o (ofLane p n 0x300F_01) v ∧
      StoreFrame s u [ofLane p n 0x300F_01, 0x1110_03] ∧
      u = { s with cat := u.cat, log := u.log, mgmt := u.mgmt } := by
  refine leaves_writeAccess g ho fun b u hb hu => ?_
  rw [rowWritten_inject hp hn] at hu
  refine ⟨?_, ((hb.store (by decide)).mono (by simp)).trans (hu.store.mono (by simp)), ?_⟩
  · exact (hu.reads _ 0 (by decide) (by unfold ofLane; omega)).trans hb.written
  · rw [hu.rest, hb.rest]

end

/-- Lane `n` after an injection of `v`. -/
def injectedLane (v : Nat) (l : Lane) : Lane :=
  if bit v 29 then
    { l with injections := l.injections + 1, injectAt := (l.injectAt + 37) % 544
             injected := l.injected ++ [(l.injectAt, fld v 28 24)] }
  else { l with injections := l.injections + 1, flips := if generates l.test then fld v 28 24 else 0 }

theorem injectedLane_injections (v : Nat) (l : Lane) : (injectedLane v l).injections = l.injections + 1 := by
  unfold injectedLane
  split <;> rfl

theorem injects_eq {v : Nat} (h : portPowered s p = true) (hvd : v = get s (ofLane p n 0x300F_01)) (hv : fld v 31 30 = 1 ∨ fld v 31 30 = 2) :
    injects s p n = if fld v 31 30 = 1 then set (setLane s p n (injectedLane v)) (ofLane p n 0x300F_01) (setFld v 31 30 0)
      else setLane s p n (injectedLane v) := by
  unfold injects
  dsimp only
  rw [← hvd, h, if_neg (by simp; omega)]
  rfl

theorem does_errorInjection (h : PortRuns s p) (hn : n < 10)
    (hv : fld (get s (ofLane p n 0x300F_01)) 31 30 = 1 ∨ fld (get s (ofLane p n 0x300F_01)) 31 30 = 2) :
    Does (exec (.errorInjection p n) s) fun u =>
      (lane u p n).injections = (lane s p n).injections + 1 ∧
      fld (get u (ofLane p n 0x300F_01)) 31 30 =
        (if fld (get s (ofLane p n 0x300F_01)) 31 30 = 1 then 0 else fld (get s (ofLane p n 0x300F_01)) 31 30) ∧
      StoreFrame s u [ofLane p n 0x300F_01] ∧ u = { s with ports := u.ports, cat := u.cat } := by
  obtain ⟨v, hvd⟩ : ∃ v, v = get s (ofLane p n 0x300F_01) := ⟨_, rfl⟩
  rw [← hvd] at hv ⊢
  have he : injects s p n = if fld v 31 30 = 1 then set (setLane s p n (injectedLane v)) (ofLane p n 0x300F_01) (setFld v 31 30 0)
      else setLane s p n (injectedLane v) := injects_eq h.powered hvd hv
  have hlane := congrArg Lane.injections (h.hasLanes.lane_setLane_same hn (injectedLane v))
  rw [injectedLane_injections] at hlane
  have hrest : setLane s p n (injectedLane v) = { s with ports := (setLane s p n (injectedLane v)).ports } := rfl
  have hget : get (setLane s p n (injectedLane v)) (ofLane p n 0x300F_01) = v := (get_setPort ..).trans hvd.symm
  generalize setLane s p n (injectedLane v) = a at *
  generalize ofLane p n 0x300F_01 = c at *
  have hst : StoreFrame s a [c] := .of_cat (by rw [hrest]) (by rw [hrest])
  refine does_portEvent h (f := fun s => injects s p n) rfl he ⟨?_, ?_, ?_, ?_⟩
  · split
    · exact (congrArg Lane.injections (lane_congr set_ports p n)).trans hlane
    · exact hlane
  · split
    · rw [get_set_same, fld_setFld_same _ _ _ _ (by decide), Nat.zero_mod]
    · rw [hget]
  · split
    · exact hst.set _ (by simp)
    · exact hst
  · split
    · rw [set_eq, hrest]
    · rw [hrest]

/-! ### The checker -/

theorem does_checkerLock (h : PortRuns s p) (ht : (lane s p n).test ∈ [2, 3, 4]) (h1 : get s (ofLane p n 0x300E_01) = 1) :
    Does (exec (.checkerLock p n) s) fun u =>
      get u (ofLane p n 0x300E_01) = 2 ∧ StoreFrame s u [ofLane p n 0x300E_01] ∧ u = { s with cat := u.cat } := by
  have hc : checks (lane s p n).test = true := by
    simp only [List.mem_cons, List.not_mem_nil, or_false] at ht
    rcases ht with e | e | e <;> rw [e] <;> rfl
  have he : checkerLocks s p n = set s (ofLane p n 0x300E_01) 2 := by
    unfold checkerLocks
    rw [h.powered, hc, h1]
    rfl
  exact does_portEvent h (f := fun s => checkerLocks s p n) rfl he ⟨get_set_same .., (StoreFrame.refl _).set _ (by simp), rfl⟩

theorem does_checkerSyncLoss {bits errors : Nat} (h : PortRuns s p) (h2 : get s (ofLane p n 0x300E_01) = 2) :
    Does (exec (.checkerSyncLoss p n bits errors) s) fun u =>
      get u (ofLane p n 0x300E_01) = 1 ∧
      get u (ofLane p n 0x300C_01) = (get s (ofLane p n 0x300C_01) + bits) % 2 ^ 64 ∧
      get u (ofLane p n 0x300D_01) = (get s (ofLane p n 0x300D_01) + errors) % 2 ^ 64 ∧
      get u (ofLane p n 0x3011_01) = (get s (ofLane p n 0x3011_01) + 1) % 2 ^ 32 ∧
      u = { s with cat := u.cat, ports := u.ports } := by
  obtain ⟨a, ha⟩ : ∃ a, a = setLane s p n fun l => { l with checker := { l.checker with run := 0, window := 0, wrong := 0 } } := ⟨_, rfl⟩
  have hga : ∀ c, get a c = get s c := fun c => by rw [ha]; exact get_setPort ..
  have hra : a = { s with ports := a.ports } := by rw [ha]; rfl
  have he : checkerLoses s p n bits errors =
      count32 (set (checkerCounts a p n bits errors) (ofLane p n 0x300E_01) 1) (ofLane p n 0x3011_01) := by
    unfold checkerLoses
    rw [h.powered, h2, ha]
    rfl
  have hcount : ∀ (b : State) c d w m, d ≠ c → get (count b c w m) d = get b d := fun b c d w m hd => get_set_ne _ _ hd
  have hsame : ∀ (b : State) c w m, get (count b c w m) c = (get b c + m) % 2 ^ w := fun b c w m => get_set_same ..
  refine does_portEvent h (f := fun s => checkerLoses s p n bits errors) rfl he ⟨?_, ?_, ?_, ?_, ?_⟩
  · rw [get_count32_ne _ (by unfold ofLane; omega), get_set_same]
  · unfold checkerCounts
    rw [get_count32_ne _ (by unfold ofLane; omega), get_set_ne _ _ (by unfold ofLane; omega), hcount _ _ _ _ _ (by unfold ofLane; omega),
      hsame, hga]
  · unfold checkerCounts
    rw [get_count32_ne _ (by unfold ofLane; omega), get_set_ne _ _ (by unfold ofLane; omega), hsame, hcount _ _ _ _ _ (by unfold ofLane; omega), hga]
  · unfold checkerCounts
    rw [get_count32_same, get_set_ne _ _ (by unfold ofLane; omega), hcount _ _ _ _ _ (by unfold ofLane; omega),
      hcount _ _ _ _ _ (by unfold ofLane; omega), hga]
  · have hcat : count32 (set (checkerCounts a p n bits errors) (ofLane p n 0x300E_01) 1) (ofLane p n 0x3011_01) =
      { a with cat := (count32 (set (checkerCounts a p n bits errors) (ofLane p n 0x300E_01) 1) (ofLane p n 0x3011_01)).cat } := rfl
    generalize count32 (set (checkerCounts a p n bits errors) (ofLane p n 0x300E_01) 1) (ofLane p n 0x3011_01) = b at *
    rw [hcat, hra]

end

/-- Settles O50: detectors count and cost a trained lane its training, and tests, injections and the checker act. -/
theorem laneDetectorsAndTestsAct : Obligations.LaneDetectorsAndTestsAct := by
  unfold Obligations.LaneDetectorsAndTestsAct
  refine ⟨?_, ?_, ?_, ?_, ?_, ?_, ?_, ?_, ?_⟩
  · exact fun s p k cn filler c hc h hu hm hf => does_detector hc h hu hm hf
  · exact fun s p k place h hu => does_uncorrectable h hu
  · exact fun s rq p n duration g hp h8 hl hn ht => leaves_laneTestStop g hp h8 hl hn ht
  · exact fun s rq p n m duration c hc g hp h8 hl hn h3 hf hpf ht hd hw => leaves_laneTest hc g hp h8 hl hn h3 hf hpf ht hd hw
  · exact fun s p n h hn ht he => does_laneTestDuration h hn ht he
  · exact fun s rq p n v o ho hp hn g => leaves_errorInjectWrite ho hp hn g
  · exact fun s p n h hn hv => does_errorInjection h hn hv
  · exact fun s p n h ht h1 => does_checkerLock h ht h1
  · exact fun s p n bits errors h h2 _ => does_checkerSyncLoss h h2

end Sys2Proof.Machine
end
